-- ==== Sys2Proof/Word.lean ====
section
/-!
DEFINITION. The word types of the model. A management register is 32 or 64 bits wide (R21) and is held in a
64-bit word; memory and packets are bytes (R40). Counts, indices and addresses that are never masked are plain
`Nat`.
-/

namespace Sys2Proof

/-- One byte of a packet, of a message or of memory. -/
abbrev Byte := BitVec 8

/-- A 32-bit word: a register, a coordinate word, a digest, a lane of an accumulator. -/
abbrev W32 := BitVec 32

/-- A 64-bit word: a register, a milestone, an instruction word. -/
abbrev W64 := BitVec 64

/-- Sparse data by key: (key, value) pairs with strictly rising keys. What an unlisted key reads as is said
where the table is used. -/
abbrev Tab (α : Type) := List (Nat × α)

end Sys2Proof
end

