-- ==== Sys2Proof/Syntax.lean ====
section
/-!
DEFINITION. The commands of the block: one constructor of `Instr` for each row of spec/opcode_table.json, with
the operands the row's rule speaks of, and the operand types. A command is what the outside does to the switch (a
packet or link frame that arrives, a register written, a pin that moves) or a moment the spec names (a timeout, the
end of a wipe, the next instruction of a run); notes/assumptions/2.md says how such a moment is a command.
-/

namespace Sys2Proof

/-- A fabric packet (R41): the 64 header bytes, byte n in bits [8n+7:8n], and the payload bytes. -/
structure Packet where
  hdr : BitVec 512
  pay : List Byte
deriving DecidableEq, Repr

/-- A link frame as a receiver holds it after the FEC (R62): its flit slots, 64 bytes each, and its trailer. -/
structure LinkFrame where
  slots   : List (BitVec 512)
  trailer : BitVec 64
deriving DecidableEq, Repr

/-- A lane training frame as a receiver lane holds it (Tables 3.24 to 3.26): the lane, and its control and status word. -/
structure LtfHeard where
  lane   : Fin 8
  ctrl   : BitVec 64
  status : BitVec 64
deriving DecidableEq, Repr

/-- What the FEC corrected in a frame (R66, R76, R80): codewords, and symbols on each of the eight receiver lanes. -/
structure FecCounts where
  codewords : Nat
  symbols   : List Nat
deriving DecidableEq, Repr

/-- Levels at the strap pins of Table 15.1. -/
structure Straps where
  x        : BitVec 6
  y        : BitVec 6
  z        : BitVec 6
  discMode : Bool
  nvmQspi  : Bool
deriving DecidableEq, Repr

/-- The two ways a YMP message is carried (R367). -/
inductive Carrier where
  | ether
  | udp (srcIp : BitVec 128) (srcPort : BitVec 16) (dstPort : BitVec 16) (dstIp : BitVec 128)
deriving DecidableEq, Repr

/-- Codewords that a host port's FEC has corrected, and has found uncorrectable, since the command before of that port (R381).
(DESIGN CHOICE, notes/assumptions/2.md) -/
structure HostFec where
  corr   : Nat
  uncorr : Nat
deriving DecidableEq, Repr

/-- The Ethernet header of a frame that a host port receives (R363, R364): source and destination address, VLAN tag if any; and what
the port's FEC has counted. -/
structure EthHeader where
  src  : BitVec 48
  dst  : BitVec 48
  vlan : Option (BitVec 16)
  fec  : HostFec
deriving DecidableEq, Repr

/-- A YMP message as a host port receives it (Table 16.2): who sent it, to which MAC address, how it was carried, the VLAN
tag if any, its bytes from the header on, and what the port's FEC has counted. -/
structure YmpFrame where
  srcMac : BitVec 48
  dstMac : BitVec 48
  via    : Carrier
  vlan   : Option (BitVec 16)
  bytes  : List Byte
  fec    : HostFec
deriving DecidableEq, Repr

/-- A register block that holds BLOCK_FLT_STATUS (R340). -/
inductive Blk where
  | glb | ecb | cvu | pu (n : Fin 64) | rte | tcu | csq | j (n : Fin 64) | tsc | bpm | msu | hep | nvm | clk
deriving DecidableEq, Repr

/-- A unit that can be disabled (R333): a junction engine or a CSQ slice. -/
inductive DisUnit where
  | engine (n : Fin 64)
  | slice (q : Fin 4)
deriving DecidableEq, Repr

/-- Where a packet's granules stand as it passes through the switch (R33): the packet buffer of the port unit it came in by, the
crossbars and crossings to the port unit it leaves by, its contract's green queue there, and that port unit's datapath. -/
inductive Stage where
  | buffer | crossbar | greenQueue | datapath
deriving DecidableEq, Repr

/-- A granule of the memories and datapaths of R33 other than the tensor store: of a packet on its way at a port unit, of the
table words at a management address (RTE, TCU, CSQ), of an input of a collective, of a descriptor, of the context of a collective,
a step, a combine or a message, of two milestones, of a held WAIT, of an engine's local space, program memory or tile cache, of a
buffer's record, and of MGC SRAM. -/
inductive GMem where
  | packet (stage : Stage) (port : Nat) (src msgId : W32) (idx granule : Nat)
  | word (addr : Nat)
  | staged (group : Nat) (cseq : W32) (input granule : Nat)
  | descriptor (desc : BitVec 128)
  | collective (group : Nat) (cseq : W32)
  | step (table : Nat) (cseq : W32)
  | combine (table : Nat) (cseq : W32) (token : Nat)
  | message (src msgId : W32)
  | milestone (granule : Nat)
  | wait (ms : Nat) (src tag : W32)
  | engineLocal (engine granule : Nat)
  | program (engine granule : Nat)
  | tile (engine row granule : Nat)
  | record (buffer : Nat)
  | mgc (granule : Nat)
deriving DecidableEq, Repr

/-- Errors in memory, each the wrong bits of a code word (R31): those a scrub read finds in granules of the tensor store, and those
that have struck other memories since the last scrub read, which no row of the table has come to be (DESIGN CHOICE, notes/assumptions/68.md). -/
structure MemErrors where
  store  : List (Nat × BitVec 144)
  others : List (GMem × BitVec 144)
deriving DecidableEq, Repr

/-- An IEEE 1588 event message with the time stamps it gives (R380). -/
inductive PtpMsg where
  /-- Sync (with its follow-up for a two-step master): its header, the master's send time and the port's receive stamp. -/
  | sync (eth : EthHeader) (t1 t2 : Nat)
  /-- Delay_Req sent by the port at `t3`. -/
  | delayReq (t3 : Nat)
  /-- Delay_Resp: its header, and the master's receive time of the Delay_Req. -/
  | delayResp (eth : EthHeader) (t4 : Nat)
deriving DecidableEq, Repr

/-- The commands. `port` is a port unit, `host` a host Ethernet port, `engine` and `slot` a junction engine and one
of its run slots. -/
inductive Instr where
  -- pins, clocks and start-up
  /-- RST_N held low for at least 1 µs (R341). -/
  | rstNAssert
  /-- RST_N goes high with these levels on the straps (R344). -/
  | rstNRelease (straps : Straps)
  /-- TEST_EN reads 1 (R399). -/
  | testEnAssert
  /-- A rail falls below its threshold for 1 µs or more (R408). -/
  | undervoltage
  /-- REFCLK is lost (R27, R403). -/
  | refclkLoss
  /-- REFCLK is back and the PLLs have relocked (R27). -/
  | refclkReturn
  /-- The running wipe ends (R286). -/
  | wipeComplete
  /-- The first 2,064 bytes of the copy are read, or the flash did not deliver them (R348). -/
  | imageHeaderRead (flashOk : Bool)
  /-- The section table is read (R348). -/
  | sectionTableRead (flashOk : Bool)
  /-- The whole copy is read (R349). -/
  | imageReadComplete (flashOk : Bool)
  /-- The MGC performs, or polls, its next register record (R350). -/
  | regsRecord
  /-- 100 ms have passed since the write of a COMMIT record that still reads BUSYBIT 1 (R350). -/
  | commitBusyTimeout
  /-- The final checks after the last REGS record (R352). -/
  | finalChecks
  /-- The discovery window expires (R90). -/
  | discoveryWindowClose
  /-- The conditions of fabric-ready hold (R91). -/
  | fabricReady
  /-- A write of GLB_BOOT_CTRL.LATE_GO (R354). -/
  | lateGo
  /-- A write of GLB_BOOT_CTRL.REBOOT (R341). -/
  | reboot
  -- lanes and links
  /-- A receiver lane has found four good LTFs: the far lane number they carry and whether they are inverted (R70). -/
  | laneLock (port : Fin 64) (lane farLane : Fin 8) (inverted : Bool)
  /-- An LTF received on a lane: its control word and its status word (R71, R72). -/
  | equaliseRequest (port : Fin 64) (ltf : LtfHeard)
  /-- 58 ms since EQUALISE began (R71). -/
  | equaliseTimeout (port : Fin 64)
  /-- ALIGN_GO received on every good lane, with the far end's LANE_OK and MAXW (R72). -/
  | dataStart (port : Fin 64) (farLaneOk : BitVec 8) (farMaxw : BitVec 2)
  /-- A HELLO arrives (R87). -/
  | hello (port : Fin 64) (pkt : Packet)
  /-- A HELLO_ACK arrives (R74). -/
  | helloAck (port : Fin 64) (pkt : Packet)
  /-- A DELAY_REQ arrives at root-PLL count `t2` and is answered at `t3` (R75). -/
  | delayReq (port : Fin 64) (pkt : Packet) (t2 t3 : Nat)
  /-- A DELAY_RESP arrives at root-PLL count `t4` to the request sent at `t1` (R75). -/
  | delayResp (port : Fin 64) (pkt : Packet) (t1 t4 : Nat)
  /-- 100 ms have passed: one further delay exchange starts at root-PLL count `t1` (R75). -/
  | delayExchange (port : Fin 64) (t1 : Nat)
  /-- A link frame arrives, with what the FEC corrected in it and the codewords it could not correct (R76, R80). -/
  | linkFrame (port : Fin 64) (frame : LinkFrame) (corrected : FecCounts) (uncorrectable : Nat)
  /-- A lane failure is detected on a receiver lane (R80). -/
  | laneFail (port : Fin 64) (lane : Fin 8)
  /-- A fast retrain ends: whether the two ends found each other, and the far HELLO's LANE_OK and MAXW (R81). -/
  | fastRetrainEnd (port : Fin 64) (ok : Bool) (farLaneOk : BitVec 8) (farMaxw : BitVec 2)
  /-- LTFs found in place of data (R93). -/
  | farRetrainDetect (port : Fin 64)
  /-- A write of PU_LINK_CTRL.RETRAIN (R93). -/
  | linkRetrain (port : Fin 64)
  /-- A write of PU_LINK_CTRL.ACCEPT (R92). -/
  | linkAccept (port : Fin 64)
  /-- A write of PU_LINK_CTRL.DISABLE = 1 (R335). -/
  | linkDisable (port : Fin 64)
  /-- A write of PU_LINK_CTRL.DISABLE = 0 (R68). -/
  | linkEnable (port : Fin 64)
  -- rack time and STOP
  /-- An epoch boundary at root-PLL count `rootTime` (R98). -/
  | epochBoundary (rootTime : Nat)
  /-- An EPOCH packet received at root-PLL count `tRx` (R100). -/
  | epoch (port : Fin 64) (pkt : Packet) (tRx : Nat)
  /-- No boundary or EPOCH in time (R102). -/
  | epochHoldover
  /-- A STOP packet (R105). -/
  | stop (port : Fin 64) (pkt : Packet)
  -- forwarding
  /-- A packet that is not addressed to this switch (R108). -/
  | packetForward (port : Fin 64) (pkt : Packet)
  /-- A packet for this switch with DSVC = 0 (R38). -/
  | endpointDelivery (port : Fin 64) (pkt : Packet)
  /-- A gate cycle of the port unit starts (R134). -/
  | gateCycleStart (port : Fin 64)
  -- messages and the store
  /-- The message (SRC, MSG_ID) has been open past its timeout (R56). -/
  | msgTimeout (src msgId : W32)
  | storeWrite (port : Fin 64) (pkt : Packet)
  /-- Every granule of the complete STORE_WRITE (SRC, MSG_ID) has been written (R275). -/
  | storeWriteEnd (src msgId : W32)
  | storeRead (port : Fin 64) (pkt : Packet)
  /-- The last response packet of the read command (SRC, MSG_ID) is handed to its egress (R277). -/
  | readResponseHanded (src msgId : W32)
  | gather (port : Fin 64) (pkt : Packet)
  | gatherSum (port : Fin 64) (pkt : Packet)
  -- milestones
  /-- The update of the store command (SRC, MSG_ID) reaches the milestone's home (R302). -/
  | milestoneUpdate (src msgId : W32)
  | milestoneAdd (port : Fin 64) (pkt : Packet)
  | milestoneSet (port : Fin 64) (pkt : Packet)
  | milestoneWait (port : Fin 64) (pkt : Packet)
  /-- A register write of MSU_VAL (R302). -/
  | msuValWrite (milestone : BitVec 16) (value : W64)
  -- pools
  | poolAlloc (port : Fin 64) (pkt : Packet)
  | poolShare (port : Fin 64) (pkt : Packet)
  | poolDrop (port : Fin 64) (pkt : Packet)
  | poolFree (port : Fin 64) (pkt : Packet)
  /-- The BPM serves the batch allocation of an expert in a step (R233). -/
  | batchAlloc (table : Fin 64) (cseq : W32) (expert : Nat)
  -- collectives
  | contributeMember (port : Fin 64) (pkt : Packet)
  | stepUp (port : Fin 64) (pkt : Packet)
  | stepDown (port : Fin 64) (pkt : Packet)
  | stepDone (port : Fin 64) (pkt : Packet)
  | stepFin (port : Fin 64) (pkt : Packet)
  | stepAbort (port : Fin 64) (pkt : Packet)
  /-- The switch sends what of collective (group, cseq) is ready (R189, R190). -/
  | upTraffic (group : BitVec 12) (cseq : W32)
  | collFinish (group : BitVec 12) (cseq : W32)
  | collTimeout (group : BitVec 12) (cseq : W32)
  -- experts
  | tokenDispatch (port : Fin 64) (pkt : Packet)
  | gateWeightsReturn (table : Fin 64) (cseq : W32) (token : BitVec 24)
  | sourceSeal (port : Fin 64) (pkt : Packet)
  | switchSealsSend (table : Fin 64) (cseq : W32)
  | switchCopy (port : Fin 64) (pkt : Packet)
  | switchSeal (port : Fin 64) (pkt : Packet)
  | dispatchClose (table : Fin 64) (cseq : W32)
  | expertOutput (port : Fin 64) (pkt : Packet)
  | overcapNotice (port : Fin 64) (pkt : Packet)
  | combineRun (table : Fin 64) (cseq : W32) (token : BitVec 24)
  | combineDone (table : Fin 64) (cseq : W32) (token : BitVec 24)
  | stepTimeout (table : Fin 64) (cseq : W32)
  | combineTimeout (table : Fin 64) (cseq : W32) (token : BitVec 24)
  -- junction engines: the next instruction of the run in a slot
  | runBegin (engine : Fin 64)
  | nop (engine : Fin 64) (slot : Fin 16)
  | halt (engine : Fin 64) (slot : Fin 16)
  | jmp (engine : Fin 64) (slot : Fin 16)
  | br (engine : Fin 64) (slot : Fin 16)
  | loop (engine : Fin 64) (slot : Fin 16)
  | waitm (engine : Fin 64) (slot : Fin 16)
  | waitmResume (engine : Fin 64) (slot : Fin 16)
  | spr (engine : Fin 64) (slot : Fin 16)
  | movi (engine : Fin 64) (slot : Fin 16)
  | salu (engine : Fin 64) (slot : Fin 16)
  | salui (engine : Fin 64) (slot : Fin 16)
  | lds (engine : Fin 64) (slot : Fin 16)
  | ldv (engine : Fin 64) (slot : Fin 16)
  | ldvF (engine : Fin 64) (slot : Fin 16)
  | stv (engine : Fin 64) (slot : Fin 16)
  | dma (engine : Fin 64) (slot : Fin 16)
  /-- The oldest uncompleted DMA of the run completes (R255). -/
  | dmaComplete (engine : Fin 64) (slot : Fin 16)
  | dwait (engine : Fin 64) (slot : Fin 16)
  | recv (engine : Fin 64) (slot : Fin 16)
  | send (engine : Fin 64) (slot : Fin 16)
  | raddFwd (engine : Fin 64) (slot : Fin 16)
  | gfmaSend (engine : Fin 64) (slot : Fin 16)
  | vadd (engine : Fin 64) (slot : Fin 16)
  | vmul (engine : Fin 64) (slot : Fin 16)
  | vfma (engine : Fin 64) (slot : Fin 16)
  | vscale (engine : Fin 64) (slot : Fin 16)
  | vmax (engine : Fin 64) (slot : Fin 16)
  | vmov (engine : Fin 64) (slot : Fin 16)
  | bmsk (engine : Fin 64) (slot : Fin 16)
  | sadd (engine : Fin 64) (slot : Fin 16)
  | fenceAcq (engine : Fin 64) (slot : Fin 16)
  | fenceRel (engine : Fin 64) (slot : Fin 16)
  | madd (engine : Fin 64) (slot : Fin 16)
  | vcrc (engine : Fin 64) (slot : Fin 16)
  /-- Every write of the halted register-started run has completed (R265). -/
  | runDone (engine : Fin 64)
  | runWatchdog (engine : Fin 64) (slot : Fin 16)
  /-- A write of J_RUN_CTRL with START = 1 (R265). -/
  | runStart (engine : Fin 64) (value : W32)
  | programLoad (engine : Fin 64) (pid : BitVec 8)
  | programUnload (engine : Fin 64) (pid : BitVec 8)
  | jExcClr (engine : Fin 64) (value : W32)
  | tscExcClr (value : W32)
  -- disabling
  | engineDisable (engine : Fin 64)
  | engineForce (engine : Fin 64)
  | engineEnable (engine : Fin 64)
  /-- A write of CSQ_DIS_CTRL.DISABLE with FORCE = 0 (R333). -/
  | sliceDisable (mask : BitVec 4)
  | sliceForce (mask : BitVec 4)
  | sliceEnable (mask : BitVec 4)
  | unitDrained (unit : DisUnit)
  -- gates, signposts and contracts
  | gateSwap (port : Fin 64)
  | rteHold (value : W32)
  | swapSign
  | swapCpath
  | shadowCopyEnd
  | contractWrite (contract : BitVec 12)
  | contractDelete (contract : BitVec 12)
  /-- A write of TCU_CFG (R129). -/
  | ctcMaskWrite (value : W32)
  -- group, descriptor and expert tables
  | groupWrite (group : BitVec 12)
  | groupDelete (group : BitVec 12)
  | descRegister
  | descRemove
  | tableWrite (table : Fin 64)
  | tableDelete (table : Fin 64)
  | park
  | resume
  | reconf
  | forceFree (handle : W32)
  | startGateOpen
  -- faults and restart
  | blockFltInject (blk : Blk) (bits : W64)
  | mgcWatchdog
  /-- A write of GLB_RESTART with GO = 1 and HALT = 0 (R337). -/
  | restartGo (wipe : Bool)
  | restartHalt
  | restartEnd
  -- safety partition and flash
  /-- One reading of the 28 sensors, in 1/16 °C (R411). -/
  | thermalReading (temps : List (BitVec 16))
  /-- A power window ends with this average, in watts (R412). -/
  | powerWindowEnd (watts : Nat)
  /-- One scrub read of `count` granules from granule `first`, with the errors it meets (R285). -/
  | scrubStep (first count : Nat) (found : MemErrors)
  | refresh (channel : Fin 192)
  | provision
  | addKey
  | revokeKey
  | deploy
  | retire
  | raiseSvn
  | sapSet
  | nvmRead
  | nvmErase
  | nvmProgram
  -- counters and check values
  | snapshotNow
  | cvuCfgWrite (unit : Fin 8) (value : W32)
  | cvuInit (unit : Fin 8)
  | cvuFeedB (unit : Fin 8) (value : BitVec 8)
  | cvuFeedH (unit : Fin 8) (value : BitVec 16)
  | cvuFeedW (unit : Fin 8) (value : W32)
  | cvuValWrite (unit : Fin 8) (value : W64)
  -- management protocol
  | ympRead (host : Fin 2) (msg : YmpFrame)
  | ympWrite (host : Fin 2) (msg : YmpFrame)
  /-- A write by the MGC over the management bus, of `width` bytes. -/
  | registerWrite (addr : W32) (width : Nat) (value : W64)
  | eventAck (host : Fin 2) (msg : YmpFrame)
  | eventRetry
  | bulkWr (host : Fin 2) (msg : YmpFrame)
  | bulkRd (host : Fin 2) (msg : YmpFrame)
  | bulkIdle (session : BitVec 8) (xid : W32)
  | bulkTimeout (session : BitVec 8) (xid : W32)
  /-- A write of HEP_SESS_CTRL with OP = OPEN; `authenticated` says whether an ACTIVE session signed it (R370). -/
  | sessionOpen (slot : Fin 4) (authenticated : Bool)
  | sessionConfirm (slot : Fin 4) (authenticated : Bool)
  | sessionClose (slot : Fin 4) (authenticated : Bool)
  | attest
  /-- An ICMPv6 Neighbor Solicitation or Echo Request (R365), with the header of its frame. -/
  | neighborSolicitation (host : Fin 2) (eth : EthHeader) (srcIp target : BitVec 128)
  | echoRequest (host : Fin 2) (eth : EthHeader) (srcIp dstIp : BitVec 128) (data : List Byte)
  | ptpMessage (host : Fin 2) (msg : PtpMsg)
  /-- A write of HEP_CFG (R366). -/
  | auiSelect (value : W32)
  | auiTryTimeout (host : Fin 2)
  -- rows that stand at the end of the table
  /-- A frame time of the port transmitter, at gate offset `t` in units of 10 ps (R63, R136). -/
  | linkFrameTransmit (port : Fin 64) (t : Nat)
  | laneUnlock (port : Fin 64) (lane : Fin 8)
  /-- The measured bit error ratio of a receiver lane crosses 10⁻⁵ (R71). -/
  | rxReady (port : Fin 64) (lane : Fin 8) (ready : Bool)
  | railsAboveThreshold
  | testEnRelease
  | serdesPllLock
  | hostPcsLock (host : Fin 2)
  | hostLinkLoss (host : Fin 2)
  | groupCommitEnd
  | tableCommitEnd
  | programLoadEnd (engine : Fin 64)
  | parkComplete
  | resumeComplete
  | attestationDone
  | sapRequestDone
  /-- The running flash operation ends; `ok` is false for a flash error (R361). -/
  | nvmOperationDone (ok : Bool)
deriving DecidableEq, Repr

end Sys2Proof
end

