-- ==== Sys2Proof/Decode.lean ====
section
/-!
DEFINITION. The decoder of the block's commands from table words. No row of spec/opcode_table.json gives bits, so no
word spells a command.
-/

namespace Sys2Proof

/-- The command a word spells by the bits of spec/opcode_table.json: every row's bits are empty, so there is none. -/
def decodeTableWord (_nbits _w : Nat) : Option Instr := none

end Sys2Proof
end

