-- ==== Sys2Proof/Machine/Tab.lean ====
section
/-!
DEFINITION. Sparse tables with strictly rising keys, and cells of memory. A table is a list of (key, value) pairs; a
memory is such a list that also omits every byte equal to what an unlisted address reads as, so that equal memories
are equal data.
-/

namespace Sys2Proof.Machine

variable {α β : Type}

/-- The value listed under key `k`. -/
def tabGet (t : List (Nat × α)) (k : Nat) : Option α :=
  match t with
  | [] => none
  | (k', v) :: r => if k' = k then some v else tabGet r k

/-- The value listed under key `k`, or `d`. -/
def tabOr (t : List (Nat × α)) (k : Nat) (d : α) : α := (tabGet t k).getD d

/-- `t` with `v` listed under key `k`. -/
def tabSet (t : List (Nat × α)) (k : Nat) (v : α) : List (Nat × α) :=
  match t with
  | [] => [(k, v)]
  | (k', v') :: r => if k < k' then (k, v) :: (k', v') :: r else if k = k' then (k, v) :: r else (k', v') :: tabSet r k v

/-- `t` with nothing listed under key `k`. -/
def tabDel (t : List (Nat × α)) (k : Nat) : List (Nat × α) := t.filter (fun e => e.1 != k)

/-- Keys strictly rising. -/
def tabSorted (t : List (Nat × α)) : Bool :=
  match t with
  | [] => true
  | [_] => true
  | (a, _) :: (b, w) :: r => decide (a < b) && tabSorted ((b, w) :: r)

/-- Adds `n` to the count under key `k` (unlisted counts are 0). -/
def tabAdd (t : List (Nat × Nat)) (k n : Nat) : List (Nat × Nat) := tabSet t k (tabOr t k 0 + n)

/-- Takes `n` from the count under key `k`. -/
def tabSub (t : List (Nat × Nat)) (k n : Nat) : List (Nat × Nat) := tabSet t k (tabOr t k 0 - n)

/-- Appends `v` to a list that is used as a set. -/
def setAdd [DecidableEq α] (l : List α) (v : α) : List α := if l.contains v then l else l ++ [v]

/-- The elements of `l` in positions `i` to `i + n − 1`. -/
def slice (l : List α) (i n : Nat) : List α := (l.drop i).take n

/-- `l` with the elements of `v` put over those from position `i` on; positions past the end are not added. -/
def overlay (l : List α) (i : Nat) (v : List α) : List α := l.take i ++ v.take (l.length - i) ++ l.drop (i + v.length)

/-- The byte at `a`: `d` where nothing is listed. -/
def cellGet (d : Byte) (m : List Host.Cell) (a : Nat) : Byte := tabOr m a d

/-- Byte `b` written at `a`; a byte equal to `d` is not listed. -/
def cellPut (d : Byte) (m : List Host.Cell) (a : Nat) (b : Byte) : List Host.Cell :=
  if b = d then tabDel m a else tabSet m a b

/-- `n` bytes from `a` on. -/
def cellRead (d : Byte) (m : List Host.Cell) (a n : Nat) : List Byte := (List.range n).map (fun i => cellGet d m (a + i))

/-- The bytes `bs` written from `a` on. -/
def cellWrite (d : Byte) (m : List Host.Cell) (a : Nat) (bs : List Byte) : List Host.Cell :=
  match bs with
  | [] => m
  | b :: r => cellWrite d (cellPut d m a b) (a + 1) r

/-- The bytes in `[a, a + n)` set to `d`. -/
def cellClear (m : List Host.Cell) (a n : Nat) : List Host.Cell := m.filter (fun e => !(decide (a ≤ e.1) && decide (e.1 < a + n)))

/-- Memory in its canonical form: addresses strictly rising, no byte equal to what an unlisted address reads as. -/
def Memory.wf (d : Byte) (m : List Host.Cell) : Bool := tabSorted m && m.all (fun e => e.2 != d)

/-- A little-endian number of the bytes `bs` (R40). -/
def leNat (bs : List Byte) : Nat :=
  match bs with
  | [] => 0
  | b :: r => b.toNat + 256 * leNat r

/-- `v` in `n` bytes, little-endian. -/
def leBytes (n v : Nat) : List Byte :=
  match n with
  | 0 => []
  | n + 1 => BitVec.ofNat 8 v :: leBytes n (v / 256)

/-- Byte list cut into pieces of `n`; `fuel` bounds their number. -/
def chunksOf (n : Nat) (fuel : Nat) (l : List α) : List (List α) :=
  match fuel with
  | 0 => []
  | f + 1 => if l.isEmpty then [] else l.take n :: chunksOf n f (l.drop n)

/-- Bits `[hi:lo]` of `v`. -/
def bits (v hi lo : Nat) : Nat := v / 2 ^ lo % 2 ^ (hi + 1 - lo)

/-- Bit `n` of `v`. -/
def bit (v n : Nat) : Bool := v.testBit n

/-- `b` as a number. -/
def b2n (b : Bool) : Nat := if b then 1 else 0

/-- `v` as a two's complement number of `w` bits. -/
def signed (w v : Nat) : Int := if v % 2 ^ w < 2 ^ (w - 1) then (v % 2 ^ w : Nat) else ((v % 2 ^ w : Nat) : Int) - (2 ^ w : Nat)

/-- Population count of the low `n` bits. -/
def popcount (n v : Nat) : Nat := ((List.range n).filter (fun i => v.testBit i)).length

/-- The bit numbers set in the low `n` bits, rising. -/
def bitsSet (n v : Nat) : List Nat := (List.range n).filter (fun i => v.testBit i)

/-- `⌈a / b⌉`. -/
def ceilDiv (a b : Nat) : Nat := (a + b - 1) / b

/-- Saturating add at 2⁶⁴ − 1. -/
def satAdd64 (a : W64) (n : Nat) : W64 := BitVec.ofNat 64 (min (a.toNat + n) 0xFFFFFFFFFFFFFFFF)

end Sys2Proof.Machine
end

