-- ==== Sys2Proof/Machine/Crc.lean ====
section
/-!
DEFINITION. The cyclic redundancy checks of Table 17.4; CRC-32C also guards headers (R42), payloads, link frames (R62),
descriptors and programs.
-/

namespace Sys2Proof.Machine

/-- One bit of a reflected CRC: shift right, fold in the reflected polynomial. -/
def crcBitR (w : Nat) (poly : BitVec w) (c : BitVec w) : BitVec w := if c.getLsbD 0 then (c >>> 1) ^^^ poly else c >>> 1

/-- One byte into a reflected CRC. -/
def crcByteR (w : Nat) (poly : BitVec w) (c : BitVec w) (b : Byte) : BitVec w :=
  (List.range 8).foldl (fun c _ => crcBitR w poly c) (c ^^^ b.setWidth w)

/-- One bit of a CRC that is not reflected. -/
def crcBitL (w : Nat) (poly : BitVec w) (c : BitVec w) : BitVec w := if c.getLsbD (w - 1) then (c <<< 1) ^^^ poly else c <<< 1

/-- One byte into a CRC that is not reflected. -/
def crcByteL (w : Nat) (poly : BitVec w) (c : BitVec w) (b : Byte) : BitVec w :=
  (List.range 8).foldl (fun c _ => crcBitL w poly c) (c ^^^ (b.setWidth w <<< (w - 8)))

/-- The running register of CRC-32C after one more byte. -/
def crc32cByte (c : W32) (b : Byte) : W32 := crcByteR 32 0x82F63B78 c b

/-- The running register of CRC-32C after `bs`. -/
def crc32cRun (c : W32) (bs : List Byte) : W32 := bs.foldl crc32cByte c

/-- CRC-32C of `bs` (Table 17.4, POLY 0). -/
def crc32c (bs : List Byte) : W32 := crc32cRun 0xFFFFFFFF bs ^^^ 0xFFFFFFFF

/-- The running register of the CRC chosen by POLY, after one byte; it stands in bits [W − 1:0] (R389). -/
def cvuByte (poly : Nat) (c : W64) (b : Byte) : W64 :=
  if poly = 0 then (crc32cByte (c.setWidth 32) b).setWidth 64
  else if poly = 1 then (crcByteR 32 0xEDB88320 (c.setWidth 32) b).setWidth 64
  else if poly = 2 then (crcByteL 16 0x1021 (c.setWidth 16) b).setWidth 64
  else crcByteL 64 0x42F0E1EBA9EA3693 c b

/-- Initial value of the CRC chosen by POLY (Table 17.4). -/
def cvuInitial (poly : Nat) : W64 := if poly < 2 then 0xFFFFFFFF else if poly = 2 then 0xFFFF else 0

/-- Final XOR of the CRC chosen by POLY. -/
def cvuFinalXor (poly : Nat) : W64 := if poly < 2 then 0xFFFFFFFF else 0

/-- Mask of the CRC's width. -/
def cvuMask (poly : Nat) : W64 := if poly < 2 then 0xFFFFFFFF else if poly = 2 then 0xFFFF else 0xFFFFFFFFFFFFFFFF

end Sys2Proof.Machine
end

