-- ==== Sys2Proof/Config.lean ====
section
/-!
DEFINITION. The values the spec leaves open, as constants without a body: nothing can be proved of their value. The
ones that are drawn anew each time are applied to the counter `State.fresh`. notes/assumptions/6.md and 7.md.
-/

namespace Sys2Proof.Config

/-- An entropy word of the SAP's source (R374, Table 15.17). -/
opaque entropy : Nat → W64

/-- Which of several offending elements' reports reaches the home CSQ slice first, when DET_STRICT is 0 (R171). -/
opaque firstReport : Nat → Nat

/-- Set of the tile cache that a store row uses, of 64 (Table 10.1, R254). -/
opaque tileSet : Nat → Nat

/-- The correction the PTP servo makes to HEP_TIME, in sevenths of a nanosecond (R380). -/
opaque ptpServo : Nat → Int

/-- Set of the row cache that a store row uses within its slice, of 256 (R281). -/
opaque rowSet : Nat → Nat

/-- The request a receiver lane makes of the far transmitter (R71): tap, move, and whether it is to precode. -/
opaque eqRequest : Nat → BitVec 2 × BitVec 2 × Bool

/-- Sensor and firmware dependent content of an event that the spec does not fix. -/
opaque firmwareWord : Nat → W64

/-- For an error of three or more symbols or bits, whether its syndrome equals that of a one-symbol error, and then the data
bits that are wrong once that symbol is corrected (R31): the code's check matrix is not given. -/
opaque aliased : BitVec 144 → Option (BitVec 128)

/-- The owners a buffer's record names after an error that was corrected to wrong data, from the data bits that are wrong and the
owners as they were: the record's layout is open (R31, R320; notes/assumptions/68.md). -/
opaque recordOwners : BitVec 128 → List W32 → List W32

/-- What a context or a held WAIT says after an error that was corrected to wrong data, from the data bits that are wrong and what it
said: the layout of these records is open (R31; notes/assumptions/68.md). -/
opaque misread {α : Type} [Inhabited α] : BitVec 128 → α → α

/-- Yalora's manufacturer code in IDCODE (R400), whose value the spec does not give. -/
opaque makerCode : BitVec 11

/-- Bits of the JTAG instruction register, and the codes of the instructions by their number in `tapInstrs` (R400); the levels at the
boundary-scan cells, in the chain's order; and what the access port of R355 has ready to shift out: the spec gives none of them
(notes/assumptions/74.md). -/
opaque tapCodeLen : Nat
opaque tapCode : Nat → List Bool
opaque boundaryPins : Nat → List Bool
opaque jtagPort : Nat → List Bool

/-- The cells of the boundary-scan chain (R400): the one that drives output pad `k` and the one that enables its driver, if it has one,
and the one that drives the transmitter of fabric or host lane `k`. The chain's order is the part's (notes/assumptions/74.md). -/
opaque padCell : Nat → Nat
opaque padEnable : Nat → Option Nat
opaque laneCell : Nat → Nat

/-- SHAKE256 with 64 bytes of output (R346, R358, R374). -/
opaque shake256 : List Byte → List Byte

/-- KMAC256: key, message, customisation string, output bytes (R349, R370, R371). -/
opaque kmac256 : List Byte → List Byte → List Byte → Nat → List Byte

/-- Falcon-512 or Falcon-1024 signature verification: key, message, signature (R346, R358). -/
opaque falconVerify : List Byte → List Byte → List Byte → Bool

/-- The attestation signature over a message (R374). -/
opaque falconSign : List Byte → List Byte → Nat → List Byte

/-- The attestation public key made from a seed (R374). -/
opaque falconPub : List Byte → List Byte

end Sys2Proof.Config
end

