-- ==== Sys2Proof/Machine/State.lean ====
section
/-!
DEFINITION. The state of one Ragibex switch, as plain data, and its value after reset.

Every register of Tables 19.2 to 19.16 lives in ONE sparse register file, `State.csr`, keyed by its management
address (an address not listed holds the reset value of its table, `Reg.reset`); the registers whose value is a count
or a view of other state are computed where they are read (`State.readReg`). Beside it stand the memories and the
working state the spec gives each block: ports and links, the routing pointers, message contexts, collectives,
expert steps, junction engines, pools, the host ports, the safety partition's fuses, the flash and the pins.
-/

namespace Sys2Proof.Machine

/-- Why the block would stop. No command of this block stops it: the spec gives every row an effect, so nothing
raises this constructor; it is here because the outcome type needs a fault type. Safe. -/
inductive Fault where
  /-- Raised by nothing. -/
  | none
deriving DecidableEq, Repr

/-- Why a command is refused. -/
inductive Refusal where
  /-- A command whose meaning is not written yet, by its mnemonic; raised only by an arm of `exec`. Safe: the model
  stops where the hardware goes on. -/
  | notModelled (mnemonic : String)
deriving DecidableEq, Repr

/-- Link states (Table 3.2). -/
inductive LinkState where
  | disabled | detect | equalise | align | exchange | up | isolated | heldDown | retrain
deriving DecidableEq, Repr

/-- Discovery status (Table 3.6). -/
inductive Disc where
  | pending | ok | missing | unexpected | swapped | misplaced | miswired | modeConflict
deriving DecidableEq, Repr

/-- A receiver lane (R70, R71), with the request its control word carries: tap, move, number, and whether it asks the far
transmitter to precode. -/
structure RxLane where
  locked   : Bool
  inverted : Bool
  farLane  : Nat
  ready    : Bool
  tap      : BitVec 2
  req      : BitVec 2
  rseq     : BitVec 8
  precode  : Bool
deriving DecidableEq, Repr

/-- A transmitter lane: tap magnitudes, precoding, and the answer in its LTF status word (R71, Table 3.26). -/
structure TxLane where
  pre2      : Nat
  pre1      : Nat
  post1     : Nat
  precoding : Bool
  rseq      : BitVec 8
  result    : BitVec 2
deriving DecidableEq, Repr

/-- What the far end said of itself in HELLO or HELLO_ACK (Table 3.4). -/
structure HelloInfo where
  fabverMax : Nat
  maxw      : Nat
  ident     : W32
  side      : Nat
  role      : Nat
  dir       : Nat
  laneOk    : BitVec 8
  dmode     : Nat
deriving DecidableEq, Repr

/-- A packet queued at an egress: the contract whose green queue holds it, if it is green there (R138), when its hop started
(R144), the port unit it came in by, if any (R384), whether it has been recorded as an overrun, how often a frame with a flit of it
was sent before a full training put it back in its queue, and whether its last flit had been sent then (R146). -/
structure QPkt where
  pkt      : Packet
  green    : Option Nat
  hopStart : Nat
  ing      : Option Nat
  late     : Bool
  sends    : Nat
  out      : Bool
deriving DecidableEq, Repr

/-- A packet in a receive buffer, with the CCLK cycle its header was accepted in (R144), the credits of its channel it holds:
none for a link-local or a green packet (R64, R132), and whether it came when its channel's half was full, so that it is dropped
if it proves yellow (R132). -/
structure RxPkt where
  pkt  : Packet
  at_  : Nat
  held : Nat
  past : Bool
deriving DecidableEq, Repr

/-- A frame of the replay buffer (R78): how often it was sent, each packet that has a flit in it (R83, R89, R123, R146), and
the ACKSEQ it carries however late it is sent, which the first frame of a training has (R93). -/
structure SentFrame where
  frame  : LinkFrame
  sends  : Nat
  cargo  : List QPkt
  ack    : Option (BitVec 8)
deriving DecidableEq, Repr

/-- The working state of one port unit. -/
structure Port where
  link       : LinkState
  /-- The state a fast retrain returns to (R81). -/
  resumeTo   : LinkState
  /-- The link has been UP since the port last began training from nothing (R93). -/
  wasUp      : Bool
  /-- The link has been UP since the chip reset (R44, R46, R73). -/
  everUp     : Bool
  width      : Nat
  fabver     : Nat
  /-- Receiver lanes marked failed (R80). -/
  failed     : BitVec 8
  laneUse    : BitVec 8
  disc       : Disc
  /-- Role and direction the port trains with (R67). -/
  role       : Nat
  dir        : Nat
  /-- MAXW the port trains with (R107). -/
  maxw       : Nat
  swapPeer   : Nat
  rx         : List RxLane
  tx         : List TxLane
  /-- LANE_OK as this end's LTFs carried it at the data start (R72). -/
  saidOk     : BitVec 8
  /-- Receiver lanes on which ALIGN_GO has arrived (R72). -/
  goSeen     : BitVec 8
  farLaneOk  : BitVec 8
  farMaxw    : BitVec 2
  far        : Option HelloInfo
  /-- Fast retrains in a row that failed (R83). -/
  retrains   : Nat
  /-- Width at which each slot was last checked (R150). -/
  slotWidth  : Tab Nat
  /-- The last eight one-way delays measured, newest first (R75). -/
  delays     : List Int
  /-- Packets started in a window, by contract × 512 + slot × 2 + 1 for a window of the next gate cycle (R138). -/
  winSent    : Tab Nat
  /-- LTFs sent on each lane since DETECT (R70, R72). -/
  ltfs       : Nat
  -- link frames
  txSeq      : BitVec 8
  replay     : List SentFrame
  /-- Frames of `replay` still to be sent again (R77). -/
  resend     : Nat
  rxSeq      : BitVec 8
  /-- The replay buffer as a full training found it, until the far end's first frame says what of it arrived (R93). -/
  kept       : List SentFrame
  /-- FSEQ last received while the link was last UP (R93). -/
  rxOld      : BitVec 8
  /-- In this training a frame has been sent, and one has been received. -/
  opened     : Bool
  begun      : Bool
  nak        : Bool
  /-- NAKs received in a row for one frame, and sent in a row for one (R80). -/
  nakRun     : Nat
  nakSent    : Nat
  /-- FSEQ of the whole frame last discarded since the last good one (R77, R80). -/
  nakLast    : Option (BitVec 8)
  /-- Symbols corrected in the last millisecond: (CCLK cycle, receiver lane, symbols) (R80). -/
  laneCorr   : List (Nat × Nat × Nat)
  /-- The test frame of R75 that is not acknowledged yet: its FSEQ and the CCLK cycle in which it was sent. -/
  test       : Option (BitVec 8 × Nat)
  /-- Frames sent since the data start, oldest first: what the lanes carry (R66). -/
  sent       : List LinkFrame
  rxPart     : List (BitVec 512)
  /-- The CCLK cycle in which the header flit in `rxPart` was accepted (R144). -/
  rxPartAt   : Nat
  txPart     : List (BitVec 512)
  /-- The packet whose flits are in `txPart`. -/
  txPartOf   : Option QPkt
  /-- Received packets that wait to be handled. -/
  rxq        : List RxPkt
  /-- Credits of 8 flits by channel, TC + 8 × DL (R64): held for sending, held by received packets, to be returned,
  and to be withheld from coming returns (R318). -/
  txCred     : Tab Nat
  rxHeld     : Tab Nat
  rxOwed     : Tab Nat
  withhold   : Tab Nat
  /-- Of the credits owed, those of green packets, which the next trailers return (R132). -/
  rxGreen    : Tab Nat
  /-- The allowance A of a channel as the link's last training found it (R65). -/
  allow      : Nat
  /-- The link has not been UP since its training began: its full allowance is due when it is (R64). -/
  owesAll    : Bool
  linkLocal  : List Packet
  egress     : List QPkt
deriving DecidableEq, Repr

/-- How a run was started (R246). -/
inductive RunOrigin where
  /-- by J_RUN_CTRL -/
  | register
  /-- run `idx` of the four of a collective on its engine (R247) -/
  | reduction (group : Nat) (cseq : W32) (idx : Nat)
  /-- for an expert combine (R239) -/
  | combine (table : Nat) (cseq : W32) (token : Nat)
deriving DecidableEq, Repr

/-- Kind of an accumulator register (R251). -/
inductive Kind where
  | f | i8 | i32
deriving DecidableEq, Repr

/-- An accumulator register: 512 lanes, a flag triple per lane, kind and block mask (R251). -/
structure Acc where
  kind  : Kind
  mask  : BitVec 8
  lanes : List W32
  flags : List (BitVec 3)
deriving DecidableEq, Repr

/-- An uncompleted DMA of a run: source and destination engine addresses and length (R253). -/
structure DmaJob where
  src : Nat
  dst : Nat
  len : Nat
deriving DecidableEq, Repr

/-- A run waiting in an engine's run queue (R247). -/
structure QRun where
  pid     : Nat
  origin  : RunOrigin
  args    : List W64
  floating : Bool
  convInf : Bool
deriving DecidableEq, Repr

/-- A run in a slot (R249). -/
structure Run where
  slot    : Nat
  pid     : Nat
  origin  : RunOrigin
  pc      : Nat
  s       : List W64
  a       : List Acc
  vl      : Nat
  ebase   : W32
  crc     : W32
  flags   : BitVec 3
  first   : W32
  convInf : Bool
  /-- The WAITM the run waits on: milestone and threshold (R305). -/
  wait    : Option (Nat × W64)
  /-- An operation has met the wait; the slot has not resumed yet (R303). -/
  waitMet : Bool
  /-- `State.aclk` as it stood when the run left the run queue (Table 10.3). -/
  start   : Nat
  dmas    : List DmaJob
  /-- Reduction runs: sums delivered so far, operands of the present sum delivered, sums whose END has arrived and
  that are not answered, oldest first, as (stripe or node, ELEM, LANES), and whether LAST has arrived (R259, R260). -/
  sum     : Nat
  operand : Nat
  unans   : List (Nat × W32 × Nat)
  last    : Bool
deriving DecidableEq, Repr

/-- A tile-cache line: a store row, its 512 bytes as filled, which of its granules are poisoned, and the latent errors of the
others (R31, R254). -/
structure TLine where
  row   : Nat
  bytes : List Byte
  bad   : List Nat
  flaws : Tab (BitVec 144)
deriving DecidableEq, Repr

/-- State of a unit that can be disabled (Table 14.8). -/
inductive DisState where
  | enabled | draining | disabled
deriving DecidableEq, Repr

/-- The working state of one junction engine. -/
structure Engine where
  dis         : DisState
  queue       : List QRun
  /-- Starts that the CSQ holds while the run queue is full (R247). -/
  heldRuns    : List QRun
  runs        : List Run
  /-- Tile cache, most recently used line first. -/
  tcache      : List TLine
  /-- Local space: bytes by offset, unlisted reads 0. -/
  loc         : List Host.Cell
  /-- A register-started run has halted and its completion is outstanding (R265). -/
  doneWait    : Bool
  /-- A program load whose CRC check runs: the identifier and the staged START, LEN and PCRC (R263). -/
  loading     : Option (Nat × W64)
deriving DecidableEq, Repr

/-- A latent error of a granule, not yet met by a read: the bits of its 144-bit code word that are wrong, symbol k of 8
bits in bits [8k+7:8k] (R31). -/
abbrev Flaw := BitVec 144

/-- A message context (R52, R54): the header of the opening packet, the PKT_IDX values that have arrived, the port
unit of the opening packet, the CONV_INF sampled (R173), whether a packet of a STORE_WRITE failed a check (R272),
for a list command whether the response was stopped (R278), and the message's TYPE and count as fixed. -/
structure MsgCtx where
  src      : W32
  msgId    : W32
  typ      : Nat
  cnt      : Nat
  hdr      : BitVec 512
  port     : Nat
  got      : List Nat
  convInf  : Bool
  bad      : Bool
  stopped  : Bool
  /-- Packets of a row message kept until it completes (expert rows), each with the port unit it came in by. -/
  pkts     : List (Nat × Packet)
deriving DecidableEq, Repr, Inhabited

/-- Where a store command's milestone update stands (R275, R277, R302). -/
inductive RelStage where
  | awaitEnd | awaitHanded | inFlight
deriving DecidableEq, Repr

/-- A read command whose response is not all sent (R118, R276 to R280): its header and the port unit it came in by, CONV_INF as
sampled, the MSG_ID of the response once it has begun, the elements of the response and those sent, the list entries that have
arrived and whether the list is complete; the rows read and not yet used, as elements, of a GATHER_SUM widened; the entries summed
and the running sum. -/
structure Resp where
  hdr     : BitVec 512
  port    : Nat
  convInf : Bool
  id      : Option W32
  total   : Nat
  sent    : Nat
  entries : Tab Nat
  listed  : Bool
  rows    : Tab (List W32)
  added   : Nat
  sum     : List W32
deriving DecidableEq, Repr

/-- A COMBINE_RESULT whose packets are not all sent (R118, R240): the quadrant that forms it, whether it has begun, and the packets
left, in order. -/
structure Sending where
  quad  : Nat
  msgId : W32
  begun : Bool
  left  : List Packet
deriving DecidableEq, Repr

/-- A milestone update, or bare notify, of a store command on its way (R291). -/
structure Release where
  src   : W32
  msgId : W32
  stage : RelStage
  ms    : Nat
  val   : W32
  msen  : Bool
  ntfy  : Bool
  tc    : Nat
  port  : Nat
deriving DecidableEq, Repr

/-- A WAIT held in a fabric wait list (R304). -/
structure FWait where
  ms    : Nat
  thr   : W64
  src   : W32
  tag   : W32
  tc    : Nat
  port  : Nat
deriving DecidableEq, Repr, Inhabited

/-- An allocated buffer (R317). -/
structure Buf where
  pool   : Nat
  quad   : Nat
  index  : Nat
  gen    : Nat
  owners : List W32
  final  : W32
  /-- Extra link credits granted: port unit, channel, credits (R318). -/
  grant  : Option (Nat × Nat × Nat)
deriving DecidableEq, Repr

/-- The BPM (R311 to R321). -/
structure Bpm where
  /-- The configuration in force, by register address. -/
  inForce : Tab W64
  bufs    : List Buf
  /-- Generation last given to a buffer, by buffer key; unlisted is 1 (R313). -/
  gens    : Tab Nat
  /-- Buffers withdrawn (R320), and the latent errors of records not yet read, by buffer key. -/
  lost    : List Nat
  flawed  : Tab (BitVec 144)
deriving DecidableEq, Repr

/-- Which data an input of a collective carries. -/
inductive CKey where
  | member (m : Nat)
  /-- UP message of the child in direction `dir`: fragment (lo, depth) in CANONICAL order, chunk or zero otherwise. -/
  | up (dir lo depth : Nat)
  | down
deriving DecidableEq, Repr

/-- One input of a collective: its message, and its elements as received and widened, with the flags each set. -/
structure CIn where
  key      : CKey
  msgSrc   : W32
  msgId    : W32
  elems    : Tab W32
  eflags   : Tab (BitVec 3)
  blocks   : List Nat
  /-- Of a sparse message: ELEM_OFF of the packet of each PKT_IDX (R243). -/
  offs     : Tab Nat
  complete : Bool
deriving DecidableEq, Repr

/-- Flags and first offending element of a segment (Table 7.7). -/
structure SegRec where
  seg   : Nat
  flags : BitVec 3
  first : W32
deriving DecidableEq, Repr

/-- What a DONE or FIN announced (Table 7.7). -/
structure CtlRec where
  dir   : Nat
  count : Nat
  flags : BitVec 3
  first : W32
  recs  : List SegRec
deriving DecidableEq, Repr

/-- A message a collective owes. -/
inductive OKey where
  | up (lo depth : Nat)
  | down (dir : Nat)
  /-- RESULT to a member, from its own data or the final vector. -/
  | result (member : Nat)
deriving DecidableEq, Repr

/-- Progress of a message a collective sends. -/
structure OutMsg where
  key   : OKey
  msgId : W32
  sent  : Nat
  total : Nat
deriving DecidableEq, Repr

/-- The value of one sum answered by a user program (R260). -/
structure SumVal where
  engine : Nat
  elem   : Nat
  node   : Nat
  lanes  : List W32
  flags  : List (BitVec 3)
  mask   : BitVec 8
deriving DecidableEq, Repr

/-- A value this switch forms for a reduction: its partial result, a fragment (R207), or at the root the result in RFMT;
the stripes formed so far, and the elements and flags of those. -/
structure CPart where
  lo      : Nat
  depth   : Nat
  stripes : List Nat
  vals    : Tab W32
  flags   : Tab (BitVec 3)
deriving DecidableEq, Repr

/-- An open collective at this switch (R185 to R197). -/
structure Coll where
  group   : Nat
  cseq    : W32
  /-- Port unit by which the opening packet came in. -/
  port    : Nat
  digest  : W32
  /-- The descriptor's 16 bytes, byte 0 in the low bits. -/
  desc    : BitVec 128
  tc      : Nat
  strict  : Bool
  convInf : Bool
  engines : List Nat
  perm    : List Nat
  inputs  : List CIn
  /-- Arrivals: (index in `inputs`, first element, count), oldest first (R208). -/
  log     : List (Nat × Nat × Nat)
  joins   : List Nat
  dones   : List CtlRec
  fin     : Option CtlRec
  outs    : List OutMsg
  parts   : List CPart
  sums    : List SumVal
  doneSent : Bool
deriving DecidableEq, Repr, Inhabited

/-- A row of an expert's batch (R234): its packets with the port unit each came in by (R419). -/
structure Row where
  token  : Nat
  toksrc : W32
  rank   : Nat
  slot   : Nat
  pkts   : List (Nat × Packet)
deriving DecidableEq, Repr

/-- An expert's batch in a step (R233): whether its allocation has been answered, and refused; the owner as it was read for the
request; the buffer; the rows admitted, and those that wait for the answer, oldest first. -/
structure Batch where
  expert  : Nat
  given   : Bool
  failed  : Bool
  owner   : Nat
  handle  : W32
  addr    : Nat
  rows    : List Row
  waiting : List Row
deriving DecidableEq, Repr

/-- An open dispatch step (R229 to R237). -/
structure XStep where
  table     : Nat
  cseq      : W32
  /-- Port unit by which the opening packet came in. -/
  port      : Nat
  tc        : Nat
  strict    : Bool
  convInf   : Bool
  /-- Source seals by port unit: NTOK (R232). -/
  sealed    : Tab Nat
  /-- Complete token dispatch messages, by port unit. -/
  tokens    : Tab Nat
  /-- Copies sent, by batch switch coordinate (X, Y, Z bits of its CW). -/
  copies    : Tab Nat
  sealsSent : Bool
  /-- Switch seals received: source coordinate and NCOPY. -/
  seals     : Tab Nat
  copiesIn  : Nat
  batches   : List Batch
  closed    : Bool
deriving DecidableEq, Repr, Inhabited

/-- State of a rank of a combine context (R238). -/
inductive RankSt where
  | open | skipped | overcap | done
deriving DecidableEq, Repr

/-- A combine context (R230, R238 to R240). -/
structure Comb where
  table   : Nat
  cseq    : W32
  token   : Nat
  toksrc  : W32
  msgId   : W32
  ctx     : Nat
  port    : Nat
  tc      : Nat
  convInf : Bool
  strict  : Bool
  experts : List Nat
  gwptr   : Nat
  gwfmt   : Nat
  /-- The owners of the experts, once the weights are known. -/
  owners  : List Nat
  /-- The gate weights as they stand in the store in GWFMT, once they have been read. -/
  weights : List W32
  known   : Bool
  ranks   : List RankSt
  /-- The packets of the row that have arrived, and whether that is all of them. -/
  pkts    : List (Nat × Packet)
  complete : Bool
  /-- COMBINE has been started (R239). -/
  started : Bool
deriving DecidableEq, Repr, Inhabited

/-- A session slot (R370). -/
inductive SessState where
  | free | pending | active | failed
deriving DecidableEq, Repr

structure Session where
  st   : SessState
  key  : List Byte
  high : Nat
  seen : List Nat
deriving DecidableEq, Repr

/-- An event queued for the host (Table 16.6). -/
structure Event where
  eseq   : Nat
  cls    : Nat
  block  : Nat
  lost   : Nat
  coord  : W32
  data   : W64
  time   : Nat
  epoch  : W64
  sent   : Bool
  tagged : Bool
deriving DecidableEq, Repr

/-- Where frames to the host go. -/
structure HostDest where
  mac  : BitVec 48
  via  : Carrier
  vlan : Option (BitVec 16)
deriving DecidableEq, Repr

/-- A frame a host port has sent: YMP message, ICMPv6 answer, or PTP delay request. -/
inductive HostOut where
  | ymp (dest : HostDest) (bytes : List Byte)
  | neighborAdvert (dstMac : BitVec 48) (vlan : Option (BitVec 16)) (dstIp target : BitVec 128) (mac : BitVec 48)
  | echoReply (dstMac : BitVec 48) (vlan : Option (BitVec 16)) (dstIp srcIp : BitVec 128) (data : List Byte)
deriving DecidableEq, Repr

/-- A BULK write context (R375). -/
structure BulkCtx where
  session : Nat
  xid     : W32
  auth    : Bool
  host    : Nat
  dest    : HostDest
  seq     : W32
  addr    : Nat
  len     : Nat
  chunk   : Nat
  got     : List Nat
deriving DecidableEq, Repr

/-- One host port (R363 to R373). -/
structure HostPort where
  link     : Bool
  aui      : Bool
  locked   : Bool
  /-- The image or a later write has chosen the interface (R373). -/
  fixed    : Bool
  lastReq  : Option HostDest
  out      : List HostOut
deriving DecidableEq, Repr

/-- The host Ethernet ports' block. -/
structure Hep where
  ports    : List HostPort
  sessions : List Session
  hostKey  : Option (List Byte)
  events   : List Event
  nextEseq : Nat
  lostNow  : Nat
  bulk     : List BulkCtx
  /-- PTP time stamps of the exchange in progress (R380). -/
  ptpT1    : Option (Nat × Nat)
  ptpT3    : Option Nat
  /-- The statement being signed (R374). -/
  att      : Option (List Byte)
deriving DecidableEq, Repr

/-- Fuses of the safety partition (R359): grade, device number, life cycle, key slots, seal key. -/
structure Fuses where
  grade    : Nat
  devId    : W64
  lcState  : Nat
  minSvn   : Nat
  prog     : BitVec 4
  revoked  : BitVec 4
  hashes   : List (List Byte)
  sealKey  : List Byte
  seed     : List Byte
deriving DecidableEq, Repr

/-- Pins and supplies. -/
structure Pins where
  rstN   : Bool
  testEn : Bool
  railsOk : Bool
  straps : Straps
deriving DecidableEq, Repr

/-- A register record (Table 15.7). -/
structure RegRec where
  addr    : Nat
  kind    : Nat
  busyBit : Nat
  value   : W64
deriving DecidableEq, Repr

/-- Which record section the MGC works on. -/
inductive RecPhase where
  | idle | regs | late
deriving DecidableEq, Repr

/-- Start-up: what the SAP and the MGC hold of the image being read or applied (R346 to R354). -/
structure Boot where
  /-- Copy being tried, and how far its reading has come: 0 nothing, 1 header checked, 2 section table checked. -/
  copy    : Nat
  read    : Nat
  phase   : RecPhase
  regs    : List RegRec
  late    : List RegRec
  /-- Index of the next record of the section in hand, and whether it is a COMMIT waiting for BUSYBIT. -/
  idx     : Nat
  waiting : Bool
  /-- The image has been applied: LATE may be performed. -/
  svn     : Nat
  digest  : List Byte
  applied : Bool
  windowOpen : Bool
  /-- A SAP request that runs, with GLB_SAPMB_BUF as it stood when it began (R357); a flash operation that runs: OP,
  address, length, and the bytes to program (R361). -/
  sapReq  : Option (Nat × List Byte)
  nvmOp   : Option (Nat × Nat × Nat × List Byte)
  plan    : List (Nat × W32 × List W32)
deriving DecidableEq, Repr

/-- A pending commit of a group or table entry whose list is being read (R180, R225). -/
structure PendCommit where
  key   : Nat
  words : List W64
deriving DecidableEq, Repr

/-- An access that the management bus holds (R23, R125): a write that R21 admits, and whether an ACTIVE session signed it; or a
READ or WRITE over YMP by host port, with the key of its answer, the accesses performed and the values read so far. -/
inductive BusOp where
  | write (addr : Nat) (value : W64) (auth : Bool)
  | ymp (host : Nat) (m : YmpFrame) (key : Option (List Byte)) (done : Nat) (vals : List W64)
deriving DecidableEq, Repr

/-- States of the TAP controller of IEEE 1149.1 (R400). -/
inductive Tap where
  | testLogicReset | runTestIdle
  | selectDr | captureDr | shiftDr | exit1Dr | pauseDr | exit2Dr | updateDr
  | selectIr | captureIr | shiftIr | exit1Ir | pauseIr | exit2Ir | updateIr
deriving DecidableEq, Repr

/-- Instructions of IEEE 1149.1 and, for the fabric and host lanes, of IEEE 1149.6 (R400), and the access to the MGC and the register
blocks that Table 15.9 grants. -/
inductive TapInstr where
  | bypass | idcode | sample | preload | extest | extestPulse | extestTrain | access
deriving DecidableEq, Repr

/-- The JTAG port (R400): the TAP controller, the instruction in force, the shift register, the boundary-scan register as last
updated, and whether EXTEST_TRAIN has turned the lanes over (IEEE 1149.6). -/
structure Jtag where
  tap      : Tap
  instr    : TapInstr
  shift    : List Bool
  boundary : List Bool
  turned   : Bool
deriving DecidableEq, Repr

/-- The bank of epoch, STOP and restart state that is no register. -/
structure Rack where
  /-- Root-PLL count of the last boundary and of earlier ones by epoch number (R100). -/
  lastAt    : Nat
  history   : List (W64 × Nat)
  /-- The epoch number has been adopted or, for the MASTER, started (R101). -/
  numbered  : Bool
  /-- The CCLK cycle of the last boundary (R99), and of the last one this switch drove onto GATE_EPOCH (R404). -/
  boundaryAt : Nat
  drivenAt  : Option Nat
  /-- Root-PLL cycles by which the next period is changed (R100). -/
  adjust    : Int
  stopDeferred : Bool
  restarting   : Bool
  restartWipe  : Bool
  /-- The CCLK cycle of the last snapshot (R387). -/
  snapAt    : Option Nat
deriving DecidableEq, Repr

/-- Occurrences of an event source, with the attributes they carry (R382, R384). -/
structure Occ where
  src  : Nat
  n    : Nat
  port : Option Nat
  tc   : Option Nat
  grp  : Option Nat
deriving DecidableEq, Repr

/-- The state of the switch. -/
structure State where
  /-- Commands waiting, first in, first out. -/
  pending  : List Instr
  /-- Model's own: position in the free values of `Config`. -/
  fresh    : Nat
  /-- CCLK cycles since chip reset, HEP_TIME in sevenths of a nanosecond. -/
  now      : Nat
  time7    : Nat
  /-- ACLK edges kept since chip reset (Table 1.6). -/
  aclk     : Nat
  /-- W1C bits the hardware has set in the present CCLK cycle, by register (R24). -/
  w1cSet   : Tab W64
  /-- Sources raised in the present cycle whose sticky bit stood at 1 when it began (R323). -/
  again    : List (Blk × Nat)
  /-- RW fields that management writes have set in the present cycle: address, mask and value (R417). -/
  wrote    : List (Nat × W64 × W64)
  /-- Writes of MSU_VAL that the MSU performs at the end of the present cycle, oldest first: milestone and value (R303). -/
  msuLast  : List (Nat × W64)
  /-- Numeric exceptions counted in the present cycle, by the address of their count (R172). -/
  excNow   : Tab Nat
  /-- Instructions issued in the present cycle, by engine (R248). -/
  issued   : Tab Nat
  /-- Events of the present CCLK cycle, oldest first (R382, R383). -/
  evts     : List Occ
  /-- What the ECB has still to add: the cycle and the increments of the counters (R383). -/
  ecbPend  : List (Nat × Tab Nat)
  /-- Granules corrected in each block, by the address of its BLOCK_FLT_STATUS (R32). -/
  corrected : Tab Nat
  jtag     : Jtag
  /-- Bus-error traps raised to the MGC (R21); its SRAM as firmware was loaded into it, and whether it has been started
  (R344, R349). -/
  mgcTraps : Nat
  mgcSram  : List Byte
  mgcOn    : Bool
  /-- STOP packets that left ahead of a chip reset or a latched halt, by port unit (R326). -/
  stopsLeft : List (Nat × Packet)
  /-- Sources whose sticky bit has risen in the present CCLK cycle: their reactions are performed at its end (R323). -/
  raised   : List (Blk × Nat)
  pins     : Pins
  fuses    : Fuses
  csr      : Tab W64
  flash    : List Host.Cell
  flashSize : Nat
  boot     : Boot
  rack     : Rack
  /-- The tensor store: bytes by address (unlisted reads 0), poisoned granules and latent errors by granule. -/
  mem      : List Host.Cell
  poison   : List Nat
  flaws    : Tab Flaw
  /-- Latent errors and poisoned granules of the other memories (R33). -/
  gerr     : List (GMem × Flaw)
  gpoison  : List GMem
  wiping   : Bool
  /-- Rows the row caches hold, most recently used first (R281). -/
  rowCache : List Nat
  ports    : Vector Port 64
  /-- Spreading pointers, by quadrant × 3 + axis (R114). -/
  spread   : Tab Nat
  /-- Contracts whose shadow path entries were written since the last swap (R121). -/
  pathWritten : List Nat
  /-- Message counter and sequence counter of originated packets (R58, R43). -/
  msgCtr   : W32
  seqCtr   : W32
  msgs     : List MsgCtx
  resps    : List Resp
  results  : List Sending
  releases : List Release
  milestones : Tab W64
  waits    : List FWait
  bpm      : Bpm
  engines  : Vector Engine 64
  slices   : Vector DisState 4
  descs    : List (BitVec 128)
  colls    : List Coll
  closed   : List (Nat × W32)
  /-- Local members of each list group as its commit read the list: port unit and member index, by port unit (R180). -/
  locals   : Tab (List (Nat × Nat))
  /-- The collectives the save of a parked CSQ holds (R216); and a save that RESUME has read: its collectives, message
  contexts, its horizons, port epochs and closed CSEQs, and its waiting packets. -/
  parkedKeys : List (Nat × W32)
  parked   : List Coll
  parkMsgs : List MsgCtx
  parkMeta : List (Nat × W64)
  parkWait : List (Nat × Nat × Packet)
  /-- Collective packets held back while RTE_HOLD names every class, each with its home quadrant and that of its payload (R220). -/
  collWait : List (Nat × Nat × Packet)
  grpCommit : Option PendCommit
  tabCommit : Option PendCommit
  /-- Accesses that the management bus holds, in the order of their arrival (R23, R125). -/
  busHeld  : List BusOp
  /-- BULK requests that wait for the end of a wipe, with their host port and the C they found (R286, R375). -/
  bulkWait : List (Nat × Nat × YmpFrame)
  /-- The batch switches of each expert table as its commit read the list (R224, R225). -/
  xswitches : Tab (List Nat)
  /-- Packets of steps that a slice did not open (R334). -/
  stepDrops : Nat
  xsteps   : List XStep
  combs    : List Comb
  xclosed  : List (Nat × W32)
  hep      : Hep
deriving DecidableEq, Repr

/-- A receiver lane after reset. -/
def RxLane.reset : RxLane := ⟨false, false, 0, false, 0, 0, 0, false⟩

/-- A transmitter lane after reset: the PRESET setting of R71. -/
def TxLane.reset : TxLane := ⟨0, 0, 0, false, 0, 0⟩

/-- A port unit after a chip reset: transmitters off, nothing queued (R68, Tables 3.8 to 3.14). -/
def Port.reset : Port where
  link := .disabled
  resumeTo := .up
  wasUp := false
  everUp := false
  width := 0
  fabver := 0
  failed := 0
  laneUse := 0
  disc := .pending
  role := 0
  dir := 0
  maxw := 3
  swapPeer := 0
  rx := List.replicate 8 RxLane.reset
  tx := List.replicate 8 TxLane.reset
  saidOk := 0
  goSeen := 0
  farLaneOk := 0
  farMaxw := 0
  far := none
  retrains := 0
  slotWidth := []
  delays := []
  winSent := []
  ltfs := 0
  txSeq := 0
  replay := []
  resend := 0
  rxSeq := 0xFF
  kept := []
  rxOld := 0xFF
  opened := false
  begun := false
  nak := false
  nakRun := 0
  nakSent := 0
  nakLast := none
  laneCorr := []
  test := none
  sent := []
  rxPart := []
  rxPartAt := 0
  txPart := []
  txPartOf := none
  rxq := []
  txCred := []
  rxHeld := []
  rxOwed := []
  withhold := []
  rxGreen := []
  allow := 0
  owesAll := false
  linkLocal := []
  egress := []

/-- A junction engine after a chip reset (R266, R336). -/
def Engine.reset : Engine := ⟨.enabled, [], [], [], [], [], false, none⟩

/-- A host port after a chip reset: trying 400GAUI-8 (R373). -/
def HostPort.reset : HostPort := ⟨false, false, false, false, none, []⟩

/-- A session slot after a chip reset (R371). -/
def Session.reset : Session := ⟨.free, [], 0, []⟩

/-- The host block after a chip reset. -/
def Hep.reset : Hep :=
  ⟨List.replicate 2 HostPort.reset, List.replicate 4 Session.reset, none, [], 1, 0, [], none, none, none⟩

/-- The BPM after a chip reset: nothing allocated (R319). -/
def Bpm.reset : Bpm := ⟨[], [], [], [], []⟩

/-- Start-up state after a chip reset. -/
def Boot.reset : Boot := ⟨0, 0, .idle, [], [], 0, false, 0, [], false, false, none, none, []⟩

/-- Rack time after a chip reset. -/
def Rack.reset : Rack := ⟨0, [], false, 0, none, 0, false, false, false, none⟩

/-- The TAP in its reset state (R400), with IDCODE in force as IEEE 1149.1 has it. (PRESUMED, notes/assumptions/74.md) -/
def Jtag.reset : Jtag := ⟨.testLogicReset, .idcode, [], [], false⟩

/-- Straps left open read 0 (R397). (DESIGN CHOICE, notes/assumptions/10.md) -/
def Straps.open : Straps := ⟨0, 0, 0, false, false⟩

/-- The fuses of a blank part of grade A (DESIGN CHOICE, notes/assumptions/3.md). -/
def Fuses.blank : Fuses :=
  ⟨1, 0, 0, 0, 0, 0, List.replicate 4 (List.replicate 64 0), List.replicate 32 0, List.replicate 32 0⟩

/-- The switch right after the chip reset that follows power-up (R341): rails up, RST_N still low.
(DESIGN CHOICE, notes/assumptions/60.md) -/
def State.reset : State where
  pending := []
  fresh := 1
  now := 0
  time7 := 0
  aclk := 0
  w1cSet := []
  again := []
  wrote := []
  msuLast := []
  excNow := []
  issued := []
  evts := []
  ecbPend := []
  corrected := []
  jtag := Jtag.reset
  mgcTraps := 0
  mgcSram := []
  mgcOn := false
  stopsLeft := []
  raised := []
  pins := ⟨false, false, true, Straps.open⟩
  fuses := Fuses.blank
  csr := []
  flash := []
  flashSize := 0x8000000
  boot := Boot.reset
  rack := Rack.reset
  mem := []
  poison := []
  flaws := []
  gerr := []
  gpoison := []
  wiping := false
  rowCache := []
  ports := Vector.replicate 64 Port.reset
  spread := []
  pathWritten := []
  msgCtr := 0
  seqCtr := 0
  msgs := []
  resps := []
  results := []
  releases := []
  milestones := []
  waits := []
  bpm := Bpm.reset
  engines := Vector.replicate 64 Engine.reset
  slices := Vector.replicate 4 .enabled
  descs := []
  colls := []
  closed := []
  locals := []
  parkedKeys := []
  parked := []
  parkMsgs := []
  parkMeta := []
  parkWait := []
  collWait := []
  grpCommit := none
  tabCommit := none
  busHeld := []
  bulkWait := []
  xswitches := []
  stepDrops := 0
  xsteps := []
  combs := []
  xclosed := []
  hep := Hep.reset

end Sys2Proof.Machine
end

