-- ==== Sys2Proof/Machine/Regs.lean ====
section
/-!
DEFINITION. The register map (spec/19): where each register lies, its width, which of its bits a management write can
change (R7 to R11), its reset value, and the register file that holds them.
-/

namespace Sys2Proof.Machine

/-- Registers of one name: `cnt` registers of `w` bytes, `stride` apart from offset `off`; the bits software writes
(`rw`) and clears by writing 1 (`w1c`), and the reset value. -/
structure RegRow where
  off    : Nat
  stride : Nat
  cnt    : Nat
  w      : Nat
  rw     : Nat
  w1c    : Nat
  reset  : Nat
deriving DecidableEq, Repr

/-- All ones in `n` bits. -/
def ones (n : Nat) : Nat := 2 ^ n - 1

/-- A register that stands alone. -/
def reg1 (off w rw w1c reset : Nat) : RegRow := ⟨off, 8, 1, w, rw, w1c, reset⟩

/-- A read-only or write-only register with reset 0. -/
def reg0 (off w : Nat) : RegRow := ⟨off, 8, 1, w, 0, 0, 0⟩

/-- BLOCK_FLT_STATUS and BLOCK_FLT_INJECT (Table 14.7). -/
def fltRows (off : Nat) : List RegRow := [reg1 off 8 0 (ones 64) 0, reg0 (off + 8) 8]

/-- Table 19.2. -/
def glbRows : List RegRow := [
  reg0 0x00 4, reg1 0x10 4 0xFFFFF 0 0xC8, reg0 0x20 4, reg0 0x24 4, reg1 0x28 4 0xFFF 0 0x190, reg0 0x2C 4,
  reg1 0x30 4 1 0 0, reg1 0x40 4 0x0FFFFFFF 0 0x3E800, reg0 0x48 8, reg0 0x50 4, reg0 0x58 8, reg0 0x60 4,
  reg1 0x80 4 1 0 0, reg1 0x88 4 1 0 0, reg1 0x8C 4 0 0 1, reg0 0x90 4, reg0 0x94 4, reg0 0xA0 8, reg0 0xA8 4,
  reg0 0xAC 4, reg0 0xB0 8, reg0 0xB8 8, reg0 0xC0 8, reg0 0x100 4, reg0 0x104 4, ⟨0x200, 4, 28, 4, 0, 0, 0⟩,
  ⟨0x2000, 8, 1024, 8, ones 64, 0, 0⟩] ++ fltRows 0xF000

/-- Table 19.3. -/
def sapRows : List RegRow := [
  reg0 0x00 4, reg0 0x08 8, ⟨0x100, 4, 64, 4, 0, 0, 0⟩, reg1 0x200 4 0 0 0x690564, reg1 0x208 4 0 0 0xA0546,
  reg1 0x210 4 0 0 5, reg0 0x220 4, ⟨0x400, 8, 8, 8, 0, 0, 0⟩, ⟨0x440, 8, 8, 8, 0, 0, 0⟩, ⟨0x480, 8, 8, 8, 0, 0, 0⟩,
  ⟨0x4C0, 8, 8, 8, 0, 0, 0⟩]

/-- Table 19.4, FCO. -/
def fcoRows : List RegRow := [reg0 0x00 4, reg1 0x08 8 0 (ones 64) 0, reg1 0x10 4 0 0x80000000 0, reg0 0x18 4]

/-- Table 19.5. -/
def ecbRows : List RegRow := [
  reg1 0x00 4 1 0 1, reg1 0x08 4 0xFFFF0003 0 0x10000, reg0 0x0C 4, reg0 0x10 4, reg0 0x18 8, reg0 0x20 8,
  ⟨0x40, 8, 4, 8, 0, ones 64, 0⟩, ⟨0x1000, 8, 256, 8, ones 39, 0, 0x8003FC0000⟩, ⟨0x2000, 8, 256, 8, ones 64, 0, 0⟩,
  ⟨0x3000, 8, 512, 8, 0, 0, 0⟩] ++ fltRows 0xF000

/-- Table 19.6, one unit; the eight units' fault registers stand once, at 0xF000 of the block. -/
def cvuRows : List RegRow := [
  reg1 0x00 4 3 0 0, reg0 0x04 4, reg0 0x08 4, reg1 0x10 8 (ones 64) 0 0xFFFFFFFF, reg0 0x18 8, ⟨0x20, 4, 3, 4, 0, 0, 0⟩]

/-- Table 19.7. -/
def puRows : List RegRow := [
  reg1 0x00 4 0x7F 0 0x60, reg1 0x04 4 4 0 0, reg0 0x08 4, ⟨0x0C, 4, 3, 4, 0, 0, 0⟩, reg1 0x18 4 0 0xF 0, reg0 0x1C 4,
  ⟨0x20, 8, 3, 8, 0, 0, 0⟩, reg1 0x40 4 0x3FFFFFF 0 0x64, reg1 0x44 4 0 0 0x64, reg0 0x48 4, reg0 0x4C 4,
  ⟨0x50, 8, 4, 8, 0, 0, 0⟩, reg1 0x80 4 0xFF 0 0, ⟨0x1000, 8, 256, 8, ones 34, 0, 0⟩, ⟨0x1800, 8, 256, 8, 0, 0, 0⟩,
  ⟨0x2000, 8, 256, 8, 0, 0, 0⟩, ⟨0x3000, 8, 256, 8, 0, 0, 0⟩] ++ fltRows 0xF000

/-- Table 19.8. -/
def rteRows : List RegRow := [
  reg1 0x00 4 7 0 0, reg0 0x04 4, reg1 0x10 4 0xFF 0 0, reg0 0x14 4, reg0 0x18 8, reg0 0x20 4, reg0 0x24 4,
  ⟨0x1000, 4, 192, 4, 0, 0, 0⟩, ⟨0x2000, 4, 192, 4, 3, 0, 0⟩, ⟨0x10000, 4, 4096, 4, 0, 0, 0⟩,
  ⟨0x20000, 4, 4096, 4, 0x7F, 0, 0⟩] ++ fltRows 0xF000

/-- Table 19.9. -/
def tcuRows : List RegRow := [
  reg1 0x00 4 0x3FF 0 0, reg1 0x10 4 0x7FFFFFE 0 0, reg1 0x14 4 0x7FFFFFFF 0 0, reg1 0x18 4 0xFFFFFF 0 0, reg0 0x20 4,
  reg0 0x24 4, ⟨0x30, 4, 4, 4, 0, 0, 0⟩, ⟨0x8000, 4, 128, 4, 0, 0, 0⟩, ⟨0x10000, 4, 16384, 4, 0, 0, 0⟩] ++ fltRows 0xF000

/-- Table 19.10. -/
def csqRows : List RegRow := [
  reg1 0x00 4 0x0FFFFF01 0 0x7D001, reg0 0x08 8, reg0 0x10 4, reg1 0x20 4 (ones 27) 0 0, reg1 0x24 4 (ones 25) 0 0,
  reg1 0x28 8 (ones 40) 0 0, reg1 0x30 8 (ones 52) 0 0, reg0 0x38 4, reg0 0x3C 4, ⟨0x40, 4, 4, 4, ones 32, 0, 0⟩,
  reg0 0x50 4, reg0 0x54 4, reg0 0x58 4, reg0 0x5C 4, reg1 0x60 8 (ones 40) 0 0, reg0 0x68 4, reg0 0x6C 4, reg0 0x70 8,
  reg1 0x80 4 (ones 24) 0 0, reg1 0x84 4 (ones 29) 0 0, reg1 0x88 4 (ones 32) 0 0, reg1 0x90 8 (ones 40) 0 0,
  reg1 0x98 8 (ones 40) 0 0, reg1 0xA0 8 (ones 64) 0 0, reg0 0xA8 4, reg0 0xAC 4, ⟨0xB0, 8, 3, 8, 0, 0, 0⟩,
  reg1 0xF010 4 0xF 0 0, reg0 0xF014 4,
  ⟨0x10000, 0x20, 4096, 4, 0, 0, 0⟩, ⟨0x10004, 0x20, 4096, 4, 0, 0, 0⟩, ⟨0x10008, 0x20, 4096, 8, 0, 0, 0⟩,
  ⟨0x10010, 0x20, 4096, 8, 0, 0, 0⟩, ⟨0x10018, 0x20, 4096, 4, 0, 0, 0⟩, ⟨0x1001C, 0x20, 4096, 4, 0, 0, 0⟩,
  ⟨0x60000, 0x40, 64, 4, 0, 0, 0⟩, ⟨0x60004, 0x40, 64, 4, 0, 0, 0⟩, ⟨0x60008, 0x40, 64, 4, 0, 0, 0⟩,
  ⟨0x60010, 0x40, 64, 8, 0, 0, 0⟩, ⟨0x60018, 0x40, 64, 8, 0, 0, 0⟩, ⟨0x60020, 0x40, 64, 8, 0, 0, 0⟩,
  ⟨0x60028, 0x40, 64, 4, 0, 0, 0⟩, ⟨0x6002C, 0x40, 64, 4, 0, 0, 0⟩] ++ fltRows 0xF000

/-- The segment tables of Table 7.20: 64 tables of 254 segments and a word NSEG. -/
def segRows : List RegRow := [⟨0x00, 4, 254, 4, ones 32, 0, 0⟩, reg1 0x3FC 4 0xFF 0 0]

/-- Table 19.11. -/
def jRows : List RegRow := [
  reg1 0x00 4 0xFFFFF 0 0x3E8, reg1 0x08 4 0 0 0x1010000, reg1 0x10 8 0xFFFFFFFF07FFFFFF 0 0, reg0 0x18 4, reg0 0x1C 4,
  reg1 0x20 4 0xFFFF02FF 0 0, reg1 0x24 4 0 8 0, reg1 0x28 4 0 0 0xFFFFFFFF, ⟨0x30, 8, 4, 8, ones 64, 0, 0⟩,
  ⟨0x50, 8, 4, 8, 0, 0, 0⟩, reg0 0x70 4, ⟨0x100, 8, 128, 8, 0, 0, 0⟩, ⟨0x3F00, 8, 3, 8, 0, 0, 0⟩, reg0 0x3F18 4,
  reg1 0xF010 4 1 0 0, reg0 0xF014 4, ⟨0x10000, 8, 8192, 8, ones 64, 0, 0⟩] ++ fltRows 0xF000

/-- Table 19.12. -/
def tscRows : List RegRow := [
  reg1 0x00 8 0 0 0xB2D05E0000, reg1 0x10 4 0xFF 0 0x18, reg0 0x14 4, reg0 0x20 4, ⟨0x100, 8, 7, 8, 0, 0, 0⟩,
  ⟨0xF00, 8, 3, 8, 0, 0, 0⟩, reg0 0xF18 4] ++ fltRows 0xF000

/-- Table 19.13. -/
def bpmRows : List RegRow := [
  ⟨0x00, 4, 4, 4, 0xFFF, 0, 0x228⟩, ⟨0x10, 8, 4, 8, ones 64, 0, 0⟩, ⟨0x40, 8, 4, 8, ones 40, 0, 0⟩,
  ⟨0x60, 4, 4, 4, ones 18, 0, 0⟩, reg0 0x70 4, reg0 0x74 4, reg0 0x78 4, ⟨0x80, 8, 4, 8, 0, 0, 0⟩,
  ⟨0xA0, 4, 4, 4, 0, 0, 0⟩, ⟨0x100, 8, 4, 8, 0, 0, 0⟩] ++ fltRows 0xF000

/-- Table 19.14. -/
def msuRows : List RegRow := [
  ⟨0x00, 8, 65536, 8, ones 64, 0, 0⟩, ⟨0x80000, 4, 4, 4, 0, 0, 0⟩, reg0 0x80020 8, reg0 0x80028 8] ++ fltRows 0x8F000

/-- Table 19.15. -/
def hepRows : List RegRow := [
  reg1 0x00 4 (ones 32) 0 0x32730031, reg1 0x04 4 0xFFFF 0 0x64, ⟨0x10, 4, 2, 4, 0, 0, 0⟩, ⟨0x20, 8, 2, 8, ones 48, 0, 0⟩,
  ⟨0x40, 8, 4, 8, ones 64, 0, 0⟩, reg1 0x80 4 0xFF1F 0 0xA00, reg1 0x88 8 (ones 48) 0 0, ⟨0x90, 8, 2, 8, ones 64, 0, 0⟩,
  reg0 0xA0 4, reg0 0x100 4, reg0 0x104 4, ⟨0x110, 8, 4, 8, ones 64, 0, 0⟩, ⟨0x130, 8, 4, 8, 0, 0, 0⟩,
  ⟨0x150, 8, 4, 8, ones 64, 0, 0⟩, ⟨0x200, 8, 4, 8, ones 64, 0, 0⟩, reg0 0x220 4, reg0 0x224 4, ⟨0x300, 8, 2, 8, 0, 0, 0⟩,
  ⟨0x400, 8, 3, 8, 0, 0, 0⟩, ⟨0x420, 8, 4, 8, 0, 0, 0⟩, ⟨0x1000, 8, 225, 8, 0, 0, 0⟩, ⟨0x2000, 8, 160, 8, 0, 0, 0⟩] ++
  fltRows 0xF000

/-- Table 19.16. -/
def nvmRows : List RegRow := [
  reg0 0x00 4, reg1 0x08 4 (ones 32) 0 0, reg1 0x0C 4 0x1FFF 0 0, reg0 0x10 4, ⟨0x1000, 8, 512, 8, ones 64, 0, 0⟩] ++
  fltRows 0xF000

/-- Table 19.4, CLK. -/
def clkRows : List RegRow := [reg1 0x00 4 0 0x100 0] ++ fltRows 0xF000

/-- Register rows of the place an address lies in, and the base of that place (Table 19.1). -/
def regPlace (a : Nat) : Nat × List RegRow :=
  let base (b sz : Nat) := b + (a - b) / sz * sz
  if a < 0x100000 then (0, glbRows)
  else if a < 0x200000 then (0x100000, sapRows)
  else if a < 0x300000 then (0x200000, fcoRows)
  else if a < 0x400000 then (0x300000, ecbRows)
  else if a < 0x400800 then (base 0x400000 0x100, cvuRows)
  else if a < 0x500000 then (0x400000, fltRows 0xF000)
  else if a < 0x1000000 then (0, [])
  else if a < 0x1400000 then (base 0x1000000 0x10000, puRows)
  else if a < 0x2000000 then (0, [])
  else if a < 0x3000000 then (0x2000000, rteRows)
  else if a < 0x4000000 then (0x3000000, tcuRows)
  else if 0x4040000 ≤ a ∧ a < 0x4050000 then (base 0x4040000 0x400, segRows)
  else if a < 0x5000000 then (0x4000000, csqRows)
  else if a < 0x6000000 then (base 0x5000000 0x40000, jRows)
  else if a < 0x7000000 then (0x6000000, tscRows)
  else if a < 0x8000000 then (0x7000000, bpmRows)
  else if a < 0x9000000 then (0x8000000, msuRows)
  else if a < 0xA000000 then (0x9000000, hepRows)
  else if a < 0xB000000 then (0xA000000, nvmRows)
  else if a < 0xC000000 then (0xB000000, clkRows)
  else (0, [])

/-- The register that covers byte address `a`: its first address, its row and its index in the row (R415). -/
def regAt (a : Nat) : Option (Nat × RegRow × Nat) :=
  let (b, rows) := regPlace a
  match rows.find? (fun r => decide (r.off ≤ a - b) && decide ((a - b - r.off) / r.stride < r.cnt) &&
      decide ((a - b - r.off) % r.stride < r.w)) with
  | none => none
  | some r => let i := (a - b - r.off) / r.stride; some (b + r.off + i * r.stride, r, i)

/-- Whether an access of `w` bytes at `a` is performed (R21), refused (R21), or falls where no register is (R22). -/
inductive AccessKind where
  | performed (row : RegRow)
  | refused
  | absent
deriving DecidableEq, Repr

/-- R21 and R22 for an access of `w` bytes at `a`. -/
def accessKind (a w : Nat) : AccessKind :=
  match regAt a with
  | some (b, r, _) => if b = a ∧ r.w = w then .performed r else .refused
  | none => if (List.range w).all (fun i => (regAt (a + i)).isNone) then .absent else .refused

/-- Default reaction set of a source (Table 14.1). -/
def frtDefault (n : Nat) : Nat :=
  if n = 0 ∨ n = 13 ∨ n = 42 then 0x31 else if n = 39 ∨ n = 40 then 0x01 else if n = 41 then 0x71
  else if n = 43 then 0x34 else if n < 44 then 0x21 else 0

/-- Number of engines present on quadrant 0 to 3 each (R2). -/
def enginesPerQuad (f : Fuses) : Nat := if f.grade = 2 then 12 else 16

/-- Engine `n` is present (R2). -/
def enginePresent (f : Fuses) (n : Nat) : Bool := decide (n % 16 < enginesPerQuad f)

/-- GLB_IDENT (Table 0.2). -/
def glbIdent (f : Fuses) : Nat := 0x6440 + f.grade * 2 ^ 16 + (4 * enginesPerQuad f) * 2 ^ 20 + 2 ^ 28

/-- Reset value of HEP_MAC_n (R364). -/
def macDefault (f : Fuses) (n : Nat) : Nat := 0x02 * 2 ^ 40 + ((f.devId.toNat % 2 ^ 39) * 2 + n) % 2 ^ 40

/-- SAP_LC (Table 15.17). -/
def sapLc (f : Fuses) : Nat := f.lcState + f.minSvn * 4 + f.prog.toNat * 256 + f.revoked.toNat * 4096

/-- What the register at `a` reads when nothing is listed for it: the Reset column of spec/19 (R416). -/
def regReset (f : Fuses) (a : Nat) : W64 :=
  if a = 0 then BitVec.ofNat 64 (glbIdent f)
  else if a = 0xB8 then f.devId
  else if a = 0x100000 then BitVec.ofNat 64 (sapLc f)
  else if a = 0x100008 then Config.entropy 0
  else if 0x100100 ≤ a ∧ a < 0x100200 then BitVec.ofNat 64 (frtDefault ((a - 0x100100) / 4))
  else if 0x100400 ≤ a ∧ a < 0x100500 then
    let k := (a - 0x100400) / 0x40
    if f.prog.getLsbD k then BitVec.ofNat 64 (leNat (slice (f.hashes.getD k []) ((a - 0x100400) % 0x40 / 8 * 8) 8)) else 0
  else if a = 0x9000020 then BitVec.ofNat 64 (macDefault f 0)
  else if a = 0x9000028 then BitVec.ofNat 64 (macDefault f 1)
  else match regAt a with
    | some (_, r, _) => BitVec.ofNat 64 r.reset
    | none => 0

/-- The register held at `a`. -/
def State.reg (s : State) (a : Nat) : W64 := (tabGet s.csr a).getD (regReset s.fuses a)

/-- The register held at `a`, as a number. -/
def State.regN (s : State) (a : Nat) : Nat := (s.reg a).toNat

/-- `v` held at `a` by a write of the hardware. -/
def State.setReg (s : State) (a : Nat) (v : W64) : State := { s with csr := tabSet s.csr a v }

/-- Hardware write of a number. -/
def State.setRegN (s : State) (a v : Nat) : State := s.setReg a (BitVec.ofNat 64 v)

/-- Bits `[hi:lo]` of the register at `a`. -/
def State.field (s : State) (a hi lo : Nat) : Nat := bits (s.regN a) hi lo

/-- A number `v` with bits `[hi:lo]` replaced. -/
def setBits (v hi lo x : Nat) : Nat := v - bits v hi lo * 2 ^ lo + x % 2 ^ (hi + 1 - lo) * 2 ^ lo

/-- Bits `[hi:lo]` of the register at `a` set to `x` by the hardware. -/
def State.setField (s : State) (a hi lo x : Nat) : State := s.setRegN a (setBits (s.regN a) hi lo x)

/-- One event counted in a saturating 64-bit counter register. -/
def State.countReg (s : State) (a n : Nat) : State := if n = 0 then s else s.setReg a (satAdd64 (s.reg a) n)

/-- Base of a register block (Table 19.1); all eight CVUs share one. -/
def blkBase (b : Blk) : Nat :=
  match b with
  | .glb => 0
  | .ecb => 0x300000
  | .cvu => 0x400000
  | .pu n => 0x1000000 + n.val * 0x10000
  | .rte => 0x2000000
  | .tcu => 0x3000000
  | .csq => 0x4000000
  | .j n => 0x5000000 + n.val * 0x40000
  | .tsc => 0x6000000
  | .bpm => 0x7000000
  | .msu => 0x8000000
  | .hep => 0x9000000
  | .nvm => 0xA000000
  | .clk => 0xB000000

/-- Address of BLOCK_FLT_STATUS (R340). -/
def blkFlt (b : Blk) : Nat := match b with
  | .msu => 0x808F000
  | b => blkBase b + 0xF000

/-- Fault block (Table 14.4). -/
def blkFaultBlock (b : Blk) : Nat :=
  match b with
  | .pu n => n.val / 4
  | .j n => 16 + n.val / 4
  | .glb => 32
  | .ecb => 33
  | .cvu => 34
  | .rte => 35
  | .tcu => 36
  | .csq => 37
  | .tsc => 38
  | .bpm => 39
  | .msu => 40
  | .hep => 41
  | .nvm => 42
  | .clk => 43

/-- The sources a block can raise (Table 14.1, column Raised in), as a mask. -/
def blkSources (b : Blk) : Nat :=
  let m (l : List Nat) := l.foldl (fun a n => a + 2 ^ n) 0
  match b with
  | .glb => m [0, 11, 12, 39, 40, 41, 42, 43]
  | .pu _ => m [0, 1, 2, 3, 4, 8, 9, 10, 15, 16, 17, 30, 38]
  | .rte => m [0, 14]
  | .tcu => m [0, 18, 19]
  | .csq => m [0, 2, 5, 6, 7, 17, 22, 23, 24, 25, 26, 27, 28, 29, 30, 31, 32, 33, 34, 37, 38]
  | .j _ => m [0, 35, 37, 38]
  | .tsc => m [0, 2, 5, 6, 7, 17, 20, 21]
  | .bpm => m [0, 2, 5, 17]
  | .msu => m [0, 2, 5, 17, 36]
  | .clk => m [13]
  | _ => 0

/-- Every register block that holds BLOCK_FLT_STATUS, in the order of the fault blocks. -/
def allBlks : List Blk :=
  (List.finRange 64).map Blk.pu ++ (List.finRange 64).map Blk.j ++
    [.glb, .ecb, .cvu, .rte, .tcu, .csq, .tsc, .bpm, .msu, .hep, .nvm, .clk]

/-- Base of port unit `n`'s registers. -/
def puBase (n : Nat) : Nat := 0x1000000 + n * 0x10000

/-- Base of engine `n`'s registers. -/
def jBase (n : Nat) : Nat := 0x5000000 + n * 0x40000

/-- The port unit's block. -/
def puBlk (n : Nat) : Blk := .pu (Fin.ofNat 64 n)

/-- The engine's block. -/
def jBlk (n : Nat) : Blk := .j (Fin.ofNat 64 n)

end Sys2Proof.Machine
end

