-- ==== Sys2Proof/Machine/Event.lean ====
section
/-!
DEFINITION. YMP framing (Table 16.2), the event queue and the sending of events (spec/16, R367, R371, R378, R379).
-/

namespace Sys2Proof.Machine

/-- HEP_TIME: nanoseconds (R380). -/
def hepTime (s : State) : Nat := s.time7 / 7

/-- The next free value of the model: a number no proof knows the use of, and the state that has used it up.
(DESIGN CHOICE, notes/assumptions/6.md) -/
def State.draw (s : State) : State := { s with fresh := s.fresh + 1 }

/-- ASCII of the KMAC customisation strings of spec/16. -/
def strYmpOpen : List Byte := [0x59, 0x4D, 0x50, 0x20, 0x6F, 0x70, 0x65, 0x6E]
def strYmpKey : List Byte := [0x59, 0x4D, 0x50, 0x20, 0x6B, 0x65, 0x79]
def strYmpReq : List Byte := [0x59, 0x4D, 0x50, 0x20, 0x72, 0x65, 0x71]
def strYmpRsp : List Byte := [0x59, 0x4D, 0x50, 0x20, 0x72, 0x73, 0x70]

/-- A YMP message from the device: header and payload, with a tag under `key` when one is given (R367, R371). -/
def ympBytes (typ status seq session ctr : Nat) (payload : List Byte) (key : Option (List Byte)) : List Byte :=
  let body := [1, BitVec.ofNat 8 typ, if key.isSome then 1 else 0, BitVec.ofNat 8 status] ++ leBytes 4 seq ++
    [BitVec.ofNat 8 session, 0, 0, 0] ++ leBytes 4 ctr ++ leBytes 4 payload.length ++ [0, 0, 0, 0] ++ payload
  match key with
  | none => body
  | some k => body ++ Config.kmac256 k body strYmpRsp 16

/-- Host port `n`. -/
def State.host (s : State) (n : Nat) : HostPort := s.hep.ports.getD n HostPort.reset

/-- Host port `n` replaced. -/
def State.setHost (s : State) (n : Nat) (h : HostPort) : State :=
  { s with hep := { s.hep with ports := s.hep.ports.set n h } }

/-- A frame handed to host port `n`. (DESIGN CHOICE, notes/assumptions/19.md) -/
def State.hostSend (s : State) (n : Nat) (o : HostOut) : State :=
  s.setHost n { s.host n with out := (s.host n).out ++ [o] }

/-- Session slot `n`. -/
def State.session (s : State) (n : Nat) : Session := s.hep.sessions.getD n Session.reset

/-- Session slot `n` replaced. -/
def State.setSession (s : State) (n : Nat) (x : Session) : State :=
  { s with hep := { s.hep with sessions := s.hep.sessions.set n x } }

/-- Payload of an EVENT (Table 16.6). -/
def eventPayload (e : Event) : List Byte :=
  leBytes 8 e.eseq ++ leBytes 1 e.cls ++ leBytes 1 e.block ++ leBytes 2 e.lost ++ leBytes 4 e.coord.toNat ++
    leBytes 8 e.data.toNat ++ leBytes 8 e.time ++ leBytes 8 e.epoch.toNat ++ leBytes 8 0

/-- The port on which an event is sent (R379): HEP_EVT_CFG.PORT, or the other while that port's link is down. -/
def eventPort (s : State) : Option Nat :=
  let p := s.field 0x9000080 0 0
  if (s.host p).link then some p else if (s.host (1 - p)).link then some (1 - p) else none

/-- The carrier is enabled: ETH_EN, UDP_EN (R367). -/
def carrierLive (s : State) (c : Carrier) : Bool :=
  match c with
  | .ether => bit (s.regN 0x9000000) 0
  | .udp _ _ _ _ => bit (s.regN 0x9000000) 1

/-- How the device frames what it sends of its own accord to a fixed address: EtherType while ETH_EN is 1, else UDP while
UDP_EN is 1 (R367, R379). (DESIGN CHOICE, notes/assumptions/20.md) -/
def eventCarrier (s : State) : Option Carrier :=
  let port := BitVec.ofNat 16 (s.field 0x9000000 23 8)
  if bit (s.regN 0x9000000) 0 then some .ether
  else if bit (s.regN 0x9000000) 1 then
    some (.udp (BitVec.ofNat 128 (s.regN 0x9000090 + s.regN 0x9000098 * 2 ^ 64)) port port 0)
  else none

/-- The destination of events on port `p` (R379): none before any accepted request, and none while no carrier to it is
enabled. -/
def eventDest (s : State) (p : Nat) : Option HostDest :=
  if bit (s.regN 0x9000080) 1 then (eventCarrier s).map (fun c => ⟨BitVec.ofNat 48 (s.regN 0x9000088), c, none⟩)
  else match (s.host p).lastReq with
    | some d => if carrierLive s d.via then some d else none
    | none => none

/-- The session that tags events (R379): the slot and its key, when SIGN is 1 and the slot is ACTIVE. -/
def eventKey (s : State) : Option (Nat × List Byte) :=
  let slot := s.field 0x9000080 3 2
  if bit (s.regN 0x9000080) 4 && (s.session slot).st == .active then some (slot, (s.session slot).key) else none

/-- One event sent on port `p` to `d`. SEQ and CTR of an event are the firmware's (R371 names no value): free. -/
def sendEvent (s : State) (p : Nat) (d : HostDest) (e : Event) : State :=
  let k := eventKey s
  let e' := { e with lost := if e.sent then e.lost else s.hep.lostNow, sent := true, tagged := k.isSome }
  let bytes := ympBytes 5 0 (Config.firmwareWord s.fresh).toNat (k.elim 0 Prod.fst)
    (if k.isSome then (Config.firmwareWord (s.fresh + 1)).toNat else 0) (eventPayload e') (k.map Prod.snd)
  let s := s.hostSend p (.ymp d bytes)
  { s with
    fresh := s.fresh + 2
    hep := { s.hep with
      lostNow := if e.sent then s.hep.lostNow else 0
      events := s.hep.events.map (fun x => if x.eseq = e.eseq then e' else x) } }

/-- Events not yet sent, TRAP events first, each class in ESEQ order (R378). -/
def unsentEvents (s : State) : List Event :=
  let u := s.hep.events.filter (fun e => !e.sent)
  u.filter (fun e => e.cls == 1) ++ u.filter (fun e => e.cls != 1)

/-- The events given are sent, when there is a port and a destination for them (R379). -/
def sendEvents (s : State) (es : List Event) : State :=
  match eventPort s with
  | none => s
  | some p =>
    match eventDest s p with
    | none => s
    | some d => es.foldl (fun s e => sendEvent s p d e) s

/-- Event classes (Table 16.6). -/
def evFault : Nat := 0
def evTrap : Nat := 1
def evReady : Nat := 2
def evDisc : Nat := 3
def evRestart : Nat := 4
def evRecovery : Nat := 5

/-- A new event joins the queue of 256; a full queue loses its oldest (R379). (DESIGN CHOICE, notes/assumptions/24.md) -/
def queueEvent (s : State) (cls block : Nat) (data : W64) : State :=
  let e : Event := ⟨s.hep.nextEseq, cls, block, 0, BitVec.ofNat 32 (s.field 0x20 17 0), data, hepTime s, s.reg 0x48, false, false⟩
  let full := decide (s.hep.events.length ≥ 256)
  let s := if full then s.countReg 0x9000410 1 else s
  { s with hep := { s.hep with
      nextEseq := s.hep.nextEseq + 1
      lostNow := if full then min (s.hep.lostNow + 1) 0xFFFF else s.hep.lostNow
      events := (if full then s.hep.events.drop 1 else s.hep.events) ++ [e] } }

/-- The MGC forms an event and the HEP sends what can be sent (R378, R379). -/
def pushEvent (s : State) (cls block : Nat) (data : W64) : State :=
  let s := queueEvent s cls block data
  sendEvents s (unsentEvents s)

end Sys2Proof.Machine
end

