-- ==== Sys2Proof/Machine/Flags.lean ====
section
/-!
DEFINITION. Number formats, conversions and arithmetic, with the flags each result sets (spec/06, R155 to R174): flag
bit 0 is INVALID, bit 1 OVERFLOW, bit 2 NAN_IN. An element of a narrow format stands in the low bits of its word.
-/

namespace Sys2Proof.Machine

/-- The three flags of a completion record (R170). -/
abbrev Fl := BitVec 3

/-- INVALID. -/
def fInvalid : Fl := 1
/-- OVERFLOW. -/
def fOverflow : Fl := 2
/-- NAN_IN. -/
def fNanIn : Fl := 4

/-- A floating format (Table 6.2): exponent and fraction bits, bias, and whether it has infinities. -/
structure FFmt where
  e    : Nat
  m    : Nat
  bias : Nat
  inf  : Bool
deriving DecidableEq, Repr

/-- The floating format of a code of Table 6.1. -/
def ffmt (code : Nat) : FFmt :=
  if code = 0 then ⟨8, 23, 127, true⟩ else if code = 1 then ⟨8, 7, 127, true⟩ else if code = 2 then ⟨5, 10, 15, true⟩
  else if code = 3 then ⟨4, 3, 7, false⟩ else ⟨5, 2, 15, true⟩

/-- Codes 0 to 4 are floating. -/
def fmtFloat (code : Nat) : Bool := code < 5

/-- Codes 0 to 7 are defined. -/
def fmtDefined (code : Nat) : Bool := code < 8

/-- Bytes of an element (Table 6.1). -/
def fmtSize (code : Nat) : Nat :=
  if code = 0 ∨ code = 7 then 4 else if code = 1 ∨ code = 2 then 2 else 1

/-- A conversion exists between `a` and `b` (R160). -/
def fmtPair (a b : Nat) : Bool :=
  fmtDefined a && fmtDefined b && (fmtFloat a == fmtFloat b)

/-- A floating value: a NaN, an infinity, or (−1)^neg × mant × 2^exp. -/
inductive FVal where
  | nan
  | inf (neg : Bool)
  | fin (neg : Bool) (mant : Nat) (exp : Int)
deriving DecidableEq, Repr

/-- The value an encoding stands for (R156). -/
def fdecode (f : FFmt) (x : Nat) : FVal :=
  let fr := bits x (f.m - 1) 0
  let ex := bits x (f.m + f.e - 1) f.m
  let neg := bit x (f.m + f.e)
  if ex = 2 ^ f.e - 1 ∧ f.inf then (if fr = 0 then .inf neg else .nan)
  else if ex = 2 ^ f.e - 1 ∧ fr = 2 ^ f.m - 1 then .nan
  else if ex = 0 then .fin neg fr (1 - (f.bias : Int) - f.m)
  else .fin neg (2 ^ f.m + fr) ((ex : Int) - f.bias - f.m)

/-- The canonical NaN (Table 6.3). -/
def fnan (f : FFmt) : Nat :=
  if f.inf then (2 ^ f.e - 1) * 2 ^ f.m + 2 ^ (f.m - 1) else 2 ^ (f.m + f.e) - 1

/-- Infinity, or in E4M3 the largest finite value (R163). -/
def finf (f : FFmt) (neg : Bool) : Nat :=
  b2n neg * 2 ^ (f.m + f.e) + (if f.inf then (2 ^ f.e - 1) * 2 ^ f.m else 2 ^ (f.m + f.e) - 2)

/-- The largest finite value. -/
def fmax (f : FFmt) (neg : Bool) : Nat :=
  b2n neg * 2 ^ (f.m + f.e) + (if f.inf then (2 ^ f.e - 1) * 2 ^ f.m - 1 else 2 ^ (f.m + f.e) - 2)

/-- `v / 2^k` rounded to nearest, ties to even (R161). -/
def shiftRne (v k : Nat) : Nat :=
  let q := v / 2 ^ k
  let r := v % 2 ^ k
  if k = 0 then v else if 2 * r > 2 ^ k ∨ (2 * r = 2 ^ k ∧ q % 2 = 1) then q + 1 else q

/-- Encodes a value, rounding by R161 and treating overflow by R163 with the CONV_INF given. -/
def fencode (f : FFmt) (convInf : Bool) (v : FVal) : Nat × Fl :=
  match v with
  | .nan => (fnan f, 0)
  | .inf neg => (finf f neg, if f.inf then 0 else fOverflow)
  | .fin neg mant exp =>
    if mant = 0 then (b2n neg * 2 ^ (f.m + f.e), 0)
    else
      let emin : Int := 1 - (f.bias : Int) - f.m
      let t : Int := max (exp + (Nat.log2 mant : Int) - f.m) emin
      let q := if t ≤ exp then mant * 2 ^ (exp - t).toNat else shiftRne mant (t - exp).toNat
      let (q, t) := if q = 2 ^ (f.m + 1) then (2 ^ f.m, t + 1) else (q, t)
      let mag : Nat := if q < 2 ^ f.m then q else ((t - emin).toNat + 1) * 2 ^ f.m + (q - 2 ^ f.m)
      let top : Nat := if f.inf then (2 ^ f.e - 1) * 2 ^ f.m - 1 else 2 ^ (f.m + f.e) - 2
      if mag ≤ top then (b2n neg * 2 ^ (f.m + f.e) + mag, 0)
      else (if convInf then finf f neg else fmax f neg, fOverflow)

/-- Range of an integer format (R157). -/
def intLo (code : Nat) : Int := if code = 5 then -128 else if code = 6 then 0 else -2147483648
/-- Upper end of an integer format's range. -/
def intHi (code : Nat) : Int := if code = 5 then 127 else if code = 6 then 255 else 2147483647

/-- The value of an integer element. -/
def intVal (code : Nat) (x : Nat) : Int :=
  if code = 5 then signed 8 x else if code = 6 then ((x % 256 : Nat) : Int) else signed 32 x

/-- An integer in its format, saturated (R164). -/
def intEncode (code : Nat) (v : Int) : Nat × Fl :=
  let c := max (intLo code) (min (intHi code) v)
  ((c % ((2 ^ (8 * fmtSize code) : Nat) : Int)).toNat, if c = v then 0 else fOverflow)

/-- Conversion of one element from format `src` to `dst` (R159 to R164). -/
def fmtConv (src dst : Nat) (convInf : Bool) (x : Nat) : Nat × Fl :=
  if src = dst then (x, 0)
  else if fmtFloat src then
    match fdecode (ffmt src) x with
    | .nan => (fnan (ffmt dst), fNanIn)
    | v => fencode (ffmt dst) convInf v
  else intEncode dst (intVal src x)

/-- The accumulation format of a wire format (Table 6.1). -/
def accFmt (code : Nat) : Nat := if fmtFloat code then 0 else 7

/-- Widening to the accumulation format (exact but for a NaN; R160). -/
def fmtWiden (src : Nat) (x : Nat) : W32 × Fl :=
  let (v, f) := fmtConv src (accFmt src) false x
  (BitVec.ofNat 32 v, f)

/-- Narrowing from the accumulation format to `dst`. -/
def fmtNarrow (dst : Nat) (convInf : Bool) (x : W32) : Nat × Fl := fmtConv (accFmt dst) dst convInf x.toNat

/-- An FP32 word's value. -/
def f32 (x : W32) : FVal := fdecode (ffmt 0) x.toNat

/-- An FP32 result. -/
def toF32 (convInf : Bool) (v : FVal) : W32 × Fl :=
  let (r, f) := fencode (ffmt 0) convInf v
  (BitVec.ofNat 32 r, f)

/-- NAN_IN when one of the operands is a NaN. -/
def nanFlag (vs : List FVal) : Fl := if vs.contains .nan then fNanIn else 0

/-- Exact sum of two finite values. A zero sum is +0 unless both are −0 (Table 6.6). -/
def finAdd (n1 : Bool) (m1 : Nat) (e1 : Int) (n2 : Bool) (m2 : Nat) (e2 : Int) : FVal :=
  let e := min e1 e2
  let a : Int := (if n1 then -1 else 1) * ((m1 * 2 ^ (e1 - e).toNat : Nat) : Int)
  let b : Int := (if n2 then -1 else 1) * ((m2 * 2 ^ (e2 - e).toNat : Nat) : Int)
  if a + b = 0 then .fin (n1 && n2 && decide (m1 = 0) && decide (m2 = 0)) 0 0
  else .fin (decide (a + b < 0)) (a + b).natAbs e

/-- Sum of two values, exactly, with INVALID for infinities of opposite sign (Table 6.6). -/
def fsum (a b : FVal) : FVal × Fl :=
  match a, b with
  | .nan, _ => (.nan, 0)
  | _, .nan => (.nan, 0)
  | .inf s, .inf t => if s = t then (.inf s, 0) else (.nan, fInvalid)
  | .inf s, .fin _ _ _ => (.inf s, 0)
  | .fin _ _ _, .inf t => (.inf t, 0)
  | .fin n1 m1 e1, .fin n2 m2 e2 => (finAdd n1 m1 e1 n2 m2 e2, 0)

/-- Product of two values, exactly, with INVALID for zero times infinity (Table 6.6). -/
def fprod (a b : FVal) : FVal × Fl :=
  match a, b with
  | .nan, _ => (.nan, 0)
  | _, .nan => (.nan, 0)
  | .inf s, .inf t => (.inf (s != t), 0)
  | .inf s, .fin t m _ => if m = 0 then (.nan, fInvalid) else (.inf (s != t), 0)
  | .fin s m _, .inf t => if m = 0 then (.nan, fInvalid) else (.inf (s != t), 0)
  | .fin s m1 e1, .fin t m2 e2 => (.fin (s != t) (m1 * m2) (e1 + e2), 0)

/-- FP32 addition (R167, R168). -/
def fadd (convInf : Bool) (a b : W32) : W32 × Fl :=
  let (v, f) := fsum (f32 a) (f32 b)
  let (r, g) := toF32 convInf v
  (r, f ||| g ||| nanFlag [f32 a, f32 b])

/-- FP32 multiplication. -/
def fmul (convInf : Bool) (a b : W32) : W32 × Fl :=
  let (v, f) := fprod (f32 a) (f32 b)
  let (r, g) := toF32 convInf v
  (r, f ||| g ||| nanFlag [f32 a, f32 b])

/-- FP32 a × b + c, rounded once (R167). -/
def ffma (convInf : Bool) (a b c : W32) : W32 × Fl :=
  let (p, f) := fprod (f32 a) (f32 b)
  let (v, g) := fsum p (f32 c)
  let (r, h) := toF32 convInf v
  (r, f ||| g ||| h ||| nanFlag [f32 a, f32 b, f32 c])

/-- Is `a` less than `b`, both not NaN (zeros of either sign equal). -/
def fless (a b : FVal) : Bool :=
  match a, b with
  | .inf s, .inf t => s && !t
  | .inf s, _ => s
  | _, .inf t => !t
  | .fin n1 m1 e1, .fin n2 m2 e2 =>
    let e := min e1 e2
    decide ((if n1 then -1 else 1) * ((m1 * 2 ^ (e1 - e).toNat : Nat) : Int) < (if n2 then -1 else 1) * ((m2 * 2 ^ (e2 - e).toNat : Nat) : Int))
  | _, _ => false

/-- FP32 maximum (Table 6.6). -/
def fmaximum (a b : W32) : W32 × Fl :=
  if f32 a = .nan ∨ f32 b = .nan then (0x7FC00000, fNanIn)
  else if fless (f32 a) (f32 b) then (b, 0)
  else if fless (f32 b) (f32 a) then (a, 0)
  else if a.getLsbD 31 then (b, 0) else (a, 0)

/-- INT32 addition, saturating (R164). -/
def iadd (a b : W32) : W32 × Fl :=
  let (r, f) := intEncode 7 (intVal 7 a.toNat + intVal 7 b.toNat)
  (BitVec.ofNat 32 r, f)

/-- INT32 accumulation of an exact 8-bit product (R166). -/
def imac (a b c : W32) : W32 × Fl :=
  let (r, f) := intEncode 7 (intVal 7 a.toNat * intVal 7 b.toNat + intVal 7 c.toNat)
  (BitVec.ofNat 32 r, f)

/-- INT32 maximum. -/
def imaximum (a b : W32) : W32 := if intVal 7 a.toNat < intVal 7 b.toNat then b else a

/-- Addition in the accumulation format: FP32, or INT32 when not floating. -/
def accAdd (floating convInf : Bool) (a b : W32) : W32 × Fl := if floating then fadd convInf a b else iadd a b

end Sys2Proof.Machine
end

