-- ==== Sys2Proof/Machine/Operands.lean ====
section
/-!
DEFINITION. The operands of packet commands: header fields, checksums, and what a receiver understands (spec/02, R37 to
R61). Header byte n stands in bits [8n + 7 : 8n] of `Packet.hdr`.
-/

namespace Sys2Proof

open Machine

/-- Header field of `w` bits from bit `lo` on. -/
def Packet.f (p : Packet) (lo w : Nat) : Nat := p.hdr.toNat / 2 ^ lo % 2 ^ w

/-- The header with that field set. -/
def Packet.set (p : Packet) (lo w v : Nat) : Packet :=
  { p with hdr := BitVec.ofNat 512 (p.hdr.toNat - p.f lo w * 2 ^ lo + v % 2 ^ w * 2 ^ lo) }

/-- Field of bytes `byte` on, `w` bits. -/
def Packet.at (p : Packet) (byte w : Nat) : Nat := p.f (8 * byte) w

/-- VER. -/
def Packet.ver (p : Packet) : Nat := p.f 0 4
/-- MU. -/
def Packet.mu (p : Packet) : Bool := p.f 4 1 == 1
/-- LAST. -/
def Packet.last (p : Packet) : Bool := p.f 5 1 == 1
/-- E2E. -/
def Packet.e2e (p : Packet) : Bool := p.f 6 1 == 1
/-- TYPE. -/
def Packet.typ (p : Packet) : Nat := p.f 8 8
/-- TC. -/
def Packet.tc (p : Packet) : Nat := p.f 16 3
/-- DL. -/
def Packet.dl (p : Packet) : Nat := p.f 19 1
/-- COLOUR: NONE 0, GREEN 1, YELLOW 2. -/
def Packet.colour (p : Packet) : Nat := p.f 20 2
/-- HOPS. -/
def Packet.hops (p : Packet) : Nat := p.f 24 8
/-- DST. -/
def Packet.dst (p : Packet) : Nat := p.f 32 32
/-- SRC. -/
def Packet.src (p : Packet) : Nat := p.f 64 32
/-- CONTRACT. -/
def Packet.contract (p : Packet) : Nat := p.f 128 12
/-- CV. -/
def Packet.cv (p : Packet) : Bool := p.f 143 1 == 1
/-- PAYLEN. -/
def Packet.paylen (p : Packet) : Nat := p.f 144 12
/-- DSVC. -/
def Packet.dsvc (p : Packet) : Bool := p.f 156 1 == 1
/-- SSVC. -/
def Packet.ssvc (p : Packet) : Bool := p.f 157 1 == 1
/-- SEQ. -/
def Packet.seq (p : Packet) : Nat := p.f 160 32
/-- MSG_ID. -/
def Packet.msgId (p : Packet) : Nat := p.f 192 32
/-- PKT_IDX. -/
def Packet.idx (p : Packet) : Nat := p.f 224 16
/-- PKT_CNT. -/
def Packet.cnt (p : Packet) : Nat := p.f 240 16
/-- E2E_CRC. -/
def Packet.e2eCrc (p : Packet) : W32 := BitVec.ofNat 32 (p.f 448 32)
/-- HCRC. -/
def Packet.hcrc (p : Packet) : W32 := BitVec.ofNat 32 (p.f 480 32)

/-- The PAYLEN bytes of the payload. -/
def Packet.data (p : Packet) : List Byte := p.pay.take p.paylen

/-- Flits of the packet (R39). -/
def Packet.flits (p : Packet) : Nat := 1 + ceilDiv p.paylen 64

/-- The header bytes 0 to 59 as HCRC takes them: byte 2 [5:3] and byte 3 zero (R42). -/
def Packet.hcrcBytes (p : Packet) : List Byte := leBytes 60 ((p.set 19 3 0).set 24 8 0).hdr.toNat

/-- The HCRC the header should carry. -/
def Packet.hcrcOf (p : Packet) : W32 := crc32c p.hcrcBytes

/-- The packet with HCRC computed. -/
def Packet.seal (p : Packet) : Packet := p.set 480 32 p.hcrcOf.toNat

/-- Ten-bit expert number `i` of a DISPATCH (Table 2.8). -/
def Packet.expert (p : Packet) (i : Nat) : Nat := p.f (8 * 46 + 10 * i) 10

namespace Machine

/-- X of a coordinate word (Table 2.1). -/
def cwX (cw : Nat) : Nat := bits cw 5 0
/-- Y. -/
def cwY (cw : Nat) : Nat := bits cw 11 6
/-- Z. -/
def cwZ (cw : Nat) : Nat := bits cw 17 12
/-- Coordinate on axis 0, 1, 2. -/
def cwAxis (cw a : Nat) : Nat := bits cw (6 * a + 5) (6 * a)
/-- P. -/
def cwP (cw : Nat) : Nat := bits cw 23 18
/-- X, Y and Z together. -/
def cwSw (cw : Nat) : Nat := bits cw 17 0
/-- W. -/
def cwW (cw : Nat) : Nat := bits cw 29 24

/-- Type codes (Table 2.4). -/
def tStoreWrite : Nat := 0x01
def tStoreRead : Nat := 0x02
def tStoreReadResp : Nat := 0x03
def tGather : Nat := 0x04
def tGatherSum : Nat := 0x05
def tContribute : Nat := 0x10
def tResult : Nat := 0x11
def tCompletion : Nat := 0x12
def tAbort : Nat := 0x13
def tDispatch : Nat := 0x18
def tExpertOut : Nat := 0x19
def tCombineResult : Nat := 0x1A
def tMilestoneOp : Nat := 0x20
def tMilestoneNotify : Nat := 0x21
def tPoolAlloc : Nat := 0x28
def tPoolResp : Nat := 0x29
def tPoolShare : Nat := 0x2A
def tPoolDrop : Nat := 0x2B
def tPoolFree : Nat := 0x2C
def tStop : Nat := 0x30
def tEpoch : Nat := 0x31
def tLinkCtrl : Nat := 0x32

/-- The types of Table 2.4. -/
def typeKnown (t : Nat) : Bool :=
  [0x01, 0x02, 0x03, 0x04, 0x05, 0x10, 0x11, 0x12, 0x13, 0x18, 0x19, 0x1A, 0x20, 0x21, 0x28, 0x29, 0x2A, 0x2B, 0x2C,
    0x30, 0x31, 0x32].contains t

/-- Link-local types (R46). -/
def typeLinkLocal (t : Nat) : Bool := decide (0x30 ≤ t) && decide (t ≤ 0x32)

/-- DSVC values a type admits: (0 allowed, 1 allowed) (Table 2.4). -/
def typeDsvc (t : Nat) : Bool × Bool :=
  if t = tStoreWrite ∨ t = tStoreRead ∨ t = tDispatch then (true, true)
  else if [0x03, 0x11, 0x12, 0x13, 0x1A, 0x21, 0x29].contains t then (true, false)
  else (false, true)

/-- Largest PKT_CNT of a type (Table 2.4). -/
def typeMaxCnt (t : Nat) : Nat :=
  if [0x01, 0x03, 0x04, 0x05, 0x10, 0x11].contains t then 65535
  else if [0x18, 0x19, 0x1A].contains t then 32 else 1

/-- Bits of the common header that are reserved (Table 2.2), and of DST and SRC (Table 2.1). -/
def commonReserved : List (Nat × Nat) := [(7, 1), (22, 2), (62, 2), (88, 8), (140, 3), (158, 2)]

/-- Reserved fields of bytes 32 to 55, by type (Tables 2.5 to 2.11), as (first bit, width). -/
def typeReserved (t : Nat) : List (Nat × Nat) :=
  let b := fun n => 8 * n
  if t = 0x01 ∨ t = 0x02 then [(b 50 + 2, 14)]
  else if t = 0x04 ∨ t = 0x05 then [(b 32, 40), (b 50 + 2, 14)]
  else if t = 0x03 then [(b 37 + 4, 20), (b 44, 96)]
  else if t = 0x10 then [(b 32 + 12, 4), (b 42 + 4, 4), (b 52 + 17, 7)]
  else if t = 0x11 then [(b 32 + 12, 4), (b 42 + 4, 12), (b 52, 24)]
  else if t = 0x12 ∨ t = 0x13 then [(b 32 + 12, 4), (b 41 + 3, 5), (b 42, 16), (b 52, 24)]
  else if t = 0x18 then [(b 32 + 7, 1)]
  else if t = 0x19 then [(b 32 + 6, 2), (b 44, 16), (b 46 + 10, 70)]
  else if t = 0x1A then [(b 32 + 6, 2), (b 33 + 4, 4), (b 41 + 4, 4), (b 43 + 3, 5), (b 46, 80)]
  else if t = 0x20 then [(b 35 + 1, 7), (b 44, 32), (b 52, 32)]
  else if t = 0x21 then [(b 35, 8), (b 44, 32), (b 52, 32)]
  else if t = 0x28 then [(b 36 + 1, 31), (b 43 + 6, 2), (b 48, 64)]
  else if t = 0x2A then [(b 36, 32), (b 43 + 6, 2), (b 48, 64)]
  else if t = 0x2B ∨ t = 0x2C then [(b 36, 64), (b 48, 64)]
  else if t = 0x29 then [(b 37 + 4, 52), (b 53, 24)]
  else []

/-- Enumerated fields hold defined codes (R48), by type. -/
def typeEnums (p : Packet) : Bool :=
  let t := p.typ
  p.colour < 3 &&
  (if t = 0x01 ∨ t = 0x02 ∨ t = 0x04 ∨ t = 0x05 then p.at 37 4 < 8 && p.f (8 * 37 + 4) 4 < 8
   else if t = 0x03 then p.at 36 8 ≤ 3 && p.at 37 4 < 8
   else if t = 0x10 then p.at 40 16 ≤ 5 && p.at 42 4 < 8
   else if t = 0x11 then p.at 40 16 ≤ 5 && p.at 42 4 < 8
   else if t = 0x12 then p.at 40 8 == 0
   else if t = 0x13 then 1 ≤ p.at 40 8 && p.at 40 8 ≤ 5
   else if t = 0x18 ∨ t = 0x19 ∨ t = 0x1A then p.at 33 4 < 8
   else if t = 0x20 then p.at 34 8 ≤ 2
   else if t = 0x21 then p.at 34 8 ≤ 3
   else if t = 0x29 then p.at 36 8 ≤ 6 && p.at 37 4 < 8
   else true)

/-- What R48 makes of a packet at its destination switch: nothing amiss, or dropped with or without PKT_MALFORMED. -/
inductive Understood where
  | yes
  | dropSilent
  | dropMalformed
deriving DecidableEq, Repr

/-- R48. -/
def understand (p : Packet) : Understood :=
  let known := typeKnown p.typ && typeEnums p
  let clean := (commonReserved ++ typeReserved p.typ).all (fun r => p.f r.1 r.2 == 0)
  if known && clean then .yes
  else if p.mu then .dropSilent
  else if known then .yes else .dropMalformed

/-- Check 3 of Table 2.12 against the link's FABVER. -/
def check3 (p : Packet) (fabver : Nat) : Bool :=
  p.ver ≤ fabver && p.paylen ≤ 2048 && p.paylen % 16 == 0 && 1 ≤ p.cnt && p.idx < p.cnt && (p.last == (p.idx + 1 == p.cnt))

/-- Check 11: E2E_CRC over the payload. -/
def check11 (p : Packet) : Bool := !p.e2e || p.e2eCrc == crc32c p.data

/-- A header from (first bit, width, value) triples. -/
def mkHdr (fs : List (Nat × Nat × Nat)) : BitVec 512 :=
  BitVec.ofNat 512 (fs.foldl (fun a f => a + f.2.2 % 2 ^ f.2.1 * 2 ^ f.1) 0)

/-- Bytes of a payload as elements of a format. -/
def elemsOf (fmt : Nat) (bs : List Byte) : List Nat :=
  let n := fmtSize fmt
  (chunksOf n (bs.length / n) bs).map leNat

/-- Elements of a format as bytes. -/
def elemBytes (fmt : Nat) (es : List Nat) : List Byte := es.flatMap (fun e => leBytes (fmtSize fmt) e)

/-- A byte list padded with zeros to a multiple of 16. -/
def pad16 (bs : List Byte) : List Byte := bs ++ List.replicate ((16 - bs.length % 16) % 16) 0

end Machine

end Sys2Proof
end

