-- ==== Sys2Proof/Machine/Ops.lean ====
section
/-!
DEFINITION. The named operations that every family shares: event counters (spec/17), raising a fault source (R322 to
R324), ports, packet origination (R38, R43, R44, R419), message contexts (R52 to R57) and accesses to the tensor store
(R31 to R34, R273, R274, R281).
-/

namespace Sys2Proof.Machine

/-- The outcome of a command of this block: always a next state. -/
abbrev Out := Host.Outcome State Fault Refusal

/-! ## Power, halt and grade -/

/-- FCO_HALT.LATCHED (R330). -/
def latched (s : State) : Bool := bit (s.regN 0x200018) 0

/-- The chip is held in reset by a rail (R408), or by a pin, which a latched halt does not heed (R330, R341, R399). -/
def held (s : State) : Bool := !s.pins.railsOk || (!latched s && (!s.pins.rstN || s.pins.testEn))

/-- The fabric side runs: not held in reset and no latched halt. -/
def coreOn (s : State) : Bool := !held s && !latched s

/-- GLB_STOP_INFO.SEEN: the switch is halted (R329). -/
def halted (s : State) : Bool := bit (s.regN 0x58) 48

/-- GLB_BOOT_STATUS.STATE. -/
def bootState (s : State) : Nat := s.field 0xA0 3 0

/-- Engine `n` is present (R2). -/
def present (s : State) (n : Nat) : Bool := enginePresent s.fuses n

/-- The switch's own X, Y and Z (GLB_PLACE.COORD). -/
def ownSw (s : State) : Nat := s.field 0x20 17 0

/-- Dimension of axis `a` (RTE_DIMS). -/
def dimAxis (s : State) (a : Nat) : Nat := s.field 0x2000004 (8 * a + 6) (8 * a)

/-- CONV_INF as it reads now (R173). -/
def convInfNow (s : State) : Bool := bit (s.regN 0x80) 0

/-! ## Event counters -/

/-- Qualifiers a source's family carries: (defined, PORT, TC, GROUP) (Table 17.1). -/
def ecbFamily (src : Nat) : Bool × Bool × Bool × Bool :=
  let has (lo hi : Nat) := decide (lo ≤ src) && decide (src ≤ hi)
  if has 0x001 0x005 then (true, false, false, false)
  else if has 0x010 0x01C || has 0x020 0x02F || has 0x040 0x045 || has 0x050 0x056 then (true, true, true, false)
  else if has 0x030 0x038 then (true, true, false, false)
  else if has 0x060 0x075 || has 0x080 0x091 then (true, true, true, true)
  else if has 0x0A0 0x0B1 || has 0x0C0 0x0CB then (true, true, true, false)
  else if has 0x0D0 0x0FF then (true, false, false, false)
  else if has 0x100 0x11F then (decide ((src - 0x100) / 8 ≠ (src - 0x100) / 2 % 4), false, false, false)
  else if has 0x200 0x3FF then (true, false, false, false)
  else (false, false, false, false)

/-- ECB_SEL_k.QBAD for a select word (R384). -/
def ecbBad (sel : Nat) : Bool :=
  let (d, p, t, g) := ecbFamily (bits sel 9 0)
  !d || (bit sel 11 && !p) || (bits sel 25 18 != 0xFF && !t) || (bit sel 26 && !g)

/-- An occurrence with these attributes matches a select word (R384). -/
def ecbMatch (sel src : Nat) (port tc grp : Option Nat) : Bool :=
  bit sel 10 && bits sel 9 0 == src && !ecbBad sel &&
  (!bit sel 11 || port == some (bits sel 17 12)) &&
  (bits sel 25 18 == 0xFF || (match tc with | some t => bit sel (18 + t) | none => false)) &&
  (!bit sel 26 || grp == some (bits sel 38 27))

/-- Adds `n` to counter `k`; a wrap sets its overflow bit (R382). -/
def ecbAdd (csr : Tab W64) (k n : Nat) : Tab W64 :=
  let v := (tabOr csr (0x302000 + 8 * k) 0).toNat + n
  let csr := tabSet csr (0x302000 + 8 * k) (BitVec.ofNat 64 v)
  if v < 2 ^ 64 then csr
  else tabSet csr (0x300040 + k / 64 * 8) (tabOr csr (0x300040 + k / 64 * 8) 0 ||| BitVec.ofNat 64 (2 ^ (k % 64)))

/-- What an occurrence adds to the counters: to each that runs under a select it matches (R382, R384). -/
def ecbStep (csr : Tab W64) (t : Tab Nat) (o : Occ) : Tab Nat :=
  (csr.filter (fun e => decide (0x301000 ≤ e.1) && decide (e.1 < 0x301800) && e.1 % 8 == 0 &&
    ecbMatch e.2.toNat o.src o.port o.tc o.grp)).foldl (fun t e => tabAdd t ((e.1 - 0x301000) / 8) o.n) t

/-- What the events of a cycle add to the counters, under RUN and the selects as they stand at its end (R382, R383). -/
def ecbSteps (csr : Tab W64) (evts : List Occ) : Tab Nat :=
  if bit (tabOr csr 0x300000 1).toNat 0 then evts.foldl (ecbStep csr) [] else []

/-- Increments added to the counters. -/
def ecbAddAll (csr : Tab W64) (t : Tab Nat) : Tab W64 := t.foldl (fun c e => ecbAdd c e.1 e.2) csr

/-- The register file with every event of the cycles before the present one added (R387). -/
def ecbFull (s : State) : Tab W64 := s.ecbPend.foldl (fun c e => ecbAddAll c e.2) s.csr

/-- `n` occurrences of event source `src` with the attributes it carries, in the present cycle (R382).
(DESIGN CHOICE, notes/assumptions/14.md) -/
def count (src n : Nat) (port tc grp : Option Nat) (s : State) : State :=
  { s with evts := if n = 0 then s.evts else s.evts ++ [⟨src, n, port, tc, grp⟩] }

/-- The end of a CCLK cycle at the ECB: what the events of the cycle add is fixed, and what those of 16 cycles before add is
added (R383). (DESIGN CHOICE, notes/assumptions/14.md) -/
def ecbEndCycle (s : State) : State :=
  let t := ecbSteps s.csr s.evts
  let pend := if t.isEmpty then s.ecbPend else s.ecbPend ++ [(s.now, t)]
  { s with
    evts := []
    csr := (pend.filter (fun e => decide (e.1 + 16 ≤ s.now))).foldl (fun c e => ecbAddAll c e.2) s.csr
    ecbPend := pend.filter (fun e => decide (s.now < e.1 + 16)) }

/-- An event at a port for a packet. -/
def countPkt (src port : Nat) (p : Packet) (s : State) : State := count src 1 (some port) (some p.tc) none s

/-! ## Fault sources -/

/-- FCO_CFG.MODE is COLLECTED (R332). -/
def collected (s : State) : Bool := bit (s.regN 0x200000) 0

/-- The hardware sets W1C bits of the register at `a`: a write in the same CCLK cycle will not clear them (R24). -/
def State.setSticky (s : State) (a : Nat) (m : W64) : State :=
  { s.setReg a (s.reg a ||| m) with w1cSet := tabSet s.w1cSet a (tabOr s.w1cSet a 0 ||| m) }

/-- Raises source `src` in block `b`: its sticky bit is set, and if it was 0 its reactions wait for the end of the
CCLK cycle; a bit that stood at 1 when the cycle began is noted, for a write that clears it in the same cycle (R322, R323). -/
def raise (b : Blk) (src : Nat) (s : State) : State :=
  let a := blkFlt b
  let old := bit (s.regN a) src
  let stood := old && !(tabOr s.w1cSet a 0).getLsbD src
  let s := s.setSticky a (BitVec.ofNat 64 (2 ^ src))
  if old then { s with again := if stood then s.again ++ [(b, src)] else s.again }
  else
    let s := if collected s then s.setSticky 0x200008 (BitVec.ofNat 64 (2 ^ blkFaultBlock b)) else s
    { s with raised := s.raised ++ [(b, src)] }

/-- Raises `src` when `c` holds. -/
def raiseIf (c : Bool) (b : Blk) (src : Nat) (s : State) : State := if c then raise b src s else s

/-! ## Ports -/

/-- Port unit `n`. -/
def State.port (s : State) (n : Nat) : Port := s.ports.get (Fin.ofNat 64 n)

/-- Port unit `n` replaced. -/
def State.setPort (s : State) (n : Nat) (p : Port) : State := { s with ports := s.ports.set (Fin.ofNat 64 n) p }

/-- Port unit `n` changed by `f`. -/
def State.modPort (s : State) (n : Nat) (f : Port → Port) : State := s.setPort n (f (s.port n))

/-- Engine `n`. -/
def State.engine (s : State) (n : Nat) : Engine := s.engines.get (Fin.ofNat 64 n)

/-- Engine `n` replaced. -/
def State.setEngine (s : State) (n : Nat) (e : Engine) : State := { s with engines := s.engines.set (Fin.ofNat 64 n) e }

/-- Engine `n` changed by `f`. -/
def State.modEngine (s : State) (n : Nat) (f : Engine → Engine) : State := s.setEngine n (f (s.engine n))

/-- Roles (Table 3.8). -/
def roleNone : Nat := 0
def roleEndpoint : Nat := 1
def roleTrunk : Nat := 2

/-- Port numbers. -/
def allPorts : List Nat := List.range 64

/-- UP ports of FABVER 1 that do not carry only plain forwarding. -/
def upPorts (s : State) : List Nat := allPorts.filter (fun n => (s.port n).link == .up && (s.port n).fabver ≥ 1)

/-- Quadrant of a port unit (R12). -/
def quadOf (port : Nat) : Nat := port / 16

/-- A packet from the switch: `typ`, TC, DST, DSVC, message and place in it, payload, and the type's own fields (R44).
(DEDUCED, notes/assumptions/15.md) -/
def mkPacket (typ tc dst : Nat) (dsvc : Bool) (msgId : W32) (idx cnt : Nat) (pay : List Byte)
    (own : List (Nat × Nat × Nat)) : Packet :=
  let e2e := !pay.isEmpty
  { hdr := mkHdr ([(0, 4, 1), (5, 1, b2n (idx + 1 == cnt)), (6, 1, b2n e2e), (8, 8, typ), (16, 3, tc), (32, 32, dst),
      (144, 12, pay.length), (156, 1, b2n dsvc), (157, 1, 1), (192, 32, msgId.toNat), (224, 16, idx), (240, 16, cnt),
      (448, 32, if e2e then (crc32c pay).toNat else 0)] ++ own)
    pay := pay }

/-- A packet handed to the link-local queue of port `n`, with its SEQ (R43, R46). One that no request causes carries TC 0. (DESIGN
CHOICE, notes/assumptions/71.md) -/
def sendLinkLocal (n : Nat) (typ ver : Nat) (own : List (Nat × Nat × Nat)) (s : State) : State :=
  let p : Packet := { hdr := mkHdr ([(0, 4, ver), (5, 1, 1), (8, 8, typ), (64, 32, ownSw s + n * 2 ^ 18), (157, 1, 1),
      (160, 32, s.seqCtr.toNat), (192, 32, s.msgCtr.toNat), (240, 16, 1)] ++ own), pay := [] }
  let s := s.modPort n (fun q => { q with linkLocal := q.linkLocal ++ [p.seal] })
  { s with seqCtr := s.seqCtr + 1, msgCtr := s.msgCtr + 1 }

/-- The next message identifier of the switch (R58). -/
def newMsgId (s : State) : W32 × State := (s.msgCtr, { s with msgCtr := s.msgCtr + 1 })

/-! ## Message contexts -/

/-- The context of message (SRC, MSG_ID), if open. -/
def findMsg (s : State) (src msgId : W32) : Option MsgCtx := s.msgs.find? (fun c => c.src == src && c.msgId == msgId)

/-- The context replaced by its new value. -/
def putMsg (c : MsgCtx) (s : State) : State :=
  { s with msgs := s.msgs.map (fun d => if d.src == c.src && d.msgId == c.msgId then c else d) }

/-- The context of (SRC, MSG_ID) closed. -/
def dropMsg (src msgId : W32) (s : State) : State :=
  { s with msgs := s.msgs.filter (fun d => !(d.src == src && d.msgId == msgId)) }

/-- What message accounting makes of a packet (R52 to R55): dropped, or counted into its context, as the first packet of
the message or not, completing it or not. -/
inductive MsgRes where
  | dropped
  | counted (ctx : MsgCtx) (first complete : Bool)
deriving DecidableEq, Repr

/-- A fresh context for a packet. -/
def newCtx (s : State) (port : Nat) (p : Packet) : MsgCtx :=
  { src := BitVec.ofNat 32 p.src, msgId := BitVec.ofNat 32 p.msgId, typ := p.typ, cnt := p.cnt, hdr := p.hdr, port := port,
    got := [p.idx], convInf := convInfNow s, bad := false, stopped := false, pkts := [] }

/-- Packets that wait in holding SRAM for their block, each with the port unit it came in by: of a row that is not whole or whose gate
weights have not come (R230), of a switch copy that is not whole, of a row whose batch has no buffer yet (R233). -/
def waitingPkts (s : State) : List (Nat × Packet) :=
  s.combs.flatMap (fun c => if c.known && c.complete then [] else c.pkts) ++ s.msgs.flatMap (·.pkts) ++
    s.xsteps.flatMap (fun x => x.batches.flatMap (fun b => b.waiting.flatMap (·.pkts)))

/-! ## The tensor store -/

/-- END (R268). -/
def storeEnd : Nat := 768000000000

/-- CSQ_REGION_BASE and the end of the collective region (Table 7.14). -/
def regionBase (s : State) : Nat := s.field 0x4000008 39 0
def regionEnd (s : State) : Nat := regionBase s + s.field 0x4000010 15 0 * 2 ^ 20

/-- `[a, a + n)` lies in the collective region. -/
def inRegion (s : State) (a n : Nat) : Bool := decide (regionBase s ≤ a) && decide (a + n ≤ regionEnd s)

/-- `[a, a + n)` lies in the fabric-visible range (R270): below END, and with no byte in the collective region. -/
def fabricVisible (s : State) (a n : Nat) : Bool :=
  n == 0 || (decide (a + n ≤ storeEnd) &&
    (decide (a + n ≤ regionBase s) || decide (regionEnd s ≤ a) || decide (regionEnd s = regionBase s)))

/-- Granules that `[a, a + n)` touches. -/
def granules (a n : Nat) : List Nat := if n = 0 then [] else (List.range ((a + n - 1) / 16 + 1 - a / 16)).map (fun i => a / 16 + i)

/-- Stack, channel of the stack and position in the channel of store row `r` (R269). -/
def stackOf (r : Nat) : Nat := 3 * (r % 4) + r / 4 % 3
def channelOf (r : Nat) : Nat := r / 12 % 16
def positionOf (r : Nat) : Nat := r / 192

/-- Write bursts of 64 bytes that a write of `[a, a + n)` costs, counted at their stacks (R269). -/
def countBursts (a n : Nat) (s : State) : State :=
  if n = 0 then s
  else (List.range ((a + n - 1) / 64 + 1 - a / 64)).foldl (fun s i =>
    count (0x0D1 + 4 * stackOf ((a / 64 + i) / 8)) 1 none none none s) s

/-- What the granule code makes of an error (R31). -/
inductive FlawClass where
  | clean | corrected | detected
  /-- Corrected to wrong data: these data bits are wrong. -/
  | missed (wrong : BitVec 128)
deriving DecidableEq, Repr

/-- The symbols of 8 bits in which a code word is wrong. -/
def wrongSymbols (e : Flaw) : List Nat := (List.range 18).filter (fun k => e.toNat / 2 ^ (8 * k) % 256 != 0)

/-- The class of an error pattern (R31). (DESIGN CHOICE, notes/assumptions/68.md) -/
def flawClass (e : Flaw) : FlawClass :=
  match (wrongSymbols e).length with
  | 0 => .clean
  | 1 => .corrected
  | k => if k = 2 ∧ popcount 144 e.toNat = 2 then .detected else
      match Config.aliased e with
      | none => .detected
      | some r => .missed r

/-- The bits of `m` turned over in the 16 bytes from `a` on. -/
def cellXor (mem : List Host.Cell) (a : Nat) (m : BitVec 128) : List Host.Cell :=
  cellWrite 0 mem a ((List.range 16).map (fun i => cellGet 0 mem (a + i) ^^^ BitVec.ofNat 8 (m.toNat / 2 ^ (8 * i))))

/-- A latent error of store granule `g` is met by a read of block `b`: corrected, in the store too, or poisoned and raised, and
then no row cache holds its row (R31 to R33, R281). (DEDUCED, notes/assumptions/17.md) -/
def flawRead (b : Blk) (g : Nat) (e : Flaw) (s : State) : State :=
  let s := { s with flaws := tabDel s.flaws g }
  let right := fun (s : State) => count 0x0AD 1 none none none (s.countReg 0x6000100 1)
  match flawClass e with
  | .clean => s
  | .corrected => right s
  | .missed r => right { s with mem := cellXor s.mem (16 * g) r }
  | .detected => raise b 0 (raise .tsc 0 (count 0x0AE 1 none none none
      ({ s with poison := setAdd s.poison g, rowCache := s.rowCache.filter (· != g / 32) }.countReg 0x6000108 1)))

/-- The row caches after row `r` has come into use: it is the most recently used, and the least recently used of a full set
of 16 is gone (R281). -/
def rowTouch (rc : List Nat) (r : Nat) : List Nat :=
  if rc.contains r then r :: rc.filter (· != r)
  else
    let same := rc.filter (fun x => x % 4 == r % 4 && Config.rowSet x % 256 == Config.rowSet r % 256)
    r :: (if same.length ≥ 16 then rc.filter (fun x => x != same.getLastD 0) else rc)

/-- Row `r` fetched from its channel for a read of the granules `gs` by block `b`: the latent errors of the row are met, and
the row is held from now on unless a granule of it is poisoned (R281). (DEDUCED, notes/assumptions/17.md) -/
def rowFill (b : Blk) (gs : List Nat) (r : Nat) (s : State) : State :=
  let s := (s.flaws.filter (fun e => e.1 / 32 == r)).foldl (fun s e =>
    flawRead (if gs.contains e.1 then b else .tsc) e.1 e.2 s) s
  if s.poison.all (fun g => g / 32 != r) then { s with rowCache := rowTouch s.rowCache r } else s

/-- A read of row `r` for the granules `gs`, with its count of hits and misses; a miss reads the row's eight bursts (R281). -/
def rowRead (b : Blk) (gs : List Nat) (r : Nat) (s : State) : State :=
  if s.rowCache.contains r then
    count 0x0A6 1 none none none ({ s with rowCache := rowTouch s.rowCache r }.countReg 0x6000128 1)
  else rowFill b gs r (count (0x0D0 + 4 * stackOf r) 8 none none none (count 0x0A7 1 none none none (s.countReg 0x6000130 1)))

/-- Block `b` has corrected a granule of a memory other than the store, and counts the event (R32). The spec names no counter or
event source for it. (DESIGN CHOICE, notes/assumptions/77.md) -/
def countCorrected (b : Blk) (s : State) : State := { s with corrected := tabAdd s.corrected (blkFlt b) 1 }

/-- A memory's granule with the error `e` is met by a read of block `b`: the granules found poisoned so far, those whose data
came out wrong, and the state (R31 to R33). -/
def scanOne (b : Blk) (acc : List GMem × List (GMem × BitVec 128) × State) (e : GMem × Flaw) :
    List GMem × List (GMem × BitVec 128) × State :=
  match flawClass e.2 with
  | .clean => acc
  | .corrected => (acc.1, acc.2.1, countCorrected b acc.2.2)
  | .missed r => (acc.1, acc.2.1 ++ [(e.1, r)], countCorrected b acc.2.2)
  | .detected => (acc.1 ++ [e.1], acc.2.1, raise b 0 { acc.2.2 with gpoison := setAdd acc.2.2.gpoison e.1 })

/-- A read by block `b` of the granules that `sel` names, in a memory other than the tensor store: the poisoned ones met, the
data bits that come out wrong, and the state (R31 to R33). -/
def memScan (b : Blk) (sel : GMem → Bool) (s : State) : List GMem × List (GMem × BitVec 128) × State :=
  let old := s.gpoison.filter sel
  (s.gerr.filter (fun e => sel e.1)).foldl (scanOne b)
    (old, [], raiseIf (!old.isEmpty) b 0 { s with gerr := s.gerr.filter (fun e => !sel e.1) })

/-- The registers that stand at `a` to `a + 15`, with the bits of `m` turned over. -/
def wordsXor (a : Nat) (m : BitVec 128) (s : State) : State :=
  [0, 4, 8, 12].foldl (fun s i =>
    match regAt (a + i) with
    | some (x, row, _) =>
      if x = a + i then s.setReg x (s.reg x ^^^ BitVec.ofNat 64 (m.toNat / 2 ^ (8 * i) % 2 ^ (8 * row.w))) else s
    | none => s) s

/-- A read by block `b` of table words, `n` bytes from `a` on: whether a granule of them is poisoned (R33). -/
def tableRead (b : Blk) (a n : Nat) (s : State) : Bool × State :=
  let (bad, wrong, s) := memScan b (fun g => match g with
    | .word x => decide (a / 16 * 16 ≤ x) && decide (x < a + n)
    | _ => false) s
  (!bad.isEmpty, wrong.foldl (fun s e => match e.1 with | .word x => wordsXor x e.2 s | _ => s) s)

/-- A granule of the table words at `[a, a + n)`. -/
def wordIn (a n : Nat) (g : GMem) : Bool :=
  match g with
  | .word x => decide (a ≤ x) && decide (x < a + n)
  | _ => false

/-- Table words at `[a, a + n)` are written in full: their errors and poison are gone (R33). -/
def wordsClean (a n : Nat) (s : State) : State :=
  { s with gerr := s.gerr.filter (fun e => !wordIn a n e.1), gpoison := s.gpoison.filter (fun g => !wordIn a n g) }

/-! ## Records whose layout is open -/

/-- Block `b` reads the record `x` in granule `g`: whether it is poisoned, and what it says after an error that was corrected to wrong
data, which `put` stores; `keep` restores what names the record (R31 to R33). (DESIGN CHOICE, notes/assumptions/68.md) -/
def recordRead {α : Type} [Inhabited α] (b : Blk) (g : GMem) (keep : α → α) (put : α → State → State) (x : α) (s : State) :
    Bool × α × State :=
  match memScan b (· == g) s with
  | (bad, [], s) => (!bad.isEmpty, x, s)
  | (bad, es, s) =>
    let y := keep (es.foldl (fun y e => Config.misread e.2 y) x)
    (!bad.isEmpty, y, put y s)

/-- The granule `g` is written in full: its errors and poison are gone (R33). -/
def granuleClean (g : GMem) (s : State) : State :=
  { s with gerr := s.gerr.filter (fun e => e.1 != g), gpoison := s.gpoison.filter (· != g) }

/-- Block `b` reads a message context. -/
def msgRead (b : Blk) (c : MsgCtx) (s : State) : Bool × MsgCtx × State :=
  recordRead b (.message c.src c.msgId) (fun d => { d with src := c.src, msgId := c.msgId }) putMsg c s

/-- Message accounting of a packet at its home quadrant, for handling block `b` (R52 to R55). A complete message's
context is closed. A packet whose context is poisoned counts toward nothing (R33). (DEDUCED, notes/assumptions/17.md) -/
def msgArrive (b : Blk) (port : Nat) (p : Packet) (s : State) : MsgRes × State :=
  match findMsg s (BitVec.ofNat 32 p.src) (BitVec.ofNat 32 p.msgId) with
  | some c =>
    match msgRead b c s with
    | (true, _, s) => (.dropped, s)
    | (false, c, s) =>
      if c.typ ≠ p.typ ∨ c.cnt ≠ p.cnt ∨ c.got.contains p.idx then
        (.dropped, raise b 2 (countPkt 0x053 c.port p s))
      else
        let c := { c with got := c.got ++ [p.idx] }
        if c.got.length = c.cnt then
          (.counted c false true, count 0x051 1 (some c.port) (some p.tc) none (dropMsg c.src c.msgId s))
        else (.counted c false false, putMsg c s)
  | none =>
    let c := newCtx s port p
    if p.cnt = 1 then (.counted c true true, s)
    else if (s.msgs.filter (fun d => d.msgId.toNat % 4 == p.msgId % 4)).length ≥ 16384 then
      (.dropped, raise b 6 (countPkt 0x054 port p s))
    else (.counted c true false, countPkt 0x050 port p (granuleClean (.message c.src c.msgId) { s with msgs := s.msgs ++ [c] }))

/-- The rows a list of granules lies in, without repeats. -/
def rowsOf (gs : List Nat) : List Nat := gs.foldl (fun l g => setAdd l (g / 32)) []

/-- A read of the granules `gs` by block `b`: the poisoned ones met (R32, R33, R281). -/
def granulesRead (b : Blk) (gs : List Nat) (s : State) : List Nat × State :=
  let old := gs.filter s.poison.contains
  let s := (rowsOf gs).foldl (fun s r => rowRead b gs r s) s
  let s := raiseIf (!old.isEmpty) b 0 (count 0x0AC old.length none none none s)
  (gs.filter s.poison.contains, count 0x0A5 gs.length none none none s)

/-- A read of `n` bytes from store address `a` by block `b`: the poisoned granules met and the bytes. -/
def storeRead (b : Blk) (a n : Nat) (s : State) : List Nat × List Byte × State :=
  let (bad, s) := granulesRead b (granules a n) s
  (bad, cellRead 0 s.mem a n, s)

/-- One granule's part of a write: the bytes `bs` from address `a` on, all in one granule (R273, R274). -/
def granuleWrite (a : Nat) (bs : List Byte) (s : State) : State :=
  let g := a / 16
  let s := count 0x0A4 1 none none none s
  if bs.length = 16 then
    { s with mem := cellWrite 0 s.mem a bs, poison := s.poison.filter (· != g), flaws := tabDel s.flaws g }
  else
    let s := match tabGet s.flaws g with
      | some e => if s.rowCache.contains (g / 32) then { s with flaws := tabDel s.flaws g } else flawRead .tsc g e s
      | none => s
    if s.poison.contains g then raise .tsc 0 (count 0x0AB 1 none none none (s.countReg 0x6000110 1))
    else { s with mem := cellWrite 0 s.mem a bs }

/-- The bytes `bs` written from store address `a` on, granule by granule; `fuel` is their number. -/
def storeWriteLoop (fuel a : Nat) (bs : List Byte) (s : State) : State :=
  match fuel with
  | 0 => s
  | f + 1 =>
    if bs.isEmpty then s
    else
      let k := 16 - a % 16
      storeWriteLoop f (a + k) (bs.drop k) (granuleWrite a (bs.take k) s)

/-- The bytes `bs` written from store address `a` on (R273, R274). -/
def storeWrite (a : Nat) (bs : List Byte) (s : State) : State :=
  storeWriteLoop (bs.length + 1) a bs (countBursts a bs.length s)

/-- `n` numeric exceptions counted in the count at `a`; those of the present cycle outlast a clear in it (R172). -/
def countExc (a n : Nat) (s : State) : State :=
  if n = 0 then s else { s.countReg a n with excNow := tabAdd s.excNow a n }

/-- Numeric flags counted in the three counts from `base` on: INVALID, OVERFLOW, NANIN (R172). -/
def countFlags (base : Nat) (fs : List Fl) (s : State) : State :=
  let n := fun i => (fs.filter (fun f => f.getLsbD i)).length
  countExc (base + 16) (n 2) (countExc (base + 8) (n 1) (countExc base (n 0) s))

/-- Numeric flags of the TSC counted (R172). -/
def tscFlags (fs : List Fl) (s : State) : State := countFlags 0x6000F00 fs s

/-- Numeric flags of engine `e` counted (R172). -/
def engFlags (e : Nat) (fs : List Fl) (s : State) : State := countFlags (jBase e + 0x3F00) fs s

/-- Union of flags. -/
def orFlags (fs : List Fl) : Fl := fs.foldl (· ||| ·) 0

/-- Zeros over every granule of `[lo, hi)`: contents, poison and latent errors (R286). -/
def wipeRange (lo hi : Nat) (s : State) : State :=
  { s with
    mem := cellClear s.mem lo (hi - lo)
    poison := s.poison.filter (fun g => !(decide (lo ≤ 16 * g) && decide (16 * g < hi)))
    flaws := s.flaws.filter (fun e => !(decide (lo ≤ 16 * e.1) && decide (16 * e.1 < hi))) }

/-- Starts a wipe: TSC_WIPE_STATUS BUSY and CAUSE, row and tile caches invalid (R286).
(DESIGN CHOICE, notes/assumptions/18.md) -/
def wipeStart (cause : Nat) (s : State) : State :=
  let s := s.setRegN 0x6000020 (1 + cause * 2)
  { s with wiping := true, rowCache := [], engines := s.engines.map (fun e => { e with tcache := [] }) }

end Sys2Proof.Machine
end

