-- ==== Sys2Proof/Machine/Route.lean ====
section
/-!
DEFINITION. Where a packet goes: the checks of Table 2.12 at ingress, toll meters (spec/05), the routing decision
(spec/04), the egress queue with its rewriting, and the packets the switch originates.
-/

namespace Sys2Proof.Machine

/-! ## Contract entries -/

/-- Words A, B, C and the state of contract `c` (Tables 5.9 to 5.13). -/
def conA (s : State) (c : Nat) : Nat := s.regN (0x3010000 + c * 16)
def conB (s : State) (c : Nat) : Nat := s.regN (0x3010004 + c * 16)
def conC (s : State) (c : Nat) : Nat := s.regN (0x3010008 + c * 16)
/-- FREE 0, ACTIVE 1, BROKEN 2. -/
def conState (s : State) (c : Nat) : Nat := s.field (0x301000C + c * 16) 1 0

/-- Fields of word A. -/
def aTc (a : Nat) : Nat := bits a 3 1
def aEntry (a : Nat) : Nat := bits a 5 4
def aEntryPu (a : Nat) : Nat := bits a 11 6
def aMeter (a : Nat) : Nat := bits a 19 12
def aSink (a : Nat) : Bool := bit a 20
def aEgress (a : Nat) : Nat := bits a 26 21
/-- Fields of word B. -/
def bSlot (b : Nat) : Nat := bits b 7 0
def bR (b : Nat) : Nat := bits b 15 8
def bQmax (b : Nat) : Nat := bits b 24 16
def bIngress (b : Nat) : Nat := bits b 30 25
/-- Fields of word C. -/
def cCbs (c : Nat) : Nat := bits c 7 0
def cPir (c : Nat) : Nat := bits c 15 8
def cPbs (c : Nat) : Nat := bits c 23 16

/-- TC `t` is a contract class (R128). -/
def contractClass (s : State) (t : Nat) : Bool := bit (s.regN 0x3000000) t

/-- The port unit that holds a contract's entry meter: ENTRY_PU for PORT, EGRESS for SERVICE. -/
def meterPort (a : Nat) : Option Nat :=
  if aEntry a = 1 then some (aEntryPu a) else if aEntry a = 2 then some (aEgress a) else none

/-- Address of meter `m` of port unit `n`. -/
def meterAddr (n m : Nat) : Nat := puBase n + 0x3000 + m * 8

/-- One packet through meter `m` of port unit `n` (R134): GREEN 1, YELLOW 2, RED 3. -/
def meterColour (n m : Nat) (s : State) : Nat × State :=
  let a := meterAddr n m
  let v := s.regN a
  let cb := bits v 7 0
  let pb := bits v 15 8
  if pb < 1 then (3, s)
  else if cb < 1 then (2, s.setRegN a (setBits v 15 8 (pb - 1)))
  else (1, s.setRegN a (setBits (setBits v 15 8 (pb - 1)) 7 0 (cb - 1)))

/-- F_base in ns at the current throttle level (Table 5.4, R148). -/
def fBase (s : State) : Nat :=
  let l := s.field 0xB000000 3 2
  if l = 0 then 305 else if l = 1 then 345 else 395

/-- Nanoseconds, times 7, since CCLK cycle `t0`. -/
def since7 (s : State) (t0 : Nat) : Nat := (s.now - t0) * 20

/-! ## A packet on its way (R33) -/

/-- A granule of a packet, its header first, with the bits of `m` turned over. -/
def flipGranule (p : Packet) (g : Nat) (m : BitVec 128) : Packet :=
  if g < 4 then { p with hdr := p.hdr ^^^ (m.setWidth 512 <<< (128 * g)) }
  else { p with pay := overlay p.pay (16 * (g - 4)) ((List.range 16).map (fun i =>
      p.pay.getD (16 * (g - 4) + i) 0 ^^^ BitVec.ofNat 8 (m.toNat / 2 ^ (8 * i)))) }

/-- The packet as block `b` reads it at stage `st` of port unit `n`; `none` when a granule of it is poisoned: it is not handed on,
and GRANULE_UE is raised (R33). (DEDUCED, notes/assumptions/17.md) -/
def stageRead (b : Blk) (st : Stage) (n : Nat) (p : Packet) (s : State) : Option Packet × State :=
  let (bad, wrong, s) := memScan b (fun g => match g with
    | .packet t m src id i _ => t == st && m == n && src.toNat == p.src && id.toNat == p.msgId && i == p.idx
    | _ => false) s
  if !bad.isEmpty then
    (none, { s with gpoison := s.gpoison.filter (fun g => !bad.contains g) })
  else (some (wrong.foldl (fun p e => match e.1 with | .packet _ _ _ _ _ g => flipGranule p g e.2 | _ => p) p), s)

/-- The packet as it leaves by port unit `n`: out of its contract's green queue if it is green, and through the port unit's
datapath. -/
def leaveRead (n : Nat) (green : Bool) (p : Packet) (s : State) : Option Packet × State :=
  match if green then stageRead .tcu .greenQueue n p s else (some p, s) with
  | (none, s) => (none, s)
  | (some p, s) => stageRead (puBlk n) .datapath n p s

/-! ## Crossings -/

/-- `n` flits cross from quadrant `f` to quadrant `t`, when they differ (R13, R19, R419). -/
def cross (f t n : Nat) (s : State) : State :=
  if f = t then s else count (0x100 + 2 * (4 * f + t)) n none none none s

/-- A packet goes to port unit `n`: its header from quadrant `hq`, its payload from quadrant `mq` (R13, R419). -/
def carry (hq mq n : Nat) (p : Packet) (s : State) : State := cross mq (quadOf n) (p.flits - 1) (cross hq (quadOf n) 1 s)

/-! ## Egress -/

/-- Flits queued at the egress of port `n`, those left of the packet being sent among them (R114). -/
def queuedFlits (s : State) (n : Nat) : Nat :=
  ((s.port n).egress.map (fun q => q.pkt.flits)).foldl (· + ·) (s.port n).txPart.length

/-- A packet as it leaves by a FABVER 0 link (R60, R95): VER 0, byte 2 [7:3] and bytes 16 to 17 zero, HCRC recomputed. -/
def fabver0 (p : Packet) : Packet := (((p.set 0 4 0).set 19 5 0).set 128 16 0).seal

/-- Packets a FABVER 0 link carries: the three store types with DSVC 0 (R60). (DEDUCED, notes/assumptions/13.md) -/
def plainStore (p : Packet) : Bool := [tStoreWrite, tStoreRead, tStoreReadResp].contains p.typ && !p.dsvc

/-- The TCU reads the entry of contract `c`: whether it is poisoned (R33). -/
def contractRead (c : Nat) (s : State) : Bool × State := tableRead .tcu (0x3010000 + c * 16) 16 s

/-- Queues `p`, which came in by port `ing` if by any, at egress `n`; a green packet joins its contract's queue (R138). (DEDUCED,
notes/assumptions/21.md) -/
def egressPush (n : Nat) (p : Packet) (green : Option Nat) (hop : Nat) (ing : Option Nat) (s : State) : State :=
  s.modPort n (fun q => { q with egress := q.egress ++ [⟨p, green, hop, ing, false, 0, false⟩] })

/-- The green handling of a packet at egress `n` (R143, R147, R151): it keeps its slot, or is dropped, or goes yellow; it goes
nowhere when its contract's entry is poisoned (R33). -/
def egressGreen (n : Nat) (p : Packet) (hop : Nat) (ing : Option Nat) (s : State) : State :=
  let (bad, s) := contractRead p.contract s
  let a := conA s p.contract
  let st := conState s p.contract
  let match_ := aSink a == p.dsvc && aEgress a == n
  if bad then s
  else if st = 1 ∧ match_ then
    if ((s.port n).egress.filter (fun q => q.green == some p.contract)).length ≥ bQmax (conB s p.contract) then
      raise (puBlk n) 17 (countPkt 0x01A n p (s.countReg (puBase n + 0x60) 1))
    else egressPush n p (some p.contract) hop ing s
  else
    let s := countPkt 0x045 n p s
    let s := raiseIf (!(st == 2 && match_)) (puBlk n) 16 s
    egressPush n (p.set 20 2 2) none hop ing s

/-- A packet joins the queue of egress `n` (R42, R60, R95, R117, R329): HOPS advances; a halted switch discards it, and counts it
under the port it came in by (R384). -/
def egress (n : Nat) (p : Packet) (dl hop : Nat) (ing : Option Nat) (s : State) : State :=
  if halted s then count 0x02A 1 ing (some p.tc) none s
  else
    let p := (p.set 24 8 (p.hops + 1)).set 19 1 dl
    let q := s.port n
    if q.fabver = 0 then
      if plainStore p && !p.cv then egressPush n (fabver0 p) none hop ing s
      else raise (puBlk n) 10 (countPkt 0x02B n p s)
    else if p.cv && p.colour == 1 then egressGreen n p hop ing s
    else egressPush n p none hop ing s

/-! ## The routing decision -/

/-- The routing axis: the first of X, Y, Z on which DST differs (R108). -/
def routeAxis (s : State) (dst : Nat) : Option Nat :=
  [0, 1, 2].find? (fun a => cwAxis dst a != cwAxis (ownSw s) a)

/-- Role and direction a port trains with (R67). (DEDUCED, notes/assumptions/12.md) -/
def trainRole (s : State) (n : Nat) : Nat × Nat :=
  let r := s.field (puBase n) 1 0
  let d := s.field (puBase n) 4 2
  if r = 3 then (0, 0)
  else if r = roleTrunk ∧ (d > 5 ∨ dimAxis s (d / 2) = 1) then (0, 0)
  else if r = roleTrunk then (r, d) else (r, 0)

/-- Role and direction of a port for the checks of a commit: those in force, or before the configuration is applied those
it would train with (R67). -/
def portRole (s : State) (n : Nat) : Nat := if s.boot.applied then (s.port n).role else (trainRole s n).1
def portDir (s : State) (n : Nat) : Nat := if s.boot.applied then (s.port n).dir else (trainRole s n).2

/-- Role in force of port `n` (R67). -/
def isTrunk (s : State) (n : Nat) : Bool := (s.port n).role == roleTrunk
def isEndpoint (s : State) (n : Nat) : Bool := (s.port n).role == roleEndpoint

/-- Directions the active signpost entry allows: +, −; no entry at or beyond the dimension is read (R110). -/
def signpost (s : State) (axis v : Nat) : Bool × Bool :=
  let e := if v < dimAxis s axis then s.regN (0x2001000 + axis * 0x100 + v * 4) else 0
  (bit e 0, bit e 1)

/-- The detour set (R113). -/
def detourSet (s : State) (axis dst : Nat) : List Nat :=
  let (plus, minus) := signpost s axis (cwAxis dst axis)
  allPorts.filter (fun n => isTrunk s n && (s.port n).link == .up &&
    (((s.port n).dir == 2 * axis && plus) || ((s.port n).dir == 2 * axis + 1 && minus)))

/-- A list of ports in turn from the pointer on. -/
def fromPointer (ptr : Nat) (ps : List Nat) : List Nat := ps.filter (fun p => ptr ≤ p) ++ ps.filter (fun p => p < ptr)

/-- ADAPTIVE: cost Q × 8 / W of `a` is at most that of `b`. (DEDUCED, notes/assumptions/11.md) -/
def costLe (s : State) (a b : Nat) : Bool :=
  queuedFlits s a * (s.port b).width ≤ queuedFlits s b * (s.port a).width

/-- The port chosen from a nonempty detour set for quadrant `quad` (R114), and the pointer moved. -/
def spreadChoose (quad axis : Nat) (ps : List Nat) (s : State) : Option Nat × State :=
  let key := quad * 3 + axis
  let order := fromPointer (tabOr s.spread key 0) ps
  let pick := match order with
    | [] => none
    | p :: r => some (if s.field 0x2000000 2 1 = 1 then p else r.foldl (fun best q => if costLe s best q then best else q) p)
  match pick with
  | none => (none, s)
  | some p => (some p, { s with spread := tabSet s.spread key ((p + 1) % 64) })

/-- DL at trunk egress `n` for a packet that came in by `inPort` (R116). -/
def trunkDl (s : State) (n : Nat) (inPort : Option Nat) (p : Packet) : Nat :=
  let d := (s.port n).dir
  let axis := d / 2
  let own := cwAxis (ownSw s) axis
  let crosses := if d % 2 = 0 then own + 1 == dimAxis s axis else own == 0
  let carried := match inPort with
    | none => false
    | some i => isTrunk s i && (s.port i).dir / 2 == axis && (s.port i).dir % 2 != d % 2 && p.dl == 1
  b2n (crosses || carried)

/-- A packet through the crossbars and crossings to egress `n`; one with a poisoned granule goes no further (R33). -/
def throughRte (n hq mq dl hop : Nat) (inPort : Option Nat) (p : Packet) (s : State) : State :=
  match stageRead .rte .crossbar n p (carry hq mq n p s) with
  | (none, s) => s
  | (some p, s) => egress n p dl hop inPort s

/-- A packet with an egress on a trunk port goes there on its dateline channel. -/
def toTrunk (n hq mq : Nat) (inPort : Option Nat) (hop : Nat) (p : Packet) (s : State) : State :=
  throughRte n hq mq (trunkDl s n inPort p) hop inPort p s

/-- Drops a packet for want of a route (R113, R119). It counts under the PORT of the entry of a contract path, and under no
port for an empty detour set. (DESIGN CHOICE, notes/assumptions/75.md) -/
def noRoute (n : Option Nat) (p : Packet) (s : State) : State := raise .rte 14 (count 0x042 1 n (some p.tc) none s)

/-- Routes a packet to another switch (R108 to R119): `quad` is its ingress or origin quadrant (R419), `mq` the quadrant its
payload stands in. A packet whose entry is poisoned goes nowhere (R33). -/
def route (inPort : Option Nat) (quad mq hop : Nat) (p : Packet) (s : State) : State :=
  match routeAxis s p.dst with
  | none => s
  | some axis =>
    if p.cv && p.colour == 1 then
      let (bad, s) := tableRead .rte (0x2010000 + p.contract * 4) 4 s
      let e := s.regN (0x2010000 + p.contract * 4)
      let n := bits e 5 0
      let l := (s.port n).link
      if bad then count 0x042 1 none (some p.tc) none s
      else if bit e 6 && isTrunk s n && (s.port n).dir / 2 == axis && (l == .up || l == .retrain) then
        countPkt 0x041 n p (toTrunk n quad mq inPort hop p s)
      else noRoute (some n) p s
    else
      let (bad, s) := if cwAxis p.dst axis < dimAxis s axis then
          tableRead .rte (0x2001000 + axis * 0x100 + cwAxis p.dst axis * 4) 4 s else (false, s)
      if bad then count 0x042 1 none (some p.tc) none s
      else match spreadChoose quad axis (detourSet s axis p.dst) s with
      | (none, s) => noRoute none p s
      | (some n, s) => countPkt 0x040 n p (toTrunk n quad mq inPort hop p s)

/-- Hands a packet for this switch with DSVC 0 to port unit P (R38), after check 10 of Table 2.12: one whose port has not the role
ENDPOINT carries no such traffic (R67). (DEDUCED, notes/assumptions/12.md) -/
def toEndpoint (inPort : Option Nat) (quad mq hop : Nat) (p : Packet) (s : State) : State :=
  let n := cwP p.dst
  let l := (s.port n).link
  if isEndpoint s n && (l == .up || l == .retrain) then throughRte n quad mq 0 hop inPort p s
  else raise (puBlk n) 4 (countPkt 0x028 n p s)

/-- A packet to its egress at this switch, or on to another switch. -/
def sendOn (quad mq hop : Nat) (p : Packet) (s : State) : State :=
  if cwSw p.dst = ownSw s then toEndpoint none quad mq hop p s else route none quad mq hop p s

/-- A packet the switch originates, from origin quadrant `quad`, its payload from quadrant `mq` (R38, R43, R44, R128, R329,
R419). A halted switch discards it and counts it. -/
def originateFrom (quad mq : Nat) (p : Packet) (s : State) : State :=
  if halted s then count 0x02A 1 none (some p.tc) none s
  else
    let p := ((p.set 64 32 (ownSw s)).set 160 32 s.seqCtr.toNat).set 20 2 (if contractClass s p.tc then 2 else 0)
    sendOn quad mq s.now p.seal { s with seqCtr := s.seqCtr + 1 }

/-- A packet without payload that the switch originates. -/
def originate (quad : Nat) (p : Packet) (s : State) : State := originateFrom quad quad p s

/-! ## Ingress -/

/-- What becomes of a received packet: it is gone; it goes on to another switch; to an endpoint here; to a service block. -/
inductive Ing where
  | gone
  | forward (p : Packet) (hop : Nat)
  | deliver (p : Packet) (hop : Nat)
  | service (p : Packet) (hop : Nat)
deriving DecidableEq, Repr

/-- Channel of a packet: TC + 8 × DL (R64). -/
def channel (p : Packet) : Nat := p.tc + 8 * p.dl

/-- Channel on which port `n` takes a packet in: an endpoint port takes every packet on DL 0 (R117). -/
def inChannel (s : State) (n : Nat) (p : Packet) : Nat := if isEndpoint s n then p.tc else channel p

/-- Credits of 8 flits a packet holds (R64). -/
def credits (p : Packet) : Nat := ceilDiv p.flits 8

/-- A packet is received at port `n`, whatever becomes of it (sources 0x010 and 0x014; its flits count as they come in). -/
def received (n : Nat) (p : Packet) (s : State) : State :=
  countPkt 0x010 n p (if typeLinkLocal p.typ then countPkt 0x014 n p s else s)

/-- A packet comes in with no link frame that brought it: it and its flits are received now. -/
def cameIn (n : Nat) (p : Packet) (s : State) : State := received n p (count 0x011 p.flits (some n) (some p.tc) none s)

/-- Takes a packet out of the receive buffer of port `n`, if it stands there, and owes the credits it holds; answers what stood
there, or the packet as it comes in now (R64, R144). -/
def takeIn (n : Nat) (p : Packet) (s : State) : RxPkt × State :=
  let q := s.port n
  match q.rxq.find? (fun e => e.pkt == p) with
  | none => (⟨p, s.now, 0, false⟩, cameIn n p s)
  | some e =>
    let c := inChannel s n p
    (e, s.setPort n { q with
      rxq := q.rxq.erase e
      rxHeld := tabSub q.rxHeld c e.held
      rxOwed := tabAdd q.rxOwed c e.held })

/-- Fabric packets can come in at port `n`: the link is UP, or the packet already stands in its receive buffer. -/
def canArrive (s : State) (n : Nat) (p : Packet) : Bool :=
  coreOn s && !typeLinkLocal p.typ && (s.port n).role != roleNone && ((s.port n).link == .up || (s.port n).rxq.any (fun e => e.pkt == p))

/-- Drop at ingress port `n`, with its event source, and its fault if it has one. -/
def dropIn (n src : Nat) (fault : Option Nat) (p : Packet) (s : State) : Ing × State :=
  let s := countPkt src n p s
  (.gone, match fault with
    | none => s
    | some f => raise (puBlk n) f s)

/-- Checks 7 to 10 of Table 2.12 for a packet that names this switch. -/
def checkHere (n : Nat) (hop : Nat) (p : Packet) (s : State) : Ing × State :=
  let (d0, d1) := typeDsvc p.typ
  match understand p with
  | .dropSilent => dropIn n 0x024 none p s
  | .dropMalformed => dropIn n 0x025 (some 2) p s
  | .yes =>
    if !(if p.dsvc then d1 else d0) || p.cnt > typeMaxCnt p.typ then dropIn n 0x026 (some 2) p s
    else if p.dsvc then (.service p hop, s)
    else if !isEndpoint s (cwP p.dst) then dropIn n 0x027 (some 2) p s
    else (.deliver p hop, s)

/-- The steps after check 5 at an endpoint port: DL taken as 0, R228, R128 and R130 with the entry meter, and the drop of a yellow
packet that came `past` its channel's half (R132). `none` when the packet is dropped, as one whose entry or meter is poisoned is
(R33). -/
def endpointIn (n : Nat) (past : Bool) (p : Packet) (s : State) : Option Packet × State :=
  let p := p.set 19 1 0
  let drop (src f : Nat) (s : State) : Option Packet × State := (none, raise (puBlk n) f (countPkt src n p s))
  if (p.typ == tDispatch && p.dsvc && cwSw p.dst != ownSw s) || ((p.typ == tDispatch || p.typ == tExpertOut) && p.ssvc) then
    drop 0x02E 30 s
  else if !p.cv then
    if contractClass s p.tc then drop 0x02D 15 s else (some (p.set 20 2 0), s)
  else
    let (bad, s) := contractRead p.contract s
    let a := conA s p.contract
    let (bad', s) := tableRead .tcu (meterAddr n (aMeter a)) 8 s
    if bad || bad' then (none, countPkt 0x02D n p s)
    else if conState s p.contract ≠ 0 ∧ aEntry a = 1 ∧ aEntryPu a = n ∧ aTc a = p.tc ∧ cwSw p.src = ownSw s then
      let (c, s) := meterColour n (aMeter a) s
      if c = 3 then (none, countPkt 0x018 n p (s.countReg (puBase n + 0x58) 1))
      else
        let s := countPkt (if c = 1 then 0x016 else 0x017) n p s
        if past && c == 2 then (none, countPkt 0x01B n p (s.countReg (puBase n + 0x68) 1)) else (some (p.set 20 2 c), s)
    else drop 0x02D 15 s

/-- The steps after check 5 at a trunk port: R131, and the count of held classes (R123): a packet counts as taken in when it
is handled and has passed checks 2 to 5. (DESIGN CHOICE, notes/assumptions/75.md) -/
def trunkIn (n : Nat) (p : Packet) (s : State) : Packet × State :=
  let s := if bit (s.regN 0x2000010) p.tc then
      countPkt 0x044 n p (s.setReg 0x2000018 (s.reg 0x2000018 + 1))
    else s
  (if p.cv && p.colour == 0 then p.set 20 2 2 else p, s)

/-- Checks 3 to 5 of Table 2.12 and what stands after check 2, in order: the event source and fault of the first that
fails. -/
def firstFail (s : State) (n : Nat) (p : Packet) : Option (Nat × Option Nat) :=
  if p.hcrc ≠ p.hcrcOf then some (0x020, some 1)
  else if halted s then some (0x02A, none)
  else if isEndpoint s n && !bit (s.regN 0x30) 0 then some (0x029, none)
  else if !check3 p (s.port n).fabver then some (0x021, some 2)
  else if (s.port n).fabver = 0 ∧ !plainStore p then some (0x02C, some 2)
  else if p.hops ≥ 64 then some (0x022, some 3)
  else if cwX p.dst ≥ dimAxis s 0 ∨ cwY p.dst ≥ dimAxis s 1 ∨ cwZ p.dst ≥ dimAxis s 2 ∨ cwW p.dst ≠ 0 then some (0x023, some 2)
  else none

/-- Checks 2 to 10 of Table 2.12 on packet `p` of port `n`, with the steps between them (R50). -/
def checks (n hop : Nat) (past : Bool) (p : Packet) (s : State) : Ing × State :=
  match firstFail s n p with
  | some (src, f) => dropIn n src f p s
  | none =>
    let (o, s) := if isEndpoint s n then endpointIn n past p s else
      let (p, s) := trunkIn n p s
      (some p, s)
    match o with
    | none => (.gone, s)
    | some p => if cwSw p.dst = ownSw s then checkHere n hop p s else (.forward p hop, s)

/-- A packet received at port `n`: taken from the packet buffers and checked. -/
def ingress (n : Nat) (p : Packet) (s : State) : Ing × State :=
  let (e, s) := takeIn n p s
  match stageRead (puBlk n) .buffer n p s with
  | (none, s) => (.gone, s)
  | (some p, s) => checks n e.at_ e.past p s

/-- A green packet taken by its handling block later than its bound is an overrun there (R146). -/
def sinkOverrun (b : Blk) (n hop : Nat) (p : Packet) (s : State) : State :=
  if p.cv && p.colour == 1 && conState s p.contract == 1 && aSink (conA s p.contract) &&
      decide (since7 s hop > (fBase s + 120) * 7) then
    raise b 17 (countPkt 0x019 n p (s.countReg (puBase n + 0x50) 1))
  else s

/-- The handling block of a type (Table 1.3). -/
def serviceBlk (t : Nat) : Blk :=
  if t ≤ 0x05 then .tsc else if t = 0x20 then .msu else if 0x28 ≤ t ∧ t ≤ 0x2C then .bpm else .csq

/-- Quadrant in which a block handles a service packet (Table 1.3): the home of a group, table or milestone, Q1 for the pools,
the message's home for the store. (DEDUCED, notes/assumptions/73.md) -/
def serviceQuad (p : Packet) : Nat :=
  if p.typ ≤ 0x05 then p.msgId % 4
  else if p.typ = 0x10 then p.at 32 12 % 4
  else if p.typ = 0x18 ∨ p.typ = 0x19 then p.at 32 6 % 4
  else if p.typ = 0x20 then p.at 32 16 / 16384
  else 1

/-- A service packet as its block takes it: with MU 0, the reserved bits of a CW are ignored (R48, R61), those above P, and of
FINAL and NEW_OWNER those above W, which R315 judges. With MU 1 they are zero. -/
def known (p : Packet) : Packet :=
  let p := p.set 88 8 0
  if p.typ = tExpertOut then p.set (8 * 44) 8 0 else if p.typ = tPoolAlloc ∨ p.typ = tPoolShare then p.set (8 * 43 + 6) 2 0 else p

/-- The port unit by which the packet came in that opened the message of `p`: port `n`, if `p` does (Table 17.1). -/
def openedBy (s : State) (n : Nat) (p : Packet) : Nat :=
  ((findMsg s (BitVec.ofNat 32 p.src) (BitVec.ofNat 32 p.msgId)).map (·.port)).getD n

/-- A packet waits in the receive buffer of port `n` for its block, holding no credits if it stood in none. -/
def waitAt (n : Nat) (p : Packet) (s : State) : State :=
  if (s.port n).rxq.any (fun e => e.pkt == p) then s
  else (cameIn n p s).modPort n (fun q => { q with rxq := q.rxq ++ [⟨p, s.now, 0, false⟩] })

/-- What the packet asks for reads or writes the store: a store command, and a DISPATCH or EXPERT_OUT with its expert list, batches
and staging. -/
def usesStore (p : Packet) : Bool := decide (p.typ ≤ 0x05) || p.typ == tDispatch || p.typ == tExpertOut

/-- A service packet at port `n` whose class satisfies `mine`, handled by `h` after check 11; one of another class changes nothing.
A packet dropped on the way is dropped here, one of which a granule is poisoned in the crossbars too (R33); one that uses the store
waits while a wipe runs (R286), and one for which `h` has no answer waits as it came. (DESIGN CHOICE, notes/assumptions/5.md) -/
def serveOrWait (n : Nat) (p : Packet) (mine : State → Packet → Bool) (h : Packet → State → Option State) (s : State) : State :=
  if !canArrive s n p then s
  else match ingress n p s with
    | (.gone, t) => t
    | (.service q hop, t) =>
      if !mine t q then s
      else if s.wiping && usesStore q then waitAt n p s
      else
        let b := serviceBlk q.typ
        match stageRead .rte .crossbar n q (cross (quadOf n) (serviceQuad q) 1 t) with
        | (none, t) => t
        | (some q, t) =>
          if !check11 q then raise b 5 (countPkt 0x055 (openedBy t n q) q t)
          else (h (known q) (sinkOverrun b n hop q t)).getD (waitAt n p s)
    | _ => s

/-- A service packet that its block never makes wait. -/
def serve (n : Nat) (p : Packet) (mine : State → Packet → Bool) (h : Packet → State → State) (s : State) : State :=
  serveOrWait n p mine (fun q t => some (h q t)) s

/-- PACKET_FORWARD: a packet for another switch (R108). -/
def packetForward (n : Nat) (p : Packet) (s : State) : State :=
  if !canArrive s n p then s
  else match ingress n p s with
    | (.gone, t) => t
    | (.forward q hop, t) => route (some n) (quadOf n) (quadOf n) hop q t
    | _ => s

/-- ENDPOINT_DELIVERY: a packet for a port unit of this switch (R38). -/
def endpointDelivery (n : Nat) (p : Packet) (s : State) : State :=
  if !canArrive s n p then s
  else match ingress n p s with
    | (.gone, t) => t
    | (.deliver q hop, t) => toEndpoint (some n) (quadOf n) (quadOf n) hop q t
    | _ => s

end Sys2Proof.Machine
end

