-- ==== Sys2Proof/Machine/TcuOps.lean ====
section
/-!
DEFINITION. Gate schedules, meters and the contract table (spec/05, R134 to R153).
-/

namespace Sys2Proof.Machine

/-! ## Schedules and capacity -/

/-- Gate cycle of port unit `n` in force, units of 10 ns (Table 5.14). -/
def gateCycle (s : State) (n : Nat) : Nat := s.field (puBase n + 0x44) 16 0

/-- Windows of the schedule in force. -/
def gateWindows (s : State) (n : Nat) : Nat := s.field (puBase n + 0x44) 25 17

/-- Start and length of window `i` in force, units of 10 ns (Table 5.16). -/
def gateWindow (s : State) (n i : Nat) : Nat × Nat :=
  (s.field (puBase n + 0x1800 + i * 8) 16 0, s.field (puBase n + 0x1800 + i * 8) 33 17)

/-- Lanes by which a slot of port `n` is judged: the link's width when UP, else that of the MAXW in force (R67, R137).
(DEDUCED, notes/assumptions/12.md) -/
def slotLanes (s : State) (n : Nat) : Nat :=
  let q := s.port n
  if q.link == .up then q.width else 2 ^ (if s.boot.applied then q.maxw else s.field (puBase n) 6 5)

/-- CAP of a window of `len` units at `lanes` lanes (R137): ⌊10 × LEN / (42.24 / lanes)⌋ − 1, not below 0. -/
def capOf (lanes len : Nat) : Nat := len * 1000 * lanes / 4224 - 1

/-- CAP of slot `i` of port `n`. -/
def slotCap (s : State) (n i : Nat) : Nat := capOf (slotLanes s n) (gateWindow s n i).2

/-- Contracts whose entries are not FREE, rising: the entries listed in the register file. -/
def committed (s : State) : List Nat :=
  ((s.csr.filter (fun e => decide (0x3010000 ≤ e.1) && decide (e.1 < 0x3020000) && (e.1 % 16 == 12) &&
    (bits e.2.toNat 1 0 != 0))).map (fun e => (e.1 - 0x3010000) / 16))

/-- ACTIVE contracts that hold slot `i` of port `n`. -/
def slotHolders (s : State) (n i : Nat) : List Nat :=
  (committed s).filter (fun c => conState s c == 1 && !aSink (conA s c) && aEgress (conA s c) == n && bSlot (conB s c) == i)

/-- USED of slot `i` of port `n`: the sum of R (Table 5.17). (DEDUCED, notes/assumptions/27.md) -/
def slotUsed (s : State) (n i : Nat) : Nat := ((slotHolders s n i).map (fun c => bR (conB s c))).foldl (· + ·) 0

/-! ## Meters -/

/-- Meter `m` of port `n` after the credit of a gate cycle (R134), with the rates of its owner's entry. -/
def meterCredit (s : State) (v : Nat) : Nat :=
  let o := bits v 27 16
  let c := conC s o
  setBits (setBits v 7 0 (min (cCbs c) (bits v 7 0 + bR (conB s o)))) 15 8 (min (cPbs c) (bits v 15 8 + cPir c))

/-- A meter with both buckets at their depths (R134). -/
def meterFull (s : State) (v : Nat) : Nat :=
  let c := conC s (bits v 27 16)
  setBits (setBits v 7 0 (cCbs c)) 15 8 (cPbs c)

/-- The register holding a bound meter. -/
def isMeter (a : Nat) (v : W64) : Bool :=
  decide (0x1000000 ≤ a) && decide (a < 0x1400000) && decide (0x3000 ≤ a % 0x10000) && decide (a % 0x10000 < 0x3800) && bit v.toNat 28

/-- Applies `f` to every bound meter that `sel` takes. -/
def mapMeters (sel : Nat → Bool) (f : State → Nat → Nat) (s : State) : State :=
  { s with csr := s.csr.map (fun e => if isMeter e.1 e.2 && sel e.1 then (e.1, BitVec.ofNat 64 (f s e.2.toNat)) else e) }

/-- Every meter filled to its depths: job restart, BLOCK_RESET of the TCU. -/
def refillMeters (s : State) : State := mapMeters (fun _ => true) meterFull s

/-- What has been sent in the windows of a gate cycle that starts: what was sent ahead, past the end of the cycle before (R138). -/
def nextLap (t : Tab Nat) : Tab Nat := (t.filter (fun e => e.1 % 2 == 1)).map (fun e => (e.1 - 1, e.2))

/-- A gate cycle of port unit `n` starts: its meters are credited, and in each window each contract may send its R (R134, R138). -/
def gateCycleStart (n : Nat) (s : State) : State :=
  (mapMeters (fun a => (a - 0x1000000) / 0x10000 == n) meterCredit s).modPort n (fun q => { q with winSent := nextLap q.winSent })

/-! ## Marking BROKEN -/

/-- State of contract `c` set. -/
def setConState (c v : Nat) (s : State) : State := s.setRegN (0x301000C + c * 16) v

/-- BROKEN bit of contract `c`. -/
def setBroken (c : Nat) (on : Bool) (s : State) : State := s.setField (0x3008000 + c / 32 * 4) (c % 32) (c % 32) (b2n on)

/-- Packet `e` goes yellow if it is a green one of contract `c`; it can be no overrun any more. -/
def QPkt.yellow (c : Nat) (e : QPkt) : QPkt :=
  if e.green == some c then { e with pkt := e.pkt.set 20 2 2, green := none } else e

/-- Green packets of contract `c` go yellow in a frame's cargo; its flits are as they were sent. -/
def SentFrame.yellow (c : Nat) (f : SentFrame) : SentFrame := { f with cargo := f.cargo.map (QPkt.yellow c) }

/-- The green packets of contract `c` go yellow, queued, being sent, or unacknowledged, and each that is queued is counted (R141,
R151). -/
def yellowQueued (c : Nat) (s : State) : State :=
  let s := allPorts.foldl (fun s n =>
    ((s.port n).egress.filter (fun e => e.green == some c)).foldl (fun s e => countPkt 0x045 n e.pkt s) s) s
  { s with ports := s.ports.map (fun q => { q with
      egress := q.egress.map (QPkt.yellow c)
      txPartOf := q.txPartOf.map (QPkt.yellow c)
      replay := q.replay.map (SentFrame.yellow c)
      kept := q.kept.map (SentFrame.yellow c) }) }

/-- Marks contract `c` BROKEN (R150, R151). -/
def breakContract (c : Nat) (s : State) : State := yellowQueued c (setBroken c true (setConState c 2 s))

/-- Of contracts in ascending order, those that no longer fit in `cap` (R150). -/
def misfits (s : State) (cap : Nat) : List Nat → Nat → List Nat
  | [], _ => []
  | c :: r, sum => if sum + bR (conB s c) ≤ cap then misfits s cap r (sum + bR (conB s c)) else c :: misfits s cap r sum

/-- The slots `is` of port `n` have last been checked at `w` lanes (R150). -/
def checkedAt (n w : Nat) (is : List Nat) (s : State) : State :=
  s.modPort n (fun q => { q with slotWidth := is.foldl (fun t i => tabSet t i w) q.slotWidth })

/-- Re-check of the slots of port `n`, those last checked at another width, when the link is UP (R150). -/
def recheckSlots (n : Nat) (s : State) : State :=
  let w := (s.port n).width
  let is := (List.range (gateWindows s n)).filter (fun i => tabOr (s.port n).slotWidth i 0 != w)
  if is.isEmpty then s
  else
    let bad := is.flatMap (fun i => misfits s (slotCap s n i) (slotHolders s n i) 0)
    let s := checkedAt n w is s
    raiseIf (!bad.isEmpty) .tcu 18 (bad.foldl (fun s c => breakContract c s) s)

/-! ## Commits (R140, R141) -/

/-- Whether a gate swap is pending at port `n`. -/
def gatePending (s : State) (n : Nat) : Bool := bit (s.regN (puBase n + 0x4C)) 2

/-- Quadrant whose green reserve an entry uses. -/
def entryQuad (b : Nat) : Nat := quadOf (bIngress b)

/-- A BPM configuration register as in force (R311). -/
def bpmCfg (s : State) (a : Nat) : Nat := ((tabGet s.bpm.inForce a).getD (regReset s.fuses a)).toNat

/-- Green-reserve places of quadrant `q`: in all, and those committed contracts hold (Table 5.13). -/
def greenPlaces (s : State) (q : Nat) : Nat := s.field (0x3000030 + q * 4) 15 0
def greenUsed (s : State) (q : Nat) : Nat :=
  (((committed s).filter (fun c => entryQuad (conB s c) == q)).map (fun c => bQmax (conB s c))).foldl (· + ·) 0

/-- The first failing row of Table 5.3 for a WRITE of contract `c` with words `a`, `b`, `cc`; 0 when all pass. Row 6
counts the places of the entry being replaced as taken. (DEDUCED, notes/assumptions/27.md) -/
def commitReason (s : State) (c a b cc : Nat) : Nat :=
  let eg := aEgress a
  let m := meterPort a
  let busy := match m with
    | none => false
    | some n => let v := s.regN (meterAddr n (aMeter a)); bit v 28 && bits v 27 16 != c
  let present := if conState s c = 1 ∧ !aSink (conA s c) ∧ aEgress (conA s c) = eg ∧ bSlot (conB s c) = bSlot b then bR (conB s c) else 0
  if gatePending s eg || m.any (gatePending s) then 7
  else if bR b = 0 ∨ bQmax b < bR b ∨ !contractClass s (aTc a) ∨ (!aSink a ∧ portRole s eg = roleNone) ∨
      (aEntry a = 1 ∧ bIngress b ≠ aEntryPu a) ∨ (aEntry a ≠ 0 ∧ (cCbs cc < bR b ∨ cPir cc < bR b ∨ cPbs cc < cCbs cc)) ∨ aEntry a = 3 then 3
  else if !aSink a ∧ bSlot b ≥ gateWindows s eg then 2
  else if aEntry a = 1 ∧ !aSink a ∧ gateCycle s (aEntryPu a) ≠ gateCycle s eg then 5
  else if busy then 4
  else if greenUsed s (entryQuad b) + bQmax b > greenPlaces s (entryQuad b) then 6
  else if !aSink a ∧ slotUsed s eg (bSlot b) + bR b > slotCap s eg (bSlot b) + present then 1
  else 0

/-- Unbinds the meter of contract `c`'s entry. -/
def unbindMeter (c : Nat) (s : State) : State :=
  match meterPort (conA s c) with
  | some n =>
    let m := meterAddr n (aMeter (conA s c))
    if conState s c ≠ 0 ∧ bits (s.regN m) 27 16 = c then s.setRegN m 0 else s
  | none => s

/-- Binds the meter of contract `c`'s entry, full (R134). -/
def bindMeter (c : Nat) (s : State) : State :=
  match meterPort (conA s c) with
  | some n =>
    s.setRegN (meterAddr n (aMeter (conA s c))) (cCbs (conC s c) + cPbs (conC s c) * 2 ^ 8 + c * 2 ^ 16 + 2 ^ 28)
  | none => s

/-- TCU_COMMIT_STATUS after an attempt (Table 5.12); SLOT_FREE is CAP − USED of the named slot, not below 0. -/
def commitStatus (result reason a b : Nat) (s : State) : State :=
  let free := if aSink a then 0 else slotCap s (aEgress a) (bSlot b) - slotUsed s (aEgress a) (bSlot b)
  s.setRegN 0x3000024 (result + reason * 2 ^ 4 + free % 2 ^ 18 * 2 ^ 14)

/-- A TCU_COMMIT with OP = WRITE (R140, R141, R152). -/
def contractWrite (c : Nat) (s : State) : State :=
  let a := s.regN 0x3000010
  let b := s.regN 0x3000014
  let cc := s.regN 0x3000018
  let why := commitReason s c a b cc
  if why ≠ 0 then commitStatus 2 why a b s
  else
    let s := wordsClean (0x3010000 + c * 16) 16 (unbindMeter c s)
    let s := ((s.setRegN (0x3010000 + c * 16) a).setRegN (0x3010004 + c * 16) b).setRegN (0x3010008 + c * 16) cc
    let s := bindMeter c (setBroken c false (setConState c 1 s))
    commitStatus 1 0 a b (if aSink a then s else checkedAt (aEgress a) (slotLanes s (aEgress a)) [bSlot b] s)

/-- A TCU_COMMIT with OP = DELETE (R141). SLOT_FREE is that of the slot the entry named. -/
def contractDelete (c : Nat) (s : State) : State :=
  let a := conA s c
  let b := conB s c
  let s := wordsClean (0x3010000 + c * 16) 16 (setBroken c false (setConState c 0 (unbindMeter c s)))
  let s := ((s.setRegN (0x3010000 + c * 16) 0).setRegN (0x3010004 + c * 16) 0).setRegN (0x3010008 + c * 16) 0
  commitStatus 1 0 a b (yellowQueued c s)

/-- A write of TCU_CFG (R129): a bit that is the TC of a committed contract stays 1. -/
def ctcMaskWrite (value : Nat) (s : State) : State :=
  let keep := (List.range 8).filter (fun t => (committed s).any (fun c => aTc (conA s c) == t) && bit (s.regN 0x3000000) t)
  let mask := keep.foldl (fun m t => m ||| 2 ^ t) (bits value 7 0)
  s.setRegN 0x3000000 (mask + bits value 9 8 * 2 ^ 8)

/-! ## Credits that buffers grant (R318) -/

/-- The 16 channels. -/
def channels : List Nat := List.range 16

/-- Credits that buffers grant channel `c` of port `n` on top of the allowance (R318). -/
def granted (s : State) (n c : Nat) : Nat :=
  (s.bpm.bufs.map (fun b => match b.grant with
    | some (m, d, k) => if m = n ∧ d = c then k else 0
    | none => 0)).foldl (· + ·) 0

/-! ## Gate swaps (R139) -/

/-- Shadow window `i` of port `n`. -/
def shadowWindow (s : State) (n i : Nat) : Nat × Nat :=
  (s.field (puBase n + 0x1000 + i * 8) 16 0, s.field (puBase n + 0x1000 + i * 8) 33 17)

/-- The shadow windows are in order, do not overlap, and lie within the cycle. -/
def shapeOk (cyc : Nat) : List (Nat × Nat) → Bool
  | [] => true
  | [(a, l)] => decide (a + l ≤ cyc) && l != 0
  | (a, l) :: (b, m) :: r => decide (a + l ≤ cyc) && l != 0 && decide (a + l ≤ b) && shapeOk cyc ((b, m) :: r)

/-- Epoch period in units of 10 ns, PERIOD_US clamped (Table 3.20). -/
def epochPeriod (s : State) : Nat := (max 10 (min 1000 (s.field 0x40 27 8))) * 100

/-- Contracts whose EGRESS is `n`, in any state but FREE. -/
def egressContracts (s : State) (n : Nat) : List Nat :=
  (committed s).filter (fun c => !aSink (conA s c) && aEgress (conA s c) == n)

/-- Why a swap of port `n`'s schedule is refused (Table 5.15 REASON); 0 when it is not. A schedule of CYCLE out of range
or more than 256 windows breaks SHAPE. A meter on port `n` itself, whose cycle the swap changes with the schedule, is no reason
CYCLE. (DESIGN CHOICE, notes/assumptions/75.md) -/
def gateReason (s : State) (n : Nat) : Nat :=
  let cyc := s.field (puBase n + 0x40) 16 0
  let k := s.field (puBase n + 0x40) 25 17
  let ws := (List.range k).map (shadowWindow s n)
  let small := (egressContracts s n).any (fun c => let i := bSlot (conB s c)
    decide (i ≥ k) || decide (slotUsed s n i > capOf (slotLanes s n) (shadowWindow s n i).2))
  let cyc' := (egressContracts s n).any (fun c => match meterPort (conA s c) with
    | some m => m != n && gateCycle s m != cyc
    | none => false)
  if cyc < 100 ∨ cyc > 100000 ∨ k > 256 ∨ !shapeOk cyc ws then 1
  else if small then 2
  else if epochPeriod s % cyc ≠ 0 then 3
  else if cyc' then 4
  else 0

/-- A write of PU_GATE_CTRL.SWAP. -/
def gateSwap (n : Nat) (s : State) : State := s.setField (puBase n + 0x4C) 2 2 1

/-- The test of a pending swap at an epoch boundary. -/
def gateSwapApply (n : Nat) (s : State) : State :=
  if !gatePending s n then s
  else
    let why := gateReason s n
    if why ≠ 0 then s.setRegN (puBase n + 0x4C) (2 + why * 2 ^ 4)
    else
      let s := (s.setReg (puBase n + 0x44) (s.reg (puBase n + 0x40))).setRegN (puBase n + 0x4C) 1
      let s := checkedAt n (slotLanes s n) (List.range (gateWindows s n)) s
      (List.range 256).foldl (fun s i =>
        let v := s.reg (puBase n + 0x1000 + i * 8)
        if v == s.reg (puBase n + 0x1800 + i * 8) then s else s.setReg (puBase n + 0x1800 + i * 8) v) s

end Sys2Proof.Machine
end

