-- ==== Sys2Proof/Machine/LinkOps.lean ====
section
/-!
DEFINITION. Lanes, training, discovery, link frames and replay (spec/03, R62 to R97).
-/

namespace Sys2Proof.Machine

/-! ## Registers of a port -/

/-- Code of a width or MAXW: 1, 2, 4, 8 lanes as 0 to 3. -/
def widthCode (w : Nat) : Nat := if w ≥ 8 then 3 else if w ≥ 4 then 2 else if w ≥ 2 then 1 else 0

/-- Codes of the link states (Table 3.2). -/
def linkCode (l : LinkState) : Nat :=
  match l with
  | .disabled => 0 | .detect => 1 | .equalise => 2 | .align => 3 | .exchange => 4
  | .up => 5 | .isolated => 6 | .heldDown => 7 | .retrain => 8

/-- Codes of the discovery statuses (Table 3.6). -/
def discCode (d : Disc) : Nat :=
  match d with
  | .pending => 0 | .ok => 1 | .missing => 2 | .unexpected => 3 | .swapped => 4
  | .misplaced => 5 | .miswired => 6 | .modeConflict => 7

/-- Receiver lanes of this end not marked failed. -/
def laneOk (q : Port) : BitVec 8 := ~~~q.failed

/-- PU_LINK_STATUS (Table 3.10); LANE_OK reads 0 until the configuration is applied. -/
def linkStatus (s : State) (n : Nat) : Nat :=
  let q := s.port n
  linkCode q.link + (if q.width = 0 then 0 else widthCode q.width) * 2 ^ 4 + q.fabver * 2 ^ 6 +
    (if s.boot.applied then (laneOk q).toNat else 0) * 2 ^ 8 + q.laneUse.toNat * 2 ^ 16 + discCode q.disc * 2 ^ 24 +
    (match q.far with | some h => h.side % 2 | none => 0) * 2 ^ 28

/-- GLB_DISC_SUM (Table 3.18). -/
def discSum (s : State) : Nat :=
  let n := fun (f : Disc → Bool) => (allPorts.filter (fun i => f (s.port i).disc)).length
  n (· == .ok) + n (· == .missing) * 2 ^ 8 + n (· == .unexpected) * 2 ^ 16 +
    n (fun d => decide (discCode d ≥ 4)) * 2 ^ 24

/-- GLB_START_GATE.READY. -/
def ready (s : State) : Bool := bit (s.regN 0x30) 1

/-- Plan mode (GLB_PLACE.MODE). -/
def planMode (s : State) : Bool := bit (s.regN 0x20) 18

/-- GLB_PLACE.PSTATE is PLACED. -/
def placed (s : State) : Bool := s.field 0x20 20 19 == 1

/-- VER of a link-local packet (R44, R46): 0 before the link first reaches UP, and on FABVER 0. -/
def linkVer (q : Port) : Nat := b2n (q.everUp && decide (q.fabver ≥ 1))

/-- Sets DISC; a change sets PU_LINK_EVT.DISC_CHANGE and, once READY, is reported (R87, R91). -/
def setDisc (n : Nat) (d : Disc) (s : State) : State :=
  if (s.port n).disc = d then s
  else
    let s := s.modPort n (fun q => { q with disc := d })
    let s := s.setSticky (puBase n + 0x18) 8
    if ready s then pushEvent s evDisc 0xFF (BitVec.ofNat 64 (n + linkStatus s n * 2 ^ 32)) else s

/-! ## Roles and neighbours -/

/-- The switch one step away in direction `d`, as X, Y and Z of a CW (R84). -/
def neighbour (s : State) (d : Nat) : Nat :=
  let a := d / 2
  let n := dimAxis s a
  let v := cwAxis (ownSw s) a
  let v' := if d % 2 = 0 then (v + 1) % n else (v + n - 1) % n
  setBits (ownSw s) (6 * a + 5) (6 * a) v'

/-- Expected IDENT of port `n` with role `r` and direction `d` (Table 3.11). (DEDUCED, notes/assumptions/31.md) -/
def planIdent (s : State) (n r d : Nat) : Nat :=
  if r ≠ roleTrunk then 0
  else if planMode s then
    match s.boot.plan.find? (fun e => e.1 == s.field 0x24 17 0) with
    | some e => (e.2.2.getD n 0).toNat
    | none => 0
  else neighbour s d

/-- What this port says of itself (Table 3.4), with this LANE_OK: HELLO (`sub` 1) or HELLO_ACK. VER is 0 before the link has
first been UP (R44, R73). -/
def sendHello (n sub : Nat) (ok : BitVec 8) (s : State) : State :=
  let q := s.port n
  let ident := (if planMode s then s.field 0x24 17 0 else ownSw s) + n * 2 ^ 18
  let b := fun k => 8 * k
  sendLinkLocal n tLinkCtrl (linkVer q) [(b 32, 8, sub), (b 33, 8, 1),
    (b 34, 8, q.maxw), (b 36, 32, ident), (b 40, 8, 0), (b 41, 8, q.role), (b 42, 8, q.dir),
    (b 43, 8, ok.toNat), (b 44, 8, b2n (planMode s)), (b 48, 32, s.regN 0)] s

/-- A HELLO body as received. -/
def helloInfo (p : Packet) : HelloInfo :=
  { fabverMax := p.at 33 8, maxw := p.at 34 8, ident := BitVec.ofNat 32 (p.at 36 32), side := p.at 40 8, role := p.at 41 8,
    dir := p.at 42 8, laneOk := BitVec.ofNat 8 (p.at 43 8), dmode := p.at 44 8 }

/-! ## Trailers (R62) -/

/-- Trailer fields (Table 3.1). -/
def trFseq (t : BitVec 64) : BitVec 8 := t.setWidth 8
def trAck (t : BitVec 64) : BitVec 8 := (t >>> 8).setWidth 8
def trNak (t : BitVec 64) : Bool := t.getLsbD 16
def trUsed (t : BitVec 64) : Nat := bits t.toNat 22 17
def trClass (t : BitVec 64) : Nat := bits t.toNat 26 23
def trCred (t : BitVec 64) : Nat := bits t.toNat 31 27

/-- FCRC of a frame: CRC-32C over its slots and trailer bits [31:0]. -/
def frameCrc (slots : List (BitVec 512)) (low : Nat) : W32 :=
  crc32c (slots.flatMap (fun x => leBytes 64 x.toNat) ++ leBytes 4 low)

/-- Trailer of a frame with FSEQ `seq`, ACKSEQ `ack` and NAK `nak`, that uses `used` slots and returns `k` credits of channel `c`. -/
def mkTrailer (seq ack : BitVec 8) (nak : Bool) (slots : List (BitVec 512)) (used c k : Nat) : BitVec 64 :=
  let low := seq.toNat + ack.toNat * 2 ^ 8 + b2n nak * 2 ^ 16 + used * 2 ^ 17 + c * 2 ^ 23 + k * 2 ^ 27
  BitVec.ofNat 64 (low + (frameCrc slots low).toNat * 2 ^ 32)

/-! ## Credits -/

/-- Credits of a channel of a port of quadrant `q` (R65). -/
def allowance (s : State) (q : Nat) : Nat :=
  (bits (bpmCfg s (0x7000000 + 4 * q)) 5 0 * 2 ^ 20 - greenPlaces s q * 2112) / 131072

/-- Full allowance and grants owed on every channel, less what received packets hold, as a link first comes up after a
training; what they hold above that is withheld when it is freed (R64, R65, R318). (DEDUCED, notes/assumptions/32.md) -/
def freshCredits (n : Nat) (s : State) : State :=
  let top := fun (q : Port) c => q.allow + granted s n c
  let due := fun (q : Port) c => (c, top q c - tabOr q.rxHeld c 0)
  let excess := fun (q : Port) c => (c, tabOr q.rxHeld c 0 - top q c)
  s.modPort n (fun q => { q with
    owesAll := false, rxGreen := [], rxOwed := channels.map (due q), withhold := channels.map (excess q) })

/-! ## State changes of a link -/

/-- A LINK_CTRL packet that a training makes for itself: HELLO, HELLO_ACK, FILL. -/
def trainingOwn (p : Packet) : Bool := p.typ == tLinkCtrl && (p.at 32 8 == 1 || p.at 32 8 == 2 || p.at 32 8 == 6)

/-- A link-local packet that a training leaves queued (R81, R93). -/
def lasting (p : Packet) : Bool := !trainingOwn p

/-- The packets a list of frames carries, one that spans two frames once. -/
def frameCargo (fs : List SentFrame) : List QPkt :=
  (fs.flatMap (fun f => f.cargo)).foldl (fun l e => if l.any (fun x => x.pkt == e.pkt) then l else l ++ [e]) []

/-- A queue of packets with those of `l` in front that are not in it already. -/
def queueBehind (l q : List QPkt) : List QPkt := l.filter (fun e => !q.any (fun x => x.pkt == e.pkt)) ++ q

/-- A frame of the replay buffer as a full training keeps it: each packet knows how often a frame with a flit of it has been sent, and
whether its last flit has, which it has not while the packet is `part`, being sent (R93, R146). -/
def keptFrame (part : Option QPkt) (f : SentFrame) : SentFrame :=
  { f with cargo := f.cargo.map (fun e =>
      { e with sends := e.sends + f.sends, out := e.out || part.all (fun x => x.pkt != e.pkt) }) }

/-- The packet being sent as it goes back to its queue whole: a frame with a flit of it was sent as often as the first that carries
it (R146). -/
def partBack (q : Port) : Option QPkt :=
  q.txPartOf.map (fun e => ((frameCargo (q.replay.map (keptFrame q.txPartOf))).find? (fun x => x.pkt == e.pkt)).getD { e with sends := e.sends + 1 })

/-- Packets put back in the queue of egress `n`, those not in it already at its head; a halted switch discards them instead, and counts
each under the port it came in by (R93, R329, R384). -/
def requeue (n : Nat) (l : List QPkt) (s : State) : State :=
  if halted s then l.foldl (fun s e => count 0x02A 1 e.ing (some e.pkt.tc) none s) s
  else s.modPort n (fun q => { q with egress := queueBehind l q.egress })

/-- How many frames of `l` ACKSEQ `a` acknowledges: none where it names no frame of it (R77). -/
def ackedBy (a : BitVec 8) (l : List SentFrame) : Nat :=
  if l.any (fun f => trFseq f.frame.trailer == a) then (l.takeWhile (fun f => trFseq f.frame.trailer != a)).length + 1 else 0

/-- A port trains from DETECT (R68, R70, R107): FSEQ counts from 0 again. A port that has been UP keeps its queues, and in `kept`
its replay buffer as the link was last UP with it; a packet being sent is whole in its queue again (R93). (DESIGN CHOICE,
notes/assumptions/78.md) -/
def enterDetect (n : Nat) (s : State) : State :=
  let (r, d) := trainRole s n
  let w := s.field (puBase n) 6 5
  let s := if (s.port n).wasUp then requeue n (partBack (s.port n)).toList s else s
  let s := s.modPort n (fun q =>
    let data := (q.replay.map (keptFrame q.txPartOf)).filter (fun f => f.cargo.any (fun e => lasting e.pkt))
    { q with
      link := .detect, resumeTo := .up, laneUse := 0, role := r, dir := d, maxw := w, far := none, retrains := 0,
      rx := List.replicate 8 RxLane.reset, tx := List.replicate 8 TxLane.reset, saidOk := 0, goSeen := 0, farLaneOk := 0,
      farMaxw := 0, ltfs := 0, nakRun := 0, nakSent := 0, nakLast := none, laneCorr := [], test := none, sent := [], owesAll := true,
      linkLocal := if q.wasUp then q.linkLocal.filter lasting else [],
      kept := if q.owesAll then (if q.wasUp then q.kept else []) else q.kept ++ data,
      rxOld := if q.owesAll then q.rxOld else q.rxSeq,
      opened := false, begun := false, txSeq := 0, replay := [], resend := 0, rxSeq := 0xFF, nak := false, rxPart := [],
      txPart := [], txPartOf := none })
  s.setRegN (puBase n + 0x10) (planIdent s n r d)

/-- A full training begins: discovery is repeated, so DISC is PENDING (R93). (DEDUCED, notes/assumptions/29.md) -/
def beginTraining (n : Nat) (s : State) : State := setDisc n .pending (enterDetect n s)

/-- What a training kept of the replay buffer goes back to the head of the queues, but for the frames that ACKSEQ `a` of the far
end's first frame acknowledges (R93). (DESIGN CHOICE, notes/assumptions/78.md) -/
def keptBack (n : Nat) (a : Option (BitVec 8)) (s : State) : State :=
  let q := s.port n
  let l := frameCargo (q.kept.drop (match a with | some a => ackedBy a q.kept | none => 0))
  let local_ := (l.filter (fun e => typeLinkLocal e.pkt.typ && lasting e.pkt)).map (fun e => e.pkt)
  requeue n (l.filter (fun e => !typeLinkLocal e.pkt.typ)) (s.setPort n { q with
    kept := []
    linkLocal := local_.filter (fun p => !q.linkLocal.contains p) ++ q.linkLocal })

/-- Packets waiting, being sent or unacknowledged at a port. -/
def portCargo (q : Port) : List Packet :=
  (queueBehind (frameCargo (q.kept ++ q.replay)) (queueBehind q.txPartOf.toList q.egress)).map (fun e => e.pkt) ++ q.linkLocal

/-- Unacknowledged frames and queued packets discarded, and each packet counted (R83, R335). A dropped packet counts as one
whose link is not up. (DEDUCED, notes/assumptions/26.md) -/
def discardQueues (n : Nat) (s : State) : State :=
  (portCargo (s.port n)).foldl (fun s p => countPkt 0x028 n p s)
    (s.modPort n (fun q => { q with egress := [], linkLocal := [], kept := [], replay := [], resend := 0, txPart := [], txPartOf := none }))

/-- A port goes to HELD_DOWN after it was up (R83). -/
def heldDown (n : Nat) (s : State) : State :=
  let s := (discardQueues n s).modPort n (fun q => { q with link := .heldDown, wasUp := false, laneUse := 0 })
  raise (puBlk n) 9 (count 0x037 1 (some n) none none (s.setSticky (puBase n + 0x18) 2))

/-- A frame that carries link-local packets alone, as a FABVER 0 link that is UP sends it: under its number, and empty (R97). -/
def blanked (f : SentFrame) : SentFrame :=
  if f.cargo.isEmpty || f.cargo.any (fun e => !typeLinkLocal e.pkt.typ) then f
  else
    let slots := f.frame.slots.map (fun _ => (0 : BitVec 512))
    { f with frame := ⟨slots, mkTrailer (trFseq f.frame.trailer) 0 false slots 0 0 0⟩, cargo := [] }

/-- What a FABVER 0 link may carry of what is queued at its egress, kept and unacknowledged (R60, R95, R97): link-local packets
and others are dropped. -/
def plainOnly (n : Nat) (s : State) : State :=
  let q := s.port n
  let ok := fun (e : QPkt) => plainStore e.pkt && !e.pkt.cv
  let good := (q.egress.filter ok).map (fun e => { e with pkt := fabver0 e.pkt, green := none })
  (q.egress.filter (fun e => !ok e)).foldl (fun s e => raise (puBlk n) 10 (countPkt 0x02B n e.pkt s))
    (s.setPort n { q with linkLocal := [], egress := good, replay := q.replay.map blanked })

/-- The link is UP: what its training kept is queued again, its allowance is owed if this training has not granted it yet, slots
are checked at the width (R64, R81, R93, R95, R150). -/
def comeUp (n : Nat) (s : State) : State :=
  let s := (keptBack n none s).modPort n (fun q => { q with link := .up, wasUp := true, everUp := true })
  let s := if (s.port n).owesAll then freshCredits n s else s
  recheckSlots n (if (s.port n).fabver = 0 then plainOnly n s else s)

/-- The lane set of two LANE_OK masks, and the width by R74: (lanes in use, width); width 0 when the set is empty. -/
def laneSet (s : State) (n : Nat) (own far : BitVec 8) (farMaxw : Nat) : BitVec 8 × Nat :=
  let set := bitsSet 8 (own &&& far).toNat
  let farW := if farMaxw % 4 = 0 then (if (s.port n).role = roleEndpoint then 8 else 1) else 2 ^ (farMaxw % 4)
  let lim := min set.length (min farW (2 ^ (s.port n).maxw))
  let w := if lim ≥ 8 then 8 else if lim ≥ 4 then 4 else if lim ≥ 2 then 2 else lim
  (BitVec.ofNat 8 ((set.take w).foldl (fun m l => m + 2 ^ l) 0), w)

/-- Receiver lanes that are RX_READY and not marked failed: LANE_OK of the LTFs (Table 3.25). -/
def readyLanes (q : Port) : BitVec 8 :=
  BitVec.ofNat 8 (((List.range 8).filter (fun l => (q.rx.getD l RxLane.reset).ready && !q.failed.getLsbD l)).foldl (fun m l => m + 2 ^ l) 0)

/-- The end of EQUALISE: lanes not RX_READY are marked failed; on to ALIGN, or to DETECT when no lane is left (R71). -/
def equaliseEnd (n : Nat) (s : State) : State :=
  let q := s.port n
  let ok := readyLanes q
  let s := s.modPort n (fun q => { q with failed := ~~~ok, link := .align })
  if ok = 0 then enterDetect n s else s

/-- EQUALISE ends early when every locked receiver lane is RX_READY at this end and at the far end, whose lanes are those
this end hears (R71). -/
def equaliseCheck (n : Nat) (s : State) : State :=
  let q := s.port n
  let locked := q.rx.filter (fun l => l.locked)
  if q.link == .equalise && !locked.isEmpty && locked.all (fun l => l.ready && q.farLaneOk.getLsbD l.farLane) then equaliseEnd n s
  else s

/-! ## Lanes (R70 to R72) -/

/-- Lane training frames are sent and looked for. -/
def ltfState (l : LinkState) : Bool := l == .detect || l == .equalise || l == .align

/-- LANE_LOCK. The requests of a lane that locks again count from RSEQ 0, with HOLD and no precoding. (DESIGN CHOICE,
notes/assumptions/4.md) -/
def laneLock (n lane farLane : Nat) (inverted : Bool) (s : State) : State :=
  let q := s.port n
  if !coreOn s || !ltfState q.link || q.failed.getLsbD lane then s
  else s.setPort n { q with
    rx := q.rx.set lane { RxLane.reset with locked := true, inverted := inverted, farLane := farLane }
    link := if q.link == .detect then .equalise else q.link }

/-- LANE_UNLOCK. -/
def laneUnlock (n lane : Nat) (s : State) : State :=
  let q := s.port n
  if !coreOn s || !ltfState q.link then s
  else equaliseCheck n (s.setPort n { q with rx := q.rx.set lane RxLane.reset })

/-- RX_READY of a lane set or cleared. -/
def rxReady (n lane : Nat) (r : Bool) (s : State) : State :=
  let q := s.port n
  let l := q.rx.getD lane RxLane.reset
  if !coreOn s || !(q.link == .equalise || q.link == .align) || !l.locked then s
  else equaliseCheck n (s.setPort n { q with rx := q.rx.set lane { l with ready := r } })

/-- A tap after INC, DEC or PRESET, and RESULT (R71): UPDATED 1, AT_LIMIT 2. `top` is the tap's range.
(DEDUCED, notes/assumptions/28.md) -/
def tapMove (v top req : Nat) : Nat × Nat :=
  if req = 1 then (if v < top then (v + 1, 1) else (v, 2))
  else if req = 2 then (if 0 < v then (v - 1, 1) else (v, 2))
  else (v, 0)

/-- One request performed on a transmitter (R71, Tables 3.25 and 3.26). (DEDUCED, notes/assumptions/28.md) -/
def txRequest (c : Nat) (t : TxLane) : TxLane :=
  let tap := bits c 7 6
  let req := bits c 9 8
  let t := { t with rseq := BitVec.ofNat 8 (bits c 30 23), precoding := bit c 10 }
  if tap = 3 then { t with result := 2 }
  else if req = 3 then { t with pre2 := 0, pre1 := 0, post1 := 0, result := 1 }
  else if tap = 0 then let (v, r) := tapMove t.pre2 6 req; { t with pre2 := v, result := BitVec.ofNat 2 r }
  else if tap = 1 then let (v, r) := tapMove t.pre1 16 req; { t with pre1 := v, result := BitVec.ofNat 2 r }
  else let (v, r) := tapMove t.post1 16 req; { t with post1 := v, result := BitVec.ofNat 2 r }

/-- The CRC of an LTF word holds (Tables 3.25 and 3.26). -/
def wordOk (c : Nat) : Bool := (crc32c (leBytes 4 (c % 2 ^ 32))).toNat == c / 2 ^ 32

/-- A receiver lane after the far end's status word `st`: in EQUALISE, once its last request is answered, a lane that is not
ready makes the next one, and which one is its own affair (R71). (DESIGN CHOICE, notes/assumptions/70.md) -/
def rxRequest (fresh st : Nat) (l : RxLane) : RxLane :=
  if l.ready || l.rseq.toNat != bits st 9 2 then l
  else
    let (tap, req, pre) := Config.eqRequest fresh
    { l with tap := tap, req := req, precode := pre, rseq := l.rseq + 1 }

/-- EQUALISE_REQUEST: an LTF with good CRCs on a locked lane: a request not seen before is performed, the far end's LANE_OK,
MAXW and ALIGN_GO are noted, and an answered request is followed by the next (R71, R72). -/
def equaliseRequest (n lane : Nat) (ctrl status : W64) (s : State) : State :=
  let q := s.port n
  let c := ctrl.toNat
  let l := q.rx.getD lane RxLane.reset
  if !coreOn s || !ltfState q.link || !l.locked || !wordOk c || !wordOk status.toNat then s
  else
    let tl := bits c 5 3
    let t := q.tx.getD tl TxLane.reset
    let t' := if t.rseq.toNat = bits c 30 23 then t else txRequest c t
    let l' := if q.link == .equalise then rxRequest s.fresh status.toNat l else l
    let s := if l' = l then s else s.draw
    equaliseCheck n (s.setPort n { q with
      tx := q.tx.set tl t'
      rx := q.rx.set lane l'
      goSeen := if bit c 12 then q.goSeen ||| BitVec.ofNat 8 (2 ^ lane) else q.goSeen
      farLaneOk := BitVec.ofNat 8 (bits c 20 13)
      farMaxw := BitVec.ofNat 2 (bits c 22 21) })

/-- EQUALISE_TIMEOUT. -/
def equaliseTimeout (n : Nat) (s : State) : State :=
  if coreOn s && (s.port n).link == .equalise then equaliseEnd n s else s

/-- On a trunk eight DELAY_REQ follow the HELLO, and the first new frame of EXCHANGE is the test frame (R75); bytes 33, 34 and
36 to 39 of a DELAY_REQ, which the spec fills for HELLO alone, are 0. (DESIGN CHOICE, notes/assumptions/71.md) -/
def startDelay (n : Nat) (s : State) : State :=
  if (s.port n).role = roleTrunk then
    let s := (List.range 8).foldl (fun s _ => sendLinkLocal n tLinkCtrl (linkVer (s.port n)) [(8 * 32, 8, 3)] s) s
    s.modPort n (fun q => { q with delays := [], test := some (q.txSeq, s.now) })
  else s

/-- DATA_START: ALIGN_GO has been seen on every lane of this end's LANE_OK; lane set and width are fixed, 16 further LTFs go out on
the lanes of the set, coded data starts with no credit held on either side, and EXCHANGE begins with a HELLO, before anything
kept; the allowance is that of this training (R64, R65, R72, R73). -/
def dataStart (n : Nat) (farOk : BitVec 8) (farMaxw : BitVec 2) (s : State) : State :=
  let q := s.port n
  let ok := readyLanes q
  if !coreOn s || q.link != .align || ok &&& ~~~q.goSeen != 0 then s
  else
    let (use, w) := laneSet s n ok farOk farMaxw.toNat
    if w = 0 then enterDetect n s
    else
      let s := startDelay n (sendHello n 1 ok (s.setPort n { q with
        link := .exchange, laneUse := use, width := w, saidOk := ok, farLaneOk := farOk, farMaxw := farMaxw,
        ltfs := q.ltfs + 16, allow := allowance s (quadOf n), txCred := [], rxOwed := [], rxGreen := [], withhold := [],
        linkLocal := [] }))
      s.modPort n (fun x => { x with linkLocal := x.linkLocal ++ q.linkLocal })

/-! ## Discovery (R84 to R92) -/

/-- Port `n` expects the far end `h` (R84, R85). -/
def expects (s : State) (n : Nat) (h : HelloInfo) : Bool :=
  let q := s.port n
  if q.role = roleEndpoint then h.side == 1
  else if q.role ≠ roleTrunk then false
  else if planMode s then h.ident.toNat == s.regN (puBase n + 0x10)
  else
    let a := q.dir / 2
    h.side == 0 && h.role == roleTrunk && h.ident.toNat % 2 ^ 18 == neighbour s q.dir &&
      (if dimAxis s a = 2 then h.dir / 2 == a else h.dir == (if q.dir % 2 = 0 then q.dir + 1 else q.dir - 1))

/-- The far end of the port is known: it has finished an EXCHANGE in this training. -/
def farKnown (q : Port) : Option HelloInfo :=
  if q.link == .up || q.link == .isolated || q.link == .retrain then q.far else none

/-- Local ports whose expected far end `h` is and whose far end port `n` expects, lowest first (Table 3.6, SWAPPED). Where
several meet the row, the lowest is PU_SWAP.PEER. (DESIGN CHOICE, notes/assumptions/75.md) -/
def swapPeers (s : State) (n : Nat) (h : HelloInfo) : List Nat :=
  allPorts.filter (fun m => m != n && (match farKnown (s.port m) with
    | some g => expects s m h && expects s n g
    | none => false))

/-- Both far ends are ports of one switch in one direction. -/
def oneGroup (g h : HelloInfo) : Bool := g.ident.toNat % 2 ^ 18 == h.ident.toNat % 2 ^ 18 && g.dir == h.dir

/-- DISC of port `n` with far end `h`, and the state it takes, by the first row of Table 3.6 that applies (R87). -/
def discover (s : State) (n : Nat) (h : HelloInfo) : Disc × Bool :=
  let q := s.port n
  if h.dmode ≠ b2n (planMode s) then (.modeConflict, false)
  else if q.role = roleNone ∨ (planMode s ∧ q.role = roleTrunk ∧ s.regN (puBase n + 0x10) = 0) then (.unexpected, false)
  else if (if q.role = roleEndpoint then h.side != 1 || h.role != 0 else h.side != 0 || h.role != roleTrunk) then (.miswired, false)
  else if expects s n h then (.ok, true)
  else match swapPeers s n h with
    | [] => (.misplaced, false)
    | m :: _ => (.swapped, match (s.port m).far with | some g => oneGroup g h | none => false)

/-- A port takes its status and state; UP from a full training (R87, R92). -/
def takeStatus (n peer : Nat) (d : Disc) (up : Bool) (s : State) : State :=
  let s := s.modPort n (fun q => { q with swapPeer := peer, link := if up then q.link else .isolated })
  setDisc n d (if up then comeUp n s else s)

/-- The state a Table 3.6 row gives a trained port: taken at once, or at the end of the fast retrain it is in (R81, R87). -/
def rowState (m : Nat) (up : Bool) (s : State) : State :=
  let l := (s.port m).link
  if l == .retrain then s.modPort m (fun q => { q with resumeTo := if up then .up else .isolated })
  else if up then (if l == .up then s else comeUp m s)
  else s.modPort m (fun q => { q with link := .isolated })

/-- MISPLACED ports that the far end of port `n` makes SWAPPED take that row's status and state (R87). -/
def reswap (n : Nat) (h : HelloInfo) (s : State) : State :=
  (swapPeers s n h).foldl (fun s m =>
    if (s.port m).disc = .misplaced then
      let up := match (s.port m).far with | some g => oneGroup g h | none => false
      setDisc m .swapped (rowState m up (s.modPort m (fun q => { q with swapPeer := n })))
    else s) s

/-- A link-local packet of a link that is not UP may leave: LINK_CTRL of the training alone (R46, R89). -/
def leavesEarly (p : Packet) : Bool := p.typ == tLinkCtrl && p.at 32 8 != 5

/-- What EXCHANGE waits for has happened: the far end is known, on a trunk link between two switches the eight exchanges are made
and the test frame is acknowledged, and before a FABVER 0 link is UP the link-local packets that may leave before have arrived, for
none crosses it afterwards (R75, R97). (DEDUCED, notes/assumptions/25.md) -/
def exchangeDone (q : Port) (h : HelloInfo) : Bool :=
  (q.role != roleTrunk || h.side != 0 || (decide (q.delays.length ≥ 8) && q.test.isNone)) &&
    (decide (h.fabverMax ≥ 1) || (!q.linkLocal.any leavesEarly && q.replay.all (fun f => f.cargo.isEmpty)))

/-- The end of EXCHANGE: version, lanes, identity, status and state (R74, R87). -/
def exchangeEnd (n : Nat) (h : HelloInfo) (s : State) : State :=
  let q := s.port n
  let (use, w) := laneSet s n q.saidOk h.laneOk h.maxw
  let s := s.setPort n { q with fabver := min 1 h.fabverMax, laneUse := use, width := w }
  let s := s.setReg (puBase n + 0x0C) (h.ident.setWidth 64)
  let (d, up) := discover s n h
  let peer := if d = .swapped then (swapPeers s n h).headD 0 else 0
  reswap n h (takeStatus n peer d up s)

/-- EXCHANGE ends as soon as what it waits for has happened. -/
def exchangeCheck (n : Nat) (s : State) : State :=
  let q := s.port n
  match q.far with
  | some h => if q.link == .exchange && exchangeDone q h then exchangeEnd n h s else s
  | none => s

/-- The far end of a port in EXCHANGE has said what it is; lanes or MAXW that differ from its LTFs', or leave no lane, fail the
training (R68, R72, R74). -/
def farHeard (n : Nat) (h : HelloInfo) (s : State) : State :=
  let q := s.port n
  if h.laneOk ≠ q.farLaneOk ∨ h.maxw ≠ q.farMaxw.toNat ∨ (laneSet s n q.saidOk h.laneOk h.maxw).2 = 0 then enterDetect n s
  else exchangeCheck n (s.setPort n { q with far := some h })

/-- A fast retrain begins, on the lanes this end holds good (R81); on a FABVER 0 link full training, after its unacknowledged frames
and the packet being sent are discarded (R97). (DEDUCED, notes/assumptions/22.md) -/
def beginRetrain (n : Nat) (s : State) : State :=
  let q := s.port n
  if q.fabver = 0 then
    let gone := queueBehind (frameCargo (q.kept ++ q.replay)) q.txPartOf.toList
    let s := gone.foldl (fun s e => countPkt 0x028 n e.pkt s)
      (s.setPort n { q with kept := [], replay := [], resend := 0, txPart := [], txPartOf := none })
    raise (puBlk n) 9 (beginTraining n s)
  else sendHello n 1 (laneOk q) (s.setPort n { q with link := .retrain, resumeTo := q.link, retrains := 0, sent := [] })

/-! ## Link-local packets (R46, R73) -/

/-- Checks 1 to 3 of Table 2.12 on a link-local packet of type `typ`; whether it is to be acted on. A link
that is UP at FABVER 0 carries none (R97). -/
def linkLocalIn (n typ : Nat) (p : Packet) (s : State) : Bool × State :=
  let q := s.port n
  let live := q.link == .exchange || q.link == .up || q.link == .isolated || q.link == .retrain
  if !coreOn s || !live || p.typ ≠ typ || (q.link == .up && q.fabver = 0) then (false, s)
  else
    let (_, s) := takeIn n p s
    if p.hcrc ≠ p.hcrcOf then (false, raise (puBlk n) 1 (countPkt 0x020 n p s))
    else if !check3 p (if q.everUp then q.fabver else 0) then (false, raise (puBlk n) 2 (countPkt 0x021 n p s))
    else (q.everUp || typ == tLinkCtrl, s)

/-- A LINK_CTRL of subtype `sub` (Table 3.3). One that fails its checks is dropped, and one whose subtype asks nothing of a
switch is received, whichever LINK_CTRL command brings it; one of another command's subtype changes nothing. (DEDUCED,
notes/assumptions/57.md) -/
def linkCtrlIn (n sub : Nat) (p : Packet) (s : State) : Bool × State :=
  match linkLocalIn n tLinkCtrl p s with
  | (false, t) => (false, t)
  | (true, t) =>
    let k := p.at 32 8
    if k = sub then (true, t) else if 1 ≤ k ∧ k ≤ 4 then (false, s) else (false, t)

/-- HELLO: in EXCHANGE it is acknowledged and makes the far end known; on a link that is UP or ISOLATED it shows that the far end
has begun a fast retrain (R73, R81, R87). (DEDUCED, notes/assumptions/25.md) -/
def hello (n : Nat) (p : Packet) (s : State) : State :=
  match linkCtrlIn n 1 p s with
  | (false, s) => s
  | (true, s) =>
    let l := (s.port n).link
    if l == .exchange then farHeard n (helloInfo p) (sendHello n 2 (s.port n).saidOk s)
    else if l == .up || l == .isolated then beginRetrain n s
    else s

/-- HELLO_ACK: the far side's version, lanes, width and identity (R74). -/
def helloAck (n : Nat) (p : Packet) (s : State) : State :=
  match linkCtrlIn n 2 p s with
  | (false, s) => s
  | (true, s) => if (s.port n).link == .exchange then farHeard n (helloInfo p) s else s

/-- DELAY_REQ: answered, in its TC (R44), with its receive and send times (R75); bytes 33, 34 and 36 to 39 of the answer are 0. (DESIGN CHOICE,
notes/assumptions/71.md) -/
def delayReq (n : Nat) (p : Packet) (t2 t3 : Nat) (s : State) : State :=
  match linkCtrlIn n 3 p s with
  | (false, s) => s
  | (true, s) => sendLinkLocal n tLinkCtrl (linkVer (s.port n)) [(16, 3, p.tc), (8 * 32, 8, 4), (8 * 40, 64, t2), (8 * 48, 64, t3)] s

/-- DELAY_RESP: once eight exchanges are made, the mean of the last eight one-way delays (R75), rounded down, is
PU_LINK_DELAY.DELAY; in EXCHANGE the eighth may be what it waits for. -/
def delayResp (n : Nat) (p : Packet) (t1 t4 : Nat) (s : State) : State :=
  match linkCtrlIn n 4 p s with
  | (false, s) => s
  | (true, s) =>
    if (s.port n).role ≠ roleTrunk then s
    else
      let twice : Int := ((t4 : Int) - t1) - ((p.at 48 64 : Int) - p.at 40 64)
      let ds := (twice :: (s.port n).delays).take 8
      let mean : Int := (ds.foldl (· + ·) 0) / 16
      let s := s.modPort n (fun q => { q with delays := ds })
      if ds.length < 8 then s else exchangeCheck n (s.setField (puBase n + 0x1C) 15 0 (min mean.toNat 0xFFFF))

/-- DELAY_EXCHANGE: one further exchange on an UP trunk link (R75). -/
def delayExchange (n t1 : Nat) (s : State) : State :=
  let q := s.port n
  if coreOn s && q.role == roleTrunk && q.link == .up && decide (q.fabver ≥ 1) then
    sendLinkLocal n tLinkCtrl 1 [(8 * 32, 8, 3), (8 * 48, 64, t1)] s
  else s

/-! ## Lane failure and retraining (R80 to R83, R93, R97) -/

/-- A receiver lane is marked failed, with what follows in the link's state (R80, R81, R83). A lane that fails in the third fast
retrain in a row holds the link down; a lane in use that fails in the first or second counts as a failed retrain.
(DESIGN CHOICE, notes/assumptions/75.md) -/
def laneFail (n lane : Nat) (s : State) : State :=
  let q := s.port n
  let mark := { q with failed := q.failed ||| BitVec.ofNat 8 (2 ^ lane) }
  if !coreOn s || q.failed.getLsbD lane then s
  else match q.link with
    | .equalise => enterDetect n (s.setPort n mark)
    | .align => enterDetect n (s.setPort n mark)
    | .exchange => enterDetect n (s.setPort n mark)
    | .up | .isolated =>
      let s := s.setPort n mark
      if !q.laneUse.getLsbD lane then s
      else if q.fabver = 0 then beginRetrain n s
      else if laneOk mark = 0 then heldDown n s
      else beginRetrain n s
    | .retrain =>
      let s := s.setPort n mark
      if q.retrains ≥ 2 ∨ laneOk mark = 0 then heldDown n s
      else if !q.laneUse.getLsbD lane then s
      else s.modPort n (fun q => { q with retrains := q.retrains + 1 })
    | _ => s

/-- FAST_RETRAIN_END (R81, R83, R150): the data starts again from the first unacknowledged frame, and a HELLO or FILL not sent yet
is not sent any more. -/
def fastRetrainEnd (n : Nat) (ok : Bool) (farOk : BitVec 8) (farMaxw : BitVec 2) (s : State) : State :=
  let q := s.port n
  if !coreOn s || q.link != .retrain then s
  else if !ok then
    if q.retrains ≥ 2 then heldDown n s else s.setPort n { q with retrains := q.retrains + 1 }
  else
    let (use, w) := laneSet s n (laneOk q) farOk farMaxw.toNat
    if w = 0 then heldDown n s
    else
      let s := s.setPort n { q with
        link := q.resumeTo, laneUse := use, width := w, retrains := 0, resend := q.replay.length, sent := [],
        linkLocal := q.linkLocal.filter lasting }
      let s := count 0x035 1 (some n) none none s
      let s := if w < q.width then
          raise (puBlk n) 8 (count 0x036 1 (some n) none none (s.setSticky (puBase n + 0x18) 1))
        else s
      if q.resumeTo == .up then comeUp n s else s

/-- FAR_RETRAIN_DETECT: the far end began a full retrain; the port's own marks stay (R93). -/
def farRetrainDetect (n : Nat) (s : State) : State :=
  let l := (s.port n).link
  if coreOn s && (l == .up || l == .isolated || l == .retrain) then beginTraining n s else s

/-- Ports train: the configuration is applied and the switch placed (R84, R85). -/
def portsLive (s : State) : Bool := coreOn s && s.boot.applied && placed s

/-- A write of PU_LINK_CTRL.RETRAIN (R93). -/
def linkRetrain (n : Nat) (s : State) : State :=
  if !portsLive s || (s.port n).link == .disabled then s
  else beginTraining n (s.modPort n (fun q => { q with failed := 0 }))

/-- A write of PU_LINK_CTRL.ACCEPT (R92). -/
def linkAccept (n : Nat) (s : State) : State :=
  let q := s.port n
  if coreOn s && q.link == .isolated && (q.disc == .unexpected || q.disc == .swapped || q.disc == .misplaced) then comeUp n s
  else s

/-- A write of PU_LINK_CTRL.DISABLE = 1: a forced disable of the port, with FUNC_FORCED when it discards a packet (R335,
Table 3.9). -/
def linkDisable (n : Nat) (s : State) : State :=
  let q := s.port n
  let s := s.setField (puBase n + 0x04) 2 2 1
  if q.link == .disabled then s
  else raiseIf (!(portCargo q).isEmpty) (puBlk n) 38
    ((discardQueues n s).modPort n (fun q => { q with link := .disabled, wasUp := false, laneUse := 0 }))

/-- A write of PU_LINK_CTRL.DISABLE = 0 (R68, Table 3.9). -/
def linkEnable (n : Nat) (s : State) : State :=
  let s := s.setField (puBase n + 0x04) 2 2 0
  if portsLive s && (s.port n).link == .disabled then beginTraining n s else s

/-! ## Link frames received (R62 to R64, R76 to R80, R132) -/

/-- The frame is whole: its FCRC holds. -/
def frameOk (f : LinkFrame) : Bool := (frameCrc f.slots (f.trailer.toNat % 2 ^ 32)).toNat == f.trailer.toNat / 2 ^ 32

/-- A packet of flits: a header and the payload its PAYLEN gives. -/
def packetOf (flits : List (BitVec 512)) : Packet :=
  let h := flits.headD 0
  let p : Packet := ⟨h, []⟩
  { p with pay := ((flits.drop 1).flatMap (fun x => leBytes 64 x.toNat)).take p.paylen }

/-- The packet is green as it comes in: by its COLOUR at a trunk port; at an endpoint port by the tokens its entry meter has left
beside those the packets before it will take (R130, R134). (DEDUCED, notes/assumptions/32.md) -/
def greenIn (s : State) (n : Nat) (p : Packet) : Bool :=
  if isTrunk s n then p.cv && p.colour == 1
  else
    let a := conA s p.contract
    let v := s.regN (meterAddr n (aMeter a))
    let ahead := ((s.port n).rxq.filter (fun e => e.pkt.cv && e.pkt.contract == p.contract)).length
    p.cv && conState s p.contract != 0 && aEntry a == 1 && aEntryPu a == n && aTc a == p.tc && cwSw p.src == ownSw s &&
      decide (ahead < bits v 7 0) && decide (ahead < bits v 15 8)

/-- A whole packet is received and joins the receive buffer: link-local packets and green ones hold no credits; another packet of a
contract class that would take its channel past half of the allowance is dropped, at an endpoint port once its meter has had it (R64,
R117, R130, R132). Only a link that is UP, with a role, carries other packets than link-local ones: another is dropped (R67, R89, R93).
(DEDUCED, notes/assumptions/23.md) -/
def receivePacket (n at_ : Nat) (p : Packet) (s : State) : State :=
  let s := received n p s
  let q := s.port n
  let c := inChannel s n p
  let k := credits p
  let owed := { q with rxOwed := tabAdd q.rxOwed c k }
  if typeLinkLocal p.typ then s.setPort n { q with rxq := q.rxq ++ [⟨p, at_, 0, false⟩] }
  else if q.link != .up || q.role == roleNone then s.setPort n owed
  else if contractClass s p.tc && greenIn s n p then
    s.setPort n { owed with rxq := q.rxq ++ [⟨p, at_, 0, false⟩], rxGreen := tabAdd q.rxGreen c k }
  else if contractClass s p.tc && q.allow != 0 && decide (2 * (tabOr q.rxHeld c 0 + k) > q.allow) then
    (if isEndpoint s n then s.setPort n { owed with rxq := q.rxq ++ [⟨p, at_, 0, true⟩] }
     else countPkt 0x01B n p ((s.setPort n owed).countReg (puBase n + 0x68) 1))
  else s.setPort n { q with rxq := q.rxq ++ [⟨p, at_, k, false⟩], rxHeld := tabAdd q.rxHeld c k }

/-- One flit received. -/
def receiveFlit (n : Nat) (x : BitVec 512) (s : State) : State :=
  let q := s.port n
  let at_ := if q.rxPart.isEmpty then s.now else q.rxPartAt
  let part := q.rxPart ++ [x]
  let s := count 0x011 1 (some n) (some (packetOf part).tc) none s
  if part.length ≥ (packetOf part).flits then
    receivePacket n at_ (packetOf part) (s.setPort n { q with rxPart := [] })
  else s.setPort n { q with rxPart := part, rxPartAt := at_ }

/-- The test frame is acknowledged: PU_LINK_DELAY.REPLAY_RTT in FCLK cycles (R75). (DEDUCED, notes/assumptions/25.md) -/
def testAcked (n : Nat) (acked : List SentFrame) (s : State) : State :=
  match (s.port n).test with
  | some (seq, t) =>
    if acked.any (fun f => trFseq f.frame.trailer == seq) then
      (s.modPort n (fun q => { q with test := none })).setField (puBase n + 0x1C) 31 16 (min ((s.now - t) * 4) 0xFFFF)
    else s
  | none => s

/-- What a whole trailer says of this end's frames: those up to ACKSEQ are acknowledged, and NAK starts a replay of what remains,
one more NAK of its first frame in a row (R77, R78, R80). A NAK that repeats while its replay runs is the same NAK. -/
def takeAck (n : Nat) (t : BitVec 64) (s : State) : State :=
  let q := s.port n
  let k := ackedBy (trAck t) q.replay
  let replay := q.replay.drop k
  let again := trNak t && q.resend == 0 && !replay.isEmpty
  let s := testAcked n (q.replay.take k) s
  let s := s.modPort n (fun q => { q with
    replay := replay
    resend := if again then replay.length else min q.resend replay.length
    nakRun := (if k = 0 then q.nakRun else 0) + b2n again })
  if again then count 0x034 1 (some n) none none (s.countReg (puBase n + 0x20) 1) else s

/-- Credits returned in a trailer come in (R64). -/
def takeCredit (n : Nat) (t : BitVec 64) (s : State) : State :=
  if trCred t = 0 then s else s.modPort n (fun q => { q with txCred := tabAdd q.txCred (trClass t) (trCred t) })

/-- The trailer of a frame that is taken. The ACKSEQ of the first frame after a full training of a link that has been UP tells which
frames had arrived before it (R93). (DESIGN CHOICE, notes/assumptions/78.md) -/
def takeTrailer (n : Nat) (t : BitVec 64) (s : State) : State :=
  let q := s.port n
  let s := takeCredit n t s
  if q.wasUp && !q.begun then keptBack n (some (trAck t)) s else takeAck n t s

/-- Symbols corrected on receiver lane `l` in the last millisecond (R80). -/
def laneErrors (q : Port) (l : Nat) : Nat := ((q.laneCorr.filter (fun e => e.2.1 == l)).map (fun e => e.2.2)).foldl (· + ·) 0

/-- Eight NAKs in a row of one frame of this end: REPLAY_LIMIT, and a fast retrain begins (R80); a failure in EXCHANGE trains anew
(R68). (DEDUCED, notes/assumptions/26.md) -/
def nakLimit (n : Nat) (s : State) : State :=
  if (s.port n).nakRun < 8 then s
  else
    let s := (s.modPort n (fun q => { q with nakRun := 0 })).setSticky (puBase n + 0x18) 4
    match (s.port n).link with
    | .exchange => enterDetect n s
    | .up | .isolated => beginRetrain n s
    | _ => s

/-- This end has NAKed one frame eight times in a row: REPLAY_LIMIT, the lane of its receiver with the most corrected symbols of the
last millisecond fails, and a fast retrain begins with it (R80). (DEDUCED, notes/assumptions/26.md) -/
def ownNakLimit (n : Nat) (s : State) : State :=
  let q := s.port n
  if q.nakSent < 8 then s
  else
    let used := bitsSet 8 q.laneUse.toNat
    let lane := used.foldl (fun m l => if laneErrors q l > laneErrors q m then l else m) (used.headD 0)
    laneFail n lane ((s.modPort n (fun q => { q with nakSent := 0 })).setSticky (puBase n + 0x18) 4)

/-- The symbols a frame needed corrected on each lane join those of the last millisecond, 350,000 CCLK cycles; a lane with more
than 2,048 fails (R80). -/
def laneSymbols (n : Nat) (symbols : List Nat) (s : State) : State :=
  let q := s.port n
  let new := ((List.range 8).map (fun l => (s.now, l, symbols.getD l 0))).filter (fun e => e.2.2 != 0)
  let q := { q with laneCorr := q.laneCorr.filter (fun e => decide (s.now < e.1 + 350000)) ++ new }
  ((List.range 8).filter (fun l => decide (laneErrors q l > 2048))).foldl (fun s l => laneFail n l s) (s.setPort n q)

/-- A frame is discarded; the first is NAKed (R76, R77). `seq` is the number of one that is whole: one that does not follow the number
discarded last shows that the far end has begun its replay anew and that the frame expected has been lost again, so it is NAKed once
more (R80). (DEDUCED, notes/assumptions/26.md) -/
def frameLost (n : Nat) (seq : Option (BitVec 8)) (s : State) : State :=
  let q := s.port n
  let anew := match seq, q.nakLast with
    | some x, some y => !(x - y - 1).getLsbD 7
    | _, _ => true
  let naks := !q.nak || !anew
  let s := (count 0x032 1 (some n) none none s).modPort n (fun q => { q with
    nak := true
    nakSent := if naks then q.nakSent + 1 else q.nakSent
    nakLast := seq.orElse (fun _ => q.nakLast) })
  ownNakLimit n (if naks then count 0x033 1 (some n) none none s else s)

/-- A frame of the far end's RETRAIN, as an end that is not in RETRAIN yet receives it (R81): it holds HELLO or FILL alone and carries
the number of the last frame before it; in a training whose first frame has come, no other frame does, but one that is sent again.
(DEDUCED, notes/assumptions/22.md) -/
def retrainHeard (q : Port) (f : LinkFrame) : Bool :=
  let p : Packet := ⟨f.slots.headD 0, []⟩
  q.begun && trUsed f.trailer == 1 && p.typ == tLinkCtrl && (p.at 32 8 == 1 || p.at 32 8 == 6) &&
    !(trFseq f.trailer - q.rxSeq).getLsbD 7

/-- A frame received, with `unc` codewords that could not be corrected: taken when it is whole and the next expected (R76, R77). One
that is whole and out of turn still says what the far end has received, and so does one of RETRAIN, which takes no number.
(DEDUCED, notes/assumptions/26.md) -/
def frameIn (n : Nat) (f : LinkFrame) (unc : Nat) (s : State) : State :=
  if unc > 0 ∨ frameOk f = false then frameLost n none s
  else if retrainHeard (s.port n) f then
    nakLimit n (takeAck n f.trailer (receivePacket n s.now ⟨f.slots.headD 0, []⟩
      (count 0x011 1 (some n) (some (Packet.mk (f.slots.headD 0) []).tc) none s)))
  else if trFseq f.trailer ≠ (s.port n).rxSeq + 1 then frameLost n (some (trFseq f.trailer)) (nakLimit n (takeAck n f.trailer s))
  else
    let s := s.modPort n (fun q => { q with rxSeq := trFseq f.trailer, nak := false, nakSent := 0, nakLast := none })
    let s := (f.slots.take (trUsed f.trailer)).foldl (fun s x => receiveFlit n x s) s
    let s := (takeTrailer n f.trailer s).modPort n (fun q => { q with begun := true })
    exchangeCheck n (nakLimit n s)

/-- Coded data comes in. -/
def dataState (l : LinkState) : Bool := l == .exchange || l == .up || l == .isolated || l == .retrain

/-- LINK_FRAME (R76, R77, R80): a frame of RETRAIN takes no number; its codewords are counted. (DEDUCED, notes/assumptions/22.md) -/
def linkFrame (n : Nat) (f : LinkFrame) (corr unc : Nat) (symbols : List Nat) (s : State) : State :=
  if !coreOn s || !dataState (s.port n).link then s
  else
    let s := count 0x030 corr (some n) none none (s.countReg (puBase n + 0x28) corr)
    let s := count 0x031 unc (some n) none none (s.countReg (puBase n + 0x30) unc)
    laneSymbols n symbols (if (s.port n).link == .retrain then s else frameIn n f unc s)

/-! ## Link frames sent (R63, R64, R77, R78, R136, R138, R146) -/

/-- Flit time at `w` lanes, units of 10 ps: 1.28 ns divided by the width. -/
def flitTime (w : Nat) : Nat := 128 / max w 1

/-- Guard band G at `w` lanes, units of 10 ps (R136). -/
def guardBand (w : Nat) : Nat := 4224 / max w 1

/-- Gate offset, in units of 10 ps, at which the present gate cycle of port `n` ends: CYCLE, or sooner at the epoch boundary when
CYCLE does not divide the period (R135). -/
def cycleEnd (s : State) (n : Nat) : Nat :=
  let c := gateCycle s n * 1000
  let p := epochPeriod s * 1000
  let done := (s.now - s.rack.boundaryAt) * 2000 / 7 / (max c 1) * c
  if done < p then min c (p - done) else c

/-- The slot whose window is open at gate offset `t` (10 ps), and the end of that window. -/
def openWindow (s : State) (n t : Nat) : Option (Nat × Nat) :=
  ((List.range (gateWindows s n)).find? (fun i =>
    let (a, l) := gateWindow s n i; decide (a * 1000 ≤ t) && decide (t < min ((a + l) * 1000) (cycleEnd s n)))).map
      (fun i => let (a, l) := gateWindow s n i; (i, min ((a + l) * 1000) (cycleEnd s n)))

/-- No window opens within G after `t`, this cycle or at the start of the next. -/
def clearOfGuard (s : State) (n t : Nat) : Bool :=
  let g := guardBand (s.port n).width
  let c := cycleEnd s n
  (List.range (gateWindows s n)).all (fun i =>
    let a := (gateWindow s n i).1 * 1000
    !(decide (t < a) && decide (a < c) && decide (a < t + g)) && !(decide (t < c + a) && decide (c + a < t + g)))

/-- The key in `Port.winSent` of a window: that of slot `i`, in this gate cycle or the next, for contract `c`. -/
def winKey (c i lap : Nat) : Nat := c * 512 + i * 2 + min lap 1

/-- Whether queued packet `e` may start at offset `t` of gate cycle `lap` (R136, R138): a green one in its own slot's window, before
its last G, while its contract has sent fewer than R in this window; another outside windows and guard bands. -/
def mayStart (s : State) (n lap t : Nat) (e : QPkt) : Bool :=
  match e.green with
  | some c =>
    (match openWindow s n t with
      | some (i, stop) => bSlot (conB s c) == i && decide (t + guardBand (s.port n).width ≤ stop) &&
          decide (tabOr (s.port n).winSent (winKey c i lap) 0 < bR (conB s c))
      | none => false)
  | none => (openWindow s n t).isNone && clearOfGuard s n t

/-- Credits for a packet on its channel are held (R64). -/
def hasCredit (q : Port) (p : Packet) : Bool := decide (tabOr q.txCred (channel p) 0 ≥ credits p)

/-- The first packet, in order of arrival, that may start at `t` and whose channel holds its credits; a packet never
passes an earlier one of its own channel and queue. (DEDUCED, notes/assumptions/30.md) -/
def nextStart (s : State) (n lap t : Nat) : List QPkt → List (Nat × Option Nat) → Option QPkt
  | [], _ => none
  | e :: r, stuck =>
    if stuck.contains (channel e.pkt, e.green) then nextStart s n lap t r stuck
    else if mayStart s n lap t e && hasCredit (s.port n) e.pkt then some e
    else nextStart s n lap t r (stuck ++ [(channel e.pkt, e.green)])

/-- Flits of a packet as sent. -/
def flitsOf (p : Packet) : List (BitVec 512) :=
  p.hdr :: (chunksOf 64 33 p.data).map (fun c => BitVec.ofNat 512 (leNat c))

/-- The bound, in sevenths of a nanosecond, past which the last flit of a green packet of contract `c` is an overrun at its
egress `n` (R145, R146). -/
def egressBound7 (s : State) (n c : Nat) : Nat :=
  (gateCycle s n * 10 * ceilDiv (bQmax (conB s c)) (bR (conB s c)) + fBase s + 120) * 7

/-- A green packet is recorded as an overrun of its egress, once, unless the switch is halted (R146, R329): its mark goes with it. -/
def overrun (n : Nat) (e : QPkt) (s : State) : State :=
  if halted s || e.late || e.green.isNone then s
  else
    let mark := fun (x : QPkt) => if x.pkt == e.pkt then { x with late := true } else x
    let s := s.modPort n (fun q => { q with
      replay := q.replay.map (fun f => { f with cargo := f.cargo.map mark })
      txPartOf := q.txPartOf.map mark })
    raise (puBlk n) 17 (countPkt 0x019 n e.pkt (s.countReg (puBase n + 0x50) 1))

/-- The last flit of `e` is placed in a frame for the first time: whether it is late (R146). -/
def tooLate (s : State) (n : Nat) (e : QPkt) : Bool :=
  match e.green with
  | some c => !halted s && decide (since7 s e.hopStart > egressBound7 s n c)
  | none => false

/-- The last flit of `e` is placed in a frame: counts, and the overrun of a late green packet, timed when it is sent for the first time
(R146). -/
def sentPacket (n : Nat) (e : QPkt) (s : State) : State :=
  let s := countPkt 0x012 n e.pkt s
  let s := if e.pkt.dl = 1 then countPkt 0x043 n e.pkt s else s
  if !e.out && tooLate s n e then overrun n e s else s

/-- Frames with a flit of the packets `l` have been sent `k` times before this one in this training: a third sending makes a green
packet an overrun (R146). -/
def sentAgain (n k : Nat) (l : List QPkt) (s : State) : State :=
  l.foldl (fun s e => if e.sends + k ≥ 2 then overrun n e s else s) s

/-- A link-local packet as it leaves: T_TX of an EPOCH, in whose place the queue holds the cycle of its boundary, and T1 of a
DELAY_REQ queued without one, are root-PLL counts of this moment (R75, R99). -/
def stamp (s : State) (p : Packet) : Packet :=
  if p.typ = tEpoch ∧ p.at 48 64 ≥ 2 ^ 63 then (p.set (8 * 48) 64 ((s.now - (p.at 48 64 - 2 ^ 63)) * 16)).seal
  else if p.typ = tLinkCtrl ∧ p.at 32 8 = 3 ∧ p.at 48 64 = 0 then (p.set (8 * 48) 64 (s.now * 16)).seal
  else p

/-- A link-local packet of port `q` may leave now (R46, R89). -/
def mayLeave (q : Port) (p : Packet) : Bool := q.link == .up || leavesEarly p

/-- The next packet to start at offset `t` of gate cycle `lap`: link-local first (R46), then by `nextStart`, none at a port of role NONE
(R67); with the state after it has left its queue and taken its credits. -/
def startPacket (n lap t : Nat) (s : State) : Option QPkt × State :=
  let q := s.port n
  match q.linkLocal.find? (mayLeave q) with
  | some p => (some ⟨stamp s p, none, s.now, none, false, 0, false⟩, s.setPort n { q with linkLocal := q.linkLocal.erase p })
  | none =>
    if q.link != .up || q.role == roleNone then (none, s)
    else match nextStart s n lap t q.egress [] with
      | none => (none, s)
      | some e => (some e, s.setPort n { q with
          egress := q.egress.erase e
          txCred := tabSub q.txCred (channel e.pkt) (credits e.pkt)
          winSent := match e.green with | some c => tabAdd q.winSent (winKey c (bSlot (conB s c)) lap) 1 | none => q.winSent })

/-- Fills the slots of a new frame: (flits placed, their packets, state). `fuel` bounds the packets started and finished. A link that has left
UP finishes the packet it was sending, for LINK_CTRL to follow. (DESIGN CHOICE, notes/assumptions/78.md) -/
def fillFrame (fuel n t : Nat) (slots : List (BitVec 512)) (cargo : List QPkt) (s : State) :
    List (BitVec 512) × List QPkt × State :=
  match fuel with
  | 0 => (slots, cargo, s)
  | f + 1 =>
    if slots.length ≥ 32 then (slots, cargo, s)
    else
      let q := s.port n
      match q.txPartOf with
      | some e =>
        let k := min (32 - slots.length) q.txPart.length
        let s := count 0x013 k (some n) (some e.pkt.tc) none s
        if k = q.txPart.length then
          let s := sentPacket n e s
          fillFrame f n t (slots ++ q.txPart) (cargo ++ ((s.port n).txPartOf.toList))
            (s.modPort n (fun q => { q with txPart := [], txPartOf := none }))
        else (slots ++ q.txPart.take k, cargo ++ [e], s.setPort n { q with txPart := q.txPart.drop k })
      | none =>
        let c := max (cycleEnd s n) 1
        let at_ := t + slots.length * flitTime q.width
        match startPacket n (at_ / c) (at_ % c) s with
        | (none, s) => (slots, cargo, s)
        | (some e, s) =>
          match leaveRead n e.green.isSome e.pkt s with
          | (none, s) => fillFrame f n t slots cargo s
          | (some p, s) =>
            fillFrame f n t slots cargo (s.modPort n (fun q => { q with txPart := flitsOf p, txPartOf := some { e with pkt := p } }))

/-- What R318 withholds is taken from what is owed, first from the credits of packets that are not green. -/
def withheld (q : Port) : Port :=
  let w := fun c => min (tabOr q.withhold c 0) (tabOr q.rxOwed c 0)
  let cut := fun (t : Tab Nat) => channels.foldl (fun t c => if w c = 0 then t else tabSub t c (w c)) t
  let owed := cut q.rxOwed
  { q with
    rxOwed := owed
    withhold := cut q.withhold
    rxGreen := channels.foldl (fun t c => if tabOr owed c 0 < tabOr t c 0 then tabSet t c (tabOr owed c 0) else t) q.rxGreen }

/-- Credits to return in a trailer of a link that is UP, less what R318 withholds: those of green packets first, else the first channel
that owes any, up to 31, and none for a held class on an endpoint port (R64, R122, R132, R318). -/
def creditReturn (n : Nat) (s : State) : Nat × Nat × State :=
  if (s.port n).link != .up then (0, 0, s)
  else
    let q := withheld (s.port n)
    let s := s.setPort n q
    let held := fun c => isEndpoint s n && bit (s.regN 0x2000010) (c % 8)
    let owing := fun (t : Tab Nat) => channels.find? (fun c => decide (tabOr t c 0 > 0) && !held c)
    match (owing q.rxGreen).orElse (fun _ => owing q.rxOwed) with
    | none => (0, 0, s)
    | some c =>
      let k := min (tabOr q.rxOwed c 0) 31
      (c, k, s.setPort n { q with rxOwed := tabSub q.rxOwed c k, rxGreen := tabSub q.rxGreen c k })

/-- A frame with no packet in it is sent (Table 17.1, 0x038). -/
def idleFrame (n used : Nat) (s : State) : State := if used = 0 then count 0x038 1 (some n) none none s else s

/-- A frame sent again (R77), with the acknowledgement of now and the credits it returned at first; one sent a third time makes
its green packets overruns (R146). -/
def resendFrame (n : Nat) (s : State) : State :=
  let q := s.port n
  let i := q.replay.length - q.resend
  match q.replay[i]? with
  | none => s
  | some f =>
    let old := f.frame.trailer
    let frame : LinkFrame := ⟨f.frame.slots,
      mkTrailer (trFseq old) (f.ack.getD q.rxSeq) q.nak f.frame.slots (trUsed old) (trClass old) (trCred old)⟩
    let s := idleFrame n (trUsed old) (s.setPort n { q with
      replay := q.replay.set i { f with frame := frame, sends := f.sends + 1 }
      resend := q.resend - 1
      test := q.test.map (fun e => if e.1 = trFseq old then (e.1, s.now) else e)
      sent := q.sent ++ [frame] })
    sentAgain n f.sends f.cargo s

/-- Zero slots after those in use (Table 3.1). -/
def padSlots (slots : List (BitVec 512)) : List (BitVec 512) := slots ++ List.replicate (32 - slots.length) 0

/-- A frame of RETRAIN: HELLO, or FILL once that is sent, whose bytes 33, 34 and 36 to 39 are 0 (DESIGN CHOICE,
notes/assumptions/71.md). It carries the number of the last frame before it and is not kept: FSEQ and the replay buffer stay as they
are (R81). (DEDUCED, notes/assumptions/22.md) -/
def retrainFrame (n : Nat) (s : State) : State :=
  let s := if (s.port n).linkLocal.any (fun p => !lasting p) then s else sendLinkLocal n tLinkCtrl (linkVer (s.port n)) [(8 * 32, 8, 6)] s
  let q := s.port n
  match q.linkLocal.find? (fun p => !lasting p) with
  | none => s
  | some p =>
    let slots := padSlots [p.hdr]
    countPkt 0x012 n p (count 0x013 1 (some n) (some p.tc) none (s.setPort n { q with
      linkLocal := q.linkLocal.erase p, sent := q.sent ++ [⟨slots, mkTrailer (q.txSeq - 1) q.rxSeq q.nak slots 1 0 0⟩] }))

/-- A new frame at gate offset `t`; the test frame of R75 is to be sent a second time. The first frame of a training of a link that
has been UP carries the FSEQ last received before it (R93). (DESIGN CHOICE, notes/assumptions/78.md) -/
def newFrame (n t : Nat) (s : State) : State :=
  let (slots, cargo, s) := fillFrame (2 * ((s.port n).egress.length + (s.port n).linkLocal.length) + 3) n t [] [] s
  let (c, k, s) := creditReturn n s
  let q := s.port n
  let ack := if q.wasUp && !q.opened then some q.rxOld else none
  let frame : LinkFrame := ⟨padSlots slots, mkTrailer q.txSeq (ack.getD q.rxSeq) q.nak (padSlots slots) slots.length c k⟩
  let testing := match q.test with | some e => e.1 == q.txSeq | none => false
  sentAgain n 0 cargo ((idleFrame n slots.length s).setPort n { q with
    txSeq := q.txSeq + 1
    replay := q.replay ++ [⟨frame, 1, cargo, ack⟩]
    opened := true
    resend := if testing then 1 else 0
    test := if testing then some (q.txSeq, s.now) else q.test
    sent := q.sent ++ [frame] })

/-- LINK_FRAME_TRANSMIT at gate offset `t`: in RETRAIN the frames of that state; while lanes train, the next LTF of each; else a frame
to be sent again goes before any new one (R70, R77, R81). -/
def linkFrameTransmit (n t : Nat) (s : State) : State :=
  let q := s.port n
  if !coreOn s then s
  else if q.link == .retrain then retrainFrame n s
  else if ltfState q.link then s.setPort n { q with ltfs := q.ltfs + 1 }
  else if !dataState q.link then s
  else if q.resend > 0 then resendFrame n s
  else if q.replay.length ≥ 64 then s
  else exchangeCheck n (newFrame n t s)

end Sys2Proof.Machine
end

