-- ==== Sys2Proof/Machine/BpmOps.lean ====
section
/-!
DEFINITION. Buffer pools (spec/13, R311 to R321).
-/

namespace Sys2Proof.Machine

/-! ## Configuration -/

/-- Addresses of the configuration registers. -/
def bpmRegs : List Nat :=
  (List.range 4).flatMap (fun q => [0x7000000 + 4 * q, 0x7000010 + 8 * q, 0x7000040 + 8 * q, 0x7000060 + 4 * q])

/-- Buffer size of pool `p` (Table 13.1). -/
def poolSize (p : Nat) : Nat := if p < 4 then 512 * 4 ^ p else 4096 * 16 ^ (p - 4)

/-- Buffers of pool `p` (on quadrant `q` for P0 to P3), under configuration `cfg`. -/
def poolCount (cfg : Nat → Nat) (p q : Nat) : Nat :=
  if p < 4 then bits (cfg (0x7000010 + 8 * q)) (16 * p + 15) (16 * p) else bits (cfg (0x7000060 + 4 * (p - 4))) 17 0

/-- Base of store pool `p`. -/
def poolBase (cfg : Nat → Nat) (p : Nat) : Nat := bits (cfg (0x7000040 + 8 * (p - 4))) 39 0

/-- Configuration `cfg` is within R311. -/
def bpmLegal (s : State) (cfg : Nat → Nat) : Bool :=
  let quad := fun q =>
    let pkt := bits (cfg (0x7000000 + 4 * q)) 5 0
    let stg := bits (cfg (0x7000000 + 4 * q)) 11 6
    let use := ((List.range 4).map (fun p => poolCount cfg p q * poolSize p)).foldl (· + ·) 0
    decide (16 ≤ pkt ∧ 8 ≤ stg ∧ pkt + stg ≤ 48 ∧ use ≤ (48 - pkt - stg) * 2 ^ 20 ∧ 2 * (greenPlaces s q * 2112) ≤ pkt * 2 ^ 20)
  let range := fun p => (poolBase cfg p, poolBase cfg p + poolCount cfg p 0 * poolSize p)
  let store := fun p => poolBase cfg p % poolSize p == 0 && fabricVisible s (range p).1 (poolCount cfg p 0 * poolSize p)
  let apart := fun p q => decide (p ≥ q) || decide ((range p).2 ≤ (range q).1) || decide ((range q).2 ≤ (range p).1) ||
    poolCount cfg p 0 == 0 || poolCount cfg q 0 == 0
  let total := ((List.range 4).flatMap (fun q => (List.range 4).map (fun p => poolCount cfg p q))).foldl (· + ·) 0 +
    ((List.range 4).map (fun k => poolCount cfg (4 + k) 0)).foldl (· + ·) 0
  (List.range 4).all quad && (List.range 4).all (fun k => store (4 + k)) &&
    (List.range 4).all (fun i => (List.range 4).all (fun j => apart (4 + i) (4 + j))) && decide (total ≤ 131072)

/-- The registers' configuration put in force. -/
def bpmApply (s : State) : State :=
  { s with bpm := { s.bpm with inForce := bpmRegs.foldl (fun t a => tabSet t a (s.reg a)) [] } }

/-! ## Buffers -/

/-- Key of a buffer. -/
def bufKey (p q i : Nat) : Nat := p * 2 ^ 20 + q * 2 ^ 18 + i

/-- Handle of a buffer (Table 13.2). -/
def handleOf (b : Buf) : W32 := BitVec.ofNat 32 (b.index + b.gen * 2 ^ 17 + (if b.pool < 4 then b.quad else 0) * 2 ^ 26 + b.pool * 2 ^ 28)

/-- Store address of a buffer; 0 for P0 to P3. -/
def bufAddr (s : State) (b : Buf) : Nat := if b.pool < 4 then 0 else poolBase (bpmCfg s) b.pool + b.index * poolSize b.pool

/-- The buffer a handle names, by row 1 of Table 13.3 (POOL, QUAD, INDEX and GEN). -/
def findBuf (s : State) (h : W32) : Option Buf :=
  let v := h.toNat
  let p := bits v 31 28
  let q := bits v 27 26
  let i := bits v 16 0
  if p ≥ 8 ∨ (p ≥ 4 ∧ q ≠ 0) ∨ i ≥ poolCount (bpmCfg s) p q then none
  else s.bpm.bufs.find? (fun b => b.pool == p && b.quad == q && b.index == i && b.gen == bits v 25 17)

/-- The lowest index of pool `p` on quadrant `q` that is neither allocated nor withdrawn. -/
def freeIndex (s : State) (p q : Nat) : Option Nat :=
  let used := ((s.bpm.bufs.filter (fun b => b.pool == p && b.quad == q)).map (·.index)) ++
    ((s.bpm.lost.filter (fun k => k / 2 ^ 18 == bufKey p q 0 / 2 ^ 18)).map (· % 2 ^ 18))
  ((List.range (used.length + 1)).find? (fun i => !used.contains i)).filter (fun i => decide (i < poolCount (bpmCfg s) p q))

/-- Free buffers of a pool on a quadrant (Table 13.10). -/
def freeCount (s : State) (p q : Nat) : Nat :=
  poolCount (bpmCfg s) p q - (s.bpm.bufs.filter (fun b => b.pool == p && b.quad == q)).length -
    (s.bpm.lost.filter (fun k => k / 2 ^ 18 == bufKey p q 0 / 2 ^ 18 && decide (k % 2 ^ 18 < poolCount (bpmCfg s) p q))).length

/-- Allocates buffer `i` of a pool under its next generation (R313). -/
def takeBuf (p q i : Nat) (owners : List W32) (final : W32) (grant : Option (Nat × Nat × Nat)) (s : State) : Buf × State :=
  let g := tabOr s.bpm.gens (bufKey p q i) 1
  let g := if g ≥ 511 then 1 else g + 1
  let b : Buf := ⟨p, q, i, g, owners, final, grant⟩
  let s := match grant with
    | none => s
    | some (n, c, k) => s.modPort n (fun r => { r with rxOwed := tabAdd r.rxOwed c k })
  (b, { s with bpm := { s.bpm with
      bufs := s.bpm.bufs ++ [b], gens := tabSet s.bpm.gens (bufKey p q i) g, flawed := tabDel s.bpm.flawed (bufKey p q i) } })

/-- Credits of a freed buffer's grant are withheld from the port's next returns (R318). -/
def endGrant (b : Buf) (s : State) : State :=
  match b.grant with
  | none => s
  | some (n, c, k) => s.modPort n (fun r => { r with withhold := tabAdd r.withhold c k })

/-- Returns a buffer to its pool. -/
def freeBuf (b : Buf) (s : State) : State :=
  endGrant b { s with bpm := { s.bpm with bufs := s.bpm.bufs.erase b } }

/-- Every buffer returned, with the grants withdrawn; generations are kept (R319). -/
def bpmReturnAll (s : State) : State := s.bpm.bufs.foldl (fun s b => freeBuf b s) s

/-! ## Requests (Table 13.3) -/

/-- Fields (Table 2.10). -/
def plHandle (p : Packet) : W32 := BitVec.ofNat 32 (p.at 32 32)
def plSize (p : Packet) : Nat := p.at 32 32
def plBack (p : Packet) : Bool := p.at 36 1 == 1
def plCw (p : Packet) : W32 := BitVec.ofNat 32 (p.at 40 32)

/-- A CW whose X, Y and Z lie in the torus and whose W is 0. -/
def cwInside (s : State) (cw : W32) : Bool :=
  decide (cwX cw.toNat < dimAxis s 0) && decide (cwY cw.toNat < dimAxis s 1) && decide (cwZ cw.toNat < dimAxis s 2) &&
    cwW cw.toNat == 0

/-- POOL_RESP (R315). -/
def poolResp (p : Packet) (status : Nat) (handle : W32) (pool addr : Nat) (s : State) : State :=
  let (id, s) := newMsgId s
  originate 1 (mkPacket tPoolResp p.tc p.src false id 0 1 []
    [(8 * 32, 32, handle.toNat), (8 * 36, 8, status), (8 * 37, 4, pool), (8 * 44, 32, p.at 44 32), (8 * 48, 40, addr)]) s

/-- A non-OK answer, counted (Table 13.11). -/
def poolDeny (n : Nat) (p : Packet) (status pool : Nat) (s : State) : State :=
  let s := if status = 1 then countPkt 0x0C7 n p (s.countReg 0x7000108 1) else countPkt 0x0C8 n p (s.countReg 0x7000110 1)
  poolResp p status 0 pool 0 s

/-- R315's drop. -/
def poolDropped (n : Nat) (p : Packet) (s : State) : State := raise .bpm 2 (countPkt 0x0CA n p s)

/-- Smallest pool of a backing that holds `size`. -/
def poolFor (store : Bool) (size : Nat) : Option Nat :=
  ((List.range 4).map (fun k => if store then 4 + k else k)).find? (fun p => decide (size ≤ poolSize p))

/-- FINAL names an ENDPOINT port of this switch (R316). -/
def finalHere (s : State) (cw : W32) : Bool := cwSw cw.toNat == ownSw s && cwW cw.toNat == 0 && isEndpoint s (cwP cw.toNat)

/-- A POOL_ALLOC performed (R315 to R318). -/
def poolAlloc (n : Nat) (p : Packet) (s : State) : State :=
  let fin := plCw p
  if p.ssvc || !cwInside s fin then poolDropped n p s
  else if plSize p = 0 then poolDeny n p 6 0 s
  else match poolFor (plBack p) (plSize p) with
    | none => poolDeny n p 6 0 s
    | some k =>
      let here := finalHere s fin
      let q := if plBack p then 0 else if here then quadOf (cwP fin.toNat) else 1
      match freeIndex s k q with
      | none => poolDeny n p 1 k s
      | some i =>
        let src := BitVec.ofNat 32 p.src
        let grant := if !plBack p && here && !contractClass s p.tc then some (cwP fin.toNat, p.tc, poolSize k / 512) else none
        let (b, s) := takeBuf k q i (if src = fin then [fin] else [fin, src]) fin grant s
        poolResp p 0 (handleOf b) k (bufAddr s b) (countPkt 0x0C6 n p (s.countReg 0x7000100 1))

/-- POOL_ALLOC, after message accounting (R54). -/
def poolAllocIn (n : Nat) (p : Packet) (s : State) : State :=
  match msgArrive .bpm n p s with
  | (.dropped, s) => s
  | (.counted _ _ _, s) => poolAlloc n p s

/-- The buffer changed. -/
def putBuf (b b' : Buf) (s : State) : State :=
  { s with bpm := { s.bpm with bufs := s.bpm.bufs.map (fun x => if x = b then b' else x) } }

/-- A buffer's record is read: its errors are corrected and counted (R32); one that cannot be corrected withdraws the buffer (R320).
Of an error corrected to wrong data it is open what owners the record then names. (DESIGN CHOICE, notes/assumptions/68.md) -/
def readRecord (b : Buf) (s : State) : Option Buf × State :=
  let k := bufKey b.pool b.quad b.index
  match tabGet s.bpm.flawed k with
  | none => (some b, s)
  | some e =>
    let s := { s with bpm := { s.bpm with flawed := tabDel s.bpm.flawed k } }
    match flawClass e with
    | .clean => (some b, s)
    | .corrected => (some b, countCorrected .bpm s)
    | .missed r =>
      let b' := { b with owners := Config.recordOwners r b.owners }
      (some b', countCorrected .bpm (putBuf b b' s))
    | .detected =>
      let s := freeBuf b s
      (none, raise .bpm 0 ({ s with bpm := { s.bpm with lost := setAdd s.bpm.lost k } }.countReg 0x7000118 1))

/-- A buffer's return by its owner, with NOT_LAST when it may not (Table 13.3). -/
def poolReturn (n : Nat) (p : Packet) (b : Buf) (src : W32) (s : State) : State :=
  if src ≠ b.final ∨ b.owners.length > 1 then poolDeny n p 2 0 s
  else poolResp p 0 (handleOf b) b.pool 0 (countPkt 0x0C9 n p (freeBuf b s))

/-- POOL_SHARE, POOL_DROP and POOL_FREE, once the buffer is known and SRC owns it (R317). -/
def poolChange (n : Nat) (p : Packet) (b : Buf) (s : State) : State :=
  let src := BitVec.ofNat 32 p.src
  if p.typ = tPoolShare then
    let new := plCw p
    if b.owners.contains new then poolResp p 0 (handleOf b) b.pool (bufAddr s b) s
    else if b.owners.length ≥ 8 then poolDeny n p 5 0 s
    else poolResp p 0 (handleOf b) b.pool (bufAddr s b) (putBuf b { b with owners := b.owners ++ [new] } s)
  else if p.typ = tPoolDrop ∧ src ≠ b.final then
    poolResp p 0 (handleOf b) b.pool 0 (putBuf b { b with owners := b.owners.filter (· != src) } s)
  else poolReturn n p b src s

/-- A request that names a handle, performed (R315, Table 13.3). -/
def poolHandle (n : Nat) (p : Packet) (s : State) : State :=
  if p.ssvc || (p.typ == tPoolShare && !cwInside s (plCw p)) then poolDropped n p s
  else match findBuf s (plHandle p) with
    | none => poolDeny n p 3 0 s
    | some b =>
      match readRecord b s with
      | (none, s) => poolDeny n p 3 0 s
      | (some b, s) =>
        if !b.owners.contains (BitVec.ofNat 32 p.src) then poolDeny n p 4 0 s else poolChange n p b s

/-- POOL_SHARE, POOL_DROP and POOL_FREE, after message accounting (R54). -/
def poolHandleIn (n : Nat) (p : Packet) (s : State) : State :=
  match msgArrive .bpm n p s with
  | (.dropped, s) => s
  | (.counted _ _ _, s) => poolHandle n p s

/-! ## Registers (R321) -/

/-- BPM_STATUS RESULT and REASON. -/
def bpmResult (result reason : Nat) (s : State) : State := s.setRegN 0x7000074 (result + reason * 4)

/-- A write of BPM_CTRL.RECONF = 1; the request queue holds the batch allocations asked for and not answered (R314). -/
def reconf (s : State) : State :=
  if !s.bpm.bufs.isEmpty || s.xsteps.any (fun x => x.batches.any (fun b => !b.given)) then bpmResult 2 1 s
  else if !bpmLegal s (fun a => s.regN a) then bpmResult 2 2 s
  else bpmResult 1 0 (bpmApply s)

/-- A write of BPM_FORCE_FREE. -/
def forceFree (h : W32) (s : State) : State :=
  match findBuf s h with
  | none => bpmResult 2 3 s
  | some b =>
    match readRecord b s with
    | (none, s) => bpmResult 2 3 s
    | (some b, s) => bpmResult 1 0 (count 0x0C9 1 none none none (freeBuf b s))

end Sys2Proof.Machine
end

