-- ==== Sys2Proof/Machine/CollOps.lean ====
section
/-!
DEFINITION. Collectives at one switch (spec/07, spec/08): groups and their trees, descriptors, the checks of Table 7.5,
the reduction orders, the messages a switch owes, aborts and finishing.
-/

namespace Sys2Proof.Machine

/-! ## Group entries (Tables 7.1 and 7.19) -/

/-- Words A, B, C, D of entry `g`. -/
def grpA (s : State) (g : Nat) : Nat := s.regN (0x4010000 + g * 0x20)
def grpB (s : State) (g : Nat) : Nat := s.regN (0x4010004 + g * 0x20)
def grpC (s : State) (g : Nat) : Nat := s.regN (0x4010008 + g * 0x20)
def grpD (s : State) (g : Nat) : Nat := s.regN (0x4010010 + g * 0x20)
/-- The horizon H. -/
def grpH (s : State) (g : Nat) : W32 := (s.reg (0x401001C + g * 0x20)).setWidth 32

/-- Row 1 of Table 7.5: the entry is ACTIVE, and an AXIS entry only while AXIS_EN is 1 (R178). -/
def grpActive (s : State) (g : Nat) : Bool :=
  bit (s.regN (0x4010018 + g * 0x20)) 0 && (!bit (grpA s g) 16 || bit (s.regN 0x4000000) 0)

/-- GEPOCH. -/
def grpEpoch (s : State) (g : Nat) : Nat := bits (grpA s g) 15 0
/-- ROOT. -/
def grpRoot (s : State) (g : Nat) : Bool := bit (grpA s g) 17
/-- N_MEMBERS. -/
def grpN (s : State) (g : Nat) : Nat := bits (grpB s g) 17 0
/-- N_LOCAL. -/
def grpLocal (s : State) (g : Nat) : Nat := bits (grpB s g) 24 18
/-- PARENT_DIR, when the switch is not the root. -/
def grpParent (s : State) (g : Nat) : Option Nat := if grpRoot s g then none else some (bits (grpA s g) 20 18)
/-- CHILD_DIRS. -/
def grpKids (s : State) (g : Nat) : List Nat := bitsSet 6 (bits (grpA s g) 26 21)

/-- Directions without two that name the same neighbour (R179). -/
def dedupDirs (s : State) (ds : List Nat) : List Nat :=
  ds.foldl (fun l d => if l.any (fun e => neighbour s e == neighbour s d) then l else l ++ [d]) []

/-- The children's directions, each neighbour once. -/
def kids (s : State) (g : Nat) : List Nat := dedupDirs s (grpKids s g)

/-- The tree neighbours' coordinates: children, then the parent. -/
def treeNeighbours (s : State) (g : Nat) : List Nat :=
  (dedupDirs s (grpKids s g ++ (grpParent s g).toList)).map (neighbour s)

/-- The CW of member `i`: from the list (R177), or by R178 in an axis group. -/
def memberCw (s : State) (g i : Nat) : Nat :=
  if bit (grpA s g) 16 then
    let d := grpD s g
    let nx := max 1 (bits d 30 24)
    let ny := max 1 (bits d 37 31)
    let nz := max 1 (bits d 44 38)
    let x := (bits d 5 0 + i % nx) % max 1 (dimAxis s 0)
    let y := (bits d 11 6 + i / nx % ny) % max 1 (dimAxis s 1)
    let z := (bits d 17 12 + i / (nx * ny) % nz) % max 1 (dimAxis s 2)
    x + y * 2 ^ 6 + z * 2 ^ 12 + (bits d 23 18 + i / (nx * ny * nz)) * 2 ^ 18
  else leNat (cellRead 0 s.mem (grpC s g + 4 * i) 4)

/-- The local members among the members' CWs, as (port unit, member index), in ascending order of port unit (R203). -/
def localsOf (s : State) (cws : List Nat) : List (Nat × Nat) :=
  allPorts.filterMap (fun p =>
    (cws.findIdx? (fun cw => cw == ownSw s + p * 2 ^ 18)).map (fun i => (p, i)))

/-- The local members of a group: of a list group as its commit read the list (R180), of an axis group by R178.
(DEDUCED, notes/assumptions/39.md) -/
def localMembers (s : State) (g : Nat) : List (Nat × Nat) :=
  if bit (grpA s g) 16 then localsOf s ((List.range (grpN s g)).map (memberCw s g)) else tabOr s.locals g []

/-- The CSQ reads entry `i` of the group's member list: whether its granule is poisoned (R33, R177, R281). An axis group has no
list. -/
def memberRead (g i : Nat) (s : State) : Bool × State :=
  if bit (grpA s g) 16 then (false, s)
  else
    let (bad, _, s) := storeRead .csq (grpC s g + 4 * i) 4 s
    (!bad.isEmpty, s)

/-! ## Descriptors (Table 7.3) -/

def dOp (d : BitVec 128) : Nat := bits d.toNat 7 0
def dFmt (d : BitVec 128) : Nat := bits d.toNat 11 8
def dRfmt (d : BitVec 128) : Nat := bits d.toNat 15 12
def dOrder (d : BitVec 128) : Nat := bits d.toNat 17 16
def dSegen (d : BitVec 128) : Bool := bit d.toNat 18
def dSegt (d : BitVec 128) : Nat := bits d.toNat 31 24
def dElem (d : BitVec 128) : Nat := bits d.toNat 63 32
def dEpoch (d : BitVec 128) : Nat := bits d.toNat 79 64
def dProg (d : BitVec 128) : Nat := bits d.toNat 87 80
def dParam (d : BitVec 128) : Nat := bits d.toNat 127 96

/-- The digest (R183). -/
def dDigest (d : BitVec 128) : W32 := crc32c (leBytes 16 d.toNat)

/-- The reductions: codes 1 to 4 and SPARSE_REDUCE (R261). -/
def opReduce (op : Nat) : Bool := (1 ≤ op && op ≤ 4) || op == 9
/-- The operations with a final vector down the tree (Table 7.4). -/
def opDown (op : Nat) : Bool := [1, 2, 5, 6, 9].contains op
/-- MAX operations. -/
def opMax (op : Nat) : Bool := op == 2 || op == 4

/-- Segments of table `t`, as (segment, first element, end). -/
def segments (s : State) (t : Nat) : List (Nat × Nat × Nat) :=
  let n := bits (s.regN (0x40403FC + t * 0x400)) 7 0
  ((List.range n).foldl (fun (acc : Nat × List (Nat × Nat × Nat)) i =>
    let c := s.regN (0x4040000 + t * 0x400 + 4 * i)
    (acc.1 + c, acc.2 ++ [(i, acc.1, acc.1 + c)])) (0, [])).2

/-- The segments of a descriptor; one whole segment 0 when SEGEN is 0. -/
def dSegs (s : State) (d : BitVec 128) : List (Nat × Nat × Nat) :=
  if dSegen d then segments s (dSegt d) else [(0, 0, dElem d)]

/-- Packets of a message of elements `[lo, hi)` in format `fmt`: (segment, first element, count), at most 2,048 bytes each
and none in two segments (R185, R190). -/
def layout (segs : List (Nat × Nat × Nat)) (fmt lo hi : Nat) : List (Nat × Nat × Nat) :=
  let per := 2048 / fmtSize fmt
  segs.flatMap (fun g =>
    let a := max lo g.2.1
    let b := min hi g.2.2
    (List.range (ceilDiv (b - a) per)).map (fun k => (g.1, a + k * per, min per (b - a - k * per))))

/-- Format of partial results: FP32, or INT32 for integer formats. -/
def dAcc (d : BitVec 128) : Nat := accFmt (dFmt d)

/-- C = E / N. -/
def dChunk (s : State) (g : Nat) (d : BitVec 128) : Nat := dElem d / max 1 (grpN s g)

/-- The range of member `j` (Table 7.4). -/
def memberRange (s : State) (g : Nat) (d : BitVec 128) (j : Nat) : Nat × Nat :=
  if dOp d = 5 then (j * dChunk s g d, (j + 1) * dChunk s g d) else (0, dElem d)

/-- The descriptor fits the group (R187, R244). -/
def fits (s : State) (g : Nat) (d : BitVec 128) : Bool :=
  let n := grpN s g
  let e := dElem d
  let op := dOp d
  let whole := fun f => e / n * fmtSize f % 16 == 0
  let few := fun f lo hi => decide ((layout (dSegs s d) f lo hi).length ≤ 65535)
  let chunk := if op = 5 then e / n else e
  dEpoch d == grpEpoch s g &&
  (!(op == 3 || op == 4 || op == 5) || (decide (0 < n) && e % n == 0 && whole (dFmt d) && whole (dRfmt d))) &&
  (op != 6 || decide (dParam d < n)) &&
  (op != 7 || (decide (1 ≤ dParam d) && decide (dParam d < n))) &&
  (op != 8 || inRegion s (regionBase s + dParam d * 16) (4 * n)) &&
  (if op = 9 then decide (ceilDiv e 448 ≤ 65535)
   else few (dFmt d) 0 chunk && few (dRfmt d) 0 e && (!opReduce op || few (dAcc d) 0 e))

/-! ## Open collectives -/

/-- The open collective (g, cseq). -/
def findColl (s : State) (g : Nat) (cseq : W32) : Option Coll := s.colls.find? (fun c => c.group == g && c.cseq == cseq)

/-- The collective replaced by its new value. -/
def putColl (c : Coll) (s : State) : State :=
  { s with colls := s.colls.map (fun d => if d.group == c.group && d.cseq == c.cseq then c else d) }

/-- The CSQ reads the context of an open collective: whether it is poisoned (R33). (DESIGN CHOICE, notes/assumptions/68.md) -/
def collRead (c : Coll) (s : State) : Bool × Coll × State :=
  recordRead .csq (.collective c.group c.cseq) (fun d => { d with group := c.group, cseq := c.cseq }) putColl c s

/-- ORDER in force: ARRIVAL runs as NATIVE when DET_STRICT was sampled 1 (R210). -/
def collOrder (c : Coll) : Nat := if dOrder c.desc = 0 ∧ c.strict = true then 1 else dOrder c.desc

/-- RTE_HOLD.TCMASK is 0xFF (R220). -/
def allHeld (s : State) : Bool := s.field 0x2000010 7 0 == 0xFF

/-- The collective packet, its payload in quadrant `mq`, is originated, or waits while every class is held (R220). -/
def collSend (g mq : Nat) (p : Packet) (s : State) : State :=
  if allHeld s then { s with collWait := s.collWait ++ [(g % 4, mq, p)] } else originateFrom (g % 4) mq p s

/-- What waited is sent, in order, from the first edge at which not every class is held (R220). -/
def collRelease (s : State) : State :=
  if allHeld s then s
  else s.collWait.foldl (fun s e => originateFrom e.1 e.2.1 e.2.2 s) { s with collWait := [] }

/-- A park is in progress: CSQ_PARK_STATUS.STATE is PARKING, and no collective or message timeout runs (R214). -/
def parking (s : State) : Bool := s.field 0x400006C 1 0 == 1

/-- Own fields of CONTRIBUTE and RESULT (Table 2.7). -/
def conFields (s : State) (g : Nat) (cseq digest : W32) (step fmt byte43 off member seg : Nat) : List (Nat × Nat × Nat) :=
  [(256, 12, g), (272, 16, grpEpoch s g), (288, 32, cseq.toNat), (320, 16, step), (336, 4, fmt), (344, 8, byte43),
    (352, 32, digest.toNat), (384, 32, off), (416, 17, member), (440, 8, seg)]

/-- Control payload (Table 7.7). -/
def control (count : Nat) (first : W32) (fl : Fl) (code : Nat) (recs : List SegRec) : List Byte :=
  pad16 (leBytes 4 count ++ leBytes 4 first.toNat ++ [fl.setWidth 8, BitVec.ofNat 8 code, BitVec.ofNat 8 recs.length, 0, 0, 0, 0, 0] ++
    recs.flatMap (fun r => [BitVec.ofNat 8 r.seg, r.flags.setWidth 8, 0, 0] ++ leBytes 4 r.first.toNat))

/-- A one-packet control step to the neighbour at coordinate `dst` (R190), with MEMBER, byte 43 and SEG zero: no rule states them.
(DESIGN CHOICE, notes/assumptions/71.md) -/
def sendControl (g : Nat) (cseq digest : W32) (tc dst step : Nat) (pay : List Byte) (s : State) : State :=
  let (m, s) := newMsgId s
  collSend g (g % 4) (mkPacket tContribute tc dst true m 0 1 pay (conFields s g cseq digest step 0 0 0 0 0)) s

/-- COMPLETION or ABORT to a member (Table 2.7). -/
def sendRecord (typ g : Nat) (cseq digest : W32) (tc dst code : Nat) (fl : Fl) (first : W32) (seg : Nat) (s : State) : State :=
  let (m, s) := newMsgId s
  collSend g (g % 4) (mkPacket typ tc dst false m 0 1 []
    [(256, 12, g), (272, 16, grpEpoch s g), (288, 32, cseq.toNat), (320, 8, code), (328, 3, fl.toNat), (352, 32, digest.toNat),
      (384, 32, first.toNat), (440, 8, seg)]) s

/-- A run that starts enters the run queue, or is held by the CSQ while the queue's 32 places are taken (R247). -/
def enqueue (e : Nat) (q : QRun) (s : State) : State :=
  s.modEngine e (fun x => if x.queue.length < 32 && x.heldRuns.isEmpty then { x with queue := x.queue ++ [q] }
    else { x with heldRuns := x.heldRuns ++ [q] })

/-- The run queue takes the starts held, as far as it has places (R247). -/
def Engine.refill (x : Engine) : Engine :=
  { x with queue := x.queue ++ x.heldRuns.take (32 - x.queue.length), heldRuns := x.heldRuns.drop (32 - x.queue.length) }

/-- The runs whose origin `mine` names are gone from an engine, started or not. -/
def Engine.dropRuns (mine : RunOrigin → Bool) (e : Engine) : Engine :=
  Engine.refill { e with
    queue := e.queue.filter (fun q => !mine q.origin)
    heldRuns := e.heldRuns.filter (fun q => !mine q.origin)
    runs := e.runs.filter (fun r => !mine r.origin) }

/-- A run is one of the collective's. -/
def ofColl (g : Nat) (cseq : W32) (o : RunOrigin) : Bool :=
  match o with
  | .reduction g' q' _ => g' == g && q' == cseq
  | _ => false

/-- The runs whose origin `mine` names end, those in slots with their count (R192, R266, R382). -/
def endRunsOf (mine : RunOrigin → Bool) (s : State) : State :=
  (List.range 64).foldl (fun t e => count (0x202 + 8 * e) ((s.engine e).runs.filter (fun r => mine r.origin)).length none none none t)
    { s with engines := s.engines.map (Engine.dropRuns mine) }

/-- The runs of a collective end (R192, R266). -/
def endCollRuns (g : Nat) (cseq : W32) (s : State) : State := endRunsOf (ofColl g cseq) s

/-- H moves on past every closed CSEQ; at most eight can follow (R185). -/
def advanceH (fuel g : Nat) (s : State) : State :=
  match fuel with
  | 0 => s
  | f + 1 =>
    if s.closed.contains (g, grpH s g) then
      advanceH f g { s.setReg (0x401001C + g * 0x20) ((grpH s g + 1).setWidth 64) with
        closed := s.closed.filter (fun e => e != (g, grpH s g)) }
    else s

/-- CSEQ counts as closed at this switch. -/
def closeCseq (g : Nat) (cseq : W32) (s : State) : State := advanceH 16 g { s with closed := setAdd s.closed (g, cseq) }

/-- A message context of a CONTRIBUTE of (g, cseq). -/
def ctxOfColl (g : Nat) (cseq : W32) (m : MsgCtx) : Bool :=
  let p : Packet := ⟨m.hdr, []⟩
  m.typ == tContribute && p.at 32 12 == g && p.at 36 32 == cseq.toNat

/-- A waiting packet carries a RESULT, UP or DOWN of the collective. -/
def dataOf (g : Nat) (cseq : W32) (p : Packet) : Bool :=
  (p.typ == tResult || (p.typ == tContribute && decide (p.at 40 16 ≤ 2))) && p.at 32 12 == g && p.at 36 32 == cseq.toNat

/-- A granule of the collective's staging. -/
def stagedOf (g : Nat) (cseq : W32) (x : GMem) : Bool :=
  match x with
  | .staged g' q' _ _ => g' == g && q' == cseq
  | _ => false

/-- The collective's context and message contexts close and its runs end; nothing more of it is sent (R192 steps 2, 3). A user run
that has not halted when the collective finishes ends here without an exception. (DESIGN CHOICE, notes/assumptions/80.md) -/
def collEnd (g : Nat) (cseq : W32) (s : State) : State :=
  let s := endCollRuns g cseq s
  closeCseq g cseq { s with
    colls := s.colls.filter (fun c => !(c.group == g && c.cseq == cseq))
    msgs := s.msgs.filter (fun m => !ctxOfColl g cseq m)
    collWait := s.collWait.filter (fun e => !dataOf g cseq e.2.2)
    gerr := s.gerr.filter (fun e => !stagedOf g cseq e.1)
    gpoison := s.gpoison.filter (fun x => !stagedOf g cseq x) }

/-- Steps 2 to 5 of R192 with CODE `code`; the ABORT step does not go to the neighbour `skip` (R193, R194). -/
def collAbort (g : Nat) (cseq digest : W32) (tc port code : Nat) (skip : Option Nat) (s : State) : State :=
  let s := count (0x061 + code) 1 (some port) (some tc) (some g) (collEnd g cseq s)
  let s := ((treeNeighbours s g).filter (fun x => some x != skip)).foldl (fun s x =>
    sendControl g cseq digest tc x 5 (control 0 0xFFFFFFFF 0 code []) s) s
  (localMembers s g).foldl (fun s m => sendRecord tAbort g cseq digest tc (ownSw s + m.1 * 2 ^ 18) code 0 0xFFFFFFFF 0 s) s

/-- An abort cause met at this switch (Table 7.8). -/
def collFail (c : Coll) (code : Nat) (s : State) : State := collAbort c.group c.cseq c.digest c.tc c.port code none s

/-- Engines a collective needs (R205, spec/14): on each quadrant with a stripe, b < min(B, N_LOCAL + D). -/
def neededEngines (s : State) (g : Nat) (d : BitVec 128) : List Nat :=
  if !opReduce (dOp d) then []
  else
    let m := min (enginesPerQuad s.fuses) (grpLocal s g + (grpKids s g).length)
    (List.range (min 4 (ceilDiv (dElem d) 512))).flatMap (fun q => (List.range m).map (fun b => 16 * q + b))

/-- The built-in program of an operation (Table 10.10), or the user program. (DEDUCED, notes/assumptions/39.md) -/
def collProgram (d : BitVec 128) : Nat :=
  if dProg d ≠ 0 then dProg d else if opMax (dOp d) then 2 else if dOp d = 9 then 3 else 1

/-- J_PDIR of program `p` on engine `e` is VALID. -/
def progValid (s : State) (e p : Nat) : Bool := decide (128 ≤ p) && bit (s.regN (jBase e + 0x100 + (p - 128) * 8)) 27

/-- The lowest free slot of an engine. -/
def freeSlot (e : Engine) : Option Nat := (List.range 16).find? (fun i => e.runs.all (fun r => r.slot != i))

/-- J_EXC_LAST (Table 10.23): the instruction index has 13 bits there, so index 8,192, past the end of a full program, reads 0. -/
def excLast (e code slot pid pc : Nat) (s : State) : State :=
  s.setRegN (jBase e + 0x70) (code + slot * 2 ^ 4 + pid * 2 ^ 8 + pc % 2 ^ 13 * 2 ^ 16)

/-- The permutation table of a PERMUTE, read as the collective opens: `none` when an entry is poisoned or the entries are
no permutation, with the fault of Table 7.8. -/
def readPerm (g : Nat) (d : BitVec 128) (s : State) : Option (List Nat) × State :=
  let n := grpN s g
  let (bad, bs, s) := storeRead .csq (regionBase s + dParam d * 16) (4 * n) s
  let t := (chunksOf 4 n bs).map leNat
  if !bad.isEmpty then (none, s)
  else if t.all (fun x => decide (x < n)) && (List.range n).all (fun x => t.contains x) then (some t, s)
  else (none, raise .csq 24 s)

/-- State of the slice that serves group or table number `g`. -/
def sliceState (s : State) (g : Nat) : DisState := s.slices.get (Fin.ofNat 4 g)

/-- Four runs of the collective's program queued on each needed engine (R247, R249). (DEDUCED, notes/assumptions/40.md) -/
def startRuns (c : Coll) (s : State) : State :=
  c.engines.foldl (fun s e => (List.range 4).foldl (fun s i => enqueue e
    { pid := collProgram c.desc, origin := .reduction c.group c.cseq i,
      args := [BitVec.ofNat 64 (dElem c.desc), BitVec.ofNat 64 (grpN s c.group), BitVec.ofNat 64 c.group, c.cseq.setWidth 64],
      floating := fmtFloat (dFmt c.desc), convInf := c.convInf } s) s) s

/-- The unit that is draining or disabled and would carry out the collective (R205, R334). -/
def unitAway (s : State) (g : Nat) (es : List Nat) : Option Blk :=
  if sliceState s g != .enabled then some Blk.csq else (es.find? (fun e => (s.engine e).dis != .enabled)).map jBlk

/-- The CSQ reads the segment table that a descriptor names: whether a granule of it is poisoned (R33, R198). -/
def segRead (d : BitVec 128) (s : State) : Bool × State :=
  if dSegen d then tableRead .csq (0x4040000 + dSegt d % 64 * 0x400) 0x400 s else (false, s)

/-- A packet that passed row 10 opens the collective (R187, R210, R173). A unit that is draining or disabled refuses it, a
poisoned segment table or a bad permutation table ends it, each with CODE ERROR (R33, R334, Table 7.8). -/
def openColl (port : Nat) (p : Packet) (g : Nat) (cseq : W32) (d : BitVec 128) (s : State) : Option Coll × State :=
  let es := neededEngines s g d
  let c : Coll := ⟨g, cseq, port, dDigest d, d, p.tc, bit (s.regN 0x88) 0, convInfNow s, es, [], [], [], [], [], none, [], [], [], false⟩
  let s := granuleClean (.collective g cseq) { s with colls := s.colls ++ [c] }
  let (bad, s) := segRead d (count 0x060 1 (some port) (some p.tc) (some g) s)
  match unitAway s g es with
  | some b => (none, collFail c 3 (raise b 37 s))
  | none =>
    if bad then (none, collFail c 3 s)
    else if dOp d = 8 then
      match readPerm g d s with
      | (none, s) => (none, collFail c 3 s)
      | (some t, s) => let c := { c with perm := t }; (some c, putColl c s)
    else (some c, startRuns c s)

/-! ## Table 7.5 -/

/-- Fields of a CONTRIBUTE (Table 2.7). -/
def cbGroup (p : Packet) : Nat := p.at 32 12
def cbEpoch (p : Packet) : Nat := p.at 34 16
def cbCseq (p : Packet) : W32 := BitVec.ofNat 32 (p.at 36 32)
def cbStep (p : Packet) : Nat := p.at 40 16
def cbFmt (p : Packet) : Nat := p.at 42 4
def cbByte43 (p : Packet) : Nat := p.at 43 8
def cbDigest (p : Packet) : W32 := BitVec.ofNat 32 (p.at 44 32)
def cbOff (p : Packet) : Nat := p.at 48 32
def cbMember (p : Packet) : Nat := p.at 52 17
def cbSeg (p : Packet) : Nat := p.at 55 8

/-- The control payload of a packet: COUNT, FIRST_IDX, FLAGS, CODE, records; `none` when PAYLEN is not what NREC gives. -/
def parseControl (p : Packet) : Option (Nat × W32 × Fl × Nat × List SegRec) :=
  let b := p.data
  let n := leNat (slice b 10 1)
  if b.length < 16 ∨ p.paylen ≠ 16 * ceilDiv (16 + 8 * n) 16 then none
  else some (leNat (slice b 0 4), BitVec.ofNat 32 (leNat (slice b 4 4)), BitVec.ofNat 3 (leNat (slice b 8 1)), leNat (slice b 9 1),
    (List.range n).map (fun j => ⟨leNat (slice b (16 + 8 * j) 1), BitVec.ofNat 3 (leNat (slice b (17 + 8 * j) 1)),
      BitVec.ofNat 32 (leNat (slice b (20 + 8 * j) 4))⟩))

/-- Tree direction of the neighbour that sent a step, by row 2: a child for UP and DONE, the parent for DOWN and FIN,
either for ABORT. -/
def stepDir (s : State) (g step src : Nat) : Option Nat :=
  let up := if step = 1 ∨ step = 3 ∨ step = 5 then kids s g else []
  let down := if step = 2 ∨ step = 4 ∨ step = 5 then (grpParent s g).toList else []
  (up ++ down).find? (fun d => neighbour s d == cwSw src)

/-- Row 2. -/
def row2 (s : State) (g : Nat) (p : Packet) : Bool :=
  if p.ssvc then (stepDir s g (cbStep p) p.src).isSome
  else cwSw p.src == ownSw s && decide (cbMember p < grpN s g) && memberCw s g (cbMember p) == p.src && cbStep p == 0

/-- Row 3 (R182): stale. -/
def stale (s : State) (g : Nat) (p : Packet) : Bool :=
  cbEpoch p != grpEpoch s g || (!p.ssvc && cbByte43 p != s.field (puBase (cwP p.src) + 0x80) 7 0)

/-- Row 1, and the drop while parked (R216): the ECB source and fault of the one that fails. -/
def row1 (s : State) (g : Nat) (p : Packet) : Option (Nat × Option Nat) :=
  if !grpActive s g then some (0x06B, some 24)
  else if s.field 0x400006C 1 0 = 2 ∧ s.parkedKeys.contains (g, cbCseq p) then some (0x074, some 24)
  else none

/-- Row 2 compares the CW of the member the packet names, which the CSQ reads from the list. -/
def readsMember (s : State) (g : Nat) (p : Packet) : Bool :=
  (row1 s g p).isNone && !p.ssvc && !bit (grpA s g) 16 && cwSw p.src == ownSw s && decide (cbMember p < grpN s g)

/-- Rows 1 to 6: the ECB source and fault of the first that fails. -/
def early (s : State) (g : Nat) (p : Packet) : Option (Nat × Option Nat) :=
  let diff := (cbCseq p - grpH s g).toNat
  if (row1 s g p).isSome then row1 s g p
  else if !row2 s g p then some (0x06C, some 24)
  else if stale s g p then some (0x06D, some 23)
  else if diff ≥ 2 ^ 31 then some (0x06E, none)
  else if diff ≥ 8 then some (0x06F, some 25)
  else if s.closed.contains (g, cbCseq p) then some (0x070, none)
  else none

/-- FMT a packet must carry (row 11, R190). -/
def wantFmt (d : BitVec 128) (step : Nat) : Nat :=
  if step = 0 then dFmt d
  else if step = 1 then (if opReduce (dOp d) then dAcc d else dRfmt d)
  else if step = 2 then dRfmt d else 0

/-- Elements a packet carries, as (index, element); `none` when the layout is broken (R39, R243). -/
def packetElems (d : BitVec 128) (fmt : Nat) (p : Packet) : Option (List (Nat × Nat)) :=
  if dOp d = 9 then
    let map_ := leNat (p.data.take 16)
    let blocks := bitsSet 128 map_
    if p.paylen < 16 ∨ cbOff p % 64 ≠ 0 ∨ p.paylen ≠ 16 + blocks.length * 64 * fmtSize fmt then none
    else
      let es := elemsOf fmt (p.data.drop 16)
      some ((List.range es.length).map (fun k => (cbOff p + 64 * blocks.getD (k / 64) 0 + k % 64, es.getD k 0)))
  else
    let es := elemsOf fmt p.data
    some ((List.range es.length).map (fun k => (cbOff p + k, es.getD k 0)))

/-- The canonical tree (R206): the node at `depth` on the way from [0, n) to `lo`. -/
def canonSpan (depth lo l h : Nat) : Option (Nat × Nat) :=
  match depth with
  | 0 => some (l, h)
  | k + 1 =>
    if h - l < 2 then none
    else
      let mid := l + ceilDiv (h - l) 2
      if lo < mid then canonSpan k lo l mid else canonSpan k lo mid h

/-- (lo, depth) names a node. -/
def canonNode (n lo depth : Nat) : Bool := (canonSpan depth lo 0 n).any (fun r => r.1 == lo)

/-- Depth of the leaf of member `m`; `fuel` is above the tree's height. -/
def leafDepth (fuel m l h : Nat) : Nat :=
  match fuel with
  | 0 => 0
  | f + 1 =>
    if h - l < 2 then 0
    else
      let mid := l + ceilDiv (h - l) 2
      1 + (if m < mid then leafDepth f m l mid else leafDepth f m mid h)

/-- Input key of a data packet. -/
def cbKey (step dir : Nat) (p : Packet) : CKey :=
  if step = 0 then .member (cbMember p) else if step = 1 then .up dir (cbMember p) (cbByte43 p) else .down

/-- The join of a BROADCAST (Table 7.4). -/
def isJoin (d : BitVec 128) (step : Nat) (p : Packet) : Bool := step == 0 && dOp d == 6 && cbMember p != dParam d

/-- The elements' range a data packet must keep to, by its step; `none` when the step carries no such message (row 12). -/
def dataRange (s : State) (c : Coll) (step : Nat) (p : Packet) : Option (Nat × Nat) :=
  let d := c.desc
  let n := grpN s c.group
  let e := dElem d
  let m := cbMember p
  let op := dOp d
  if step = 0 then some (memberRange s c.group d m)
  else if step = 2 then (if opDown op then some (0, e) else none)
  else if op = 7 ∨ op = 8 then none
  else if opReduce op then
    (if collOrder c = 2 then (if canonNode n m (cbByte43 p) then some (0, e) else none)
     else if m = 0 ∧ cbByte43 p = 0 then some (0, e) else none)
  else if cbByte43 p ≠ 0 then none
  else if op = 5 then (if m < n then some (m * dChunk s c.group d, (m + 1) * dChunk s c.group d) else none)
  else if m = dParam d then some (0, e) else none

/-- The message a data packet belongs to is the only one of its key (row 12). -/
def ownMessage (c : Coll) (key : CKey) (p : Packet) : Bool :=
  (match c.inputs.find? (fun i => i.key == key) with
   | some i => !i.complete && i.msgSrc.toNat == p.src && i.msgId.toNat == p.msgId
   | none => true) &&
  (match key with
   | .member m => !c.joins.contains m
   | _ => true)

/-- Row 12 for a data packet (R185, R190, R243, R244). -/
def row12Data (s : State) (c : Coll) (step : Nat) (key : CKey) (p : Packet) : Bool :=
  let d := c.desc
  let fmt := cbFmt p
  if isJoin d step p then p.cnt == 1 && p.paylen == 0 && cbOff p == 0 && cbSeg p == 0 && ownMessage c key p
  else
    match dataRange s c step p, packetElems d fmt p with
    | some (lo, hi), some es =>
      let off := cbOff p
      ownMessage c key p &&
      (if dOp d = 9 then
         let have_ := ((c.inputs.find? (fun i => i.key == key)).map (·.blocks)).getD []
         es.all (fun e => decide (e.1 < dElem d) && !have_.contains (e.1 / 64))
       else
         decide (lo ≤ off) && decide (off + es.length ≤ hi) && p.cnt == (layout (dSegs s d) fmt lo hi).length) &&
      (if dSegen d then
         (dSegs s d).any (fun g => g.1 == cbSeg p && decide (g.2.1 ≤ off) && decide (off + max 1 es.length ≤ g.2.2))
       else cbSeg p == 0)
    | _, _ => false

/-- Row 12 for DONE and FIN: one packet, whole, CODE 0. A second DONE of a child, or a second FIN, fails it too: no rule says what a
repeated step does. (DESIGN CHOICE, notes/assumptions/71.md) -/
def row12Control (c : Coll) (step dir : Nat) (p : Packet) : Bool :=
  p.cnt == 1 && (match parseControl p with | some r => r.2.2.2.1 == 0 | none => false) &&
  (if step = 3 then c.dones.all (fun r => r.dir != dir) else c.fin.isNone)

/-- A digest or format mismatch (R192). -/
def collMismatch (c : Coll) (s : State) : State := collFail c 1 (raise .csq 22 s)

/-- STEP ABORT: row 7, then message accounting, then R193. Where the CSEQ is not open here, the ABORT packets and the steps sent on
carry the digest and the TC of the step received: no rule fixes them. (DESIGN CHOICE, notes/assumptions/71.md) -/
def abortIn (n : Nat) (p : Packet) (g dir : Nat) (s : State) : State :=
  match parseControl p with
  | some (_, _, _, code, []) =>
    if p.paylen = 16 ∧ 1 ≤ code ∧ code ≤ 5 then
      match msgArrive .csq n p s with
      | (.dropped, s) => s
      | (.counted _ _ _, s) =>
        match findColl s g (cbCseq p) with
        | some c => collAbort g c.cseq c.digest c.tc c.port code (some (neighbour s dir)) s
        | none => collAbort g (cbCseq p) (cbDigest p) p.tc n code (some (neighbour s dir)) s
    else raise .csq 2 (count 0x073 1 (some n) (some p.tc) (some g) s)
  | _ => raise .csq 2 (count 0x073 1 (some n) (some p.tc) (some g) s)

/-- The CSQ reads registered descriptor `d`: whether it is poisoned, and what it is after an error corrected to wrong data (R31 to
R33). -/
def descRead (d : BitVec 128) (s : State) : Bool × BitVec 128 × State :=
  match memScan .csq (· == .descriptor d) s with
  | (bad, [], s) => (!bad.isEmpty, d, s)
  | (bad, es, s) =>
    let e := es.foldl (fun x r => x ^^^ r.2) d
    (!bad.isEmpty, e, { s with descs := s.descs.map (fun x => if x = d then e else x) })

/-- Rows 8 to 10 and the opening: the collective the packet belongs to. A poisoned context ends the collective with CODE ERROR (Table
7.8); a poisoned descriptor is none that the packet could name (R33). (DEDUCED, notes/assumptions/17.md) -/
def collFor (n : Nat) (p : Packet) (g : Nat) (s : State) : Option Coll × State :=
  let drop := fun (src f : Nat) (s : State) => (none, raise .csq f (count src 1 (some n) (some p.tc) (some g) s))
  match findColl s g (cbCseq p) with
  | some c =>
    match collRead c s with
    | (true, c, s) => (none, collFail c 3 s)
    | (false, c, s) => if cbDigest p ≠ c.digest then (none, collMismatch c s) else (some c, s)
  | none =>
    match s.descs.find? (fun d => dDigest d == cbDigest p) with
    | none => drop 0x071 26 s
    | some d =>
      match descRead d s with
      | (true, _, s) => (none, count 0x071 1 (some n) (some p.tc) (some g) s)
      | (false, d, s) =>
        if dDigest d ≠ cbDigest p ∨ !fits s g d then drop 0x071 26 s
        else if (s.colls.filter (fun c => c.group % 4 == g % 4)).length ≥ 256 then drop 0x072 27 s
        else openColl n p g (cbCseq p) d s

/-! ## Taking data in -/

/-- Position of an input in the input list, given the local members (R203); UP messages follow in order of direction. -/
def inputPos (locals : List (Nat × Nat)) (ups : List CKey) (k : CKey) : Nat :=
  match k with
  | .member m => (locals.takeWhile (fun l => l.2 != m)).length
  | k => locals.length + (ups.takeWhile (fun u => u != k)).length

/-- An element as the switch keeps it: widened for a reduction, in RFMT otherwise (R160, R190, R203). -/
def takeElem (c : Coll) (step raw : Nat) : W32 × Fl :=
  if step = 0 then
    if opReduce (dOp c.desc) then fmtWiden (dFmt c.desc) raw
    else
      let (v, f) := fmtConv (dFmt c.desc) (dRfmt c.desc) c.convInf raw
      (BitVec.ofNat 32 v, f)
  else (BitVec.ofNat 32 raw, 0)

/-- The engine whose stream receives a member's input for element `e`: its bundle's in NATIVE order (R172, R205). -/
def inputEngine (s : State) (c : Coll) (m e : Nat) : Nat :=
  16 * (e / 512 % 4) + (if collOrder c = 1 then inputPos (localMembers s c.group) [] (.member m) % enginesPerQuad s.fuses else 0)

/-- Canonical fragment `f` lies under node `x` (R206). -/
def underNode (n : Nat) (x f : Nat × Nat) : Bool :=
  decide (x.2 ≤ f.2) && (canonSpan x.2 x.1 0 n).any (fun r => decide (r.1 ≤ f.1) && decide (f.1 < r.2))

/-- Stripe `k` has been formed of the value that fragment `f` goes into: nothing of it waits in staging any more. -/
def stripeFormed (s : State) (c : Coll) (f : Nat × Nat) (k : Nat) : Bool :=
  c.parts.any (fun x => x.stripes.contains k && underNode (grpN s c.group) (x.lo, x.depth) f)

/-- The run of the collective with index `idx` is in a slot of engine `e`: it has left the run queue (R247). -/
def runBegun (s : State) (c : Coll) (e idx : Nat) : Bool := (s.engine e).runs.any (fun r => r.origin == .reduction c.group c.cseq idx)

/-- Every run that adds stripe `k` has begun; the data of those that have not stays in collective staging (R205, R247). -/
def stripeBegun (s : State) (c : Coll) (k : Nat) : Bool :=
  (c.engines.filter (fun e => e / 16 == k % 4 && (collOrder c == 1 || e % 16 == 0))).all (fun e => runBegun s c e (k / 4 % 4))

/-- The input of a key. -/
def inputOf (c : Coll) (k : CKey) : Option CIn := c.inputs.find? (fun i => i.key == k)

/-- Packets of a sparse message that have come with none missing before them, and ELEM_OFF of the last of those. -/
def sparseRun (i : CIn) : Nat × Nat := i.offs.foldl (fun m e => if e.1 = m.1 then (m.1 + 1, max m.2 e.2) else m) (0, 0)

/-- What an input has supplied from element 0 on without a gap: of sparse data every block below ELEM_OFF of the last packet that has
come with none missing before it, for a later one carries no block below its own (R211, R243). (DEDUCED, notes/assumptions/39.md) -/
def progress (c : Coll) (i : CIn) : Nat :=
  if dOp c.desc = 9 then (if i.complete then dElem c.desc else (sparseRun i).2)
  else i.elems.foldl (fun m e => if e.1 = m then m + 1 else m) 0

/-- The progress of the input of a key. -/
def progressOf (c : Coll) (k : CKey) : Nat := ((inputOf c k).map (progress c)).getD 0

/-- The UP inputs, in order of direction, and of lo within a direction. -/
def upKeys (c : Coll) : List CKey :=
  (List.range 6).flatMap (fun d =>
    (c.inputs.filterMap (fun i => match i.key with
      | .up d' lo dep => if d' = d then some (lo, dep) else none
      | _ => none)).mergeSort (fun a b => decide (a.1 ≤ b.1)) |>.map (fun x => CKey.up d x.1 x.2))

/-- The input list, as far as its inputs have begun (R203). -/
def inputList (s : State) (c : Coll) : List CKey := (localMembers s c.group).map (fun m => CKey.member m.2) ++ upKeys c

/-- The inputs of ARRIVAL and NATIVE order, known from the group entry (R203). -/
def plannedInputs (s : State) (c : Coll) : List CKey :=
  (localMembers s c.group).map (fun m => CKey.member m.2) ++ (kids s c.group).map (fun d => CKey.up d 0 0)

/-- Fragment name of an input in CANONICAL order. -/
def fragOf (n : Nat) (k : CKey) : Nat × Nat :=
  match k with
  | .member m => (m, leafDepth 20 m 0 n)
  | .up _ lo depth => (lo, depth)
  | .down => (0, 0)

/-- A node of the canonical tree can be formed from the fragments `have_` (R207). -/
def canonHas (fuel : Nat) (have_ : List (Nat × Nat)) (lo hi depth : Nat) : Bool :=
  match fuel with
  | 0 => false
  | f + 1 => have_.contains (lo, depth) ||
    (decide (2 ≤ hi - lo) &&
      (let mid := lo + ceilDiv (hi - lo) 2
       canonHas f have_ lo mid (depth + 1) && canonHas f have_ mid hi (depth + 1)))

/-- Nodes of the canonical tree that this switch adds, children before parents. -/
def canonNodes (fuel : Nat) (have_ : List (Nat × Nat)) (lo hi depth : Nat) : List (Nat × Nat × Nat) :=
  match fuel with
  | 0 => []
  | f + 1 =>
    if have_.contains (lo, depth) ∨ hi - lo < 2 then []
    else
      let mid := lo + ceilDiv (hi - lo) 2
      canonNodes f have_ lo mid (depth + 1) ++ canonNodes f have_ mid hi (depth + 1) ++
        (if canonHas 20 have_ lo hi depth then [(lo, hi, depth)] else [])

/-- Every UP message announced has begun, so that the fragments are known. -/
def fragsKnown (s : State) (c : Coll) : Bool :=
  (localMembers s c.group).all (fun m => (inputOf c (.member m.2)).isSome) &&
  (kids s c.group).all (fun d => (c.dones.find? (fun r => r.dir == d)).any (fun r =>
    (c.inputs.filter (fun i => match i.key with | .up d' _ _ => d' == d | _ => false)).length == r.count))

/-- Canonical fragment `x`, an input, is being sent on without its pair (R207, R211). -/
def passedOn (c : Coll) (x : Nat × Nat) : Bool := c.parts.any (fun y => y.lo == x.1 && y.depth == x.2)

/-- The fragments a CANONICAL switch holds: of its inputs, those it has not sent on (R207). -/
def openFrags (s : State) (c : Coll) : List (Nat × Nat) :=
  ((inputList s c).map (fragOf (grpN s c.group))).filter (fun x => !passedOn c x)

/-- The progress of a canonical node that this switch forms: the least of its inputs. -/
def nodeProgress (s : State) (c : Coll) (lo hi depth : Nat) : Nat :=
  let mine := fun k =>
    let f := fragOf (grpN s c.group) k
    decide (lo ≤ f.1) && decide (f.1 < hi) && decide (depth ≤ f.2)
  (((inputList s c).filter mine).map (progressOf c)).foldl min (dElem c.desc)

/-- The other child of the parent of canonical node `x`, as (lo, hi). -/
def siblingSpan (n : Nat) (x : Nat × Nat) : Option (Nat × Nat) :=
  (if x.2 = 0 then none else canonSpan (x.2 - 1) x.1 0 n).map (fun r =>
    let mid := r.1 + ceilDiv (r.2 - r.1) 2
    if x.1 < mid then (mid, r.2) else (r.1, mid))

/-- It is not known yet whether this switch will hold the pair of canonical node `x` (R207). -/
def pairUnknown (s : State) (c : Coll) (x : Nat × Nat) : Bool :=
  !fragsKnown s c && (siblingSpan (grpN s c.group) x).any (fun r => !canonHas 20 (openFrags s c) r.1 r.2 x.2)

/-- The progress of the other child of a canonical node's parent: all of it where this switch will add no such pair, and none
while that is not known (R207). -/
def siblingProgress (s : State) (c : Coll) (x : Nat × Nat) : Nat :=
  match siblingSpan (grpN s c.group) x with
  | none => dElem c.desc
  | some (a, b) =>
    if canonHas 20 (openFrags s c) a b x.2 then nodeProgress s c a b x.2
    else if fragsKnown s c then dElem c.desc else 0

/-- The fragments that remain when no pair is left, in ascending lo (R207). -/
def canonRest (fuel : Nat) (have_ : List (Nat × Nat)) (lo hi depth : Nat) : List (Nat × Nat) :=
  match fuel with
  | 0 => []
  | f + 1 =>
    if canonHas 20 have_ lo hi depth then [(lo, depth)]
    else if hi - lo < 2 then []
    else
      let mid := lo + ceilDiv (hi - lo) 2
      canonRest f have_ lo mid (depth + 1) ++ canonRest f have_ mid hi (depth + 1)

/-- The fragments a CANONICAL switch ends with, as far as they are known, in ascending lo: those sent on early, and what remains
once all its inputs are known (R207). -/
def endFrags (s : State) (c : Coll) : List (Nat × Nat) :=
  let gone := ((inputList s c).map (fragOf (grpN s c.group))).filter (passedOn c)
  let rest := if fragsKnown s c then canonRest 20 (openFrags s c) 0 (grpN s c.group) 0 else []
  (gone ++ rest).mergeSort (fun a b => decide (a.1 ≤ b.1))

/-- Input fragment `x` goes on to the parent as it is, through no sum; a switch with one input passes it through its program (R207,
R259). -/
def goesOn (s : State) (c : Coll) (x : Nat × Nat) : Bool :=
  collOrder c == 2 && !grpRoot s c.group && (endFrags s c).contains x && (decide (1 < (inputList s c).length) || !fragsKnown s c)

/-- The first element of an input that cannot be added yet: for want of an input before it in its bundle in NATIVE order, of the
other child of its node in CANONICAL order; in ARRIVAL order nothing waits (R204, R206, R208, R211). -/
def waitsFrom (s : State) (c : Coll) (k : CKey) : Nat :=
  if collOrder c = 0 then dElem c.desc
  else if collOrder c = 1 then
    let ks := plannedInputs s c
    let b := enginesPerQuad s.fuses
    let j := (ks.takeWhile (fun x => x != k)).length
    (((List.range j).filter (fun i => i % b == j % b)).map (fun i => progressOf c (ks.getD i .down))).foldl min (dElem c.desc)
  else siblingProgress s c (fragOf (grpN s c.group) k)

/-- Of the elements `[lo, hi)` of fragment `f`, at `size` bytes each, the bytes that wait in the staging of quadrant `q`, when those
from `from_` on cannot be added yet: all of a stripe whose runs have not begun (R247), or that a user program adds and has not answered.
(DEDUCED, notes/assumptions/39.md) -/
def waitBytes (s : State) (c : Coll) (q size : Nat) (f : Nat × Nat) (from_ lo hi : Nat) : Nat :=
  ((List.range (ceilDiv hi 512 - lo / 512)).map (fun i => lo / 512 + i)).foldl (fun n k =>
    if k % 4 ≠ q ∨ stripeFormed s c f k then n
    else
      let a := if dProg c.desc ≠ 0 || !stripeBegun s c k then max lo (512 * k) else max (max lo (512 * k)) from_
      n + size * (min hi (512 * k + 512) - a)) 0

/-- Bytes of an element of an input as they came (R211). -/
def inputSize (c : Coll) (k : CKey) : Nat := match k with | .member _ => fmtSize (dFmt c.desc) | _ => fmtSize (dAcc c.desc)

/-- Bytes of input number `i` that wait in the staging of quadrant `q` (R205, R211). -/
def inputStaged (s : State) (c : Coll) (q i : Nat) : Nat :=
  match c.inputs[i]? with
  | none => 0
  | some x =>
    let f := fragOf (grpN s c.group) x.key
    if x.key == .down || goesOn s c f then 0
    else
      let from_ := waitsFrom s c x.key
      (c.log.filter (fun r => r.1 == i)).foldl (fun n r => n + waitBytes s c q (inputSize c x.key) f from_ r.2.1 (r.2.1 + r.2.2)) 0

/-- Bytes of the nodes a CANONICAL reduction has added that wait in the staging of quadrant `q` for the other child of their parent
(R212). -/
def nodesStaged (s : State) (c : Coll) (q : Nat) : Nat :=
  if collOrder c ≠ 2 ∨ dProg c.desc ≠ 0 then 0
  else
    (canonNodes 20 (openFrags s c) 0 (grpN s c.group) 0).foldl (fun n x =>
      n + waitBytes s c q 4 (x.1, x.2.2) (siblingProgress s c (x.1, x.2.2)) 0 (nodeProgress s c x.1 x.2.1 x.2.2)) 0

/-- The CSQ keeps a place of 2,048 bytes for each input of an open reduction (R211). -/
def placeBytes : Nat := 2048

/-- The reductions open. -/
def openReductions (s : State) : List Coll := s.colls.filter (fun c => opReduce (dOp c.desc))

/-- Bytes taken of the staging of quadrant `q`: the places kept, what waits of each input above its place, and the nodes that wait
(R211). (DEDUCED, notes/assumptions/39.md) -/
def stagingTaken (s : State) (q : Nat) : Nat :=
  (openReductions s).foldl (fun n c =>
    n + placeBytes * max c.inputs.length (plannedInputs s c).length + nodesStaged s c q +
      ((List.range c.inputs.length).map (fun i => inputStaged s c q i - placeBytes)).foldl (· + ·) 0) 0

/-- Collective staging of quadrant `q` in bytes: STG_MIB in force (R311). -/
def stagingSize (s : State) (q : Nat) : Nat := bits (bpmCfg s (0x7000000 + 4 * q)) 11 6 * 2 ^ 20

/-- The packet is the lowest range that its input has not supplied yet. -/
def inTurn (c : Coll) (key : CKey) (p : Packet) : Bool :=
  if dOp c.desc = 9 then p.idx == ((inputOf c key).map (fun i => (sparseRun i).1)).getD 0 else cbOff p == progressOf c key

/-- The elements a packet carries, as ranges: (first, count). -/
def packetRanges (c : Coll) (p : Packet) : List (Nat × Nat) :=
  let es := (packetElems c.desc (cbFmt p) p).getD []
  if dOp c.desc = 9 then (es.foldl (fun l e => setAdd l (e.1 / 64)) []).map (fun b => (64 * b, 64)) else [(cbOff p, es.length)]

/-- `n` bytes more of an input find room in the staging of quadrant `q`: in the place kept for it, when it is the input's turn, or
beside the places (R211). -/
def findsPlace (s : State) (q mine n : Nat) (turn : Bool) : Bool :=
  (turn && decide (mine + n ≤ placeBytes)) ||
    decide (stagingTaken s q - (mine - placeBytes) + (if turn then mine + n - placeBytes else mine - placeBytes + n) ≤ stagingSize s q)

/-- A sparse packet is the next of the input that has come least far. Its blocks may lie far apart, so it is taken in whatever waits
already: a shortage never stops a reduction (R211). (DESIGN CHOICE, notes/assumptions/80.md) -/
def sparseLeast (s : State) (c : Coll) (key : CKey) (p : Packet) : Bool :=
  dOp c.desc == 9 && inTurn c key p && (inputList s c).all (fun k => decide (progressOf c key ≤ progressOf c k))

/-- A packet of an open reduction must wait in holding SRAM, with its credits: there is no place in collective staging for what of
it cannot be added at once (R211), or, of sparse data, it carries a block before one that its input has passed.
(DEDUCED, notes/assumptions/39.md) -/
def waitsForPlace (s : State) (c : Coll) (step : Nat) (key : CKey) (p : Packet) : Bool :=
  opReduce (dOp c.desc) && decide (step ≤ 1) &&
    ((dOp c.desc == 9 && collOrder c != 0 && (packetRanges c p).any (fun r => decide (r.1 < progressOf c key))) ||
     (let f := fragOf (grpN s c.group) key
      !goesOn s c f && !sparseLeast s c key p &&
       (let idx := (c.inputs.takeWhile (fun i => i.key != key)).length
        let from_ := waitsFrom s c key
        (List.range 4).any (fun q =>
          let n := (packetRanges c p).foldl (fun n r => n + waitBytes s c q (inputSize c key) f from_ r.1 (r.1 + r.2)) 0
          decide (0 < n) && !findsPlace s q (inputStaged s c q idx) n (inTurn c key p)))))

/-- The collective once the fragment of input `key` is sent on without waiting for a pair that this switch may never hold: so a
shortage of staging slows a CANONICAL reduction and does not stop it, and the parent adds the pair (R207, R211).
(DESIGN CHOICE, notes/assumptions/80.md) -/
def passFragment (s : State) (c : Coll) (key : CKey) : Coll :=
  let f := fragOf (grpN s c.group) key
  if collOrder c == 2 && !grpRoot s c.group && !passedOn c f && pairUnknown s c f then { c with parts := c.parts ++ [⟨f.1, f.2, [], [], []⟩] }
  else c

/-- The packet opens a PERMUTE, whose table the CSQ reads from the store. -/
def opensPermute (s : State) (g : Nat) (p : Packet) : Bool :=
  (early s g p).isNone && (findColl s g (cbCseq p)).isNone &&
    (s.descs.find? (fun d => dDigest d == cbDigest p)).any (fun d => dOp d == 8 && fits s g d)

/-- The payload crosses to the engines that add it, or to the staging of the slice (R19). (DEDUCED, notes/assumptions/73.md) -/
def payCross (c : Coll) (n : Nat) (p : Packet) (es : List (Nat × Nat)) (s : State) : State :=
  if opReduce (dOp c.desc) then
    (List.range 4).foldl (fun s q =>
      cross n q (ceilDiv ((es.filter (fun e => e.1 / 512 % 4 == q)).length * fmtSize (cbFmt p)) 64) s) s
  else cross n (c.group % 4) (p.flits - 1) s

/-- A data packet's elements join their input. -/
def feed (n : Nat) (c : Coll) (step : Nat) (key : CKey) (complete : Bool) (p : Packet) (s : State) : State :=
  if isJoin c.desc step p then putColl { c with joins := setAdd c.joins (cbMember p) } s
  else
    let raw := (packetElems c.desc (cbFmt p) p).getD []
    let s := payCross c (quadOf n) p raw s
    let es := raw.map (fun e => (e.1, takeElem c step e.2))
    let old : CIn := (c.inputs.find? (fun i => i.key == key)).getD
      ⟨key, BitVec.ofNat 32 p.src, BitVec.ofNat 32 p.msgId, [], [], [], [], false⟩
    let new : CIn := { old with
      elems := es.foldl (fun t e => tabSet t e.1 e.2.1) old.elems
      eflags := (es.filter (fun e => e.2.2 != 0)).foldl (fun t e => tabSet t e.1 e.2.2) old.eflags
      blocks := if dOp c.desc = 9 then es.foldl (fun l e => setAdd l (e.1 / 64)) old.blocks else []
      offs := if dOp c.desc = 9 then tabSet old.offs p.idx (cbOff p) else []
      complete := old.complete || complete }
    let known := c.inputs.any (fun i => i.key == key)
    let inputs := if known then c.inputs.map (fun i => if i.key == key then new else i) else c.inputs ++ [new]
    let idx := (inputs.takeWhile (fun i => i.key != key)).length
    let s := putColl { c with inputs := inputs, log := c.log ++ (packetRanges c p).map (fun r => (idx, r.1, r.2)) } s
    match key with
    | .member m => if opReduce (dOp c.desc) then es.foldl (fun s e => engFlags (inputEngine s c m e.1) [e.2.2] s) s else s
    | _ => s

/-- DONE and FIN take effect (R189, R191). -/
def takeControl (c : Coll) (step dir : Nat) (p : Packet) (s : State) : State :=
  match parseControl p with
  | some (cnt, first, fl, _, recs) =>
    if step = 3 then putColl { c with dones := c.dones ++ [⟨dir, cnt, fl, first, recs⟩] } s
    else putColl { c with fin := some ⟨dir, cnt, fl, first, recs⟩ } s
  | none => s

/-- Counts of a packet that passed Table 7.5. -/
def countStep (n g step : Nat) (p : Packet) (s : State) : State :=
  let src := if step = 0 then 0x067 else if step = 1 then 0x068 else 0x069
  if step ≤ 2 then count src 1 (some n) (some p.tc) (some g) s else s

/-- A packet of an open collective after row 10: rows 11 and 12, then message accounting, then its data or record (R186). `none`
when it must wait in holding SRAM. -/
def stepIn (n : Nat) (p : Packet) (g step dir : Nat) (c : Coll) (s : State) : Option State :=
  let key := cbKey step dir p
  let bad := fun (s : State) => raise .csq 2 (count 0x073 1 (some n) (some p.tc) (some g) s)
  if cbFmt p ≠ wantFmt c.desc step then some (collMismatch c s)
  else if step ≤ 2 then
    if !row12Data s c step key p then some (bad s)
    else match msgArrive .csq n p s with
      | (.dropped, s) => some s
      | (.counted _ _ complete, t) =>
        let c := if waitsForPlace s c step key p then passFragment s c key else c
        if waitsForPlace s c step key p then none else some (feed n c step key complete p (countStep n g step p t))
  else if !row12Control c step dir p then some (bad s)
  else match msgArrive .csq n p s with
    | (.dropped, s) => some s
    | (.counted _ _ _, s) => some (takeControl c step dir p s)

/-- A CONTRIBUTE at its handling slice: Table 7.5, then message accounting, then its data or record (R186). One whose group entry
or member list is poisoned is dropped (R33). `none` when it must wait in holding SRAM: for collective staging (R211), or for the
end of a wipe when the CSQ must read its member list or permutation table (R286). -/
def contributeIn (n : Nat) (p : Packet) (s : State) : Option State :=
  let g := cbGroup p
  let step := cbStep p
  let drop := fun (src : Nat) (s : State) => count src 1 (some n) (some p.tc) (some g) s
  let (bad, s) := tableRead .csq (0x4010000 + g * 0x20) 0x20 s
  if bad then some (drop 0x06B s)
  else if s.wiping && (readsMember s g p || opensPermute s g p) then none
  else
    let (bad, s) := if readsMember s g p then memberRead g (cbMember p) s else (false, s)
    if bad then some (drop 0x06C s)
    else match early s g p with
      | some (src, f) => some (match f with | some f => raise .csq f (drop src s) | none => drop src s)
      | none =>
        let dir := (stepDir s g step p.src).getD 0
        if step = 5 then some (abortIn n p g dir s)
        else match collFor n p g s with
          | (none, s) => some s
          | (some c, s) => stepIn n p g step dir c s

/-! ## Values (R203 to R208) -/

/-- The input list when every input of it exists: every local member's, and one UP message of each child (ARRIVAL and NATIVE). -/
def fullInputs (s : State) (c : Coll) : Option (List CKey) :=
  let l := inputList s c
  if l.all (fun k => c.inputs.any (fun i => i.key == k)) && (kids s c.group).all (fun d => (upKeys c).any (fun k =>
      match k with | .up d' _ _ => d' == d | _ => false)) then some l else none

/-- An input's element with its flags. -/
def inputVal (c : Coll) (k : CKey) (e : Nat) : Option (W32 × Fl) :=
  match inputOf c k with
  | none => none
  | some i => (tabGet i.elems e).map (fun v => (v, tabOr i.eflags e 0))

/-- Combination of two values, absent ones dropping out, with the flags of the step itself (R170, R204, R244). -/
def join2 (add : W32 → W32 → W32 × Fl) (a b : Option (W32 × Fl)) : Option (W32 × Fl) × Fl :=
  match a, b with
  | none, y => (y, 0)
  | x, none => (x, 0)
  | some (x, f), some (y, g) => let (v, h) := add x y; (some (v, f ||| g ||| h), h)

/-- Left-to-right combination; the step flags in order. -/
def chain (add : W32 → W32 → W32 × Fl) (xs : List (Option (W32 × Fl))) : Option (W32 × Fl) × List Fl :=
  match xs with
  | [] => (none, [])
  | x :: r => r.foldl (fun acc y => let (v, h) := join2 add acc.1 y; (v, acc.2 ++ [h])) (x, [])

/-- NATIVE order over an input list, with each step's bundle (R204). -/
def nativeVal (add : W32 → W32 → W32 × Fl) (bsize : Nat) (xs : List (Option (W32 × Fl))) : Option (W32 × Fl) × List (Nat × Fl) :=
  let bundle := fun b => chain add ((List.range xs.length).filterMap (fun j => if j % bsize = b then xs[j]? else none))
  let bs := (List.range (min xs.length bsize)).map bundle
  let own := (List.range bs.length).flatMap (fun b => (bs.getD b (none, [])).2.map (fun f => (b, f)))
  match bs with
  | [] => (none, [])
  | p :: r => (r.zip (List.range r.length)).foldl (fun acc x =>
      let (v, h) := join2 add acc.1 x.1.1
      (v, acc.2 ++ [(x.2 + 1, h)])) (p.1, own)

/-- Value of a node: an input's, or left + right (R206). -/
def canonVal (fuel : Nat) (add : W32 → W32 → W32 × Fl) (frag : Nat × Nat → Option (Option (W32 × Fl))) (lo hi depth : Nat) :
    Option (W32 × Fl) × List Fl :=
  match fuel with
  | 0 => (none, [])
  | f + 1 =>
    match frag (lo, depth) with
    | some v => (v, [])
    | none =>
      if hi - lo < 2 then (none, [])
      else
        let mid := lo + ceilDiv (hi - lo) 2
        let (a, fa) := canonVal f add frag lo mid (depth + 1)
        let (b, fb) := canonVal f add frag mid hi (depth + 1)
        let (v, h) := join2 add a b
        (v, fa ++ fb ++ [h])

/-- Every local member's input is complete, or its join has come (R191). -/
def localsIn (s : State) (c : Coll) : Bool :=
  (localMembers s c.group).all (fun m => c.joins.contains m.2 || (inputOf c (.member m.2)).any (·.complete))

/-- The UP traffic announced by every child's DONE is complete. -/
def kidsIn (s : State) (c : Coll) : Bool :=
  (kids s c.group).all (fun d => (c.dones.find? (fun r => r.dir == d)).any (fun r =>
    (c.inputs.filter (fun i => i.complete && (match i.key with | .up d' _ _ => d' == d | _ => false))).length == r.count))

/-- All inputs of this switch are complete. -/
def inputsIn (s : State) (c : Coll) : Bool := localsIn s c && kidsIn s c

/-- Stripe `k` of an input has arrived: all its elements, or for sparse data every block of it that the input can still send, which
in ARRIVAL order only the whole message tells. -/
def hasStripe (c : Coll) (key : CKey) (k : Nat) : Bool :=
  match inputOf c key with
  | none => false
  | some i =>
    if dOp c.desc = 9 then i.complete || (collOrder c != 0 && decide (min (dElem c.desc) (512 * k + 512) ≤ progress c i))
    else (List.range (min 512 (dElem c.desc - 512 * k))).all (fun j => (tabGet i.elems (512 * k + j)).isSome)

/-- Inputs in the order in which element `e` of each arrived (R208). -/
def arrivalOrder (c : Coll) (ks : List CKey) (e : Nat) : List CKey :=
  (c.log.foldl (fun (l : List Nat) r => if r.2.1 ≤ e ∧ e < r.2.1 + r.2.2 then setAdd l r.1 else l) []).filterMap (fun i =>
    (c.inputs[i]?).bind (fun x => if ks.contains x.key then some x.key else none))

/-- The addition, or maximum, of an operation. -/
def collAdd (c : Coll) : W32 → W32 → W32 × Fl :=
  if opMax (dOp c.desc) then (if fmtFloat (dFmt c.desc) then fmaximum else fun a b => (imaximum a b, 0))
  else accAdd (fmtFloat (dFmt c.desc)) c.convInf

/-- The values this switch forms, each with its inputs: the fragments it ends with, or (0, 0) for its one partial result; `none`
while none is known. -/
def partKeys (s : State) (c : Coll) : Option (List ((Nat × Nat) × List CKey)) :=
  if collOrder c = 2 then
    let n := grpN s c.group
    let ks := inputList s c
    let xs := endFrags s c
    if xs.isEmpty && !fragsKnown s c then none
    else some (xs.map (fun x => (x, match ks.find? (fun k => fragOf n k == x) with
      | some k => [k]
      | none => ks.filter (fun k => underNode n x (fragOf n k) && !passedOn c (fragOf n k)))))
  else (fullInputs s c).map (fun ks => [((0, 0), ks)])

/-- The operands of element `e` for a part, combined by the built-in program: value, and each step's bundle and flags. -/
def partElem (s : State) (c : Coll) (ks : List CKey) (part : Nat × Nat) (e : Nat) : Option (W32 × Fl) × List (Nat × Fl) :=
  if collOrder c = 1 then nativeVal (collAdd c) (enginesPerQuad s.fuses) (ks.map (fun k => inputVal c k e))
  else if collOrder c = 0 then
    let (v, fs) := chain (collAdd c) ((arrivalOrder c ks e).map (fun k => inputVal c k e))
    (v, fs.map (fun f => (0, f)))
  else
    let n := grpN s c.group
    let hi := ((canonSpan part.2 part.1 0 n).map Prod.snd).getD 0
    let (v, fs) := canonVal 20 (collAdd c) (fun x =>
      (ks.find? (fun k => fragOf n k == x)).map (fun k => inputVal c k e)) part.1 hi part.2
    (v, fs.map (fun f => (0, f)))

/-- Key of a canonical node as the sum of a user program. -/
def nodeKey (x : Nat × Nat) : Nat := x.1 * 64 + x.2

/-- The sum of a user program for a part and stripe: the last bundle's in NATIVE order, the node's in CANONICAL. -/
def progSum (s : State) (c : Coll) (ks : List CKey) (part : Nat × Nat) (k : Nat) : Option SumVal :=
  let b := if collOrder c = 1 then min ks.length (enginesPerQuad s.fuses) - 1 else 0
  c.sums.find? (fun v => v.engine == 16 * (k % 4) + b && v.elem == 512 * k &&
    v.node == (if collOrder c = 2 then nodeKey part else 0))

/-- A fragment that is an input of the switch unchanged, and goes through no sum (R207). -/
def passThrough (s : State) (c : Coll) (ks : List CKey) (part : Nat × Nat) : Option CKey :=
  if goesOn s c part then ks.find? (fun k => fragOf (grpN s c.group) k == part) else none

/-- The part's elements of stripe `k`, when they can be formed: (element, value and flags), and each step's bundle and flags. Elements
of a block that a user program's record leaves out have no value (R260). (DESIGN CHOICE, notes/assumptions/80.md) -/
def partStripe (s : State) (c : Coll) (ks : List CKey) (part : Nat × Nat) (k : Nat) :
    Option (List (Nat × Option (W32 × Fl)) × List (Nat × Fl)) :=
  let es := (List.range (min 512 (dElem c.desc - 512 * k))).map (fun j => 512 * k + j)
  if !ks.all (fun x => hasStripe c x k) then none
  else match passThrough s c ks part with
    | some x => some (es.map (fun e => (e, inputVal c x e)), [])
    | none =>
      if dProg c.desc = 0 then
        let r := es.map (fun e => (e, partElem s c ks part e))
        if stripeBegun s c k then some (r.map (fun x => (x.1, x.2.1)), r.flatMap (fun x => x.2.2)) else none
      else match progSum s c ks part k with
        | none => none
        | some v => some (es.map (fun e => (e, if v.mask.getLsbD ((e - v.elem) / 64)
            then some (v.lanes.getD (e - v.elem) 0, v.flags.getD (e - v.elem) 0) else none)), [])

/-- The conversion of the root's result to RFMT (R190). -/
def toResult (s : State) (c : Coll) (v : W32 × Fl) : W32 × Fl :=
  if grpRoot s c.group then
    let (r, f) := fmtNarrow (dRfmt c.desc) c.convInf v.1
    (BitVec.ofNat 32 r, v.2 ||| f)
  else v

/-- One stripe of a part formed, if it can be. (DEDUCED, notes/assumptions/40.md) -/
def formStripe (ks : List CKey) (part : Nat × Nat) (k : Nat) (c : Coll) (s : State) : Coll × State :=
  let old : CPart := (c.parts.find? (fun x => x.lo == part.1 && x.depth == part.2)).getD ⟨part.1, part.2, [], [], []⟩
  if old.stripes.contains k then (c, s)
  else match partStripe s c ks part k with
    | none => (c, s)
    | some (es, evs) =>
      let vs := es.filterMap (fun e => e.2.map (fun v => (e.1, toResult s c v)))
      let new : CPart := { old with
        stripes := old.stripes ++ [k]
        vals := vs.foldl (fun (t : Tab W32) (e : Nat × W32 × Fl) => tabSet t e.1 e.2.1) old.vals
        flags := (vs.filter (fun e => e.2.2 != 0)).foldl (fun (t : Tab Fl) (e : Nat × W32 × Fl) => tabSet t e.1 e.2.2) old.flags }
      let c := { c with parts := c.parts.filter (fun x => !(x.lo == part.1 && x.depth == part.2)) ++ [new] }
      (c, evs.foldl (fun s e => engFlags (16 * (k % 4) + e.1) [e.2] s) s)

/-- Stripes of the element space. -/
def stripes (c : Coll) : Nat := ceilDiv (dElem c.desc) 512

/-- Every part and stripe formed that can be (R189). A CANONICAL root forms only the fragment [0, N) (R191). -/
def formParts (c : Coll) (s : State) : Coll × State :=
  if !opReduce (dOp c.desc) then (c, s)
  else match partKeys s c with
    | none => (c, s)
    | some ps =>
      if grpRoot s c.group && ps.map Prod.fst != [(0, 0)] then (c, s)
      else ps.foldl (fun acc x => (List.range (stripes c)).foldl (fun acc k => formStripe x.2 x.1 k acc.1 acc.2) acc) (c, s)

/-- Every value this switch forms is known and formed whole. -/
def partsWhole (s : State) (c : Coll) : Bool :=
  (collOrder c != 2 || fragsKnown s c) && (partKeys s c).any (fun ps => ps.all (fun x =>
    c.parts.any (fun y => y.lo == x.1.1 && y.depth == x.1.2 && y.stripes.length == stripes c)))

/-! ## Messages a switch owes -/

/-- A part. -/
def partOf (c : Coll) (lo depth : Nat) : Option CPart := c.parts.find? (fun x => x.lo == lo && x.depth == depth)

/-- An element of the final vector at this switch, in RFMT (Table 7.4). -/
def finalVal (s : State) (c : Coll) (e : Nat) : Option W32 :=
  if !grpRoot s c.group then (inputOf c .down).bind (fun i => tabGet i.elems e)
  else if opReduce (dOp c.desc) then (partOf c 0 0).bind (fun x => tabGet x.vals e)
  else c.inputs.findSome? (fun i => tabGet i.elems e)

/-- The member that gets local member `m`'s vector in SHIFT and PERMUTE. -/
def moveTo (s : State) (c : Coll) (m : Nat) : Nat :=
  if dOp c.desc = 7 then (m + dParam c.desc) % max 1 (grpN s c.group) else c.perm.getD m 0

/-- The local members' indices. -/
def localIdx (s : State) (g : Nat) : List Nat := (localMembers s g).map Prod.snd

/-- UP messages owed (R189, R190, R207), in the order in which they are sent. -/
def upsOwed (s : State) (c : Coll) : List OKey :=
  if grpRoot s c.group then []
  else if opReduce (dOp c.desc) then ((partKeys s c).map (fun r => r.map (fun x => OKey.up x.1.1 x.1.2))).getD []
  else if dOp c.desc = 5 ∨ dOp c.desc = 6 then
    ((c.inputs.filterMap (fun i => match i.key with
      | .member m => some m
      | .up _ lo _ => some lo
      | .down => none)).mergeSort (fun a b => decide (a ≤ b))).map (fun m => OKey.up m 0)
  else []

/-- DOWN and RESULT messages owed (Table 7.4). -/
def downsOwed (s : State) (c : Coll) : List OKey :=
  let op := dOp c.desc
  let down := opDown op
  (if down then (kids s c.group).map OKey.down else []) ++
  (if op = 7 ∨ op = 8 then (localIdx s c.group).map (fun m => OKey.result (moveTo s c m))
   else if op = 3 ∨ op = 4 then (if grpRoot s c.group then (List.range (grpN s c.group)).map OKey.result else [])
   else if down then ((localIdx s c.group).filter (fun m => !(op == 6 && m == dParam c.desc))).map OKey.result else [])

/-- Format, and range of elements, of an owed message. -/
def owedShape (s : State) (c : Coll) (k : OKey) : Nat × Nat × Nat :=
  let d := c.desc
  let e := dElem d
  let ch := dChunk s c.group d
  match k with
  | .up lo _ => if opReduce (dOp d) then (dAcc d, 0, e) else if dOp d = 5 then (dRfmt d, lo * ch, (lo + 1) * ch) else (dRfmt d, 0, e)
  | .down _ => (dRfmt d, 0, e)
  | .result j => if dOp d = 3 ∨ dOp d = 4 then (dRfmt d, j * ch, (j + 1) * ch) else (dRfmt d, 0, e)

/-- An element of an owed message. -/
def owedVal (s : State) (c : Coll) (k : OKey) (e : Nat) : Option W32 :=
  match k with
  | .up lo depth =>
    if opReduce (dOp c.desc) then (partOf c lo depth).bind (fun x => tabGet x.vals e)
    else (c.inputs.find? (fun i => match i.key with
      | .member m => m == lo
      | .up _ m _ => m == lo
      | .down => false)).bind (fun i => tabGet i.elems e)
  | .down _ => finalVal s c e
  | .result j =>
    if dOp c.desc = 7 ∨ dOp c.desc = 8 then
      ((localIdx s c.group).find? (fun m => moveTo s c m == j)).bind (fun m =>
        (inputOf c (.member m)).bind (fun i => tabGet i.elems e))
    else finalVal s c e

/-- A sparse message can be laid out: all its blocks are known (R244). -/
def sparseReady (s : State) (c : Coll) (k : OKey) : Bool :=
  match k with
  | .up lo depth => (partOf c lo depth).any (fun x => x.stripes.length == stripes c)
  | _ => if grpRoot s c.group then (partOf c 0 0).any (fun x => x.stripes.length == stripes c)
    else (inputOf c .down).any (·.complete)

/-- Rising blocks cut into sparse packets, at most `per` in each: (block of ELEM_OFF, blocks). A packet's bitmap begins after the
last block of the packet before it, or, for the first packet and one whose first block lies beyond 128 from there, at a multiple of
128 blocks; dense data so come in as few packets as they fit (R243, R244). (DESIGN CHOICE, notes/assumptions/71.md) -/
def sparsePackets (per : Nat) (bs : List Nat) : List (Nat × List Nat) :=
  bs.foldl (fun l b =>
    match l.getLast? with
    | some (w, have_) =>
      let next := have_.getLastD w + 1
      if b < w + 128 ∧ have_.length < per then l.dropLast ++ [(w, have_ ++ [b])]
      else l ++ [(if b < next + 128 then next else b / 128 * 128, [b])]
    | none => [(b / 128 * 128, [b])]) []

/-- The packets of an owed message, as (segment, ELEM_OFF, payload): all that can be laid out; a dense packet whose elements
are not all there has no payload yet. -/
def owedPackets (s : State) (c : Coll) (k : OKey) : List (Nat × Nat × Option (List Byte)) :=
  let (fmt, lo, hi) := owedShape s c k
  if dOp c.desc = 9 then
    if !sparseReady s c k then []
    else
      let bs := (List.range (dElem c.desc / 64)).filter (fun b => (owedVal s c k (64 * b)).isSome)
      let pk := sparsePackets ((2048 - 16) / (64 * fmtSize fmt)) bs
      if pk.isEmpty then [(0, 0, some (List.replicate 16 0))]
      else pk.map (fun x => (0, 64 * x.1, some (leBytes 16 (x.2.foldl (fun m b => m + 2 ^ (b - x.1)) 0) ++
        elemBytes fmt (x.2.flatMap (fun b => (List.range 64).map (fun j => ((owedVal s c k (64 * b + j)).getD 0).toNat))))))
  else (layout (dSegs s c.desc) fmt lo hi).map (fun x =>
    let vs := (List.range x.2.2).map (fun j => owedVal s c k (x.2.1 + j))
    (x.1, x.2.1, if vs.all Option.isSome then some (elemBytes fmt (vs.map (fun v => (v.getD 0).toNat))) else none))

/-- Destination, STEP, MEMBER and byte 43 of an owed message. An UP message of ALLGATHER or BROADCAST carries the index of the
member whose data it is, and byte 43 zero; a DOWN message carries both zero: no rule states them. (DESIGN CHOICE,
notes/assumptions/71.md) -/
def owedDst (s : State) (c : Coll) (k : OKey) : Nat × Nat × Nat × Nat :=
  match k with
  | .up lo depth => (neighbour s ((grpParent s c.group).getD 0), 1, lo, depth)
  | .down d => (neighbour s d, 2, 0, 0)
  | .result j => (memberCw s c.group j, 0, 0, 0)

/-- RESULT messages to begin whose members the CSQ must find in the list, for they may be members of other switches. -/
def resultReads (s : State) (c : Coll) : List Nat :=
  if bit (grpA s c.group) 16 || !([3, 4, 7, 8].contains (dOp c.desc)) then []
  else (downsOwed s c).filterMap (fun k => match k with
    | .result j => if !(c.outs.any (fun o => o.key == k)) && (owedVal s c k (owedShape s c k).2.1).isSome then some j else none
    | _ => none)

/-- Progress of an owed message. -/
def outOf (c : Coll) (k : OKey) : Option OutMsg := c.outs.find? (fun o => o.key == k)

/-- An owed message has left whole. -/
def sentWhole (c : Coll) (k : OKey) : Bool := (outOf c k).any (fun o => o.sent == o.total)

/-- Sends what is ready of an owed message, in ascending ELEM_OFF (R190, R211). -/
def sendOwed (k : OKey) (c : Coll) (s : State) : Coll × State :=
  let pk := owedPackets s c k
  let sent := ((outOf c k).map (·.sent)).getD 0
  let go := ((pk.drop sent).takeWhile (fun x => x.2.2.isSome)).map (fun x => (x.1, x.2.1, x.2.2.getD []))
  if go.isEmpty then (c, s)
  else
    let (m, s) := match outOf c k with
      | some o => (o.msgId, s)
      | none => newMsgId s
    let (dst, step, member, byte43) := owedDst s c k
    let isRes := match k with | .result _ => true | _ => false
    let fmt := (owedShape s c k).1
    let s := (go.zip (List.range go.length)).foldl (fun s x =>
      let p := mkPacket (if isRes then tResult else tContribute) c.tc dst (!isRes) m (sent + x.2) pk.length x.1.2.2
        (conFields s c.group c.cseq c.digest step fmt byte43 x.1.2.1 member x.1.1)
      let s := if isRes then count 0x06A 1 (some c.port) (some c.tc) (some c.group) s else s
      let mq := if opReduce (dOp c.desc) && (grpRoot s c.group || step == 1) then x.1.2.1 / 512 % 4 else c.group % 4
      collSend c.group mq p s) s
    let o : OutMsg := ⟨k, m, sent + go.length, pk.length⟩
    ({ c with outs := c.outs.filter (fun x => x.key != k) ++ [o] }, s)

/-! ## Flags (R170, R171) -/

/-- The offending elements of this switch with their flags, rising. -/
def ownFlags (c : Coll) : Tab Fl :=
  if opReduce (dOp c.desc) then
    c.parts.foldl (fun t x => x.flags.foldl (fun t e => tabSet t e.1 (tabOr t e.1 0 ||| e.2)) t) []
  else c.inputs.foldl (fun t i => i.eflags.foldl (fun t e => tabSet t e.1 (tabOr t e.1 0 ||| e.2)) t) []

/-- The first offending element among candidates: the lowest under DET_STRICT, else whichever report came first (R171).
(DEDUCED, notes/assumptions/9.md) -/
def pickFirst (strict : Bool) (fresh : Nat) (cands : List Nat) : W32 :=
  match cands with
  | [] => 0xFFFFFFFF
  | x :: r => if strict then BitVec.ofNat 32 (r.foldl min x) else BitVec.ofNat 32 (cands.getD (Config.firstReport fresh % cands.length) x)

/-- FLAGS, FIRST_IDX and segment records over this switch and its children (R170, R171, R189). -/
def summary (c : Coll) (s : State) : (Fl × W32 × List SegRec) × State :=
  let own := ownFlags c
  let fl := orFlags (own.map Prod.snd ++ c.dones.map (·.flags))
  let first := pickFirst c.strict s.fresh (own.map Prod.fst ++ (c.dones.filter (fun r => r.flags != 0)).map (fun r => r.first.toNat))
  let recs := if !dSegen c.desc then [] else (dSegs s c.desc).filterMap (fun g =>
    let mine := own.filter (fun e => decide (g.2.1 ≤ e.1) && decide (e.1 < g.2.2))
    let kid := c.dones.flatMap (fun r => r.recs.filter (fun x => x.seg == g.1))
    let f := orFlags (mine.map Prod.snd ++ kid.map (·.flags))
    if f = 0 then none
    else some (SegRec.mk g.1 f (pickFirst c.strict (s.fresh + 1 + g.1) (mine.map (fun e => e.1 - g.2.1) ++ kid.map (fun x => x.first.toNat)))))
  ((fl, first, recs), { s with fresh := s.fresh + 256 })

/-! ## UP_TRAFFIC, COLL_FINISH, COLL_TIMEOUT -/

/-- Element `e` of an input with the bits of `r` turned over. -/
def flipElem (i : CIn) (e : Nat) (r : W32) : CIn :=
  match tabGet i.elems e with
  | none => i
  | some v => { i with elems := tabSet i.elems e (v ^^^ r) }

/-- The context and the staging of a collective are read: whether no granule of them is poisoned, and the collective with the data that came out
wrong (R31 to R33). Granule `g` of an input holds its elements 4g to 4g + 3. (DEDUCED, notes/assumptions/17.md) -/
def stagedRead (c : Coll) (s : State) : Bool × Coll × State :=
  let (lost, c, s) := collRead c s
  let (bad, wrong, s) := memScan .csq (stagedOf c.group c.cseq) s
  let c := wrong.foldl (fun (c : Coll) e => match e.1 with
    | .staged _ _ i g => { c with inputs := (c.inputs.zip (List.range c.inputs.length)).map (fun x =>
        if x.2 = i then (List.range 4).foldl (fun a j => flipElem a (4 * g + j) ((e.2 >>> (32 * j)).setWidth 32)) x.1 else x.1) }
    | _ => c) c
  (!lost && bad.isEmpty, c, s)

/-- What is ready of a collective is formed and sent, UP first, then DOWN and RESULT; after the last UP message of a switch whose
inputs are complete, DONE (R189, R190). A poisoned granule of the member list ends the collective with CODE ERROR (R33). -/
def sendReady (c : Coll) (s : State) : State :=
  let (c, s) := formParts c s
  let js := resultReads s c
  if s.wiping && !js.isEmpty then putColl c s
  else
    let (bad, s) := js.foldl (fun (x : Bool × State) j =>
      let (b, s) := memberRead c.group j x.2
      (x.1 || b, s)) (false, s)
    if bad then collFail c 3 s
    else
      let (c, s) := (upsOwed s c ++ downsOwed s c).foldl (fun acc k => sendOwed k acc.1 acc.2) (c, s)
      let s := if opReduce (dOp c.desc) && dProg c.desc == 0 && partsWhole s c then endCollRuns c.group c.cseq s else s
      if !grpRoot s c.group && !c.doneSent && inputsIn s c && (upsOwed s c).all (sentWhole c) &&
          (collOrder c != 2 || !opReduce (dOp c.desc) || fragsKnown s c) then
        let ((fl, first, recs), s) := summary c s
        let s := sendControl c.group c.cseq c.digest c.tc (neighbour s ((grpParent s c.group).getD 0)) 3
          (control (upsOwed s c).length first fl 0 recs) s
        putColl { c with doneSent := true } s
      else putColl c s

/-- UP_TRAFFIC (R189). While every class is held, what is formed waits (R220); what needs the member list waits for the end of a
wipe (R286). A poisoned granule in staging ends the collective with CODE ERROR (Table 7.8). -/
def upTraffic (g : Nat) (cseq : W32) (s : State) : State :=
  match findColl s g cseq with
  | none => s
  | some c =>
    if !coreOn s then s
    else match stagedRead c s with
      | (false, c, s) => collFail c 3 s
      | (true, c, s) => sendReady c s

/-- The finishing conditions of R191. -/
def finishable (s : State) (c : Coll) : Bool :=
  inputsIn s c && (downsOwed s c).all (sentWhole c) && s.collWait.all (fun e => !dataOf c.group c.cseq e.2.2) &&
  (if grpRoot s c.group then
     !opReduce (dOp c.desc) || (partOf c 0 0).any (fun x => x.stripes.length == stripes c)
   else c.doneSent && c.fin.any (fun f => decide (f.count ≤ (c.inputs.filter (fun i => i.key == .down && i.complete)).length)))

/-- COMPLETION to every local member: one, or one a segment (R191). -/
def completions (c : Coll) (fl : Fl) (first : W32) (recs : List SegRec) (s : State) : State :=
  let list := if dSegen c.desc then (dSegs s c.desc).map (fun g => match recs.find? (fun r => r.seg == g.1) with
      | some r => (g.1, r.flags, r.first)
      | none => (g.1, (0 : Fl), (0xFFFFFFFF : W32)))
    else [(0, fl, first)]
  (localMembers s c.group).foldl (fun s m => list.foldl (fun s x =>
    sendRecord tCompletion c.group c.cseq c.digest c.tc (ownSw s + m.1 * 2 ^ 18) 0 x.2.1 x.2.2 x.1 s) s) s

/-- A collective finishes (R191): FIN to each child, COMPLETION to each local member, and it closes. -/
def finishGo (c : Coll) (s : State) : State :=
  let g := c.group
  let ((fl, first, recs), s) := if grpRoot s g then summary c s else
    ((c.fin.map (fun f => (f.flags, f.first, f.recs))).getD (0, 0xFFFFFFFF, []), s)
  let cnt := if opDown (dOp c.desc) && (downsOwed s c).any (fun k => match k with | .down _ => true | _ => false) then 1 else 0
  let s := (kids s g).foldl (fun s d => sendControl g c.cseq c.digest c.tc (neighbour s d) 4 (control cnt first fl 0 recs) s) s
  let s := completions c fl first recs s
  collEnd g c.cseq (count 0x061 1 (some c.port) (some c.tc) (some g) s)

/-- COLL_FINISH (R191): a switch closes a collective after it has sent FIN and COMPLETION, so none finishes while every class is
held (R220). A poisoned context ends it with CODE ERROR (R33, Table 7.8). -/
def collFinish (g : Nat) (cseq : W32) (s : State) : State :=
  match findColl s g cseq with
  | none => s
  | some c =>
    if !coreOn s || allHeld s || !finishable s c then s
    else match collRead c s with
      | (true, c, s) => collFail c 3 s
      | (false, c, s) => if finishable s c then finishGo c s else s

/-- COLL_TIMEOUT (R194, R195); suspended while halted, held or parking (R214, R220, R329). -/
def collTimeout (g : Nat) (cseq : W32) (s : State) : State :=
  match findColl s g cseq with
  | none => s
  | some c => if !coreOn s || halted s || allHeld s || parking s then s else collFail c 4 (raise .csq 28 s)

/-- Every collective that satisfies `q` ends with CODE `code` (R335, Table 14.3). -/
def failColls (q : Coll → Bool) (code : Nat) (s : State) : State := (s.colls.filter q).foldl (fun s c => collFail c code s) s

end Sys2Proof.Machine
end

