-- ==== Sys2Proof/Machine/RteOps.lean ====
section
/-!
DEFINITION. Holding classes and swapping the routing tables on a live fabric (R121 to R126).
-/

namespace Sys2Proof.Machine

/-- A packet of TC `t` is held, queued or unacknowledged at port `n` (R123). -/
def holdsTc (s : State) (n t : Nat) : Bool :=
  let q := s.port n
  q.rxq.any (fun e => e.pkt.tc == t) ||
    (match q.rxPart with
     | [] => false
     | h :: _ => (Packet.mk h []).tc == t) ||
    q.linkLocal.any (fun p => p.tc == t) || q.egress.any (fun e => e.pkt.tc == t) || q.txPartOf.any (fun e => e.pkt.tc == t) ||
    (q.replay ++ q.kept).any (fun f => f.cargo.any (fun c => c.pkt.tc == t))

/-- A packet of TC `t` waits in holding SRAM for its block, or a list or a response that is not sent does (R118, R278). -/
def waitsTc (s : State) (t : Nat) : Bool :=
  (waitingPkts s).any (fun p => p.2.tc == t) || s.resps.any (fun r => (Packet.mk r.hdr []).tc == t) ||
    s.results.any (fun r => r.left.any (fun p => p.tc == t))

/-- RTE_DRAIN.DRAINED (R123). -/
def drained (s : State) : Nat :=
  ((List.range 8).filter (fun t =>
    bit (s.regN 0x2000010) t && allPorts.all (fun n => !holdsTc s n t) && !waitsTc s t)).foldl (fun m t => m + 2 ^ t) 0

/-- RTE_SWAP_STATUS.AFFECTED: the classes a contract-path swap affects (R121). -/
def cpathAffected (s : State) : Nat :=
  if s.pathWritten.any (fun c => conState s c == 0) then 0xFF
  else s.pathWritten.foldl (fun m c => m ||| 2 ^ aTc (conA s c)) 0

/-- `len` bytes of table entries at `act` replaced by those at `shd`, which stay: swap, and the copy into the shadow
(R124, R125). Nothing reads the old active entries after the copy. The shadow's granules are read, and a poisoned one stays poisoned
where it is copied to (R33). -/
def copyTable (act shd len : Nat) (s : State) : State :=
  let (_, s) := tableRead .rte shd len (wordsClean act len s)
  let keep := s.csr.filter (fun e => !(decide (act ≤ e.1) && decide (e.1 < act + len)))
  let new := (s.csr.filter (fun e => decide (shd ≤ e.1) && decide (e.1 < shd + len))).map (fun e => (e.1 - shd + act, e.2))
  { s with
    csr := new.foldl (fun t e => tabSet t e.1 e.2) keep
    gpoison := s.gpoison ++ (s.gpoison.filter (wordIn shd len)).map (fun g => match g with
      | .word a => .word (a - shd + act)
      | g => g) }

/-- A write of RTE_SWAP (R124). -/
def rteSwap (sign cpath : Bool) (s : State) : State :=
  if !sign && !cpath then s
  else if bit (s.regN 0x2000024) 2 then s.setField 0x2000024 1 0 3
  else
    let affected := (if sign then 0xFF else 0) ||| (if cpath then cpathAffected s else 0)
    let undrained := affected &&& (0xFF ^^^ drained s)
    if undrained ≠ 0 then (s.setField 0x2000024 1 0 2).setField 0x2000024 23 16 undrained
    else
      let s := if sign then copyTable 0x2001000 0x2002000 0x300 s else s
      let s := if cpath then { copyTable 0x2010000 0x2020000 0x4000 s with pathWritten := [] } else s
      (s.setField 0x2000024 1 0 1).setField 0x2000024 2 2 1

/-- SHADOW_COPY_END (R125). -/
def shadowCopyEnd (s : State) : State := if coreOn s then s.setField 0x2000024 2 2 0 else s

/-- A write of RTE_HOLD (R122, R123); collective packets that waited for every class to be held leave when it no longer is
(R220). -/
def rteHold (value : Nat) (s : State) : State :=
  collRelease ((s.setRegN 0x2000010 (value % 256)).setRegN 0x2000018 0)

/-- A write of a shadow contract path entry is recorded (R121). -/
def cpathWrite (c value : Nat) (s : State) : State :=
  { s.setRegN (0x2020000 + c * 4) (value % 2 ^ 7) with pathWritten := setAdd s.pathWritten c }

end Sys2Proof.Machine
end

