-- ==== Sys2Proof/Machine/CsqOps.lean ====
section
/-!
DEFINITION. Group commits (R180), descriptors (R184), and parking and resuming collectives (R214 to R219).
-/

namespace Sys2Proof.Machine

/-! ## Commits -/

/-- Some port of role TRUNK lies in direction `d`. -/
def hasTrunk (s : State) (d : Nat) : Bool := allPorts.any (fun n => portRole s n == roleTrunk && portDir s n == d)

/-- A commit's outcome in its status register: RESULT, and REASON at [7:4]. -/
def commitDone (a reason : Nat) (s : State) : State := s.setRegN a (if reason = 0 then 1 else 2 + reason * 16)

/-! ## Groups -/

/-- Offset of this switch in an axis group's sub-block on axis `k`. -/
def axisOff (s : State) (d k : Nat) : Nat :=
  let n := max 1 (dimAxis s k)
  (cwAxis (ownSw s) k + n - bits d (6 * k + 5) (6 * k) % n) % n

/-- Extent of a sub-block on axis `k`; `k` = 3 is NP. -/
def axisExt (d k : Nat) : Nat := bits d (30 + 7 * k) (24 + 7 * k)

/-- This switch lies in the sub-block. -/
def axisInside (s : State) (d : Nat) : Bool := [0, 1, 2].all (fun k => decide (axisOff s d k < axisExt d k))

/-- Words A, B and C as an AXIS entry gets them (R178); PARENT_DIR of the root and word C, for which R178 derives no value, read 0.
(DESIGN CHOICE, notes/assumptions/71.md) -/
def axisWords (s : State) (a d : Nat) : Nat × Nat × Nat :=
  let x := axisOff s d 0
  let y := axisOff s d 1
  let z := axisOff s d 2
  let root := x == 0 && y == 0 && z == 0
  let parent := if root then 0 else if z > 0 then 5 else if y > 0 then 3 else 1
  let kid := fun (c : Bool) (dir : Nat) => if c then 2 ^ dir else 0
  let kids := kid (decide (z + 1 < axisExt d 2)) 4 + kid (z == 0 && decide (y + 1 < axisExt d 1)) 2 +
    kid (z == 0 && y == 0 && decide (x + 1 < axisExt d 0)) 0
  let n := axisExt d 0 * axisExt d 1 * axisExt d 2 * axisExt d 3
  (bits a 16 0 + b2n root * 2 ^ 17 + parent * 2 ^ 18 + kids * 2 ^ 21, n % 2 ^ 18 + bits (axisExt d 3) 6 0 * 2 ^ 18, 0)

/-- The tree part of row 2 of Table 7.2. -/
def treeBad (s : State) (a b : Nat) : Bool :=
  let root := bit a 17
  let kids := bitsSet 6 (bits a 26 21)
  (!root && bits b 24 18 == 0 && kids.isEmpty) || !(kids ++ (if root then [] else [bits a 20 18])).all (hasTrunk s)

/-- Row 2 of Table 7.2 (FIELD) on the words an entry would get. -/
def groupField (s : State) (a b c d : Nat) : Bool :=
  let n := bits b 17 0
  let axis := bit a 16
  (n == 0 || decide (n > 131072)) || decide (bits b 24 18 > 64) ||
  (if axis then
     let p0 := bits d 23 18
     let np := axisExt d 3
     [0, 1, 2].any (fun k => axisExt d k == 0 || decide (axisExt d k > dimAxis s k)) || np == 0 || decide (np > 64) ||
       decide (p0 + np > 64) || decide (axisExt d 0 * axisExt d 1 * axisExt d 2 * np > 131072) || !axisInside s d ||
       (List.range np).any (fun i => portRole s (p0 + i) != roleEndpoint) || treeBad s a b
   else c % 16 != 0 || !inRegion s c (4 * n) || treeBad s a b)

/-- Collectives of the group are open here (row 1). -/
def groupOpen (s : State) (g : Nat) : Bool := s.colls.any (fun c => c.group == g)

/-- A CW that cannot be a member or owner: outside the torus, W nonzero, or a port of this switch that is no endpoint. -/
def badCw (s : State) (cw : Nat) : Bool :=
  !cwInside s (BitVec.ofNat 32 cw) || (cwSw cw == ownSw s && portRole s (cwP cw) != roleEndpoint)

/-- Row 3 of Table 7.2 (LIST): the list is read (R180); whether it fails, and its CWs. -/
def groupList (b c : Nat) (s : State) : Bool × List Nat × State :=
  let n := bits b 17 0
  let (bad, bs, s) := storeRead .csq c (4 * n) s
  let l := (chunksOf 4 n bs).map leNat
  let own := l.filter (fun cw => cwSw cw == ownSw s)
  (!bad.isEmpty || l.any (badCw s) || own.eraseDups.length != own.length || own.length != bits b 24 18, l, s)

/-- The whole entry written at one edge: ACTIVE, H = 0. -/
def groupPut (g a b c d : Nat) (s : State) : State :=
  let w := 0x4010000 + g * 0x20
  let s := wordsClean w 0x20 s
  let s := (((s.setRegN w a).setRegN (w + 4) b).setRegN (w + 8) c).setRegN (w + 0x10) d
  { (s.setRegN (w + 0x18) 1).setRegN (w + 0x1C) 0 with closed := s.closed.filter (fun e => e.1 != g) }

/-- The entry FREE. -/
def groupClear (g : Nat) (s : State) : State :=
  let w := 0x4010000 + g * 0x20
  let s := wordsClean w 0x20 s
  { s with
    csr := s.csr.filter (fun e => !(decide (w ≤ e.1) && decide (e.1 < w + 0x20)))
    closed := s.closed.filter (fun e => e.1 != g)
    locals := tabDel s.locals g }

/-- Rows 1 and 2 of a WRITE, and its start: an AXIS entry reads no list and is written at once. -/
def groupWriteNow (g : Nat) (s : State) : State :=
  let st := 0x400003C
  let a0 := s.regN 0x4000020
  let d := s.regN 0x4000030
  let (a, b, c) := if bit a0 16 then axisWords s a0 d else (a0, s.regN 0x4000024, s.regN 0x4000028)
  if groupOpen s g then commitDone st 1 s
  else if groupField s a b c d then commitDone st 2 s
  else if bit a 16 then commitDone st 0 (groupPut g a b c d s)
  else { s.setRegN st 4 with grpCommit := some ⟨g, [a, b, c, d].map (BitVec.ofNat 64)⟩ }

/-- A write of CSQ_GCOMMIT as the CSQ performs it (R180): the management bus holds it while BUSY is 1 (R23). -/
def gcommit (v : W64) (s : State) : State :=
  let g := bits v.toNat 11 0
  if bit v.toNat 12 then
    if groupOpen s g then commitDone 0x400003C 1 s else commitDone 0x400003C 0 (groupClear g s)
  else groupWriteNow g s

/-- GROUP_COMMIT_END: the list has been read; OPEN is tested again (R180). A read of the store waits for the end of a wipe (R286). -/
def groupCommitEnd (s : State) : State :=
  match s.grpCommit with
  | none => s
  | some p =>
    if !coreOn s || s.wiping then s
    else
      let w := fun i => (p.words.getD i 0).toNat
      let (bad, cws, s) := groupList (w 1) (w 2) { s with grpCommit := none }
      if bad then commitDone 0x400003C 3 s
      else if groupOpen s p.key then commitDone 0x400003C 1 s
      else commitDone 0x400003C 0 (groupPut p.key (w 0) (w 1) (w 2) (w 3) { s with locals := tabSet s.locals p.key (localsOf s cws) })

/-! ## Descriptors (R184) -/

/-- The staged descriptor. -/
def stagedDesc (s : State) : BitVec 128 :=
  BitVec.ofNat 128 (s.regN 0x4000040 + s.regN 0x4000044 * 2 ^ 32 + s.regN 0x4000048 * 2 ^ 64 + s.regN 0x400004C * 2 ^ 96)

/-- The segment table named passes R198. -/
def segmentsOk (s : State) (d : BitVec 128) : Bool :=
  let n := bits (s.regN (0x40403FC + dSegt d * 0x400)) 7 0
  let g := segments s (dSegt d)
  decide (dSegt d < 64) && decide (1 ≤ n) && decide (n ≤ 254) && (g.getLast?.map (fun x => x.2.2)).getD 0 == dElem d &&
    g.all (fun x => (x.2.2 - x.2.1) * fmtSize (dFmt d) % 16 == 0 && (x.2.2 - x.2.1) * fmtSize (dRfmt d) % 16 == 0)

/-- FIELD of R184. -/
def descField (s : State) (d : BitVec 128) : Bool :=
  let op := dOp d
  let f := dFmt d
  let r := dRfmt d
  op == 0 || decide (op > 9) || !fmtDefined f || !fmtDefined r ||
  (opReduce op && fmtFloat f != fmtFloat r) || (!opReduce op && !fmtPair f r) || (opMax op && !fmtFloat f) ||
  dOrder d == 3 || (decide (1 ≤ dProg d) && decide (dProg d ≤ 127)) ||
  bits d.toNat 23 19 != 0 || bits d.toNat 95 88 != 0 || (!dSegen d && dSegt d != 0) ||
  (!(op == 6 || op == 7 || op == 8) && dParam d != 0) ||
  dElem d == 0 || dElem d * fmtSize f % 16 != 0 || dElem d * fmtSize r % 16 != 0 ||
  (op == 9 && dElem d % 64 != 0) || (dSegen d && (!(op == 1 || op == 2) || !segmentsOk s d))

/-- CSQ_DCOMMIT with OP = REGISTER; a segment table that cannot be read fails R198. (DEDUCED, notes/assumptions/17.md) -/
def descRegister (s : State) : State :=
  let d := stagedDesc s
  let st := 0x4000054
  let (bad, s) := segRead d s
  if descField s d || bad then commitDone st 1 s
  else if s.descs.contains d then commitDone st 0 s
  else if s.descs.any (fun e => dDigest e == dDigest d) then commitDone st 3 s
  else if s.descs.length ≥ 8192 then commitDone st 2 s
  else commitDone st 0 (granuleClean (.descriptor d) { s with descs := s.descs ++ [d] })

/-- CSQ_DCOMMIT with OP = REMOVE. -/
def descRemove (s : State) : State :=
  let d := stagedDesc s
  let st := 0x4000054
  if !s.descs.contains d then commitDone st 4 s
  else if s.colls.any (fun c => c.desc == d) then commitDone st 5 s
  else commitDone st 0 (granuleClean (.descriptor d) { s with descs := s.descs.erase d })

/-- A registered descriptor names segment table `t` (R198). -/
def segmentsInUse (s : State) (t : Nat) : Bool := s.descs.any (fun d => dSegen d && dSegt d == t)

/-! ## The save of a park (R215)

Its body is internal to the part. Here it is a row of 8-byte words: every list is its length and then its items
(DESIGN CHOICE, notes/assumptions/35.md). -/

/-- A list as words. -/
def encL {α : Type} (f : α → List Nat) (l : List α) : List Nat := l.length :: l.flatMap f

/-- A pair table as words. -/
def encT {w : Nat} (t : Tab (BitVec w)) : List Nat := encL (fun e => [e.1, e.2.toNat]) t

/-- A number as a list item. -/
def encN (n : Nat) : List Nat := [n]

def encKey (k : CKey) : List Nat :=
  match k with
  | .member m => [0, m, 0, 0]
  | .up d lo dep => [1, d, lo, dep]
  | .down => [2, 0, 0, 0]

def encOKey (k : OKey) : List Nat :=
  match k with
  | .up lo dep => [0, lo, dep]
  | .down d => [1, d, 0]
  | .result m => [2, m, 0]

def encIn (i : CIn) : List Nat :=
  encKey i.key ++ [i.msgSrc.toNat, i.msgId.toNat, b2n i.complete] ++ encT i.elems ++ encT i.eflags ++ encL encN i.blocks ++
    encL (fun e => [e.1, e.2]) i.offs

def encSeg (r : SegRec) : List Nat := [r.seg, r.flags.toNat, r.first.toNat]

def encCtl (r : CtlRec) : List Nat := [r.dir, r.count, r.flags.toNat, r.first.toNat] ++ encL encSeg r.recs

def encPart (x : CPart) : List Nat := [x.lo, x.depth] ++ encL encN x.stripes ++ encT x.vals ++ encT x.flags

def encOut (o : OutMsg) : List Nat := encOKey o.key ++ [o.msgId.toNat, o.sent, o.total]

def encSum (v : SumVal) : List Nat :=
  [v.engine, v.elem, v.node, v.mask.toNat] ++ encL (fun (x : W32) => [x.toNat]) v.lanes ++ encL (fun (x : Fl) => [x.toNat]) v.flags

/-- A waiting packet as words. -/
def encWait (e : Nat × Nat × Packet) : List Nat :=
  [e.1, e.2.1] ++ (List.range 8).map (fun i => e.2.2.hdr.toNat / 2 ^ (64 * i) % 2 ^ 64) ++ encL (fun (b : Byte) => [b.toNat]) e.2.2.pay

/-- A collective as words. -/
def encColl (c : Coll) : List Nat :=
  [c.group, c.cseq.toNat, c.port, c.digest.toNat, c.desc.toNat % 2 ^ 64, c.desc.toNat / 2 ^ 64, c.tc, b2n c.strict, b2n c.convInf,
    b2n c.doneSent] ++ encL encN c.perm ++ encL encIn c.inputs ++ encL (fun x => [x.1, x.2.1, x.2.2]) c.log ++ encL encN c.joins ++
    encL encCtl c.dones ++ encL encCtl c.fin.toList ++ encL encOut c.outs ++ encL encPart c.parts ++ encL encSum c.sums

def encMsg (m : MsgCtx) : List Nat :=
  [m.src.toNat, m.msgId.toNat, m.cnt, m.port, b2n m.convInf] ++ (List.range 8).map (fun i => m.hdr.toNat / 2 ^ (64 * i) % 2 ^ 64) ++
    encL encN m.got

/-- Reading words: the item and the words left. -/
abbrev Rd (α : Type) := List Nat → Option (α × List Nat)

def rdN : Rd Nat := fun w => match w with | [] => none | x :: r => some (x, r)

def rdTimes {α : Type} (f : Rd α) (n : Nat) : Rd (List α) := fun w =>
  match n with
  | 0 => some ([], w)
  | k + 1 => match f w with
    | none => none
    | some (x, w) => (rdTimes f k w).map (fun r => (x :: r.1, r.2))

/-- A list; a length no shorter than the words left is refused. -/
def rdL {α : Type} (f : Rd α) : Rd (List α) := fun w => match w with
  | [] => none
  | n :: r => if n > r.length then none else rdTimes f n r

def rdFix (n : Nat) : Rd (List Nat) := rdTimes rdN n

def rdT (w : Nat) : Rd (Tab (BitVec w)) := fun r =>
  (rdL (rdFix 2) r).map (fun x => (x.1.map (fun e => (e.getD 0 0, BitVec.ofNat w (e.getD 1 0))), x.2))

def rdKey : Rd CKey := fun w => (rdFix 4 w).map (fun x =>
  (if x.1.getD 0 0 = 0 then CKey.member (x.1.getD 1 0) else if x.1.getD 0 0 = 1 then .up (x.1.getD 1 0) (x.1.getD 2 0) (x.1.getD 3 0)
   else .down, x.2))

def rdOKey : Rd OKey := fun w => (rdFix 3 w).map (fun x =>
  (if x.1.getD 0 0 = 0 then OKey.up (x.1.getD 1 0) (x.1.getD 2 0) else if x.1.getD 0 0 = 1 then .down (x.1.getD 1 0)
   else .result (x.1.getD 1 0), x.2))

def rdIn : Rd CIn := fun w => do
  let (k, w) ← rdKey w
  let (x, w) ← rdFix 3 w
  let (e, w) ← rdT 32 w
  let (f, w) ← rdT 3 w
  let (b, w) ← rdL rdN w
  let (n, w) ← rdL (rdFix 2) w
  some (⟨k, BitVec.ofNat 32 (x.getD 0 0), BitVec.ofNat 32 (x.getD 1 0), e, f, b, n.map (fun y => (y.getD 0 0, y.getD 1 0)),
    x.getD 2 0 == 1⟩, w)

def rdSeg : Rd SegRec := fun w => (rdFix 3 w).map (fun x =>
  (⟨x.1.getD 0 0, BitVec.ofNat 3 (x.1.getD 1 0), BitVec.ofNat 32 (x.1.getD 2 0)⟩, x.2))

def rdCtl : Rd CtlRec := fun w => do
  let (x, w) ← rdFix 4 w
  let (r, w) ← rdL rdSeg w
  some (⟨x.getD 0 0, x.getD 1 0, BitVec.ofNat 3 (x.getD 2 0), BitVec.ofNat 32 (x.getD 3 0), r⟩, w)

def rdPart : Rd CPart := fun w => do
  let (x, w) ← rdFix 2 w
  let (st, w) ← rdL rdN w
  let (v, w) ← rdT 32 w
  let (f, w) ← rdT 3 w
  some (⟨x.getD 0 0, x.getD 1 0, st, v, f⟩, w)

def rdOut : Rd OutMsg := fun w => do
  let (k, w) ← rdOKey w
  let (x, w) ← rdFix 3 w
  some (⟨k, BitVec.ofNat 32 (x.getD 0 0), x.getD 1 0, x.getD 2 0⟩, w)

def rdSum : Rd SumVal := fun w => do
  let (x, w) ← rdFix 4 w
  let (l, w) ← rdL rdN w
  let (f, w) ← rdL rdN w
  some (⟨x.getD 0 0, x.getD 1 0, x.getD 2 0, l.map (BitVec.ofNat 32), f.map (BitVec.ofNat 3), BitVec.ofNat 8 (x.getD 3 0)⟩, w)

def rdHdr (x : List Nat) : BitVec 512 := BitVec.ofNat 512 ((List.range 8).foldl (fun a i => a + x.getD i 0 * 2 ^ (64 * i)) 0)

def rdWait : Rd (Nat × Nat × Packet) := fun w => do
  let (x, w) ← rdFix 10 w
  let (b, w) ← rdL rdN w
  some ((x.getD 0 0, x.getD 1 0, ⟨rdHdr (x.drop 2), b.map (BitVec.ofNat 8)⟩), w)

def rdColl : Rd Coll := fun w => do
  let (x, w) ← rdFix 10 w
  let (perm, w) ← rdL rdN w
  let (ins, w) ← rdL rdIn w
  let (log, w) ← rdL (rdFix 3) w
  let (joins, w) ← rdL rdN w
  let (dones, w) ← rdL rdCtl w
  let (fin, w) ← rdL rdCtl w
  let (outs, w) ← rdL rdOut w
  let (parts, w) ← rdL rdPart w
  let (sums, w) ← rdL rdSum w
  let n := fun i => x.getD i 0
  some (⟨n 0, BitVec.ofNat 32 (n 1), n 2, BitVec.ofNat 32 (n 3), BitVec.ofNat 128 (n 4 + n 5 * 2 ^ 64), n 6, n 7 == 1, n 8 == 1, [], perm,
    ins, log.map (fun e => (e.getD 0 0, e.getD 1 0, e.getD 2 0)), joins, dones, fin.head?, outs, parts, sums, n 9 == 1⟩, w)

def rdMsg : Rd MsgCtx := fun w => do
  let (x, w) ← rdFix 13 w
  let (got, w) ← rdL rdN w
  let n := fun i => x.getD i 0
  some (⟨BitVec.ofNat 32 (n 0), BitVec.ofNat 32 (n 1), tContribute, n 2, rdHdr (x.drop 5), n 3, got, n 4 == 1, false, false, []⟩, w)

/-- The contents of a save: collectives, message contexts, (group, H, GEPOCH) of their groups, closed CSEQs of those groups,
port epochs, and the packets of the collectives that wait for the release of the hold (R220). -/
structure Save where
  colls  : List Coll
  msgs   : List MsgCtx
  groups : List (Nat × Nat × Nat)
  closed : List (Nat × W32)
  epochs : List (Nat × Nat)
  waits  : List (Nat × Nat × Packet)
deriving DecidableEq, Repr

/-- A waiting packet is of an open collective. -/
def waitsOpen (s : State) (e : Nat × Nat × Packet) : Bool :=
  e.2.2.typ == tContribute && s.colls.any (fun c => c.group == e.2.2.at 32 12 && c.cseq.toNat == e.2.2.at 36 32) ||
    s.colls.any (fun c => dataOf c.group c.cseq e.2.2)

/-- The save of the present state. -/
def saveNow (s : State) : Save :=
  let gs := (s.colls.map (·.group)).eraseDups
  { colls := s.colls
    msgs := s.msgs.filter (fun m => m.typ == tContribute)
    groups := gs.map (fun g => (g, (grpH s g).toNat, grpEpoch s g))
    closed := s.closed.filter (fun e => gs.contains e.1)
    epochs := (allPorts.filter (isEndpoint s)).map (fun n => (n, s.field (puBase n + 0x80) 7 0))
    waits := s.collWait.filter (waitsOpen s) }

/-- Its body. -/
def saveBody (v : Save) : List Byte :=
  (encL encColl v.colls ++ encL encMsg v.msgs ++ encL (fun x => [x.1, x.2.1, x.2.2]) v.groups ++
    encL (fun x => [x.1, x.2.toNat]) v.closed ++ encL (fun x => [x.1, x.2]) v.epochs ++ encL encWait v.waits).flatMap (leBytes 8)

/-- A body read back. -/
def readBody (bs : List Byte) : Option Save := do
  let w := (chunksOf 8 (bs.length / 8) bs).map leNat
  let (c, w) ← rdL rdColl w
  let (m, w) ← rdL rdMsg w
  let (g, w) ← rdL (rdFix 3) w
  let (d, w) ← rdL (rdFix 2) w
  let (e, w) ← rdL (rdFix 2) w
  let (q, _) ← rdL rdWait w
  some ⟨c, m, g.map (fun x => (x.getD 0 0, x.getD 1 0, x.getD 2 0)), d.map (fun x => (x.getD 0 0, BitVec.ofNat 32 (x.getD 1 0))),
    e.map (fun x => (x.getD 0 0, x.getD 1 0)), q⟩

/-- Header of a save (Table 8.4). -/
def saveHeader (s : State) (n : Nat) (body : List Byte) : List Byte :=
  let h := leBytes 4 (glbIdent s.fuses) ++ leBytes 4 (ownSw s) ++ leBytes 4 (s.field 0x8C 7 0) ++ leBytes 4 n ++
    leBytes 8 (32 + body.length) ++ leBytes 4 (crc32c body).toNat
  h ++ leBytes 4 (crc32c h).toNat

/-- CSQ_PARK_STATUS (Table 8.12): STATE, RESULT, REASON. -/
def parkStatus (state result reason : Nat) (s : State) : State := s.setRegN 0x400006C (state + result * 4 + reason * 16)

/-- STATE of the park. -/
def parkState (s : State) : Nat := s.field 0x400006C 1 0

/-- CSQ_PARK_AREA. -/
def parkArea (s : State) : Nat := s.field 0x4000060 39 0

/-- Every class held and drained (R214, R217). -/
def heldAndDrained (s : State) : Bool := allHeld s && drained s == 0xFF

/-- BUSY of R214: an expert step or another type's message context is open, or a group commit is in progress; a descriptor
commit ends where it is written. -/
def parkBusy (s : State) : Bool :=
  !s.xsteps.isEmpty || !s.combs.isEmpty || s.msgs.any (fun m => m.typ != tContribute) || s.grpCommit.isSome

/-- AREA of R214: the save would not lie at an aligned address inside the collective region. -/
def parkOutside (s : State) : Bool := parkArea s % 16 != 0 || !inRegion s (parkArea s) (32 + (saveBody (saveNow s)).length)

/-- Why a PARK is refused; 0 when it is not. -/
def parkReason (s : State) : Nat :=
  if !heldAndDrained s then 1
  else if parkBusy s then 2
  else if parkOutside s then 3
  else 0

/-- CSQ_PARK_CTRL = PARK (R214). A PARK while PARKING leaves that park to end, and one while RESUMING is BUSY: no rule names
either. (DESIGN CHOICE, notes/assumptions/35.md) -/
def park (s : State) : State :=
  let st := parkState s
  if st = 1 then s
  else if st = 3 then parkStatus 3 2 2 s
  else if parkReason s ≠ 0 then parkStatus st 2 (parkReason s) s
  else parkStatus 1 0 0 s

/-- The staging of every collective is read for the save: one with a poisoned granule ends with CODE ERROR (R33, Table 7.8). -/
def parkRead (s : State) : State :=
  s.colls.foldl (fun s c => match stagedRead c s with
    | (true, c, s) => putColl c s
    | (false, c, s) => collFail c 3 s) s

/-- PARK_COMPLETE: the save is written and every collective and message context closes without ABORT. A save that has outgrown the
region since the PARK is refused with AREA after all, so that it always lies inside (R214). (DESIGN CHOICE, notes/assumptions/35.md) -/
def parkComplete (s : State) : State :=
  if !coreOn s || s.wiping || parkState s ≠ 1 then s
  else
    let s := parkRead s
    if parkOutside s then parkStatus 0 2 3 s
    else
    let body := saveBody (saveNow s)
    let s := storeWrite (parkArea s) (saveHeader s s.colls.length body ++ body) s
    let keys := s.colls.map (fun c => (c.group, c.cseq))
    let s := keys.foldl (fun s k => endCollRuns k.1 k.2 s) s
    let s := s.msgs.foldl (fun s m => count 0x056 1 (some m.port) (some (Packet.mk m.hdr []).tc) none s) s
    parkStatus 2 1 0 { s.setRegN 0x4000070 (32 + body.length) with
      parkedKeys := keys, colls := [], msgs := s.msgs.filter (fun m => m.typ != tContribute)
      collWait := s.collWait.filter (fun e => !waitsOpen s e) }

/-- The bytes of the save at CSQ_PARK_AREA: header and body, `none` when a CRC fails or a granule is poisoned (R217). A header whose
BYTES is below 32 or whose save would run past the region answers so too. (DESIGN CHOICE, notes/assumptions/35.md) -/
def saveBytes (s : State) : Option (List Byte × List Byte) × State :=
  let a := parkArea s
  let (bad, h, s) := storeRead .csq a 32 s
  let n := leNat (slice h 16 8)
  if !bad.isEmpty || (crc32c (h.take 28)).toNat != leNat (slice h 28 4) || decide (n < 32) || !inRegion s a n then (none, s)
  else
    let (bad, body, s) := storeRead .csq (a + 32) (n - 32) s
    if !bad.isEmpty || (crc32c body).toNat != leNat (slice h 24 4) then (none, s) else (some (h, body), s)

/-- IDENT, COORD and ORDVER of a save are this switch's own. -/
def saveHere (s : State) (h : List Byte) : Bool :=
  leNat (slice h 0 4) == glbIdent s.fuses && leNat (slice h 4 4) == ownSw s && leNat (slice h 8 1) == s.field 0x8C 7 0

/-- Every saved group is ACTIVE with its GEPOCH, and every digest registered. -/
def saveFits (s : State) (v : Save) : Bool :=
  v.groups.all (fun g => grpActive s g.1 && grpEpoch s g.1 == g.2.2) &&
    v.colls.all (fun c => s.descs.contains c.desc && dDigest c.desc == c.digest)

/-- The save at CSQ_PARK_AREA is read: 0 and its contents, or the REASON it is refused with (R217). A body of this switch's own layout
that is none is CORRUPT, and a save that is both CORRUPT and a MISMATCH is CORRUPT. (DESIGN CHOICE, notes/assumptions/35.md) -/
def readSave (s : State) : Nat × Option Save × State :=
  match saveBytes s with
  | (none, s) => (5, none, s)
  | (some (h, body), s) =>
    if !saveHere s h then (4, none, s)
    else match readBody body with
      | none => (5, none, s)
      | some v => if saveFits s v then (0, some v, s) else (4, none, s)

/-- CSQ_PARK_CTRL = RESUME (R217); a running park or resume makes it BUSY. (DESIGN CHOICE, notes/assumptions/35.md) -/
def resume (s : State) : State :=
  let st := parkState s
  if st = 1 ∨ st = 3 then parkStatus st 2 2 s
  else if !heldAndDrained s then parkStatus st 2 1 s
  else if !s.colls.isEmpty then parkStatus st 2 2 s
  else match readSave s with
    | (why, none, s) => parkStatus st 2 why s
    | (_, some v, s) => parkStatus 3 0 0 { s with
        parked := v.colls
        parkMsgs := v.msgs
        parkWait := v.waits
        parkMeta := v.groups.map (fun g => (g.1, BitVec.ofNat 64 g.2.1)) ++ v.epochs.map (fun e => (4096 + e.1, BitVec.ofNat 64 e.2)) ++
          v.closed.map (fun e => (8192 + e.1, e.2.setWidth 64)) }

/-- A collective that a resume reopens takes its engines again; one that would need a unit that is draining or disabled ends with
CODE ERROR (R205, R334). -/
def reopen (s : State) (c : Coll) : State :=
  match unitAway s c.group c.engines with
  | some b => collFail c 3 (raise b 37 s)
  | none => startRuns c s

/-- RESUME_COMPLETE: the saved collectives are open again, with their horizons and port epochs (R217). -/
def resumeComplete (s : State) : State :=
  if !coreOn s || parkState s ≠ 3 then s
  else
    let s := s.parkMeta.foldl (fun (s : State) (e : Nat × W64) =>
      if e.1 < 4096 then { s.setReg (0x401001C + e.1 * 0x20) e.2 with closed := s.closed.filter (fun x => x.1 != e.1) }
      else if e.1 < 8192 then s.setReg (puBase (e.1 - 4096) + 0x80) e.2
      else s) s
    let s := { s with closed := s.closed ++ (s.parkMeta.filter (fun (e : Nat × W64) => decide (8192 ≤ e.1))).map (fun (e : Nat × W64) => (e.1 - 8192, e.2.setWidth 32)) }
    let cs := s.parked.map (fun (c : Coll) => { c with engines := neededEngines s c.group c.desc })
    let s := { s with
      colls := cs, msgs := s.msgs ++ s.parkMsgs, collWait := s.collWait ++ s.parkWait
      parked := [], parkMsgs := [], parkMeta := [], parkWait := [], parkedKeys := [] }
    parkStatus 0 1 0 (cs.foldl reopen s)

end Sys2Proof.Machine
end

