-- ==== Sys2Proof/Machine/MsuOps.lean ====
section
/-!
DEFINITION. Milestones (spec/12, R291, R301 to R307).
-/

namespace Sys2Proof.Machine

/-- Fields of a MILESTONE_OP (Table 2.9). -/
def moMs (p : Packet) : Nat := p.at 32 16
def moOp (p : Packet) : Nat := p.at 34 8
def moNtfy (p : Packet) : Bool := p.at 35 1 == 1
def moValue (p : Packet) : W64 := BitVec.ofNat 64 (p.at 36 64)
def moTag (p : Packet) : W32 := BitVec.ofNat 32 (p.at 48 32)

/-- Value of milestone `m`. -/
def msValue (s : State) (m : Nat) : W64 := tabOr s.milestones m 0

/-- Home quadrant of milestone `m` (R14). -/
def msHome (m : Nat) : Nat := m / 16384

/-- The granule of milestone `m` names it. -/
def msGranule (m : Nat) (g : GMem) : Bool := match g with | .milestone k => k == m / 2 | _ => false

/-- The MSU reads the granule of milestone `m`: whether it is poisoned, and then no operation on it is performed (R33). -/
def msRead (m : Nat) (s : State) : Bool × State :=
  let (bad, wrong, s) := memScan .msu (msGranule m) s
  let flip := fun (e : BitVec 128) (t : Tab W64) i =>
    tabSet t (m / 2 * 2 + i) (tabOr t (m / 2 * 2 + i) 0 ^^^ BitVec.ofNat 64 (e.toNat / 2 ^ (64 * i)))
  (!bad.isEmpty, wrong.foldl (fun s e => { s with milestones := flip e.2 (flip e.2 s.milestones 0) 1 }) s)

/-- One MILESTONE_NOTIFY (R306). -/
def notify (m op : Nat) (value : W64) (dst tag : W32) (tc port : Nat) (s : State) : State :=
  let (id, s) := newMsgId s
  originate (msHome m) (mkPacket tMilestoneNotify tc dst.toNat false id 0 1 []
    [(8 * 32, 16, m), (8 * 34, 8, op), (8 * 36, 64, value.toNat), (8 * 48, 32, tag.toNat)])
    (count 0x0C1 1 (some port) (some tc) none s)

/-- Marks the WAITMs that value `v` of milestone `m` meets (R303, R305). -/
def meetRuns (m : Nat) (v : W64) (s : State) : State :=
  { s with engines := s.engines.map (fun e => { e with runs := e.runs.map (fun r =>
      match r.wait with
      | some (w, thr) => if w = m ∧ thr ≤ v then { r with waitMet := true } else r
      | none => r) }) }

/-- The MSU reads a held WAIT; a poisoned one is discarded without a notify (R33). (DESIGN CHOICE, notes/assumptions/68.md) -/
def waitRead (w : FWait) (s : State) : State :=
  match recordRead .msu (.wait w.ms w.src w.tag) (fun x => { x with ms := w.ms })
    (fun x s => { s with waits := s.waits.map (fun y => if y = w then x else y) }) w s with
  | (true, x, s) => { s with waits := s.waits.erase x }
  | (false, _, s) => s

/-- Every WAIT held for milestone `m` is read, oldest first (R303). -/
def waitsRead (m : Nat) (s : State) : State := (s.waits.filter (fun w => w.ms == m)).foldl (fun s w => waitRead w s) s

/-- The waits that value `v` meets, answered in the order in which they arrived (R303, R304). -/
def meetWaits (m : Nat) (v : W64) (s : State) : State :=
  let s := waitsRead m s
  let met := fun (w : FWait) => w.ms == m && decide (w.thr ≤ v)
  let hit := s.waits.filter met
  let s := { s with waits := s.waits.filter (fun w => !met w) }
  meetRuns m v (hit.foldl (fun s w => notify m 2 v w.src w.tag w.tc w.port s) s)

/-- One operation of Table 12.5 that gives milestone `m` the value `v`, its own answer, and then the waits. -/
def msuOp (m : Nat) (v : W64) (answer : State → State) (s : State) : State :=
  let s := { s with milestones := tabSet s.milestones m v }
  meetWaits m v (answer (s.countReg 0x8080020 1))

/-- An engine adds `d` to milestone `m` (Table 12.5); a poisoned milestone stays as it is (R33). -/
def msuAdd (m : Nat) (d : W64) (s : State) : State :=
  let (bad, s) := msRead m s
  if bad then s else msuOp m (msValue s m + d) id s

/-- The answer to an operation of a packet. -/
def opAnswer (n : Nat) (p : Packet) (v : W64) (s : State) : State :=
  if moNtfy p then notify (moMs p) (moOp p) v (BitVec.ofNat 32 p.src) (moTag p) p.tc n s else s

/-- WAIT: answered at once, held, or dropped when the slice's list of 4,096 is full (R304). -/
def waitOp (n : Nat) (p : Packet) (s : State) : State :=
  let m := moMs p
  let v := msValue s m
  if moValue p ≤ v then
    notify m 2 v (BitVec.ofNat 32 p.src) (moTag p) p.tc n (s.countReg 0x8080020 1)
  else if (s.waits.filter (fun w => msHome w.ms == msHome m)).length ≥ 4096 then
    raise .msu 36 (countPkt 0x0C3 n p (s.countReg 0x8080028 1))
  else
    let w : FWait := ⟨m, moValue p, BitVec.ofNat 32 p.src, moTag p, p.tc, n⟩
    countPkt 0x0C2 n p (granuleClean (.wait m w.src w.tag) { s.countReg 0x8080020 1 with waits := s.waits ++ [w] })

/-- An operation of a packet, once it is one to be performed (R302). -/
def packetOp (n : Nat) (p : Packet) (s : State) : State :=
  let m := moMs p
  if moOp p = 0 then
    let v := msValue s m + moValue p
    msuOp m v (opAnswer n p v) s
  else if moOp p = 1 then msuOp m (moValue p) (opAnswer n p (moValue p)) s
  else waitOp n p s

/-- A MILESTONE_OP at its home (R54, R302, R307). -/
def milestoneOpIn (n : Nat) (p : Packet) (s : State) : State :=
  match msgArrive .msu n p s with
  | (.dropped, s) => s
  | (.counted _ _ _, s) =>
    if p.ssvc then raise .msu 2 (countPkt 0x0CB n p s)
    else
      let (bad, s) := msRead (moMs p) s
      if bad then countPkt 0x0CB n p s else packetOp n p (countPkt 0x0C0 n p s)

/-- MILESTONE_UPDATE: the update, or the bare notify, of a store command reaches the milestone's home (R275, R277, R291). -/
def milestoneUpdate (src msgId : W32) (s : State) : State :=
  match s.releases.find? (fun r => r.src == src && r.msgId == msgId && r.stage == .inFlight) with
  | none => s
  | some r =>
    if !coreOn s then s
    else
      let (bad, s) := msRead r.ms { s with releases := s.releases.erase r }
      let v := msValue s r.ms + r.val.setWidth 64
      if bad then s
      else if r.msen then
        msuOp r.ms v (fun s => if r.ntfy then notify r.ms 3 v r.src r.msgId r.tc r.port s else s) s
      else notify r.ms 3 (msValue s r.ms) r.src r.msgId r.tc r.port s

/-- A register write of MSU_VAL reaches the slice, which performs it last in the cycle (R303). -/
def msuValWrite (m : Nat) (v : W64) (s : State) : State :=
  if !coreOn s then s else { s with msuLast := s.msuLast ++ [(m, v)] }

/-- One write of MSU_VAL performed; of a poisoned milestone it is not (R33). -/
def msuWriteGo (w : Nat × W64) (s : State) : State :=
  let (bad, s) := msRead w.1 s
  if bad then { s with msuLast := s.msuLast.erase w } else msuOp w.1 w.2 id s

/-- The writes of MSU_VAL of a cycle performed, in the order in which they came (R303). -/
def msuWrites (s : State) : State := s.msuLast.foldl (fun s w => msuWriteGo w s) s

/-- The value a register read of MSU_VAL `m` returns: that after the operations of its own cycle that came before it, of which a
write is the last (R303). -/
def msuSeen (s : State) (m : Nat) : W64 :=
  match s.msuLast.reverse.find? (fun w => w.1 == m) with
  | some w => w.2
  | none => msValue s m

/-- Every milestone 0 and every pending WAIT discarded without a notify (R309). -/
def msuClear (s : State) : State :=
  let other := fun g => match g with | .milestone _ | .wait _ _ _ => false | _ => true
  { s with milestones := [], waits := [], gerr := s.gerr.filter (fun e => other e.1), gpoison := s.gpoison.filter other }

end Sys2Proof.Machine
end

