-- ==== Sys2Proof/Machine/EngineOps.lean ====
section
/-!
DEFINITION. Junction engines (spec/10): the state of a run, the instruction word, engine memory with its tile cache,
streams, program exceptions, and loading and starting programs.
-/

namespace Sys2Proof.Machine

/-! ## Runs -/

/-- The run in a slot. -/
def findRun (s : State) (e slot : Nat) : Option Run := (s.engine e).runs.find? (fun r => r.slot == slot)

/-- The run of a slot replaced. -/
def putRun (e : Nat) (r : Run) (s : State) : State :=
  s.modEngine e (fun x => { x with runs := x.runs.map (fun y => if y.slot = r.slot then r else y) })

/-- A slot released; a run that ends is counted. -/
def endRun (e slot : Nat) (s : State) : State :=
  count (0x202 + 8 * e) 1 none none none (s.modEngine e (fun x => { x with runs := x.runs.filter (fun y => y.slot != slot) }))

/-- Scalar register `i`. -/
def Run.sreg (r : Run) (i : Nat) : W64 := r.s.getD i 0

/-- Scalar register `i` set. -/
def Run.setS (r : Run) (i : Nat) (v : W64) : Run := { r with s := r.s.set i v }

/-- A cleared accumulator (Table 10.2). -/
def Acc.clear (floating : Bool) : Acc := ⟨if floating then .f else .i32, 0xFF, List.replicate 512 0, List.replicate 512 0⟩

/-- Accumulator `i`. -/
def Run.acc (r : Run) (i : Nat) : Acc := r.a.getD i (Acc.clear true)

/-- Accumulator `i` set. -/
def Run.setA (r : Run) (i : Nat) (v : Acc) : Run := { r with a := r.a.set i v }

/-- The run moves to its next instruction. -/
def Run.next (r : Run) : Run := { r with pc := r.pc + 1 }

/-- J_RUN_STATUS: STATE, FLAGS, EXC and EXC_PC set; OVERRUN as it is (Table 10.21). EXC_PC has 13 bits, as in J_EXC_LAST. -/
def runStatus (e st fl exc pc : Nat) (s : State) : State :=
  s.setRegN (jBase e + 0x24) (st + b2n (bit (s.regN (jBase e + 0x24)) 3) * 8 + fl * 2 ^ 4 + exc * 2 ^ 8 + pc % 2 ^ 13 * 2 ^ 16)

/-- A program exception (R257): nothing later of the run is performed, the slot is released, J_EXC_LAST is set and JE_PROG
raised; a reduction's collective ends with CODE ERROR, and a register-started run ends with STATE EXC. -/
def progExc (e code : Nat) (r : Run) (s : State) : State :=
  let s := excLast e code r.slot r.pid r.pc (endRun e r.slot s)
  let s := raise (jBlk e) 35 (count (0x203 + 8 * e) 1 none none none s)
  match r.origin with
  | .register => runStatus e 4 0 code r.pc s
  | .reduction g q _ => match findColl s g q with
    | some c => collFail c 3 s
    | none => s
  | .combine _ _ _ => s

/-- RUN_BEGIN: the front of the run queue takes the lowest free slot with the state of Table 10.2, or raises NOPROG
(R247, R249, R264). -/
def runBegin (e : Nat) (s : State) : State :=
  if !coreOn s || !present s e then s
  else match (s.engine e).queue, freeSlot (s.engine e) with
    | q :: rest, some slot =>
      let reg := match q.origin with | .register => true | _ => false
      let r : Run := ⟨slot, q.pid, q.origin, 0, q.args ++ List.replicate 12 0, List.replicate 8 (Acc.clear q.floating), 512, 0, 0, 0,
        0xFFFFFFFF, if reg then convInfNow s else q.convInf, none, false, s.aclk, [], 0, 0, [], false⟩
      let s := s.modEngine e (fun x => Engine.refill { x with queue := rest, runs := x.runs ++ [r] })
      let s := if reg then s.setField (jBase e + 0x24) 2 0 2 else s
      if q.pid < 128 then (if reg then progExc e 9 r s else s)
      else if progValid s e q.pid then s else progExc e 9 r s
    | _, _ => s

/-! ## Instruction words (R252) -/

/-- What an operand field may hold: nothing, a scalar, an accumulator, an input or output stream, or anything. -/
inductive Fld where
  | none | s | a | i | o | any
deriving DecidableEq, Repr

/-- A field's value is allowed. -/
def Fld.ok (k : Fld) (v : Nat) : Bool :=
  match k with
  | .none => v == 0
  | .s => true
  | .a => v < 8
  | .i => v < 4
  | .o => v < 2
  | .any => true

/-- Fields of an instruction word (Table 10.4). -/
def iOpc (w : W64) : Nat := bits w.toNat 63 56
def iFmt (w : W64) : Nat := bits w.toNat 55 52
def iRd (w : W64) : Nat := bits w.toNat 51 48
def iRa (w : W64) : Nat := bits w.toNat 47 44
def iRb (w : W64) : Nat := bits w.toNat 43 40
def iRc (w : W64) : Nat := bits w.toNat 39 36
def iMod (w : W64) : Nat := bits w.toNat 35 32
def iImm (w : W64) : Nat := bits w.toNat 31 0
/-- MOD bits 0 and 1. -/
def iM0 (w : W64) : Bool := bit w.toNat 32
def iM1 (w : W64) : Bool := bit w.toNat 33

/-- A row of Table 10.5: RD, RA, RB, RC, the MOD bits defined, whether IMM is used, and the FMT codes allowed. -/
structure OpRow where
  rd  : Fld
  ra  : Fld
  rb  : Fld
  rc  : Fld
  mod : Nat
  imm : Bool
  fmt : List Nat
deriving DecidableEq, Repr

/-- FMT "—", FP32 or INT32, and any. -/
def fmtNone : List Nat := [0]
def fmtWord : List Nat := [0, 7]
def fmtAny : List Nat := List.range 8

/-- Table 10.5, for the forms whose fields do not depend on MOD. -/
def opRow (w : W64) : Option OpRow :=
  let o := iOpc w
  if o = 0x00 ∨ o = 0x01 ∨ o = 0x60 ∨ o = 0x61 then some ⟨.none, .none, .none, .none, 0, false, fmtNone⟩
  else if o = 0x02 ∨ o = 0x24 then some ⟨.none, .none, .none, .none, 0, true, fmtNone⟩
  else if o = 0x03 then some ⟨.none, .s, .none, .none, 3, true, fmtNone⟩
  else if o = 0x04 then some ⟨.none, .s, .none, .none, 0, true, fmtNone⟩
  else if o = 0x05 ∨ o = 0x62 then some ⟨.none, .any, .s, .none, 1, true, fmtNone⟩
  else if o = 0x06 then some ⟨.any, .any, .none, .none, 1, true, fmtNone⟩
  else if o = 0x10 then some ⟨.s, .none, .none, .none, 1, true, fmtNone⟩
  else if o = 0x11 then some ⟨.s, .s, .s, .none, 15, false, fmtNone⟩
  else if o = 0x12 then some ⟨.s, .s, .none, .none, 15, true, fmtNone⟩
  else if o = 0x13 then some ⟨.s, .s, .none, .none, 3, true, fmtAny⟩
  else if o = 0x20 ∨ o = 0x21 then some ⟨.a, .s, .none, .none, 0, true, fmtAny⟩
  else if o = 0x22 then some ⟨.none, .s, .a, .none, 0, true, fmtAny⟩
  else if o = 0x23 then some ⟨.none, .s, .s, .s, 0, false, fmtNone⟩
  else if o = 0x30 then some ⟨.a, .none, .s, .i, 0, false, fmtNone⟩
  else if o = 0x31 then some ⟨.none, .a, .s, .o, 0, false, fmtNone⟩
  else if o = 0x32 then some ⟨.a, .a, .i, .o, 3, true, fmtWord⟩
  else if o = 0x33 then some ⟨.a, .a, .s, .o, 3, true, fmtNone⟩
  else if o = 0x40 ∨ o = 0x41 ∨ o = 0x44 ∨ o = 0x51 then some ⟨.a, .a, .a, .none, 0, false, fmtWord⟩
  else if o = 0x42 then some ⟨.a, .a, .a, .a, 0, false, fmtWord⟩
  else if o = 0x43 then some ⟨.a, .a, .s, .none, 3, true, if iM0 w then List.range 5 else fmtNone⟩
  else if o = 0x45 then some ⟨.a, if iM0 w then .none else .a, .none, .none, 1, true, fmtWord⟩
  else if o = 0x50 then some ⟨if iM0 w then .s else .a, .a, if iM0 w then .none else .s, .none, 1, false, fmtNone⟩
  else if o = 0x70 then some ⟨.none, .a, .none, .none, 0, false, fmtWord⟩
  else none

/-- R252: the word is not ILLEGAL. SALU and SALUI operations end at 9. -/
def legalWord (w : W64) : Bool :=
  match opRow w with
  | none => false
  | some r => r.rd.ok (iRd w) && r.ra.ok (iRa w) && r.rb.ok (iRb w) && r.rc.ok (iRc w) && (iMod w &&& (15 ^^^ r.mod)) == 0 &&
      (r.imm || iImm w == 0) && r.fmt.contains (iFmt w) && (!(iOpc w == 0x11 || iOpc w == 0x12) || decide (iMod w ≤ 9))

/-- Length of the program of a run. -/
def progLen (s : State) (e pid : Nat) : Nat := s.field (jBase e + 0x100 + (pid - 128) * 8) 26 13

/-- The instruction word at index `pc` of a user program. -/
def progWord (s : State) (e pid pc : Nat) : W64 := s.reg (jBase e + 0x10000 + (s.field (jBase e + 0x100 + (pid - 128) * 8) 12 0 + pc) * 8)

/-- A granule of engine `e`'s program memory: two words. -/
def pmemGranule (e g : Nat) (x : GMem) : Bool := match x with | .program e' g' => e' == e && g' == g | _ => false

/-- The engine reads word `i` of its program memory: whether its granule is poisoned (R33). -/
def pmemRead (e i : Nat) (s : State) : Bool × State :=
  let (bad, wrong, s) := memScan (jBlk e) (pmemGranule e (i / 2)) s
  (!bad.isEmpty, wrong.foldl (fun s x => wordsXor (jBase e + 0x10000 + i / 2 * 16) x.2 s) s)

/-- Instruction `w` of run `r` is noted as issued in the present cycle, unless the run stands where it stood: only jumps, branches
and loops issue and leave it there. -/
def noteIssue (e : Nat) (w : W64) (r : Run) (s : State) : State :=
  if [0x02, 0x03, 0x04].contains (iOpc w) || (findRun s e r.slot).all (fun x => x.pc != r.pc || x.wait.isSome) then
    { s with issued := tabAdd s.issued e 1 }
  else s

/-- The next instruction of the run in a slot, when its opcode is `opc`, is performed by `body`; the run raises PCRANGE past
its end, POISON for a poisoned word, and ILLEGAL for a word that R252 refuses. A run of a built-in program, or one that waits,
or one whose next instruction is another, changes nothing. -/
def instr (e slot opc : Nat) (body : W64 → Run → State → State) (s : State) : State :=
  if !coreOn s || !present s e then s
  else match findRun s e slot with
    | none => s
    | some r =>
      if r.pid < 128 || r.wait.isSome then s
      else if r.pc ≥ progLen s e r.pid then progExc e 7 r s
      else
        let (bad, s) := pmemRead e (s.field (jBase e + 0x100 + (r.pid - 128) * 8) 12 0 + r.pc) s
        let w := progWord s e r.pid r.pc
        if bad then progExc e 5 r s
        else if (opRow w).isNone then progExc e 1 r s
        else if iOpc w ≠ opc then s
        else if !legalWord w then progExc e 1 r s
        else noteIssue e w r (body w r s)

/-- Counts of an issue of class V and M. -/
def issueV (e : Nat) (s : State) : State := count (0x200 + 8 * e) 1 none none none s
def issueM (e : Nat) (s : State) : State := count (0x201 + 8 * e) 1 none none none s

/-- A branch to IMM[12:0], or PCRANGE (Table 10.6). -/
def branch (e : Nat) (w : W64) (r : Run) (old : Run) (s : State) : State :=
  let t := bits (iImm w) 12 0
  if t ≥ progLen s e r.pid then progExc e 7 old s else putRun e { r with pc := t } s

/-! ## Memory (R250, R254, R256) -/

/-- Where an engine address lies: the store, local space, or nowhere (ADDR). -/
inductive Space where
  | store (a : Nat)
  | loc (off : Nat)
  | bad
deriving DecidableEq, Repr

/-- The space of an access of `n` bytes at EA `a` by a user program. -/
def eaSpace (a n : Nat) : Space :=
  if a / 2 ^ 40 = 0 then (if a + n ≤ storeEnd then .store a else .bad)
  else if a / 2 ^ 40 = 1 ∧ a % 2 ^ 40 / 2 ^ 21 = 0 then (if a % 2 ^ 21 + n ≤ 2 ^ 20 then .loc (a % 2 ^ 21) else .bad)
  else .bad

/-- An access to the store waits for the end of a wipe (R286). -/
def storeWait (s : State) (a : Nat) : Bool := s.wiping && decide (a / 2 ^ 40 = 0)

/-- EA of a memory instruction: S_a plus the zero-extended IMM, modulo 2⁶⁴. -/
def ea (w : W64) (r : Run) : Nat := (r.sreg (iRa w) + BitVec.ofNat 64 (iImm w)).toNat

/-- A filled line becomes the most recently used; its set, of 64, keeps eight (Table 10.1). -/
def tileFill (line : TLine) (c : List TLine) : List TLine :=
  let same := c.filter (fun l => Config.tileSet l.row % 64 == Config.tileSet line.row % 64)
  line :: (if same.length ≥ 8 then c.filter (fun l => some l.row != (same.getLast?.map (·.row))) else c)

/-- The line of store row `row` as the store holds it. -/
def tileLine (s : State) (row : Nat) : TLine :=
  ⟨row, cellRead 0 s.mem (row * 512) 512, (List.range 32).filter (fun i => s.poison.contains (row * 32 + i)), []⟩

/-- The latent errors of the granules `gs` of a line are met by the engine: corrected and counted, or poisoned (R31 to R33). -/
def tileScan (e : Nat) (gs : List Nat) (l : TLine) (s : State) : TLine × State :=
  (l.flaws.filter (fun x => gs.contains x.1)).foldl (fun (acc : TLine × State) x =>
    match flawClass x.2 with
    | .clean => acc
    | .corrected => (acc.1, countCorrected (jBlk e) acc.2)
    | .missed r => ({ acc.1 with bytes := overlay acc.1.bytes (16 * x.1) ((List.range 16).map (fun i =>
        acc.1.bytes.getD (16 * x.1 + i) 0 ^^^ BitVec.ofNat 8 (r.toNat / 2 ^ (8 * i)))) }, countCorrected (jBlk e) acc.2)
    | .detected => ({ acc.1 with bad := setAdd acc.1.bad x.1 }, raise (jBlk e) 0 acc.2))
    ({ l with flaws := l.flaws.filter (fun x => !gs.contains x.1) }, s)

/-- A read of `n` bytes at `a` within one store row. `fresh` skips the lookup: it refreshes a line that is present and
allocates none; a miss fills a line (R254). `none` when a granule read is poisoned, in the line or in the store. -/
def tileReadRow (e : Nat) (fresh : Bool) (a n : Nat) (s : State) : Option (List Byte) × State :=
  let row := a / 512
  match (s.engine e).tcache.find? (fun l => l.row == row), fresh with
  | some l, false =>
    let gs := granules (a % 512) n
    let s := raiseIf (gs.any l.bad.contains) (jBlk e) 0 s
    let (l, s) := tileScan e gs l s
    let s := count (0x204 + 8 * e) 1 none none none (s.modEngine e (fun x => { x with tcache := l :: x.tcache.filter (fun y => y.row != row) }))
    if gs.any l.bad.contains then (none, s) else (some (slice l.bytes (a % 512) n), s)
  | here, _ =>
    let s := if fresh then s else count (0x205 + 8 * e) 1 none none none s
    let (bad, bs, s) := storeRead (jBlk e) a n s
    let s := s.modEngine e (fun x =>
      if here.isSome then { x with tcache := x.tcache.map (fun l => if l.row = row then tileLine s row else l) }
      else if fresh then x
      else { x with tcache := tileFill (tileLine s row) x.tcache })
    (if bad.isEmpty then some bs else none, s)

/-- A read of `n` bytes of the store, row by row. -/
def tileRead (fuel e : Nat) (fresh : Bool) (a n : Nat) (s : State) : Option (List Byte) × State :=
  match fuel with
  | 0 => (some [], s)
  | f + 1 =>
    if n = 0 then (some [], s)
    else
      let k := min n (512 - a % 512)
      match tileReadRow e fresh a k s with
      | (none, s) => (none, s)
      | (some bs, s) =>
        match tileRead f e fresh (a + k) (n - k) s with
        | (none, s) => (none, s)
        | (some r, s) => (some (bs ++ r), s)

/-- A granule of engine `e`'s local space among `gs`. -/
def localGranule (e : Nat) (gs : List Nat) (x : GMem) : Bool := match x with | .engineLocal e' g => e' == e && gs.contains g | _ => false

/-- The granules `gs` of local space are read: the poisoned ones met, and the state, with the data that came out wrong (R31 to R33). -/
def localScan (e : Nat) (gs : List Nat) (s : State) : List GMem × State :=
  let (bad, wrong, s) := memScan (jBlk e) (localGranule e gs) s
  (bad, wrong.foldl (fun s x => match x.1 with
    | .engineLocal _ g => s.modEngine e (fun y => { y with loc := cellXor y.loc (16 * g) x.2 })
    | _ => s) s)

/-- A read of local space; `none` when a granule is poisoned. -/
def localRead (e off n : Nat) (s : State) : Option (List Byte) × State :=
  let (bad, s) := localScan e (granules off n) s
  if bad.isEmpty then (some (cellRead 0 (s.engine e).loc off n), s) else (none, s)

/-- A write of local space: a granule written in full is whole again; one written in part is read first, and stays poisoned if
it is (R33). -/
def localWrite (e off : Nat) (bs : List Byte) (s : State) : State :=
  let full := fun g => decide (off ≤ 16 * g) && decide (16 * g + 16 ≤ off + bs.length)
  let (_, s) := localScan e ((granules off bs.length).filter (fun g => !full g)) s
  let fresh := localGranule e ((granules off bs.length).filter full)
  { s.modEngine e (fun x => { x with loc := cellWrite 0 x.loc off bs }) with
    gerr := s.gerr.filter (fun x => !fresh x.1)
    gpoison := s.gpoison.filter (fun x => !fresh x) }

/-- A read at a space. -/
def engRead (e : Nat) (fresh : Bool) (sp : Space) (n : Nat) (s : State) : Option (List Byte) × State :=
  match sp with
  | .store a => tileRead (n + 1) e fresh a n s
  | .loc off => localRead e off n s
  | .bad => (none, s)

/-- A line that holds a granule of `[a, a + n)` takes the store's bytes; a granule written in full is whole again, and the errors of
one written in part are met first (R33, R254). -/
def tileTake (e a n : Nat) (l : TLine) (s : State) : TLine × State :=
  let at_ := l.row * 512
  if at_ < a + n ∧ a < at_ + 512 then
    let full := fun g => decide (a ≤ at_ + 16 * g) && decide (at_ + 16 * g + 16 ≤ a + n)
    let part := (List.range 32).filter (fun g => !full g && decide (a < at_ + 16 * g + 16) && decide (at_ + 16 * g < a + n))
    let (l, s) := tileScan e part l s
    (⟨l.row, (List.range 512).map (fun i => if a ≤ at_ + i ∧ at_ + i < a + n then cellGet 0 s.mem (at_ + i) else l.bytes.getD i 0),
      l.bad.filter (fun g => !full g), l.flaws.filter (fun x => !full x.1)⟩, s)
  else (l, s)

/-- Lines of engine `e` that hold a granule of `[a, a + n)` take the store's bytes (R254). -/
def tileUpdate (e a n : Nat) (s : State) : State :=
  let (ls, s) := (s.engine e).tcache.foldl (fun (acc : List TLine × State) l =>
    let (l, s) := tileTake e a n l acc.2
    (acc.1 ++ [l], s)) ([], s)
  s.modEngine e (fun x => { x with tcache := ls })

/-- A write at a space. -/
def engWrite (e : Nat) (sp : Space) (bs : List Byte) (s : State) : State :=
  match sp with
  | .store a => tileUpdate e a bs.length (storeWrite a bs s)
  | .loc off => localWrite e off bs s
  | .bad => s

/-! ## Lanes -/

/-- The first VL lanes of `d` replaced by `vs` with their flags, under a kind and mask (R251). -/
def writeLanes (d : Acc) (kind : Kind) (mask : BitVec 8) (vs : List (W32 × Fl)) : Acc :=
  ⟨kind, mask, overlay d.lanes 0 (vs.map Prod.fst), overlay d.flags 0 (vs.map Prod.snd)⟩

/-- A lane and its flags. -/
def Acc.lane (a : Acc) (i : Nat) : W32 × Fl := (a.lanes.getD i 0, a.flags.getD i 0)

/-- The kinds an arithmetic format accepts: F for FP32, I8 or I32 for INT32. -/
def kindOk (fmt : Nat) (a : Acc) : Bool := if fmtFloat fmt then a.kind == .f else a.kind != .f

/-- Kind of a result of integer or floating arithmetic. -/
def kindOf (fmt : Nat) : Kind := if fmtFloat fmt then .f else .i32

/-- Kind of a loaded vector. -/
def kindLoad (fmt : Nat) : Kind := if fmtFloat fmt then .f else if fmt = 7 then .i32 else .i8

/-- One result per lane below VL: value and own flags from `f`, united with the operands' lane flags; the own flags are
counted at the engine (R172, R251). -/
def laneMap (e : Nat) (r : Run) (ops : List Acc) (f : Nat → W32 × Fl) (s : State) : List (W32 × Fl) × State :=
  let rs := (List.range r.vl).map (fun i => (i, f i))
  (rs.map (fun x => (x.2.1, x.2.2 ||| orFlags (ops.map (fun a => a.flags.getD x.1 0)))), engFlags e (rs.map (fun x => x.2.2)) s)

/-- Lanes written out: FLAGS and FIRST (Table 10.3). -/
def noteOut (r : Run) (fls : List Fl) : Run :=
  let off := (List.range fls.length).filter (fun i => fls.getD i 0 != 0)
  { r with
    flags := r.flags ||| orFlags fls
    first := BitVec.ofNat 32 ((off.map (fun i => (r.ebase.toNat + i) % 2 ^ 32)).foldl min r.first.toNat) }

/-- An arithmetic instruction over accumulators, one result a lane. -/
def vecOp (e : Nat) (w : W64) (r : Run) (srcs : List Nat) (ok : Bool) (f : Nat → W32 × Fl) (s : State) : State :=
  if !ok then progExc e 2 r s
  else
    let (vs, s) := laneMap e r (srcs.map r.acc) f (issueV e s)
    putRun e (r.setA (iRd w) (writeLanes (r.acc (iRd w)) (kindOf (iFmt w)) 0xFF vs)).next s

/-! ## Streams (R259, R260) -/

/-- A record of IN0 of a reduction run. -/
structure Rec where
  elem  : Nat
  lanes : Nat
  mask  : BitVec 8
  first : Bool
  last_ : Bool
  final : Bool
  ends  : Bool
  int   : Bool
  pos   : Nat
  vals  : List (W32 × Fl)
deriving DecidableEq, Repr

/-- The tag of a record (Table 10.9). -/
def Rec.tag (x : Rec) : W64 :=
  BitVec.ofNat 64 (x.elem % 2 ^ 32 + (x.lanes - 1) * 2 ^ 32 + x.mask.toNat * 2 ^ 41 + b2n x.first * 2 ^ 49 + b2n x.ends * 2 ^ 50 +
    b2n x.final * 2 ^ 51 + b2n x.last_ * 2 ^ 52 + b2n x.int * 2 ^ 53 + x.pos % 256 * 2 ^ 56)

/-- An operand of a sum: an input of the switch, or a value an engine has answered. -/
inductive Opnd where
  | input (k : CKey)
  | sum (engine node : Nat)
deriving DecidableEq, Repr

/-- Inputs whose stripe `k` is whole, in the order in which the last of it arrived (R208). -/
def stripeOrder (c : Coll) (ks : List CKey) (k : Nat) : List CKey :=
  let hit := (c.log.filter (fun r => decide (r.2.1 < 512 * k + 512) && decide (512 * k < r.2.1 + r.2.2))).map (·.1)
  let lastFirst := hit.reverse.eraseDups
  lastFirst.reverse.filterMap (fun i => (c.inputs[i]?).bind (fun x => if ks.contains x.key && hasStripe c x.key k then some x.key else none))

/-- The sums of bundle `b` for stripe `k`: (node, operands; `none` where the next operand is not known yet, final). -/
def sumsFor (s : State) (c : Coll) (b k : Nat) : Option (List (Nat × List (Option Opnd) × Bool)) :=
  let q := 16 * (k % 4)
  let root := grpRoot s c.group
  if collOrder c = 1 then
    let ks := plannedInputs s c
    let n := enginesPerQuad s.fuses
    let mine := (List.range ks.length).filterMap (fun j => if j % n = b then (ks[j]?).map (fun x => some (Opnd.input x)) else none)
    if mine.isEmpty then some []
    else some [(0, mine ++ (if b ≥ 1 then [some (Opnd.sum (q + b - 1) 0)] else []), root && b + 1 == min ks.length n)]
  else if b ≠ 0 then some []
  else if collOrder c = 0 then
    let ks := plannedInputs s c
    let o := stripeOrder c ks k
    some [(0, (List.range ks.length).map (fun i => (o[i]?).map Opnd.input), root)]
  else if !fragsKnown s c then none
  else
    let ks := inputList s c
    let n := grpN s c.group
    let opnd := fun (x : Nat × Nat) => match ks.find? (fun y => fragOf n y == x) with
      | some y => some (Opnd.input y)
      | none => some (Opnd.sum q (nodeKey x))
    match ks with
    | [y] => some [(nodeKey (fragOf n y), [some (Opnd.input y)], root)]
    | _ => some ((canonNodes 20 (openFrags s c) 0 n 0).map (fun x =>
        let mid := x.1 + ceilDiv (x.2.1 - x.1) 2
        (nodeKey (x.1, x.2.2), [opnd (x.1, x.2.2 + 1), opnd (mid, x.2.2 + 1)], root && x.2.2 == 0)))

/-- The sums of a run, in order: (stripe, node, operands, final). -/
def runSums (s : State) (c : Coll) (e idx : Nat) : Option (List (Nat × Nat × List (Option Opnd) × Bool)) :=
  let ks := (List.range (stripes c)).filter (fun k => k % 4 == e / 16 && k / 4 % 4 == idx)
  ks.foldl (fun acc k => match acc, sumsFor s c (e % 16) k with
    | some l, some x => some (l ++ x.map (fun y => (k, y.1, y.2.1, y.2.2)))
    | _, _ => none) (some [])

/-- The lanes of an operand on stripe `k`, when they are there: present-block mask and values. -/
def opndLanes (c : Coll) (o : Opnd) (k : Nat) : Option (BitVec 8 × List (W32 × Fl)) :=
  let n := min 512 (dElem c.desc - 512 * k)
  match o with
  | .input x =>
    if !hasStripe c x k then none
    else
      let mask := if dOp c.desc = 9 then
          (List.range 8).foldl (fun m b => if (inputVal c x (512 * k + 64 * b)).isSome then m ||| BitVec.ofNat 8 (2 ^ b) else m) 0
        else 0xFF
      some (mask, (List.range n).map (fun j => (inputVal c x (512 * k + j)).getD (0, 0)))
  | .sum e node =>
    (c.sums.find? (fun v => v.engine == e && v.elem == 512 * k && v.node == node)).map (fun v => (v.mask, v.lanes.zip v.flags))

/-- The next record of a reduction run's IN0, with its stripe and node, if it is there (R259). POS of an operand in CANONICAL order,
for which R203 makes no input list, numbers the local members and then the UP messages by direction and lo, modulo 256.
(DESIGN CHOICE, notes/assumptions/80.md) -/
def nextRec (s : State) (c : Coll) (e idx : Nat) (r : Run) : Option (Rec × Nat × Nat) :=
  match runSums s c e idx with
  | none => none
  | some l => match l[r.sum]? with
    | none => none
    | some (k, node, ops, final) =>
      match ops[r.operand]? with
      | some (some o) =>
        (opndLanes c o k).map (fun x =>
          let pos := match o with
            | .input key => inputPos (localMembers s c.group) (if collOrder c = 2 then upKeys c else (kids s c.group).map (fun d => CKey.up d 0 0)) key
            | .sum _ _ => 0xFF
          let ends := r.operand + 1 == ops.length
          (⟨512 * k, min 512 (dElem c.desc - 512 * k), x.1, r.operand == 0, ends && r.sum + 1 == l.length, final, ends,
            !fmtFloat (dFmt c.desc), pos, x.2⟩, k, node))
      | _ => none

/-- What a use of an input stream meets: a record, nothing yet, or no source (STREAM). -/
inductive InRes where
  | got (x : Rec) (node : Nat) (c : Coll)
  | wait
  | stream
deriving DecidableEq, Repr

/-- Input stream `i` of a run. -/
def takeRec (s : State) (e i : Nat) (r : Run) : InRes :=
  match r.origin with
  | .reduction g q idx =>
    if i ≠ 0 || r.last then .stream
    else match findColl s g q with
      | none => .wait
      | some c => match nextRec s c e idx r with
        | none => .wait
        | some (x, _, node) => .got x node c
  | _ => .stream

/-- The run after it has taken record `x`. -/
def advance (r : Run) (x : Rec) (node : Nat) : Run :=
  { r with
    sum := if x.ends then r.sum + 1 else r.sum
    operand := if x.ends then 0 else r.operand + 1
    unans := if x.ends then r.unans ++ [(node, BitVec.ofNat 32 x.elem, x.lanes)] else r.unans
    last := r.last || x.last_ }

/-- A record sent to OUT `o` under `tag`: taken as the value of the oldest unanswered sum, or STREAM (R260). -/
def sendRec (e o : Nat) (tag : W64) (a : Acc) (r : Run) (s : State) : Option Run × State :=
  match r.origin, r.unans with
  | .reduction g q _, (node, elem, lanes) :: rest =>
    if o ≠ 0 ∨ bits tag.toNat 31 0 ≠ elem.toNat ∨ bits tag.toNat 40 32 + 1 ≠ lanes ∨ r.vl ≠ lanes then (none, s)
    else match findColl s g q with
      | none => (none, s)
      | some c =>
        let fl := a.flags.take r.vl
        (some { noteOut r fl with unans := rest },
          putColl { c with sums := c.sums ++ [⟨e, elem.toNat, node, a.lanes.take r.vl, fl, a.mask⟩] } s)
  | _, _ => (none, s)

/-! ## Loading and starting programs (R263 to R265) -/

/-- A run of program `p` is queued or runs on engine `e`. -/
def progInUse (s : State) (e p : Nat) : Bool :=
  (s.engine e).queue.any (fun q => q.pid == p) || (s.engine e).heldRuns.any (fun q => q.pid == p) || (s.engine e).runs.any (fun r => r.pid == p)

/-- The directory entry of `p`. -/
def progDir (s : State) (e p : Nat) : Nat := s.regN (jBase e + 0x100 + (p - 128) * 8)

/-- Rows 1 to 3 of Table 10.11 on a staged word. -/
def loadReason (s : State) (e p : Nat) (st : W64) : Nat :=
  let a := bits st.toNat 12 0
  let n := bits st.toNat 26 13
  if progInUse s e p then 1
  else if p < 128 ∨ n = 0 ∨ n > 8192 ∨ a + n > 8192 then 2
  else if (List.range 128).any (fun i => i + 128 != p && bit (progDir s e (i + 128)) 27 &&
      decide (bits (progDir s e (i + 128)) 12 0 < a + n) &&
      decide (a < bits (progDir s e (i + 128)) 12 0 + bits (progDir s e (i + 128)) 26 13)) then 3
  else 0

/-- A write of J_PCOMMIT as the engine performs it (R263): the management bus holds it while BUSY is 1 (R23). -/
def pcommit (e : Nat) (v : W64) (s : State) : State :=
  let p := bits v.toNat 7 0
  let st := jBase e + 0x1C
  if !present s e then s
  else if bit v.toNat 8 then
    if progInUse s e p then commitDone st 1 s
    else if !progValid s e p then commitDone st 5 s
    else commitDone st 0 (s.setRegN (jBase e + 0x100 + (p - 128) * 8) (setBits (progDir s e p) 27 27 0))
  else
    let w := s.reg (jBase e + 0x10)
    let why := loadReason s e p w
    if why ≠ 0 then commitDone st why s
    else (s.setRegN st 4).modEngine e (fun x => { x with loading := some (p, w) })

/-- PROGRAM_LOAD_END: row 4 of Table 10.11, and the entry VALID. -/
def programLoadEnd (e : Nat) (s : State) : State :=
  match (s.engine e).loading with
  | none => s
  | some (p, w) =>
    if !coreOn s || !present s e then s
    else
      let a := bits w.toNat 12 0
      let n := bits w.toNat 26 13
      let s := s.modEngine e (fun x => { x with loading := none })
      let (bad, s) := (List.range n).foldl (fun (x : Bool × State) i =>
        let (b, s) := pmemRead e (a + i) x.2
        (x.1 || b, s)) (false, s)
      let ws := (List.range n).map (fun i => (s.regN (jBase e + 0x10000 + (a + i) * 8)))
      let st := jBase e + 0x1C
      if bad || (crc32c (ws.flatMap (leBytes 8))).toNat != bits w.toNat 63 32 then commitDone st 4 s
      else commitDone st 0 (s.setRegN (jBase e + 0x100 + (p - 128) * 8) (setBits (bits w.toNat 26 0 + bits w.toNat 63 32 * 2 ^ 32) 27 27 1))

/-- A write of J_RUN_CTRL (R265, R334). -/
def runCtrl (e : Nat) (value : Nat) (s : State) : State :=
  if !present s e then s
  else
    let b := jBase e
    let s := s.setRegN (b + 0x20) (bits value 7 0 + bits value 9 9 * 2 ^ 9 + bits value 31 16 * 2 ^ 16)
    if !bit value 8 then s
    else
      let st := s.field (b + 0x24) 2 0
      if st = 1 ∨ st = 2 then s.setSticky (b + 0x24) 8
      else
        let s := s.setRegN (b + 0x28) 0xFFFFFFFF
        if (s.engine e).dis != .enabled then raise (jBlk e) 37 (runStatus e 4 0 11 0 s)
        else runStatus e 1 0 0 0 (enqueue e ⟨bits value 7 0, .register, (List.range 4).map (fun i => s.reg (b + 0x30 + 8 * i)), true, false⟩ s)

/-- RUN_DONE: every write of the halted register-started run has completed (R265). -/
def runDone (e : Nat) (s : State) : State :=
  if !coreOn s || !(s.engine e).doneWait then s
  else
    let s := (s.modEngine e (fun x => { x with doneWait := false })).setField (jBase e + 0x24) 2 0 3
    let m := s.field (jBase e + 0x20) 31 16
    if bit (s.regN (jBase e + 0x20)) 9 then msuAdd m 1 s else s

/-- RUN_WATCHDOG (R258). -/
def runWatchdog (e slot : Nat) (s : State) : State :=
  match findRun s e slot with
  | none => s
  | some r => if coreOn s && decide (128 ≤ r.pid) && s.field (jBase e) 19 0 != 0 then progExc e 8 r s else s

/-- Every run of an engine ends as R266 states: no exception, no milestone update. -/
def endRuns (e : Nat) (s : State) : State :=
  let n := (s.engine e).runs.length
  count (0x202 + 8 * e) n none none none (s.modEngine e (fun x => { x with queue := [], heldRuns := [], runs := [], doneWait := false }))

/-- The engine holds a register-started run, queued, running or completing. -/
def regRun (s : State) (e : Nat) : Bool := let st := s.field (jBase e + 0x24) 2 0; st == 1 || st == 2

/-- A write of J_EXC_CLR or TSC_EXC_CLR: what was counted in the cycle of the clear counts after it (R172). -/
def excClr (base value : Nat) (s : State) : State :=
  [0, 1, 2].foldl (fun s i => if bit value i then s.setRegN (base + 8 * i) (tabOr s.excNow (base + 8 * i) 0) else s) s

end Sys2Proof.Machine
end

