-- ==== Sys2Proof/Machine/StoreOps.lean ====
section
/-!
DEFINITION. Store commands: STORE_WRITE, STORE_READ, GATHER and GATHER_SUM (spec/11, R270 to R280), scrubbing (R285) and
the milestone updates they owe (R275, R277).
-/

namespace Sys2Proof.Machine

/-! ## Fields (Table 2.5) -/

/-- ADDR. -/
def scAddr (p : Packet) : Nat := p.at 32 40
/-- WFMT and MFMT. -/
def scW (p : Packet) : Nat := p.at 37 4
def scM (p : Packet) : Nat := p.f (8 * 37 + 4) 4
/-- ROWS, or ROW_BYTES. -/
def scRows (p : Packet) : Nat := p.at 38 16
/-- STRIDE, or LIST_CNT. -/
def scStride (p : Packet) : Nat := p.at 40 32
/-- ELEM_OFF, ELEM_CNT or LIST_OFF. -/
def scElem (p : Packet) : Nat := p.at 44 32
/-- MS, MSEN, NTFY and MSVAL. -/
def scMs (p : Packet) : Nat := p.at 48 16
def scMsen (p : Packet) : Bool := p.at 50 1 == 1
def scNtfy (p : Packet) : Bool := p.f (8 * 50 + 1) 1 == 1
def scMsval (p : Packet) : Nat := p.at 52 32

/-! ## Places of elements (R271) -/

/-- Runs of bytes that elements `e` to `e + n − 1` take: (address, bytes). `fuel` bounds the tile rows. -/
def tileSpans (fuel addr stride epr ms e n : Nat) : List (Nat × Nat) :=
  match fuel with
  | 0 => []
  | f + 1 =>
    if n = 0 then []
    else
      let k := min n (epr - e % epr)
      (addr + e / epr * stride + e % epr * ms, k * ms) :: tileSpans f addr stride epr ms (e + k) (n - k)

/-- The runs of a command's elements `e` to `e + n − 1`. -/
def spans (addr rows stride ms e n : Nat) : List (Nat × Nat) :=
  if rows = 0 then (if n = 0 then [] else [(addr + e * ms, n * ms)])
  else tileSpans (n + 1) addr stride (512 / ms) ms e n

/-- Bytes at a list of runs, by block `b`: the poisoned granules met, the bytes, and the state. -/
def readSpans (b : Blk) (sp : List (Nat × Nat)) (s : State) : List Nat × List Byte × State :=
  sp.foldl (fun (acc : List Nat × List Byte × State) r =>
    let (bad, bs, s) := storeRead b r.1 r.2 acc.2.2
    (acc.1 ++ bad, acc.2.1 ++ bs, s)) ([], [], s)

/-- Bytes written over a list of runs. -/
def writeSpans (sp : List (Nat × Nat)) (bs : List Byte) (s : State) : State :=
  (sp.foldl (fun (acc : List Byte × State) r => (acc.1.drop r.2, storeWrite r.1 (acc.1.take r.2) acc.2)) (bs, s)).2

/-! ## Table 11.3 -/

/-- Largest response payload. -/
def maxResp : Nat := 134215680

/-- Row of Table 11.3 that a STORE_WRITE or STORE_READ packet fails, 0 for none. -/
def rwRow (s : State) (p : Packet) : Nat :=
  let w := scW p
  let ms := fmtSize (scM p)
  let rd := p.typ == tStoreRead
  let e := if rd then 0 else scElem p
  let n := if rd then scElem p else p.paylen / fmtSize w
  let rows := scRows p
  if !fmtPair w (scM p) then 1
  else if scAddr p % 16 ≠ 0 ∨ (rows ≥ 2 ∧ (scStride p % 16 ≠ 0 ∨ scStride p < 512)) ∨
      (rows ≥ 1 ∧ n > 0 ∧ e + n > rows * (512 / ms)) ∨
      (rd = true ∧ (n < 1 ∨ n * fmtSize w % 16 ≠ 0 ∨ n * fmtSize w > maxResp)) then 2
  else if !(spans (scAddr p) rows (scStride p) ms e n).all (fun r => fabricVisible s r.1 r.2) then 3
  else 0

/-- Row that the header of a GATHER or GATHER_SUM packet fails. -/
def gatherRow (p : Packet) : Nat :=
  let w := scW p
  let m := scM p
  let rb := scRows p
  let size := rb / fmtSize m * fmtSize w
  let total := size * (if p.typ = tGather then scStride p else 1)
  if !(if p.typ = tGatherSum then (m == 1 || m == 2) && fmtFloat w else fmtPair w m) then 1
  else if rb < 16 ∨ rb % 16 ≠ 0 ∨ rb % fmtSize m ≠ 0 ∨ size % 16 ≠ 0 ∨ scStride p < 1 ∨ total > maxResp then 2
  else 0

/-- The list entries a packet carries, as (index, address), without padding (R278). -/
def listEntries (p : Packet) (cnt : Nat) : List (Nat × Nat) :=
  let es := (chunksOf 8 256 p.data).map leNat
  ((List.range es.length).map (fun j => (scElem p + j, es.getD j 0 % 2 ^ 40))).filter (fun e => decide (e.1 < cnt))

/-- A list's entries with those of one more packet. -/
def joinEntries (have_ : Tab Nat) (es : List (Nat × Nat)) : Tab Nat := es.foldl (fun t e => tabSet t e.1 e.2) have_

/-- Row that the entries of a packet fail, given those that have arrived, in a list of `cnt` that is `complete` with it or not (R278). -/
def entriesRow (s : State) (have_ : Tab Nat) (es : List (Nat × Nat)) (rb cnt : Nat) (complete : Bool) : Nat :=
  if es.any (fun e => (tabGet have_ e.1).isSome || e.2 % 16 != 0) || (complete && decide ((joinEntries have_ es).length < cnt)) then 2
  else if !es.all (fun e => fabricVisible s e.2 rb) then 3
  else 0

/-! ## Responses and milestone updates -/

/-- Status of a row (Table 11.3): FORMAT 3 or RANGE 2. -/
def rowStatus (row : Nat) : Nat := if row = 3 then 2 else 3

/-- The count and the fault of a command or STORE_WRITE packet that fails a row (R165, R272). -/
def rowFail (row n : Nat) (p : Packet) (s : State) : State :=
  let s := countPkt (0x0A7 + row) n p (s.countReg (if row = 3 then 0x6000118 else 0x6000120) 1)
  raise .tsc (if row = 1 then 20 else if row = 2 then 2 else 21) s

/-- Own fields of a STORE_READ_RESP (Table 2.6). -/
def respFields (req : W32) (status w off : Nat) : List (Nat × Nat × Nat) :=
  [(8 * 32, 32, req.toNat), (8 * 36, 8, status), (8 * 37, 4, w), (8 * 40, 32, off)]

/-- One STORE_READ_RESP that reports a status (R272, R276). -/
def sendStatus (req : Packet) (status off : Nat) (s : State) : State :=
  let (m, s) := newMsgId s
  originate (req.msgId % 4) (mkPacket tStoreReadResp req.tc req.src false m 0 1 []
    (respFields (BitVec.ofNat 32 req.msgId) status (scW req) off)) s

/-- A milestone update or bare notify that a store command owes (R275, R277, R291); none when it asks for neither. -/
def addRelease (port : Nat) (req : Packet) (stage : RelStage) (s : State) : State :=
  if scMsen req || scNtfy req then
    { s with releases := s.releases ++ [⟨BitVec.ofNat 32 req.src, BitVec.ofNat 32 req.msgId, stage, scMs req,
        BitVec.ofNat 32 (scMsval req), scMsen req, scNtfy req, req.tc, port⟩] }
  else s

/-- Elements of a packet of a response, at most 2,048 bytes of format `w`. -/
def perPacket (w : Nat) : Nat := 2048 / fmtSize w

/-- Elements converted from `a` to `b` as bytes, their flags counted (R172, R273, R276). -/
def tscConvert (a b : Nat) (convInf : Bool) (bs : List Byte) (s : State) : List Byte × State :=
  let r := (elemsOf a bs).map (fmtConv a b convInf)
  (elemBytes b (r.map Prod.fst), tscFlags (r.map Prod.snd) s)

/-! ## The commands -/

/-- The parts of `[a, a + n)` that lie in one store row each: (row, bytes). `fuel` bounds the rows. -/
def rowParts (fuel a n : Nat) : List (Nat × Nat) :=
  match fuel with
  | 0 => []
  | f + 1 => if n = 0 then [] else (a / 512, min n (512 - a % 512)) :: rowParts f (a + min n (512 - a % 512)) (n - min n (512 - a % 512))

/-- The payload for the runs `sp` crosses from quadrant `f` to the slices that hold their rows, `w` bytes of payload for each `m`
bytes of memory (R16, R19). -/
def crossRows (f w m : Nat) (sp : List (Nat × Nat)) (s : State) : State :=
  (sp.flatMap (fun r => rowParts (r.2 / 512 + 2) r.1 r.2)).foldl (fun s r => cross f (r.1 % 4) (ceilDiv (r.2 * w / m) 64) s) s

/-- STORE_WRITE (R273, R275): a packet of one, checked and written; a failing one still counts to its message. -/
def storeWriteIn (n : Nat) (p : Packet) (s : State) : State :=
  match msgArrive .tsc n p s with
  | (.dropped, s) => s
  | (.counted c first complete, s) =>
    let s := if first then countPkt 0x0A0 n p s else s
    let row := rwRow s p
    let sp := spans (scAddr p) (scRows p) (scStride p) (fmtSize (scM p)) (scElem p) (p.paylen / fmtSize (scW p))
    let s := if row ≠ 0 then rowFail row n p s
      else
        let (bs, s) := tscConvert (scW p) (scM p) c.convInf p.data s
        writeSpans sp bs (crossRows (quadOf n) (fmtSize (scW p)) (fmtSize (scM p)) sp s)
    let c := { c with bad := c.bad || row != 0 }
    if !complete then putMsg c s
    else if c.bad then s
    else addRelease c.port ⟨c.hdr, []⟩ .awaitEnd s

/-- The request of a response. -/
def Resp.req (r : Resp) : Packet := ⟨r.hdr, []⟩

/-- Elements of a listed row. -/
def rowElems (req : Packet) : Nat := scRows req / fmtSize (scM req)

/-- The next `k` elements of a response can be formed: those of a GATHER whose rows have been read, those of a GATHER_SUM when
every entry is summed; the last packet of either waits for the list to be complete (R278). -/
def respReady (r : Resp) (k : Nat) : Bool :=
  let re := max 1 (rowElems r.req)
  if r.req.typ = tStoreRead then true
  else if r.req.typ = tGather then
    (List.range ((r.sent + k - 1) / re + 1 - r.sent / re)).all (fun i => (tabGet r.rows (r.sent / re + i)).isSome) &&
      (r.listed || decide (r.sent + k < r.total))
  else r.listed && r.added == scStride r.req

/-- The payload of the next `k` elements of a response, and the quadrant it comes from; `none` when it meets poison (R276,
R279, R280). -/
def respPayload (r : Resp) (k : Nat) (s : State) : Option (Nat × List Byte) × State :=
  let w := scW r.req
  let m := scM r.req
  if r.req.typ = tGatherSum then
    let (pay, s) := tscConvert 0 w r.convInf (elemBytes 0 ((slice r.sum r.sent k).map BitVec.toNat)) s
    (some (r.req.msgId % 4, pay), s)
  else if r.req.typ = tGather then
    let re := max 1 (rowElems r.req)
    let es := (List.range k).map (fun i => (((tabOr r.rows ((r.sent + i) / re) []).getD ((r.sent + i) % re) 0).toNat))
    let (pay, s) := tscConvert m w r.convInf (elemBytes m es) s
    (some (tabOr r.entries (r.sent / re) 0 / 512 % 4, pay), s)
  else
    let sp := spans (scAddr r.req) (scRows r.req) (scStride r.req) (fmtSize m) r.sent k
    let (bad, bs, s) := readSpans .tsc sp s
    if bad.isEmpty then
      let (pay, s) := tscConvert m w r.convInf bs s
      (some ((sp.headD (0, 0)).1 / 512 % 4, pay), s)
    else (none, s)

/-- Packets of response `id` that have not left the switch (R118). -/
def windowUsed (s : State) (id : W32) : Nat :=
  let mine := fun (e : QPkt) => e.pkt.ssvc && e.pkt.src == ownSw s && e.pkt.msgId == id.toNat
  (allPorts.map (fun n => ((s.port n).egress.filter mine).length +
    (match (s.port n).txPartOf with | some e => b2n (mine e) | none => 0))).foldl (· + ·) 0

/-- Holding SRAM of a response's window of 16 packets (R118). -/
def windowBytes : Nat := 33792

/-- Bytes of a list of packets, by the flits they take. -/
def flitBytes (ps : List Packet) : Nat := ps.foldl (fun n p => n + 64 * p.flits) 0

/-- Bytes that packets received at port `n` hold beyond the allowance, on credits that buffers grant: they occupy the buffers' space
(R318). -/
def grantBytes (s : State) (n : Nat) : Nat :=
  (channels.map (fun c => 512 * min (granted s n c) (tabOr (s.port n).rxHeld c 0 - (s.port n).allow))).foldl (· + ·) 0

/-- Bytes of the packets that stand in the packet buffers of quadrant `q`: received there and not handled, waiting for their block, or
queued at an egress (R19, R318). -/
def heldBytes (s : State) (q : Nat) : Nat :=
  let here := fun (n : Nat) => quadOf n == q
  ((allPorts.filter here).map (fun n => flitBytes ((s.port n).rxq.map (·.pkt)) - grantBytes s n)).foldl (· + ·) 0 +
    flitBytes (((waitingPkts s).filter (fun e => here e.1)).map (·.2)) +
    flitBytes (allPorts.flatMap (fun n => ((s.port n).egress.filter (fun e => e.ing.any here)).map (·.pkt)))

/-- Responses of quadrant `q` in progress. -/
def windowsOpen (s : State) (q : Nat) : Nat :=
  (s.resps.filter (fun r => r.id.isSome && r.req.msgId % 4 == q)).length + (s.results.filter (fun r => r.begun && r.quad == q)).length

/-- Quadrant `q` has holding SRAM for the window of one more response, beside the packets it holds, the places kept for green
packets and the windows of the responses in progress (R118, R311). (DEDUCED, notes/assumptions/59.md) -/
def windowRoom (s : State) (q : Nat) : Bool :=
  decide (heldBytes s q + greenPlaces s q * 2112 + windowBytes * (windowsOpen s q + 1) ≤ bits (bpmCfg s (0x7000000 + 4 * q)) 5 0 * 2 ^ 20)

/-- A response may send: it has begun and fewer than 16 of its packets stand in the switch, or it can begin (R118). -/
def mayRespond (s : State) (r : Resp) : Bool :=
  match r.id with
  | some m => decide (windowUsed s m < 16)
  | none => windowRoom s (r.req.msgId % 4)

/-- Sends what a response can send, in ascending ELEM_OFF, while fewer than 16 of its packets stand in the switch (R118, R276 to
R280): what is left of it, none when it has ended, by its last packet or by poison. `fuel` bounds the packets. -/
def runResp (fuel : Nat) (r : Resp) (s : State) : Option Resp × State :=
  match fuel with
  | 0 => (some r, s)
  | f + 1 =>
    let req := r.req
    let per := perPacket (scW req)
    let k := min per (r.total - r.sent)
    if r.sent ≥ r.total then (none, addRelease r.port req .awaitHanded s)
    else if !respReady r k || !mayRespond s r then (some r, s)
    else match respPayload r k s with
      | (none, s) => (none, sendStatus req 1 r.sent s)
      | (some (quad, pay), s) =>
        let (m, s) := match r.id with | some m => (m, s) | none => newMsgId s
        let left := r.rows.filter (fun e => decide ((r.sent + k) / max 1 (rowElems req) ≤ e.1) || req.typ != tGather)
        runResp f { r with id := some m, sent := r.sent + k, rows := left } (originateFrom (req.msgId % 4) quad
          (mkPacket tStoreReadResp req.tc req.src false m (r.sent / per) (ceilDiv r.total per) pay
            (respFields (BitVec.ofNat 32 req.msgId) 0 (scW req) r.sent)) s)

/-- A bound of the packets a response has still to send. -/
def packetsLeft (r : Resp) : Nat := ceilDiv (r.total - r.sent) (perPacket (scW r.req)) + 1

/-- Entry `i` of a list, at `a`, is read, and of a GATHER_SUM widened (R278 to R280); `none` when it meets poison. -/
def readEntry (r : Resp) (i a : Nat) (s : State) : Option Resp × State :=
  let (bad, bs, s) := storeRead .tsc a (scRows r.req) s
  if !bad.isEmpty then (none, s)
  else
    let es := elemsOf (scM r.req) bs
    if r.req.typ = tGather then (some { r with rows := tabSet r.rows i (es.map (BitVec.ofNat 32)) }, s)
    else
      let wd := es.map (fmtWiden (scM r.req))
      (some { r with rows := tabSet r.rows i (wd.map Prod.fst) }, tscFlags (wd.map Prod.snd) s)

/-- The entries of a GATHER to be read now: those that have come, in ascending index, as far as its window reaches (R118, R278). -/
def entriesDue (s : State) (r : Resp) : List (Nat × Nat) :=
  let re := max 1 (rowElems r.req)
  let room := match r.id with
    | some m => 16 - windowUsed s m
    | none => if windowRoom s (r.req.msgId % 4) then 16 else 0
  r.entries.filter (fun e => decide (r.sent / re ≤ e.1) && decide (re * e.1 < r.sent + room * perPacket (scW r.req)) &&
    (tabGet r.rows e.1).isNone)

/-- A response goes on as far as it can: the entries of a GATHER are read one by one, and what can be sent after each is sent. -/
def goOn (r : Resp) (s : State) : Option Resp × State :=
  let due := if r.req.typ = tGather then entriesDue s r else []
  due.foldl (fun (acc : Option Resp × State) e =>
    match acc with
    | (none, s) => (none, s)
    | (some r, s) => match readEntry r e.1 e.2 s with
      | (none, s) => (none, sendStatus r.req 1 r.sent s)
      | (some r, s) => runResp (packetsLeft r) r s) (runResp (packetsLeft r) r s)

/-- A response that has ended takes no more of its list: later packets of a list that is not complete are counted and dropped (R278). -/
def stopList (src msgId : W32) (s : State) : State :=
  match findMsg s src msgId with
  | some c => putMsg { c with stopped := true } s
  | none => s

/-- A response goes on as far as it can and is kept if it has not ended. -/
def pushResp (r : Resp) (s : State) : State :=
  match goOn r s with
  | (none, s) => stopList (BitVec.ofNat 32 r.req.src) (BitVec.ofNat 32 r.req.msgId) s
  | (some r, s) => { s with resps := s.resps ++ [r] }

/-- What is left of a message in windows is sent as far as R118 lets it: it begins when its quadrant has room for a window, and fewer
than 16 of its packets stand in the switch. `fuel` bounds the packets. -/
def pushSending (fuel : Nat) (r : Sending) (s : State) : State :=
  match fuel, r.left with
  | _, [] => s
  | 0, _ => { s with results := s.results ++ [r] }
  | f + 1, p :: l =>
    if (if r.begun then decide (windowUsed s r.msgId < 16) else windowRoom s r.quad) then
      pushSending f { r with begun := true, left := l } (originateFrom r.quad r.quad p s)
    else { s with results := s.results ++ [r] }

/-- Every response goes on as far as packets that have left let it (R118). -/
def pumpResps (s : State) : State :=
  let s := s.resps.foldl (fun s r => pushResp r { s with resps := s.resps.erase r }) s
  s.results.foldl (fun s r => pushSending r.left.length r { s with results := s.results.erase r }) s

/-- The response of request (SRC, MSG_ID), if it has begun and not ended. -/
def findResp (s : State) (src msgId : W32) : Option Resp :=
  s.resps.find? (fun r => r.req.src == src.toNat && r.req.msgId == msgId.toNat)

/-- No response of request (SRC, MSG_ID) any more. -/
def dropResp (src msgId : W32) (s : State) : State :=
  { s with resps := s.resps.filter (fun r => !(r.req.src == src.toNat && r.req.msgId == msgId.toNat)) }

/-- A response at its beginning, of `n` elements. -/
def Resp.start (req : Packet) (port : Nat) (convInf : Bool) (n : Nat) : Resp :=
  ⟨req.hdr, port, convInf, none, n, 0, [], false, [], 0, []⟩

/-- STORE_READ (R276). -/
def storeReadIn (n : Nat) (p : Packet) (s : State) : State :=
  match msgArrive .tsc n p s with
  | (.dropped, s) => s
  | (.counted c _ _, s) =>
    let s := countPkt 0x0A1 n p s
    let row := rwRow s p
    if row ≠ 0 then sendStatus p (rowStatus row) 0 (rowFail row n p s)
    else pushResp (Resp.start p n c.convInf (scElem p)) s

/-- The rows read are added to the sum in ascending list index, as far as they have come (R280). `fuel` bounds them. -/
def addRows (fuel : Nat) (r : Resp) (s : State) : Resp × State :=
  match fuel with
  | 0 => (r, s)
  | f + 1 =>
    match tabGet r.rows r.added with
    | none => (r, s)
    | some row =>
      let r' := { r with rows := tabDel r.rows r.added, added := r.added + 1 }
      if r.added = 0 then addRows f { r' with sum := row } s
      else
        let z := (r.sum.zip row).map (fun x => fadd r.convInf x.1 x.2)
        addRows f { r' with sum := z.map Prod.fst } (tscFlags (z.map Prod.snd) s)

/-- The entries `es` join a response; those of a GATHER_SUM are read at once, those of a GATHER as it goes on (R118, R278). -/
def takeEntries (r : Resp) (es : List (Nat × Nat)) (s : State) : Option Resp × State :=
  let r := { r with entries := joinEntries r.entries es }
  if r.req.typ = tGather then (some r, s)
  else match es.foldl (fun (acc : Option Resp × State) e =>
      match acc with
      | (some r, s) => readEntry r e.1 e.2 s
      | (none, s) => (none, s)) (some r, s) with
    | (none, s) => (none, s)
    | (some r, s) => let (r, s) := addRows (es.length + r.rows.length) r s; (some r, s)

/-- A list packet of a response: its entries are checked and taken, and the response goes on (R278). Answers whether later packets
of the list are dropped. -/
def listPacket (r : Resp) (n : Nat) (p : Packet) (complete : Bool) (s : State) : Bool × State :=
  let es := listEntries p (scStride r.req)
  let row := gatherRow p
  let row := if row ≠ 0 then row else entriesRow s r.entries es (scRows r.req) (scStride r.req) complete
  let fail := fun (row : Nat) (s : State) => sendStatus r.req (rowStatus row) r.sent (rowFail row n p s)
  if row ≠ 0 then (true, fail row s)
  else match takeEntries r es s with
    | (none, s) => (true, sendStatus r.req 1 r.sent s)
    | (some r, s) => match goOn { r with listed := complete } s with
      | (none, s) => (true, s)
      | (some r, s) => (false, { s with resps := s.resps ++ [r] })

/-- GATHER and GATHER_SUM (R278 to R280): the list's packets go to the TSC slice of the request's home, are checked, and their rows
read as they come.
(DEDUCED, notes/assumptions/59.md) -/
def gatherIn (n : Nat) (p : Packet) (s : State) : State :=
  match msgArrive .tsc n p s with
  | (.dropped, s) => s
  | (.counted c first complete, s) =>
    let s := if first then countPkt (if p.typ = tGather then 0x0A2 else 0x0A3) n p s else s
    let req : Packet := ⟨c.hdr, []⟩
    if c.stopped then s
    else
      let r := (findResp s c.src c.msgId).getD
        (Resp.start req c.port c.convInf (rowElems req * (if req.typ = tGather then scStride req else 1)))
      let s := cross (quadOf n) (p.msgId % 4) (p.flits - 1) s
      let (stop, s) := listPacket r n p complete (dropResp c.src c.msgId s)
      if complete then s else putMsg { c with stopped := stop } s

/-! ## Moments of a command -/

/-- The release of command (SRC, MSG_ID) in stage `a` moves to `b`. -/
def moveRelease (src msgId : W32) (a b : RelStage) (s : State) : State :=
  { s with releases := s.releases.map (fun r =>
      if r.src == src && r.msgId == msgId && r.stage == a then { r with stage := b } else r) }

/-- STORE_WRITE_END: the update is issued (R275). -/
def storeWriteEnd (src msgId : W32) (s : State) : State := if coreOn s then moveRelease src msgId .awaitEnd .inFlight s else s

/-- READ_RESPONSE_HANDED: the update is issued (R277). -/
def readResponseHanded (src msgId : W32) (s : State) : State :=
  if coreOn s then moveRelease src msgId .awaitHanded .inFlight s else s

/-! ## Scrubbing and refresh (R283, R285) -/

/-- Errors strike memories other than the tensor store. (DESIGN CHOICE, notes/assumptions/68.md) -/
def struckBy (es : List (GMem × Flaw)) (s : State) : State :=
  es.foldl (fun s e => match e.1 with
    | .record k => { s with bpm := { s.bpm with flawed := tabSet s.bpm.flawed k (tabOr s.bpm.flawed k 0 ^^^ e.2) } }
    | .tile j row g => s.modEngine j (fun x => { x with tcache := x.tcache.map (fun l =>
        if l.row = row then { l with flaws := tabSet l.flaws g (tabOr l.flaws g 0 ^^^ e.2) } else l) })
    | _ => { s with gerr := s.gerr ++ [e] }) s

/-- The rows of `cnt` granules from `first` on come into use by the scrub's reads, which count as hits and misses like any
requester's (R281). -/
def scrubRows (first cnt : Nat) (s : State) : State :=
  if cnt = 0 then s
  else (List.range ((first + cnt - 1) / 32 + 1 - first / 32)).foldl (fun s i => rowRead .tsc [] (first / 32 + i) s) s

/-- SCRUB_STEP over `cnt` granules from `first`: corrected errors are written back, new uncorrectable ones poisoned; a
granule already poisoned is passed over. `found` are the errors in the granules (latent ones count as found); `struck` joins the
latent errors of the other memories, and one of a buffer's record waits to be read there (R320). The scrub is a requester of the
store and waits while a wipe runs (R286). -/
def scrubStep (first cnt : Nat) (found : List (Nat × Flaw)) (struck : List (GMem × Flaw)) (s : State) : State :=
  let s := struckBy struck s
  if !coreOn s || s.wiping || s.field 0x6000010 7 0 == 0 then s
  else
    let inside := fun g => decide (first ≤ g) && decide (g < first + cnt) && decide (16 * g < storeEnd)
    let s := { s with flaws := (found.filter (fun e => inside e.1)).foldl (fun t e =>
      if s.poison.contains e.1 then t else tabSet t e.1 e.2) s.flaws }
    let s := count 0x0AF cnt none none none s
    let s := (s.flaws.filter (fun e => inside e.1)).foldl (fun s e => flawRead .tsc e.1 e.2 s) s
    let s := scrubRows first (min cnt (storeEnd / 16 - first)) s
    let done := min (first + cnt) (storeEnd / 16)
    let pct := done * 100 / (storeEnd / 16)
    if pct = 100 then s.setRegN 0x6000014 (min (s.field 0x6000014 15 0 + 1) 0xFFFF)
    else s.setField 0x6000014 22 16 pct

/-- REFRESH of a channel: a stall, which changes timing only (R283). Channel `c` is channel c mod 16 of stack c / 16. -/
def refresh (c : Nat) (s : State) : State := if coreOn s then count (0x0D2 + 4 * (c / 16)) 1 none none none s else s

end Sys2Proof.Machine
end

