-- ==== Sys2Proof/Machine/ExpertOps.lean ====
section
/-!
DEFINITION. Expert dispatch and weighted combine (spec/09): table entries and their commits, the checks of Tables 9.4 and
9.6, dispatch at the source switch, batches at the batch switch, and combines.
-/

namespace Sys2Proof.Machine

/-! ## Expert table entries (Tables 9.1 and 9.11) -/

/-- Base of entry `t`. -/
def xBase (t : Nat) : Nat := 0x4060000 + t * 0x40

/-- STATE is ACTIVE. -/
def xActive (s : State) (t : Nat) : Bool := bit (s.regN (xBase t + 0x28)) 0
def xNexp (s : State) (t : Nat) : Nat := s.field (xBase t) 10 0
/-- DELIVER is PUSH. -/
def xPush (s : State) (t : Nat) : Bool := !bit (s.regN (xBase t)) 11
def xFmt (s : State) (t : Nat) : Nat := s.field (xBase t) 15 12
def xOfmt (s : State) (t : Nat) : Nat := s.field (xBase t) 19 16
def xKmax (s : State) (t : Nat) : Nat := s.field (xBase t) 23 20
def xElems (s : State) (t : Nat) : Nat := s.field (xBase t + 4) 16 0
def xSsw (s : State) (t : Nat) : Nat := s.field (xBase t + 4) 28 17
def xCap (s : State) (t : Nat) : Nat := s.field (xBase t + 8) 15 0
def xCtx (s : State) (t : Nat) : Nat := s.field (xBase t + 8) 31 16
def xList (s : State) (t : Nat) : Nat := s.field (xBase t + 0x10) 39 0
def xComb (s : State) (t : Nat) : Nat := s.field (xBase t + 0x18) 39 0
def xPorts (s : State) (t : Nat) : Nat := s.regN (xBase t + 0x20)
/-- HORIZON. -/
def xH (s : State) (t : Nat) : W32 := (s.reg (xBase t + 0x2C)).setWidth 32

/-- RS or OS: a row of `n` elements of `f`, up to the next multiple of 512 bytes (R223). -/
def rowSize (f n : Nat) : Nat := ceilDiv (n * fmtSize f) 512 * 512
def xRS (s : State) (t : Nat) : Nat := rowSize (xFmt s t) (xElems s t)
def xOS (s : State) (t : Nat) : Nat := rowSize (xOfmt s t) (xElems s t)
/-- DIR for a capacity. -/
def dirSize (cap : Nat) : Nat := ceilDiv (cap * 16) 512 * 512
/-- The batch size. -/
def xBatchSize (s : State) (t : Nat) : Nat := dirSize (xCap s t) + xCap s t * xRS s t
/-- Packets of a row in a format. -/
def rowPackets (f n : Nat) : Nat := ceilDiv (n * fmtSize f) 2048

/-- The owner of expert `e` (R224), as it stands in the store: a command that needs it reads it first (`ownersRead`). -/
def xOwner (s : State) (t e : Nat) : Nat := leNat (cellRead 0 s.mem (xList s t + 4 * e) 4)

/-- The owners of the experts `es` are read from the store: whether a granule of them is poisoned (R33, R281). -/
def ownersRead (t : Nat) (es : List Nat) (s : State) : Bool × State :=
  es.foldl (fun (acc : Bool × State) e =>
    let (bad, _, s) := storeRead .csq (xList acc.2 t + 4 * e) 4 acc.2
    (acc.1 || !bad.isEmpty, s)) (false, s)

/-- The CSQ reads the entry of table `t`: whether it is poisoned (R33). -/
def xRead (t : Nat) (s : State) : Bool × State := tableRead .csq (xBase t) 0x40 s

/-- The owner of expert `e` is on this switch. -/
def xLocal (s : State) (t e : Nat) : Bool := cwSw (xOwner s t e) == ownSw s

/-- Coordinates of the batch switches of the table, each once, as its commit read the list (R224, R225). -/
def batchSwitches (s : State) (t : Nat) : List Nat := tabOr s.xswitches t []

/-- This switch is a source switch, a batch switch of the table. -/
def isSource (s : State) (t : Nat) : Bool := xPorts s t != 0
def isBatch (s : State) (t : Nat) : Bool := (batchSwitches s t).contains (ownSw s)

/-! ## Commits (R225, Table 9.2) -/

/-- A step of the table is open here. -/
def stepOpen (s : State) (t : Nat) : Bool := s.xsteps.any (fun x => x.table == t)

/-- Row 2 (FIELD) on staged words A to F. With CTX = 0 the combine area is empty, and COMB_BASE must lie in the region all the same:
the spec does not say. (DESIGN CHOICE, notes/assumptions/76.md) -/
def tableField (s : State) (a b c d e f : Nat) : Bool :=
  let nexp := bits a 10 0
  let fmt := bits a 15 12
  let ofmt := bits a 19 16
  let kmax := bits a 23 20
  let n := bits b 16 0
  let ssw := bits b 28 17
  let cap := bits c 15 0
  let ctx := bits c 31 16
  let bad := fun x => decide (n * fmtSize x % 16 ≠ 0) || decide (n * fmtSize x > 65536)
  (nexp == 0 || decide (nexp > 1024)) || (kmax == 0 || decide (kmax > 8)) || (n == 0 || decide (n > 65536)) || cap == 0 ||
  (ssw == 0 || decide (ssw > 2048)) || !fmtFloat fmt || !fmtFloat ofmt || bad fmt || bad ofmt ||
  decide (dirSize cap + cap * rowSize fmt n > 16777216) ||
  (bitsSet 64 f).any (fun p => portRole s p != roleEndpoint) || (f != 0 && ctx == 0) ||
  d % 16 != 0 || e % 512 != 0 || !inRegion s d (4 * nexp) || !inRegion s e (ctx * kmax * rowSize ofmt n)

/-- Row 3 (LIST): the expert list is read; whether it fails, and its CWs. -/
def tableList (n addr : Nat) (s : State) : Bool × List Nat × State :=
  let (bad, bs, s) := storeRead .csq addr (4 * n) s
  let l := (chunksOf 4 n bs).map leNat
  (!bad.isEmpty || l.any (badCw s), l, s)

/-- The whole entry written at one edge: ACTIVE, H = 0. -/
def tablePut (t : Nat) (w : List W64) (s : State) : State :=
  let b := xBase t
  let s := wordsClean b 0x40 s
  let s := ([0, 4, 8, 0x10, 0x18, 0x20].zip w).foldl (fun s x => s.setReg (b + x.1) x.2) s
  { (s.setRegN (b + 0x28) 1).setRegN (b + 0x2C) 0 with xclosed := s.xclosed.filter (fun e => e.1 != t) }

/-- The entry FREE. -/
def tableClear (t : Nat) (s : State) : State :=
  let s := wordsClean (xBase t) 0x40 s
  { s with
    csr := s.csr.filter (fun e => !(decide (xBase t ≤ e.1) && decide (e.1 < xBase t + 0x40)))
    xclosed := s.xclosed.filter (fun e => e.1 != t)
    xswitches := tabDel s.xswitches t }

/-- CSQ_XSTAGE_A to _F. -/
def stagedTable (s : State) : List W64 := [0x4000080, 0x4000084, 0x4000088, 0x4000090, 0x4000098, 0x40000A0].map s.reg

/-- A write of CSQ_XCOMMIT as the CSQ performs it (R225): the management bus holds it while BUSY is 1 (R23). -/
def xcommit (v : W64) (s : State) : State :=
  let t := bits v.toNat 5 0
  let st := 0x40000AC
  let w := stagedTable s
  let f := fun i => (w.getD i 0).toNat
  if stepOpen s t then commitDone st 1 s
  else if bit v.toNat 6 then commitDone st 0 (tableClear t s)
  else if tableField s (f 0) (f 1) (f 2) (f 3) (f 4) (f 5) then commitDone st 2 s
  else { s.setRegN st 4 with tabCommit := some ⟨t, w⟩ }

/-- TABLE_COMMIT_END: the expert list has been read. A read of the store waits for the end of a wipe (R286). -/
def tableCommitEnd (s : State) : State :=
  match s.tabCommit with
  | none => s
  | some p =>
    if !coreOn s || s.wiping then s
    else
      let f := fun i => (p.words.getD i 0).toNat
      let (bad, cws, s) := tableList (bits (f 0) 10 0) (f 3) { s with tabCommit := none }
      if bad then commitDone 0x40000AC 3 s
      else commitDone 0x40000AC 0 (tablePut p.key p.words { s with
        xswitches := tabSet s.xswitches p.key (cws.foldl (fun l cw => setAdd l (cwSw cw)) []) })

/-! ## Fields (Table 2.8) -/

def xTable (p : Packet) : Nat := p.at 32 6
def xGwfmt (p : Packet) : Nat := p.f 262 1
def xPFmt (p : Packet) : Nat := p.at 33 4
/-- K, or RANK. -/
def xK (p : Packet) : Nat := p.f 268 4
def xOff (p : Packet) : Nat := p.at 34 16
def xCseq (p : Packet) : Nat := p.at 36 16
def xToken (p : Packet) : Nat := p.at 38 24
def xGwptr (p : Packet) : Nat := p.at 41 40
def xServe (p : Packet) : Nat := p.at 41 8
def xToksrc (p : Packet) : W32 := BitVec.ofNat 32 (p.at 41 32)

/-- TOKEN of a seal or notice. -/
def noToken : Nat := 0xFFFFFF

/-- Full number of the step a packet's 16-bit CSEQ names, by its distance from the horizon (DEDUCED, notes/assumptions/36.md). -/
def xDiff (s : State) (t : Nat) (p : Packet) : Nat := (xCseq p + 65536 - (xH s t).toNat % 65536) % 65536
def xStepNo (s : State) (t : Nat) (p : Packet) : W32 :=
  let d := xDiff s t p
  if d < 32768 then xH s t + BitVec.ofNat 32 d else xH s t - BitVec.ofNat 32 (65536 - d)

/-- The experts a DISPATCH names. -/
def xExperts (p : Packet) : List Nat := (List.range (min 8 (xK p))).map p.expert

/-! ## Steps and contexts -/

/-- The open step (t, cseq). -/
def findStep (s : State) (t : Nat) (cseq : W32) : Option XStep := s.xsteps.find? (fun x => x.table == t && x.cseq == cseq)

/-- The step replaced by its new value. -/
def putStep (x : XStep) (s : State) : State :=
  { s with xsteps := s.xsteps.map (fun y => if y.table == x.table && y.cseq == x.cseq then x else y) }

/-- The combine context of a token. -/
def findComb (s : State) (t : Nat) (cseq : W32) (token : Nat) : Option Comb :=
  s.combs.find? (fun c => c.table == t && c.cseq == cseq && c.token == token)

/-- Two contexts are the same. -/
def sameComb (c d : Comb) : Bool := d.table == c.table && d.cseq == c.cseq && d.token == c.token

/-- The context replaced by its new value. -/
def putComb (c : Comb) (s : State) : State := { s with combs := s.combs.map (fun d => if sameComb c d then c else d) }

/-- H moves on past every closed CSEQ. -/
def advanceXH (fuel t : Nat) (s : State) : State :=
  match fuel with
  | 0 => s
  | f + 1 =>
    if s.xclosed.contains (t, xH s t) then
      advanceXH f t { s.setReg (xBase t + 0x2C) ((xH s t + 1).setWidth 64) with
        xclosed := s.xclosed.filter (fun e => e != (t, xH s t)) }
    else s

/-- The step context closes, and its CSEQ counts as closed. -/
def closeStep (t : Nat) (cseq : W32) (s : State) : State :=
  advanceXH 16 t { s with
    xsteps := s.xsteps.filter (fun x => !(x.table == t && x.cseq == cseq))
    xclosed := setAdd s.xclosed (t, cseq) }

/-- The step closes when every role this switch plays in it is done (R240). -/
def finishStep (t : Nat) (cseq : W32) (s : State) : State :=
  match findStep s t cseq with
  | none => s
  | some x =>
    let source := !isSource s t || (x.sealsSent && s.combs.all (fun c => !(c.table == t && c.cseq == cseq)))
    if source && (!isBatch s t || x.closed) then
      closeStep t cseq (count 0x081 1 (some x.port) (some x.tc) (some t) s)
    else s

/-- Engine of context `c` of table `t` (R239). -/
def combEngine (s : State) (t c : Nat) : Nat := 16 * (t % 4) + c % enginesPerQuad s.fuses

/-- A run belongs to the combine context. -/
def ofComb (c : Comb) (o : RunOrigin) : Bool :=
  match o with
  | .combine t q k => t == c.table && q == c.cseq && k == c.token
  | _ => false

/-- The combine context is gone, and its run ends. -/
def dropComb (c : Comb) (s : State) : State :=
  let s := endRunsOf (ofComb c) s
  { s with combs := s.combs.filter (fun d => !sameComb c d) }

/-- The combine context closes, and the step closes when this was the last. -/
def closeComb (c : Comb) (s : State) : State := finishStep c.table c.cseq (dropComb c s)

/-- The step is abandoned: it closes with its combine contexts, and nothing more of it is sent (R241). -/
def abandonStep (t : Nat) (cseq : W32) (s : State) : State :=
  closeStep t cseq ((s.combs.filter (fun c => c.table == t && c.cseq == cseq)).foldl (fun s c => dropComb c s) s)

/-- `f` of the open step (t, cseq), whose context the CSQ reads first: a poisoned one abandons the step (R33).
(DESIGN CHOICE, notes/assumptions/68.md) -/
def withStep (t : Nat) (cseq : W32) (f : XStep → State → State) (s : State) : State :=
  match findStep s t cseq with
  | none => s
  | some x =>
    match recordRead .csq (.step t cseq) (fun y => { y with table := x.table, cseq := x.cseq }) putStep x s with
    | (true, _, s) => abandonStep t cseq s
    | (false, x, s) => f x s

/-- `f` of the combine context of a token, which the CSQ reads first: a poisoned one closes (R33).
(DESIGN CHOICE, notes/assumptions/68.md) -/
def withComb (t : Nat) (cseq : W32) (token : Nat) (f : Comb → State → State) (s : State) : State :=
  match findComb s t cseq token with
  | none => s
  | some c =>
    match recordRead .csq (.combine t cseq token) (fun d => { d with table := c.table, cseq := c.cseq, token := c.token }) putComb c s with
    | (true, c, s) => closeComb c s
    | (false, c, s) => f c s

/-! ## Packets of a step -/

/-- Own fields of COMBINE_RESULT. -/
def resultFields (s : State) (t : Nat) (cseq : W32) (token off used ovr : Nat) (fl : Fl) (first : Nat) : List (Nat × Nat × Nat) :=
  [(256, 6, t), (264, 4, xFmt s t), (272, 16, off), (288, 16, cseq.toNat), (304, 24, token), (328, 4, used), (336, 8, ovr),
    (344, 3, fl.toNat), (352, 16, first)]

/-- An empty COMBINE_RESULT (R334). -/
def emptyResult (t : Nat) (cseq : W32) (token : Nat) (toksrc : W32) (tc port : Nat) (s : State) : State :=
  let (m, s) := newMsgId s
  let s := count 0x089 1 (some port) (some tc) (some t) s
  originate (t % 4) (mkPacket tCombineResult tc toksrc.toNat false m 0 1 [] (resultFields s t cseq token 0 0 0 0 0xFFFF)) s

/-- A seal or notice of a table (Table 9.3). -/
def sealPacket (s : State) (x : XStep) (dst : Nat) (dsvc : Bool) (m : W32) (expert addr : Nat) (pay : List Byte) : Packet :=
  mkPacket tDispatch x.tc dst dsvc m 0 1 (pad16 pay)
    [(256, 6, x.table), (264, 4, xFmt s x.table), (268, 4, 1), (288, 16, x.cseq.toNat), (304, 24, noToken), (328, 40, addr),
      (368, 10, expert)]

/-- A packet the switch passes on from the quadrant at which it came in, its header rewritten and its payload in quadrant `mq`
(R226, R419): it goes to a port here, or to another switch. Reserved header bits of a DISPATCH with MU = 0 in bytes 0, 2 and 16 to 19
pass as they came, and bits [31:24] of SRC leave as zero (R61). (DESIGN CHOICE, notes/assumptions/71.md) -/
def passOn (quad mq : Nat) (p : Packet) (s : State) : State := sendOn quad mq s.now p.seal s

/-! ## Table 9.6 (R238) -/

/-- What becomes of an EXPERT_OUT: its fault, or discarded and counted, or accepted for its context and rank. -/
inductive OutCheck where
  | fault (code : Nat)
  | discard
  | ok (c : Comb)
deriving DecidableEq, Repr

/-- Table 9.6. -/
def outCheck (s : State) (p : Packet) : OutCheck :=
  let t := xTable p
  let q := xStepNo s t p
  let r := xK p
  if !xActive s t then .fault 29
  else if xDiff s t p ≥ 32768 ∨ s.xclosed.contains (t, q) then .discard
  else match findComb s t q (xToken p) with
    | none => .discard
    | some c =>
      let e := c.experts.getD r 0
      let own := xOwner s t e
      if c.toksrc ≠ xToksrc p then .discard
      else if r ≥ c.experts.length ∨ p.expert 0 ≠ e ∨ (if p.ssvc then cwSw p.src ≠ cwSw own else p.src ≠ own) ∨
          xPFmt p ≠ xOfmt s t ∨ p.cnt ≠ (if p.ssvc then 1 else rowPackets (xOfmt s t) (xElems s t)) then .fault 30
      else match c.ranks.getD r .open with
        | .skipped => .discard
        | .open => .ok c
        | _ => .fault 30

/-- Rank `r` of a context resolved. -/
def setRank (r : Nat) (v : RankSt) (c : Comb) : Comb := { c with ranks := c.ranks.set r v }

/-- The part of an output packet inside its row, written to the context's staging (R238). -/
def stageOut (n : Nat) (c : Comb) (p : Packet) (s : State) : State :=
  let t := c.table
  let sz := fmtSize (xOfmt s t)
  let a := xComb s t + (c.ctx * xKmax s t + xK p) * xOS s t + xOff p * sz
  let bs := p.data.take ((xElems s t - xOff p) * sz)
  storeWrite a bs (crossRows (quadOf n) 1 1 [(a, bs.length)] s)

/-- An EXPERT_OUT at the combine home. One whose table entry, or whose expert's owner, is poisoned is dropped (R33). Drops by rows 1, 3
and 5 of Table 9.6 are no discards, and Table 17.1 names no source for them. (DESIGN CHOICE, notes/assumptions/14.md) -/
def expertOutIn (n : Nat) (p : Packet) (s : State) : State :=
  let (bad, s) := xRead (xTable p) s
  let (bad', s) := if xActive s (xTable p) && p.expert 0 < xNexp s (xTable p) then ownersRead (xTable p) [p.expert 0] s else (false, s)
  if bad || bad' then count 0x08A 1 (some n) (some p.tc) (some (xTable p)) s
  else
    let s := withComb (xTable p) (xStepNo s (xTable p) p) (xToken p) (fun _ s => s) s
    match outCheck s p with
  | .fault f => raise .csq f s
  | .discard => count 0x08A 1 (some n) (some p.tc) (some (xTable p)) (s.countReg 0x40000C0 1)
  | .ok c =>
    match msgArrive .csq n p s with
    | (.dropped, s) => s
    | (.counted _ _ complete, s) =>
      if p.ssvc then putComb (setRank (xK p) .overcap c) s
      else
        let s := stageOut n c p s
        if complete then putComb (setRank (xK p) .done c) s else s

/-! ## Batches (R233 to R237) -/

/-- The port unit by which a row came in, and its TC (R384). -/
def rowPort (x : XStep) (row : Row) : Nat := ((row.pkts.head?).map (·.1)).getD x.port
def rowTc (x : XStep) (row : Row) : Nat := ((row.pkts.head?).map (·.2.tc)).getD x.tc

/-- A refused row is returned OVERCAP to its token's combine home (R235). A notice whose combine home is this switch takes a
MSG_ID and no SEQ, and is handled at once. (DESIGN CHOICE, notes/assumptions/71.md) -/
def refuseRow (x : XStep) (e : Nat) (row : Row) (s : State) : State :=
  let tc := rowTc x row
  let (m, s) := newMsgId s
  let s := count 0x086 1 (some (rowPort x row)) (some tc) (some x.table) (s.countReg 0x40000B0 1)
  let home := cwSw row.toksrc.toNat
  let p := mkPacket tExpertOut tc home true m 0 1 []
    [(256, 6, x.table), (264, 4, xOfmt s x.table), (268, 4, row.rank), (288, 16, x.cseq.toNat), (304, 24, row.token),
      (328, 32, row.toksrc.toNat), (368, 10, e)]
  if home = ownSw s then expertOutIn (rowPort x row) (p.set 64 32 (ownSw s)) s else originate (x.table % 4) p s

/-- Batch of expert `e` in a step. -/
def findBatch (x : XStep) (e : Nat) : Option Batch := x.batches.find? (fun b => b.expert == e)

/-- The batch put in the step. -/
def putBatch (b : Batch) (x : XStep) : XStep :=
  { x with batches := x.batches.filter (fun y => y.expert != b.expert) ++ [b] }

/-- Store address of slot `i`. -/
def slotAddr (s : State) (t : Nat) (b : Batch) (i : Nat) : Nat := b.addr + dirSize (xCap s t) + i * xRS s t

/-- The row written to its slot. -/
def writeRow (t : Nat) (b : Batch) (row : Row) (s : State) : State :=
  row.pkts.foldl (fun s e =>
    let a := slotAddr s t b row.slot + xOff e.2 * fmtSize (xFmt s t)
    storeWrite a e.2.data (crossRows (quadOf e.1) 1 1 [(a, e.2.data.length)] s)) s

/-- A packet of a pushed row, which came in by port `n`: its payload is read from the batch, and one with a poisoned granule is not
sent (R33, R237, R297, R419, Table 9.3). -/
def pushPacket (t : Nat) (b : Batch) (row : Row) (n : Nat) (p : Packet) (s : State) : State :=
  let a := slotAddr s t b row.slot + xOff p * fmtSize (xFmt s t)
  let (bad, bs, s) := storeRead .csq a p.data.length s
  let q := ((((p.set 32 32 b.owner).set 156 1 0).set 268 4 1).set 328 40 (slotAddr s t b row.slot)).set 368 80
    (b.expert + row.rank * 2 ^ 10)
  if bad.isEmpty then passOn (quadOf n) (a / 512 % 4) { q with pay := bs } s else s

/-- The row sent to its owner (R237). -/
def pushRow (t : Nat) (b : Batch) (row : Row) (s : State) : State := row.pkts.foldl (fun s e => pushPacket t b row e.1 e.2 s) s

/-- (TOKEN, TOKSRC) ascending (R234). -/
def rowLe (a b : Row) : Bool := decide (a.token < b.token ∨ (a.token = b.token ∧ a.toksrc.toNat ≤ b.toksrc.toNat))

/-- Admission of a row to a batch whose buffer is there (R234). -/
def putRow (x : XStep) (b : Batch) (row : Row) (s : State) : Batch × State :=
  let t := x.table
  if b.rows.length < xCap s t then
    let row := { row with slot := b.rows.length }
    let s := writeRow t b row s
    let s := if x.strict then s else
      let s := count 0x085 1 (some (rowPort x row)) (some (rowTc x row)) (some t) s
      if xPush s t then pushRow t b row s else s
    ({ b with rows := b.rows ++ [row] }, s)
  else if !x.strict then (b, refuseRow x b.expert row s)
  else match (b.rows.mergeSort rowLe).getLast? with
    | some top =>
      if rowLe top row then (b, refuseRow x b.expert row s)
      else
        let row := { row with slot := top.slot }
        ({ b with rows := b.rows.filter (fun y => y.slot != top.slot) ++ [row] },
          refuseRow x b.expert top (writeRow t b row s))
    | none => (b, refuseRow x b.expert row s)

/-- A row for expert `e` at its batch switch. The first asks for the batch's buffer; rows wait for the answer (R233). -/
def rowIn (t : Nat) (cseq : W32) (e : Nat) (row : Row) (s : State) : State :=
  match findStep s t cseq with
  | none => s
  | some x =>
    match findBatch x e with
    | none => putStep (putBatch ⟨e, false, false, 0, 0, 0, [], [row]⟩ x) s
    | some b =>
      if !b.given then putStep (putBatch { b with waiting := b.waiting ++ [row] } x) s
      else if b.failed then refuseRow x e row s
      else
        let (b, s) := putRow x b row s
        putStep (putBatch b x) s

/-- The waiting rows of a batch taken in, in order. -/
def putRows (x : XStep) (b : Batch) (rows : List Row) (s : State) : Batch × State :=
  rows.foldl (fun acc r => putRow x acc.1 r acc.2) (b, s)

/-- BATCH_ALLOC: the BPM answers the request (R233, R316, R317), for which the CSQ has read the owner; a poisoned entry of the expert
list abandons the step (R33). (DEDUCED, notes/assumptions/17.md) -/
def batchAlloc (t : Nat) (cseq : W32) (e : Nat) (s : State) : State :=
  if !coreOn s || s.wiping then s
  else withStep t cseq (fun x s =>
    match findBatch x e with
    | none => s
    | some b =>
      if b.given then s
      else match ownersRead t [e] s with
      | (true, s) => abandonStep t cseq s
      | (false, s) =>
        let k := (poolFor true (xBatchSize s t)).getD 7
        let own := xOwner s t e
        let n := ((b.waiting.head?).map (rowPort x)).getD x.port
        let tc := ((b.waiting.head?).map (rowTc x)).getD x.tc
        match freeIndex s k 0 with
        | none =>
          let s := count 0x0C7 1 (some n) (some tc) none (s.countReg 0x7000108 1)
          let s := count 0x08B 1 (some n) (some tc) (some t) (s.countReg 0x40000B8 1)
          let s := raiseIf x.strict .csq 33 s
          b.waiting.foldl (fun s r => refuseRow x e r s)
            (putStep (putBatch { b with given := true, failed := true, owner := own, waiting := [] } x) s)
        | some i =>
          let cw := BitVec.ofNat 32 own
          let (buf, s) := takeBuf k 0 i [cw] cw none (count 0x0C6 1 (some n) (some tc) none (s.countReg 0x7000100 1))
          let b' := { b with given := true, owner := own, handle := handleOf buf, addr := bufAddr s buf, waiting := [] }
          let (b', s) := putRows x b' b.waiting s
          putStep (putBatch b' x) s) s

/-- The rows of a complete row message for the ranks `ranks`, each to its expert's batch. -/
def rowsIn (t : Nat) (cseq : W32) (pkts : List (Nat × Packet)) (ranks : List Nat) (s : State) : State :=
  match pkts with
  | [] => s
  | (_, p) :: _ => ranks.foldl (fun s r => rowIn t cseq (p.expert r) ⟨xToken p, BitVec.ofNat 32 p.src, r, 0, pkts⟩ s) s

/-- Directory of a batch, in its order (Table 9.5, R234). -/
def dirRows (x : XStep) (b : Batch) : List Row := if x.strict then b.rows.mergeSort rowLe else b.rows

/-- A directory entry. -/
def dirEntry (r : Row) : List Byte :=
  leBytes 3 r.token ++ leBytes 1 r.rank ++ leBytes 4 r.toksrc.toNat ++ leBytes 2 r.slot ++ leBytes 6 0

/-- R236's conditions, with every batch allocation answered. -/
def closable (s : State) (x : XStep) : Bool :=
  let t := x.table
  isBatch s t && !x.closed && (!isSource s t || x.sealsSent) &&
  x.seals.length + b2n (isSource s t) == xSsw s t && x.copiesIn == (x.seals.map Prod.snd).foldl (· + ·) 0 &&
  x.batches.all (·.given)

/-- Directory and batch notice of expert `e`. -/
def closeExpert (x : XStep) (e : Nat) (s : State) : State :=
  let t := x.table
  let b := (findBatch x e).getD ⟨e, true, false, 0, 0, 0, [], []⟩
  let s := if b.rows.isEmpty then s else storeWrite b.addr ((dirRows x b).flatMap dirEntry) s
  let s := if x.strict then b.rows.foldl (fun s r => count 0x085 1 (some (rowPort x r)) (some (rowTc x r)) (some t) s) s else s
  let (m, s) := newMsgId s
  originate (t % 4) (sealPacket s x (xOwner s t e) false m e b.addr
    (leBytes 4 b.rows.length ++ leBytes 4 (xCap s t) ++ leBytes 4 b.handle.toNat)) s

/-- DISPATCH_CLOSE (R236, R237). A poisoned owner's entry abandons the step (R33). (DEDUCED, notes/assumptions/17.md) -/
def dispatchClose (t : Nat) (cseq : W32) (s : State) : State :=
  if !coreOn s || s.wiping then s
  else withStep t cseq (fun x s =>
    if !closable s x then s
    else match ownersRead t (List.range (xNexp s t)) s with
    | (true, s) => abandonStep t cseq s
    | (false, s) =>
      let es := (List.range (xNexp s t)).filter (xLocal s t)
      let s := es.foldl (fun s e => closeExpert x e s) s
      let s := if x.strict && xPush s t then
          es.foldl (fun s e => match findBatch x e with
            | some b => (dirRows x b).foldl (fun s r => pushRow t b r s) s
            | none => s) s
        else s
      finishStep t cseq (putStep { x with closed := true } s)) s

/-! ## Dispatch at the source switch (R229 to R232) -/

/-- Row 2 of Table 9.4: the packet is one of the DSVC = 1 kinds of Table 9.3, with CV = 0 (R226). Of a rank that SERVE names, with
EXPERT at or above NEXP, the owner is what stands past the expert list, so that row 6 may be the row that drops the copy.
(DESIGN CHOICE, notes/assumptions/80.md) -/
def kindOk9 (s : State) (n : Nat) (p : Packet) : Bool :=
  let t := xTable p
  let one := p.cnt == 1 && p.paylen == 16 && xK p == 1 && p.f 368 80 == 0 && p.at 41 40 == 0
  let rest := (List.range 8).all (fun i => decide (i < xK p) || p.expert i == 0)
  if p.cv then false
  else if isEndpoint s n then
    !p.ssvc && p.src == ownSw s + n * 2 ^ 18 && bit (xPorts s t) n && (if xToken p = noToken then one else rest)
  else if p.ssvc then xToken p == noToken && one && isBatch s t
  else
    xToken p != noToken && rest && p.at 42 32 == 0 && xServe p != 0 &&
      (bitsSet 8 (xServe p)).all (fun r => decide (r < xK p) && xLocal s t (p.expert r))

/-- Row 6 of Table 9.4. -/
def row6 (s : State) (p : Packet) : Bool :=
  let t := xTable p
  let k := xK p
  let es := xExperts p
  let sz := fmtSize (xFmt s t)
  xPFmt p == xFmt s t && decide (1 ≤ k) && decide (k ≤ xKmax s t) && es.eraseDups.length == es.length &&
  es.all (fun e => decide (e < xNexp s t)) &&
  (xToken p == noToken || (p.cnt == rowPackets (xFmt s t) (xElems s t) && xOff p * sz % 2048 == 0 &&
    decide (xOff p + p.paylen / sz ≤ xElems s t)))

/-- A gate weight is +0 or −0 (R230). -/
def zeroWeight (gwfmt : Nat) (w : W32) : Bool := if gwfmt = 0 then w.toNat % 2 ^ 15 == 0 else w.toNat % 2 ^ 31 == 0

/-- The dispatched ranks of a context whose weights are known: those that are not skipped (R230, R231). -/
def dispatched (c : Comb) : List Nat :=
  (List.range c.experts.length).filter (fun r => !zeroWeight c.gwfmt (c.weights.getD r 0))

/-- The switch of the owner of rank `r` of a context. -/
def rankSwitch (c : Comb) (r : Nat) : Nat := cwSw (c.owners.getD r 0)

/-- The batch switches that get a copy of the token's row (R231). -/
def copyDsts (s : State) (c : Comb) : List Nat :=
  ((dispatched c).foldl (fun l r => setAdd l (rankSwitch c r)) []).filter (· != ownSw s)

/-- Packets of the row sent to each batch switch that owns a dispatched rank, as switch copies, each from the quadrant at which it
came in (R231, R419). -/
def sendCopies (c : Comb) (pkts : List (Nat × Packet)) (s : State) : State :=
  let dsts := copyDsts s c
  pkts.foldl (fun s e => dsts.foldl (fun s w =>
    let serve := ((dispatched c).filter (fun r => rankSwitch c r == w)).foldl (fun m r => m + 2 ^ r) 0
    passOn (quadOf e.1) (quadOf e.1) ((e.2.set 32 32 w).set 328 40 serve) s) s) s

/-- The ranks this switch serves itself, once the row is whole and the weights are known (R231). -/
def serveLocal (c : Comb) (s : State) : State :=
  if c.known && c.complete then
    rowsIn c.table c.cseq c.pkts ((dispatched c).filter (fun r => rankSwitch c r == ownSw s)) s
  else s

/-- A rank once its weight is known: one that has been resolved stays so (R238). -/
def rankKnown (gwfmt : Nat) (st : RankSt) (w : W32) : RankSt := if zeroWeight gwfmt w then .skipped else st

/-- GATE_WEIGHTS_RETURN: zero weights skip their rank; the row goes to the batch switches (R230, R231). A poisoned granule, in the
weights or in an owner's entry, and weights at addresses that do not exist (R268), close the context, and no copy and no result follows.
(DEDUCED, notes/assumptions/38.md) -/
def gateWeights (t : Nat) (cseq : W32) (token : Nat) (s : State) : State :=
  if !coreOn s || s.wiping then s
  else withComb t cseq token (fun c s =>
    if c.known then s
    else
      let sz := if c.gwfmt = 0 then 2 else 4
      let n := c.experts.length * sz
      if c.gwptr + n > storeEnd then closeComb c s
      else
        let (bad, bs, s) := storeRead .csq c.gwptr n s
        let (bad', s) := ownersRead t c.experts s
        if !bad.isEmpty || bad' then closeComb c s
        else
          let ws := ((chunksOf sz 8 bs).map leNat).map (BitVec.ofNat 32)
          let skipped := (ws.filter (zeroWeight c.gwfmt)).length
          let s := count 0x087 skipped (some c.port) (some c.tc) (some t) s
          let c := { c with owners := c.experts.map (xOwner s t), weights := ws, ranks := (c.ranks.zip ws).map (fun x => rankKnown c.gwfmt x.1 x.2), known := true }
          let dsts := copyDsts s c
          let s := count 0x083 dsts.length (some c.port) (some c.tc) (some t) s
          let s := match findStep s t cseq with
            | some x => putStep { x with copies := dsts.foldl (fun m w => tabAdd m w 1) x.copies } s
            | none => s
          serveLocal c (sendCopies c c.pkts (putComb c s))) s

/-- Lowest free combine context of a table. -/
def freeCtx (s : State) (t : Nat) : Option Nat :=
  let used := (s.combs.filter (fun c => c.table == t)).map (·.ctx)
  ((List.range (used.length + 1)).find? (fun i => !used.contains i)).filter (fun i => decide (i < xCtx s t))

/-- The packet that opens a token dispatch opens its combine context, unless the engine of the combine refuses it (R334). -/
def openComb (n : Nat) (p : Packet) (x : XStep) (ctx : Nat) (s : State) : State :=
  let t := x.table
  let s := count 0x082 1 (some n) (some p.tc) (some t) s
  let src := BitVec.ofNat 32 p.src
  if (s.engine (combEngine s t ctx)).dis != .enabled then
    emptyResult t x.cseq (xToken p) src p.tc n (raise (jBlk (combEngine s t ctx)) 37 s)
  else
    let k := xK p
    granuleClean (.combine t x.cseq (xToken p)) { s with combs := s.combs ++ [⟨t, x.cseq, xToken p, src, BitVec.ofNat 32 p.msgId, ctx, n,
      p.tc, x.convInf, x.strict, xExperts p, xGwptr p, xGwfmt p, [], [], false, List.replicate k .open, [], false, false⟩] }

/-- A token dispatch packet of the row joins its context, and is copied on when the weights are known. -/
def tokenPacket (n : Nat) (p : Packet) (x : XStep) (complete : Bool) (s : State) : State :=
  let s := withComb x.table x.cseq (xToken p) (fun c s =>
    if c.toksrc.toNat = p.src ∧ c.msgId.toNat = p.msgId then
      let c := { c with pkts := c.pkts ++ [(n, p)], complete := complete }
      let s := putComb c s
      serveLocal c (if c.known then sendCopies c [(n, p)] s else s)
    else s) s
  if complete then
    match findStep s x.table x.cseq with
    | some x => putStep { x with tokens := tabAdd x.tokens n 1 } s
    | none => s
  else s

/-- Rows 7 and 8 of Table 9.4, message accounting, and the context of a token dispatch. (DEDUCED, notes/assumptions/37.md) -/
def tokenIn (n : Nat) (p : Packet) (x : XStep) (s : State) : State :=
  let t := x.table
  let known := (findMsg s (BitVec.ofNat 32 p.src) (BitVec.ofNat 32 p.msgId)).isSome
  if !known && (findComb s t x.cseq (xToken p)).isSome then
    raise .csq 30 (count 0x08E 1 (some n) (some p.tc) (some t) s)
  else match known, freeCtx s t with
    | false, none => raise .csq 32 (count 0x091 1 (some n) (some p.tc) (some t) s)
    | _, ctx =>
      match msgArrive .csq n p s with
      | (.dropped, s) => s
      | (.counted _ first complete, s) =>
        tokenPacket n p x complete (if first then openComb n p x (ctx.getD 0) s else s)

/-- A switch copy: its message accounted, and its rows admitted when it is whole (R231, R234). -/
def copyIn (n : Nat) (p : Packet) (x : XStep) (s : State) : State :=
  match msgArrive .csq n p s with
  | (.dropped, s) => s
  | (.counted c _ complete, s) =>
    let c := { c with pkts := c.pkts ++ [(n, p)] }
    if !complete then putMsg c s
    else
      let s := count 0x084 1 (some n) (some p.tc) (some x.table) (putStep { x with copiesIn := x.copiesIn + 1 } s)
      rowsIn x.table x.cseq c.pkts (bitsSet 8 (xServe p)) s

/-- A source seal or a switch seal (R232). -/
def sealIn (n : Nat) (p : Packet) (x : XStep) (s : State) : State :=
  match msgArrive .csq n p s with
  | (.dropped, s) => s
  | (.counted _ _ _, s) =>
    let v := leNat (p.data.take 4)
    putStep (if isEndpoint s n then { x with sealed := tabSet x.sealed n v } else { x with seals := tabSet x.seals (cwSw p.src) v }) s

/-- A step that would open on a slice that does not take new work: nothing opens, and the packet is dropped and counted; a token
dispatch is answered once (R334). (DEDUCED, notes/assumptions/37.md) -/
def refuseStep (n : Nat) (p : Packet) (t : Nat) (cseq : W32) (s : State) : State :=
  let s := raise .csq 37 { s with stepDrops := s.stepDrops + 1 }
  if isEndpoint s n && xToken p != noToken then
    match msgArrive .csq n p s with
    | (.counted _ true _, s) => emptyResult t cseq (xToken p) (BitVec.ofNat 32 p.src) p.tc n s
    | (_, s) => s
  else s

/-- A DISPATCH with DSVC = 1 at its handling slice: Table 9.4, then message accounting and its effect (R229). One whose table
entry, or an owner of a rank it names to be served here, is poisoned is dropped (R33). -/
def dispatchIn (n : Nat) (p : Packet) (s : State) : State :=
  let t := xTable p
  let (bad, s) := xRead t s
  let served := if isEndpoint s n || p.ssvc || !xActive s t then [] else ((bitsSet 8 (xServe p)).map p.expert).filter (· < xNexp s t)
  let (bad', s) := ownersRead t served s
  let drop := fun (src : Nat) (f : Option Nat) (s : State) =>
    let s := count src 1 (some n) (some p.tc) (some t) s
    (match f with | some f => raise .csq f s | none => s)
  if bad then drop 0x08D none s
  else if bad' then drop 0x08E none s
  else if !xActive s t then drop 0x08D (some 29) s
  else if !kindOk9 s n p then drop 0x08E (some 30) s
  else if xDiff s t p ≥ 32768 then drop 0x090 none s
  else if xDiff s t p ≥ 8 then drop 0x08F (some 31) s
  else
    let q := xStepNo s t p
    if s.xclosed.contains (t, q) then drop 0x090 none s
    else if (findStep s t q).isNone && sliceState s t != .enabled then refuseStep n p t q s
    else
      let s := if (findStep s t q).isSome then s else
        granuleClean (.step t q) (count 0x080 1 (some n) (some p.tc) (some t) { s with xsteps := s.xsteps ++
          [⟨t, q, n, p.tc, bit (s.regN 0x88) 0, convInfNow s, [], [], [], false, [], 0, [], false⟩] })
      if !row6 s p then drop 0x08E (some 30) s
      else withStep t q (fun x s =>
        if xToken p = noToken then sealIn n p x s
        else if isEndpoint s n then tokenIn n p x s
        else copyIn n p x s) s

/-- Every source port has sealed with its tokens complete, and the weights of every token are known (R232). -/
def sealsReady (s : State) (x : XStep) : Bool :=
  isSource s x.table && !x.sealsSent &&
    (bitsSet 64 (xPorts s x.table)).all (fun p => match tabGet x.sealed p with | some v => tabOr x.tokens p 0 == v | none => false) &&
    s.combs.all (fun c => !(c.table == x.table && c.cseq == x.cseq) || c.known)

/-- SWITCH_SEALS_SEND (R232). A poisoned owner's entry abandons the step (R33). (DEDUCED, notes/assumptions/17.md) -/
def switchSealsSend (t : Nat) (cseq : W32) (s : State) : State :=
  if !coreOn s || s.wiping then s
  else withStep t cseq (fun x s =>
    if !sealsReady s x then s
    else match ownersRead t (List.range (xNexp s t)) s with
    | (true, s) => abandonStep t cseq s
    | (false, s) =>
      let s := ((batchSwitches s t).filter (· != ownSw s)).foldl (fun s w =>
        let (m, s) := newMsgId s
        originate (t % 4) (sealPacket s x w true m 0 0 (leBytes 4 (tabOr x.copies w 0))) s) s
      finishStep t cseq (putStep { x with sealsSent := true } s)) s

/-! ## Combines (R238 to R241) -/

/-- COMBINE_RUN: every rank is resolved, and the built-in program is started (R239). -/
def combineRun (t : Nat) (cseq : W32) (token : Nat) (s : State) : State :=
  if !coreOn s then s
  else withComb t cseq token (fun c s =>
    if c.started || !c.known || c.ranks.any (· == .open) then s
    else count 0x088 1 (some c.port) (some c.tc) (some t)
      (enqueue (combEngine s t c.ctx) ⟨8, .combine t cseq token, [], true, c.convInf⟩ (putComb { c with started := true } s))) s

/-- The format a GWFMT code names: BF16 or FP32. -/
def gwFormat (g : Nat) : Nat := if g = 0 then 1 else 0

/-- One element of a combined row from (weight, output element) pairs in rank order: result in `fmt`, and the flags of each
step, the widening of a weight and of an output among them (R172, R239). -/
def combElem (convInf : Bool) (fmt ofmt gwfmt : Nat) (xs : List (W32 × Nat)) : Nat × List Fl :=
  let r := xs.foldl (fun (acc : Option W32 × List Fl) x =>
    let (w, e) := fmtWiden (gwFormat gwfmt) x.1.toNat
    let (o, f) := fmtWiden ofmt x.2
    let (v, g) := match acc.1 with
      | none => fmul convInf w o
      | some a => ffma convInf w o a
    (some v, acc.2 ++ [e, f, g])) (none, [])
  let (v, h) := fmtNarrow fmt convInf (r.1.getD 0)
  (v, r.2 ++ [h])

/-- Outputs of the combined ranks, read from staging by engine `e`: the poisoned granules met, and (weight, elements). -/
def readOutputs (e : Nat) (c : Comb) (s : State) : List Nat × List (W32 × List Nat) × State :=
  let t := c.table
  let rs := (List.range c.ranks.length).filter (fun r => c.ranks.getD r .open == .done)
  rs.foldl (fun (acc : List Nat × List (W32 × List Nat) × State) r =>
    let (bad, bs, s) := storeRead (jBlk e) (xComb s t + (c.ctx * xKmax s t + r) * xOS s t) (xElems s t * fmtSize (xOfmt s t)) acc.2.2
    (acc.1 ++ bad, acc.2.1 ++ [(c.weights.getD r 0, elemsOf (xOfmt s t) bs)], s)) ([], [], s)

/-- COMBINE_RESULT (R240), sent window by window (R118). (DEDUCED, notes/assumptions/38.md) -/
def sendResult (c : Comb) (row : List (Nat × List Fl)) (used : Nat) (s : State) : State :=
  let t := c.table
  let ovr := (List.range c.ranks.length).foldl (fun m r => if c.ranks.getD r .open == .overcap then m + 2 ^ r else m) 0
  let fl := orFlags (row.map (fun x => orFlags x.2))
  let off := (List.range row.length).filter (fun i => orFlags ((row.getD i (0, [])).2) != 0)
  let first := if off.isEmpty then 0xFFFF else (pickFirst c.strict s.fresh off).toNat % 65536
  let s := { s with fresh := s.fresh + 1 }
  let fmt := xFmt s t
  let per := 2048 / fmtSize fmt
  let n := ceilDiv row.length per
  let (m, s) := newMsgId s
  pushSending n ⟨t % 4, m, false, (List.range n).map (fun i => mkPacket tCombineResult c.tc c.toksrc.toNat false m i n
    (elemBytes fmt ((slice row (i * per) per).map Prod.fst))
    (resultFields s t c.cseq c.token (i * per) used ovr fl first))⟩ s

/-- COMBINE_DONE: the released run finishes; the result goes to TOKSRC and the context closes (R239, R240). A poisoned
granule in staging ends the run with POISON, with instruction index 0 in J_EXC_LAST, and closes the context without a result (R257).
(DESIGN CHOICE, notes/assumptions/80.md) -/
def combineDone (t : Nat) (cseq : W32) (token : Nat) (s : State) : State :=
  if !coreOn s || s.wiping then s
  else withComb t cseq token (fun c s =>
    let e := combEngine s t c.ctx
    match (s.engine e).runs.find? (fun r => ofComb c r.origin) with
    | none => s
    | some r =>
      let (bad, outs, s) := readOutputs e c s
      if !bad.isEmpty then closeComb c (progExc e 5 r s)
      else
        let row := (List.range (xElems s t)).map (fun i =>
          combElem c.convInf (xFmt s t) (xOfmt s t) c.gwfmt (outs.map (fun o => (o.1, o.2.getD i 0))))
        let s := engFlags e (row.flatMap Prod.snd) s
        closeComb c (sendResult c row outs.length (endRun e r.slot s))) s

/-- STEP_TIMEOUT (R241): the step closes with its combine contexts, and sends no seal, notice or result; suspended while halted
(R329). -/
def stepTimeout (t : Nat) (cseq : W32) (s : State) : State :=
  match findStep s t cseq with
  | none => s
  | some x => if !coreOn s || halted s then s
    else abandonStep t cseq (raise .csq 34 (count 0x08C 1 (some x.port) (some x.tc) (some t) s))

/-- COMBINE_TIMEOUT (R241); suspended while halted (R329). -/
def combineTimeout (t : Nat) (cseq : W32) (token : Nat) (s : State) : State :=
  match findComb s t cseq token with
  | none => s
  | some c => if !coreOn s || halted s then s
    else closeComb c (raise .csq 34 (count 0x08C 1 (some c.port) (some c.tc) (some t) s))

/-- Every step and combine context that satisfies its test closes, sending nothing; each closed CSEQ counts as closed
(Table 14.3). -/
def dropExperts (qs : XStep → Bool) (qc : Comb → Bool) (s : State) : State :=
  let s := (s.combs.filter qc).foldl (fun s c => closeComb c s) s
  (s.xsteps.filter qs).foldl (fun s x => closeStep x.table x.cseq s) s

/-- Combine contexts that satisfy `q` are answered with an empty COMBINE_RESULT and close (R335). -/
def forceCombs (q : Comb → Bool) (s : State) : State :=
  (s.combs.filter q).foldl (fun s c => closeComb c (emptyResult c.table c.cseq c.token c.toksrc c.tc c.port s)) s

end Sys2Proof.Machine
end

