-- ==== Sys2Proof/Machine/MsgOps.lean ====
section
/-!
DEFINITION. Message timeouts (R56) and what each type leaves behind (R195, R241, R275, R278).
-/

namespace Sys2Proof.Machine

/-- The collective, combine context or step a timed-out message belongs to closes, a step with all its combine contexts (Table
7.8, R241); a list command's response stops with no status (R278). -/
def abandonMsg (c : MsgCtx) (s : State) : State :=
  let p : Packet := ⟨c.hdr, []⟩
  if c.typ = tContribute then
    match findColl s (cbGroup p) (cbCseq p) with
    | some k => collFail k 3 s
    | none => s
  else if c.typ = tDispatch then
    if isEndpoint s c.port then
      match findComb s (xTable p) (xStepNo s (xTable p) p) (xToken p) with
      | some d => if d.toksrc = c.src ∧ d.msgId = c.msgId then closeComb d s else s
      | none => s
    else
      match findStep s (xTable p) (xStepNo s (xTable p) p) with
      | some x => abandonStep x.table x.cseq s
      | none => s
  else if c.typ = tExpertOut then
    match findComb s (xTable p) (xStepNo s (xTable p) p) (xToken p) with
    | some d => if d.toksrc = xToksrc p then closeComb d s else s
    | none => s
  else if c.typ = tGather ∨ c.typ = tGatherSum then dropResp c.src c.msgId s
  else s

/-- MSG_TIMEOUT of message (SRC, MSG_ID): suspended while halted (R329), and for a CONTRIBUTE while every class is held
(R220) or the CSQ is parking (R214). (DESIGN CHOICE, notes/assumptions/2.md) -/
def msgTimeout (src msgId : W32) (s : State) : State :=
  match findMsg s src msgId with
  | none => s
  | some c =>
    if !coreOn s || halted s || (c.typ == tContribute && (allHeld s || parking s)) then s
    else
      let s := count 0x052 1 (some c.port) (some (Packet.mk c.hdr []).tc) none (dropMsg src msgId s)
      abandonMsg c (raise (serviceBlk c.typ) 7 s)

end Sys2Proof.Machine
end

