-- ==== Sys2Proof/Machine/RackOps.lean ====
section
/-!
DEFINITION. Rack time, STOP waves and the halt, and counter snapshots (R98 to R106, R328, R329, R386, R387).
-/

namespace Sys2Proof.Machine

/-! ## Counter snapshots -/

/-- `csr` with the counters of `full` in a bank: nothing else is listed for the bank after. -/
def copyBank (csr full : Tab W64) (base : Nat) : Tab W64 :=
  let keep := csr.filter (fun e => !(decide (base ≤ e.1) && decide (e.1 < base + 0x800)))
  ((full.filter (fun e => decide (0x302000 ≤ e.1) && decide (e.1 < 0x302800))).map
    (fun e => (e.1 - 0x302000 + base, e.2))).foldl (fun t e => tabSet t e.1 e.2) keep

/-- A snapshot of this cycle for epoch `epoch`, in bank `bank` and of number `seq`: every counter copied, with all events of the cycles
before and none of the cycle itself; a boundary snapshot may clear them (R383, R387). -/
def snapshotTo (bank seq : Nat) (manual : Bool) (epoch : W64) (s : State) : State :=
  let s := { s with
    csr := copyBank s.csr (ecbFull s) (0x303000 + bank * 0x800)
    rack := { s.rack with snapAt := some s.now } }
  let s := s.setRegN 0x300010 (bank + b2n manual * 2 + seq % 2 ^ 16 * 2 ^ 16)
  let s := s.setReg (0x300018 + bank * 8) epoch
  if !manual && bit (s.regN 0x300008) 1 then
    { s with csr := (ecbFull s).filter (fun e => !(decide (0x302000 ≤ e.1) && decide (e.1 < 0x302800))), ecbPend := [] }
  else s

/-- A snapshot into the bank not named. Of NOW and a boundary in one cycle only the boundary's is taken (R387). -/
def snapshot (manual : Bool) (epoch : W64) (s : State) : State :=
  let bank := s.field 0x300010 0 0
  let seq := s.field 0x300010 31 16
  let now := s.rack.snapAt == some s.now
  let last := bit (s.regN 0x300010) 1
  if manual && now && !last then s
  else if !manual && now && last then snapshotTo bank seq manual epoch s
  else snapshotTo (1 - bank) (seq + 1) manual epoch s

/-- The snapshot of an epoch boundary, if enabled and due (R386). -/
def boundarySnapshot (s : State) : State :=
  if bit (s.regN 0x300008) 0 && s.regN 0x48 % (max 1 (s.field 0x300008 31 16)) == 0 then snapshot false (s.reg 0x48) s else s

/-! ## Epochs -/

/-- Epoch roles (R98). -/
def epochRole (s : State) : Nat := if s.field 0x40 1 0 = 3 then 0 else s.field 0x40 1 0

/-- GLB_EPOCH_STATE.STATE. -/
def epochState (s : State) : Nat := s.field 0x50 1 0

/-- The number of the epoch that begins at a boundary: the MASTER counts from 0 once READY; another switch counts on
from the number it has adopted (R101). -/
def numberBoundary (s : State) : State :=
  if s.rack.numbered then s.setReg 0x48 (s.reg 0x48 + 1)
  else if epochRole s = 1 ∧ ready s = true then
    { s.setField 0x50 1 0 1 with rack := { s.rack with numbered := true } }
  else s

/-- EPOCH on each UP trunk port of FABVER 1 (R99); T_TX is written as it leaves, from the cycle of its boundary that stands in its
place until then. (DEDUCED, notes/assumptions/33.md) -/
def sendEpochs (s : State) : State :=
  ((upPorts s).filter (fun n => isTrunk s n)).foldl (fun s n =>
    sendLinkLocal n tEpoch 1 [(8 * 36, 64, s.regN 0x48), (8 * 48, 64, 2 ^ 63 + s.now)] s) s

/-- An epoch boundary at root-PLL count `t`, driven onto GATE_EPOCH by a MASTER or FOLLOWER (R98, R99, R135, R139, R386). Swaps
pending at several ports are tested and applied one after another, in port number order. (DESIGN CHOICE, notes/assumptions/75.md) -/
def boundary (t : Nat) (s : State) : State :=
  let s := numberBoundary s
  let s := { s with rack := { s.rack with
    lastAt := t
    adjust := 0
    history := ((s.reg 0x48, t) :: s.rack.history).take 8
    boundaryAt := s.now
    drivenAt := if epochRole s = 0 then s.rack.drivenAt else some s.now } }
  let s := count 0x004 1 none none none (s.setRegN 0x9000308 (hepTime s))
  let s := allPorts.foldl (fun s n => gateCycleStart n (gateSwapApply n s)) s
  sendEpochs (boundarySnapshot s)

/-- EPOCH_BOUNDARY: seen on GATE_EPOCH or made by the switch; a pulse ends a MEMBER's holdover (R102). -/
def epochBoundary (t : Nat) (s : State) : State :=
  if !coreOn s then s
  else
    let s := if epochRole s = 0 ∧ epochState s = 2 then s.setField 0x50 1 0 1 else s
    boundary t s

/-- EPOCH_HOLDOVER: HOLDOVER is entered with EPOCH_LOSS; a MEMBER makes the boundary itself, one period after the last. -/
def epochHoldover (s : State) : State :=
  if !coreOn s || epochRole s == 1 then s
  else
    let s := if epochState s = 2 then s else raise .glb 12 (s.setField 0x50 1 0 2)
    if epochRole s = 0 then boundary (s.rack.lastAt + epochPeriod s * 56) s else s

/-- Signed 16-bit, saturating. -/
def sat16 (v : Int) : Nat := ((max (-32768) (min 32767 v)) % 65536).toNat

/-- The number of a received EPOCH: adopted if it is the first after READY, or if it disagrees (R101). -/
def adoptEpoch (no : W64) (s : State) : State :=
  if epochRole s = 1 ∨ ready s = false then s
  else if !s.rack.numbered then
    { (s.setReg 0x48 no).setField 0x50 1 0 1 with
      rack := { s.rack with numbered := true, history := [(no, s.rack.lastAt)] } }
  else if s.reg 0x48 ≠ no then
    raise .glb 11 { s.setReg 0x48 no with rack := { s.rack with history := [(no, s.rack.lastAt)] } }
  else s

/-- A FOLLOWER aligns its boundaries to the EPOCH received on UPPORT (R100), which ends its HOLDOVER; a MEMBER's is ended by a
pulse alone, since its boundaries are those of the pair (R102). (DEDUCED, notes/assumptions/33.md) -/
def followEpoch (n : Nat) (no : W64) (tTx tRx : Nat) (s : State) : State :=
  if epochRole s ≠ 2 ∨ s.field 0x40 7 2 ≠ n then s
  else
    let s := if epochState s = 2 then s.setField 0x50 1 0 1 else s
    match s.rack.history.find? (fun e => e.1 == no) with
    | none => s
    | some (_, own) =>
      let o : Int := (own : Int) - ((tRx : Int) - s.field (puBase n + 0x1C) 15 0 - tTx)
      let s := { s.setField 0x50 31 16 (sat16 o) with rack := { s.rack with adjust := o } }
      raiseIf (decide (o.natAbs > 5600)) .glb 11 s

/-- EPOCH: a received EPOCH packet; one on an endpoint port is discarded and counted (R20). (DEDUCED,
notes/assumptions/33.md) -/
def epochPacket (n : Nat) (p : Packet) (tRx : Nat) (s : State) : State :=
  match linkLocalIn n tEpoch p s with
  | (false, s) => s
  | (true, s) =>
    if isEndpoint s n then countPkt 0x026 n p s
    else
    let no := BitVec.ofNat 64 (p.at 36 64)
    if (s.port n).link == .isolated then s else followEpoch n no (p.at 48 64) tRx (adoptEpoch no s)

/-! ## Halt and STOP -/

/-- Every queued packet at an egress is discarded, and counted under the port it came in by (R329, R384). -/
def flushEgress (s : State) : State :=
  allPorts.foldl (fun s n =>
    let q := s.port n
    if q.egress.isEmpty then s
    else (q.egress.foldl (fun s e => count 0x02A 1 e.ing (some e.pkt.tc) none s) (s.setPort n { q with egress := [] }))) s

/-- The halt: GLB_STOP_INFO recorded with SEEN, OPEN cleared, STATE HALTED, queues discarded (R105, R328, R329). -/
def halt (origin wave : Nat) (s : State) : State :=
  let s := s.setRegN 0x58 (origin % 2 ^ 32 + wave % 2 ^ 16 * 2 ^ 32 + 2 ^ 48)
  flushEgress ((s.setField 0x30 0 0 0).setField 0x94 1 0 1)

/-- STOP with this origin and wave on every UP port of FABVER 1 except `but` (R104, R105). -/
def sendStops (origin wave : Nat) (but : Option Nat) (s : State) : State :=
  ((upPorts s).filter (fun n => some n != but)).foldl (fun s n =>
    sendLinkLocal n tStop 1 [(8 * 32, 32, origin), (8 * 36, 16, wave)] s) s

/-- GLB_RESTART_STATUS.STATE is RESTARTING. -/
def restarting (s : State) : Bool := s.field 0x94 1 0 == 2

/-- The STOP_WAVE reaction (R104, R106, R328). -/
def stopWave (s : State) : State :=
  if restarting s then { s with rack := { s.rack with stopDeferred := true } }
  else if halted s then s
  else
    let w := (s.regN 0x60 + 1) % 2 ^ 16
    let s := s.setRegN 0x60 w
    sendStops (ownSw s) w none (halt (ownSw s) w s)

/-- STOP: the first one halts the switch and is relayed; a halted switch counts and discards it (R105, R106).
(DEDUCED, notes/assumptions/34.md) -/
def stopPacket (n : Nat) (p : Packet) (s : State) : State :=
  match linkLocalIn n tStop p s with
  | (false, s) => s
  | (true, s) =>
    if (s.port n).link == .isolated then s
    else if halted s then countPkt 0x02F n p s
    else
      let o := p.at 32 32
      let w := p.at 36 16
      raise .glb 39 (sendStops o w (some n) (halt o w s))

end Sys2Proof.Machine
end

