-- ==== Sys2Proof/Machine/ResetOps.lean ====
section
/-!
DEFINITION. Disabling engines and slices (R333 to R336), the job restart (R337, R338, Table 14.5), BLOCK_RESET (Table 14.3),
and the chip reset with its pins (R341 to R344, R408, R420).
-/

namespace Sys2Proof.Machine

/-! ## Disabling -/

/-- A write of J_DIS_CTRL.DISABLE = 1 with FORCE = 0 (R333). -/
def engineDisable (e : Nat) (s : State) : State :=
  if !coreOn s || !present s e then s
  else (s.setRegN (jBase e + 0xF010) 1).modEngine e (fun x => { x with dis := if x.dis == .enabled then .draining else x.dis })

/-- A write of J_DIS_CTRL.DISABLE = 0 with FORCE = 0 (R333). -/
def engineEnable (e : Nat) (s : State) : State :=
  if !coreOn s || !present s e then s
  else (s.setRegN (jBase e + 0xF010) 0).modEngine e (fun x => { x with dis := .enabled })

/-- A combine context runs, or would run, on engine `e`. -/
def combOn (s : State) (e : Nat) (c : Comb) : Bool := combEngine s c.table c.ctx == e

/-- Work of engine `e` is in flight. -/
def engineBusy (s : State) (e : Nat) : Bool :=
  let x := s.engine e
  !x.queue.isEmpty || !x.heldRuns.isEmpty || !x.runs.isEmpty || x.doneWait || s.colls.any (fun c => c.engines.contains e) || s.combs.any (combOn s e)

/-- A write of J_DIS_CTRL with DISABLE and FORCE: the engine's work is abandoned (R335). -/
def engineForce (e : Nat) (s : State) : State :=
  if !coreOn s || !present s e then s
  else
    let busy := engineBusy s e
    let pc := (((s.engine e).runs.find? (fun r => r.origin == .register)).map (·.pc)).getD 0
    let reg := regRun s e
    let s := endRuns e (s.setRegN (jBase e + 0xF010) 1)
    let s := if reg then runStatus e 4 0 11 pc s else s
    let s := forceCombs (combOn s e) (failColls (fun c => c.engines.contains e) 2 s)
    raiseIf busy (jBlk e) 38 (s.modEngine e (fun x => { x with dis := .disabled }))

/-- Slice `q`'s state. -/
def setSlice (q : Nat) (d : DisState) (s : State) : State := { s with slices := s.slices.set (Fin.ofNat 4 q) d }

/-- A write of CSQ_DIS_CTRL with FORCE = 0: a 1 drains its slice, a 0 enables it (R333). -/
def sliceWrite (mask : Nat) (s : State) : State :=
  if !coreOn s then s
  else (List.range 4).foldl (fun s q =>
    if !bit mask q then setSlice q .enabled s
    else if sliceState s q == .enabled then setSlice q .draining s else s) (s.setRegN 0x400F010 (mask % 16))

/-- The slices named by `mask` serve number `g`. -/
def inMask (mask g : Nat) : Bool := bit mask (g % 4)

/-- An open park or resume ends with REFUSED and BUSY (R335); a refused resume leaves a parked CSQ parked. -/
def endPark (s : State) : State :=
  let st := parkState s
  if st = 1 then parkStatus 0 2 2 s
  else if st = 3 then
    parkStatus (if s.parkedKeys.isEmpty then 0 else 2) 2 2 { s with parked := [], parkMsgs := [], parkMeta := [], parkWait := [] }
  else s

/-- Work of the slices of `mask` is in flight. -/
def slicesBusy (s : State) (mask : Nat) : Bool :=
  s.colls.any (fun c => inMask mask c.group) || s.combs.any (fun c => inMask mask c.table) ||
    s.xsteps.any (fun x => inMask mask x.table) || (mask % 16 != 0 && (parkState s == 1 || parkState s == 3))

/-- A write of CSQ_DIS_CTRL with FORCE = 1: it acts on the slices written to 1 (R335). -/
def sliceForce (mask : Nat) (s : State) : State :=
  if !coreOn s || mask % 16 = 0 then s
  else
    let busy := slicesBusy s mask
    let s := endPark (s.setRegN 0x400F010 (s.field 0x400F010 3 0 ||| mask % 16))
    let s := forceCombs (fun c => inMask mask c.table) (failColls (fun c => inMask mask c.group) 2 s)
    let s := dropExperts (fun x => inMask mask x.table) (fun _ => false) s
    raiseIf busy .csq 38 ((List.range 4).foldl (fun s q => if bit mask q then setSlice q .disabled s else s) s)

/-- UNIT_DRAINED: a draining unit with nothing in flight is disabled (R333). -/
def unitDrained (u : DisUnit) (s : State) : State :=
  if !coreOn s then s
  else match u with
    | .engine n =>
      if (s.engine n.val).dis == .draining && !engineBusy s n.val then s.modEngine n.val (fun x => { x with dis := .disabled }) else s
    | .slice q =>
      if sliceState s q.val == .draining && !slicesBusy s (2 ^ q.val) then setSlice q.val .disabled s else s

/-- J_DIS_STATUS codes. -/
def disCode (d : DisState) : Nat := match d with | .enabled => 0 | .draining => 1 | .disabled => 2

/-! ## BLOCK_RESET (Table 14.3) -/

/-- The STOP packets queued at the port units `ns` leave, ahead of what stops or empties those port units (R326). (DEDUCED,
notes/assumptions/69.md) -/
def stopsLeaveAt (ns : List Nat) (s : State) : State :=
  ns.foldl (fun s n =>
    let out := (s.port n).linkLocal.filter (fun p => p.typ == tStop)
    if out.isEmpty then s
    else { s.modPort n (fun q => { q with linkLocal := q.linkLocal.filter (fun p => p.typ != tStop) }) with
      stopsLeft := s.stopsLeft ++ out.map (fun p => (n, p)) }) s

/-- Every queued STOP packet leaves. -/
def stopsLeave (s : State) : State := stopsLeaveAt allPorts s

/-- BLOCK_RESET of an engine. -/
def engineReset (e : Nat) (s : State) : State :=
  failColls (fun c => c.engines.contains e) 3 ((endRuns e s).setField (jBase e + 0x24) 2 0 0)

/-- The effect of BLOCK_RESET on a block. The MGC firmware starts again from its SRAM, and the events it has not sent are lost.
(DEDUCED, notes/assumptions/49.md) -/
def blockReset (b : Blk) (s : State) : State :=
  match b with
  | .pu n => linkRetrain n.val (discardQueues n.val (stopsLeaveAt [n.val] s))
  | .j n => engineReset n.val s
  | .csq => dropExperts (fun _ => true) (fun _ => true) (failColls (fun _ => true) 3 s)
  | .tsc => { s with
      msgs := s.msgs.filter (fun m => !([tStoreWrite, tGather, tGatherSum].contains m.typ))
      resps := []
      releases := s.releases.filter (fun r => r.stage != .awaitHanded) }
  | .bpm => bpmReturnAll s
  | .msu => msuClear s
  | .tcu => refillMeters s
  | .glb => { s with hep := { s.hep with events := s.hep.events.filter (fun e => e.sent) } }
  | _ => s

/-! ## Job restart -/

/-- A sticky bit is 1 whose set includes STOP_WAVE (R337). -/
def pendingFault (s : State) : Bool :=
  allBlks.any (fun b => (bitsSet 64 (s.regN (blkFlt b))).any (fun n => bit (s.regN (0x100100 + 4 * n)) 5))

/-- GLB_RESTART_STATUS RESULT and REASON. -/
def restartResult (result reason : Nat) (s : State) : State := (s.setField 0x94 3 2 result).setField 0x94 7 4 reason

/-- ABORT with CODE RESTART to each local member whose port is UP, the halt notwithstanding (R197, R329). -/
def restartAborts (s : State) : State :=
  let s := s.setField 0x58 48 48 0
  let s := s.colls.foldl (fun s c =>
    let s := count 0x066 1 (some c.port) (some c.tc) (some c.group) s
    ((localMembers s c.group).filter (fun m => (s.port m.1).link == .up)).foldl (fun s m =>
      let (id, s) := newMsgId s
      originate (c.group % 4) (mkPacket tAbort c.tc (ownSw s + m.1 * 2 ^ 18) false id 0 1 []
        [(256, 12, c.group), (272, 16, grpEpoch s c.group), (288, 32, c.cseq.toNat), (320, 8, 5), (352, 32, c.digest.toNat),
          (384, 32, 0xFFFFFFFF)]) s) s) s
  s.setField 0x58 48 48 1

/-- Every group's and table's H is 0, every PU_PEPOCH one further (R197, R242). -/
def restartEpochs (s : State) : State :=
  let csr := s.csr.filter (fun e => !(decide (0x4010000 ≤ e.1) && decide (e.1 < 0x4030000) && e.1 % 0x20 == 0x1C) &&
    !(decide (0x4060000 ≤ e.1) && decide (e.1 < 0x4061000) && e.1 % 0x40 == 0x2C))
  allPorts.foldl (fun s n => s.setRegN (puBase n + 0x80) ((s.field (puBase n + 0x80) 7 0 + 1) % 256)) { s with csr := csr }

/-- The CSQ's part of a restart (R197, R216, R242). -/
def restartCsq (s : State) : State :=
  let s := restartEpochs (restartAborts s)
  (({ s with
    colls := [], closed := [], collWait := [], xsteps := [], combs := [], xclosed := []
    parkedKeys := [], parked := [], parkMsgs := [], parkMeta := [], parkWait := []
    slices := s.slices.map (fun d => if d == .draining then .disabled else d) } : State)).setField 0x400006C 1 0 0

/-- The port units' part: packets held or queued are gone, their receive credits owed; a replay outstanding goes on, and the frames of
a replay buffer leave it as they are acknowledged, for which the restart waits (Table 14.5). (DEDUCED, notes/assumptions/61.md) -/
def restartPorts (s : State) : State :=
  let s := allPorts.foldl (fun s n => (s.port n).rxq.foldl (fun s e => countPkt 0x02A n e.pkt s) s) s
  { s with ports := s.ports.map (fun q => { q with
      egress := [], kept := [], rxq := []
      rxOwed := q.rxHeld.foldl (fun t e => tabAdd t e.1 e.2) q.rxOwed
      rxHeld := [] }) }

/-- The engines' part (R266, R336). -/
def restartEngines (s : State) : State :=
  let s := (List.range 64).foldl (fun s e => if present s e then (endRuns e s).setField (jBase e + 0x24) 2 0 0 else s) s
  { s with engines := s.engines.map (fun x => { x with tcache := [], dis := if x.dis == .draining then .disabled else x.dis }) }

/-- Message contexts closed without MSG_TIMEOUT. -/
def restartMsgs (s : State) : State :=
  let s := s.msgs.foldl (fun s m => count 0x056 1 (some m.port) (some (Packet.mk m.hdr []).tc) none s) s
  { s with msgs := [], resps := [], results := [], releases := [] }

/-- The store wiped outside the collective region (R286). -/
def restartWipe (s : State) : State :=
  wipeStart 3 (wipeRange (regionEnd s) storeEnd (wipeRange 0 (regionBase s) s))

/-- A write of GLB_RESTART with GO = 1 and HALT = 0 (R337, R360, Table 14.5): OPEN is cleared (R94), and SEQ counts from 0 again
once the restart's own packets have gone (R43). (DEDUCED, notes/assumptions/61.md) -/
def restartGo (wipe : Bool) (s : State) : State :=
  if !coreOn s then s
  else if !halted s then restartResult 2 1 s
  else if pendingFault s then restartResult 2 2 s
  else if restarting s then restartResult 2 3 s
  else
    let wipe := wipe || bit (s.regN 0x100220) 0
    let s := restartResult 0 0 (s.setField 0x94 1 0 2)
    let s := refillMeters (bpmReturnAll (msuClear (restartMsgs (restartEngines (restartCsq (restartPorts s))))))
    let s := { (s.setField 0x30 0 0 0) with seqCtr := 0, rack := { s.rack with restarting := true, restartWipe := wipe } }
    if wipe then restartWipe s else s

/-- GLB_RESTART.HALT (R328, R338). -/
def restartHalt (s : State) : State := if coreOn s then stopWave s else s

/-- A packet other than a link-local one is still half sent, or in a frame not yet acknowledged: the replays are not finished, nor the
replay buffers empty of what they held (Table 14.5). (DEDUCED, notes/assumptions/61.md) -/
def replaysLeft (s : State) : Bool :=
  allPorts.any (fun n => ((s.port n).txPartOf.toList ++ frameCargo ((s.port n).kept ++ (s.port n).replay)).any (fun e => !typeLinkLocal e.pkt.typ))

/-- RESTART_END: SEEN clears, STATE is RUNNING, the event is sent, and a deferred halt follows (R328, Table 14.5). -/
def restartEnd (s : State) : State :=
  if !coreOn s || !restarting s || replaysLeft s || (s.rack.restartWipe && s.wiping) then s
  else
    let s := restartResult 1 0 ((s.setField 0x58 48 48 0).setField 0x94 1 0 0)
    let deferred := s.rack.stopDeferred
    let s := { s with rack := { s.rack with restarting := false, restartWipe := false, stopDeferred := false } }
    let s := pushEvent s evRestart 0xFF (s.reg 0x94)
    if deferred then stopWave s else s

/-! ## Chip reset -/

/-- FCO_RESET_CAUSE after a reset of cause `c` (R341, R420); a FAULT reset gives its source, fault block and ERR. -/
def resetCause (old c : Nat) (fault : Option (Nat × Nat × Bool)) : Nat :=
  match fault with
  | some (src, blk, err) => c + b2n err * 4 + src * 2 ^ 8 + blk * 2 ^ 16 + 2 ^ 31
  | none => if c = 0 ∨ !bit old 31 then c else setBits old 1 0 c

/-- The sequence of Table 15.2 begins: straps sampled, the root PLL locked, the wipe of every memory commanded. -/
def bootStart (s : State) : State :=
  let p := s.pins.straps
  let s := s.setRegN 0x24 (p.x.toNat + p.y.toNat * 2 ^ 6 + p.z.toNat * 2 ^ 12)
  let s := s.setRegN 0x20 (b2n p.discMode * 2 ^ 18)
  let s := s.setRegN 0xA0 (1 + b2n p.nvmQspi * 2 ^ 5)
  wipeStart (if s.field 0x200010 1 0 = 3 then 2 else 1) (s.setField 0xB000000 0 0 1)

/-- What a chip reset leaves: fuses, flash, pins, the frames and packets already sent, and the record of the cause. -/
def resetState (cause : Nat) (fault : Option (Nat × Nat × Bool)) (s : State) : State :=
  let r := { State.reset with
    pending := s.pending
    fresh := s.fresh + 1
    jtag := s.jtag
    stopsLeft := s.stopsLeft
    pins := s.pins
    fuses := s.fuses
    flash := s.flash
    flashSize := s.flashSize
    hep := { Hep.reset with ports := s.hep.ports.map (fun (h : HostPort) => { HostPort.reset with out := h.out }) } }
  (r.setReg 0x100008 (Config.entropy s.fresh)).setRegN 0x200010 (resetCause (s.regN 0x200010) cause fault)

/-- A chip reset; the start-up sequence begins unless a pin or a rail holds the chip (R341). -/
def chipReset (cause : Nat) (fault : Option (Nat × Nat × Bool)) (s : State) : State :=
  let s := resetState cause fault s
  if held s then s else bootStart s

/-- LATCH_HALT: the chip stops, and the store's contents are lost (R330). (DEDUCED, notes/assumptions/50.md) -/
def latchHalt (src blk : Nat) (s : State) : State :=
  { s.setRegN 0x200018 (1 + src * 2 ^ 8 + blk * 2 ^ 16) with mem := [], poison := [], flaws := [], rowCache := [] }

/-- RST_N held low. -/
def rstNAssert (s : State) : State :=
  let t := { s with pins := { s.pins with rstN := false } }
  if latched s || !s.pins.railsOk then t else chipReset 1 none t

/-- RST_N released with these straps. -/
def rstNRelease (straps : Straps) (s : State) : State :=
  let t := { s with pins := { s.pins with rstN := true, straps := straps } }
  if latched s || s.pins.rstN || held t then t else bootStart t

/-- TEST_EN reads 1 (R399). -/
def testEnAssert (s : State) : State :=
  let t := { s with pins := { s.pins with testEn := true } }
  if latched s || !s.pins.railsOk then t else chipReset 1 none t

/-- TEST_EN reads 0 again. -/
def testEnRelease (s : State) : State :=
  let t := { s with pins := { s.pins with testEn := false } }
  if latched s || !s.pins.testEn || held t then t else bootStart t

/-- A rail below its threshold: a loss of supply, whatever the chip did before (R330, R408). -/
def undervoltage (s : State) : State :=
  resetState 0 none { s with pins := { s.pins with railsOk := false }, jtag := Jtag.reset }

/-- Every rail above its threshold for 1 ms (R408). -/
def railsAbove (s : State) : State :=
  let t := { s with pins := { s.pins with railsOk := true } }
  if s.pins.railsOk || held t then t else bootStart t

/-- GLB_BOOT_CTRL.REBOOT (R341); a latched halt does not heed it (R330). -/
def reboot (s : State) : State := if held s || latched s then s else chipReset 1 none s

/-- Loss of REFCLK (R27); what a latched halt leaves running tells of it all the same (R330). -/
def refclkLoss (s : State) : State :=
  if held s then s
  else raise .clk 13 ((s.setField 0xB000000 0 0 0).setSticky 0xB000000 0x100)

/-- REFCLK is back (R27). -/
def refclkReturn (s : State) : State := if held s then s else s.setField 0xB000000 0 0 1

/-- The SerDes PLLs lock (Table 15.2). -/
def serdesLock (s : State) : State := if coreOn s then s.setField 0xB000000 1 1 1 else s

end Sys2Proof.Machine
end

