-- ==== Sys2Proof/Machine/SapOps.lean ====
section
/-!
DEFINITION. The safety partition at run time: throttling (R411 to R413), the request mailbox (R357, R358, R360) and flash
access (R361); and the check-value units (R389 to R391).
-/

namespace Sys2Proof.Machine

/-! ## Throttling -/

/-- The throttle level follows the higher of the two levels, at the FCLK boundary of R28; a rise past what the deadlines cover, or to
level 3, raises THROTTLE_BOUND (R148, R413). -/
def applyLevel (s : State) : State :=
  let old := s.field 0xB000000 3 2
  let new := max (s.field 0xC0 17 16) (s.field 0xC0 19 18)
  if new = old then s
  else
    let s := count 0x005 1 none none none (s.setField 0xB000000 3 2 new)
    raiseIf (decide (old < new) && (decide (new > min 2 (s.field 0x3000000 9 8)) || new == 3)) .tcu 19 s

/-- E(n) in 1/16 °C. -/
def enterAt (s : State) (n : Nat) : Int := ((s.field 0x100200 7 0 + 2 * (n - 1)) * 16 : Nat)

/-- The thermal level after a reading (R411). -/
def thermalLevel (s : State) (tj : Int) : Nat :=
  let cur := s.field 0xC0 17 16
  let up := ([1, 2, 3].filter (fun n => decide (tj ≥ enterAt s n))).foldl max 0
  let down := ([1, 2, 3].filter (fun n => decide (n ≤ cur) &&
    decide (tj < enterAt s n - ((s.field 0x100200 15 8 * 16 : Nat) : Int)))).length
  if up > cur then up else cur - down

/-- THERMAL_READING: one reading of the sensors (R409, R411, R414). The throttle level follows at the next boundary of `tick`, once for
what falls before it (R413). -/
def thermalReading (temps : List (BitVec 16)) (s : State) : State :=
  if held s then s
  else
    let s := (temps.zip (List.range 28)).foldl (fun s x => s.setRegN (0x200 + 4 * x.2) x.1.toNat) s
    let tj := (temps.map (·.toInt)).foldl max (-32768)
    let old := s.field 0xC0 17 16
    let new := thermalLevel s tj
    let s := (s.setField 0xC0 15 0 (tj % 65536).toNat).setField 0xC0 17 16 new
    let s := raiseIf (old == 0 && new != 0) .glb 40 s
    raiseIf (decide (tj ≥ ((s.field 0x100200 23 16 * 16 : Nat) : Int))) .glb 41 s

/-- POWER_WINDOW_END (R412). -/
def powerWindowEnd (watts : Nat) (s : State) : State :=
  if held s then s
  else
    let lim := s.field 0x100208 10 0
    let cur := s.field 0xC0 19 18
    let s := s.setField 0xC0 42 32 (min watts 2047)
    if watts > lim then (if cur < 3 then s.setField 0xC0 19 18 (cur + 1) else raise .glb 42 s)
    else if 100 * watts < 95 * lim then s.setField 0xC0 19 18 (cur - 1) else s

/-! ## The request mailbox -/

/-- `n` bytes of 64-bit register words from `base` on. -/
def regBytes (s : State) (base n : Nat) : List Byte :=
  ((List.range (ceilDiv n 8)).flatMap (fun i => leBytes 8 (s.regN (base + 8 * i)))).take n

/-- 64-bit register words from `base` on, set to the bytes given; a last word that is not whole keeps its other bytes. -/
def setRegBytes (base : Nat) (bs : List Byte) (s : State) : State :=
  (List.range (ceilDiv bs.length 8)).foldl (fun s i =>
    let w := slice bs (8 * i) 8
    s.setRegN (base + 8 * i) (leNat (w ++ (leBytes 8 (s.regN (base + 8 * i))).drop w.length))) s

/-- A write of GLB_SAPMB_CMD (R357); BUSY, or a code that names no request, leaves it without effect. -/
def sapRequest (req : Nat) (s : State) : State :=
  if held s || s.boot.sapReq.isSome || req == 0 || decide (req > 7) then s
  else { s.setRegN 0x104 4 with boot := { s.boot with sapReq := some (req, regBytes s 0x2000 5136) } }

/-- "Running" of Table 15.10 (DEDUCED, notes/assumptions/41.md). -/
def running (s : State) : Bool := bootState s == 6 && s.field 0x94 1 0 != 1

/-- Key slots programmed and not revoked. -/
def validSlot (f : Fuses) (k : Nat) : Bool := decide (k < 4) && f.prog.getLsbD k && !f.revoked.getLsbD k

/-- KEY and SIGNATURE of R358: 0 when the request is signed well. -/
def signReason (req : Nat) (buf : List Byte) (s : State) : Nat :=
  let k := leNat (buf.take 1)
  let pk := slice buf 2056 1793
  let msg := Config.shake256 (leBytes 1 req ++ leBytes 8 s.fuses.devId.toNat ++ leBytes 8 (s.regN 0x100008) ++ buf.take 2056)
  if !validSlot s.fuses k || s.fuses.hashes.getD k [] != Config.shake256 pk then 2
  else if !Config.falconVerify pk msg (slice buf 3856 1280) then 3
  else 0

/-- A set is refused for THERM_CRIT without LATCH_HALT, and for a reserved code unless it is empty (R325). -/
def reactionOk (n v : Nat) : Bool :=
  decide (n < 64) && decide (v < 128) && (n != 41 || bit v 6) && (decide (n < 44) || v == 0)

/-- Values of SAP_THERM and SAP_POWER within Table 15.18. -/
def thermOk (v : Nat) : Bool :=
  decide (60 ≤ bits v 7 0) && decide (bits v 7 0 ≤ 100) && decide (1 ≤ bits v 15 8) && decide (bits v 15 8 ≤ 20) && v / 2 ^ 16 == 105
def powerOk (v : Nat) : Bool :=
  decide (600 ≤ bits v 10 0) && decide (bits v 10 0 ≤ 1350) && bits v 15 11 == 0 && decide (1 ≤ bits v 23 16) &&
    decide (bits v 23 16 ≤ 100) && v / 2 ^ 24 == 0

/-- Address SET writes, when its value is admitted. -/
def setTarget (what idx v : Nat) : Option Nat :=
  if what = 0 then (if reactionOk idx v then some (0x100100 + 4 * idx) else none)
  else if what = 1 then (if thermOk v then some 0x100200 else none)
  else if what = 2 then (if powerOk v then some 0x100208 else none)
  else if what = 3 then (if v < 2 then some 0x100220 else none)
  else none

/-- STATE of Tables 15.9 and 15.10. -/
def stateReason (req : Nat) (s : State) : Bool :=
  let lc := s.fuses.lcState
  if req = 1 then lc != 0
  else if req = 2 then lc != 1
  else if req = 4 then lc != 1 || running s
  else if req = 5 then lc == 0 || lc == 3 || running s
  else lc == 0 || lc == 3

/-- The rest of Table 15.10's refusals: FIELD, FULL, LAST_KEY. (DEDUCED, notes/assumptions/46.md) -/
def argReason (req : Nat) (args : List Byte) (s : State) : Nat :=
  let f := s.fuses
  let a := leNat (args.take 1)
  if req = 2 then (if f.prog = 15 then 5 else 0)
  else if req = 3 then
    (if !validSlot f a then 4 else if (List.range 4).all (fun k => k == a || !validSlot f k) then 6 else 0)
  else if req = 6 then (if a < f.minSvn ∨ a > 63 ∨ a > s.boot.svn then 4 else 0)
  else if req = 7 then (if (setTarget a (leNat (slice args 4 4)) (leNat (slice args 8 4))).isNone then 4 else 0)
  else 0

/-- A request carries a signature. -/
def signed15 (req : Nat) : Bool := decide (2 ≤ req) && decide (req ≤ 6)

/-- The chip reset that ends a request of the safety partition; a latched halt is not released by it (R330). -/
def sapReset (s : State) : State := if latched s then s else chipReset 3 none s

/-- The effect of an accepted request; DEPLOY, RETIRE and PROVISION end in a chip reset (R357). -/
def sapEffect (req : Nat) (args : List Byte) (s : State) : State :=
  let f := s.fuses
  let hash := Config.shake256 (args.take 1793)
  let done := s.setRegN 0x104 1
  if req = 1 then
    sapReset { done with fuses := { f with
      hashes := f.hashes.set 0 hash, prog := f.prog ||| 1, sealKey := slice args 1808 32, lcState := 1 } }
  else if req = 2 then
    let k := ((List.range 4).find? (fun k => !f.prog.getLsbD k)).getD 0
    { done with fuses := { f with hashes := f.hashes.set k hash, prog := f.prog ||| BitVec.ofNat 4 (2 ^ k) } }
  else if req = 3 then
    { done with fuses := { f with revoked := f.revoked ||| BitVec.ofNat 4 (2 ^ leNat (args.take 1)) } }
  else if req = 4 then sapReset { done with fuses := { f with lcState := 2 } }
  else if req = 5 then sapReset { done with fuses := { f with lcState := 3, sealKey := List.replicate 32 0 } }
  else if req = 6 then { done with fuses := { f with minSvn := leNat (args.take 1) } }
  else match setTarget (leNat (args.take 1)) (leNat (slice args 4 4)) (leNat (slice args 8 4)) with
    | some a => done.setRegN a (leNat (slice args 8 4))
    | none => done

/-- SAP_REQUEST_DONE: the request is refused, with a reason, or performed (R357, R358). -/
def sapRequestDone (s : State) : State :=
  match s.boot.sapReq with
  | none => s
  | some (req, buf) =>
    if held s then s
    else
      let s := { s with boot := { s.boot with sapReq := none } }
      let args := if signed15 req then slice buf 8 2048 else buf
      let sign := if signed15 req then signReason req buf s else 0
      let why := if stateReason req s then 1 else if sign ≠ 0 then sign else argReason req args s
      let s := if signed15 req then { s.setReg 0x100008 (Config.entropy s.fresh) with fresh := s.fresh + 1 } else s
      if why ≠ 0 then s.setRegN 0x104 (2 + why * 16) else sapEffect req args s

/-! ## Flash (R361) -/

/-- Why a flash operation is refused; 0 when it is not. -/
def nvmReason (op : Nat) (s : State) : Nat :=
  let a := s.regN 0xA000008
  let n := s.regN 0xA00000C
  if bootState s = 2 ∨ s.boot.nvmOp.isSome then 1
  else if a + (if op = 1 then 1 else n) > s.flashSize then 2
  else if op = 0 ∧ (n < 1 ∨ n > 4096) then 3
  else if op = 2 ∧ (n < 1 ∨ n > 256 ∨ a % 256 + n > 256) then 3
  else 0

/-- A write of NVM_CMD with OP `op`. -/
def nvmCommand (op : Nat) (s : State) : State :=
  if held s || decide (op > 2) then s
  else
    let why := nvmReason op s
    let st := 0xA000010
    if why ≠ 0 then s.setRegN st (2 + b2n s.boot.nvmOp.isSome * 4 + why * 16)
    else
      let n := s.regN 0xA00000C
      { s.setRegN st 4 with boot := { s.boot with
          nvmOp := some (op, s.regN 0xA000008, n, if op = 2 then regBytes s 0xA001000 n else []) } }

/-- NVM_OPERATION_DONE. (DEDUCED, notes/assumptions/47.md) -/
def nvmDone (ok : Bool) (s : State) : State :=
  match s.boot.nvmOp with
  | none => s
  | some (op, a, n, data) =>
    if held s then s
    else
      let s := { s with boot := { s.boot with nvmOp := none } }
      if !ok then s.setRegN 0xA000010 (2 + 4 * 16)
      else
        let s := s.setRegN 0xA000010 1
        if op = 0 then setRegBytes 0xA001000 (cellRead 0xFF s.flash a n) s
        else if op = 1 then { s with flash := cellClear s.flash (a / 65536 * 65536) 65536 }
        else { s with flash := cellWrite 0xFF s.flash a data }

/-! ## Check-value units (R389 to R391) -/

/-- Base of CVU `n`. -/
def cvuBase (n : Nat) : Nat := 0x400000 + n * 0x100

/-- POLY. -/
def cvuPoly (n : Nat) (s : State) : Nat := s.field (cvuBase n) 1 0

/-- A write of CVU_CTRL.INIT = 1. -/
def cvuInit (n : Nat) (s : State) : State := if held s then s else s.setReg (cvuBase n + 0x10) (cvuInitial (cvuPoly n s))

/-- A write of CVU_CFG. -/
def cvuConfig (n v : Nat) (s : State) : State := if held s then s else cvuInit n (s.setRegN (cvuBase n) (v % 4))

/-- Bytes fed to the CRC. -/
def cvuFeed (n : Nat) (bs : List Byte) (s : State) : State :=
  if held s then s else s.setReg (cvuBase n + 0x10) (bs.foldl (cvuByte (cvuPoly n s)) (s.reg (cvuBase n + 0x10)))

/-- A write of CVU_VAL: bits above the width are ignored. -/
def cvuVal (n : Nat) (v : W64) (s : State) : State := if held s then s else s.setReg (cvuBase n + 0x10) (v &&& cvuMask (cvuPoly n s))

/-- CVU_RESULT. -/
def cvuResult (n : Nat) (s : State) : W64 := s.reg (cvuBase n + 0x10) ^^^ cvuFinalXor (cvuPoly n s)

/-- ECB_SNAP_CTRL.NOW (R386). -/
def snapshotNow (s : State) : State := if held s then s else snapshot true (s.reg 0x48) s

end Sys2Proof.Machine
end

