-- ==== Sys2Proof/Machine/HepOps.lean ====
section
/-!
DEFINITION. The host ports: interfaces (R363 to R366, R373), sessions (R370, R371), attestation (R374), event delivery (R379),
time (R380) and the answers of IPv6 (R365).
-/

namespace Sys2Proof.Machine

/-! ## Interfaces -/

/-- HEP_CFG written: each port retrains, on the interface that its AUIn names (R366). In recovery mode, where no write of it is
performed, the built-in settings stay in force (R347, R373). (DEDUCED, notes/assumptions/42.md) -/
def hepConfig (v : Nat) (s : State) : State :=
  if held s || bootState s == 7 then s
  else
    let s := s.setRegN 0x9000000 (v % 2 ^ 32 - bits v 7 6 * 2 ^ 6)
    [0, 1].foldl (fun s n =>
      let h := s.host n
      let a := bit v (2 + n)
      s.setHost n { h with fixed := true, aui := a, link := false, locked := false }) s

/-- HOST_PCS_LOCK (R373); events that waited for a link are sent. -/
def hostPcsLock (n : Nat) (s : State) : State :=
  if held s then s
  else
    let s := s.setHost n { s.host n with link := true, locked := true, fixed := true }
    sendEvents s (unsentEvents s)

/-- HOST_LINK_LOSS: events move to the other port (R366, R379). -/
def hostLinkLoss (n : Nat) (s : State) : State :=
  if held s then s
  else
    let s := s.setHost n { s.host n with link := false, locked := false }
    sendEvents s (unsentEvents s)

/-- AUI_TRY_TIMEOUT (R373). -/
def auiTryTimeout (n : Nat) (s : State) : State :=
  let h := s.host n
  if held s || h.locked || h.fixed then s else s.setHost n { h with aui := !h.aui }

/-! ## Sessions -/

/-- An OP on an ACTIVE slot that no ACTIVE session signed is denied (R370), and any in recovery mode (R347) or behind a latched halt
(R330, R372). -/
def sessDenied (s : State) (slot : Nat) (auth : Bool) : Bool := latched s || bootState s == 7 || ((s.session slot).st == .active && !auth)

/-- HEP_SESS_CTRL with OP = OPEN. -/
def sessOpen (slot : Nat) (auth : Bool) (s : State) : State :=
  if held s || sessDenied s slot auth then s
  else
    let s := (List.range 4).foldl (fun s w => s.setReg (0x9000130 + 8 * w) (Config.entropy (s.fresh + w))) s
    { s.setSession slot { s.session slot with st := .pending } with fresh := s.fresh + 4 }

/-- X of R370. -/
def sessInput (slot : Nat) (s : State) : List Byte :=
  regBytes s 0x9000110 32 ++ regBytes s 0x9000130 32 ++ leBytes 8 s.fuses.devId.toNat ++ leBytes 1 slot

/-- HEP_SESS_CTRL with OP = CONFIRM. -/
def sessConfirm (slot : Nat) (auth : Bool) (s : State) : State :=
  if held s || sessDenied s slot auth then s
  else
    let x := sessInput slot s
    match s.hep.hostKey, (s.session slot).st with
    | some k, .pending =>
      if Config.kmac256 k x strYmpOpen 32 = regBytes s 0x9000150 32 then
        s.setSession slot ⟨.active, Config.kmac256 k x strYmpKey 32, 0, []⟩
      else (s.setSession slot { s.session slot with st := .failed }).countReg 0x9000408 1
    | _, _ => (s.setSession slot { s.session slot with st := .failed }).countReg 0x9000408 1

/-- HEP_SESS_CTRL with OP = CLOSE. -/
def sessClose (slot : Nat) (auth : Bool) (s : State) : State :=
  if held s || sessDenied s slot auth then s else s.setSession slot { s.session slot with st := .free }

/-- A write of HEP_SESS_CTRL. -/
def sessCtrl (v : Nat) (auth : Bool) (s : State) : State :=
  let slot := bits v 1 0
  if bits v 3 2 = 1 then sessOpen slot auth s
  else if bits v 3 2 = 2 then sessConfirm slot auth s
  else if bits v 3 2 = 3 then sessClose slot auth s else s

/-! ## Attestation -/

/-- The statement of R374. -/
def attStatement (s : State) : List Byte :=
  let img := s.boot.applied
  let slot := s.field 0xB0 7 6
  regBytes s 0x9000200 32 ++ leBytes 8 s.fuses.devId.toNat ++ leBytes 4 (glbIdent s.fuses) ++ leBytes 4 (s.regN 0x100000) ++
    leBytes 8 (s.regN 0xB0) ++ (if img then s.boot.digest else List.replicate 64 0) ++
    (if img then regBytes s (0x100400 + slot * 0x40) 64 else List.replicate 64 0)

/-- HEP_ATT_CTRL.GO; attestation is unavailable in recovery mode (R374). -/
def attest (s : State) : State :=
  if held s || latched s || bootState s == 7 || s.hep.att.isSome then s
  else { s.setRegN 0x9000224 4 with hep := { s.hep with att := some (attStatement s) } }

/-- ATTESTATION_DONE. -/
def attestationDone (s : State) : State :=
  match s.hep.att with
  | none => s
  | some m =>
    if held s then s
    else
      let sig := Config.falconSign s.fuses.seed (Config.shake256 m) s.fresh
      let s := setRegBytes 0x9002000 ((sig ++ List.replicate 1280 0).take 1280) { s with hep := { s.hep with att := none }, fresh := s.fresh + 1 }
      s.setRegN 0x9000224 1

/-! ## Events, time and IPv6 -/

/-- EVENT_RETRY: every unacknowledged event again, in the order of R378. -/
def eventRetry (s : State) : State :=
  if held s then s
  else
    let e := s.hep.events
    sendEvents s (e.filter (fun x => x.cls == 1) ++ e.filter (fun x => x.cls != 1))

/-- The MAC address of port `n` in force: HEP_MAC_n, in recovery mode at its reset value (R364, R373). -/
def hostMac (s : State) (n : Nat) : BitVec 48 :=
  BitVec.ofNat 48 (if bootState s = 7 then macDefault s.fuses n else s.regN (0x9000020 + 8 * n))

/-- The link-local address of port `n`: fe80::/64 with the modified EUI-64 of its MAC (R365). -/
def linkLocalIp (s : State) (n : Nat) : BitVec 128 :=
  let m := (hostMac s n).toNat
  let eui := (m / 2 ^ 24) * 2 ^ 40 + 0xFFFE * 2 ^ 24 + m % 2 ^ 24
  BitVec.ofNat 128 (0xFE80 * 2 ^ 112 + (eui ^^^ 2 ^ 57))

/-- The global address of port `n`; 0 for none. -/
def globalIp (s : State) (n : Nat) : BitVec 128 :=
  BitVec.ofNat 128 (s.regN (0x9000040 + 16 * n) + s.regN (0x9000048 + 16 * n) * 2 ^ 64)

/-- An address of port `n`. -/
def hostIp (s : State) (n : Nat) (ip : BitVec 128) : Bool := ip == linkLocalIp s n || (globalIp s n != 0 && ip == globalIp s n)

/-- The IPv6 solicited-node multicast MAC address of an address. -/
def solicitedNode (ip : BitVec 128) : BitVec 48 := BitVec.ofNat 48 (0x3333FF * 2 ^ 24 + ip.toNat % 2 ^ 24)

/-- Port `n` takes frames addressed to `mac` (R364). -/
def macAccepts (s : State) (n : Nat) (mac : BitVec 48) : Bool :=
  mac == hostMac s n || mac == 0xFFFFFFFFFFFF || mac == solicitedNode (linkLocalIp s n) ||
    (globalIp s n != 0 && mac == solicitedNode (globalIp s n))

/-- Bytes of a frame beside its payload of EtherType 0x88B5: the Ethernet header, a VLAN tag, IPv6 and UDP headers, FCS. -/
def frameOverhead (vlan : Option (BitVec 16)) (udp : Bool) : Nat := 18 + (if vlan.isSome then 4 else 0) + (if udp then 48 else 0)

/-- What the FEC of port `n` has counted (R381); a port whose link is down receives no codewords. -/
def hostCodewords (n : Nat) (f : HostFec) (s : State) : State :=
  if held s || !(s.host n).link then s else (s.countReg (0x9000420 + 8 * n) f.corr).countReg (0x9000430 + 8 * n) f.uncorr

/-- Port `n` takes a received frame with this header: the chip runs, the link is up, the address is one of the port's (R364). -/
def frameTaken (n : Nat) (eth : EthHeader) (s : State) : Bool := !held s && (s.host n).link && macAccepts s n eth.dst

/-- PTP_MESSAGE: time stamps are gathered, and the exchange's end adjusts HEP_TIME by the firmware's servo (R380). A message received
is taken where its address is one of the port's (R364). (DESIGN CHOICE, notes/assumptions/58.md) -/
def ptpMessage (n : Nat) (m : PtpMsg) (s : State) : State :=
  match m with
  | .sync eth t1 t2 =>
    let s := hostCodewords n eth.fec s
    if frameTaken n eth s then { s with hep := { s.hep with ptpT1 := some (t1, t2) } } else s
  | .delayReq t3 => if held s || !(s.host n).link then s else { s with hep := { s.hep with ptpT3 := some t3 } }
  | .delayResp eth _ =>
    let s := hostCodewords n eth.fec s
    if frameTaken n eth s && s.hep.ptpT1.isSome && s.hep.ptpT3.isSome then
      { s with
        time7 := ((s.time7 : Int) + Config.ptpServo s.fresh).toNat
        fresh := s.fresh + 1
        hep := { s.hep with ptpT1 := none, ptpT3 := none } }
    else s

/-- NEIGHBOR_SOLICITATION (R363 to R365). -/
def neighborSolicitation (n : Nat) (eth : EthHeader) (srcIp target : BitVec 128) (s : State) : State :=
  let s := hostCodewords n eth.fec s
  if frameTaken n eth s && hostIp s n target then s.hostSend n (.neighborAdvert eth.src eth.vlan srcIp target (hostMac s n)) else s

/-- ECHO_REQUEST (R363 to R365): its frame has the Ethernet, IPv6 and ICMPv6 echo headers beside the data. -/
def echoRequest (n : Nat) (eth : EthHeader) (srcIp dstIp : BitVec 128) (data : List Byte) (s : State) : State :=
  let s := hostCodewords n eth.fec s
  if frameTaken n eth s && hostIp s n dstIp && decide (frameOverhead eth.vlan true + data.length ≤ 9216) then
    s.hostSend n (.echoReply eth.src eth.vlan srcIp dstIp data)
  else s

end Sys2Proof.Machine
end

