-- ==== Sys2Proof/Machine/RegOps.lean ====
section
/-!
DEFINITION. The management address space (R7 to R11, R21 to R25, R415): what a register reads, and what a write of it does.
-/

namespace Sys2Proof.Machine

/-! ## Reads -/

/-- A sum of fields, each shifted to its position. -/
def fields (fs : List (Nat × Nat)) : Nat := fs.foldl (fun a f => a + f.2 * 2 ^ f.1) 0

/-- Registers of the port unit at `b` that show other state. -/
def puRead (s : State) (n off : Nat) : Option Nat :=
  if off = 0x08 then some (linkStatus s n)
  else if off = 0x14 then some (if (s.port n).disc == .swapped then (s.port n).swapPeer + 256 else 0)
  else if 0x2000 ≤ off ∧ off < 0x2800 then
    let i := (off - 0x2000) / 8
    some (slotUsed s n i + slotCap s n i * 2 ^ 32)
  else none

/-- Registers of the RTE and TCU that show other state. -/
def rteRead (s : State) (a : Nat) : Option Nat :=
  if a = 0x2000014 then some (drained s)
  else if a = 0x2000024 then some (setBits (s.regN a) 15 8 (cpathAffected s))
  else if 0x3000030 ≤ a ∧ a < 0x3000040 then
    let q := (a - 0x3000030) / 4
    some (greenPlaces s q + greenUsed s q * 2 ^ 16)
  else none

/-- A word of group entry `g`: an AXIS entry reads as FREE while AXIS_EN is 0, its words A to D zero (R178, R199). -/
def groupRead (s : State) (g off a : Nat) : Option Nat :=
  let off_ := bit (grpA s g) 16 && !bit (s.regN 0x4000000) 0
  if off = 0x18 then
    some ((if off_ then s.field a 1 0 / 2 * 2 else s.field a 1 0) + (s.colls.filter (fun c => c.group == g)).length * 4)
  else if off < 0x18 ∧ off_ = true then some 0
  else none

/-- Registers of the CSQ that show other state. -/
def csqRead (s : State) (a : Nat) : Option Nat :=
  if a = 0x4000058 then some (dDigest (stagedDesc s)).toNat
  else if a = 0x400005C then some s.descs.length
  else if a = 0x400F014 then some (fields ((List.range 4).map (fun q => (2 * q, disCode (sliceState s q)))))
  else if 0x4010000 ≤ a ∧ a < 0x4030000 then groupRead s ((a - 0x4010000) / 0x20) (a % 0x20) a
  else if 0x4060000 ≤ a ∧ a < 0x4061000 ∧ a % 0x40 = 0x28 then
    let t := (a - 0x4060000) / 0x40
    some (s.field a 1 0 + (s.xsteps.filter (fun x => x.table == t)).length * 4)
  else none

/-- Registers of engine `n` that show other state. -/
def jRead (s : State) (n off : Nat) : Option Nat :=
  if off = 0x08 then
    some (fields [(0, (s.engine n).runs.length), (5, min 32 (s.engine n).queue.length), (16, 1), (24, 1)])
  else if off = 0xF014 then some (disCode (s.engine n).dis)
  else none

/-- Runs of the engines of quadrant `q` that wait on a milestone homed there (Table 12.8). -/
def engineWaits (s : State) (q : Nat) : Nat :=
  ((List.range 64).map (fun e => ((s.engine e).runs.filter (fun r => match r.wait with
    | some (m, _) => msHome m == q && !r.waitMet
    | none => false)).length)).foldl (· + ·) 0

/-- Registers of the BPM and the MSU that show other state. -/
def poolRead (s : State) (a : Nat) : Option Nat :=
  if a = 0x7000074 then
    some (s.field a 5 0 + b2n (bpmRegs.any (fun r => s.regN r != bpmCfg s r)) * 2 ^ 6 + s.bpm.bufs.length * 2 ^ 14)
  else if 0x7000080 ≤ a ∧ a < 0x70000A0 then
    let q := (a - 0x7000080) / 8
    some (fields ((List.range 4).map (fun p => (16 * p, freeCount s p q))))
  else if 0x70000A0 ≤ a ∧ a < 0x70000B0 then some (freeCount s (4 + (a - 0x70000A0) / 4) 0)
  else if 0x8000000 ≤ a ∧ a < 0x8080000 then some (msuSeen s ((a - 0x8000000) / 8)).toNat
  else if 0x8080000 ≤ a ∧ a < 0x8080010 then
    let q := (a - 0x8080000) / 4
    some ((s.waits.filter (fun w => msHome w.ms == q)).length + engineWaits s q * 2 ^ 16)
  else none

/-- Code of a session slot's state. -/
def sessCode (x : SessState) : Nat := match x with | .free => 0 | .pending => 1 | .active => 2 | .failed => 3

/-- Registers of the HEP that show other state. The identity key that the SAP derives at every chip reset is readable from the end of
the wipe on; until then HEP_ATT_PUBKEY reads its reset value (R374, R381). (DESIGN CHOICE, notes/assumptions/58.md) -/
def hepRead (s : State) (a : Nat) : Option Nat :=
  if a = 0x9000010 ∨ a = 0x9000014 then
    let h := s.host ((a - 0x9000010) / 4)
    some (fields [(0, b2n h.link), (1, b2n h.aui), (2, b2n h.locked)])
  else if a = 0x90000A0 then some s.hep.events.length
  else if a = 0x9000104 then
    some (fields ((List.range 4).map (fun k => (2 * k, sessCode (s.session k).st))) + b2n s.hep.hostKey.isNone * 2 ^ 8)
  else if a = 0x9000300 then some (hepTime s)
  else if 0x9001000 ≤ a ∧ a < 0x9001708 then
    if bootState s ≤ 1 then some 0
    else some (leNat (slice (((Config.falconPub s.fuses.seed) ++ List.replicate 1793 0).take 1793 ++ List.replicate 7 0) (a - 0x9001000) 8))
  else none

/-- A register whose value is a view of other state. -/
def viewRead (s : State) (a : Nat) : Option Nat :=
  if a < 0x100000 then (if a = 0x2C then some (discSum s) else none)
  else if a = 0x200008 ∧ collected s = false then some 0
  else if 0x301000 ≤ a ∧ a < 0x301800 then some (setBits (s.regN a) 39 39 (b2n (ecbBad (s.regN a))))
  else if 0x400000 ≤ a ∧ a < 0x400800 then
    (if a % 0x100 = 0x18 then some (cvuResult ((a - 0x400000) / 0x100) s).toNat else none)
  else if 0x1000000 ≤ a ∧ a < 0x1400000 then puRead s ((a - 0x1000000) / 0x10000) (a % 0x10000)
  else if 0x2000000 ≤ a ∧ a < 0x4000000 then rteRead s a
  else if 0x4000000 ≤ a ∧ a < 0x5000000 then csqRead s a
  else if 0x5000000 ≤ a ∧ a < 0x6000000 then
    let n := (a - 0x5000000) / 0x40000
    if present s n then jRead s n (a % 0x40000) else some 0
  else if 0x7000000 ≤ a ∧ a < 0x9000000 then poolRead s a
  else if 0x9000000 ≤ a ∧ a < 0xA000000 then hepRead s a
  else none

/-- What the register at `a` reads. -/
def readReg (s : State) (a : Nat) : W64 :=
  match viewRead s a with
  | some v => BitVec.ofNat 64 v
  | none => s.reg a

/-- An access of `w` bytes that R21 admits reads this; an address of no register reads zero (R22). -/
def busRead (s : State) (a w : Nat) : Option W64 :=
  match accessKind a w with
  | .performed _ => some (readReg s a)
  | .absent => some 0
  | .refused => none

/-- The bus reads granule-coded memory where a word of a table, a program, a segment table, a meter or a milestone stands: whether
its granule is poisoned (R33). (DEDUCED, notes/assumptions/17.md) -/
def wordRead (a : Nat) (s : State) : Bool × State :=
  if 0x2001000 ≤ a ∧ a < 0x2002300 ∨ 0x2010000 ≤ a ∧ a < 0x2024000 then tableRead .rte a 4 s
  else if 0x3010000 ≤ a ∧ a < 0x3020000 then tableRead .tcu a 4 s
  else if 0x1000000 ≤ a ∧ a < 0x1400000 ∧ 0x3000 ≤ a % 0x10000 ∧ a % 0x10000 < 0x3800 then tableRead .tcu a 8 s
  else if 0x4010000 ≤ a ∧ a < 0x4061000 then tableRead .csq a 4 s
  else if 0x5000000 ≤ a ∧ a < 0x6000000 ∧ 0x10000 ≤ a % 0x40000 ∧ present s ((a - 0x5000000) / 0x40000) = true then
    pmemRead ((a - 0x5000000) / 0x40000) ((a % 0x40000 - 0x10000) / 8) s
  else if 0x8000000 ≤ a ∧ a < 0x8080000 then msRead ((a - 0x8000000) / 8) s
  else (false, s)

/-! ## Writes -/

/-- W1C bits of register `a` that the hardware set in this CCLK cycle: no write clears them (R24). -/
def setNow (s : State) (a : Nat) : W64 := tabOr s.w1cSet a 0

/-- A management write of RW fields is noted, to take effect last in its cycle (R417). -/
def noteWrite (a : Nat) (rw v : W64) (s : State) : State := if rw = 0 then s else { s with wrote := s.wrote ++ [(a, rw, v &&& rw)] }

/-- A write that changes the register alone: RW fields take the value, a 1 clears a W1C bit unless the hardware set it in the
same cycle, other fields stay (R7 to R11, R24). -/
def plainWrite (a : Nat) (row : RegRow) (v : W64) (s : State) : State :=
  let old := s.reg a
  let rw := BitVec.ofNat 64 row.rw
  let new := ((old &&& ~~~rw) ||| (v &&& rw)) &&& ~~~(v &&& BitVec.ofNat 64 row.w1c &&& ~~~setNow s a)
  noteWrite a rw v (if new = old then s else s.setReg a new)

/-- A write of a word that is less than a granule of its memory: the granule is read first, and a poisoned one stays as it is (R33).
(DEDUCED, notes/assumptions/17.md) -/
def partWrite (a : Nat) (f : State → State) (s : State) : State :=
  let (bad, s) := wordRead a s
  if bad then s else f s

/-- A write of ECB_CNT_k sets the value. What the events of earlier cycles have still to add falls before it: a wrap of it sets the
counter's overflow bit (R382, R383). -/
def ecbCntWrite (a : Nat) (row : RegRow) (v : W64) (s : State) : State :=
  let k := (a - 0x302000) / 8
  plainWrite a row v { s with
    csr := s.ecbPend.foldl (fun c e => match tabGet e.2 k with | some n => ecbAdd c k n | none => c) s.csr
    ecbPend := s.ecbPend.map (fun e => (e.1, tabDel e.2 k)) }

/-- A write of BLOCK_FLT_STATUS: where a source whose bit is cleared has been raised in the same cycle, its reactions are performed
again (R323). -/
def fltClear (b : Blk) (a : Nat) (row : RegRow) (v : W64) (s : State) : State :=
  let hit := s.again.filter (fun x => x.1 == b && v.getLsbD x.2)
  plainWrite a row v { s with raised := s.raised ++ hit, again := s.again.filter (fun x => !hit.contains x) }

/-- The register block, of those with fault registers, whose BLOCK_FLT_STATUS or BLOCK_FLT_INJECT lies at `a`. -/
def fltBlk (a : Nat) : Option Blk := allBlks.find? (fun b => blkFlt b == a / 16 * 16)

/-- The block of an absent engine (R2). -/
def blkAbsent (s : State) (b : Blk) : Bool := match b with | .j n => !present s n.val | _ => false

/-- A write of BLOCK_FLT_INJECT: each source the block can raise is raised (R324). -/
def fltInject (b : Blk) (v : Nat) (s : State) : State :=
  (bitsSet 64 (v &&& blkSources b)).foldl (fun s n => raise b n s) s

/-- A write of FCO_STATUS: a bit whose fault block's error line is still asserted stays set (R332), and so does one set in the
same cycle (R24). -/
def fcoClear (v : W64) (s : State) : State :=
  let line := allBlks.foldl (fun m b => if s.reg (blkFlt b) = 0 then m else m ||| BitVec.ofNat 64 (2 ^ blkFaultBlock b)) (0 : W64)
  s.setReg 0x200008 (s.reg 0x200008 &&& ~~~(v &&& ~~~line &&& ~~~setNow s 0x200008))

/-- A write of GLB_START_GATE.OPEN: opening sends LINK_CTRL START on each UP endpoint port (R94); bytes 33, 34 and 36 to 39 of a
START, which the spec fills for HELLO alone, are 0. (DESIGN CHOICE, notes/assumptions/71.md) -/
def startGate (on : Bool) (s : State) : State :=
  let old := bit (s.regN 0x30) 0
  let s := noteWrite 0x30 1 (BitVec.ofNat 64 (b2n on)) (s.setField 0x30 0 0 (b2n on))
  if on && !old then
    (allPorts.filter (fun n => isEndpoint s n && (s.port n).link == .up && decide ((s.port n).fabver ≥ 1))).foldl (fun s n =>
      sendLinkLocal n tLinkCtrl 1 [(8 * 32, 8, 5)] s) s
  else s

/-- A write of GLB_BOOT_CTRL.LATE_GO: LATE is begun, or resumed at the record that failed (R354). -/
def lateGo (s : State) : State :=
  let st := s.regN 0xAC
  if !coreOn s || bootState s ≠ 6 || bit st 2 || bits st 1 0 == 1 then s
  else
    let i := if bits st 1 0 = 2 then bits st 23 8 else 0
    { s.setField 0xAC 2 2 1 with boot := { s.boot with phase := .late, idx := i, waiting := false } }

/-- A write of GLB_RESTART (R337, R338). -/
def restartWrite (v : Nat) (s : State) : State :=
  if bit v 0 && bit v 2 then (if coreOn s then restartResult 2 4 s else s)
  else if bit v 0 then restartGo (bit v 1) s
  else if bit v 2 then restartHalt s
  else s

/-- Writes in GLB. -/
def glbWrite (a : Nat) (row : RegRow) (v : W64) (s : State) : State :=
  if a = 0x30 then startGate (bit v.toNat 0) s
  else if a = 0x90 then restartWrite v.toNat s
  else if a = 0xA8 then (if bit v.toNat 1 then reboot s else if bit v.toNat 0 then lateGo s else s)
  else if a = 0x100 then sapRequest (bits v.toNat 3 0) s
  else plainWrite a row v s

/-- Writes in a CVU. -/
def cvuWrite (n off : Nat) (v : W64) (s : State) : State :=
  if off = 0x00 then cvuConfig n v.toNat s
  else if off = 0x04 then (if bit v.toNat 0 then cvuInit n s else s)
  else if off = 0x10 then cvuVal n v s
  else if off = 0x20 then cvuFeed n (leBytes 1 v.toNat) s
  else if off = 0x24 then cvuFeed n (leBytes 2 v.toNat) s
  else if off = 0x28 then cvuFeed n (leBytes 4 v.toNat) s
  else s

/-- A write of PU_LINK_CTRL: DISABLE, then RETRAIN, then ACCEPT. (DEDUCED, notes/assumptions/63.md) -/
def linkCtrl (n v : Nat) (s : State) : State :=
  let s := if bit v 2 then linkDisable n s else linkEnable n s
  let s := if bit v 0 then linkRetrain n s else s
  if bit v 1 then linkAccept n s else s

/-- A write of PU_GATE_CTRL; while the image is applied the test follows at once (R351). -/
def gateCtrl (n v : Nat) (s : State) : State :=
  if !bit v 0 then s else if bootState s = 4 then gateSwapApply n (gateSwap n s) else gateSwap n s

/-- Writes in a port unit. -/
def puWrite (n a : Nat) (row : RegRow) (v : W64) (s : State) : State :=
  let off := a % 0x10000
  if off = 0x04 then linkCtrl n v.toNat s
  else if off = 0x48 then gateCtrl n v.toNat s
  else plainWrite a row v s

/-- Writes in the RTE. -/
def rteWrite (a : Nat) (row : RegRow) (v : W64) (s : State) : State :=
  if a = 0x2000010 then rteHold v.toNat s
  else if a = 0x2000020 then rteSwap (bit v.toNat 0) (bit v.toNat 1) s
  else if 0x2020000 ≤ a then partWrite a (cpathWrite ((a - 0x2020000) / 4) v.toNat) s
  else if 0x2002000 ≤ a ∧ a < 0x2002300 then partWrite a (plainWrite a row v) s
  else plainWrite a row v s

/-- Writes in the TCU. -/
def tcuWrite (a : Nat) (row : RegRow) (v : W64) (s : State) : State :=
  if a = 0x3000000 then ctcMaskWrite v.toNat s
  else if a = 0x3000020 then
    (if bit v.toNat 12 then contractDelete (bits v.toNat 11 0) s else contractWrite (bits v.toNat 11 0) s)
  else plainWrite a row v s

/-- A write of CSQ_DIS_CTRL. (DEDUCED, notes/assumptions/62.md) -/
def csqDisCtrl (v : Nat) (s : State) : State := if bit v 4 then sliceForce (v % 16) s else sliceWrite (v % 16) s

/-- Writes in the CSQ. -/
def csqWrite (a : Nat) (row : RegRow) (v : W64) (s : State) : State :=
  if a = 0x4000038 then gcommit v s
  else if a = 0x4000050 then (if bit v.toNat 0 then descRemove s else descRegister s)
  else if a = 0x4000068 then (if bits v.toNat 1 0 = 1 then park s else if bits v.toNat 1 0 = 2 then resume s else s)
  else if a = 0x40000A8 then xcommit v s
  else if a = 0x400F010 then csqDisCtrl v.toNat s
  else if 0x4040000 ≤ a ∧ a < 0x4050000 then (if segmentsInUse s ((a - 0x4040000) / 0x400) then s else partWrite a (plainWrite a row v) s)
  else plainWrite a row v s

/-- A write of J_DIS_CTRL; FORCE without DISABLE enables nothing (R333). -/
def jDisCtrl (n v : Nat) (s : State) : State :=
  if bit v 1 then (if bit v 0 then engineForce n s else s)
  else if bit v 0 then engineDisable n s else engineEnable n s

/-- Word `i` of program memory lies in a VALID range (R264). -/
def pmemLocked (s : State) (n i : Nat) : Bool :=
  (List.range 128).any (fun p => let d := progDir s n (p + 128); bit d 27 && decide (bits d 12 0 ≤ i) && decide (i < bits d 12 0 + bits d 26 13))

/-- A write of a word of program memory. -/
def pmemWrite (n i a : Nat) (row : RegRow) (v : W64) (s : State) : State :=
  if pmemLocked s n i then s else partWrite a (plainWrite a row v) s

/-- Writes in engine `n`; those of an absent engine are ignored (R2). -/
def jWrite (n a : Nat) (row : RegRow) (v : W64) (s : State) : State :=
  let off := a % 0x40000
  if !present s n then s
  else if off = 0x18 then pcommit n v s
  else if off = 0x20 then runCtrl n v.toNat s
  else if off = 0x3F18 then excClr (jBase n + 0x3F00) v.toNat s
  else if off = 0xF010 then jDisCtrl n v.toNat s
  else if 0x10000 ≤ off then pmemWrite n ((off - 0x10000) / 8) a row v s
  else plainWrite a row v s

/-- Writes in the BPM. -/
def bpmWrite (a : Nat) (row : RegRow) (v : W64) (s : State) : State :=
  if a = 0x7000070 then (if bit v.toNat 0 then reconf s else s)
  else if a = 0x7000078 then forceFree (v.setWidth 32) s
  else plainWrite a row v s

/-- Writes in the HEP. -/
def hepWrite (a : Nat) (row : RegRow) (v : W64) (auth : Bool) (s : State) : State :=
  if a = 0x9000000 then hepConfig v.toNat s
  else if a = 0x9000100 then sessCtrl v.toNat auth s
  else if a = 0x9000220 then (if bit v.toNat 0 then attest s else s)
  else plainWrite a row v s

/-- The effect of a write that R21 admits, at register `a`. `auth` says that an ACTIVE session signed it. -/
def regWrite (a : Nat) (row : RegRow) (v : W64) (auth : Bool) (s : State) : State :=
  match fltBlk a with
  | some b =>
    if blkAbsent s b then s else if a % 16 = 8 then fltInject b v.toNat s else fltClear b a row v s
  | none =>
    if a < 0x100000 then glbWrite a row v s
    else if a < 0x200000 then s
    else if a = 0x200008 then fcoClear v s
    else if a = 0x30000C then (if bit v.toNat 0 then snapshotNow s else s)
    else if 0x302000 ≤ a ∧ a < 0x302800 then ecbCntWrite a row v s
    else if 0x400000 ≤ a ∧ a < 0x400800 then cvuWrite ((a - 0x400000) / 0x100) (a % 0x100) v s
    else if 0x1000000 ≤ a ∧ a < 0x1400000 then puWrite ((a - 0x1000000) / 0x10000) a row v s
    else if 0x2000000 ≤ a ∧ a < 0x3000000 then rteWrite a row v s
    else if 0x3000000 ≤ a ∧ a < 0x4000000 then tcuWrite a row v s
    else if 0x4000000 ≤ a ∧ a < 0x5000000 then csqWrite a row v s
    else if 0x5000000 ≤ a ∧ a < 0x6000000 then jWrite ((a - 0x5000000) / 0x40000) a row v s
    else if a = 0x6000F18 then excClr 0x6000F00 v.toNat s
    else if 0x7000000 ≤ a ∧ a < 0x8000000 then bpmWrite a row v s
    else if 0x8000000 ≤ a ∧ a < 0x8080000 then msuValWrite ((a - 0x8000000) / 8) v s
    else if 0x9000000 ≤ a ∧ a < 0xA000000 then hepWrite a row v auth s
    else if a = 0xA000000 then nvmCommand (bits v.toNat 1 0) s
    else plainWrite a row v s

/-! ## The management bus (R21 to R23, R125, R180, R225, R263) -/

/-- Fields of a YMP message (Table 16.2). -/
def YmpFrame.n (m : YmpFrame) (off k : Nat) : Nat := leNat (slice m.bytes off k)

/-- ADDR, COUNT and WIDTH of a READ or WRITE, and the address of its access `i` (Table 16.3). -/
def rwAddr (m : YmpFrame) : Nat := YmpFrame.n m 24 4
def rwCount (m : YmpFrame) : Nat := YmpFrame.n m 28 2
def rwWidth (m : YmpFrame) : Nat := YmpFrame.n m 30 1
def rwAt (m : YmpFrame) (i : Nat) : Nat := (rwAddr m + i * rwWidth m) % 2 ^ 32

/-- The register block of an address (Table 19.1): one number each. -/
def busBlock (a : Nat) : Nat :=
  if 0x1000000 ≤ a ∧ a < 0x2000000 then 0x100 + (a - 0x1000000) / 0x10000
  else if 0x5000000 ≤ a ∧ a < 0x6000000 then 0x200 + (a - 0x5000000) / 0x40000
  else if a < 0x1000000 then 0x300 + a / 0x100000
  else a / 0x1000000

/-- The address of the access that a held one makes next. -/
def BusOp.addr (b : BusOp) : Nat :=
  match b with
  | .write a _ _ => a
  | .ymp _ m _ done _ => rwAt m done

/-- The bus holds an access at `a` for its own sake: a commit while the one before it runs (R23, R180, R225, R263), an access to a
shadow table while COPY is 1 (R125), and a RESUME, which reads the store, while a wipe runs (R286). -/
def busBusy (s : State) (a : Nat) (wr : Bool) : Bool :=
  (wr && a == 0x4000038 && s.grpCommit.isSome) || (wr && a == 0x40000A8 && s.tabCommit.isSome) ||
    (wr && a == 0x4000068 && s.wiping) ||
    (wr && decide (0x5000000 ≤ a) && decide (a < 0x6000000) && a % 0x40000 == 0x18 && (s.engine ((a - 0x5000000) / 0x40000)).loading.isSome) ||
    (bit (s.regN 0x2000024) 2 &&
      ((decide (0x2002000 ≤ a) && decide (a < 0x2002300)) || (decide (0x2020000 ≤ a) && decide (a < 0x2024000))))

/-- The bus holds an access at `a`: for its own sake, or behind a held access to the same register block (R23).
(DEDUCED, notes/assumptions/65.md) -/
def mustHold (s : State) (a : Nat) (wr : Bool) : Bool :=
  busBusy s a wr || s.busHeld.any (fun b => busBlock b.addr == busBlock a)

/-- The write of `v` at register `a` that a command stands for, performed by `f`; the bus may hold it (R23). It reaches no
register while the switch is held in reset. -/
def onBus (a : Nat) (v : W64) (f : State → State) (s : State) : State :=
  if held s then s
  else if mustHold s a true then { s with busHeld := s.busHeld ++ [.write a v false] }
  else f s

/-- A write of `w` bytes at `a` on the management bus: performed at a register of that width, or held; ignored where no register
is, and not performed where R21 refuses it (R21 to R23). -/
def busWrite (a w : Nat) (v : W64) (auth : Bool) (s : State) : State :=
  if held s then s
  else match accessKind a w with
    | .performed row =>
      let v := if w = 4 then v &&& 0xFFFFFFFF else v
      if mustHold s a true then { s with busHeld := s.busHeld ++ [.write a v auth] } else regWrite a row v auth s
    | _ => s

/-- A write by the MGC: one that R21 refuses raises its bus-error trap. -/
def mgcWrite (a w : Nat) (v : W64) (s : State) : State :=
  if !held s && accessKind a w = .refused then { s with mgcTraps := s.mgcTraps + 1 } else busWrite a w v false s

/-- A register write that reaches no register while the switch is held in reset. -/
def live (f : State → State) (s : State) : State := if held s then s else f s

end Sys2Proof.Machine
end

