-- ==== Sys2Proof/Machine/BootOps.lean ====
section
/-!
DEFINITION. Start-up: reading, verifying and applying an image copy, recovery mode, discovery's end, and the LATE section
(R346 to R354, R84, R85, R90, R91, R111).
-/

namespace Sys2Proof.Machine

/-! ## The image copy in hand -/

/-- Flash address of the copy being tried (R346). -/
def copyBase (s : State) : Nat := s.boot.copy * 0x4000000

/-- `n` bytes of the copy from offset `off`; flash beyond its size delivers 0xFF, as erased flash does. -/
def img (s : State) (off n : Nat) : List Byte :=
  (List.range n).map (fun i =>
    if copyBase s + off + i < s.flashSize then cellGet 0xFF s.flash (copyBase s + off + i) else 0xFF)

/-- A little-endian field of the header (Table 15.4). -/
def imgN (s : State) (off n : Nat) : Nat := leNat (img s off n)

/-- IMG_LEN, NSECT and KEYSLOT. -/
def imgLen (s : State) : Nat := imgN s 16 8
def imgSect (s : State) : Nat := imgN s 14 2
def imgSlot (s : State) : Nat := imgN s 13 1

/-- The digest D: SHAKE256 over all but the signature. -/
def imgDigest (s : State) : List Byte := Config.shake256 (img s 0 (imgLen s - 1280))

/-- A section: TYPE, OFFSET, LENGTH. -/
structure Sect where
  typ : Nat
  off : Nat
  len : Nat
deriving DecidableEq, Repr

/-- The entries of the section table. -/
def imgSections (s : State) : List Sect :=
  (List.range (imgSect s)).map (fun i => let b := 2064 + 16 * i; ⟨imgN s b 1, imgN s (b + 4) 4, imgN s (b + 8) 4⟩)

/-- The section of a type. -/
def sectOf (s : State) (t : Nat) : Option Sect := (imgSections s).find? (fun x => x.typ == t)

/-- Its bytes. -/
def sectBytes (s : State) (t : Nat) : Option (List Byte) := (sectOf s t).map (fun x => img s x.off x.len)

/-- Rows 2 to 7 of Table 15.6; 0 when all pass. -/
def headerReason (s : State) : Nat :=
  if img s 0 4 ≠ [0x59, 0x43, 0x46, 0x31] ∨ imgN s 4 2 ≠ 256 ∨ imgN s 6 2 ≠ 1 then 2
  else if imgN s 8 2 ≠ 0x6440 ∨ !bit (imgN s 10 1) (s.fuses.grade - 1) then 3
  else if imgLen s % 16 ≠ 0 ∨ imgLen s > 67108864 ∨ copyBase s + imgLen s > s.flashSize then 4
  else if !validSlot s.fuses (imgSlot s) ∨ s.fuses.hashes.getD (imgSlot s) [] ≠ Config.shake256 (img s 256 1793) then 5
  else if (bit (imgN s 11 1) 0 ∧ s.fuses.lcState = 2) ∨ imgN s 11 1 > 1 ∨ imgN s 28 228 ≠ 0 then 6
  else if imgN s 12 1 < s.fuses.minSvn then 7
  else 0

/-- Sections in ascending order, apart, and within the bounds. -/
def sectPlaces (lo hi : Nat) (l : List Sect) : Bool :=
  match l with
  | [] => true
  | x :: r => x.off % 16 == 0 && decide (lo ≤ x.off) && decide (x.off + x.len ≤ hi) && sectPlaces (x.off + x.len) hi r

/-- Row 8: the section table breaks Table 15.5. -/
def sectionsBad (s : State) : Bool :=
  let l := imgSections s
  let n := fun t => (l.filter (fun x => x.typ == t)).length
  let rsv := (List.range (imgSect s)).any (fun i => imgN s (2064 + 16 * i + 1) 3 != 0 || imgN s (2064 + 16 * i + 12) 4 != 0)
  decide (imgSect s < 3) || decide (imgSect s > 16) || rsv || l.any (fun x => x.typ == 0 || decide (x.typ > 7)) ||
    !sectPlaces (2064 + 16 * imgSect s) (imgLen s - 1280) l || n 1 != 1 || n 2 != 1 || n 3 != 1 ||
    [4, 5, 6, 7].any (fun t => decide (n t > 1))

/-- Row 10: the HOSTKEY tag, and the lengths of REGS and LATE. (DESIGN CHOICE, notes/assumptions/44.md) -/
def hostKeyBad (s : State) : Bool :=
  (match sectBytes s 5 with
   | some b => Config.kmac256 s.fuses.sealKey (b.take 32 ++ imgDigest s) [] 32 != slice b 32 32
   | none => false) || [6, 7].any (fun t => ((sectOf s t).map (fun x => x.len % 16 != 0)).getD false)

/-- SAP_CLKSET within Table 15.18, with no listed frequency moved (R26). -/
def clkOk (v : Nat) : Bool := bits v 1 0 != 3 && bits v 3 2 != 3 && v / 16 == 0

/-- Row 11 on the bytes of SAPSET. -/
def sapsetBad (b : List Byte) : Bool :=
  let w := fun i => leNat (slice b (64 + 4 * i) 4)
  !(List.range 64).all (fun n => reactionOk n (b.getD n 0).toNat) || !thermOk (w 0) || !powerOk (w 1) || !clkOk (w 2) || decide (w 3 > 1)

/-- A field of LAYOUT, in the order of Table 15.5 (DESIGN CHOICE, notes/assumptions/43.md). -/
def layoutN (b : List Byte) (off n : Nat) : Nat := leNat (slice b off n)

/-- Entries of PLAN: slot, coordinate, expected far ends. -/
def planEntries (b : List Byte) : List (Nat × W32 × List W32) :=
  (chunksOf 264 (b.length / 264) b).map (fun e =>
    (leNat (e.take 4), BitVec.ofNat 32 (leNat (slice e 4 4)), (List.range 64).map (fun i => BitVec.ofNat 32 (leNat (slice e (8 + 4 * i) 4)))))

/-- Lowest address of the staging area. -/
def stagingBase : Nat := storeEnd - 0x4000000

/-- Row 12 on the bytes of LAYOUT and PLAN. -/
def layoutBad (plan : Bool) (b : List Byte) (p : Option (List Byte)) : Bool :=
  let dim := fun k => bits (layoutN b 0 4) (8 * k + 6) (8 * k)
  let lo := layoutN b 4 8
  let hi := lo + layoutN b 12 4 * 2 ^ 20
  let es := planEntries (p.getD [])
  [0, 1, 2].any (fun k => dim k == 0 || decide (dim k > if k = 2 then 8 else 16)) ||
    lo % 2 ^ 20 != 0 || decide (hi > storeEnd) || (decide (lo < hi) && decide (hi > stagingBase)) ||
    (plan && p.isNone) ||
    es.any (fun e => [0, 1, 2].any (fun k => decide (cwAxis e.2.1.toNat k ≥ dim k))) ||
    (es.map (·.1)).eraseDups.length != es.length || (es.map (fun e => cwSw e.2.1.toNat)).eraseDups.length != es.length

/-- LAYOUT sets J_DIS_CTRL.DISABLE of an engine that is absent: the image is refused with reason ABSENT (R4).
(DEDUCED, notes/assumptions/72.md) -/
def layoutAbsent (s : State) (b : List Byte) : Bool := (List.range 64).any (fun n => bit (layoutN b 36 8) n && !present s n)

/-! ## Copies and recovery (R346, R347, R353) -/

/-- GLB_BOOT_STATUS.STATE. -/
def setBoot (st : Nat) (s : State) : State := s.setField 0xA0 3 0 st

/-- Recovery mode is entered, with its event. -/
def enterRecovery (s : State) : State :=
  let s := setBoot 7 s
  pushEvent { s with boot := { s.boot with phase := .idle } } evRecovery 0xFF (s.reg 0xA0)

/-- The copy in hand, or recovery mode when none is left or the life cycle admits none (R346, Table 15.9). -/
def tryCopy (s : State) : State :=
  if s.fuses.lcState = 0 ∨ s.fuses.lcState = 3 ∨ s.boot.copy > 1 then enterRecovery s
  else setBoot 2 { s with boot := { s.boot with read := 0, phase := .idle } }

/-- FAIL0 or FAIL1. -/
def setFail (why : Nat) (s : State) : State :=
  let lo := 8 + 4 * s.boot.copy
  s.setField 0xA0 (lo + 3) lo why

/-- A copy that fails a check of Table 15.6 is abandoned. -/
def failCopy (why : Nat) (s : State) : State :=
  let s := setFail why s
  tryCopy { s with boot := { s.boot with copy := s.boot.copy + 1 } }

/-- A register that R353 leaves as it is: those of the SAP, the NVM and the CLK block, the fault records, GLB_BOOT_STATUS, the
strap samples, and what the SAP's throttling has measured. (DEDUCED, notes/assumptions/45.md) -/
def keptByRetry (a : Nat) : Bool :=
  (decide (0x100000 ≤ a) && decide (a < 0x200000)) || a == 0x200008 || a == 0x200010 || a == 0x200018 ||
    decide (0xA000000 ≤ a) || (fltBlk a).isSome || a == 0xA0 || a == 0x24 || a == 0xC0 || (decide (0x200 ≤ a) && decide (a < 0x270))

/-- A record or a final check fails: every block but those of R353 is reset, every memory wiped, and the next copy tried. -/
def failApply (why idx rr : Nat) (s : State) : State :=
  let s := ((setFail why s).setField 0xA0 39 16 idx).setField 0xA0 43 40 rr
  let t := { State.reset with
    pending := s.pending
    fresh := s.fresh
    now := s.now
    aclk := s.aclk
    w1cSet := s.w1cSet
    again := s.again
    jtag := s.jtag
    stopsLeft := s.stopsLeft
    raised := s.raised
    pins := s.pins
    fuses := s.fuses
    flash := s.flash
    flashSize := s.flashSize
    csr := s.csr.filter (fun e => keptByRetry e.1)
    boot := { Boot.reset with copy := s.boot.copy + 1, sapReq := s.boot.sapReq, nvmOp := s.boot.nvmOp }
    hep := { Hep.reset with ports := s.hep.ports.map (fun (h : HostPort) => { HostPort.reset with out := h.out }) } }
  wipeStart 1 (setBoot 1 (t.setRegN 0x20 (s.field 0x20 18 18 * 2 ^ 18)))

/-- WIPE_COMPLETE (R286, Table 15.2). -/
def wipeComplete (s : State) : State :=
  if held s || !s.wiping then s
  else
    let s := { s.setField 0x6000020 0 0 0 with wiping := false }
    if bootState s = 1 then tryCopy s else s

/-- IMAGE_HEADER_READ: rows 1 to 7 of Table 15.6. -/
def imageHeaderRead (ok : Bool) (s : State) : State :=
  if !coreOn s || bootState s ≠ 2 || s.boot.read ≠ 0 then s
  else
    let why := if ok then headerReason s else 1
    if why ≠ 0 then failCopy why s else { s with boot := { s.boot with read := 1 } }

/-- SECTION_TABLE_READ: row 8. -/
def sectionTableRead (ok : Bool) (s : State) : State :=
  if !coreOn s || bootState s ≠ 2 || s.boot.read ≠ 1 then s
  else if !ok then failCopy 1 s
  else if sectionsBad s then failCopy 8 s
  else { s with boot := { s.boot with read := 2 } }

/-! ## Applying SAPSET and LAYOUT (R349) -/

/-- SAPSET into the SAP's registers. -/
def applySapset (b : List Byte) (s : State) : State :=
  let w := fun i => leNat (slice b (64 + 4 * i) 4)
  let s := (List.range 64).foldl (fun s n => s.setRegN (0x100100 + 4 * n) (b.getD n 0).toNat) s
  (((s.setRegN 0x100200 (w 0)).setRegN 0x100208 (w 1)).setRegN 0x100210 (w 2)).setRegN 0x100220 (w 3)

/-- In COLLECTED mode FCO_STATUS shows the error lines asserted (R332). -/
def collectLines (s : State) : State :=
  if !collected s then s
  else allBlks.foldl (fun s b => if s.reg (blkFlt b) = 0 then s
    else s.setReg 0x200008 (s.reg 0x200008 ||| BitVec.ofNat 64 (2 ^ blkFaultBlock b))) s

/-- LAYOUT into the registers Table 15.5 names. -/
def applyLayout (b : List Byte) (s : State) : State :=
  let s := s.setRegN 0x2000004 (layoutN b 0 4 &&& 0x7F7F7F)
  let s := (s.setRegN 0x4000008 (layoutN b 4 8 % 2 ^ 40)).setRegN 0x4000010 (layoutN b 12 4 % 2 ^ 16)
  let s := (List.range 4).foldl (fun s q => s.setRegN (0x3000030 + 4 * q) (layoutN b (16 + 4 * q) 4 % 2 ^ 16)) s
  let s := collectLines (s.setRegN 0x200000 (layoutN b 32 4 % 2))
  let s := ((List.range 64).filter (fun n => present s n && bit (layoutN b 36 8) n)).foldl (fun s n =>
    (s.setRegN (jBase n + 0xF010) 1).modEngine n (fun e => { e with dis := .disabled })) s
  let m := layoutN b 44 4 % 16
  (List.range 4).foldl (fun s q => if bit m q then setSlice q .disabled s else s) (s.setRegN 0x400F010 m)

/-- The switch finds its place (R84, R85). (DESIGN CHOICE, notes/assumptions/44.md) -/
def placeSwitch (plan : List (Nat × W32 × List W32)) (s : State) : State :=
  let slot := s.field 0x24 17 0
  let s := { s with boot := { s.boot with plan := plan } }
  if planMode s then
    match plan.find? (fun e => e.1 == slot) with
    | some e => (s.setField 0x20 17 0 (cwSw e.2.1.toNat)).setField 0x20 20 19 1
    | none => s.setField 0x20 20 19 2
  else if [0, 1, 2].any (fun k => decide (cwAxis slot k ≥ dimAxis s k)) then s.setField 0x20 20 19 3
  else (s.setField 0x20 17 0 slot).setField 0x20 20 19 1

/-- Bytes of two lists combined. -/
def xorBytes (a b : List Byte) : List Byte := (a.zip b).map (fun x => x.1 ^^^ x.2)

/-- The host key of an image (R349, Table 15.5). -/
def unsealKey (s : State) (b : List Byte) : List Byte :=
  xorBytes (b.take 32) ((Config.shake256 (s.fuses.sealKey ++ imgDigest s)).take 32)

/-- Register records (Table 15.7). -/
def readRecs (b : List Byte) : List RegRec :=
  (chunksOf 16 (b.length / 16) b).map (fun r =>
    ⟨leNat (r.take 4), leNat (slice r 4 1), leNat (slice r 5 1), BitVec.ofNat 64 (leNat (slice r 8 8))⟩)

/-- A verified copy is applied up to its REGS records; the firmware stands in MGC SRAM, and the MGC has started (R349, steps 1
to 5). -/
def applyImage (s : State) : State :=
  let get := fun t => (sectBytes s t).getD []
  let key := (sectBytes s 5).map (unsealKey s)
  let d := imgDigest s
  let svn := imgN s 12 1
  let info := svn % 64 + imgSlot s % 4 * 2 ^ 6 + imgN s 11 1 % 2 * 2 ^ 8 + imgN s 24 4 * 2 ^ 32
  let regs := readRecs (get 6)
  let late := readRecs (get 7)
  let t := placeSwitch (planEntries (get 4)) (applyLayout (get 2) (applySapset (get 1) s))
  setBoot 4 { t.setRegN 0xB0 info with
    mgcSram := get 3
    mgcOn := true
    hep := { t.hep with hostKey := key }
    boot := { t.boot with phase := .regs, regs := regs, late := late, idx := 0, waiting := false, svn := svn, digest := d } }

/-- IMAGE_READ_COMPLETE: the copy stands in the staging area; rows 9 to 12, and the apply begins. -/
def imageReadComplete (ok : Bool) (s : State) : State :=
  if !coreOn s || bootState s ≠ 2 || s.boot.read ≠ 2 then s
  else if !ok then failCopy 1 s
  else
    let all := img s 0 (imgLen s)
    let t := setBoot 3 { s with mem := cellWrite 0 s.mem stagingBase all }
    if !Config.falconVerify (img s 256 1793) (imgDigest s) (img s (imgLen s - 1280) 1280) then failCopy 9 t
    else if hostKeyBad s then failCopy 8 t
    else if sapsetBad ((sectBytes s 1).getD []) then failCopy 10 t
    else if layoutBad (planMode s) ((sectBytes s 2).getD []) (sectBytes s 4) then failCopy 11 t
    else if layoutAbsent s ((sectBytes s 2).getD []) then failCopy 13 t
    else applyImage t

/-! ## Register records (R350) -/

/-- REASON of the status register at `a`, where it has such a field. -/
def statusReason (a v : Nat) : Nat :=
  if a = 0x7000074 then bits v 5 2
  else if [0x94, 0xAC, 0x104, 0x3000024, 0x400003C, 0x4000054, 0x400006C, 0x40000AC, 0xA000010].contains a then bits v 7 4
  else if 0x1000000 ≤ a ∧ a < 0x1400000 ∧ a % 0x10000 = 0x4C then bits v 7 4
  else if 0x5000000 ≤ a ∧ a < 0x6000000 ∧ a % 0x40000 = 0x1C then bits v 7 4
  else 0

/-- The record's access as cases 1 to 3 of R350 judge it; 0 when it may be made. -/
def recordReason (s : State) (r : RegRec) : Nat :=
  let w := if r.kind = 2 then 8 else 4
  if r.kind = 0 ∨ r.kind > 3 then 12
  else if 0x5000000 ≤ r.addr ∧ r.addr < 0x6000000 ∧ !present s ((r.addr - 0x5000000) / 0x40000) then 13
  else if (0x100000 ≤ r.addr ∧ r.addr < 0x200000) ∨ r.addr % w ≠ 0 ∨ accessKind r.addr w = .refused then 12
  else 0

/-- The records of the section in hand. -/
def recList (s : State) : List RegRec := match s.boot.phase with | .regs => s.boot.regs | .late => s.boot.late | .idle => []

/-- LATE has been performed. -/
def lateDone (s : State) : State := { s.setRegN 0xAC 1 with boot := { s.boot with phase := .idle } }

/-- The record in hand has failed. -/
def recordFail (why rr : Nat) (s : State) : State :=
  match s.boot.phase with
  | .regs => failApply why s.boot.idx rr s
  | .late =>
    { s.setRegN 0xAC (2 + why * 2 ^ 4 + s.boot.idx % 2 ^ 16 * 2 ^ 8 + rr * 2 ^ 24) with
      boot := { s.boot with phase := .idle, waiting := false } }
  | .idle => s

/-- The record in hand has passed. -/
def recordPass (s : State) : State :=
  let t := { s with boot := { s.boot with idx := s.boot.idx + 1, waiting := false } }
  if t.boot.phase = .late ∧ t.boot.idx ≥ t.boot.late.length then lateDone t else t

/-- The status register of a COMMIT record is read once. -/
def recordPoll (r : RegRec) (s : State) : State :=
  let (bad, s) := wordRead (r.addr + 4) s
  let v := if bad then 0 else ((busRead s (r.addr + 4) 4).getD 0).toNat
  if r.busyBit ≠ 0xFF ∧ bit v r.busyBit then { s with boot := { s.boot with waiting := true } }
  else if bits v 1 0 = 1 then recordPass s
  else recordFail 12 (statusReason (r.addr + 4) v) s

/-- One record written; a write that resets the chip ends its section with it, and a COMMIT where no register is passes (R22,
R350). -/
def recordWrite (r : RegRec) (s : State) : State :=
  let w := if r.kind = 2 then 8 else 4
  let t := busWrite r.addr w r.value false s
  if t.boot.phase ≠ s.boot.phase then t
  else if r.kind = 3 ∧ accessKind r.addr 4 ≠ .absent then recordPoll r t
  else recordPass t

/-- A granule of MGC SRAM. -/
def mgcGranule (g : GMem) : Bool := match g with | .mgc _ => true | _ => false

/-- The MGC reads its SRAM (R33): whether it meets poison, which no LATE record is then performed from.
(DEDUCED, notes/assumptions/72.md) -/
def mgcRead (s : State) : Bool × State :=
  let (bad, _, s) := memScan .glb mgcGranule s
  (!bad.isEmpty, s)

/-- REGS_RECORD: the next record of the section in hand, or the next poll of its COMMIT; a record whose access the bus must hold
is performed by a later one (R23). -/
def regsRecord (s : State) : State :=
  if !coreOn s then s
  else match (recList s)[s.boot.idx]? with
    | none => if s.boot.phase = .late then lateDone s else s
    | some r =>
      if s.boot.waiting then recordPoll r s
      else if mustHold s r.addr true then s
      else
        let (bad, s) := mgcRead s
        if bad && s.boot.phase == .late then recordFail 12 0 s
        else if recordReason s r ≠ 0 then recordFail (recordReason s r) 0 s
        else recordWrite r s

/-- COMMIT_BUSY_TIMEOUT. -/
def commitBusyTimeout (s : State) : State :=
  if !coreOn s || !s.boot.waiting then s
  else match (recList s)[s.boot.idx]? with
    | none => s
    | some r =>
      if r.busyBit ≠ 0xFF ∧ bit ((busRead s (r.addr + 4) 4).getD 0).toNat r.busyBit then recordFail 14 0 s else s

/-! ## The configuration is applied (R352) -/

/-- PU_LINK_CFG of every port by R67; DIR of a port that is no trunk is not looked at. (DESIGN CHOICE, notes/assumptions/75.md) -/
def linkCfgOk (s : State) : Bool :=
  allPorts.all (fun n => s.field (puBase n) 1 0 != roleTrunk ||
    (decide (s.field (puBase n) 4 2 ≤ 5) && dimAxis s (s.field (puBase n) 4 2 / 2) != 1))

/-- The minimal signpost entry for coordinate `v` from `c` on a ring of `n` (R111): PLUS and MINUS. -/
def autoEntry (c v n : Nat) : Nat :=
  let p := (v + n - c) % n
  let m := (c + n - v) % n
  b2n (decide (0 < p) && decide (p ≤ m)) + b2n (decide (0 < m) && decide (m ≤ p)) * 2

/-- Active and shadow signpost tables filled; entries at and beyond the axis's dimension stay as they stand (R111).
(DESIGN CHOICE, notes/assumptions/75.md) -/
def autoFill (s : State) : State :=
  [0, 1, 2].foldl (fun s a => (List.range (dimAxis s a)).foldl (fun s v =>
    let e := autoEntry (cwAxis (ownSw s) a) v (dimAxis s a)
    (s.setRegN (0x2001000 + a * 0x100 + v * 4) e).setRegN (0x2002000 + a * 0x100 + v * 4) e) s) s

/-- The role, direction and widest width of a port as the image gives them (R67, R107). (DEDUCED, notes/assumptions/12.md) -/
def takeRole (n : Nat) (s : State) : State :=
  let (r, d) := trainRole s n
  let w := s.field (puBase n) 6 5
  s.modPort n (fun q => { q with role := r, dir := d, maxw := w })

/-- Every port takes its role, and one that is not disabled begins to train (R67, R90). -/
def trainAll (s : State) : State :=
  allPorts.foldl (fun s n => if bit (s.regN (puBase n + 0x04)) 2 then takeRole n s else beginTraining n s) s

/-- FINAL_CHECKS: the staging area's wipe keeps the CAUSE of the wipe before it. (DESIGN CHOICE, notes/assumptions/18.md) -/
def finalChecks (s : State) : State :=
  if !coreOn s || bootState s ≠ 4 || s.boot.phase != .regs || s.boot.waiting || decide (s.boot.idx < s.boot.regs.length) then s
  else if !linkCfgOk s || !bpmLegal s (fun a => s.regN a) then failApply 11 0xFFFFFF 0 s
  else
    let s := setBoot 5 ((bpmApply s).setField 0xA0 4 4 s.boot.copy)
    let s := wipeStart (s.field 0x6000020 2 1) (wipeRange stagingBase storeEnd (if bit (s.regN 0x2000000) 0 then autoFill s else s))
    let s := { s with boot := { s.boot with applied := true, phase := .idle, windowOpen := placed s } }
    if placed s then trainAll s else s

/-! ## Discovery's end (R90, R91) -/

/-- No port with a role is PENDING; a port that has not trained has the role it would train with. (DEDUCED,
notes/assumptions/12.md) -/
def noPending (s : State) : Bool := allPorts.all (fun n =>
  (if (s.port n).link == .disabled then (trainRole s n).1 else (s.port n).role) == roleNone || (s.port n).disc != .pending)

/-- READY is set and the host told. -/
def nowReady (s : State) : State :=
  let s := setBoot 6 (s.setField 0x30 1 1 1)
  pushEvent s evReady 0xFF (BitVec.ofNat 64 (discSum s))

/-- FABRIC_READY. -/
def fabricReady (s : State) : State :=
  if !portsLive s || ready s || bootState s ≠ 5 || (s.boot.windowOpen && !noPending s) then s else nowReady s

/-- A port at the close of the window. -/
def closePort (n : Nat) (s : State) : State :=
  let q := s.port n
  if q.link == .disabled then s
  else if q.role != roleNone && q.disc == .pending then
    setDisc n .missing (s.modPort n (fun q => { q with link := .heldDown, laneUse := 0 }))
  else if q.role == roleNone && q.link == .detect then s.modPort n (fun q => { q with link := .heldDown, laneUse := 0 })
  else s

/-- DISCOVERY_WINDOW_CLOSE; READY follows at once. -/
def discoveryWindowClose (s : State) : State :=
  if !coreOn s || !s.boot.windowOpen then s
  else fabricReady (allPorts.foldl (fun s n => closePort n s) { s with boot := { s.boot with windowOpen := false } })

end Sys2Proof.Machine
end

