-- ==== Sys2Proof/Machine/YmpOps.lean ====
section
/-!
DEFINITION. The management protocol: framing and authentication (R367, R368, R371, R372), READ and WRITE (R369), event
acknowledgement (R379), and BULK (R287, R375 to R377).
-/

namespace Sys2Proof.Machine

/-! ## Framing -/

/-- Fields of a message (Table 16.2). -/
def YmpFrame.typ (m : YmpFrame) : Nat := YmpFrame.n m 1 1
def YmpFrame.auth (m : YmpFrame) : Bool := bit (YmpFrame.n m 2 1) 0
def YmpFrame.seq (m : YmpFrame) : Nat := YmpFrame.n m 4 4
def YmpFrame.sess (m : YmpFrame) : Nat := YmpFrame.n m 8 1
def YmpFrame.ctr (m : YmpFrame) : Nat := YmpFrame.n m 12 4
def YmpFrame.len (m : YmpFrame) : Nat := YmpFrame.n m 16 4

/-- The payload. -/
def YmpFrame.pay (m : YmpFrame) : List Byte := slice m.bytes 24 (YmpFrame.len m)

/-- Header and payload, which a tag covers. -/
def YmpFrame.body (m : YmpFrame) : List Byte := m.bytes.take (24 + YmpFrame.len m)

/-- Status codes (Table 16.4). -/
def yOk : Nat := 0
def yAccess : Nat := 1
def yAuth : Nat := 2
def yDenied : Nat := 3
def yMalformed : Nat := 4
def yRange : Nat := 5
def yPoison : Nat := 6
def yPartial : Nat := 7
def yTimeout : Nat := 8
def yBusy : Nat := 9

/-- Where the answer to a message goes (R365). -/
def YmpFrame.dest (m : YmpFrame) : HostDest := ⟨m.srcMac, m.via, m.vlan⟩

/-- Port `h` takes the frame as a YMP message: its MAC address is one of the port's, its length is within 9,216 bytes, its
carrier is enabled, and a datagram is for an address of the port and for UDP_PORT (R363 to R365, R367). -/
def carrierOn (s : State) (h : Nat) (m : YmpFrame) : Bool :=
  macAccepts s h m.dstMac && carrierLive s m.via &&
    (match m.via with
     | .ether => decide (frameOverhead m.vlan false + m.bytes.length ≤ 9216)
     | .udp _ _ p ip => p.toNat == s.field 0x9000000 23 8 && hostIp s h ip &&
       decide (frameOverhead m.vlan true + m.bytes.length ≤ 9216))

/-- The frame is discarded without an answer (R368). -/
def ympDropped (m : YmpFrame) : Bool :=
  decide (m.bytes.length < 24) || YmpFrame.n m 0 1 != 1 || !([1, 3, 6, 7, 8].contains (YmpFrame.typ m))

/-- LEN disagrees with the frame, or a reserved field is nonzero (R368, Table 16.2). -/
def ympMalformed (m : YmpFrame) : Bool :=
  let a := YmpFrame.auth m
  m.bytes.length != 24 + YmpFrame.len m + (if a then 16 else 0) || decide (YmpFrame.n m 2 1 > 1) || YmpFrame.n m 3 1 != 0 ||
    YmpFrame.n m 9 3 != 0 || YmpFrame.n m 20 4 != 0 || (!a && (YmpFrame.sess m != 0 || YmpFrame.ctr m != 0))

/-- R371 on an authenticated request. -/
def ympAuthentic (s : State) (m : YmpFrame) : Bool :=
  let x := s.session (YmpFrame.sess m)
  let c := YmpFrame.ctr m
  decide (YmpFrame.sess m < 4) && x.st == .active && c != 0 && c != 0xFFFFFFFF &&
    (decide (c > x.high) || (decide (c < x.high) && decide (x.high ≤ c + 64) && !x.seen.contains c)) &&
    m.bytes.drop (24 + YmpFrame.len m) == Config.kmac256 x.key (YmpFrame.body m) strYmpReq 16

/-- CTR accepted: the highest, and those accepted within 64 below it. -/
def ctrAccept (m : YmpFrame) (s : State) : State :=
  let x := s.session (YmpFrame.sess m)
  let c := YmpFrame.ctr m
  let h := max x.high c
  s.setSession (YmpFrame.sess m) { x with high := h, seen := (c :: x.seen).filter (fun y => decide (h ≤ y + 64)) }

/-- The key that tags an answer: the session's of a request that carried AUTH, while its slot is ACTIVE. -/
def answerKey (s : State) (m : YmpFrame) : Option (List Byte) :=
  let x := s.session (YmpFrame.sess m)
  if YmpFrame.auth m && decide (YmpFrame.sess m < 4) && x.st == .active then some x.key else none

/-- An answer on port `h`, while its link is up and its carrier enabled (R367). An untagged one names no session (Table 16.2); CTR of a
tagged one is a value R371 does not state. (DEDUCED, notes/assumptions/48.md) -/
def ympAnswer (h typ status seq sess : Nat) (d : HostDest) (pay : List Byte) (key : Option (List Byte)) (s : State) : State :=
  if !(s.host h).link || !carrierLive s d.via then s
  else
    let ctr := if key.isSome then (Config.firmwareWord s.fresh).toNat else 0
    (s.hostSend h (.ymp d (ympBytes typ status seq (if key.isSome then sess else 0) ctr pay key))).draw

/-- The payload of a BULK_RSP; a field its rule leaves open is a free value. -/
def bulkRspPay (xid : Nat) (first missing : Option Nat) (s : State) : List Byte :=
  leBytes 4 xid ++ leBytes 4 0 ++ leBytes 8 (first.getD (Config.firmwareWord (s.fresh + 1)).toNat) ++
    leBytes 8 (missing.getD (Config.firmwareWord (s.fresh + 2)).toNat)

/-- A BULK_RSP. -/
def bulkRsp (h status seq sess : Nat) (d : HostDest) (xid : Nat) (first missing : Option Nat) (key : Option (List Byte)) (s : State) : State :=
  (ympAnswer h 0x0A status seq sess d (bulkRspPay xid first missing s) key s).draw.draw

/-- A request refused as a whole: by its answer's type, with nothing performed (R368). (DEDUCED, notes/assumptions/48.md) -/
def ympRefuse (h status : Nat) (m : YmpFrame) (key : Option (List Byte)) (s : State) : State :=
  let t := YmpFrame.typ m
  if t = 1 then ympAnswer h 2 status (YmpFrame.seq m) (YmpFrame.sess m) (YmpFrame.dest m) [] key s
  else if t = 3 then ympAnswer h 4 status (YmpFrame.seq m) (YmpFrame.sess m) (YmpFrame.dest m) (leBytes 8 0) key s
  else if t = 6 then s
  else bulkRsp h status (YmpFrame.seq m) (YmpFrame.sess m) (YmpFrame.dest m) (YmpFrame.n m 24 4) (some (YmpFrame.n m 28 4)) none key s

/-- An EVENT_ACK that R372 refuses: it is not authenticated, and acknowledges an event that was sent tagged. -/
def ackRefused (s : State) (m : YmpFrame) : Bool :=
  YmpFrame.typ m == 6 && !YmpFrame.auth m && s.hep.events.any (fun x => decide (x.eseq ≤ YmpFrame.n m 24 8) && x.tagged)

/-! ## READ and WRITE (R369) -/

/-- A field breaks Table 16.3 or R369. -/
def rwMalformed (m : YmpFrame) : Bool :=
  let data := if YmpFrame.typ m = 3 then rwCount m * rwWidth m else 0
  rwCount m == 0 || decide (rwCount m > 128) || (rwWidth m != 4 && rwWidth m != 8) || YmpFrame.n m 31 1 != 0 || YmpFrame.len m != 8 + data

/-- Not a code of Table 16.4: the access is one that the management bus holds (R23). -/
def yHeld : Nat := 256

/-- The bus holds an access of a message. Behind a latched halt, where what an access waits for never ends, no message waits: a READ is
served, and a WRITE answered (R330). (DEDUCED, notes/assumptions/65.md) -/
def ympHold (s : State) (a : Nat) (wr : Bool) : Bool := !latched s && mustHold s a wr

/-- The values read, up to the first access that is refused, or held, or meets a poisoned granule (R33); and the status so far.
(DEDUCED, notes/assumptions/48.md) -/
def ympReads (w : Nat) : List Nat → State → List W64 × Nat × State
  | [], s => ([], yOk, s)
  | a :: r, s =>
    if ympHold s a false then ([], yHeld, s)
    else if busRead s a w = none then ([], yAccess, s)
    else
      let (bad, t) := wordRead a s
      if bad then ([], yPoison, t)
      else
        let (vs, st, u) := ympReads w r t
        (readReg t a :: vs, st, u)

/-- A message of the HEP's waits at the bus: the accesses of a later one wait behind it (R23). -/
def ympWaiting (s : State) : Bool := !latched s && s.busHeld.any (fun b => match b with | .ymp .. => true | _ => false)

/-- A READ from access `done` on, `vals` read so far: answered when it ends, or held. -/
def ympReadGo (h : Nat) (m : YmpFrame) (key : Option (List Byte)) (done : Nat) (vals : List W64) (s : State) : State :=
  let w := rwWidth m
  let (vs, st, s) := if ympWaiting s then ([], yHeld, s) else ympReads w ((List.range (rwCount m - done)).map (fun i => rwAt m (done + i))) s
  let vals := vals ++ vs
  if st = yHeld then { s with busHeld := s.busHeld ++ [.ymp h m key vals.length vals] }
  else
    let pay := vals.flatMap (fun v => leBytes w v.toNat) ++ List.replicate ((rwCount m - vals.length) * w) 0
    ympAnswer h 2 st (YmpFrame.seq m) (YmpFrame.sess m) (YmpFrame.dest m) pay key s

/-- READ. -/
def ympReadBody (h : Nat) (m : YmpFrame) (key : Option (List Byte)) (s : State) : State :=
  if rwMalformed m then ympRefuse h yMalformed m key s else ympReadGo h m key 0 [] s

/-- Registers a message without a session may write (R372). -/
def openReg (a : Nat) : Bool :=
  (decide (0x9000110 ≤ a) && decide (a < 0x9000130)) || (decide (0x9000150 ≤ a) && decide (a < 0x9000170)) || a == 0x9000100 ||
    (decide (0x9000200 ≤ a) && decide (a < 0x9000220)) || a == 0x9000220

/-- Registers recovery mode admits writes to (R347). -/
def recoveryReg (a : Nat) : Bool :=
  (decide (0xA000000 ≤ a) && decide (a < 0xB000000)) || a == 0xA8 || a == 0x100 || (decide (0x2000 ≤ a) && decide (a < 0x4000))

/-- A write's status before R21 is applied: 0 when it may be made (R330, R347, R370, R372). -/
def writeStatus (s : State) (a : Nat) (v : Nat) (auth : Bool) : Nat :=
  if latched s then yDenied
  else if bootState s = 7 then (if recoveryReg a then yOk else yDenied)
  else if auth then yOk
  else if !openReg a then yAuth
  else if a = 0x9000100 ∧ bits v 3 2 ≠ 0 ∧ (s.session (bits v 1 0)).st = .active then yDenied
  else yOk

/-- Accesses of a WRITE in order, up to the first that is not made, or that the bus holds; the status and the number performed.
A write that resets the chip is the last. -/
def ympWrites (w : Nat) (auth : Bool) : List (Nat × W64) → State → Nat × Nat × State
  | [], s => (yOk, 0, s)
  | (a, v) :: r, s =>
    let st := writeStatus s a v.toNat auth
    if ympHold s a true then (yHeld, 0, s)
    else if st ≠ yOk then (st, 0, s)
    else if accessKind a w = .refused then (yAccess, 0, s)
    else
      let t := busWrite a w v auth s
      if bootState t < bootState s then (yOk, 1, t)
      else
        let (st, n, u) := ympWrites w auth r t
        (st, n + 1, u)

/-- The accesses of a WRITE: address and value. -/
def rwWrites (m : YmpFrame) : List (Nat × W64) :=
  let w := rwWidth m
  (List.range (rwCount m)).map (fun i => (rwAt m i, BitVec.ofNat 64 (YmpFrame.n m (32 + i * w) w)))

/-- A WRITE from access `done` on: answered when it ends, or held. -/
def ympWriteGo (h : Nat) (m : YmpFrame) (key : Option (List Byte)) (done : Nat) (s : State) : State :=
  let (st, n, s) := if ympWaiting s then (yHeld, 0, s) else ympWrites (rwWidth m) (YmpFrame.auth m) ((rwWrites m).drop done) s
  if st = yHeld then { s with busHeld := s.busHeld ++ [.ymp h m key (done + n) []] }
  else ympAnswer h 4 st (YmpFrame.seq m) (YmpFrame.sess m) (YmpFrame.dest m) (leBytes 8 (done + n)) key s

/-- WRITE. -/
def ympWriteBody (h : Nat) (m : YmpFrame) (key : Option (List Byte)) (s : State) : State :=
  if rwMalformed m then ympRefuse h yMalformed m key s else ympWriteGo h m key 0 s

/-- One held access tried again, behind those that stay held; a message goes on from where it stopped. -/
def busRetry (b : BusOp) (s : State) : State :=
  match b with
  | .write a v auth =>
    if mustHold s a true then { s with busHeld := s.busHeld ++ [b] }
    else match regAt a with
      | some (_, row, _) => if held s then s else regWrite a row v auth s
      | none => s
  | .ymp h m key done vals => if YmpFrame.typ m = 1 then ympReadGo h m key done vals s else ympWriteGo h m key done s

/-- Held accesses tried again in their order; a write that resets the chip is the last. -/
def busRetries : List BusOp → State → State
  | [], s => s
  | b :: r, s =>
    let t := busRetry b s
    if bootState t < bootState s then t else busRetries r t

/-- What the bus holds is tried again: at the end of a commit, of a shadow copy and of a wipe, and at a latched halt (R23, R125, R286,
R330). -/
def busReplay (s : State) : State := if s.busHeld.isEmpty then s else busRetries s.busHeld { s with busHeld := [] }

/-! ## Events -/

/-- EVENT_ACK (R379), one that R372 does not refuse: never answered. -/
def eventAckBody (m : YmpFrame) (s : State) : State :=
  let e := YmpFrame.n m 24 8
  if YmpFrame.len m ≠ 8 then s
  else { s with hep := { s.hep with events := s.hep.events.filter (fun x => decide (e < x.eseq)) } }

/-! ## BULK -/

/-- BULK header (Table 16.5). -/
def bkXid (m : YmpFrame) : Nat := YmpFrame.n m 24 4
def bkChunk (m : YmpFrame) : Nat := YmpFrame.n m 28 4
def bkAddr (m : YmpFrame) : Nat := YmpFrame.n m 32 8
def bkLen (m : YmpFrame) : Nat := YmpFrame.n m 40 8

/-- C as HEP_CFG.CHUNK reads (Table 16.8). -/
def chunkSize (s : State) : Nat := 1024 * 2 ^ s.field 0x9000000 5 4

/-- Bytes of chunk `i` of a transfer. -/
def chunkLen (len c i : Nat) : Nat := min c (len - i * c)

/-- Why a BULK request is refused before its context is looked at; 0 when it is not (R330, R347, R372, R375). -/
def bulkStatus (s : State) (m : YmpFrame) : Nat :=
  if latched s || bootState s == 7 then yDenied
  else if !YmpFrame.auth m then yAuth
  else if YmpFrame.len m < 24 ∨ bkAddr m ≥ 2 ^ 40 ∨ bkLen m < 16 ∨ bkLen m % 16 ≠ 0 ∨
      (YmpFrame.typ m = 8 ∧ (bkChunk m ≠ 0 ∨ YmpFrame.len m ≠ 24)) then yMalformed
  else if bkAddr m % 16 ≠ 0 ∨ bkAddr m + bkLen m > storeEnd then yRange
  else yOk

/-- The context of (session, XID). -/
def findBulk (s : State) (sess : Nat) (xid : W32) : Option BulkCtx := s.hep.bulk.find? (fun b => b.session == sess && b.xid == xid)

/-- The context closed. -/
def dropBulk (sess : Nat) (xid : W32) (s : State) : State :=
  { s with hep := { s.hep with bulk := s.hep.bulk.filter (fun b => !(b.session == sess && b.xid == xid)) } }

/-- A context's missing chunks. -/
def bulkMissing (b : BulkCtx) : List Nat := (List.range (ceilDiv b.len b.chunk)).filter (fun i => !b.got.contains i)

/-- The key of a context's answers. -/
def bulkKey (s : State) (b : BulkCtx) : Option (List Byte) :=
  if b.auth && (s.session b.session).st == .active then some (s.session b.session).key else none

/-- A context's BULK_RSP. -/
def bulkAnswer (status : Nat) (b : BulkCtx) (s : State) : State :=
  let miss := bulkMissing b
  bulkRsp b.host status b.seq.toNat b.session b.dest b.xid.toNat miss.head? (some miss.length) (bulkKey s b) s

/-- The context a BULK_WR joins or would open. -/
def bulkCtx (h : Nat) (m : YmpFrame) (s : State) : BulkCtx :=
  let b := (findBulk s (YmpFrame.sess m) (BitVec.ofNat 32 (bkXid m))).getD
    ⟨YmpFrame.sess m, BitVec.ofNat 32 (bkXid m), true, h, YmpFrame.dest m, 0, bkAddr m, bkLen m, chunkSize s, []⟩
  { b with host := h, dest := YmpFrame.dest m, seq := BitVec.ofNat 32 (YmpFrame.seq m) }

/-- Why a BULK_WR is refused; 0 when it is not (R330, R347, R372, R375). -/
def bulkWrStatus (h : Nat) (m : YmpFrame) (s : State) : Nat :=
  let b := bulkCtx h m s
  if bulkStatus s m ≠ yOk then bulkStatus s m
  else if b.addr ≠ bkAddr m ∨ b.len ≠ bkLen m ∨ bkChunk m ≥ ceilDiv b.len b.chunk ∨
      ((YmpFrame.pay m).drop 24).length ≠ chunkLen b.len b.chunk (bkChunk m) then yMalformed
  else if (findBulk s b.session b.xid).isNone && decide (s.hep.bulk.length ≥ 64) then yBusy
  else yOk

/-- BULK_WR (R375); one that comes while a wipe runs joins its context and is written at the wipe's end (R286).
(DEDUCED, notes/assumptions/48.md) -/
def bulkWrBody (h : Nat) (m : YmpFrame) (key : Option (List Byte)) (s : State) : State :=
  let b := bulkCtx h m s
  let i := bkChunk m
  let data := (YmpFrame.pay m).drop 24
  if bulkWrStatus h m s ≠ yOk then ympRefuse h (bulkWrStatus h m s) m key s
  else if s.wiping then
    let s := dropBulk b.session b.xid s
    { s with bulkWait := s.bulkWait ++ [(h, b.chunk, m)], hep := { s.hep with bulk := s.hep.bulk ++ [b] } }
  else
    let s := count 0x0B0 (data.length / 16) none none none (storeWrite (b.addr + i * b.chunk) data s)
    let b := { b with got := setAdd b.got i }
    let s := dropBulk b.session b.xid s
    if (bulkMissing b).isEmpty then bulkAnswer yOk b s
    else { s with hep := { s.hep with bulk := s.hep.bulk ++ [b] } }

/-- Chunks of a BULK_RD from chunk `i` on, `n` of them; the first poisoned chunk ends it (R377).
(DEDUCED, notes/assumptions/48.md) -/
def bulkChunks (h : Nat) (m : YmpFrame) (key : Option (List Byte)) (c i : Nat) (n : Nat) (s : State) : State :=
  match n with
  | 0 => bulkRsp h yOk (YmpFrame.seq m) (YmpFrame.sess m) (YmpFrame.dest m) (bkXid m) none (some 0) key s
  | k + 1 =>
    let (bad, bs, s) := storeRead .tsc (bkAddr m + i * c) (chunkLen (bkLen m) c i) s
    if !bad.isEmpty then
      bulkRsp h yPoison (YmpFrame.seq m) (YmpFrame.sess m) (YmpFrame.dest m) (bkXid m) (some i) (some (k + 1)) key s
    else
      let s := count 0x0B1 (bs.length / 16) none none none s
      let pay := leBytes 4 (bkXid m) ++ leBytes 4 i ++ leBytes 8 (bkAddr m) ++ leBytes 8 (bkLen m) ++ bs
      bulkChunks h m key c (i + 1) k (ympAnswer h 9 yOk (YmpFrame.seq m) (YmpFrame.sess m) (YmpFrame.dest m) pay key s)

/-- BULK_RD (R377), in chunks of `c`; one that comes while a wipe runs waits for its end (R286).
(DEDUCED, notes/assumptions/48.md) -/
def bulkRdBody (h : Nat) (m : YmpFrame) (key : Option (List Byte)) (c : Nat) (s : State) : State :=
  if bulkStatus s m ≠ yOk then ympRefuse h (bulkStatus s m) m key s
  else if s.wiping then { s with bulkWait := s.bulkWait ++ [(h, c, m)] }
  else bulkChunks h m key c 0 (ceilDiv (bkLen m) c) s

/-- The BULK requests that waited for the end of a wipe are performed (R286). -/
def bulkResume (s : State) : State :=
  if s.wiping then s
  else s.bulkWait.foldl (fun s x =>
    let key := answerKey s x.2.2
    if YmpFrame.typ x.2.2 = 7 then bulkWrBody x.1 x.2.2 key s else bulkRdBody x.1 x.2.2 key x.2.1 s) { s with bulkWait := [] }

/-- BULK_IDLE (R376): the context stays open. -/
def bulkIdle (sess : Nat) (xid : W32) (s : State) : State :=
  match findBulk s sess xid with
  | some b => if held s then s else bulkAnswer yPartial b s
  | none => s

/-- BULK_TIMEOUT (R376). -/
def bulkTimeout (sess : Nat) (xid : W32) (s : State) : State :=
  match findBulk s sess xid with
  | some b => if held s then s else bulkAnswer yTimeout b (dropBulk sess xid s)
  | none => s

/-! ## A message arrives -/

/-- The first access of a WRITE is one that its sender may not make. -/
def writeDenied (s : State) (m : YmpFrame) : Bool :=
  match (rwWrites m).head? with
  | some (a, v) => writeStatus s a v.toNat (YmpFrame.auth m) != yOk
  | none => false

/-- A request well formed and, where it carries AUTH, authentic is refused all the same (R368): by its own fields, or because its
sender may not make it. (DEDUCED, notes/assumptions/48.md) -/
def requestRefused (h : Nat) (m : YmpFrame) (s : State) : Bool :=
  let t := YmpFrame.typ m
  if t = 1 then rwMalformed m
  else if t = 3 then rwMalformed m || writeDenied s m
  else if t = 6 then YmpFrame.len m != 8
  else if t = 7 then bulkWrStatus h m s != yOk
  else bulkStatus s m != yOk

/-- The sender of an accepted request becomes the destination of the events that go out on the port (R379), and those held are
sent. -/
def acceptedFrom (h : Nat) (m : YmpFrame) (s : State) : State :=
  if requestRefused h m s then s
  else
    let s := s.setHost h { s.host h with lastReq := some (YmpFrame.dest m) }
    sendEvents s (unsentEvents s)

/-- A frame arrives on port `h`: what is not for `typ` changes nothing but counts; drops are counted; a malformed or false message is
refused, an EVENT_ACK of R372 with its count alone; the others are performed by `body` with the key of their answer. -/
def ympIn (h typ : Nat) (m : YmpFrame) (body : Option (List Byte) → State → State) (s : State) : State :=
  let s := hostCodewords h m.fec s
  if held s || !(s.host h).link || !carrierOn s h m then s
  else if ympDropped m then s.countReg 0x9000400 1
  else if YmpFrame.typ m ≠ typ then s
  else if ympMalformed m then ympRefuse h yMalformed m (answerKey s m) s
  else if YmpFrame.auth m && !ympAuthentic s m then ympRefuse h yAuth m none (s.countReg 0x9000408 1)
  else if ackRefused s m && YmpFrame.len m == 8 then s.countReg 0x9000408 1
  else
    let s := if YmpFrame.auth m then ctrAccept m s else s
    body (answerKey s m) (acceptedFrom h m s)

end Sys2Proof.Machine
end

