-- ==== Sys2Proof/Machine/Settle.lean ====
section
/-!
DEFINITION. The reactions to the fault sources raised in a CCLK cycle, performed at its end (R322 to R332), and the ERR_OUT_N pin.
-/

namespace Sys2Proof.Machine

/-- SAP_FRT_n: the reaction set of source `n` (Table 14.2). -/
def reactSet (s : State) (n : Nat) : Nat := s.field (0x100100 + 4 * n) 6 0

/-- A reaction of Table 14.2 is in the set of some source raised. -/
def reacts (s : State) (r : List (Blk × Nat)) (b : Nat) : Bool := r.any (fun x => bit (reactSet s x.2) b)

/-- The raises whose sets hold reaction `b`. -/
def raisesWith (s : State) (r : List (Blk × Nat)) (b : Nat) : List (Blk × Nat) := r.filter (fun x => bit (reactSet s x.2) b)

/-- The events of one class (R332): one in COLLECTED mode, one a register block in LOCAL mode. -/
def reactEvents (cls b : Nat) (r : List (Blk × Nat)) (s : State) : State :=
  let hit := raisesWith s r b
  if hit.isEmpty then s
  else if collected s then pushEvent s cls 0xFF (s.reg 0x200008)
  else (hit.map (·.1)).eraseDups.foldl (fun s k => pushEvent s cls (blkFaultBlock k) (s.reg (blkFlt k))) s

/-- BLOCK_RESET on each block that raised a source with it (R327). -/
def reactBlocks (r : List (Blk × Nat)) (s : State) : State :=
  ((raisesWith s r 2).map (·.1)).eraseDups.foldl (fun s k => blockReset k s) s

/-- The lowest source of those given, and the lowest fault block that raised it (R326). -/
def lowestCause (r : List (Blk × Nat)) : Nat × Nat :=
  let src := (r.map (·.2)).foldl min 63
  (src, ((r.filter (fun x => x.2 == src)).map (fun x => blkFaultBlock x.1)).foldl min 63)

/-- The union of the sets of the sources raised, in the order of R326. A latched halt has no more to stop; the MGC, which runs on,
starts again (R330). -/
def react (r : List (Blk × Nat)) (s : State) : State :=
  let off := latched s
  let chip := reacts s r 3
  let latch := reacts s r 6
  let s := if reacts s r 5 && !off then stopWave s else s
  let s := reactEvents evFault 0 r (reactEvents evTrap 1 r s)
  if off then reactBlocks (r.filter (fun x => x.1 == .glb)) s
  else if latch then
    let (src, blk) := lowestCause (raisesWith s r 6)
    busReplay (latchHalt src blk (stopsLeave s))
  else if chip then
    let (src, blk) := lowestCause (raisesWith s r 3)
    chipReset 2 (some (src, blk, bit (reactSet s src) 4)) (stopsLeave s)
  else reactBlocks r s

/-- Every raise has had its reactions; `fuel` bounds the rounds, of which there are no more than sticky bits. -/
def settleN (fuel : Nat) (s : State) : State :=
  match fuel with
  | 0 => { s with raised := [] }
  | f + 1 => if s.raised.isEmpty then s else settleN f (react s.raised { s with raised := [] })

/-- The reactions to every source raised in a CCLK cycle, as one union (R323, R326, R332); what the reactions raise reacts in turn.
(DEDUCED, notes/assumptions/49.md) -/
def settle (s : State) : State := settleN 64 s

/-- ERR_OUT_N is asserted (R331). -/
def errOut (s : State) : Bool :=
  allBlks.any (fun b => (bitsSet 64 (s.regN (blkFlt b))).any (fun n => bit (reactSet s n) 4)) || latched s ||
    (bit (s.regN 0x200010) 31 && bit (s.regN 0x200010) 2)

end Sys2Proof.Machine
end

