-- ==== Sys2Proof/Machine/Clock.lean ====
section
/-!
DEFINITION. What passes while no command waits: one cycle of CCLK (notes/assumptions/1.md).
-/

namespace Sys2Proof.Machine

/-- Edges of FCLK and ACLK kept in one CCLK cycle (4 and 2 at level 0), scaled by Table 1.6 over 8 edges: the edges kept
of the eight of the pattern, taken over the cycle number. -/
def keptEdges (level perCycle now : Nat) : Nat :=
  let kept := if level = 0 then 8 else if level = 1 then 7 else if level = 2 then 6 else 4
  ((now + 1) * perCycle * kept) / 8 - (now * perCycle * kept) / 8

/-- RW fields that management writes have set in the cycle, MSU_VAL among them, take the written value, whatever the hardware has put
there since (R303, R417). -/
def writesLast (s : State) : State :=
  s.wrote.foldl (fun s w => s.setReg w.1 ((s.reg w.1 &&& ~~~w.2.1) ||| w.2.2))
    { s with wrote := [], msuLast := [], milestones := s.msuLast.foldl (fun t w => tabSet t w.1 w.2) s.milestones }

/-- An eight-cycle FCLK boundary stands at the end of this cycle (R28). -/
def patternEnds (s : State) : Bool := s.now % 2 == 1

/-- The clock edges of a cycle (R26, Table 1.6) and their event sources 1 to 3; a latched halt stops FCLK and ACLK (R330). -/
def clockEdges (s : State) : State :=
  let level := s.field 0xB000000 3 2
  let s := count 0x001 1 none none none s
  if latched s then s
  else
    let a := keptEdges level 2 s.now
    { count 0x003 a none none none (count 0x002 (keptEdges level 4 s.now) none none none s) with aclk := s.aclk + a }

/-- The ports whose link is UP, with whatever traffic (R382). -/
def linksUp (s : State) : List Nat := allPorts.filter (fun n => (s.port n).link == .up)

/-- FCLK cycles in which a flit waits for a credit (source 0x015, R64): of each port that is UP, once a traffic class with such a
packet. (DESIGN CHOICE, notes/assumptions/14.md) -/
def creditStalls (f : Nat) (s : State) : State :=
  (linksUp s).foldl (fun s n =>
    let q := s.port n
    (((q.egress.filter (fun e => !hasCredit q e.pkt)).map (fun e => e.pkt.tc)).eraseDups).foldl (fun s t =>
      count 0x015 f (some n) (some t) none s) s) s

/-- The slot of an open window for which port `n` holds no green packet, at `t` (10 ps) of the gate cycle. -/
def windowEmpty (s : State) (n t : Nat) : Bool :=
  match openWindow s n t with
  | some (i, _) => !((s.port n).egress ++ (s.port n).txPartOf.toList).any (fun e => match e.green with
      | some c => bSlot (conB s c) == i
      | none => false)
  | none => false

/-- FCLK cycles of a window with no green packet queued for it (source 0x01C), of the `f` of this CCLK cycle.
(DESIGN CHOICE, notes/assumptions/14.md) -/
def windowStalls (f : Nat) (s : State) : State :=
  (linksUp s).foldl (fun s n =>
    let at_ := fun k => ((s.now - s.rack.boundaryAt) * 2000 + k * 500) / 7 % max (gateCycle s n * 1000) 1
    count 0x01C ((List.range f).filter (fun k => windowEmpty s n (at_ k))).length (some n) none none s) s

/-- FCLK cycles with a quadrant's staging full (source 0x075, R211). -/
def stagingStalls (f : Nat) (s : State) : State :=
  (List.range 4).foldl (fun s q =>
    if stagingTaken s q < stagingSize s q then s else count 0x075 f none none none s) s

/-- ACLK cycles, of the `a` of this CCLK cycle, in which an engine has a slot busy and issues nothing (sources 0x207 + 8n). -/
def issueStalls (a : Nat) (s : State) : State :=
  (List.range 64).foldl (fun s e =>
    if (s.engine e).runs.isEmpty then s
    else count (0x207 + 8 * e) (a - tabOr s.issued e 0) none none none s) s

/-- The event sources that are cycles of FCLK or ACLK in which something waits (Table 17.1); a latched halt stops both clocks. -/
def stallCounts (s : State) : State :=
  if latched s then s
  else
    let level := s.field 0xB000000 3 2
    let f := keptEdges level 4 s.now
    issueStalls (keptEdges level 2 s.now) (stagingStalls f (windowStalls f (creditStalls f s)))

/-- What the end of a CCLK cycle leaves: nothing of the cycle is present any more, and the next begins, 20/7 ns later. -/
def nextCycle (s : State) : State :=
  { s with now := s.now + 1, time7 := s.time7 + 20, w1cSet := [], again := [], excNow := [], issued := [] }

/-- The end of one CCLK cycle: clock edges, the throttle level at the end of an FCLK pattern (R28, R413), the reactions to every
source raised in the cycle (R323), the writes of MSU_VAL and the others that take effect last (R303, R417), and the events of the cycle
at the ECB (R383). The chip held in reset has no clock. (DESIGN CHOICE, notes/assumptions/1.md) -/
def tick (s : State) : State :=
  if held s then s
  else
    let s := stallCounts (clockEdges s)
    nextCycle (ecbEndCycle (writesLast (settle (msuWrites (if patternEnds s then applyLevel s else s)))))

end Sys2Proof.Machine
end

