-- ==== Sys2Proof/Machine/Collectives.lean ====
section
/-!
DEFINITION. Commands of collectives (spec/07, spec/08).
-/

namespace Sys2Proof.Machine

/-- A CONTRIBUTE of step `step` (Table 2.7). -/
def isStep (step : Nat) (_ : State) (p : Packet) : Bool := p.typ == tContribute && cbStep p == step

/-- A CONTRIBUTE of step `step` at port `n`; it stays in holding SRAM while it must wait there (R211, R286). -/
def contribute (step n : Nat) (p : Packet) (s : State) : State := serveOrWait n p (isStep step) (contributeIn n) s

/-- CONTRIBUTE_MEMBER (R186). -/
def execContributeMember (port : Fin 64) (pkt : Packet) (s : State) : Out :=
  .next (contribute 0 port.val pkt s)

/-- STEP_UP (R189). -/
def execStepUp (port : Fin 64) (pkt : Packet) (s : State) : Out :=
  .next (contribute 1 port.val pkt s)

/-- STEP_DOWN (R190). -/
def execStepDown (port : Fin 64) (pkt : Packet) (s : State) : Out :=
  .next (contribute 2 port.val pkt s)

/-- STEP_DONE (R189). -/
def execStepDone (port : Fin 64) (pkt : Packet) (s : State) : Out :=
  .next (contribute 3 port.val pkt s)

/-- STEP_FIN (R191). -/
def execStepFin (port : Fin 64) (pkt : Packet) (s : State) : Out :=
  .next (contribute 4 port.val pkt s)

/-- STEP_ABORT (R193). -/
def execStepAbort (port : Fin 64) (pkt : Packet) (s : State) : Out :=
  .next (contribute 5 port.val pkt s)

/-- UP_TRAFFIC (R189). -/
def execUpTraffic (group : BitVec 12) (cseq : W32) (s : State) : Out := .next (upTraffic group.toNat cseq s)

/-- COLL_FINISH (R191). -/
def execCollFinish (group : BitVec 12) (cseq : W32) (s : State) : Out := .next (collFinish group.toNat cseq s)

/-- COLL_TIMEOUT (R194). -/
def execCollTimeout (group : BitVec 12) (cseq : W32) (s : State) : Out := .next (collTimeout group.toNat cseq s)

end Sys2Proof.Machine
end

