-- ==== Sys2Proof/Machine/Experts.lean ====
section
/-!
DEFINITION. Commands of expert dispatch and combine (spec/09).
-/

namespace Sys2Proof.Machine

/-- A DISPATCH from an endpoint port (`trunk` false) or a trunk, with TOKEN all ones or not, or SSVC. -/
def isDispatch (n : Nat) (trunk sel : Bool) (s : State) (p : Packet) : Bool :=
  p.typ == tDispatch && isEndpoint s n != trunk && (if trunk then p.ssvc else xToken p == noToken) == sel

/-- An EXPERT_OUT with this SSVC: an output (0) or an OVERCAP notice (1). -/
def isExpertOut (ssvc : Bool) (_ : State) (p : Packet) : Bool := p.typ == tExpertOut && p.ssvc == ssvc

/-- TOKEN_DISPATCH (R230). -/
def execTokenDispatch (port : Fin 64) (pkt : Packet) (s : State) : Out :=
  .next (serve port.val pkt (isDispatch port.val false false) (dispatchIn port.val) s)

/-- GATE_WEIGHTS_RETURN (R231). -/
def execGateWeightsReturn (table : Fin 64) (cseq : W32) (token : BitVec 24) (s : State) : Out :=
  .next (gateWeights table.val cseq token.toNat s)

/-- SOURCE_SEAL (R232). -/
def execSourceSeal (port : Fin 64) (pkt : Packet) (s : State) : Out :=
  .next (serve port.val pkt (isDispatch port.val false true) (dispatchIn port.val) s)

/-- SWITCH_SEALS_SEND (R232). -/
def execSwitchSealsSend (table : Fin 64) (cseq : W32) (s : State) : Out := .next (switchSealsSend table.val cseq s)

/-- SWITCH_COPY (R234). -/
def execSwitchCopy (port : Fin 64) (pkt : Packet) (s : State) : Out :=
  .next (serve port.val pkt (isDispatch port.val true false) (dispatchIn port.val) s)

/-- SWITCH_SEAL (R236). -/
def execSwitchSeal (port : Fin 64) (pkt : Packet) (s : State) : Out :=
  .next (serve port.val pkt (isDispatch port.val true true) (dispatchIn port.val) s)

/-- DISPATCH_CLOSE (R236). -/
def execDispatchClose (table : Fin 64) (cseq : W32) (s : State) : Out := .next (dispatchClose table.val cseq s)

/-- EXPERT_OUTPUT (R238). -/
def execExpertOutput (port : Fin 64) (pkt : Packet) (s : State) : Out :=
  .next (serve port.val pkt (isExpertOut false) (expertOutIn port.val) s)

/-- OVERCAP_NOTICE (R238). -/
def execOvercapNotice (port : Fin 64) (pkt : Packet) (s : State) : Out :=
  .next (serve port.val pkt (isExpertOut true) (expertOutIn port.val) s)

/-- COMBINE_RUN (R239). -/
def execCombineRun (table : Fin 64) (cseq : W32) (token : BitVec 24) (s : State) : Out :=
  .next (combineRun table.val cseq token.toNat s)

/-- COMBINE_DONE (R240). -/
def execCombineDone (table : Fin 64) (cseq : W32) (token : BitVec 24) (s : State) : Out :=
  .next (combineDone table.val cseq token.toNat s)

/-- STEP_TIMEOUT (R241). -/
def execStepTimeout (table : Fin 64) (cseq : W32) (s : State) : Out := .next (stepTimeout table.val cseq s)

/-- COMBINE_TIMEOUT (R241). -/
def execCombineTimeout (table : Fin 64) (cseq : W32) (token : BitVec 24) (s : State) : Out :=
  .next (combineTimeout table.val cseq token.toNat s)

end Sys2Proof.Machine
end

