-- ==== Sys2Proof/Machine/Fabric.lean ====
section
/-!
DEFINITION. Commands of rack time, STOP, forwarding and the message timeout (spec/02 to spec/05).
-/

namespace Sys2Proof.Machine

/-- EPOCH_BOUNDARY (R98). -/
def execEpochBoundary (rootTime : Nat) (s : State) : Out := .next (epochBoundary rootTime s)

/-- EPOCH (R100). -/
def execEpoch (port : Fin 64) (pkt : Packet) (tRx : Nat) (s : State) : Out := .next (epochPacket port.val pkt tRx s)

/-- EPOCH_HOLDOVER (R102). -/
def execEpochHoldover (s : State) : Out := .next (epochHoldover s)

/-- STOP (R105). -/
def execStop (port : Fin 64) (pkt : Packet) (s : State) : Out := .next (stopPacket port.val pkt s)

/-- PACKET_FORWARD (R108). -/
def execPacketForward (port : Fin 64) (pkt : Packet) (s : State) : Out := .next (packetForward port.val pkt s)

/-- ENDPOINT_DELIVERY (R38). -/
def execEndpointDelivery (port : Fin 64) (pkt : Packet) (s : State) : Out := .next (endpointDelivery port.val pkt s)

/-- GATE_CYCLE_START (R134). -/
def execGateCycleStart (port : Fin 64) (s : State) : Out := .next (if coreOn s then gateCycleStart port.val s else s)

/-- MSG_TIMEOUT (R56). -/
def execMsgTimeout (src msgId : W32) (s : State) : Out := .next (msgTimeout src msgId s)

end Sys2Proof.Machine
end

