-- ==== Sys2Proof/Machine/Host.lean ====
section
/-!
DEFINITION. Commands of the host ports and the management protocol (spec/16).
-/

namespace Sys2Proof.Machine

/-- YMP_READ (R369). -/
def execYmpRead (host : Fin 2) (msg : YmpFrame) (s : State) : Out :=
  .next (ympIn host.val 1 msg (fun k => ympReadBody host.val msg k) s)

/-- YMP_WRITE (R369). -/
def execYmpWrite (host : Fin 2) (msg : YmpFrame) (s : State) : Out :=
  .next (ympIn host.val 3 msg (fun k => ympWriteBody host.val msg k) s)

/-- EVENT_ACK (R379). -/
def execEventAck (host : Fin 2) (msg : YmpFrame) (s : State) : Out :=
  .next (ympIn host.val 6 msg (fun _ => eventAckBody msg) s)

/-- EVENT_RETRY (R379). -/
def execEventRetry (s : State) : Out := .next (eventRetry s)

/-- BULK_WR (R375). -/
def execBulkWr (host : Fin 2) (msg : YmpFrame) (s : State) : Out :=
  .next (ympIn host.val 7 msg (fun k => bulkWrBody host.val msg k) s)

/-- BULK_RD (R377). -/
def execBulkRd (host : Fin 2) (msg : YmpFrame) (s : State) : Out :=
  .next (ympIn host.val 8 msg (fun k s => bulkRdBody host.val msg k (chunkSize s) s) s)

/-- BULK_IDLE (R376). -/
def execBulkIdle (session : BitVec 8) (xid : W32) (s : State) : Out := .next (bulkIdle session.toNat xid s)

/-- BULK_TIMEOUT (R376). -/
def execBulkTimeout (session : BitVec 8) (xid : W32) (s : State) : Out := .next (bulkTimeout session.toNat xid s)

/-- SESSION_OPEN (R370). -/
def execSessionOpen (slot : Fin 4) (authenticated : Bool) (s : State) : Out :=
  .next (sessOpen slot.val authenticated s)

/-- SESSION_CONFIRM (R370). -/
def execSessionConfirm (slot : Fin 4) (authenticated : Bool) (s : State) : Out :=
  .next (sessConfirm slot.val authenticated s)

/-- SESSION_CLOSE (R370). -/
def execSessionClose (slot : Fin 4) (authenticated : Bool) (s : State) : Out :=
  .next (sessClose slot.val authenticated s)

/-- ATTEST (R374). -/
def execAttest (s : State) : Out := .next (attest s)

/-- ATTESTATION_DONE (R374). -/
def execAttestationDone (s : State) : Out := .next (attestationDone s)

/-- NEIGHBOR_SOLICITATION (R365). -/
def execNeighborSolicitation (host : Fin 2) (eth : EthHeader) (srcIp target : BitVec 128) (s : State) : Out :=
  .next (neighborSolicitation host.val eth srcIp target s)

/-- ECHO_REQUEST (R365). -/
def execEchoRequest (host : Fin 2) (eth : EthHeader) (srcIp dstIp : BitVec 128) (data : List Byte) (s : State) : Out :=
  .next (echoRequest host.val eth srcIp dstIp data s)

/-- PTP_MESSAGE (R380). -/
def execPtpMessage (host : Fin 2) (msg : PtpMsg) (s : State) : Out :=
  .next (ptpMessage host.val msg s)

/-- AUI_SELECT (R366). -/
def execAuiSelect (value : W32) (s : State) : Out := .next (hepConfig value.toNat s)

/-- AUI_TRY_TIMEOUT (R373). -/
def execAuiTryTimeout (host : Fin 2) (s : State) : Out := .next (auiTryTimeout host.val s)

/-- HOST_PCS_LOCK (R373). -/
def execHostPcsLock (host : Fin 2) (s : State) : Out := .next (hostPcsLock host.val s)

/-- HOST_LINK_LOSS (R379). -/
def execHostLinkLoss (host : Fin 2) (s : State) : Out := .next (hostLinkLoss host.val s)

end Sys2Proof.Machine
end

