-- ==== Sys2Proof/Machine/JControl.lean ====
section
/-!
DEFINITION. Junction engine commands of classes C, X and M (Table 10.5): runs, branches, waits, scalars, loads, stores,
DMA and fences. Each is the next instruction of the run in a slot; an instruction whose operands are not ready waits, and
its command changes nothing (R248).
-/

namespace Sys2Proof.Machine

/-- RUN_BEGIN (R247, R249, R264). -/
def execRunBegin (engine : Fin 64) (s : State) : Out := .next (runBegin engine.val s)

/-- NOP (Table 10.6). -/
def execNop (engine : Fin 64) (slot : Fin 16) (s : State) : Out :=
  .next (instr engine.val slot.val 0x00 (fun _ r s => putRun engine.val r.next s) s)

/-- A run that HALTs: its slot is free, and a register-started run leaves its results and completes later (R265). -/
def haltRun (e : Nat) (r : Run) (s : State) : State :=
  match r.origin with
  | .register =>
    let b := jBase e
    let s := (List.range 4).foldl (fun s i => s.setReg (b + 0x50 + 8 * i) (r.sreg i)) s
    let s := (runStatus e 2 r.flags.toNat 0 0 s).setReg (b + 0x28) (r.first.setWidth 64)
    (endRun e r.slot s).modEngine e (fun x => { x with doneWait := true })
  | _ => endRun e r.slot s

/-- HALT (R260): it waits for the run's DMAs, and is not issued until then, so that the watchdog can still end the run (R258); a
reduction run must have answered its last sum. (DESIGN CHOICE, notes/assumptions/80.md) -/
def haltBody (e : Nat) (_ : W64) (r : Run) (s : State) : State :=
  let reduces := match r.origin with | .reduction _ _ _ => true | _ => false
  if reduces && (!r.unans.isEmpty || !r.last) then progExc e 6 r s
  else if !r.dmas.isEmpty then s
  else haltRun e r s

/-- HALT. -/
def execHalt (engine : Fin 64) (slot : Fin 16) (s : State) : Out :=
  .next (instr engine.val slot.val 0x01 (haltBody engine.val) s)

/-- JMP. -/
def execJmp (engine : Fin 64) (slot : Fin 16) (s : State) : Out :=
  .next (instr engine.val slot.val 0x02 (fun w r s => branch engine.val w r r s) s)

/-- The condition of a BR on the value tested (R252). -/
def brTaken (w v : W64) : Bool :=
  let b := bit v.toNat (bits (iImm w) 18 13)
  if iMod w = 0 then !b else if iMod w = 1 then b else if iMod w = 2 then v == 0 else v != 0

/-- BR. -/
def brBody (e : Nat) (w : W64) (r : Run) (s : State) : State :=
  if brTaken w (r.sreg (iRa w)) then branch e w r r s else putRun e r.next s

/-- BR. -/
def execBr (engine : Fin 64) (slot : Fin 16) (s : State) : Out :=
  .next (instr engine.val slot.val 0x03 (brBody engine.val) s)

/-- LOOP: S := S − 1, and a branch when that is not 0. (DEDUCED, notes/assumptions/53.md) -/
def loopBody (e : Nat) (w : W64) (r : Run) (s : State) : State :=
  let v := r.sreg (iRa w) - 1
  let r' := r.setS (iRa w) v
  if v != 0 then branch e w r' r s else putRun e r'.next s

/-- LOOP. -/
def execLoop (engine : Fin 64) (slot : Fin 16) (s : State) : Out :=
  .next (instr engine.val slot.val 0x04 (loopBody engine.val) s)

/-- The milestone a WAITM or MADD names: of a number taken from S_a bits [15:0] (R253). (DESIGN CHOICE, notes/assumptions/80.md) -/
def iMilestone (w : W64) (r : Run) : Nat := if iM0 w then (r.sreg (iRa w)).toNat % 2 ^ 16 else bits (iImm w) 15 0

/-- WAITM: the wait goes to the milestone's home and the slot is suspended; a wait met on arrival is met at once (R304). -/
def waitmBody (e : Nat) (w : W64) (r : Run) (s : State) : State :=
  let m := iMilestone w r
  let thr := r.sreg (iRb w)
  let (bad, s) := msRead m s
  (putRun e { r with wait := some (m, thr), waitMet := !bad && decide (thr ≤ msValue s m) } (count 0x0C5 1 none none none s)).countReg 0x8080020 1

/-- WAITM. -/
def execWaitm (engine : Fin 64) (slot : Fin 16) (s : State) : Out :=
  .next (instr engine.val slot.val 0x05 (waitmBody engine.val) s)

/-- A slot whose wait has been met goes on (R305). -/
def waitmResume (e slot : Nat) (s : State) : State :=
  match findRun s e slot with
  | none => s
  | some r => if coreOn s && r.wait.isSome && r.waitMet then putRun e { r.next with wait := none, waitMet := false } s else s

/-- WAITM_RESUME. -/
def execWaitmResume (engine : Fin 64) (slot : Fin 16) (s : State) : Out :=
  .next (waitmResume engine.val slot.val s)

/-- A special register that SPR reads (Table 10.3); `aclk` are the ACLK edges so far. -/
def sprRead (e n aclk : Nat) (r : Run) : W64 :=
  match n with
  | 0 => BitVec.ofNat 64 r.vl
  | 1 => r.ebase.setWidth 64
  | 2 => r.flags.setWidth 64
  | 3 => r.first.setWidth 64
  | 4 => r.crc.setWidth 64
  | 5 => BitVec.ofNat 64 r.slot
  | 6 => BitVec.ofNat 64 e
  | 7 => BitVec.ofNat 64 r.pid
  | _ => BitVec.ofNat 64 (aclk - r.start)

/-- SPR: reads numbers 0 to 8, writes VL, EBASE and CRC. -/
def sprBody (e : Nat) (w : W64) (r : Run) (s : State) : State :=
  let n := bits (iImm w) 7 0
  let v := r.sreg (iRa w)
  if !iM0 w then
    if n > 8 then progExc e 1 r s
    else putRun e (r.setS (iRd w) (sprRead e n s.aclk r)).next s
  else if n = 0 then
    if v.toNat = 0 ∨ 512 < v.toNat then progExc e 10 r s else putRun e { r with vl := v.toNat }.next s
  else if n = 1 then putRun e { r with ebase := v.setWidth 32 }.next s
  else if n = 4 then putRun e { r with crc := v.setWidth 32 }.next s
  else progExc e 1 r s

/-- SPR. -/
def execSpr (engine : Fin 64) (slot : Fin 16) (s : State) : Out :=
  .next (instr engine.val slot.val 0x06 (sprBody engine.val) s)

/-- MOVI. -/
def moviBody (e : Nat) (w : W64) (r : Run) (s : State) : State :=
  let v := if iM0 w then BitVec.ofNat 64 ((r.sreg (iRd w)).toNat % 2 ^ 32 + iImm w * 2 ^ 32) else BitVec.ofNat 64 (iImm w)
  putRun e (r.setS (iRd w) v).next s

/-- MOVI. -/
def execMovi (engine : Fin 64) (slot : Fin 16) (s : State) : Out :=
  .next (instr engine.val slot.val 0x10 (moviBody engine.val) s)

/-- The operations of SALU and SALUI (R252). -/
def salu (op : Nat) (a b : W64) : W64 :=
  match op with
  | 0 => a + b
  | 1 => a - b
  | 2 => a &&& b
  | 3 => a ||| b
  | 4 => a ^^^ b
  | 5 => a <<< (b.toNat % 64)
  | 6 => a >>> (b.toNat % 64)
  | 7 => a * b
  | 8 => if a ≤ b then a else b
  | _ => if a ≤ b then b else a

/-- SALU. -/
def execSalu (engine : Fin 64) (slot : Fin 16) (s : State) : Out :=
  .next (instr engine.val slot.val 0x11 (fun w r s =>
    putRun engine.val (r.setS (iRd w) (salu (iMod w) (r.sreg (iRa w)) (r.sreg (iRb w)))).next s) s)

/-- SALUI; IMM is zero-extended. -/
def execSalui (engine : Fin 64) (slot : Fin 16) (s : State) : Out :=
  .next (instr engine.val slot.val 0x12 (fun w r s =>
    putRun engine.val (r.setS (iRd w) (salu (iMod w) (r.sreg (iRa w)) (BitVec.ofNat 64 (iImm w)))).next s) s)

/-- The exception an access of `n` bytes at `a` raises before it is performed, 0 for none: ADDR 3, ALIGN 4 (R250).
(DEDUCED, notes/assumptions/51.md) -/
def accessExc (a n align : Nat) : Nat :=
  if eaSpace a n = .bad then 3 else if a % align ≠ 0 then 4 else 0

/-- An element widened for a scalar register, with its flags (Table 10.6, LDS). -/
def scalarLoad (fmt x : Nat) : W64 × Fl :=
  if fmtFloat fmt then
    let (v, f) := fmtWiden fmt x
    (v.setWidth 64, f)
  else (BitVec.ofInt 64 (intVal fmt x), 0)

/-- LDS: FRESH is MOD[0], RAW is MOD[1]. -/
def ldsBody (e : Nat) (w : W64) (r : Run) (s : State) : State :=
  let a := ea w r
  let n := if iM1 w then 8 else fmtSize (iFmt w)
  let x := accessExc a n n
  if x ≠ 0 then progExc e x r s
  else if storeWait s a then s
  else match engRead e (iM0 w) (eaSpace a n) n (issueM e s) with
    | (none, s) => progExc e 5 r s
    | (some bs, s) =>
      if iM1 w then putRun e (r.setS (iRd w) (BitVec.ofNat 64 (leNat bs))).next s
      else
        let (v, f) := scalarLoad (iFmt w) (leNat bs)
        putRun e (r.setS (iRd w) v).next (engFlags e [f] s)

/-- LDS. -/
def execLds (engine : Fin 64) (slot : Fin 16) (s : State) : Out :=
  .next (instr engine.val slot.val 0x13 (ldsBody engine.val) s)

/-- LDV and LDV.F: VL elements, widened. -/
def ldvBody (fresh : Bool) (e : Nat) (w : W64) (r : Run) (s : State) : State :=
  let a := ea w r
  let n := r.vl * fmtSize (iFmt w)
  let x := accessExc a n 16
  if x ≠ 0 then progExc e x r s
  else if storeWait s a then s
  else match engRead e fresh (eaSpace a n) n (issueM e s) with
    | (none, s) => progExc e 5 r s
    | (some bs, s) =>
      let vs := (elemsOf (iFmt w) bs).map (fmtWiden (iFmt w))
      putRun e (r.setA (iRd w) (writeLanes (r.acc (iRd w)) (kindLoad (iFmt w)) 0xFF vs)).next (engFlags e (vs.map Prod.snd) s)

/-- LDV, through the tile cache. -/
def execLdv (engine : Fin 64) (slot : Fin 16) (s : State) : Out :=
  .next (instr engine.val slot.val 0x20 (ldvBody false engine.val) s)

/-- LDV.F, fresh from the store. -/
def execLdvF (engine : Fin 64) (slot : Fin 16) (s : State) : Out :=
  .next (instr engine.val slot.val 0x21 (ldvBody true engine.val) s)

/-- STV: VL lanes converted and written; the lane flags written out are the register's and the conversion's. -/
def stvBody (e : Nat) (w : W64) (r : Run) (s : State) : State :=
  let fmt := iFmt w
  let src := r.acc (iRb w)
  let a := ea w r
  let n := r.vl * fmtSize fmt
  let x := if !kindOk fmt src then 2 else accessExc a n 16
  if x ≠ 0 then progExc e x r s
  else if storeWait s a then s
  else
    let vs := (List.range r.vl).map (fun i => (src.lane i, fmtNarrow fmt r.convInf (src.lane i).1))
    let s := engFlags e (vs.map (fun v => v.2.2)) (issueM e s)
    let s := engWrite e (eaSpace a n) (vs.flatMap (fun v => leBytes (fmtSize fmt) v.2.1)) s
    putRun e (noteOut r (vs.map (fun v => v.1.2 ||| v.2.2))).next s

/-- STV. -/
def execStv (engine : Fin 64) (slot : Fin 16) (s : State) : Out :=
  .next (instr engine.val slot.val 0x22 (stvBody engine.val) s)

/-- One end of a DMA lies in the store and the other in local space (Table 10.8). -/
def dmaPair (a b : Space) : Bool :=
  match a, b with
  | .store _, .loc _ => true
  | .loc _, .store _ => true
  | _, _ => false

/-- DMA: the copy is performed in issue order (R256) and stays uncompleted until DMA_COMPLETE; a ninth waits (R255).
(DESIGN CHOICE, notes/assumptions/52.md) -/
def dmaBody (e : Nat) (w : W64) (r : Run) (s : State) : State :=
  let src := (r.sreg (iRa w)).toNat
  let dst := (r.sreg (iRb w)).toNat
  let n := (r.sreg (iRc w)).toNat
  let x := if n = 0 ∨ 1048576 < n ∨ n % 16 ≠ 0 then 10
    else if !dmaPair (eaSpace src n) (eaSpace dst n) then 3
    else if src % 16 ≠ 0 ∨ dst % 16 ≠ 0 then 4 else 0
  if x ≠ 0 then progExc e x r s
  else if 8 ≤ r.dmas.length || s.wiping then s
  else match engRead e true (eaSpace src n) n (issueM e s) with
    | (none, s) => progExc e 5 r s
    | (some bs, s) =>
      putRun e { r with dmas := r.dmas ++ [(⟨src, dst, n⟩ : DmaJob)] }.next (engWrite e (eaSpace dst n) bs s)

/-- DMA. -/
def execDma (engine : Fin 64) (slot : Fin 16) (s : State) : Out :=
  .next (instr engine.val slot.val 0x23 (dmaBody engine.val) s)

/-- The oldest uncompleted DMA of a run completes (R255). -/
def dmaComplete (e slot : Nat) (s : State) : State :=
  match findRun s e slot with
  | none => s
  | some r => if coreOn s then putRun e { r with dmas := r.dmas.drop 1 } s else s

/-- DMA_COMPLETE. -/
def execDmaComplete (engine : Fin 64) (slot : Fin 16) (s : State) : Out :=
  .next (dmaComplete engine.val slot.val s)

/-- DWAIT n. -/
def dwaitBody (e : Nat) (w : W64) (r : Run) (s : State) : State :=
  if min 8 (bits (iImm w) 3 0) < r.dmas.length then s else putRun e r.next s

/-- DWAIT. -/
def execDwait (engine : Fin 64) (slot : Fin 16) (s : State) : Out :=
  .next (instr engine.val slot.val 0x24 (dwaitBody engine.val) s)

/-- FENCE.ACQ: after every earlier instruction, no tile-cache line is left (R254). -/
def fenceAcqBody (e : Nat) (_ : W64) (r : Run) (s : State) : State :=
  if !r.dmas.isEmpty then s
  else putRun e r.next ((count (0x206 + 8 * e) 1 none none none s).modEngine e (fun x => { x with tcache := [] }))

/-- FENCE.ACQ. -/
def execFenceAcq (engine : Fin 64) (slot : Fin 16) (s : State) : Out :=
  .next (instr engine.val slot.val 0x60 (fenceAcqBody engine.val) s)

/-- FENCE.REL (R295). -/
def fenceRelBody (e : Nat) (_ : W64) (r : Run) (s : State) : State :=
  if !r.dmas.isEmpty then s else putRun e r.next s

/-- FENCE.REL. -/
def execFenceRel (engine : Fin 64) (slot : Fin 16) (s : State) : Out :=
  .next (instr engine.val slot.val 0x61 (fenceRelBody engine.val) s)

/-- MADD: the addition at the milestone's home, after the run's writes (R291, Table 12.5). -/
def maddBody (e : Nat) (w : W64) (r : Run) (s : State) : State :=
  if !r.dmas.isEmpty then s
  else
    let m := iMilestone w r
    msuAdd m (r.sreg (iRb w)) (count 0x0C4 1 none none none (putRun e r.next s))

/-- MADD. -/
def execMadd (engine : Fin 64) (slot : Fin 16) (s : State) : Out :=
  .next (instr engine.val slot.val 0x62 (maddBody engine.val) s)

/-- VCRC: the lanes below VL, four bytes each, little-endian, continue the message whose CRC-32C is CRC. -/
def vcrcBody (e : Nat) (w : W64) (r : Run) (s : State) : State :=
  let bs := ((r.acc (iRa w)).lanes.take r.vl).flatMap (fun v => leBytes 4 v.toNat)
  putRun e { r with crc := crc32cRun (r.crc ^^^ 0xFFFFFFFF) bs ^^^ 0xFFFFFFFF }.next s

/-- VCRC. -/
def execVcrc (engine : Fin 64) (slot : Fin 16) (s : State) : Out :=
  .next (instr engine.val slot.val 0x70 (vcrcBody engine.val) s)

/-- RUN_DONE (R265). -/
def execRunDone (engine : Fin 64) (s : State) : Out := .next (runDone engine.val s)

/-- RUN_WATCHDOG (R258). -/
def execRunWatchdog (engine : Fin 64) (slot : Fin 16) (s : State) : Out :=
  .next (runWatchdog engine.val slot.val s)

/-- RUN_START: a write of J_RUN_CTRL with START = 1 (R265). -/
def execRunStart (engine : Fin 64) (value : W32) (s : State) : Out :=
  .next (let v := setBits value.toNat 8 8 1; onBus (jBase engine.val + 0x20) (BitVec.ofNat 64 v) (runCtrl engine.val v) s)

/-- PROGRAM_LOAD: a write of J_PCOMMIT with OP = LOAD (R263). -/
def execProgramLoad (engine : Fin 64) (pid : BitVec 8) (s : State) : Out :=
  .next (onBus (jBase engine.val + 0x18) (pid.setWidth 64) (pcommit engine.val (pid.setWidth 64)) s)

/-- PROGRAM_LOAD_END: the CRC check of a program load ends (R263). -/
def execProgramLoadEnd (engine : Fin 64) (s : State) : Out := .next (busReplay (programLoadEnd engine.val s))

/-- PROGRAM_UNLOAD: a write of J_PCOMMIT with OP = UNLOAD (R263). -/
def execProgramUnload (engine : Fin 64) (pid : BitVec 8) (s : State) : Out :=
  .next (onBus (jBase engine.val + 0x18) (pid.setWidth 64 + 256) (pcommit engine.val (pid.setWidth 64 + 256)) s)

/-- J_EXC_CLR (R172). -/
def execJExcClr (engine : Fin 64) (value : W32) (s : State) : Out :=
  .next (onBus (jBase engine.val + 0x3F18) (value.setWidth 64)
    (fun s => if present s engine.val then excClr (jBase engine.val + 0x3F00) value.toNat s else s) s)

/-- TSC_EXC_CLR (R172). -/
def execTscExcClr (value : W32) (s : State) : Out := .next (live (excClr 0x6000F00 value.toNat) s)

end Sys2Proof.Machine
end

