-- ==== Sys2Proof/Machine/JVector.lean ====
section
/-!
DEFINITION. Junction engine commands of classes S and V (Table 10.5): records taken from and sent to streams, and vector
arithmetic. Table 10.6 gives each effect; 512 lanes, of which those below VL take part (R251).
-/

namespace Sys2Proof.Machine

/-- RECV: all 512 lanes are written, those beyond the record with 0 (R251). -/
def recvBody (e : Nat) (w : W64) (r : Run) (s : State) : State :=
  match takeRec s e (iRc w) r with
  | .stream => progExc e 6 r s
  | .wait => s
  | .got x node _ =>
    let pad := x.vals ++ List.replicate (512 - x.vals.length) (0, 0)
    let a : Acc := ⟨if x.int then .i32 else .f, x.mask, pad.map Prod.fst, pad.map Prod.snd⟩
    let r := { advance r x node with vl := x.lanes, ebase := BitVec.ofNat 32 x.elem }
    putRun e ((r.setA (iRd w) a).setS (iRb w) x.tag).next s

/-- RECV. -/
def execRecv (engine : Fin 64) (slot : Fin 16) (s : State) : Out :=
  .next (instr engine.val slot.val 0x30 (recvBody engine.val) s)

/-- An instruction that ends by sending accumulator `a` to OUT `o` under `tag`, or raises STREAM, and is then not performed: nothing
of it stands in the state `s0` before it (R257). -/
def finishSend (e o : Nat) (tag : W64) (a : Acc) (r old : Run) (s0 s : State) : State :=
  match sendRec e o tag a r s with
  | (none, _) => progExc e 6 old s0
  | (some r, s) => putRun e r.next s

/-- SEND. -/
def sendBody (e : Nat) (w : W64) (r : Run) (s : State) : State :=
  finishSend e (iRc w) (r.sreg (iRb w)) (r.acc (iRa w)) r r s s

/-- SEND. -/
def execSend (engine : Fin 64) (slot : Fin 16) (s : State) : Out :=
  .next (instr engine.val slot.val 0x31 (sendBody engine.val) s)

/-- Addition, FP32 or INT32 by FMT. -/
def laneAdd (fmt : Nat) (convInf : Bool) (a b : W32 × Fl) : W32 × Fl := accAdd (fmtFloat fmt) convInf a.1 b.1

/-- RADD.FWD: FWD is MOD[0], HOLDFIN is MOD[1]. -/
def raddBody (e : Nat) (w : W64) (r : Run) (s : State) : State :=
  match takeRec s e (iRb w) r with
  | .stream => progExc e 6 r s
  | .wait => s
  | .got x node _ =>
    let src := r.acc (iRa w)
    if !kindOk (iFmt w) src || x.int == fmtFloat (iFmt w) then progExc e 2 r s
    else
      let r1 := { advance r x node with vl := x.lanes, ebase := BitVec.ofNat 32 x.elem }
      let inn : Acc := ⟨src.kind, x.mask, x.vals.map Prod.fst, x.vals.map Prod.snd⟩
      let (vs, t) := laneMap e r1 [src, inn] (fun i => laneAdd (iFmt w) r.convInf (src.lane i) (inn.lane i)) (issueV e s)
      let d := writeLanes (r.acc (iRd w)) (kindOf (iFmt w)) 0xFF vs
      let r2 := (r1.setA (iRd w) d).setS (bits (iImm w) 3 0) x.tag
      if iM0 w && x.ends && !(iM1 w && x.final) then finishSend e (iRc w) x.tag d r2 r s t
      else putRun e r2.next t

/-- RADD.FWD. -/
def execRaddFwd (engine : Fin 64) (slot : Fin 16) (s : State) : Out :=
  .next (instr engine.val slot.val 0x32 (raddBody engine.val) s)

/-- GFMA.SEND: SEND is MOD[0], FIRST is MOD[1]. -/
def gfmaBody (e : Nat) (w : W64) (r : Run) (s : State) : State :=
  let a := r.acc (iRa w)
  let d := r.acc (iRd w)
  let g : W32 := (r.sreg (iRb w)).setWidth 32
  if a.kind != .f || d.kind != .f then progExc e 2 r s
  else
    let (vs, t) := if iM1 w then laneMap e r [a] (fun i => fmul r.convInf g (a.lane i).1) (issueV e s)
      else laneMap e r [a, d] (fun i => ffma r.convInf g (a.lane i).1 (d.lane i).1) (issueV e s)
    let d' := writeLanes d .f 0xFF vs
    let r' := r.setA (iRd w) d'
    if iM0 w then finishSend e (iRc w) (r.sreg (bits (iImm w) 3 0)) d' r' r s t
    else putRun e r'.next t

/-- GFMA.SEND. -/
def execGfmaSend (engine : Fin 64) (slot : Fin 16) (s : State) : Out :=
  .next (instr engine.val slot.val 0x33 (gfmaBody engine.val) s)

/-- VADD. -/
def vaddBody (e : Nat) (w : W64) (r : Run) (s : State) : State :=
  let a := r.acc (iRa w)
  let b := r.acc (iRb w)
  vecOp e w r [iRa w, iRb w] (kindOk (iFmt w) a && kindOk (iFmt w) b) (fun i => laneAdd (iFmt w) r.convInf (a.lane i) (b.lane i)) s

/-- VADD. -/
def execVadd (engine : Fin 64) (slot : Fin 16) (s : State) : Out :=
  .next (instr engine.val slot.val 0x40 (vaddBody engine.val) s)

/-- VMUL: an integer product needs I8 operands and is exact (R166). -/
def vmulBody (e : Nat) (w : W64) (r : Run) (s : State) : State :=
  let a := r.acc (iRa w)
  let b := r.acc (iRb w)
  if fmtFloat (iFmt w) then
    vecOp e w r [iRa w, iRb w] (a.kind == .f && b.kind == .f) (fun i => fmul r.convInf (a.lane i).1 (b.lane i).1) s
  else
    vecOp e w r [iRa w, iRb w] (a.kind == .i8 && b.kind == .i8) (fun i => imac (a.lane i).1 (b.lane i).1 0) s

/-- VMUL. -/
def execVmul (engine : Fin 64) (slot : Fin 16) (s : State) : Out :=
  .next (instr engine.val slot.val 0x41 (vmulBody engine.val) s)

/-- VFMA: one rounding (R167), or the exact 8-bit product accumulated (R166). -/
def vfmaBody (e : Nat) (w : W64) (r : Run) (s : State) : State :=
  let a := r.acc (iRa w)
  let b := r.acc (iRb w)
  let c := r.acc (iRc w)
  if fmtFloat (iFmt w) then
    vecOp e w r [iRa w, iRb w, iRc w] (a.kind == .f && b.kind == .f && c.kind == .f)
      (fun i => ffma r.convInf (a.lane i).1 (b.lane i).1 (c.lane i).1) s
  else
    vecOp e w r [iRa w, iRb w, iRc w] (a.kind == .i8 && b.kind == .i8 && c.kind != .f)
      (fun i => imac (a.lane i).1 (b.lane i).1 (c.lane i).1) s

/-- VFMA. -/
def execVfma (engine : Fin 64) (slot : Fin 16) (s : State) : Out :=
  .next (instr engine.val slot.val 0x42 (vfmaBody engine.val) s)

/-- VSCALE by VL factors at `[S_b + IMM]`: the widening of a factor and the product are two steps (R172; DEDUCED,
notes/assumptions/56.md). The address must be aligned to 16 bytes like that of LDV (R250). (DESIGN CHOICE, notes/assumptions/80.md) -/
def vscaleVector (e : Nat) (w : W64) (r : Run) (s : State) : State :=
  let src := r.acc (iRa w)
  let a := (r.sreg (iRb w) + BitVec.ofNat 64 (iImm w)).toNat
  let n := r.vl * fmtSize (iFmt w)
  let x := if eaSpace a n = .bad then 3 else if a % 16 ≠ 0 then 4 else 0
  if x ≠ 0 then progExc e x r s
  else if storeWait s a then s
  else match engRead e (iM1 w) (eaSpace a n) n (issueV e (issueM e s)) with
    | (none, s) => progExc e 5 r s
    | (some bs, s) =>
      let gs := (elemsOf (iFmt w) bs).map (fmtWiden (iFmt w))
      let g : Acc := ⟨.f, 0xFF, gs.map Prod.fst, gs.map Prod.snd⟩
      let (vs, t) := laneMap e r [src, g] (fun i => fmul r.convInf (src.lane i).1 (g.lane i).1) (engFlags e g.flags s)
      putRun e (r.setA (iRd w) (writeLanes (r.acc (iRd w)) .f 0xFF vs)).next t

/-- VSCALE: a scalar factor in S_b[31:0], or with MOD[0] a vector; MOD[1] is FRESH. -/
def vscaleBody (e : Nat) (w : W64) (r : Run) (s : State) : State :=
  let a := r.acc (iRa w)
  let g : W32 := (r.sreg (iRb w)).setWidth 32
  if a.kind != .f then progExc e 2 r s
  else if iM0 w then vscaleVector e w r s
  else vecOp e w r [iRa w] true (fun i => fmul r.convInf (a.lane i).1 g) s

/-- VSCALE. -/
def execVscale (engine : Fin 64) (slot : Fin 16) (s : State) : Out :=
  .next (instr engine.val slot.val 0x43 (vscaleBody engine.val) s)

/-- VMAX. -/
def vmaxBody (e : Nat) (w : W64) (r : Run) (s : State) : State :=
  let a := r.acc (iRa w)
  let b := r.acc (iRb w)
  vecOp e w r [iRa w, iRb w] (kindOk (iFmt w) a && kindOk (iFmt w) b)
    (fun i => if fmtFloat (iFmt w) then fmaximum (a.lane i).1 (b.lane i).1 else (imaximum (a.lane i).1 (b.lane i).1, 0)) s

/-- VMAX. -/
def execVmax (engine : Fin 64) (slot : Fin 16) (s : State) : Out :=
  .next (instr engine.val slot.val 0x44 (vmaxBody engine.val) s)

/-- VMOV: a copy with kind, flags and mask, or with MOD[0] IMM in every lane below VL. (DEDUCED, notes/assumptions/54.md) -/
def vmovBody (e : Nat) (w : W64) (r : Run) (s : State) : State :=
  let a := r.acc (iRa w)
  let d := r.acc (iRd w)
  if iM0 w then
    putRun e (r.setA (iRd w) (writeLanes d (kindOf (iFmt w)) 0xFF
      (List.replicate r.vl (BitVec.ofNat 32 (iImm w), 0)))).next (issueV e s)
  else if !kindOk (iFmt w) a then progExc e 2 r s
  else putRun e (r.setA (iRd w) (writeLanes d a.kind a.mask ((List.range r.vl).map a.lane))).next (issueV e s)

/-- VMOV. -/
def execVmov (engine : Fin 64) (slot : Fin 16) (s : State) : Out :=
  .next (instr engine.val slot.val 0x45 (vmovBody engine.val) s)

/-- BMSK: the block mask written, blocks outside it zero, or with MOD[0] the mask read. -/
def bmskBody (e : Nat) (w : W64) (r : Run) (s : State) : State :=
  let a := r.acc (iRa w)
  if iM0 w then putRun e (r.setS (iRd w) (a.mask.setWidth 64)).next (issueV e s)
  else
    let m : BitVec 8 := (r.sreg (iRb w)).setWidth 8
    let vs := (List.range r.vl).map (fun i => if m.getLsbD (i / 64) then a.lane i else (0, 0))
    putRun e (r.setA (iRd w) (writeLanes (r.acc (iRd w)) a.kind m vs)).next (issueV e s)

/-- BMSK. -/
def execBmsk (engine : Fin 64) (slot : Fin 16) (s : State) : Out :=
  .next (instr engine.val slot.val 0x50 (bmskBody engine.val) s)

/-- One lane of SADD: its value with its lane flags, and the flags of its own addition. (DEDUCED, notes/assumptions/55.md) -/
def saddLane (fmt : Nat) (convInf : Bool) (a b : Acc) (i : Nat) : (W32 × Fl) × Fl :=
  match a.mask.getLsbD (i / 64), b.mask.getLsbD (i / 64) with
  | true, true =>
    let v := laneAdd fmt convInf (a.lane i) (b.lane i)
    ((v.1, v.2 ||| (a.lane i).2 ||| (b.lane i).2), v.2)
  | true, false => (a.lane i, 0)
  | false, true => (b.lane i, 0)
  | false, false => ((0, 0), 0)

/-- SADD. -/
def saddBody (e : Nat) (w : W64) (r : Run) (s : State) : State :=
  let a := r.acc (iRa w)
  let b := r.acc (iRb w)
  if !(kindOk (iFmt w) a && kindOk (iFmt w) b) then progExc e 2 r s
  else
    let vs := (List.range r.vl).map (saddLane (iFmt w) r.convInf a b)
    putRun e (r.setA (iRd w) (writeLanes (r.acc (iRd w)) (kindOf (iFmt w)) (a.mask ||| b.mask) (vs.map Prod.fst))).next
      (engFlags e (vs.map Prod.snd) (issueV e s))

/-- SADD. -/
def execSadd (engine : Fin 64) (slot : Fin 16) (s : State) : Out :=
  .next (instr engine.val slot.val 0x51 (saddBody engine.val) s)

end Sys2Proof.Machine
end

