-- ==== Sys2Proof/Machine/Links.lean ====
section
/-!
DEFINITION. Commands of lanes and links (spec/03).
-/

namespace Sys2Proof.Machine

/-- LANE_LOCK (R70). -/
def execLaneLock (port : Fin 64) (lane farLane : Fin 8) (inverted : Bool) (s : State) : Out :=
  .next (laneLock port.val lane.val farLane.val inverted s)

/-- LANE_UNLOCK (R70). -/
def execLaneUnlock (port : Fin 64) (lane : Fin 8) (s : State) : Out := .next (laneUnlock port.val lane.val s)

/-- RX_READY (R71). -/
def execRxReady (port : Fin 64) (lane : Fin 8) (ready : Bool) (s : State) : Out :=
  .next (rxReady port.val lane.val ready s)

/-- EQUALISE_REQUEST (R71, R72). -/
def execEqualiseRequest (port : Fin 64) (ltf : LtfHeard) (s : State) : Out :=
  .next (equaliseRequest port.val ltf.lane.val ltf.ctrl ltf.status s)

/-- EQUALISE_TIMEOUT (R71). -/
def execEqualiseTimeout (port : Fin 64) (s : State) : Out := .next (equaliseTimeout port.val s)

/-- DATA_START (R72). -/
def execDataStart (port : Fin 64) (farLaneOk : BitVec 8) (farMaxw : BitVec 2) (s : State) : Out :=
  .next (dataStart port.val farLaneOk farMaxw s)

/-- HELLO (R87). -/
def execHello (port : Fin 64) (pkt : Packet) (s : State) : Out := .next (hello port.val pkt s)

/-- HELLO_ACK (R74). -/
def execHelloAck (port : Fin 64) (pkt : Packet) (s : State) : Out := .next (helloAck port.val pkt s)

/-- DELAY_REQ (R75). -/
def execDelayReq (port : Fin 64) (pkt : Packet) (t2 t3 : Nat) (s : State) : Out :=
  .next (delayReq port.val pkt t2 t3 s)

/-- DELAY_RESP (R75). -/
def execDelayResp (port : Fin 64) (pkt : Packet) (t1 t4 : Nat) (s : State) : Out :=
  .next (delayResp port.val pkt t1 t4 s)

/-- DELAY_EXCHANGE (R75). -/
def execDelayExchange (port : Fin 64) (t1 : Nat) (s : State) : Out := .next (delayExchange port.val t1 s)

/-- LINK_FRAME (R76). -/
def execLinkFrame (port : Fin 64) (frame : LinkFrame) (corrected : FecCounts) (uncorrectable : Nat) (s : State) : Out :=
  .next (linkFrame port.val frame corrected.codewords uncorrectable corrected.symbols s)

/-- LINK_FRAME_TRANSMIT (R63); responses go on as their packets leave (R118). -/
def execLinkFrameTransmit (port : Fin 64) (t : Nat) (s : State) : Out :=
  .next (pumpResps (linkFrameTransmit port.val t s))

/-- LANE_FAIL (R80). -/
def execLaneFail (port : Fin 64) (lane : Fin 8) (s : State) : Out := .next (laneFail port.val lane.val s)

/-- FAST_RETRAIN_END (R81). -/
def execFastRetrainEnd (port : Fin 64) (ok : Bool) (farLaneOk : BitVec 8) (farMaxw : BitVec 2) (s : State) : Out :=
  .next (fastRetrainEnd port.val ok farLaneOk farMaxw s)

/-- FAR_RETRAIN_DETECT (R93). -/
def execFarRetrainDetect (port : Fin 64) (s : State) : Out := .next (farRetrainDetect port.val s)

/-- LINK_RETRAIN (R93). -/
def execLinkRetrain (port : Fin 64) (s : State) : Out := .next (live (linkRetrain port.val) s)

/-- LINK_ACCEPT (R92). -/
def execLinkAccept (port : Fin 64) (s : State) : Out := .next (live (linkAccept port.val) s)

/-- LINK_DISABLE (R335). -/
def execLinkDisable (port : Fin 64) (s : State) : Out := .next (live (linkDisable port.val) s)

/-- LINK_ENABLE (R68). -/
def execLinkEnable (port : Fin 64) (s : State) : Out := .next (live (linkEnable port.val) s)

end Sys2Proof.Machine
end

