-- ==== Sys2Proof/Machine/Power.lean ====
section
/-!
DEFINITION. Commands of pins, clocks and start-up (spec/15, spec/18).
-/

namespace Sys2Proof.Machine

/-- RST_N_ASSERT (R341). -/
def execRstNAssert (s : State) : Out := .next (rstNAssert s)

/-- RST_N_RELEASE (R344). -/
def execRstNRelease (straps : Straps) (s : State) : Out := .next (rstNRelease straps s)

/-- TEST_EN_ASSERT (R399). -/
def execTestEnAssert (s : State) : Out := .next (testEnAssert s)

/-- TEST_EN_RELEASE (R399). -/
def execTestEnRelease (s : State) : Out := .next (testEnRelease s)

/-- UNDERVOLTAGE (R408). -/
def execUndervoltage (s : State) : Out := .next (undervoltage s)

/-- RAILS_ABOVE_THRESHOLD (R408). -/
def execRailsAboveThreshold (s : State) : Out := .next (railsAbove s)

/-- REFCLK_LOSS (R27). -/
def execRefclkLoss (s : State) : Out := .next (refclkLoss s)

/-- REFCLK_RETURN (R27). -/
def execRefclkReturn (s : State) : Out := .next (refclkReturn s)

/-- SERDES_PLL_LOCK (R344). -/
def execSerdesPllLock (s : State) : Out := .next (serdesLock s)

/-- WIPE_COMPLETE (R286). -/
def execWipeComplete (s : State) : Out := .next (busReplay (bulkResume (wipeComplete s)))

/-- IMAGE_HEADER_READ (R348). -/
def execImageHeaderRead (flashOk : Bool) (s : State) : Out := .next (imageHeaderRead flashOk s)

/-- SECTION_TABLE_READ (R348). -/
def execSectionTableRead (flashOk : Bool) (s : State) : Out := .next (sectionTableRead flashOk s)

/-- IMAGE_READ_COMPLETE (R349). -/
def execImageReadComplete (flashOk : Bool) (s : State) : Out := .next (imageReadComplete flashOk s)

/-- REGS_RECORD (R350). -/
def execRegsRecord (s : State) : Out := .next (regsRecord s)

/-- COMMIT_BUSY_TIMEOUT (R350). -/
def execCommitBusyTimeout (s : State) : Out := .next (commitBusyTimeout s)

/-- FINAL_CHECKS (R352). -/
def execFinalChecks (s : State) : Out := .next (finalChecks s)

/-- DISCOVERY_WINDOW_CLOSE (R90). -/
def execDiscoveryWindowClose (s : State) : Out := .next (discoveryWindowClose s)

/-- FABRIC_READY (R91). -/
def execFabricReady (s : State) : Out := .next (fabricReady s)

/-- LATE_GO (R354). -/
def execLateGo (s : State) : Out := .next (lateGo s)

/-- REBOOT (R341). -/
def execReboot (s : State) : Out := .next (reboot s)

end Sys2Proof.Machine
end

