-- ==== Sys2Proof/Machine/Service.lean ====
section
/-!
DEFINITION. Commands of faults and restart, the safety partition, the flash, snapshots and check values (spec/14, spec/15, spec/17, spec/18).
-/

namespace Sys2Proof.Machine

/-- BLOCK_FLT_INJECT (R324). -/
def execBlockFltInject (blk : Blk) (bits : W64) (s : State) : Out :=
  .next (onBus (blkFlt blk + 8) bits (fun s => if blkAbsent s blk then s else fltInject blk bits.toNat s) s)

/-- MGC_WATCHDOG (R322): the MGC runs on after a latched halt (R330). -/
def execMgcWatchdog (s : State) : Out := .next (live (raise .glb 43) s)

/-- RESTART_GO (R337). -/
def execRestartGo (wipe : Bool) (s : State) : Out := .next (live (restartGo wipe) s)

/-- RESTART_HALT (R338). -/
def execRestartHalt (s : State) : Out := .next (live restartHalt s)

/-- RESTART_END (R337). -/
def execRestartEnd (s : State) : Out := .next (restartEnd s)

/-- THERMAL_READING (R411). -/
def execThermalReading (temps : List (BitVec 16)) (s : State) : Out := .next (thermalReading temps s)

/-- POWER_WINDOW_END (R412). -/
def execPowerWindowEnd (watts : Nat) (s : State) : Out := .next (powerWindowEnd watts s)

/-- PROVISION (R357). -/
def execProvision (s : State) : Out := .next (sapRequest 1 s)

/-- ADD_KEY (R357). -/
def execAddKey (s : State) : Out := .next (sapRequest 2 s)

/-- REVOKE_KEY (R357). -/
def execRevokeKey (s : State) : Out := .next (sapRequest 3 s)

/-- DEPLOY (R357). -/
def execDeploy (s : State) : Out := .next (sapRequest 4 s)

/-- RETIRE (R357). -/
def execRetire (s : State) : Out := .next (sapRequest 5 s)

/-- RAISE_SVN (R357). -/
def execRaiseSvn (s : State) : Out := .next (sapRequest 6 s)

/-- SAP_SET (R360). -/
def execSapSet (s : State) : Out := .next (sapRequest 7 s)

/-- SAP_REQUEST_DONE (R357). -/
def execSapRequestDone (s : State) : Out := .next (sapRequestDone s)

/-- NVM_READ (R361). -/
def execNvmRead (s : State) : Out := .next (nvmCommand 0 s)

/-- NVM_ERASE (R361). -/
def execNvmErase (s : State) : Out := .next (nvmCommand 1 s)

/-- NVM_PROGRAM (R361). -/
def execNvmProgram (s : State) : Out := .next (nvmCommand 2 s)

/-- NVM_OPERATION_DONE (R361). -/
def execNvmOperationDone (ok : Bool) (s : State) : Out := .next (nvmDone ok s)

/-- SNAPSHOT_NOW (R386). -/
def execSnapshotNow (s : State) : Out := .next (snapshotNow s)

/-- CVU_CFG_WRITE (R389). -/
def execCvuCfgWrite (unit : Fin 8) (value : W32) (s : State) : Out := .next (cvuConfig unit.val value.toNat s)

/-- CVU_INIT (R389). -/
def execCvuInit (unit : Fin 8) (s : State) : Out := .next (cvuInit unit.val s)

/-- CVU_FEED_B (R390). -/
def execCvuFeedB (unit : Fin 8) (value : BitVec 8) (s : State) : Out :=
  .next (cvuFeed unit.val (leBytes 1 value.toNat) s)

/-- CVU_FEED_H (R390). -/
def execCvuFeedH (unit : Fin 8) (value : BitVec 16) (s : State) : Out :=
  .next (cvuFeed unit.val (leBytes 2 value.toNat) s)

/-- CVU_FEED_W (R390). -/
def execCvuFeedW (unit : Fin 8) (value : W32) (s : State) : Out := .next (cvuFeed unit.val (leBytes 4 value.toNat) s)

/-- CVU_VAL_WRITE (R391). -/
def execCvuValWrite (unit : Fin 8) (value : W64) (s : State) : Out := .next (cvuVal unit.val value s)

/-- REGISTER_WRITE (R11). -/
def execRegisterWrite (addr : W32) (width : Nat) (value : W64) (s : State) : Out :=
  .next (mgcWrite addr.toNat width value s)

end Sys2Proof.Machine
end

