-- ==== Sys2Proof/Machine/Store.lean ====
section
/-!
DEFINITION. Commands of the tensor store, milestones and pools (spec/11 to spec/13). A packet command takes the packets of its own class.
-/

namespace Sys2Proof.Machine

/-- A packet of type `t`. -/
def isType (t : Nat) (_ : State) (p : Packet) : Bool := p.typ == t

/-- A MILESTONE_OP with operation `op`. -/
def isMilestoneOp (op : Nat) (_ : State) (p : Packet) : Bool := p.typ == tMilestoneOp && moOp p == op

/-- STORE_WRITE (R273). -/
def execStoreWrite (port : Fin 64) (pkt : Packet) (s : State) : Out :=
  .next (serve port.val pkt (isType tStoreWrite) (storeWriteIn port.val) s)

/-- STORE_WRITE_END (R275). -/
def execStoreWriteEnd (src msgId : W32) (s : State) : Out := .next (storeWriteEnd src msgId s)

/-- STORE_READ (R276). -/
def execStoreRead (port : Fin 64) (pkt : Packet) (s : State) : Out :=
  .next (serve port.val pkt (isType tStoreRead) (storeReadIn port.val) s)

/-- READ_RESPONSE_HANDED (R277). -/
def execReadResponseHanded (src msgId : W32) (s : State) : Out := .next (readResponseHanded src msgId s)

/-- GATHER (R279). -/
def execGather (port : Fin 64) (pkt : Packet) (s : State) : Out :=
  .next (serve port.val pkt (isType tGather) (gatherIn port.val) s)

/-- GATHER_SUM (R280). -/
def execGatherSum (port : Fin 64) (pkt : Packet) (s : State) : Out :=
  .next (serve port.val pkt (isType tGatherSum) (gatherIn port.val) s)

/-- MILESTONE_UPDATE (R302). -/
def execMilestoneUpdate (src msgId : W32) (s : State) : Out := .next (milestoneUpdate src msgId s)

/-- MILESTONE_ADD (R302). -/
def execMilestoneAdd (port : Fin 64) (pkt : Packet) (s : State) : Out :=
  .next (serve port.val pkt (isMilestoneOp 0) (milestoneOpIn port.val) s)

/-- MILESTONE_SET (R302). -/
def execMilestoneSet (port : Fin 64) (pkt : Packet) (s : State) : Out :=
  .next (serve port.val pkt (isMilestoneOp 1) (milestoneOpIn port.val) s)

/-- MILESTONE_WAIT (R304). -/
def execMilestoneWait (port : Fin 64) (pkt : Packet) (s : State) : Out :=
  .next (serve port.val pkt (isMilestoneOp 2) (milestoneOpIn port.val) s)

/-- MSU_VAL_WRITE (R302). -/
def execMsuValWrite (milestone : BitVec 16) (value : W64) (s : State) : Out :=
  .next (live (msuValWrite milestone.toNat value) s)

/-- POOL_ALLOC (R316). -/
def execPoolAlloc (port : Fin 64) (pkt : Packet) (s : State) : Out :=
  .next (serve port.val pkt (isType tPoolAlloc) (poolAllocIn port.val) s)

/-- POOL_SHARE (R317). -/
def execPoolShare (port : Fin 64) (pkt : Packet) (s : State) : Out :=
  .next (serve port.val pkt (isType tPoolShare) (poolHandleIn port.val) s)

/-- POOL_DROP (R317). -/
def execPoolDrop (port : Fin 64) (pkt : Packet) (s : State) : Out :=
  .next (serve port.val pkt (isType tPoolDrop) (poolHandleIn port.val) s)

/-- POOL_FREE (R317). -/
def execPoolFree (port : Fin 64) (pkt : Packet) (s : State) : Out :=
  .next (serve port.val pkt (isType tPoolFree) (poolHandleIn port.val) s)

/-- BATCH_ALLOC (R233). -/
def execBatchAlloc (table : Fin 64) (cseq : W32) (expert : Nat) (s : State) : Out :=
  .next (batchAlloc table.val cseq expert s)

/-- SCRUB_STEP (R285). -/
def execScrubStep (first count : Nat) (found : MemErrors) (s : State) : Out :=
  .next (scrubStep first count found.store found.others s)

/-- REFRESH (R283). -/
def execRefresh (channel : Fin 192) (s : State) : Out := .next (refresh channel.val s)

end Sys2Proof.Machine
end

