-- ==== Sys2Proof/Machine/Tables.lean ====
section
/-!
DEFINITION. Commands of disabling, gates, signposts, contracts, and the CSQ and BPM tables (spec/04, spec/05, spec/07, spec/09, spec/13, spec/14).
-/

namespace Sys2Proof.Machine

/-- ENGINE_DISABLE (R333). -/
def execEngineDisable (engine : Fin 64) (s : State) : Out := .next (onBus (jBase engine.val + 0xF010) 1 (engineDisable engine.val) s)

/-- ENGINE_FORCE (R335). -/
def execEngineForce (engine : Fin 64) (s : State) : Out := .next (onBus (jBase engine.val + 0xF010) 3 (engineForce engine.val) s)

/-- ENGINE_ENABLE (R333). -/
def execEngineEnable (engine : Fin 64) (s : State) : Out := .next (onBus (jBase engine.val + 0xF010) 0 (engineEnable engine.val) s)

/-- SLICE_DISABLE (R333). -/
def execSliceDisable (mask : BitVec 4) (s : State) : Out :=
  .next (let v := s.field 0x400F010 3 0 ||| mask.toNat; onBus 0x400F010 (BitVec.ofNat 64 v) (sliceWrite v) s)

/-- SLICE_FORCE (R335). -/
def execSliceForce (mask : BitVec 4) (s : State) : Out := .next (onBus 0x400F010 (BitVec.ofNat 64 (mask.toNat + 16)) (sliceForce mask.toNat) s)

/-- SLICE_ENABLE (R333). -/
def execSliceEnable (mask : BitVec 4) (s : State) : Out :=
  .next (let v := s.field 0x400F010 3 0 &&& (~~~mask).toNat; onBus 0x400F010 (BitVec.ofNat 64 v) (sliceWrite v) s)

/-- UNIT_DRAINED (R333). -/
def execUnitDrained (unit : DisUnit) (s : State) : Out := .next (unitDrained unit s)

/-- GATE_SWAP (R139). -/
def execGateSwap (port : Fin 64) (s : State) : Out := .next (live (gateCtrl port.val 1) s)

/-- RTE_HOLD (R122). -/
def execRteHold (value : W32) (s : State) : Out := .next (onBus 0x2000010 (value.setWidth 64) (rteHold value.toNat) s)

/-- SWAP_SIGN (R124). -/
def execSwapSign (s : State) : Out := .next (onBus 0x2000020 1 (rteSwap true false) s)

/-- SWAP_CPATH (R124). -/
def execSwapCpath (s : State) : Out := .next (onBus 0x2000020 2 (rteSwap false true) s)

/-- SHADOW_COPY_END (R125). -/
def execShadowCopyEnd (s : State) : Out := .next (busReplay (shadowCopyEnd s))

/-- CONTRACT_WRITE (R140). -/
def execContractWrite (contract : BitVec 12) (s : State) : Out := .next (live (contractWrite contract.toNat) s)

/-- CONTRACT_DELETE (R141). -/
def execContractDelete (contract : BitVec 12) (s : State) : Out := .next (live (contractDelete contract.toNat) s)

/-- CTC_MASK_WRITE (R129). -/
def execCtcMaskWrite (value : W32) (s : State) : Out := .next (live (ctcMaskWrite value.toNat) s)

/-- GROUP_WRITE (R180). -/
def execGroupWrite (group : BitVec 12) (s : State) : Out := .next (onBus 0x4000038 (group.setWidth 64) (gcommit (group.setWidth 64)) s)

/-- GROUP_DELETE (R180). -/
def execGroupDelete (group : BitVec 12) (s : State) : Out := .next (onBus 0x4000038 (group.setWidth 64 + 0x1000) (gcommit (group.setWidth 64 + 0x1000)) s)

/-- GROUP_COMMIT_END (R180). -/
def execGroupCommitEnd (s : State) : Out := .next (busReplay (groupCommitEnd s))

/-- DESC_REGISTER (R184). -/
def execDescRegister (s : State) : Out := .next (onBus 0x4000050 0 descRegister s)

/-- DESC_REMOVE (R184). -/
def execDescRemove (s : State) : Out := .next (onBus 0x4000050 1 descRemove s)

/-- TABLE_WRITE (R225). -/
def execTableWrite (table : Fin 64) (s : State) : Out := .next (onBus 0x40000A8 (BitVec.ofNat 64 table.val) (xcommit (BitVec.ofNat 64 table.val)) s)

/-- TABLE_DELETE (R225). -/
def execTableDelete (table : Fin 64) (s : State) : Out := .next (onBus 0x40000A8 (BitVec.ofNat 64 (table.val + 64)) (xcommit (BitVec.ofNat 64 (table.val + 64))) s)

/-- TABLE_COMMIT_END (R225). -/
def execTableCommitEnd (s : State) : Out := .next (busReplay (tableCommitEnd s))

/-- PARK (R214). -/
def execPark (s : State) : Out := .next (onBus 0x4000068 1 park s)

/-- PARK_COMPLETE (R214). -/
def execParkComplete (s : State) : Out := .next (parkComplete s)

/-- RESUME (R217). -/
def execResume (s : State) : Out := .next (onBus 0x4000068 2 resume s)

/-- RESUME_COMPLETE (R217). -/
def execResumeComplete (s : State) : Out := .next (resumeComplete s)

/-- RECONF (R321). -/
def execReconf (s : State) : Out := .next (live reconf s)

/-- FORCE_FREE (R321). -/
def execForceFree (handle : W32) (s : State) : Out := .next (live (forceFree handle) s)

/-- START_GATE_OPEN (R94). -/
def execStartGateOpen (s : State) : Out := .next (live (startGate true) s)

end Sys2Proof.Machine
end

