-- ==== Sys2Proof/Machine/Dispatch.lean ====
section
/-!
DEFINITION. The meaning of a command: one arm per constructor of `Instr`, each one call.
-/

namespace Sys2Proof.Machine

/-- What command `i` does to the state `s` (the queue of waiting commands aside). -/
def exec (i : Instr) (s : State) : Host.Outcome State Fault Refusal :=
  match i with
  | .rstNAssert => Sys2Proof.Machine.execRstNAssert s
  | .rstNRelease straps => Sys2Proof.Machine.execRstNRelease straps s
  | .testEnAssert => Sys2Proof.Machine.execTestEnAssert s
  | .undervoltage => Sys2Proof.Machine.execUndervoltage s
  | .refclkLoss => Sys2Proof.Machine.execRefclkLoss s
  | .refclkReturn => Sys2Proof.Machine.execRefclkReturn s
  | .wipeComplete => Sys2Proof.Machine.execWipeComplete s
  | .imageHeaderRead flashOk => Sys2Proof.Machine.execImageHeaderRead flashOk s
  | .sectionTableRead flashOk => Sys2Proof.Machine.execSectionTableRead flashOk s
  | .imageReadComplete flashOk => Sys2Proof.Machine.execImageReadComplete flashOk s
  | .regsRecord => Sys2Proof.Machine.execRegsRecord s
  | .commitBusyTimeout => Sys2Proof.Machine.execCommitBusyTimeout s
  | .finalChecks => Sys2Proof.Machine.execFinalChecks s
  | .discoveryWindowClose => Sys2Proof.Machine.execDiscoveryWindowClose s
  | .fabricReady => Sys2Proof.Machine.execFabricReady s
  | .lateGo => Sys2Proof.Machine.execLateGo s
  | .reboot => Sys2Proof.Machine.execReboot s
  | .laneLock port lane farLane inverted => Sys2Proof.Machine.execLaneLock port lane farLane inverted s
  | .equaliseRequest port ltf => Sys2Proof.Machine.execEqualiseRequest port ltf s
  | .equaliseTimeout port => Sys2Proof.Machine.execEqualiseTimeout port s
  | .dataStart port farLaneOk farMaxw => Sys2Proof.Machine.execDataStart port farLaneOk farMaxw s
  | .hello port pkt => Sys2Proof.Machine.execHello port pkt s
  | .helloAck port pkt => Sys2Proof.Machine.execHelloAck port pkt s
  | .delayReq port pkt t2 t3 => Sys2Proof.Machine.execDelayReq port pkt t2 t3 s
  | .delayResp port pkt t1 t4 => Sys2Proof.Machine.execDelayResp port pkt t1 t4 s
  | .delayExchange port t1 => Sys2Proof.Machine.execDelayExchange port t1 s
  | .linkFrame port frame corrected uncorrectable => Sys2Proof.Machine.execLinkFrame port frame corrected uncorrectable s
  | .laneFail port lane => Sys2Proof.Machine.execLaneFail port lane s
  | .fastRetrainEnd port ok farLaneOk farMaxw => Sys2Proof.Machine.execFastRetrainEnd port ok farLaneOk farMaxw s
  | .farRetrainDetect port => Sys2Proof.Machine.execFarRetrainDetect port s
  | .linkRetrain port => Sys2Proof.Machine.execLinkRetrain port s
  | .linkAccept port => Sys2Proof.Machine.execLinkAccept port s
  | .linkDisable port => Sys2Proof.Machine.execLinkDisable port s
  | .linkEnable port => Sys2Proof.Machine.execLinkEnable port s
  | .epochBoundary rootTime => Sys2Proof.Machine.execEpochBoundary rootTime s
  | .epoch port pkt tRx => Sys2Proof.Machine.execEpoch port pkt tRx s
  | .epochHoldover => Sys2Proof.Machine.execEpochHoldover s
  | .stop port pkt => Sys2Proof.Machine.execStop port pkt s
  | .packetForward port pkt => Sys2Proof.Machine.execPacketForward port pkt s
  | .endpointDelivery port pkt => Sys2Proof.Machine.execEndpointDelivery port pkt s
  | .gateCycleStart port => Sys2Proof.Machine.execGateCycleStart port s
  | .msgTimeout src msgId => Sys2Proof.Machine.execMsgTimeout src msgId s
  | .storeWrite port pkt => Sys2Proof.Machine.execStoreWrite port pkt s
  | .storeWriteEnd src msgId => Sys2Proof.Machine.execStoreWriteEnd src msgId s
  | .storeRead port pkt => Sys2Proof.Machine.execStoreRead port pkt s
  | .readResponseHanded src msgId => Sys2Proof.Machine.execReadResponseHanded src msgId s
  | .gather port pkt => Sys2Proof.Machine.execGather port pkt s
  | .gatherSum port pkt => Sys2Proof.Machine.execGatherSum port pkt s
  | .milestoneUpdate src msgId => Sys2Proof.Machine.execMilestoneUpdate src msgId s
  | .milestoneAdd port pkt => Sys2Proof.Machine.execMilestoneAdd port pkt s
  | .milestoneSet port pkt => Sys2Proof.Machine.execMilestoneSet port pkt s
  | .milestoneWait port pkt => Sys2Proof.Machine.execMilestoneWait port pkt s
  | .msuValWrite milestone value => Sys2Proof.Machine.execMsuValWrite milestone value s
  | .poolAlloc port pkt => Sys2Proof.Machine.execPoolAlloc port pkt s
  | .poolShare port pkt => Sys2Proof.Machine.execPoolShare port pkt s
  | .poolDrop port pkt => Sys2Proof.Machine.execPoolDrop port pkt s
  | .poolFree port pkt => Sys2Proof.Machine.execPoolFree port pkt s
  | .batchAlloc table cseq expert => Sys2Proof.Machine.execBatchAlloc table cseq expert s
  | .contributeMember port pkt => Sys2Proof.Machine.execContributeMember port pkt s
  | .stepUp port pkt => Sys2Proof.Machine.execStepUp port pkt s
  | .stepDown port pkt => Sys2Proof.Machine.execStepDown port pkt s
  | .stepDone port pkt => Sys2Proof.Machine.execStepDone port pkt s
  | .stepFin port pkt => Sys2Proof.Machine.execStepFin port pkt s
  | .stepAbort port pkt => Sys2Proof.Machine.execStepAbort port pkt s
  | .upTraffic group cseq => Sys2Proof.Machine.execUpTraffic group cseq s
  | .collFinish group cseq => Sys2Proof.Machine.execCollFinish group cseq s
  | .collTimeout group cseq => Sys2Proof.Machine.execCollTimeout group cseq s
  | .tokenDispatch port pkt => Sys2Proof.Machine.execTokenDispatch port pkt s
  | .gateWeightsReturn table cseq token => Sys2Proof.Machine.execGateWeightsReturn table cseq token s
  | .sourceSeal port pkt => Sys2Proof.Machine.execSourceSeal port pkt s
  | .switchSealsSend table cseq => Sys2Proof.Machine.execSwitchSealsSend table cseq s
  | .switchCopy port pkt => Sys2Proof.Machine.execSwitchCopy port pkt s
  | .switchSeal port pkt => Sys2Proof.Machine.execSwitchSeal port pkt s
  | .dispatchClose table cseq => Sys2Proof.Machine.execDispatchClose table cseq s
  | .expertOutput port pkt => Sys2Proof.Machine.execExpertOutput port pkt s
  | .overcapNotice port pkt => Sys2Proof.Machine.execOvercapNotice port pkt s
  | .combineRun table cseq token => Sys2Proof.Machine.execCombineRun table cseq token s
  | .combineDone table cseq token => Sys2Proof.Machine.execCombineDone table cseq token s
  | .stepTimeout table cseq => Sys2Proof.Machine.execStepTimeout table cseq s
  | .combineTimeout table cseq token => Sys2Proof.Machine.execCombineTimeout table cseq token s
  | .runBegin engine => Sys2Proof.Machine.execRunBegin engine s
  | .nop engine slot => Sys2Proof.Machine.execNop engine slot s
  | .halt engine slot => Sys2Proof.Machine.execHalt engine slot s
  | .jmp engine slot => Sys2Proof.Machine.execJmp engine slot s
  | .br engine slot => Sys2Proof.Machine.execBr engine slot s
  | .loop engine slot => Sys2Proof.Machine.execLoop engine slot s
  | .waitm engine slot => Sys2Proof.Machine.execWaitm engine slot s
  | .waitmResume engine slot => Sys2Proof.Machine.execWaitmResume engine slot s
  | .spr engine slot => Sys2Proof.Machine.execSpr engine slot s
  | .movi engine slot => Sys2Proof.Machine.execMovi engine slot s
  | .salu engine slot => Sys2Proof.Machine.execSalu engine slot s
  | .salui engine slot => Sys2Proof.Machine.execSalui engine slot s
  | .lds engine slot => Sys2Proof.Machine.execLds engine slot s
  | .ldv engine slot => Sys2Proof.Machine.execLdv engine slot s
  | .ldvF engine slot => Sys2Proof.Machine.execLdvF engine slot s
  | .stv engine slot => Sys2Proof.Machine.execStv engine slot s
  | .dma engine slot => Sys2Proof.Machine.execDma engine slot s
  | .dmaComplete engine slot => Sys2Proof.Machine.execDmaComplete engine slot s
  | .dwait engine slot => Sys2Proof.Machine.execDwait engine slot s
  | .recv engine slot => Sys2Proof.Machine.execRecv engine slot s
  | .send engine slot => Sys2Proof.Machine.execSend engine slot s
  | .raddFwd engine slot => Sys2Proof.Machine.execRaddFwd engine slot s
  | .gfmaSend engine slot => Sys2Proof.Machine.execGfmaSend engine slot s
  | .vadd engine slot => Sys2Proof.Machine.execVadd engine slot s
  | .vmul engine slot => Sys2Proof.Machine.execVmul engine slot s
  | .vfma engine slot => Sys2Proof.Machine.execVfma engine slot s
  | .vscale engine slot => Sys2Proof.Machine.execVscale engine slot s
  | .vmax engine slot => Sys2Proof.Machine.execVmax engine slot s
  | .vmov engine slot => Sys2Proof.Machine.execVmov engine slot s
  | .bmsk engine slot => Sys2Proof.Machine.execBmsk engine slot s
  | .sadd engine slot => Sys2Proof.Machine.execSadd engine slot s
  | .fenceAcq engine slot => Sys2Proof.Machine.execFenceAcq engine slot s
  | .fenceRel engine slot => Sys2Proof.Machine.execFenceRel engine slot s
  | .madd engine slot => Sys2Proof.Machine.execMadd engine slot s
  | .vcrc engine slot => Sys2Proof.Machine.execVcrc engine slot s
  | .runDone engine => Sys2Proof.Machine.execRunDone engine s
  | .runWatchdog engine slot => Sys2Proof.Machine.execRunWatchdog engine slot s
  | .runStart engine value => Sys2Proof.Machine.execRunStart engine value s
  | .programLoad engine pid => Sys2Proof.Machine.execProgramLoad engine pid s
  | .programUnload engine pid => Sys2Proof.Machine.execProgramUnload engine pid s
  | .jExcClr engine value => Sys2Proof.Machine.execJExcClr engine value s
  | .tscExcClr value => Sys2Proof.Machine.execTscExcClr value s
  | .engineDisable engine => Sys2Proof.Machine.execEngineDisable engine s
  | .engineForce engine => Sys2Proof.Machine.execEngineForce engine s
  | .engineEnable engine => Sys2Proof.Machine.execEngineEnable engine s
  | .sliceDisable mask => Sys2Proof.Machine.execSliceDisable mask s
  | .sliceForce mask => Sys2Proof.Machine.execSliceForce mask s
  | .sliceEnable mask => Sys2Proof.Machine.execSliceEnable mask s
  | .unitDrained unit => Sys2Proof.Machine.execUnitDrained unit s
  | .gateSwap port => Sys2Proof.Machine.execGateSwap port s
  | .rteHold value => Sys2Proof.Machine.execRteHold value s
  | .swapSign => Sys2Proof.Machine.execSwapSign s
  | .swapCpath => Sys2Proof.Machine.execSwapCpath s
  | .shadowCopyEnd => Sys2Proof.Machine.execShadowCopyEnd s
  | .contractWrite contract => Sys2Proof.Machine.execContractWrite contract s
  | .contractDelete contract => Sys2Proof.Machine.execContractDelete contract s
  | .ctcMaskWrite value => Sys2Proof.Machine.execCtcMaskWrite value s
  | .groupWrite group => Sys2Proof.Machine.execGroupWrite group s
  | .groupDelete group => Sys2Proof.Machine.execGroupDelete group s
  | .descRegister => Sys2Proof.Machine.execDescRegister s
  | .descRemove => Sys2Proof.Machine.execDescRemove s
  | .tableWrite table => Sys2Proof.Machine.execTableWrite table s
  | .tableDelete table => Sys2Proof.Machine.execTableDelete table s
  | .park => Sys2Proof.Machine.execPark s
  | .resume => Sys2Proof.Machine.execResume s
  | .reconf => Sys2Proof.Machine.execReconf s
  | .forceFree handle => Sys2Proof.Machine.execForceFree handle s
  | .startGateOpen => Sys2Proof.Machine.execStartGateOpen s
  | .blockFltInject blk bits => Sys2Proof.Machine.execBlockFltInject blk bits s
  | .mgcWatchdog => Sys2Proof.Machine.execMgcWatchdog s
  | .restartGo wipe => Sys2Proof.Machine.execRestartGo wipe s
  | .restartHalt => Sys2Proof.Machine.execRestartHalt s
  | .restartEnd => Sys2Proof.Machine.execRestartEnd s
  | .thermalReading temps => Sys2Proof.Machine.execThermalReading temps s
  | .powerWindowEnd watts => Sys2Proof.Machine.execPowerWindowEnd watts s
  | .scrubStep first count found => Sys2Proof.Machine.execScrubStep first count found s
  | .refresh channel => Sys2Proof.Machine.execRefresh channel s
  | .provision => Sys2Proof.Machine.execProvision s
  | .addKey => Sys2Proof.Machine.execAddKey s
  | .revokeKey => Sys2Proof.Machine.execRevokeKey s
  | .deploy => Sys2Proof.Machine.execDeploy s
  | .retire => Sys2Proof.Machine.execRetire s
  | .raiseSvn => Sys2Proof.Machine.execRaiseSvn s
  | .sapSet => Sys2Proof.Machine.execSapSet s
  | .nvmRead => Sys2Proof.Machine.execNvmRead s
  | .nvmErase => Sys2Proof.Machine.execNvmErase s
  | .nvmProgram => Sys2Proof.Machine.execNvmProgram s
  | .snapshotNow => Sys2Proof.Machine.execSnapshotNow s
  | .cvuCfgWrite unit value => Sys2Proof.Machine.execCvuCfgWrite unit value s
  | .cvuInit unit => Sys2Proof.Machine.execCvuInit unit s
  | .cvuFeedB unit value => Sys2Proof.Machine.execCvuFeedB unit value s
  | .cvuFeedH unit value => Sys2Proof.Machine.execCvuFeedH unit value s
  | .cvuFeedW unit value => Sys2Proof.Machine.execCvuFeedW unit value s
  | .cvuValWrite unit value => Sys2Proof.Machine.execCvuValWrite unit value s
  | .ympRead host msg => Sys2Proof.Machine.execYmpRead host msg s
  | .ympWrite host msg => Sys2Proof.Machine.execYmpWrite host msg s
  | .registerWrite addr width value => Sys2Proof.Machine.execRegisterWrite addr width value s
  | .eventAck host msg => Sys2Proof.Machine.execEventAck host msg s
  | .eventRetry => Sys2Proof.Machine.execEventRetry s
  | .bulkWr host msg => Sys2Proof.Machine.execBulkWr host msg s
  | .bulkRd host msg => Sys2Proof.Machine.execBulkRd host msg s
  | .bulkIdle session xid => Sys2Proof.Machine.execBulkIdle session xid s
  | .bulkTimeout session xid => Sys2Proof.Machine.execBulkTimeout session xid s
  | .sessionOpen slot authenticated => Sys2Proof.Machine.execSessionOpen slot authenticated s
  | .sessionConfirm slot authenticated => Sys2Proof.Machine.execSessionConfirm slot authenticated s
  | .sessionClose slot authenticated => Sys2Proof.Machine.execSessionClose slot authenticated s
  | .attest => Sys2Proof.Machine.execAttest s
  | .neighborSolicitation host eth srcIp target => Sys2Proof.Machine.execNeighborSolicitation host eth srcIp target s
  | .echoRequest host eth srcIp dstIp data => Sys2Proof.Machine.execEchoRequest host eth srcIp dstIp data s
  | .ptpMessage host msg => Sys2Proof.Machine.execPtpMessage host msg s
  | .auiSelect value => Sys2Proof.Machine.execAuiSelect value s
  | .auiTryTimeout host => Sys2Proof.Machine.execAuiTryTimeout host s
  | .linkFrameTransmit port t => Sys2Proof.Machine.execLinkFrameTransmit port t s
  | .laneUnlock port lane => Sys2Proof.Machine.execLaneUnlock port lane s
  | .rxReady port lane ready => Sys2Proof.Machine.execRxReady port lane ready s
  | .railsAboveThreshold => Sys2Proof.Machine.execRailsAboveThreshold s
  | .testEnRelease => Sys2Proof.Machine.execTestEnRelease s
  | .serdesPllLock => Sys2Proof.Machine.execSerdesPllLock s
  | .hostPcsLock host => Sys2Proof.Machine.execHostPcsLock host s
  | .hostLinkLoss host => Sys2Proof.Machine.execHostLinkLoss host s
  | .groupCommitEnd => Sys2Proof.Machine.execGroupCommitEnd s
  | .tableCommitEnd => Sys2Proof.Machine.execTableCommitEnd s
  | .programLoadEnd engine => Sys2Proof.Machine.execProgramLoadEnd engine s
  | .parkComplete => Sys2Proof.Machine.execParkComplete s
  | .resumeComplete => Sys2Proof.Machine.execResumeComplete s
  | .attestationDone => Sys2Proof.Machine.execAttestationDone s
  | .sapRequestDone => Sys2Proof.Machine.execSapRequestDone s
  | .nvmOperationDone ok => Sys2Proof.Machine.execNvmOperationDone ok s

end Sys2Proof.Machine
end

