-- ==== Sys2Proof/Laws/State.lean ====
section
/-!
SUPPORT. What each named update of the state leaves as it is: one lemma a field and update, so that no proof unfolds a
record update.
-/

namespace Sys2Proof.Machine

variable (s : State)

/-! ## State.setReg -/

@[simp] theorem State.setReg_pending (a : Nat) (v : W64) : (s.setReg a v).pending = s.pending := rfl
@[simp] theorem State.setReg_fresh (a : Nat) (v : W64) : (s.setReg a v).fresh = s.fresh := rfl
@[simp] theorem State.setReg_now (a : Nat) (v : W64) : (s.setReg a v).now = s.now := rfl
@[simp] theorem State.setReg_time7 (a : Nat) (v : W64) : (s.setReg a v).time7 = s.time7 := rfl
@[simp] theorem State.setReg_aclk (a : Nat) (v : W64) : (s.setReg a v).aclk = s.aclk := rfl
@[simp] theorem State.setReg_w1cSet (a : Nat) (v : W64) : (s.setReg a v).w1cSet = s.w1cSet := rfl
@[simp] theorem State.setReg_again (a : Nat) (v : W64) : (s.setReg a v).again = s.again := rfl
@[simp] theorem State.setReg_wrote (a : Nat) (v : W64) : (s.setReg a v).wrote = s.wrote := rfl
@[simp] theorem State.setReg_msuLast (a : Nat) (v : W64) : (s.setReg a v).msuLast = s.msuLast := rfl
@[simp] theorem State.setReg_excNow (a : Nat) (v : W64) : (s.setReg a v).excNow = s.excNow := rfl
@[simp] theorem State.setReg_issued (a : Nat) (v : W64) : (s.setReg a v).issued = s.issued := rfl
@[simp] theorem State.setReg_evts (a : Nat) (v : W64) : (s.setReg a v).evts = s.evts := rfl
@[simp] theorem State.setReg_ecbPend (a : Nat) (v : W64) : (s.setReg a v).ecbPend = s.ecbPend := rfl
@[simp] theorem State.setReg_corrected (a : Nat) (v : W64) : (s.setReg a v).corrected = s.corrected := rfl
@[simp] theorem State.setReg_jtag (a : Nat) (v : W64) : (s.setReg a v).jtag = s.jtag := rfl
@[simp] theorem State.setReg_mgcTraps (a : Nat) (v : W64) : (s.setReg a v).mgcTraps = s.mgcTraps := rfl
@[simp] theorem State.setReg_mgcSram (a : Nat) (v : W64) : (s.setReg a v).mgcSram = s.mgcSram := rfl
@[simp] theorem State.setReg_mgcOn (a : Nat) (v : W64) : (s.setReg a v).mgcOn = s.mgcOn := rfl
@[simp] theorem State.setReg_stopsLeft (a : Nat) (v : W64) : (s.setReg a v).stopsLeft = s.stopsLeft := rfl
@[simp] theorem State.setReg_raised (a : Nat) (v : W64) : (s.setReg a v).raised = s.raised := rfl
@[simp] theorem State.setReg_pins (a : Nat) (v : W64) : (s.setReg a v).pins = s.pins := rfl
@[simp] theorem State.setReg_fuses (a : Nat) (v : W64) : (s.setReg a v).fuses = s.fuses := rfl
@[simp] theorem State.setReg_flash (a : Nat) (v : W64) : (s.setReg a v).flash = s.flash := rfl
@[simp] theorem State.setReg_flashSize (a : Nat) (v : W64) : (s.setReg a v).flashSize = s.flashSize := rfl
@[simp] theorem State.setReg_boot (a : Nat) (v : W64) : (s.setReg a v).boot = s.boot := rfl
@[simp] theorem State.setReg_rack (a : Nat) (v : W64) : (s.setReg a v).rack = s.rack := rfl
@[simp] theorem State.setReg_mem (a : Nat) (v : W64) : (s.setReg a v).mem = s.mem := rfl
@[simp] theorem State.setReg_poison (a : Nat) (v : W64) : (s.setReg a v).poison = s.poison := rfl
@[simp] theorem State.setReg_flaws (a : Nat) (v : W64) : (s.setReg a v).flaws = s.flaws := rfl
@[simp] theorem State.setReg_gerr (a : Nat) (v : W64) : (s.setReg a v).gerr = s.gerr := rfl
@[simp] theorem State.setReg_gpoison (a : Nat) (v : W64) : (s.setReg a v).gpoison = s.gpoison := rfl
@[simp] theorem State.setReg_wiping (a : Nat) (v : W64) : (s.setReg a v).wiping = s.wiping := rfl
@[simp] theorem State.setReg_rowCache (a : Nat) (v : W64) : (s.setReg a v).rowCache = s.rowCache := rfl
@[simp] theorem State.setReg_ports (a : Nat) (v : W64) : (s.setReg a v).ports = s.ports := rfl
@[simp] theorem State.setReg_spread (a : Nat) (v : W64) : (s.setReg a v).spread = s.spread := rfl
@[simp] theorem State.setReg_pathWritten (a : Nat) (v : W64) : (s.setReg a v).pathWritten = s.pathWritten := rfl
@[simp] theorem State.setReg_msgCtr (a : Nat) (v : W64) : (s.setReg a v).msgCtr = s.msgCtr := rfl
@[simp] theorem State.setReg_seqCtr (a : Nat) (v : W64) : (s.setReg a v).seqCtr = s.seqCtr := rfl
@[simp] theorem State.setReg_msgs (a : Nat) (v : W64) : (s.setReg a v).msgs = s.msgs := rfl
@[simp] theorem State.setReg_resps (a : Nat) (v : W64) : (s.setReg a v).resps = s.resps := rfl
@[simp] theorem State.setReg_results (a : Nat) (v : W64) : (s.setReg a v).results = s.results := rfl
@[simp] theorem State.setReg_releases (a : Nat) (v : W64) : (s.setReg a v).releases = s.releases := rfl
@[simp] theorem State.setReg_milestones (a : Nat) (v : W64) : (s.setReg a v).milestones = s.milestones := rfl
@[simp] theorem State.setReg_waits (a : Nat) (v : W64) : (s.setReg a v).waits = s.waits := rfl
@[simp] theorem State.setReg_bpm (a : Nat) (v : W64) : (s.setReg a v).bpm = s.bpm := rfl
@[simp] theorem State.setReg_engines (a : Nat) (v : W64) : (s.setReg a v).engines = s.engines := rfl
@[simp] theorem State.setReg_slices (a : Nat) (v : W64) : (s.setReg a v).slices = s.slices := rfl
@[simp] theorem State.setReg_descs (a : Nat) (v : W64) : (s.setReg a v).descs = s.descs := rfl
@[simp] theorem State.setReg_colls (a : Nat) (v : W64) : (s.setReg a v).colls = s.colls := rfl
@[simp] theorem State.setReg_closed (a : Nat) (v : W64) : (s.setReg a v).closed = s.closed := rfl
@[simp] theorem State.setReg_locals (a : Nat) (v : W64) : (s.setReg a v).locals = s.locals := rfl
@[simp] theorem State.setReg_parkedKeys (a : Nat) (v : W64) : (s.setReg a v).parkedKeys = s.parkedKeys := rfl
@[simp] theorem State.setReg_parked (a : Nat) (v : W64) : (s.setReg a v).parked = s.parked := rfl
@[simp] theorem State.setReg_parkMsgs (a : Nat) (v : W64) : (s.setReg a v).parkMsgs = s.parkMsgs := rfl
@[simp] theorem State.setReg_parkMeta (a : Nat) (v : W64) : (s.setReg a v).parkMeta = s.parkMeta := rfl
@[simp] theorem State.setReg_parkWait (a : Nat) (v : W64) : (s.setReg a v).parkWait = s.parkWait := rfl
@[simp] theorem State.setReg_collWait (a : Nat) (v : W64) : (s.setReg a v).collWait = s.collWait := rfl
@[simp] theorem State.setReg_grpCommit (a : Nat) (v : W64) : (s.setReg a v).grpCommit = s.grpCommit := rfl
@[simp] theorem State.setReg_tabCommit (a : Nat) (v : W64) : (s.setReg a v).tabCommit = s.tabCommit := rfl
@[simp] theorem State.setReg_busHeld (a : Nat) (v : W64) : (s.setReg a v).busHeld = s.busHeld := rfl
@[simp] theorem State.setReg_bulkWait (a : Nat) (v : W64) : (s.setReg a v).bulkWait = s.bulkWait := rfl
@[simp] theorem State.setReg_xswitches (a : Nat) (v : W64) : (s.setReg a v).xswitches = s.xswitches := rfl
@[simp] theorem State.setReg_stepDrops (a : Nat) (v : W64) : (s.setReg a v).stepDrops = s.stepDrops := rfl
@[simp] theorem State.setReg_xsteps (a : Nat) (v : W64) : (s.setReg a v).xsteps = s.xsteps := rfl
@[simp] theorem State.setReg_combs (a : Nat) (v : W64) : (s.setReg a v).combs = s.combs := rfl
@[simp] theorem State.setReg_xclosed (a : Nat) (v : W64) : (s.setReg a v).xclosed = s.xclosed := rfl
@[simp] theorem State.setReg_hep (a : Nat) (v : W64) : (s.setReg a v).hep = s.hep := rfl

/-! ## State.setRegN -/

@[simp] theorem State.setRegN_pending (a v : Nat) : (s.setRegN a v).pending = s.pending := rfl
@[simp] theorem State.setRegN_fresh (a v : Nat) : (s.setRegN a v).fresh = s.fresh := rfl
@[simp] theorem State.setRegN_now (a v : Nat) : (s.setRegN a v).now = s.now := rfl
@[simp] theorem State.setRegN_time7 (a v : Nat) : (s.setRegN a v).time7 = s.time7 := rfl
@[simp] theorem State.setRegN_aclk (a v : Nat) : (s.setRegN a v).aclk = s.aclk := rfl
@[simp] theorem State.setRegN_w1cSet (a v : Nat) : (s.setRegN a v).w1cSet = s.w1cSet := rfl
@[simp] theorem State.setRegN_again (a v : Nat) : (s.setRegN a v).again = s.again := rfl
@[simp] theorem State.setRegN_wrote (a v : Nat) : (s.setRegN a v).wrote = s.wrote := rfl
@[simp] theorem State.setRegN_msuLast (a v : Nat) : (s.setRegN a v).msuLast = s.msuLast := rfl
@[simp] theorem State.setRegN_excNow (a v : Nat) : (s.setRegN a v).excNow = s.excNow := rfl
@[simp] theorem State.setRegN_issued (a v : Nat) : (s.setRegN a v).issued = s.issued := rfl
@[simp] theorem State.setRegN_evts (a v : Nat) : (s.setRegN a v).evts = s.evts := rfl
@[simp] theorem State.setRegN_ecbPend (a v : Nat) : (s.setRegN a v).ecbPend = s.ecbPend := rfl
@[simp] theorem State.setRegN_corrected (a v : Nat) : (s.setRegN a v).corrected = s.corrected := rfl
@[simp] theorem State.setRegN_jtag (a v : Nat) : (s.setRegN a v).jtag = s.jtag := rfl
@[simp] theorem State.setRegN_mgcTraps (a v : Nat) : (s.setRegN a v).mgcTraps = s.mgcTraps := rfl
@[simp] theorem State.setRegN_mgcSram (a v : Nat) : (s.setRegN a v).mgcSram = s.mgcSram := rfl
@[simp] theorem State.setRegN_mgcOn (a v : Nat) : (s.setRegN a v).mgcOn = s.mgcOn := rfl
@[simp] theorem State.setRegN_stopsLeft (a v : Nat) : (s.setRegN a v).stopsLeft = s.stopsLeft := rfl
@[simp] theorem State.setRegN_raised (a v : Nat) : (s.setRegN a v).raised = s.raised := rfl
@[simp] theorem State.setRegN_pins (a v : Nat) : (s.setRegN a v).pins = s.pins := rfl
@[simp] theorem State.setRegN_fuses (a v : Nat) : (s.setRegN a v).fuses = s.fuses := rfl
@[simp] theorem State.setRegN_flash (a v : Nat) : (s.setRegN a v).flash = s.flash := rfl
@[simp] theorem State.setRegN_flashSize (a v : Nat) : (s.setRegN a v).flashSize = s.flashSize := rfl
@[simp] theorem State.setRegN_boot (a v : Nat) : (s.setRegN a v).boot = s.boot := rfl
@[simp] theorem State.setRegN_rack (a v : Nat) : (s.setRegN a v).rack = s.rack := rfl
@[simp] theorem State.setRegN_mem (a v : Nat) : (s.setRegN a v).mem = s.mem := rfl
@[simp] theorem State.setRegN_poison (a v : Nat) : (s.setRegN a v).poison = s.poison := rfl
@[simp] theorem State.setRegN_flaws (a v : Nat) : (s.setRegN a v).flaws = s.flaws := rfl
@[simp] theorem State.setRegN_gerr (a v : Nat) : (s.setRegN a v).gerr = s.gerr := rfl
@[simp] theorem State.setRegN_gpoison (a v : Nat) : (s.setRegN a v).gpoison = s.gpoison := rfl
@[simp] theorem State.setRegN_wiping (a v : Nat) : (s.setRegN a v).wiping = s.wiping := rfl
@[simp] theorem State.setRegN_rowCache (a v : Nat) : (s.setRegN a v).rowCache = s.rowCache := rfl
@[simp] theorem State.setRegN_ports (a v : Nat) : (s.setRegN a v).ports = s.ports := rfl
@[simp] theorem State.setRegN_spread (a v : Nat) : (s.setRegN a v).spread = s.spread := rfl
@[simp] theorem State.setRegN_pathWritten (a v : Nat) : (s.setRegN a v).pathWritten = s.pathWritten := rfl
@[simp] theorem State.setRegN_msgCtr (a v : Nat) : (s.setRegN a v).msgCtr = s.msgCtr := rfl
@[simp] theorem State.setRegN_seqCtr (a v : Nat) : (s.setRegN a v).seqCtr = s.seqCtr := rfl
@[simp] theorem State.setRegN_msgs (a v : Nat) : (s.setRegN a v).msgs = s.msgs := rfl
@[simp] theorem State.setRegN_resps (a v : Nat) : (s.setRegN a v).resps = s.resps := rfl
@[simp] theorem State.setRegN_results (a v : Nat) : (s.setRegN a v).results = s.results := rfl
@[simp] theorem State.setRegN_releases (a v : Nat) : (s.setRegN a v).releases = s.releases := rfl
@[simp] theorem State.setRegN_milestones (a v : Nat) : (s.setRegN a v).milestones = s.milestones := rfl
@[simp] theorem State.setRegN_waits (a v : Nat) : (s.setRegN a v).waits = s.waits := rfl
@[simp] theorem State.setRegN_bpm (a v : Nat) : (s.setRegN a v).bpm = s.bpm := rfl
@[simp] theorem State.setRegN_engines (a v : Nat) : (s.setRegN a v).engines = s.engines := rfl
@[simp] theorem State.setRegN_slices (a v : Nat) : (s.setRegN a v).slices = s.slices := rfl
@[simp] theorem State.setRegN_descs (a v : Nat) : (s.setRegN a v).descs = s.descs := rfl
@[simp] theorem State.setRegN_colls (a v : Nat) : (s.setRegN a v).colls = s.colls := rfl
@[simp] theorem State.setRegN_closed (a v : Nat) : (s.setRegN a v).closed = s.closed := rfl
@[simp] theorem State.setRegN_locals (a v : Nat) : (s.setRegN a v).locals = s.locals := rfl
@[simp] theorem State.setRegN_parkedKeys (a v : Nat) : (s.setRegN a v).parkedKeys = s.parkedKeys := rfl
@[simp] theorem State.setRegN_parked (a v : Nat) : (s.setRegN a v).parked = s.parked := rfl
@[simp] theorem State.setRegN_parkMsgs (a v : Nat) : (s.setRegN a v).parkMsgs = s.parkMsgs := rfl
@[simp] theorem State.setRegN_parkMeta (a v : Nat) : (s.setRegN a v).parkMeta = s.parkMeta := rfl
@[simp] theorem State.setRegN_parkWait (a v : Nat) : (s.setRegN a v).parkWait = s.parkWait := rfl
@[simp] theorem State.setRegN_collWait (a v : Nat) : (s.setRegN a v).collWait = s.collWait := rfl
@[simp] theorem State.setRegN_grpCommit (a v : Nat) : (s.setRegN a v).grpCommit = s.grpCommit := rfl
@[simp] theorem State.setRegN_tabCommit (a v : Nat) : (s.setRegN a v).tabCommit = s.tabCommit := rfl
@[simp] theorem State.setRegN_busHeld (a v : Nat) : (s.setRegN a v).busHeld = s.busHeld := rfl
@[simp] theorem State.setRegN_bulkWait (a v : Nat) : (s.setRegN a v).bulkWait = s.bulkWait := rfl
@[simp] theorem State.setRegN_xswitches (a v : Nat) : (s.setRegN a v).xswitches = s.xswitches := rfl
@[simp] theorem State.setRegN_stepDrops (a v : Nat) : (s.setRegN a v).stepDrops = s.stepDrops := rfl
@[simp] theorem State.setRegN_xsteps (a v : Nat) : (s.setRegN a v).xsteps = s.xsteps := rfl
@[simp] theorem State.setRegN_combs (a v : Nat) : (s.setRegN a v).combs = s.combs := rfl
@[simp] theorem State.setRegN_xclosed (a v : Nat) : (s.setRegN a v).xclosed = s.xclosed := rfl
@[simp] theorem State.setRegN_hep (a v : Nat) : (s.setRegN a v).hep = s.hep := rfl

/-! ## State.setField -/

@[simp] theorem State.setField_pending (a hi lo x : Nat) : (s.setField a hi lo x).pending = s.pending := rfl
@[simp] theorem State.setField_fresh (a hi lo x : Nat) : (s.setField a hi lo x).fresh = s.fresh := rfl
@[simp] theorem State.setField_now (a hi lo x : Nat) : (s.setField a hi lo x).now = s.now := rfl
@[simp] theorem State.setField_time7 (a hi lo x : Nat) : (s.setField a hi lo x).time7 = s.time7 := rfl
@[simp] theorem State.setField_aclk (a hi lo x : Nat) : (s.setField a hi lo x).aclk = s.aclk := rfl
@[simp] theorem State.setField_w1cSet (a hi lo x : Nat) : (s.setField a hi lo x).w1cSet = s.w1cSet := rfl
@[simp] theorem State.setField_again (a hi lo x : Nat) : (s.setField a hi lo x).again = s.again := rfl
@[simp] theorem State.setField_wrote (a hi lo x : Nat) : (s.setField a hi lo x).wrote = s.wrote := rfl
@[simp] theorem State.setField_msuLast (a hi lo x : Nat) : (s.setField a hi lo x).msuLast = s.msuLast := rfl
@[simp] theorem State.setField_excNow (a hi lo x : Nat) : (s.setField a hi lo x).excNow = s.excNow := rfl
@[simp] theorem State.setField_issued (a hi lo x : Nat) : (s.setField a hi lo x).issued = s.issued := rfl
@[simp] theorem State.setField_evts (a hi lo x : Nat) : (s.setField a hi lo x).evts = s.evts := rfl
@[simp] theorem State.setField_ecbPend (a hi lo x : Nat) : (s.setField a hi lo x).ecbPend = s.ecbPend := rfl
@[simp] theorem State.setField_corrected (a hi lo x : Nat) : (s.setField a hi lo x).corrected = s.corrected := rfl
@[simp] theorem State.setField_jtag (a hi lo x : Nat) : (s.setField a hi lo x).jtag = s.jtag := rfl
@[simp] theorem State.setField_mgcTraps (a hi lo x : Nat) : (s.setField a hi lo x).mgcTraps = s.mgcTraps := rfl
@[simp] theorem State.setField_mgcSram (a hi lo x : Nat) : (s.setField a hi lo x).mgcSram = s.mgcSram := rfl
@[simp] theorem State.setField_mgcOn (a hi lo x : Nat) : (s.setField a hi lo x).mgcOn = s.mgcOn := rfl
@[simp] theorem State.setField_stopsLeft (a hi lo x : Nat) : (s.setField a hi lo x).stopsLeft = s.stopsLeft := rfl
@[simp] theorem State.setField_raised (a hi lo x : Nat) : (s.setField a hi lo x).raised = s.raised := rfl
@[simp] theorem State.setField_pins (a hi lo x : Nat) : (s.setField a hi lo x).pins = s.pins := rfl
@[simp] theorem State.setField_fuses (a hi lo x : Nat) : (s.setField a hi lo x).fuses = s.fuses := rfl
@[simp] theorem State.setField_flash (a hi lo x : Nat) : (s.setField a hi lo x).flash = s.flash := rfl
@[simp] theorem State.setField_flashSize (a hi lo x : Nat) : (s.setField a hi lo x).flashSize = s.flashSize := rfl
@[simp] theorem State.setField_boot (a hi lo x : Nat) : (s.setField a hi lo x).boot = s.boot := rfl
@[simp] theorem State.setField_rack (a hi lo x : Nat) : (s.setField a hi lo x).rack = s.rack := rfl
@[simp] theorem State.setField_mem (a hi lo x : Nat) : (s.setField a hi lo x).mem = s.mem := rfl
@[simp] theorem State.setField_poison (a hi lo x : Nat) : (s.setField a hi lo x).poison = s.poison := rfl
@[simp] theorem State.setField_flaws (a hi lo x : Nat) : (s.setField a hi lo x).flaws = s.flaws := rfl
@[simp] theorem State.setField_gerr (a hi lo x : Nat) : (s.setField a hi lo x).gerr = s.gerr := rfl
@[simp] theorem State.setField_gpoison (a hi lo x : Nat) : (s.setField a hi lo x).gpoison = s.gpoison := rfl
@[simp] theorem State.setField_wiping (a hi lo x : Nat) : (s.setField a hi lo x).wiping = s.wiping := rfl
@[simp] theorem State.setField_rowCache (a hi lo x : Nat) : (s.setField a hi lo x).rowCache = s.rowCache := rfl
@[simp] theorem State.setField_ports (a hi lo x : Nat) : (s.setField a hi lo x).ports = s.ports := rfl
@[simp] theorem State.setField_spread (a hi lo x : Nat) : (s.setField a hi lo x).spread = s.spread := rfl
@[simp] theorem State.setField_pathWritten (a hi lo x : Nat) : (s.setField a hi lo x).pathWritten = s.pathWritten := rfl
@[simp] theorem State.setField_msgCtr (a hi lo x : Nat) : (s.setField a hi lo x).msgCtr = s.msgCtr := rfl
@[simp] theorem State.setField_seqCtr (a hi lo x : Nat) : (s.setField a hi lo x).seqCtr = s.seqCtr := rfl
@[simp] theorem State.setField_msgs (a hi lo x : Nat) : (s.setField a hi lo x).msgs = s.msgs := rfl
@[simp] theorem State.setField_resps (a hi lo x : Nat) : (s.setField a hi lo x).resps = s.resps := rfl
@[simp] theorem State.setField_results (a hi lo x : Nat) : (s.setField a hi lo x).results = s.results := rfl
@[simp] theorem State.setField_releases (a hi lo x : Nat) : (s.setField a hi lo x).releases = s.releases := rfl
@[simp] theorem State.setField_milestones (a hi lo x : Nat) : (s.setField a hi lo x).milestones = s.milestones := rfl
@[simp] theorem State.setField_waits (a hi lo x : Nat) : (s.setField a hi lo x).waits = s.waits := rfl
@[simp] theorem State.setField_bpm (a hi lo x : Nat) : (s.setField a hi lo x).bpm = s.bpm := rfl
@[simp] theorem State.setField_engines (a hi lo x : Nat) : (s.setField a hi lo x).engines = s.engines := rfl
@[simp] theorem State.setField_slices (a hi lo x : Nat) : (s.setField a hi lo x).slices = s.slices := rfl
@[simp] theorem State.setField_descs (a hi lo x : Nat) : (s.setField a hi lo x).descs = s.descs := rfl
@[simp] theorem State.setField_colls (a hi lo x : Nat) : (s.setField a hi lo x).colls = s.colls := rfl
@[simp] theorem State.setField_closed (a hi lo x : Nat) : (s.setField a hi lo x).closed = s.closed := rfl
@[simp] theorem State.setField_locals (a hi lo x : Nat) : (s.setField a hi lo x).locals = s.locals := rfl
@[simp] theorem State.setField_parkedKeys (a hi lo x : Nat) : (s.setField a hi lo x).parkedKeys = s.parkedKeys := rfl
@[simp] theorem State.setField_parked (a hi lo x : Nat) : (s.setField a hi lo x).parked = s.parked := rfl
@[simp] theorem State.setField_parkMsgs (a hi lo x : Nat) : (s.setField a hi lo x).parkMsgs = s.parkMsgs := rfl
@[simp] theorem State.setField_parkMeta (a hi lo x : Nat) : (s.setField a hi lo x).parkMeta = s.parkMeta := rfl
@[simp] theorem State.setField_parkWait (a hi lo x : Nat) : (s.setField a hi lo x).parkWait = s.parkWait := rfl
@[simp] theorem State.setField_collWait (a hi lo x : Nat) : (s.setField a hi lo x).collWait = s.collWait := rfl
@[simp] theorem State.setField_grpCommit (a hi lo x : Nat) : (s.setField a hi lo x).grpCommit = s.grpCommit := rfl
@[simp] theorem State.setField_tabCommit (a hi lo x : Nat) : (s.setField a hi lo x).tabCommit = s.tabCommit := rfl
@[simp] theorem State.setField_busHeld (a hi lo x : Nat) : (s.setField a hi lo x).busHeld = s.busHeld := rfl
@[simp] theorem State.setField_bulkWait (a hi lo x : Nat) : (s.setField a hi lo x).bulkWait = s.bulkWait := rfl
@[simp] theorem State.setField_xswitches (a hi lo x : Nat) : (s.setField a hi lo x).xswitches = s.xswitches := rfl
@[simp] theorem State.setField_stepDrops (a hi lo x : Nat) : (s.setField a hi lo x).stepDrops = s.stepDrops := rfl
@[simp] theorem State.setField_xsteps (a hi lo x : Nat) : (s.setField a hi lo x).xsteps = s.xsteps := rfl
@[simp] theorem State.setField_combs (a hi lo x : Nat) : (s.setField a hi lo x).combs = s.combs := rfl
@[simp] theorem State.setField_xclosed (a hi lo x : Nat) : (s.setField a hi lo x).xclosed = s.xclosed := rfl
@[simp] theorem State.setField_hep (a hi lo x : Nat) : (s.setField a hi lo x).hep = s.hep := rfl

/-! ## State.setSticky -/

@[simp] theorem State.setSticky_pending (a : Nat) (m : W64) : (s.setSticky a m).pending = s.pending := rfl
@[simp] theorem State.setSticky_fresh (a : Nat) (m : W64) : (s.setSticky a m).fresh = s.fresh := rfl
@[simp] theorem State.setSticky_now (a : Nat) (m : W64) : (s.setSticky a m).now = s.now := rfl
@[simp] theorem State.setSticky_time7 (a : Nat) (m : W64) : (s.setSticky a m).time7 = s.time7 := rfl
@[simp] theorem State.setSticky_aclk (a : Nat) (m : W64) : (s.setSticky a m).aclk = s.aclk := rfl
@[simp] theorem State.setSticky_again (a : Nat) (m : W64) : (s.setSticky a m).again = s.again := rfl
@[simp] theorem State.setSticky_wrote (a : Nat) (m : W64) : (s.setSticky a m).wrote = s.wrote := rfl
@[simp] theorem State.setSticky_msuLast (a : Nat) (m : W64) : (s.setSticky a m).msuLast = s.msuLast := rfl
@[simp] theorem State.setSticky_excNow (a : Nat) (m : W64) : (s.setSticky a m).excNow = s.excNow := rfl
@[simp] theorem State.setSticky_issued (a : Nat) (m : W64) : (s.setSticky a m).issued = s.issued := rfl
@[simp] theorem State.setSticky_evts (a : Nat) (m : W64) : (s.setSticky a m).evts = s.evts := rfl
@[simp] theorem State.setSticky_ecbPend (a : Nat) (m : W64) : (s.setSticky a m).ecbPend = s.ecbPend := rfl
@[simp] theorem State.setSticky_corrected (a : Nat) (m : W64) : (s.setSticky a m).corrected = s.corrected := rfl
@[simp] theorem State.setSticky_jtag (a : Nat) (m : W64) : (s.setSticky a m).jtag = s.jtag := rfl
@[simp] theorem State.setSticky_mgcTraps (a : Nat) (m : W64) : (s.setSticky a m).mgcTraps = s.mgcTraps := rfl
@[simp] theorem State.setSticky_mgcSram (a : Nat) (m : W64) : (s.setSticky a m).mgcSram = s.mgcSram := rfl
@[simp] theorem State.setSticky_mgcOn (a : Nat) (m : W64) : (s.setSticky a m).mgcOn = s.mgcOn := rfl
@[simp] theorem State.setSticky_stopsLeft (a : Nat) (m : W64) : (s.setSticky a m).stopsLeft = s.stopsLeft := rfl
@[simp] theorem State.setSticky_raised (a : Nat) (m : W64) : (s.setSticky a m).raised = s.raised := rfl
@[simp] theorem State.setSticky_pins (a : Nat) (m : W64) : (s.setSticky a m).pins = s.pins := rfl
@[simp] theorem State.setSticky_fuses (a : Nat) (m : W64) : (s.setSticky a m).fuses = s.fuses := rfl
@[simp] theorem State.setSticky_flash (a : Nat) (m : W64) : (s.setSticky a m).flash = s.flash := rfl
@[simp] theorem State.setSticky_flashSize (a : Nat) (m : W64) : (s.setSticky a m).flashSize = s.flashSize := rfl
@[simp] theorem State.setSticky_boot (a : Nat) (m : W64) : (s.setSticky a m).boot = s.boot := rfl
@[simp] theorem State.setSticky_rack (a : Nat) (m : W64) : (s.setSticky a m).rack = s.rack := rfl
@[simp] theorem State.setSticky_mem (a : Nat) (m : W64) : (s.setSticky a m).mem = s.mem := rfl
@[simp] theorem State.setSticky_poison (a : Nat) (m : W64) : (s.setSticky a m).poison = s.poison := rfl
@[simp] theorem State.setSticky_flaws (a : Nat) (m : W64) : (s.setSticky a m).flaws = s.flaws := rfl
@[simp] theorem State.setSticky_gerr (a : Nat) (m : W64) : (s.setSticky a m).gerr = s.gerr := rfl
@[simp] theorem State.setSticky_gpoison (a : Nat) (m : W64) : (s.setSticky a m).gpoison = s.gpoison := rfl
@[simp] theorem State.setSticky_wiping (a : Nat) (m : W64) : (s.setSticky a m).wiping = s.wiping := rfl
@[simp] theorem State.setSticky_rowCache (a : Nat) (m : W64) : (s.setSticky a m).rowCache = s.rowCache := rfl
@[simp] theorem State.setSticky_ports (a : Nat) (m : W64) : (s.setSticky a m).ports = s.ports := rfl
@[simp] theorem State.setSticky_spread (a : Nat) (m : W64) : (s.setSticky a m).spread = s.spread := rfl
@[simp] theorem State.setSticky_pathWritten (a : Nat) (m : W64) : (s.setSticky a m).pathWritten = s.pathWritten := rfl
@[simp] theorem State.setSticky_msgCtr (a : Nat) (m : W64) : (s.setSticky a m).msgCtr = s.msgCtr := rfl
@[simp] theorem State.setSticky_seqCtr (a : Nat) (m : W64) : (s.setSticky a m).seqCtr = s.seqCtr := rfl
@[simp] theorem State.setSticky_msgs (a : Nat) (m : W64) : (s.setSticky a m).msgs = s.msgs := rfl
@[simp] theorem State.setSticky_resps (a : Nat) (m : W64) : (s.setSticky a m).resps = s.resps := rfl
@[simp] theorem State.setSticky_results (a : Nat) (m : W64) : (s.setSticky a m).results = s.results := rfl
@[simp] theorem State.setSticky_releases (a : Nat) (m : W64) : (s.setSticky a m).releases = s.releases := rfl
@[simp] theorem State.setSticky_milestones (a : Nat) (m : W64) : (s.setSticky a m).milestones = s.milestones := rfl
@[simp] theorem State.setSticky_waits (a : Nat) (m : W64) : (s.setSticky a m).waits = s.waits := rfl
@[simp] theorem State.setSticky_bpm (a : Nat) (m : W64) : (s.setSticky a m).bpm = s.bpm := rfl
@[simp] theorem State.setSticky_engines (a : Nat) (m : W64) : (s.setSticky a m).engines = s.engines := rfl
@[simp] theorem State.setSticky_slices (a : Nat) (m : W64) : (s.setSticky a m).slices = s.slices := rfl
@[simp] theorem State.setSticky_descs (a : Nat) (m : W64) : (s.setSticky a m).descs = s.descs := rfl
@[simp] theorem State.setSticky_colls (a : Nat) (m : W64) : (s.setSticky a m).colls = s.colls := rfl
@[simp] theorem State.setSticky_closed (a : Nat) (m : W64) : (s.setSticky a m).closed = s.closed := rfl
@[simp] theorem State.setSticky_locals (a : Nat) (m : W64) : (s.setSticky a m).locals = s.locals := rfl
@[simp] theorem State.setSticky_parkedKeys (a : Nat) (m : W64) : (s.setSticky a m).parkedKeys = s.parkedKeys := rfl
@[simp] theorem State.setSticky_parked (a : Nat) (m : W64) : (s.setSticky a m).parked = s.parked := rfl
@[simp] theorem State.setSticky_parkMsgs (a : Nat) (m : W64) : (s.setSticky a m).parkMsgs = s.parkMsgs := rfl
@[simp] theorem State.setSticky_parkMeta (a : Nat) (m : W64) : (s.setSticky a m).parkMeta = s.parkMeta := rfl
@[simp] theorem State.setSticky_parkWait (a : Nat) (m : W64) : (s.setSticky a m).parkWait = s.parkWait := rfl
@[simp] theorem State.setSticky_collWait (a : Nat) (m : W64) : (s.setSticky a m).collWait = s.collWait := rfl
@[simp] theorem State.setSticky_grpCommit (a : Nat) (m : W64) : (s.setSticky a m).grpCommit = s.grpCommit := rfl
@[simp] theorem State.setSticky_tabCommit (a : Nat) (m : W64) : (s.setSticky a m).tabCommit = s.tabCommit := rfl
@[simp] theorem State.setSticky_busHeld (a : Nat) (m : W64) : (s.setSticky a m).busHeld = s.busHeld := rfl
@[simp] theorem State.setSticky_bulkWait (a : Nat) (m : W64) : (s.setSticky a m).bulkWait = s.bulkWait := rfl
@[simp] theorem State.setSticky_xswitches (a : Nat) (m : W64) : (s.setSticky a m).xswitches = s.xswitches := rfl
@[simp] theorem State.setSticky_stepDrops (a : Nat) (m : W64) : (s.setSticky a m).stepDrops = s.stepDrops := rfl
@[simp] theorem State.setSticky_xsteps (a : Nat) (m : W64) : (s.setSticky a m).xsteps = s.xsteps := rfl
@[simp] theorem State.setSticky_combs (a : Nat) (m : W64) : (s.setSticky a m).combs = s.combs := rfl
@[simp] theorem State.setSticky_xclosed (a : Nat) (m : W64) : (s.setSticky a m).xclosed = s.xclosed := rfl
@[simp] theorem State.setSticky_hep (a : Nat) (m : W64) : (s.setSticky a m).hep = s.hep := rfl

/-! ## State.setPort -/

@[simp] theorem State.setPort_pending (n : Nat) (p : Port) : (s.setPort n p).pending = s.pending := rfl
@[simp] theorem State.setPort_fresh (n : Nat) (p : Port) : (s.setPort n p).fresh = s.fresh := rfl
@[simp] theorem State.setPort_now (n : Nat) (p : Port) : (s.setPort n p).now = s.now := rfl
@[simp] theorem State.setPort_time7 (n : Nat) (p : Port) : (s.setPort n p).time7 = s.time7 := rfl
@[simp] theorem State.setPort_aclk (n : Nat) (p : Port) : (s.setPort n p).aclk = s.aclk := rfl
@[simp] theorem State.setPort_w1cSet (n : Nat) (p : Port) : (s.setPort n p).w1cSet = s.w1cSet := rfl
@[simp] theorem State.setPort_again (n : Nat) (p : Port) : (s.setPort n p).again = s.again := rfl
@[simp] theorem State.setPort_wrote (n : Nat) (p : Port) : (s.setPort n p).wrote = s.wrote := rfl
@[simp] theorem State.setPort_msuLast (n : Nat) (p : Port) : (s.setPort n p).msuLast = s.msuLast := rfl
@[simp] theorem State.setPort_excNow (n : Nat) (p : Port) : (s.setPort n p).excNow = s.excNow := rfl
@[simp] theorem State.setPort_issued (n : Nat) (p : Port) : (s.setPort n p).issued = s.issued := rfl
@[simp] theorem State.setPort_evts (n : Nat) (p : Port) : (s.setPort n p).evts = s.evts := rfl
@[simp] theorem State.setPort_ecbPend (n : Nat) (p : Port) : (s.setPort n p).ecbPend = s.ecbPend := rfl
@[simp] theorem State.setPort_corrected (n : Nat) (p : Port) : (s.setPort n p).corrected = s.corrected := rfl
@[simp] theorem State.setPort_jtag (n : Nat) (p : Port) : (s.setPort n p).jtag = s.jtag := rfl
@[simp] theorem State.setPort_mgcTraps (n : Nat) (p : Port) : (s.setPort n p).mgcTraps = s.mgcTraps := rfl
@[simp] theorem State.setPort_mgcSram (n : Nat) (p : Port) : (s.setPort n p).mgcSram = s.mgcSram := rfl
@[simp] theorem State.setPort_mgcOn (n : Nat) (p : Port) : (s.setPort n p).mgcOn = s.mgcOn := rfl
@[simp] theorem State.setPort_stopsLeft (n : Nat) (p : Port) : (s.setPort n p).stopsLeft = s.stopsLeft := rfl
@[simp] theorem State.setPort_raised (n : Nat) (p : Port) : (s.setPort n p).raised = s.raised := rfl
@[simp] theorem State.setPort_pins (n : Nat) (p : Port) : (s.setPort n p).pins = s.pins := rfl
@[simp] theorem State.setPort_fuses (n : Nat) (p : Port) : (s.setPort n p).fuses = s.fuses := rfl
@[simp] theorem State.setPort_csr (n : Nat) (p : Port) : (s.setPort n p).csr = s.csr := rfl
@[simp] theorem State.setPort_flash (n : Nat) (p : Port) : (s.setPort n p).flash = s.flash := rfl
@[simp] theorem State.setPort_flashSize (n : Nat) (p : Port) : (s.setPort n p).flashSize = s.flashSize := rfl
@[simp] theorem State.setPort_boot (n : Nat) (p : Port) : (s.setPort n p).boot = s.boot := rfl
@[simp] theorem State.setPort_rack (n : Nat) (p : Port) : (s.setPort n p).rack = s.rack := rfl
@[simp] theorem State.setPort_mem (n : Nat) (p : Port) : (s.setPort n p).mem = s.mem := rfl
@[simp] theorem State.setPort_poison (n : Nat) (p : Port) : (s.setPort n p).poison = s.poison := rfl
@[simp] theorem State.setPort_flaws (n : Nat) (p : Port) : (s.setPort n p).flaws = s.flaws := rfl
@[simp] theorem State.setPort_gerr (n : Nat) (p : Port) : (s.setPort n p).gerr = s.gerr := rfl
@[simp] theorem State.setPort_gpoison (n : Nat) (p : Port) : (s.setPort n p).gpoison = s.gpoison := rfl
@[simp] theorem State.setPort_wiping (n : Nat) (p : Port) : (s.setPort n p).wiping = s.wiping := rfl
@[simp] theorem State.setPort_rowCache (n : Nat) (p : Port) : (s.setPort n p).rowCache = s.rowCache := rfl
@[simp] theorem State.setPort_spread (n : Nat) (p : Port) : (s.setPort n p).spread = s.spread := rfl
@[simp] theorem State.setPort_pathWritten (n : Nat) (p : Port) : (s.setPort n p).pathWritten = s.pathWritten := rfl
@[simp] theorem State.setPort_msgCtr (n : Nat) (p : Port) : (s.setPort n p).msgCtr = s.msgCtr := rfl
@[simp] theorem State.setPort_seqCtr (n : Nat) (p : Port) : (s.setPort n p).seqCtr = s.seqCtr := rfl
@[simp] theorem State.setPort_msgs (n : Nat) (p : Port) : (s.setPort n p).msgs = s.msgs := rfl
@[simp] theorem State.setPort_resps (n : Nat) (p : Port) : (s.setPort n p).resps = s.resps := rfl
@[simp] theorem State.setPort_results (n : Nat) (p : Port) : (s.setPort n p).results = s.results := rfl
@[simp] theorem State.setPort_releases (n : Nat) (p : Port) : (s.setPort n p).releases = s.releases := rfl
@[simp] theorem State.setPort_milestones (n : Nat) (p : Port) : (s.setPort n p).milestones = s.milestones := rfl
@[simp] theorem State.setPort_waits (n : Nat) (p : Port) : (s.setPort n p).waits = s.waits := rfl
@[simp] theorem State.setPort_bpm (n : Nat) (p : Port) : (s.setPort n p).bpm = s.bpm := rfl
@[simp] theorem State.setPort_engines (n : Nat) (p : Port) : (s.setPort n p).engines = s.engines := rfl
@[simp] theorem State.setPort_slices (n : Nat) (p : Port) : (s.setPort n p).slices = s.slices := rfl
@[simp] theorem State.setPort_descs (n : Nat) (p : Port) : (s.setPort n p).descs = s.descs := rfl
@[simp] theorem State.setPort_colls (n : Nat) (p : Port) : (s.setPort n p).colls = s.colls := rfl
@[simp] theorem State.setPort_closed (n : Nat) (p : Port) : (s.setPort n p).closed = s.closed := rfl
@[simp] theorem State.setPort_locals (n : Nat) (p : Port) : (s.setPort n p).locals = s.locals := rfl
@[simp] theorem State.setPort_parkedKeys (n : Nat) (p : Port) : (s.setPort n p).parkedKeys = s.parkedKeys := rfl
@[simp] theorem State.setPort_parked (n : Nat) (p : Port) : (s.setPort n p).parked = s.parked := rfl
@[simp] theorem State.setPort_parkMsgs (n : Nat) (p : Port) : (s.setPort n p).parkMsgs = s.parkMsgs := rfl
@[simp] theorem State.setPort_parkMeta (n : Nat) (p : Port) : (s.setPort n p).parkMeta = s.parkMeta := rfl
@[simp] theorem State.setPort_parkWait (n : Nat) (p : Port) : (s.setPort n p).parkWait = s.parkWait := rfl
@[simp] theorem State.setPort_collWait (n : Nat) (p : Port) : (s.setPort n p).collWait = s.collWait := rfl
@[simp] theorem State.setPort_grpCommit (n : Nat) (p : Port) : (s.setPort n p).grpCommit = s.grpCommit := rfl
@[simp] theorem State.setPort_tabCommit (n : Nat) (p : Port) : (s.setPort n p).tabCommit = s.tabCommit := rfl
@[simp] theorem State.setPort_busHeld (n : Nat) (p : Port) : (s.setPort n p).busHeld = s.busHeld := rfl
@[simp] theorem State.setPort_bulkWait (n : Nat) (p : Port) : (s.setPort n p).bulkWait = s.bulkWait := rfl
@[simp] theorem State.setPort_xswitches (n : Nat) (p : Port) : (s.setPort n p).xswitches = s.xswitches := rfl
@[simp] theorem State.setPort_stepDrops (n : Nat) (p : Port) : (s.setPort n p).stepDrops = s.stepDrops := rfl
@[simp] theorem State.setPort_xsteps (n : Nat) (p : Port) : (s.setPort n p).xsteps = s.xsteps := rfl
@[simp] theorem State.setPort_combs (n : Nat) (p : Port) : (s.setPort n p).combs = s.combs := rfl
@[simp] theorem State.setPort_xclosed (n : Nat) (p : Port) : (s.setPort n p).xclosed = s.xclosed := rfl
@[simp] theorem State.setPort_hep (n : Nat) (p : Port) : (s.setPort n p).hep = s.hep := rfl

/-! ## State.modPort -/

@[simp] theorem State.modPort_pending (n : Nat) (f : Port → Port) : (s.modPort n f).pending = s.pending := rfl
@[simp] theorem State.modPort_fresh (n : Nat) (f : Port → Port) : (s.modPort n f).fresh = s.fresh := rfl
@[simp] theorem State.modPort_now (n : Nat) (f : Port → Port) : (s.modPort n f).now = s.now := rfl
@[simp] theorem State.modPort_time7 (n : Nat) (f : Port → Port) : (s.modPort n f).time7 = s.time7 := rfl
@[simp] theorem State.modPort_aclk (n : Nat) (f : Port → Port) : (s.modPort n f).aclk = s.aclk := rfl
@[simp] theorem State.modPort_w1cSet (n : Nat) (f : Port → Port) : (s.modPort n f).w1cSet = s.w1cSet := rfl
@[simp] theorem State.modPort_again (n : Nat) (f : Port → Port) : (s.modPort n f).again = s.again := rfl
@[simp] theorem State.modPort_wrote (n : Nat) (f : Port → Port) : (s.modPort n f).wrote = s.wrote := rfl
@[simp] theorem State.modPort_msuLast (n : Nat) (f : Port → Port) : (s.modPort n f).msuLast = s.msuLast := rfl
@[simp] theorem State.modPort_excNow (n : Nat) (f : Port → Port) : (s.modPort n f).excNow = s.excNow := rfl
@[simp] theorem State.modPort_issued (n : Nat) (f : Port → Port) : (s.modPort n f).issued = s.issued := rfl
@[simp] theorem State.modPort_evts (n : Nat) (f : Port → Port) : (s.modPort n f).evts = s.evts := rfl
@[simp] theorem State.modPort_ecbPend (n : Nat) (f : Port → Port) : (s.modPort n f).ecbPend = s.ecbPend := rfl
@[simp] theorem State.modPort_corrected (n : Nat) (f : Port → Port) : (s.modPort n f).corrected = s.corrected := rfl
@[simp] theorem State.modPort_jtag (n : Nat) (f : Port → Port) : (s.modPort n f).jtag = s.jtag := rfl
@[simp] theorem State.modPort_mgcTraps (n : Nat) (f : Port → Port) : (s.modPort n f).mgcTraps = s.mgcTraps := rfl
@[simp] theorem State.modPort_mgcSram (n : Nat) (f : Port → Port) : (s.modPort n f).mgcSram = s.mgcSram := rfl
@[simp] theorem State.modPort_mgcOn (n : Nat) (f : Port → Port) : (s.modPort n f).mgcOn = s.mgcOn := rfl
@[simp] theorem State.modPort_stopsLeft (n : Nat) (f : Port → Port) : (s.modPort n f).stopsLeft = s.stopsLeft := rfl
@[simp] theorem State.modPort_raised (n : Nat) (f : Port → Port) : (s.modPort n f).raised = s.raised := rfl
@[simp] theorem State.modPort_pins (n : Nat) (f : Port → Port) : (s.modPort n f).pins = s.pins := rfl
@[simp] theorem State.modPort_fuses (n : Nat) (f : Port → Port) : (s.modPort n f).fuses = s.fuses := rfl
@[simp] theorem State.modPort_csr (n : Nat) (f : Port → Port) : (s.modPort n f).csr = s.csr := rfl
@[simp] theorem State.modPort_flash (n : Nat) (f : Port → Port) : (s.modPort n f).flash = s.flash := rfl
@[simp] theorem State.modPort_flashSize (n : Nat) (f : Port → Port) : (s.modPort n f).flashSize = s.flashSize := rfl
@[simp] theorem State.modPort_boot (n : Nat) (f : Port → Port) : (s.modPort n f).boot = s.boot := rfl
@[simp] theorem State.modPort_rack (n : Nat) (f : Port → Port) : (s.modPort n f).rack = s.rack := rfl
@[simp] theorem State.modPort_mem (n : Nat) (f : Port → Port) : (s.modPort n f).mem = s.mem := rfl
@[simp] theorem State.modPort_poison (n : Nat) (f : Port → Port) : (s.modPort n f).poison = s.poison := rfl
@[simp] theorem State.modPort_flaws (n : Nat) (f : Port → Port) : (s.modPort n f).flaws = s.flaws := rfl
@[simp] theorem State.modPort_gerr (n : Nat) (f : Port → Port) : (s.modPort n f).gerr = s.gerr := rfl
@[simp] theorem State.modPort_gpoison (n : Nat) (f : Port → Port) : (s.modPort n f).gpoison = s.gpoison := rfl
@[simp] theorem State.modPort_wiping (n : Nat) (f : Port → Port) : (s.modPort n f).wiping = s.wiping := rfl
@[simp] theorem State.modPort_rowCache (n : Nat) (f : Port → Port) : (s.modPort n f).rowCache = s.rowCache := rfl
@[simp] theorem State.modPort_spread (n : Nat) (f : Port → Port) : (s.modPort n f).spread = s.spread := rfl
@[simp] theorem State.modPort_pathWritten (n : Nat) (f : Port → Port) : (s.modPort n f).pathWritten = s.pathWritten := rfl
@[simp] theorem State.modPort_msgCtr (n : Nat) (f : Port → Port) : (s.modPort n f).msgCtr = s.msgCtr := rfl
@[simp] theorem State.modPort_seqCtr (n : Nat) (f : Port → Port) : (s.modPort n f).seqCtr = s.seqCtr := rfl
@[simp] theorem State.modPort_msgs (n : Nat) (f : Port → Port) : (s.modPort n f).msgs = s.msgs := rfl
@[simp] theorem State.modPort_resps (n : Nat) (f : Port → Port) : (s.modPort n f).resps = s.resps := rfl
@[simp] theorem State.modPort_results (n : Nat) (f : Port → Port) : (s.modPort n f).results = s.results := rfl
@[simp] theorem State.modPort_releases (n : Nat) (f : Port → Port) : (s.modPort n f).releases = s.releases := rfl
@[simp] theorem State.modPort_milestones (n : Nat) (f : Port → Port) : (s.modPort n f).milestones = s.milestones := rfl
@[simp] theorem State.modPort_waits (n : Nat) (f : Port → Port) : (s.modPort n f).waits = s.waits := rfl
@[simp] theorem State.modPort_bpm (n : Nat) (f : Port → Port) : (s.modPort n f).bpm = s.bpm := rfl
@[simp] theorem State.modPort_engines (n : Nat) (f : Port → Port) : (s.modPort n f).engines = s.engines := rfl
@[simp] theorem State.modPort_slices (n : Nat) (f : Port → Port) : (s.modPort n f).slices = s.slices := rfl
@[simp] theorem State.modPort_descs (n : Nat) (f : Port → Port) : (s.modPort n f).descs = s.descs := rfl
@[simp] theorem State.modPort_colls (n : Nat) (f : Port → Port) : (s.modPort n f).colls = s.colls := rfl
@[simp] theorem State.modPort_closed (n : Nat) (f : Port → Port) : (s.modPort n f).closed = s.closed := rfl
@[simp] theorem State.modPort_locals (n : Nat) (f : Port → Port) : (s.modPort n f).locals = s.locals := rfl
@[simp] theorem State.modPort_parkedKeys (n : Nat) (f : Port → Port) : (s.modPort n f).parkedKeys = s.parkedKeys := rfl
@[simp] theorem State.modPort_parked (n : Nat) (f : Port → Port) : (s.modPort n f).parked = s.parked := rfl
@[simp] theorem State.modPort_parkMsgs (n : Nat) (f : Port → Port) : (s.modPort n f).parkMsgs = s.parkMsgs := rfl
@[simp] theorem State.modPort_parkMeta (n : Nat) (f : Port → Port) : (s.modPort n f).parkMeta = s.parkMeta := rfl
@[simp] theorem State.modPort_parkWait (n : Nat) (f : Port → Port) : (s.modPort n f).parkWait = s.parkWait := rfl
@[simp] theorem State.modPort_collWait (n : Nat) (f : Port → Port) : (s.modPort n f).collWait = s.collWait := rfl
@[simp] theorem State.modPort_grpCommit (n : Nat) (f : Port → Port) : (s.modPort n f).grpCommit = s.grpCommit := rfl
@[simp] theorem State.modPort_tabCommit (n : Nat) (f : Port → Port) : (s.modPort n f).tabCommit = s.tabCommit := rfl
@[simp] theorem State.modPort_busHeld (n : Nat) (f : Port → Port) : (s.modPort n f).busHeld = s.busHeld := rfl
@[simp] theorem State.modPort_bulkWait (n : Nat) (f : Port → Port) : (s.modPort n f).bulkWait = s.bulkWait := rfl
@[simp] theorem State.modPort_xswitches (n : Nat) (f : Port → Port) : (s.modPort n f).xswitches = s.xswitches := rfl
@[simp] theorem State.modPort_stepDrops (n : Nat) (f : Port → Port) : (s.modPort n f).stepDrops = s.stepDrops := rfl
@[simp] theorem State.modPort_xsteps (n : Nat) (f : Port → Port) : (s.modPort n f).xsteps = s.xsteps := rfl
@[simp] theorem State.modPort_combs (n : Nat) (f : Port → Port) : (s.modPort n f).combs = s.combs := rfl
@[simp] theorem State.modPort_xclosed (n : Nat) (f : Port → Port) : (s.modPort n f).xclosed = s.xclosed := rfl
@[simp] theorem State.modPort_hep (n : Nat) (f : Port → Port) : (s.modPort n f).hep = s.hep := rfl

/-! ## State.setEngine -/

@[simp] theorem State.setEngine_pending (n : Nat) (e : Engine) : (s.setEngine n e).pending = s.pending := rfl
@[simp] theorem State.setEngine_fresh (n : Nat) (e : Engine) : (s.setEngine n e).fresh = s.fresh := rfl
@[simp] theorem State.setEngine_now (n : Nat) (e : Engine) : (s.setEngine n e).now = s.now := rfl
@[simp] theorem State.setEngine_time7 (n : Nat) (e : Engine) : (s.setEngine n e).time7 = s.time7 := rfl
@[simp] theorem State.setEngine_aclk (n : Nat) (e : Engine) : (s.setEngine n e).aclk = s.aclk := rfl
@[simp] theorem State.setEngine_w1cSet (n : Nat) (e : Engine) : (s.setEngine n e).w1cSet = s.w1cSet := rfl
@[simp] theorem State.setEngine_again (n : Nat) (e : Engine) : (s.setEngine n e).again = s.again := rfl
@[simp] theorem State.setEngine_wrote (n : Nat) (e : Engine) : (s.setEngine n e).wrote = s.wrote := rfl
@[simp] theorem State.setEngine_msuLast (n : Nat) (e : Engine) : (s.setEngine n e).msuLast = s.msuLast := rfl
@[simp] theorem State.setEngine_excNow (n : Nat) (e : Engine) : (s.setEngine n e).excNow = s.excNow := rfl
@[simp] theorem State.setEngine_issued (n : Nat) (e : Engine) : (s.setEngine n e).issued = s.issued := rfl
@[simp] theorem State.setEngine_evts (n : Nat) (e : Engine) : (s.setEngine n e).evts = s.evts := rfl
@[simp] theorem State.setEngine_ecbPend (n : Nat) (e : Engine) : (s.setEngine n e).ecbPend = s.ecbPend := rfl
@[simp] theorem State.setEngine_corrected (n : Nat) (e : Engine) : (s.setEngine n e).corrected = s.corrected := rfl
@[simp] theorem State.setEngine_jtag (n : Nat) (e : Engine) : (s.setEngine n e).jtag = s.jtag := rfl
@[simp] theorem State.setEngine_mgcTraps (n : Nat) (e : Engine) : (s.setEngine n e).mgcTraps = s.mgcTraps := rfl
@[simp] theorem State.setEngine_mgcSram (n : Nat) (e : Engine) : (s.setEngine n e).mgcSram = s.mgcSram := rfl
@[simp] theorem State.setEngine_mgcOn (n : Nat) (e : Engine) : (s.setEngine n e).mgcOn = s.mgcOn := rfl
@[simp] theorem State.setEngine_stopsLeft (n : Nat) (e : Engine) : (s.setEngine n e).stopsLeft = s.stopsLeft := rfl
@[simp] theorem State.setEngine_raised (n : Nat) (e : Engine) : (s.setEngine n e).raised = s.raised := rfl
@[simp] theorem State.setEngine_pins (n : Nat) (e : Engine) : (s.setEngine n e).pins = s.pins := rfl
@[simp] theorem State.setEngine_fuses (n : Nat) (e : Engine) : (s.setEngine n e).fuses = s.fuses := rfl
@[simp] theorem State.setEngine_csr (n : Nat) (e : Engine) : (s.setEngine n e).csr = s.csr := rfl
@[simp] theorem State.setEngine_flash (n : Nat) (e : Engine) : (s.setEngine n e).flash = s.flash := rfl
@[simp] theorem State.setEngine_flashSize (n : Nat) (e : Engine) : (s.setEngine n e).flashSize = s.flashSize := rfl
@[simp] theorem State.setEngine_boot (n : Nat) (e : Engine) : (s.setEngine n e).boot = s.boot := rfl
@[simp] theorem State.setEngine_rack (n : Nat) (e : Engine) : (s.setEngine n e).rack = s.rack := rfl
@[simp] theorem State.setEngine_mem (n : Nat) (e : Engine) : (s.setEngine n e).mem = s.mem := rfl
@[simp] theorem State.setEngine_poison (n : Nat) (e : Engine) : (s.setEngine n e).poison = s.poison := rfl
@[simp] theorem State.setEngine_flaws (n : Nat) (e : Engine) : (s.setEngine n e).flaws = s.flaws := rfl
@[simp] theorem State.setEngine_gerr (n : Nat) (e : Engine) : (s.setEngine n e).gerr = s.gerr := rfl
@[simp] theorem State.setEngine_gpoison (n : Nat) (e : Engine) : (s.setEngine n e).gpoison = s.gpoison := rfl
@[simp] theorem State.setEngine_wiping (n : Nat) (e : Engine) : (s.setEngine n e).wiping = s.wiping := rfl
@[simp] theorem State.setEngine_rowCache (n : Nat) (e : Engine) : (s.setEngine n e).rowCache = s.rowCache := rfl
@[simp] theorem State.setEngine_ports (n : Nat) (e : Engine) : (s.setEngine n e).ports = s.ports := rfl
@[simp] theorem State.setEngine_spread (n : Nat) (e : Engine) : (s.setEngine n e).spread = s.spread := rfl
@[simp] theorem State.setEngine_pathWritten (n : Nat) (e : Engine) : (s.setEngine n e).pathWritten = s.pathWritten := rfl
@[simp] theorem State.setEngine_msgCtr (n : Nat) (e : Engine) : (s.setEngine n e).msgCtr = s.msgCtr := rfl
@[simp] theorem State.setEngine_seqCtr (n : Nat) (e : Engine) : (s.setEngine n e).seqCtr = s.seqCtr := rfl
@[simp] theorem State.setEngine_msgs (n : Nat) (e : Engine) : (s.setEngine n e).msgs = s.msgs := rfl
@[simp] theorem State.setEngine_resps (n : Nat) (e : Engine) : (s.setEngine n e).resps = s.resps := rfl
@[simp] theorem State.setEngine_results (n : Nat) (e : Engine) : (s.setEngine n e).results = s.results := rfl
@[simp] theorem State.setEngine_releases (n : Nat) (e : Engine) : (s.setEngine n e).releases = s.releases := rfl
@[simp] theorem State.setEngine_milestones (n : Nat) (e : Engine) : (s.setEngine n e).milestones = s.milestones := rfl
@[simp] theorem State.setEngine_waits (n : Nat) (e : Engine) : (s.setEngine n e).waits = s.waits := rfl
@[simp] theorem State.setEngine_bpm (n : Nat) (e : Engine) : (s.setEngine n e).bpm = s.bpm := rfl
@[simp] theorem State.setEngine_slices (n : Nat) (e : Engine) : (s.setEngine n e).slices = s.slices := rfl
@[simp] theorem State.setEngine_descs (n : Nat) (e : Engine) : (s.setEngine n e).descs = s.descs := rfl
@[simp] theorem State.setEngine_colls (n : Nat) (e : Engine) : (s.setEngine n e).colls = s.colls := rfl
@[simp] theorem State.setEngine_closed (n : Nat) (e : Engine) : (s.setEngine n e).closed = s.closed := rfl
@[simp] theorem State.setEngine_locals (n : Nat) (e : Engine) : (s.setEngine n e).locals = s.locals := rfl
@[simp] theorem State.setEngine_parkedKeys (n : Nat) (e : Engine) : (s.setEngine n e).parkedKeys = s.parkedKeys := rfl
@[simp] theorem State.setEngine_parked (n : Nat) (e : Engine) : (s.setEngine n e).parked = s.parked := rfl
@[simp] theorem State.setEngine_parkMsgs (n : Nat) (e : Engine) : (s.setEngine n e).parkMsgs = s.parkMsgs := rfl
@[simp] theorem State.setEngine_parkMeta (n : Nat) (e : Engine) : (s.setEngine n e).parkMeta = s.parkMeta := rfl
@[simp] theorem State.setEngine_parkWait (n : Nat) (e : Engine) : (s.setEngine n e).parkWait = s.parkWait := rfl
@[simp] theorem State.setEngine_collWait (n : Nat) (e : Engine) : (s.setEngine n e).collWait = s.collWait := rfl
@[simp] theorem State.setEngine_grpCommit (n : Nat) (e : Engine) : (s.setEngine n e).grpCommit = s.grpCommit := rfl
@[simp] theorem State.setEngine_tabCommit (n : Nat) (e : Engine) : (s.setEngine n e).tabCommit = s.tabCommit := rfl
@[simp] theorem State.setEngine_busHeld (n : Nat) (e : Engine) : (s.setEngine n e).busHeld = s.busHeld := rfl
@[simp] theorem State.setEngine_bulkWait (n : Nat) (e : Engine) : (s.setEngine n e).bulkWait = s.bulkWait := rfl
@[simp] theorem State.setEngine_xswitches (n : Nat) (e : Engine) : (s.setEngine n e).xswitches = s.xswitches := rfl
@[simp] theorem State.setEngine_stepDrops (n : Nat) (e : Engine) : (s.setEngine n e).stepDrops = s.stepDrops := rfl
@[simp] theorem State.setEngine_xsteps (n : Nat) (e : Engine) : (s.setEngine n e).xsteps = s.xsteps := rfl
@[simp] theorem State.setEngine_combs (n : Nat) (e : Engine) : (s.setEngine n e).combs = s.combs := rfl
@[simp] theorem State.setEngine_xclosed (n : Nat) (e : Engine) : (s.setEngine n e).xclosed = s.xclosed := rfl
@[simp] theorem State.setEngine_hep (n : Nat) (e : Engine) : (s.setEngine n e).hep = s.hep := rfl

/-! ## State.modEngine -/

@[simp] theorem State.modEngine_pending (n : Nat) (f : Engine → Engine) : (s.modEngine n f).pending = s.pending := rfl
@[simp] theorem State.modEngine_fresh (n : Nat) (f : Engine → Engine) : (s.modEngine n f).fresh = s.fresh := rfl
@[simp] theorem State.modEngine_now (n : Nat) (f : Engine → Engine) : (s.modEngine n f).now = s.now := rfl
@[simp] theorem State.modEngine_time7 (n : Nat) (f : Engine → Engine) : (s.modEngine n f).time7 = s.time7 := rfl
@[simp] theorem State.modEngine_aclk (n : Nat) (f : Engine → Engine) : (s.modEngine n f).aclk = s.aclk := rfl
@[simp] theorem State.modEngine_w1cSet (n : Nat) (f : Engine → Engine) : (s.modEngine n f).w1cSet = s.w1cSet := rfl
@[simp] theorem State.modEngine_again (n : Nat) (f : Engine → Engine) : (s.modEngine n f).again = s.again := rfl
@[simp] theorem State.modEngine_wrote (n : Nat) (f : Engine → Engine) : (s.modEngine n f).wrote = s.wrote := rfl
@[simp] theorem State.modEngine_msuLast (n : Nat) (f : Engine → Engine) : (s.modEngine n f).msuLast = s.msuLast := rfl
@[simp] theorem State.modEngine_excNow (n : Nat) (f : Engine → Engine) : (s.modEngine n f).excNow = s.excNow := rfl
@[simp] theorem State.modEngine_issued (n : Nat) (f : Engine → Engine) : (s.modEngine n f).issued = s.issued := rfl
@[simp] theorem State.modEngine_evts (n : Nat) (f : Engine → Engine) : (s.modEngine n f).evts = s.evts := rfl
@[simp] theorem State.modEngine_ecbPend (n : Nat) (f : Engine → Engine) : (s.modEngine n f).ecbPend = s.ecbPend := rfl
@[simp] theorem State.modEngine_corrected (n : Nat) (f : Engine → Engine) : (s.modEngine n f).corrected = s.corrected := rfl
@[simp] theorem State.modEngine_jtag (n : Nat) (f : Engine → Engine) : (s.modEngine n f).jtag = s.jtag := rfl
@[simp] theorem State.modEngine_mgcTraps (n : Nat) (f : Engine → Engine) : (s.modEngine n f).mgcTraps = s.mgcTraps := rfl
@[simp] theorem State.modEngine_mgcSram (n : Nat) (f : Engine → Engine) : (s.modEngine n f).mgcSram = s.mgcSram := rfl
@[simp] theorem State.modEngine_mgcOn (n : Nat) (f : Engine → Engine) : (s.modEngine n f).mgcOn = s.mgcOn := rfl
@[simp] theorem State.modEngine_stopsLeft (n : Nat) (f : Engine → Engine) : (s.modEngine n f).stopsLeft = s.stopsLeft := rfl
@[simp] theorem State.modEngine_raised (n : Nat) (f : Engine → Engine) : (s.modEngine n f).raised = s.raised := rfl
@[simp] theorem State.modEngine_pins (n : Nat) (f : Engine → Engine) : (s.modEngine n f).pins = s.pins := rfl
@[simp] theorem State.modEngine_fuses (n : Nat) (f : Engine → Engine) : (s.modEngine n f).fuses = s.fuses := rfl
@[simp] theorem State.modEngine_csr (n : Nat) (f : Engine → Engine) : (s.modEngine n f).csr = s.csr := rfl
@[simp] theorem State.modEngine_flash (n : Nat) (f : Engine → Engine) : (s.modEngine n f).flash = s.flash := rfl
@[simp] theorem State.modEngine_flashSize (n : Nat) (f : Engine → Engine) : (s.modEngine n f).flashSize = s.flashSize := rfl
@[simp] theorem State.modEngine_boot (n : Nat) (f : Engine → Engine) : (s.modEngine n f).boot = s.boot := rfl
@[simp] theorem State.modEngine_rack (n : Nat) (f : Engine → Engine) : (s.modEngine n f).rack = s.rack := rfl
@[simp] theorem State.modEngine_mem (n : Nat) (f : Engine → Engine) : (s.modEngine n f).mem = s.mem := rfl
@[simp] theorem State.modEngine_poison (n : Nat) (f : Engine → Engine) : (s.modEngine n f).poison = s.poison := rfl
@[simp] theorem State.modEngine_flaws (n : Nat) (f : Engine → Engine) : (s.modEngine n f).flaws = s.flaws := rfl
@[simp] theorem State.modEngine_gerr (n : Nat) (f : Engine → Engine) : (s.modEngine n f).gerr = s.gerr := rfl
@[simp] theorem State.modEngine_gpoison (n : Nat) (f : Engine → Engine) : (s.modEngine n f).gpoison = s.gpoison := rfl
@[simp] theorem State.modEngine_wiping (n : Nat) (f : Engine → Engine) : (s.modEngine n f).wiping = s.wiping := rfl
@[simp] theorem State.modEngine_rowCache (n : Nat) (f : Engine → Engine) : (s.modEngine n f).rowCache = s.rowCache := rfl
@[simp] theorem State.modEngine_ports (n : Nat) (f : Engine → Engine) : (s.modEngine n f).ports = s.ports := rfl
@[simp] theorem State.modEngine_spread (n : Nat) (f : Engine → Engine) : (s.modEngine n f).spread = s.spread := rfl
@[simp] theorem State.modEngine_pathWritten (n : Nat) (f : Engine → Engine) : (s.modEngine n f).pathWritten = s.pathWritten := rfl
@[simp] theorem State.modEngine_msgCtr (n : Nat) (f : Engine → Engine) : (s.modEngine n f).msgCtr = s.msgCtr := rfl
@[simp] theorem State.modEngine_seqCtr (n : Nat) (f : Engine → Engine) : (s.modEngine n f).seqCtr = s.seqCtr := rfl
@[simp] theorem State.modEngine_msgs (n : Nat) (f : Engine → Engine) : (s.modEngine n f).msgs = s.msgs := rfl
@[simp] theorem State.modEngine_resps (n : Nat) (f : Engine → Engine) : (s.modEngine n f).resps = s.resps := rfl
@[simp] theorem State.modEngine_results (n : Nat) (f : Engine → Engine) : (s.modEngine n f).results = s.results := rfl
@[simp] theorem State.modEngine_releases (n : Nat) (f : Engine → Engine) : (s.modEngine n f).releases = s.releases := rfl
@[simp] theorem State.modEngine_milestones (n : Nat) (f : Engine → Engine) : (s.modEngine n f).milestones = s.milestones := rfl
@[simp] theorem State.modEngine_waits (n : Nat) (f : Engine → Engine) : (s.modEngine n f).waits = s.waits := rfl
@[simp] theorem State.modEngine_bpm (n : Nat) (f : Engine → Engine) : (s.modEngine n f).bpm = s.bpm := rfl
@[simp] theorem State.modEngine_slices (n : Nat) (f : Engine → Engine) : (s.modEngine n f).slices = s.slices := rfl
@[simp] theorem State.modEngine_descs (n : Nat) (f : Engine → Engine) : (s.modEngine n f).descs = s.descs := rfl
@[simp] theorem State.modEngine_colls (n : Nat) (f : Engine → Engine) : (s.modEngine n f).colls = s.colls := rfl
@[simp] theorem State.modEngine_closed (n : Nat) (f : Engine → Engine) : (s.modEngine n f).closed = s.closed := rfl
@[simp] theorem State.modEngine_locals (n : Nat) (f : Engine → Engine) : (s.modEngine n f).locals = s.locals := rfl
@[simp] theorem State.modEngine_parkedKeys (n : Nat) (f : Engine → Engine) : (s.modEngine n f).parkedKeys = s.parkedKeys := rfl
@[simp] theorem State.modEngine_parked (n : Nat) (f : Engine → Engine) : (s.modEngine n f).parked = s.parked := rfl
@[simp] theorem State.modEngine_parkMsgs (n : Nat) (f : Engine → Engine) : (s.modEngine n f).parkMsgs = s.parkMsgs := rfl
@[simp] theorem State.modEngine_parkMeta (n : Nat) (f : Engine → Engine) : (s.modEngine n f).parkMeta = s.parkMeta := rfl
@[simp] theorem State.modEngine_parkWait (n : Nat) (f : Engine → Engine) : (s.modEngine n f).parkWait = s.parkWait := rfl
@[simp] theorem State.modEngine_collWait (n : Nat) (f : Engine → Engine) : (s.modEngine n f).collWait = s.collWait := rfl
@[simp] theorem State.modEngine_grpCommit (n : Nat) (f : Engine → Engine) : (s.modEngine n f).grpCommit = s.grpCommit := rfl
@[simp] theorem State.modEngine_tabCommit (n : Nat) (f : Engine → Engine) : (s.modEngine n f).tabCommit = s.tabCommit := rfl
@[simp] theorem State.modEngine_busHeld (n : Nat) (f : Engine → Engine) : (s.modEngine n f).busHeld = s.busHeld := rfl
@[simp] theorem State.modEngine_bulkWait (n : Nat) (f : Engine → Engine) : (s.modEngine n f).bulkWait = s.bulkWait := rfl
@[simp] theorem State.modEngine_xswitches (n : Nat) (f : Engine → Engine) : (s.modEngine n f).xswitches = s.xswitches := rfl
@[simp] theorem State.modEngine_stepDrops (n : Nat) (f : Engine → Engine) : (s.modEngine n f).stepDrops = s.stepDrops := rfl
@[simp] theorem State.modEngine_xsteps (n : Nat) (f : Engine → Engine) : (s.modEngine n f).xsteps = s.xsteps := rfl
@[simp] theorem State.modEngine_combs (n : Nat) (f : Engine → Engine) : (s.modEngine n f).combs = s.combs := rfl
@[simp] theorem State.modEngine_xclosed (n : Nat) (f : Engine → Engine) : (s.modEngine n f).xclosed = s.xclosed := rfl
@[simp] theorem State.modEngine_hep (n : Nat) (f : Engine → Engine) : (s.modEngine n f).hep = s.hep := rfl

/-! ## count -/

@[simp] theorem count_pending (src n : Nat) (port tc grp : Option Nat) : (count src n port tc grp s).pending = s.pending := rfl
@[simp] theorem count_fresh (src n : Nat) (port tc grp : Option Nat) : (count src n port tc grp s).fresh = s.fresh := rfl
@[simp] theorem count_now (src n : Nat) (port tc grp : Option Nat) : (count src n port tc grp s).now = s.now := rfl
@[simp] theorem count_time7 (src n : Nat) (port tc grp : Option Nat) : (count src n port tc grp s).time7 = s.time7 := rfl
@[simp] theorem count_aclk (src n : Nat) (port tc grp : Option Nat) : (count src n port tc grp s).aclk = s.aclk := rfl
@[simp] theorem count_w1cSet (src n : Nat) (port tc grp : Option Nat) : (count src n port tc grp s).w1cSet = s.w1cSet := rfl
@[simp] theorem count_again (src n : Nat) (port tc grp : Option Nat) : (count src n port tc grp s).again = s.again := rfl
@[simp] theorem count_wrote (src n : Nat) (port tc grp : Option Nat) : (count src n port tc grp s).wrote = s.wrote := rfl
@[simp] theorem count_msuLast (src n : Nat) (port tc grp : Option Nat) : (count src n port tc grp s).msuLast = s.msuLast := rfl
@[simp] theorem count_excNow (src n : Nat) (port tc grp : Option Nat) : (count src n port tc grp s).excNow = s.excNow := rfl
@[simp] theorem count_issued (src n : Nat) (port tc grp : Option Nat) : (count src n port tc grp s).issued = s.issued := rfl
@[simp] theorem count_ecbPend (src n : Nat) (port tc grp : Option Nat) : (count src n port tc grp s).ecbPend = s.ecbPend := rfl
@[simp] theorem count_corrected (src n : Nat) (port tc grp : Option Nat) : (count src n port tc grp s).corrected = s.corrected := rfl
@[simp] theorem count_jtag (src n : Nat) (port tc grp : Option Nat) : (count src n port tc grp s).jtag = s.jtag := rfl
@[simp] theorem count_mgcTraps (src n : Nat) (port tc grp : Option Nat) : (count src n port tc grp s).mgcTraps = s.mgcTraps := rfl
@[simp] theorem count_mgcSram (src n : Nat) (port tc grp : Option Nat) : (count src n port tc grp s).mgcSram = s.mgcSram := rfl
@[simp] theorem count_mgcOn (src n : Nat) (port tc grp : Option Nat) : (count src n port tc grp s).mgcOn = s.mgcOn := rfl
@[simp] theorem count_stopsLeft (src n : Nat) (port tc grp : Option Nat) : (count src n port tc grp s).stopsLeft = s.stopsLeft := rfl
@[simp] theorem count_raised (src n : Nat) (port tc grp : Option Nat) : (count src n port tc grp s).raised = s.raised := rfl
@[simp] theorem count_pins (src n : Nat) (port tc grp : Option Nat) : (count src n port tc grp s).pins = s.pins := rfl
@[simp] theorem count_fuses (src n : Nat) (port tc grp : Option Nat) : (count src n port tc grp s).fuses = s.fuses := rfl
@[simp] theorem count_csr (src n : Nat) (port tc grp : Option Nat) : (count src n port tc grp s).csr = s.csr := rfl
@[simp] theorem count_flash (src n : Nat) (port tc grp : Option Nat) : (count src n port tc grp s).flash = s.flash := rfl
@[simp] theorem count_flashSize (src n : Nat) (port tc grp : Option Nat) : (count src n port tc grp s).flashSize = s.flashSize := rfl
@[simp] theorem count_boot (src n : Nat) (port tc grp : Option Nat) : (count src n port tc grp s).boot = s.boot := rfl
@[simp] theorem count_rack (src n : Nat) (port tc grp : Option Nat) : (count src n port tc grp s).rack = s.rack := rfl
@[simp] theorem count_mem (src n : Nat) (port tc grp : Option Nat) : (count src n port tc grp s).mem = s.mem := rfl
@[simp] theorem count_poison (src n : Nat) (port tc grp : Option Nat) : (count src n port tc grp s).poison = s.poison := rfl
@[simp] theorem count_flaws (src n : Nat) (port tc grp : Option Nat) : (count src n port tc grp s).flaws = s.flaws := rfl
@[simp] theorem count_gerr (src n : Nat) (port tc grp : Option Nat) : (count src n port tc grp s).gerr = s.gerr := rfl
@[simp] theorem count_gpoison (src n : Nat) (port tc grp : Option Nat) : (count src n port tc grp s).gpoison = s.gpoison := rfl
@[simp] theorem count_wiping (src n : Nat) (port tc grp : Option Nat) : (count src n port tc grp s).wiping = s.wiping := rfl
@[simp] theorem count_rowCache (src n : Nat) (port tc grp : Option Nat) : (count src n port tc grp s).rowCache = s.rowCache := rfl
@[simp] theorem count_ports (src n : Nat) (port tc grp : Option Nat) : (count src n port tc grp s).ports = s.ports := rfl
@[simp] theorem count_spread (src n : Nat) (port tc grp : Option Nat) : (count src n port tc grp s).spread = s.spread := rfl
@[simp] theorem count_pathWritten (src n : Nat) (port tc grp : Option Nat) : (count src n port tc grp s).pathWritten = s.pathWritten := rfl
@[simp] theorem count_msgCtr (src n : Nat) (port tc grp : Option Nat) : (count src n port tc grp s).msgCtr = s.msgCtr := rfl
@[simp] theorem count_seqCtr (src n : Nat) (port tc grp : Option Nat) : (count src n port tc grp s).seqCtr = s.seqCtr := rfl
@[simp] theorem count_msgs (src n : Nat) (port tc grp : Option Nat) : (count src n port tc grp s).msgs = s.msgs := rfl
@[simp] theorem count_resps (src n : Nat) (port tc grp : Option Nat) : (count src n port tc grp s).resps = s.resps := rfl
@[simp] theorem count_results (src n : Nat) (port tc grp : Option Nat) : (count src n port tc grp s).results = s.results := rfl
@[simp] theorem count_releases (src n : Nat) (port tc grp : Option Nat) : (count src n port tc grp s).releases = s.releases := rfl
@[simp] theorem count_milestones (src n : Nat) (port tc grp : Option Nat) : (count src n port tc grp s).milestones = s.milestones := rfl
@[simp] theorem count_waits (src n : Nat) (port tc grp : Option Nat) : (count src n port tc grp s).waits = s.waits := rfl
@[simp] theorem count_bpm (src n : Nat) (port tc grp : Option Nat) : (count src n port tc grp s).bpm = s.bpm := rfl
@[simp] theorem count_engines (src n : Nat) (port tc grp : Option Nat) : (count src n port tc grp s).engines = s.engines := rfl
@[simp] theorem count_slices (src n : Nat) (port tc grp : Option Nat) : (count src n port tc grp s).slices = s.slices := rfl
@[simp] theorem count_descs (src n : Nat) (port tc grp : Option Nat) : (count src n port tc grp s).descs = s.descs := rfl
@[simp] theorem count_colls (src n : Nat) (port tc grp : Option Nat) : (count src n port tc grp s).colls = s.colls := rfl
@[simp] theorem count_closed (src n : Nat) (port tc grp : Option Nat) : (count src n port tc grp s).closed = s.closed := rfl
@[simp] theorem count_locals (src n : Nat) (port tc grp : Option Nat) : (count src n port tc grp s).locals = s.locals := rfl
@[simp] theorem count_parkedKeys (src n : Nat) (port tc grp : Option Nat) : (count src n port tc grp s).parkedKeys = s.parkedKeys := rfl
@[simp] theorem count_parked (src n : Nat) (port tc grp : Option Nat) : (count src n port tc grp s).parked = s.parked := rfl
@[simp] theorem count_parkMsgs (src n : Nat) (port tc grp : Option Nat) : (count src n port tc grp s).parkMsgs = s.parkMsgs := rfl
@[simp] theorem count_parkMeta (src n : Nat) (port tc grp : Option Nat) : (count src n port tc grp s).parkMeta = s.parkMeta := rfl
@[simp] theorem count_parkWait (src n : Nat) (port tc grp : Option Nat) : (count src n port tc grp s).parkWait = s.parkWait := rfl
@[simp] theorem count_collWait (src n : Nat) (port tc grp : Option Nat) : (count src n port tc grp s).collWait = s.collWait := rfl
@[simp] theorem count_grpCommit (src n : Nat) (port tc grp : Option Nat) : (count src n port tc grp s).grpCommit = s.grpCommit := rfl
@[simp] theorem count_tabCommit (src n : Nat) (port tc grp : Option Nat) : (count src n port tc grp s).tabCommit = s.tabCommit := rfl
@[simp] theorem count_busHeld (src n : Nat) (port tc grp : Option Nat) : (count src n port tc grp s).busHeld = s.busHeld := rfl
@[simp] theorem count_bulkWait (src n : Nat) (port tc grp : Option Nat) : (count src n port tc grp s).bulkWait = s.bulkWait := rfl
@[simp] theorem count_xswitches (src n : Nat) (port tc grp : Option Nat) : (count src n port tc grp s).xswitches = s.xswitches := rfl
@[simp] theorem count_stepDrops (src n : Nat) (port tc grp : Option Nat) : (count src n port tc grp s).stepDrops = s.stepDrops := rfl
@[simp] theorem count_xsteps (src n : Nat) (port tc grp : Option Nat) : (count src n port tc grp s).xsteps = s.xsteps := rfl
@[simp] theorem count_combs (src n : Nat) (port tc grp : Option Nat) : (count src n port tc grp s).combs = s.combs := rfl
@[simp] theorem count_xclosed (src n : Nat) (port tc grp : Option Nat) : (count src n port tc grp s).xclosed = s.xclosed := rfl
@[simp] theorem count_hep (src n : Nat) (port tc grp : Option Nat) : (count src n port tc grp s).hep = s.hep := rfl

/-! ## countPkt -/

@[simp] theorem countPkt_pending (src port : Nat) (p : Packet) : (countPkt src port p s).pending = s.pending := rfl
@[simp] theorem countPkt_fresh (src port : Nat) (p : Packet) : (countPkt src port p s).fresh = s.fresh := rfl
@[simp] theorem countPkt_now (src port : Nat) (p : Packet) : (countPkt src port p s).now = s.now := rfl
@[simp] theorem countPkt_time7 (src port : Nat) (p : Packet) : (countPkt src port p s).time7 = s.time7 := rfl
@[simp] theorem countPkt_aclk (src port : Nat) (p : Packet) : (countPkt src port p s).aclk = s.aclk := rfl
@[simp] theorem countPkt_w1cSet (src port : Nat) (p : Packet) : (countPkt src port p s).w1cSet = s.w1cSet := rfl
@[simp] theorem countPkt_again (src port : Nat) (p : Packet) : (countPkt src port p s).again = s.again := rfl
@[simp] theorem countPkt_wrote (src port : Nat) (p : Packet) : (countPkt src port p s).wrote = s.wrote := rfl
@[simp] theorem countPkt_msuLast (src port : Nat) (p : Packet) : (countPkt src port p s).msuLast = s.msuLast := rfl
@[simp] theorem countPkt_excNow (src port : Nat) (p : Packet) : (countPkt src port p s).excNow = s.excNow := rfl
@[simp] theorem countPkt_issued (src port : Nat) (p : Packet) : (countPkt src port p s).issued = s.issued := rfl
@[simp] theorem countPkt_ecbPend (src port : Nat) (p : Packet) : (countPkt src port p s).ecbPend = s.ecbPend := rfl
@[simp] theorem countPkt_corrected (src port : Nat) (p : Packet) : (countPkt src port p s).corrected = s.corrected := rfl
@[simp] theorem countPkt_jtag (src port : Nat) (p : Packet) : (countPkt src port p s).jtag = s.jtag := rfl
@[simp] theorem countPkt_mgcTraps (src port : Nat) (p : Packet) : (countPkt src port p s).mgcTraps = s.mgcTraps := rfl
@[simp] theorem countPkt_mgcSram (src port : Nat) (p : Packet) : (countPkt src port p s).mgcSram = s.mgcSram := rfl
@[simp] theorem countPkt_mgcOn (src port : Nat) (p : Packet) : (countPkt src port p s).mgcOn = s.mgcOn := rfl
@[simp] theorem countPkt_stopsLeft (src port : Nat) (p : Packet) : (countPkt src port p s).stopsLeft = s.stopsLeft := rfl
@[simp] theorem countPkt_raised (src port : Nat) (p : Packet) : (countPkt src port p s).raised = s.raised := rfl
@[simp] theorem countPkt_pins (src port : Nat) (p : Packet) : (countPkt src port p s).pins = s.pins := rfl
@[simp] theorem countPkt_fuses (src port : Nat) (p : Packet) : (countPkt src port p s).fuses = s.fuses := rfl
@[simp] theorem countPkt_csr (src port : Nat) (p : Packet) : (countPkt src port p s).csr = s.csr := rfl
@[simp] theorem countPkt_flash (src port : Nat) (p : Packet) : (countPkt src port p s).flash = s.flash := rfl
@[simp] theorem countPkt_flashSize (src port : Nat) (p : Packet) : (countPkt src port p s).flashSize = s.flashSize := rfl
@[simp] theorem countPkt_boot (src port : Nat) (p : Packet) : (countPkt src port p s).boot = s.boot := rfl
@[simp] theorem countPkt_rack (src port : Nat) (p : Packet) : (countPkt src port p s).rack = s.rack := rfl
@[simp] theorem countPkt_mem (src port : Nat) (p : Packet) : (countPkt src port p s).mem = s.mem := rfl
@[simp] theorem countPkt_poison (src port : Nat) (p : Packet) : (countPkt src port p s).poison = s.poison := rfl
@[simp] theorem countPkt_flaws (src port : Nat) (p : Packet) : (countPkt src port p s).flaws = s.flaws := rfl
@[simp] theorem countPkt_gerr (src port : Nat) (p : Packet) : (countPkt src port p s).gerr = s.gerr := rfl
@[simp] theorem countPkt_gpoison (src port : Nat) (p : Packet) : (countPkt src port p s).gpoison = s.gpoison := rfl
@[simp] theorem countPkt_wiping (src port : Nat) (p : Packet) : (countPkt src port p s).wiping = s.wiping := rfl
@[simp] theorem countPkt_rowCache (src port : Nat) (p : Packet) : (countPkt src port p s).rowCache = s.rowCache := rfl
@[simp] theorem countPkt_ports (src port : Nat) (p : Packet) : (countPkt src port p s).ports = s.ports := rfl
@[simp] theorem countPkt_spread (src port : Nat) (p : Packet) : (countPkt src port p s).spread = s.spread := rfl
@[simp] theorem countPkt_pathWritten (src port : Nat) (p : Packet) : (countPkt src port p s).pathWritten = s.pathWritten := rfl
@[simp] theorem countPkt_msgCtr (src port : Nat) (p : Packet) : (countPkt src port p s).msgCtr = s.msgCtr := rfl
@[simp] theorem countPkt_seqCtr (src port : Nat) (p : Packet) : (countPkt src port p s).seqCtr = s.seqCtr := rfl
@[simp] theorem countPkt_msgs (src port : Nat) (p : Packet) : (countPkt src port p s).msgs = s.msgs := rfl
@[simp] theorem countPkt_resps (src port : Nat) (p : Packet) : (countPkt src port p s).resps = s.resps := rfl
@[simp] theorem countPkt_results (src port : Nat) (p : Packet) : (countPkt src port p s).results = s.results := rfl
@[simp] theorem countPkt_releases (src port : Nat) (p : Packet) : (countPkt src port p s).releases = s.releases := rfl
@[simp] theorem countPkt_milestones (src port : Nat) (p : Packet) : (countPkt src port p s).milestones = s.milestones := rfl
@[simp] theorem countPkt_waits (src port : Nat) (p : Packet) : (countPkt src port p s).waits = s.waits := rfl
@[simp] theorem countPkt_bpm (src port : Nat) (p : Packet) : (countPkt src port p s).bpm = s.bpm := rfl
@[simp] theorem countPkt_engines (src port : Nat) (p : Packet) : (countPkt src port p s).engines = s.engines := rfl
@[simp] theorem countPkt_slices (src port : Nat) (p : Packet) : (countPkt src port p s).slices = s.slices := rfl
@[simp] theorem countPkt_descs (src port : Nat) (p : Packet) : (countPkt src port p s).descs = s.descs := rfl
@[simp] theorem countPkt_colls (src port : Nat) (p : Packet) : (countPkt src port p s).colls = s.colls := rfl
@[simp] theorem countPkt_closed (src port : Nat) (p : Packet) : (countPkt src port p s).closed = s.closed := rfl
@[simp] theorem countPkt_locals (src port : Nat) (p : Packet) : (countPkt src port p s).locals = s.locals := rfl
@[simp] theorem countPkt_parkedKeys (src port : Nat) (p : Packet) : (countPkt src port p s).parkedKeys = s.parkedKeys := rfl
@[simp] theorem countPkt_parked (src port : Nat) (p : Packet) : (countPkt src port p s).parked = s.parked := rfl
@[simp] theorem countPkt_parkMsgs (src port : Nat) (p : Packet) : (countPkt src port p s).parkMsgs = s.parkMsgs := rfl
@[simp] theorem countPkt_parkMeta (src port : Nat) (p : Packet) : (countPkt src port p s).parkMeta = s.parkMeta := rfl
@[simp] theorem countPkt_parkWait (src port : Nat) (p : Packet) : (countPkt src port p s).parkWait = s.parkWait := rfl
@[simp] theorem countPkt_collWait (src port : Nat) (p : Packet) : (countPkt src port p s).collWait = s.collWait := rfl
@[simp] theorem countPkt_grpCommit (src port : Nat) (p : Packet) : (countPkt src port p s).grpCommit = s.grpCommit := rfl
@[simp] theorem countPkt_tabCommit (src port : Nat) (p : Packet) : (countPkt src port p s).tabCommit = s.tabCommit := rfl
@[simp] theorem countPkt_busHeld (src port : Nat) (p : Packet) : (countPkt src port p s).busHeld = s.busHeld := rfl
@[simp] theorem countPkt_bulkWait (src port : Nat) (p : Packet) : (countPkt src port p s).bulkWait = s.bulkWait := rfl
@[simp] theorem countPkt_xswitches (src port : Nat) (p : Packet) : (countPkt src port p s).xswitches = s.xswitches := rfl
@[simp] theorem countPkt_stepDrops (src port : Nat) (p : Packet) : (countPkt src port p s).stepDrops = s.stepDrops := rfl
@[simp] theorem countPkt_xsteps (src port : Nat) (p : Packet) : (countPkt src port p s).xsteps = s.xsteps := rfl
@[simp] theorem countPkt_combs (src port : Nat) (p : Packet) : (countPkt src port p s).combs = s.combs := rfl
@[simp] theorem countPkt_xclosed (src port : Nat) (p : Packet) : (countPkt src port p s).xclosed = s.xclosed := rfl
@[simp] theorem countPkt_hep (src port : Nat) (p : Packet) : (countPkt src port p s).hep = s.hep := rfl

/-! ## putMsg -/

@[simp] theorem putMsg_pending (c : MsgCtx) : (putMsg c s).pending = s.pending := rfl
@[simp] theorem putMsg_fresh (c : MsgCtx) : (putMsg c s).fresh = s.fresh := rfl
@[simp] theorem putMsg_now (c : MsgCtx) : (putMsg c s).now = s.now := rfl
@[simp] theorem putMsg_time7 (c : MsgCtx) : (putMsg c s).time7 = s.time7 := rfl
@[simp] theorem putMsg_aclk (c : MsgCtx) : (putMsg c s).aclk = s.aclk := rfl
@[simp] theorem putMsg_w1cSet (c : MsgCtx) : (putMsg c s).w1cSet = s.w1cSet := rfl
@[simp] theorem putMsg_again (c : MsgCtx) : (putMsg c s).again = s.again := rfl
@[simp] theorem putMsg_wrote (c : MsgCtx) : (putMsg c s).wrote = s.wrote := rfl
@[simp] theorem putMsg_msuLast (c : MsgCtx) : (putMsg c s).msuLast = s.msuLast := rfl
@[simp] theorem putMsg_excNow (c : MsgCtx) : (putMsg c s).excNow = s.excNow := rfl
@[simp] theorem putMsg_issued (c : MsgCtx) : (putMsg c s).issued = s.issued := rfl
@[simp] theorem putMsg_evts (c : MsgCtx) : (putMsg c s).evts = s.evts := rfl
@[simp] theorem putMsg_ecbPend (c : MsgCtx) : (putMsg c s).ecbPend = s.ecbPend := rfl
@[simp] theorem putMsg_corrected (c : MsgCtx) : (putMsg c s).corrected = s.corrected := rfl
@[simp] theorem putMsg_jtag (c : MsgCtx) : (putMsg c s).jtag = s.jtag := rfl
@[simp] theorem putMsg_mgcTraps (c : MsgCtx) : (putMsg c s).mgcTraps = s.mgcTraps := rfl
@[simp] theorem putMsg_mgcSram (c : MsgCtx) : (putMsg c s).mgcSram = s.mgcSram := rfl
@[simp] theorem putMsg_mgcOn (c : MsgCtx) : (putMsg c s).mgcOn = s.mgcOn := rfl
@[simp] theorem putMsg_stopsLeft (c : MsgCtx) : (putMsg c s).stopsLeft = s.stopsLeft := rfl
@[simp] theorem putMsg_raised (c : MsgCtx) : (putMsg c s).raised = s.raised := rfl
@[simp] theorem putMsg_pins (c : MsgCtx) : (putMsg c s).pins = s.pins := rfl
@[simp] theorem putMsg_fuses (c : MsgCtx) : (putMsg c s).fuses = s.fuses := rfl
@[simp] theorem putMsg_csr (c : MsgCtx) : (putMsg c s).csr = s.csr := rfl
@[simp] theorem putMsg_flash (c : MsgCtx) : (putMsg c s).flash = s.flash := rfl
@[simp] theorem putMsg_flashSize (c : MsgCtx) : (putMsg c s).flashSize = s.flashSize := rfl
@[simp] theorem putMsg_boot (c : MsgCtx) : (putMsg c s).boot = s.boot := rfl
@[simp] theorem putMsg_rack (c : MsgCtx) : (putMsg c s).rack = s.rack := rfl
@[simp] theorem putMsg_mem (c : MsgCtx) : (putMsg c s).mem = s.mem := rfl
@[simp] theorem putMsg_poison (c : MsgCtx) : (putMsg c s).poison = s.poison := rfl
@[simp] theorem putMsg_flaws (c : MsgCtx) : (putMsg c s).flaws = s.flaws := rfl
@[simp] theorem putMsg_gerr (c : MsgCtx) : (putMsg c s).gerr = s.gerr := rfl
@[simp] theorem putMsg_gpoison (c : MsgCtx) : (putMsg c s).gpoison = s.gpoison := rfl
@[simp] theorem putMsg_wiping (c : MsgCtx) : (putMsg c s).wiping = s.wiping := rfl
@[simp] theorem putMsg_rowCache (c : MsgCtx) : (putMsg c s).rowCache = s.rowCache := rfl
@[simp] theorem putMsg_ports (c : MsgCtx) : (putMsg c s).ports = s.ports := rfl
@[simp] theorem putMsg_spread (c : MsgCtx) : (putMsg c s).spread = s.spread := rfl
@[simp] theorem putMsg_pathWritten (c : MsgCtx) : (putMsg c s).pathWritten = s.pathWritten := rfl
@[simp] theorem putMsg_msgCtr (c : MsgCtx) : (putMsg c s).msgCtr = s.msgCtr := rfl
@[simp] theorem putMsg_seqCtr (c : MsgCtx) : (putMsg c s).seqCtr = s.seqCtr := rfl
@[simp] theorem putMsg_resps (c : MsgCtx) : (putMsg c s).resps = s.resps := rfl
@[simp] theorem putMsg_results (c : MsgCtx) : (putMsg c s).results = s.results := rfl
@[simp] theorem putMsg_releases (c : MsgCtx) : (putMsg c s).releases = s.releases := rfl
@[simp] theorem putMsg_milestones (c : MsgCtx) : (putMsg c s).milestones = s.milestones := rfl
@[simp] theorem putMsg_waits (c : MsgCtx) : (putMsg c s).waits = s.waits := rfl
@[simp] theorem putMsg_bpm (c : MsgCtx) : (putMsg c s).bpm = s.bpm := rfl
@[simp] theorem putMsg_engines (c : MsgCtx) : (putMsg c s).engines = s.engines := rfl
@[simp] theorem putMsg_slices (c : MsgCtx) : (putMsg c s).slices = s.slices := rfl
@[simp] theorem putMsg_descs (c : MsgCtx) : (putMsg c s).descs = s.descs := rfl
@[simp] theorem putMsg_colls (c : MsgCtx) : (putMsg c s).colls = s.colls := rfl
@[simp] theorem putMsg_closed (c : MsgCtx) : (putMsg c s).closed = s.closed := rfl
@[simp] theorem putMsg_locals (c : MsgCtx) : (putMsg c s).locals = s.locals := rfl
@[simp] theorem putMsg_parkedKeys (c : MsgCtx) : (putMsg c s).parkedKeys = s.parkedKeys := rfl
@[simp] theorem putMsg_parked (c : MsgCtx) : (putMsg c s).parked = s.parked := rfl
@[simp] theorem putMsg_parkMsgs (c : MsgCtx) : (putMsg c s).parkMsgs = s.parkMsgs := rfl
@[simp] theorem putMsg_parkMeta (c : MsgCtx) : (putMsg c s).parkMeta = s.parkMeta := rfl
@[simp] theorem putMsg_parkWait (c : MsgCtx) : (putMsg c s).parkWait = s.parkWait := rfl
@[simp] theorem putMsg_collWait (c : MsgCtx) : (putMsg c s).collWait = s.collWait := rfl
@[simp] theorem putMsg_grpCommit (c : MsgCtx) : (putMsg c s).grpCommit = s.grpCommit := rfl
@[simp] theorem putMsg_tabCommit (c : MsgCtx) : (putMsg c s).tabCommit = s.tabCommit := rfl
@[simp] theorem putMsg_busHeld (c : MsgCtx) : (putMsg c s).busHeld = s.busHeld := rfl
@[simp] theorem putMsg_bulkWait (c : MsgCtx) : (putMsg c s).bulkWait = s.bulkWait := rfl
@[simp] theorem putMsg_xswitches (c : MsgCtx) : (putMsg c s).xswitches = s.xswitches := rfl
@[simp] theorem putMsg_stepDrops (c : MsgCtx) : (putMsg c s).stepDrops = s.stepDrops := rfl
@[simp] theorem putMsg_xsteps (c : MsgCtx) : (putMsg c s).xsteps = s.xsteps := rfl
@[simp] theorem putMsg_combs (c : MsgCtx) : (putMsg c s).combs = s.combs := rfl
@[simp] theorem putMsg_xclosed (c : MsgCtx) : (putMsg c s).xclosed = s.xclosed := rfl
@[simp] theorem putMsg_hep (c : MsgCtx) : (putMsg c s).hep = s.hep := rfl

/-! ## dropMsg -/

@[simp] theorem dropMsg_pending (src msgId : W32) : (dropMsg src msgId s).pending = s.pending := rfl
@[simp] theorem dropMsg_fresh (src msgId : W32) : (dropMsg src msgId s).fresh = s.fresh := rfl
@[simp] theorem dropMsg_now (src msgId : W32) : (dropMsg src msgId s).now = s.now := rfl
@[simp] theorem dropMsg_time7 (src msgId : W32) : (dropMsg src msgId s).time7 = s.time7 := rfl
@[simp] theorem dropMsg_aclk (src msgId : W32) : (dropMsg src msgId s).aclk = s.aclk := rfl
@[simp] theorem dropMsg_w1cSet (src msgId : W32) : (dropMsg src msgId s).w1cSet = s.w1cSet := rfl
@[simp] theorem dropMsg_again (src msgId : W32) : (dropMsg src msgId s).again = s.again := rfl
@[simp] theorem dropMsg_wrote (src msgId : W32) : (dropMsg src msgId s).wrote = s.wrote := rfl
@[simp] theorem dropMsg_msuLast (src msgId : W32) : (dropMsg src msgId s).msuLast = s.msuLast := rfl
@[simp] theorem dropMsg_excNow (src msgId : W32) : (dropMsg src msgId s).excNow = s.excNow := rfl
@[simp] theorem dropMsg_issued (src msgId : W32) : (dropMsg src msgId s).issued = s.issued := rfl
@[simp] theorem dropMsg_evts (src msgId : W32) : (dropMsg src msgId s).evts = s.evts := rfl
@[simp] theorem dropMsg_ecbPend (src msgId : W32) : (dropMsg src msgId s).ecbPend = s.ecbPend := rfl
@[simp] theorem dropMsg_corrected (src msgId : W32) : (dropMsg src msgId s).corrected = s.corrected := rfl
@[simp] theorem dropMsg_jtag (src msgId : W32) : (dropMsg src msgId s).jtag = s.jtag := rfl
@[simp] theorem dropMsg_mgcTraps (src msgId : W32) : (dropMsg src msgId s).mgcTraps = s.mgcTraps := rfl
@[simp] theorem dropMsg_mgcSram (src msgId : W32) : (dropMsg src msgId s).mgcSram = s.mgcSram := rfl
@[simp] theorem dropMsg_mgcOn (src msgId : W32) : (dropMsg src msgId s).mgcOn = s.mgcOn := rfl
@[simp] theorem dropMsg_stopsLeft (src msgId : W32) : (dropMsg src msgId s).stopsLeft = s.stopsLeft := rfl
@[simp] theorem dropMsg_raised (src msgId : W32) : (dropMsg src msgId s).raised = s.raised := rfl
@[simp] theorem dropMsg_pins (src msgId : W32) : (dropMsg src msgId s).pins = s.pins := rfl
@[simp] theorem dropMsg_fuses (src msgId : W32) : (dropMsg src msgId s).fuses = s.fuses := rfl
@[simp] theorem dropMsg_csr (src msgId : W32) : (dropMsg src msgId s).csr = s.csr := rfl
@[simp] theorem dropMsg_flash (src msgId : W32) : (dropMsg src msgId s).flash = s.flash := rfl
@[simp] theorem dropMsg_flashSize (src msgId : W32) : (dropMsg src msgId s).flashSize = s.flashSize := rfl
@[simp] theorem dropMsg_boot (src msgId : W32) : (dropMsg src msgId s).boot = s.boot := rfl
@[simp] theorem dropMsg_rack (src msgId : W32) : (dropMsg src msgId s).rack = s.rack := rfl
@[simp] theorem dropMsg_mem (src msgId : W32) : (dropMsg src msgId s).mem = s.mem := rfl
@[simp] theorem dropMsg_poison (src msgId : W32) : (dropMsg src msgId s).poison = s.poison := rfl
@[simp] theorem dropMsg_flaws (src msgId : W32) : (dropMsg src msgId s).flaws = s.flaws := rfl
@[simp] theorem dropMsg_gerr (src msgId : W32) : (dropMsg src msgId s).gerr = s.gerr := rfl
@[simp] theorem dropMsg_gpoison (src msgId : W32) : (dropMsg src msgId s).gpoison = s.gpoison := rfl
@[simp] theorem dropMsg_wiping (src msgId : W32) : (dropMsg src msgId s).wiping = s.wiping := rfl
@[simp] theorem dropMsg_rowCache (src msgId : W32) : (dropMsg src msgId s).rowCache = s.rowCache := rfl
@[simp] theorem dropMsg_ports (src msgId : W32) : (dropMsg src msgId s).ports = s.ports := rfl
@[simp] theorem dropMsg_spread (src msgId : W32) : (dropMsg src msgId s).spread = s.spread := rfl
@[simp] theorem dropMsg_pathWritten (src msgId : W32) : (dropMsg src msgId s).pathWritten = s.pathWritten := rfl
@[simp] theorem dropMsg_msgCtr (src msgId : W32) : (dropMsg src msgId s).msgCtr = s.msgCtr := rfl
@[simp] theorem dropMsg_seqCtr (src msgId : W32) : (dropMsg src msgId s).seqCtr = s.seqCtr := rfl
@[simp] theorem dropMsg_resps (src msgId : W32) : (dropMsg src msgId s).resps = s.resps := rfl
@[simp] theorem dropMsg_results (src msgId : W32) : (dropMsg src msgId s).results = s.results := rfl
@[simp] theorem dropMsg_releases (src msgId : W32) : (dropMsg src msgId s).releases = s.releases := rfl
@[simp] theorem dropMsg_milestones (src msgId : W32) : (dropMsg src msgId s).milestones = s.milestones := rfl
@[simp] theorem dropMsg_waits (src msgId : W32) : (dropMsg src msgId s).waits = s.waits := rfl
@[simp] theorem dropMsg_bpm (src msgId : W32) : (dropMsg src msgId s).bpm = s.bpm := rfl
@[simp] theorem dropMsg_engines (src msgId : W32) : (dropMsg src msgId s).engines = s.engines := rfl
@[simp] theorem dropMsg_slices (src msgId : W32) : (dropMsg src msgId s).slices = s.slices := rfl
@[simp] theorem dropMsg_descs (src msgId : W32) : (dropMsg src msgId s).descs = s.descs := rfl
@[simp] theorem dropMsg_colls (src msgId : W32) : (dropMsg src msgId s).colls = s.colls := rfl
@[simp] theorem dropMsg_closed (src msgId : W32) : (dropMsg src msgId s).closed = s.closed := rfl
@[simp] theorem dropMsg_locals (src msgId : W32) : (dropMsg src msgId s).locals = s.locals := rfl
@[simp] theorem dropMsg_parkedKeys (src msgId : W32) : (dropMsg src msgId s).parkedKeys = s.parkedKeys := rfl
@[simp] theorem dropMsg_parked (src msgId : W32) : (dropMsg src msgId s).parked = s.parked := rfl
@[simp] theorem dropMsg_parkMsgs (src msgId : W32) : (dropMsg src msgId s).parkMsgs = s.parkMsgs := rfl
@[simp] theorem dropMsg_parkMeta (src msgId : W32) : (dropMsg src msgId s).parkMeta = s.parkMeta := rfl
@[simp] theorem dropMsg_parkWait (src msgId : W32) : (dropMsg src msgId s).parkWait = s.parkWait := rfl
@[simp] theorem dropMsg_collWait (src msgId : W32) : (dropMsg src msgId s).collWait = s.collWait := rfl
@[simp] theorem dropMsg_grpCommit (src msgId : W32) : (dropMsg src msgId s).grpCommit = s.grpCommit := rfl
@[simp] theorem dropMsg_tabCommit (src msgId : W32) : (dropMsg src msgId s).tabCommit = s.tabCommit := rfl
@[simp] theorem dropMsg_busHeld (src msgId : W32) : (dropMsg src msgId s).busHeld = s.busHeld := rfl
@[simp] theorem dropMsg_bulkWait (src msgId : W32) : (dropMsg src msgId s).bulkWait = s.bulkWait := rfl
@[simp] theorem dropMsg_xswitches (src msgId : W32) : (dropMsg src msgId s).xswitches = s.xswitches := rfl
@[simp] theorem dropMsg_stepDrops (src msgId : W32) : (dropMsg src msgId s).stepDrops = s.stepDrops := rfl
@[simp] theorem dropMsg_xsteps (src msgId : W32) : (dropMsg src msgId s).xsteps = s.xsteps := rfl
@[simp] theorem dropMsg_combs (src msgId : W32) : (dropMsg src msgId s).combs = s.combs := rfl
@[simp] theorem dropMsg_xclosed (src msgId : W32) : (dropMsg src msgId s).xclosed = s.xclosed := rfl
@[simp] theorem dropMsg_hep (src msgId : W32) : (dropMsg src msgId s).hep = s.hep := rfl

/-! ## putRun -/

@[simp] theorem putRun_pending (e : Nat) (r : Run) : (putRun e r s).pending = s.pending := rfl
@[simp] theorem putRun_fresh (e : Nat) (r : Run) : (putRun e r s).fresh = s.fresh := rfl
@[simp] theorem putRun_now (e : Nat) (r : Run) : (putRun e r s).now = s.now := rfl
@[simp] theorem putRun_time7 (e : Nat) (r : Run) : (putRun e r s).time7 = s.time7 := rfl
@[simp] theorem putRun_aclk (e : Nat) (r : Run) : (putRun e r s).aclk = s.aclk := rfl
@[simp] theorem putRun_w1cSet (e : Nat) (r : Run) : (putRun e r s).w1cSet = s.w1cSet := rfl
@[simp] theorem putRun_again (e : Nat) (r : Run) : (putRun e r s).again = s.again := rfl
@[simp] theorem putRun_wrote (e : Nat) (r : Run) : (putRun e r s).wrote = s.wrote := rfl
@[simp] theorem putRun_msuLast (e : Nat) (r : Run) : (putRun e r s).msuLast = s.msuLast := rfl
@[simp] theorem putRun_excNow (e : Nat) (r : Run) : (putRun e r s).excNow = s.excNow := rfl
@[simp] theorem putRun_issued (e : Nat) (r : Run) : (putRun e r s).issued = s.issued := rfl
@[simp] theorem putRun_evts (e : Nat) (r : Run) : (putRun e r s).evts = s.evts := rfl
@[simp] theorem putRun_ecbPend (e : Nat) (r : Run) : (putRun e r s).ecbPend = s.ecbPend := rfl
@[simp] theorem putRun_corrected (e : Nat) (r : Run) : (putRun e r s).corrected = s.corrected := rfl
@[simp] theorem putRun_jtag (e : Nat) (r : Run) : (putRun e r s).jtag = s.jtag := rfl
@[simp] theorem putRun_mgcTraps (e : Nat) (r : Run) : (putRun e r s).mgcTraps = s.mgcTraps := rfl
@[simp] theorem putRun_mgcSram (e : Nat) (r : Run) : (putRun e r s).mgcSram = s.mgcSram := rfl
@[simp] theorem putRun_mgcOn (e : Nat) (r : Run) : (putRun e r s).mgcOn = s.mgcOn := rfl
@[simp] theorem putRun_stopsLeft (e : Nat) (r : Run) : (putRun e r s).stopsLeft = s.stopsLeft := rfl
@[simp] theorem putRun_raised (e : Nat) (r : Run) : (putRun e r s).raised = s.raised := rfl
@[simp] theorem putRun_pins (e : Nat) (r : Run) : (putRun e r s).pins = s.pins := rfl
@[simp] theorem putRun_fuses (e : Nat) (r : Run) : (putRun e r s).fuses = s.fuses := rfl
@[simp] theorem putRun_csr (e : Nat) (r : Run) : (putRun e r s).csr = s.csr := rfl
@[simp] theorem putRun_flash (e : Nat) (r : Run) : (putRun e r s).flash = s.flash := rfl
@[simp] theorem putRun_flashSize (e : Nat) (r : Run) : (putRun e r s).flashSize = s.flashSize := rfl
@[simp] theorem putRun_boot (e : Nat) (r : Run) : (putRun e r s).boot = s.boot := rfl
@[simp] theorem putRun_rack (e : Nat) (r : Run) : (putRun e r s).rack = s.rack := rfl
@[simp] theorem putRun_mem (e : Nat) (r : Run) : (putRun e r s).mem = s.mem := rfl
@[simp] theorem putRun_poison (e : Nat) (r : Run) : (putRun e r s).poison = s.poison := rfl
@[simp] theorem putRun_flaws (e : Nat) (r : Run) : (putRun e r s).flaws = s.flaws := rfl
@[simp] theorem putRun_gerr (e : Nat) (r : Run) : (putRun e r s).gerr = s.gerr := rfl
@[simp] theorem putRun_gpoison (e : Nat) (r : Run) : (putRun e r s).gpoison = s.gpoison := rfl
@[simp] theorem putRun_wiping (e : Nat) (r : Run) : (putRun e r s).wiping = s.wiping := rfl
@[simp] theorem putRun_rowCache (e : Nat) (r : Run) : (putRun e r s).rowCache = s.rowCache := rfl
@[simp] theorem putRun_ports (e : Nat) (r : Run) : (putRun e r s).ports = s.ports := rfl
@[simp] theorem putRun_spread (e : Nat) (r : Run) : (putRun e r s).spread = s.spread := rfl
@[simp] theorem putRun_pathWritten (e : Nat) (r : Run) : (putRun e r s).pathWritten = s.pathWritten := rfl
@[simp] theorem putRun_msgCtr (e : Nat) (r : Run) : (putRun e r s).msgCtr = s.msgCtr := rfl
@[simp] theorem putRun_seqCtr (e : Nat) (r : Run) : (putRun e r s).seqCtr = s.seqCtr := rfl
@[simp] theorem putRun_msgs (e : Nat) (r : Run) : (putRun e r s).msgs = s.msgs := rfl
@[simp] theorem putRun_resps (e : Nat) (r : Run) : (putRun e r s).resps = s.resps := rfl
@[simp] theorem putRun_results (e : Nat) (r : Run) : (putRun e r s).results = s.results := rfl
@[simp] theorem putRun_releases (e : Nat) (r : Run) : (putRun e r s).releases = s.releases := rfl
@[simp] theorem putRun_milestones (e : Nat) (r : Run) : (putRun e r s).milestones = s.milestones := rfl
@[simp] theorem putRun_waits (e : Nat) (r : Run) : (putRun e r s).waits = s.waits := rfl
@[simp] theorem putRun_bpm (e : Nat) (r : Run) : (putRun e r s).bpm = s.bpm := rfl
@[simp] theorem putRun_slices (e : Nat) (r : Run) : (putRun e r s).slices = s.slices := rfl
@[simp] theorem putRun_descs (e : Nat) (r : Run) : (putRun e r s).descs = s.descs := rfl
@[simp] theorem putRun_colls (e : Nat) (r : Run) : (putRun e r s).colls = s.colls := rfl
@[simp] theorem putRun_closed (e : Nat) (r : Run) : (putRun e r s).closed = s.closed := rfl
@[simp] theorem putRun_locals (e : Nat) (r : Run) : (putRun e r s).locals = s.locals := rfl
@[simp] theorem putRun_parkedKeys (e : Nat) (r : Run) : (putRun e r s).parkedKeys = s.parkedKeys := rfl
@[simp] theorem putRun_parked (e : Nat) (r : Run) : (putRun e r s).parked = s.parked := rfl
@[simp] theorem putRun_parkMsgs (e : Nat) (r : Run) : (putRun e r s).parkMsgs = s.parkMsgs := rfl
@[simp] theorem putRun_parkMeta (e : Nat) (r : Run) : (putRun e r s).parkMeta = s.parkMeta := rfl
@[simp] theorem putRun_parkWait (e : Nat) (r : Run) : (putRun e r s).parkWait = s.parkWait := rfl
@[simp] theorem putRun_collWait (e : Nat) (r : Run) : (putRun e r s).collWait = s.collWait := rfl
@[simp] theorem putRun_grpCommit (e : Nat) (r : Run) : (putRun e r s).grpCommit = s.grpCommit := rfl
@[simp] theorem putRun_tabCommit (e : Nat) (r : Run) : (putRun e r s).tabCommit = s.tabCommit := rfl
@[simp] theorem putRun_busHeld (e : Nat) (r : Run) : (putRun e r s).busHeld = s.busHeld := rfl
@[simp] theorem putRun_bulkWait (e : Nat) (r : Run) : (putRun e r s).bulkWait = s.bulkWait := rfl
@[simp] theorem putRun_xswitches (e : Nat) (r : Run) : (putRun e r s).xswitches = s.xswitches := rfl
@[simp] theorem putRun_stepDrops (e : Nat) (r : Run) : (putRun e r s).stepDrops = s.stepDrops := rfl
@[simp] theorem putRun_xsteps (e : Nat) (r : Run) : (putRun e r s).xsteps = s.xsteps := rfl
@[simp] theorem putRun_combs (e : Nat) (r : Run) : (putRun e r s).combs = s.combs := rfl
@[simp] theorem putRun_xclosed (e : Nat) (r : Run) : (putRun e r s).xclosed = s.xclosed := rfl
@[simp] theorem putRun_hep (e : Nat) (r : Run) : (putRun e r s).hep = s.hep := rfl

/-! ## State.countReg -/

@[simp] theorem State.countReg_pending (a n : Nat) : (s.countReg a n).pending = s.pending := by
  unfold State.countReg; split <;> rfl
@[simp] theorem State.countReg_fresh (a n : Nat) : (s.countReg a n).fresh = s.fresh := by
  unfold State.countReg; split <;> rfl
@[simp] theorem State.countReg_now (a n : Nat) : (s.countReg a n).now = s.now := by
  unfold State.countReg; split <;> rfl
@[simp] theorem State.countReg_time7 (a n : Nat) : (s.countReg a n).time7 = s.time7 := by
  unfold State.countReg; split <;> rfl
@[simp] theorem State.countReg_aclk (a n : Nat) : (s.countReg a n).aclk = s.aclk := by
  unfold State.countReg; split <;> rfl
@[simp] theorem State.countReg_w1cSet (a n : Nat) : (s.countReg a n).w1cSet = s.w1cSet := by
  unfold State.countReg; split <;> rfl
@[simp] theorem State.countReg_again (a n : Nat) : (s.countReg a n).again = s.again := by
  unfold State.countReg; split <;> rfl
@[simp] theorem State.countReg_wrote (a n : Nat) : (s.countReg a n).wrote = s.wrote := by
  unfold State.countReg; split <;> rfl
@[simp] theorem State.countReg_msuLast (a n : Nat) : (s.countReg a n).msuLast = s.msuLast := by
  unfold State.countReg; split <;> rfl
@[simp] theorem State.countReg_excNow (a n : Nat) : (s.countReg a n).excNow = s.excNow := by
  unfold State.countReg; split <;> rfl
@[simp] theorem State.countReg_issued (a n : Nat) : (s.countReg a n).issued = s.issued := by
  unfold State.countReg; split <;> rfl
@[simp] theorem State.countReg_evts (a n : Nat) : (s.countReg a n).evts = s.evts := by
  unfold State.countReg; split <;> rfl
@[simp] theorem State.countReg_ecbPend (a n : Nat) : (s.countReg a n).ecbPend = s.ecbPend := by
  unfold State.countReg; split <;> rfl
@[simp] theorem State.countReg_corrected (a n : Nat) : (s.countReg a n).corrected = s.corrected := by
  unfold State.countReg; split <;> rfl
@[simp] theorem State.countReg_jtag (a n : Nat) : (s.countReg a n).jtag = s.jtag := by
  unfold State.countReg; split <;> rfl
@[simp] theorem State.countReg_mgcTraps (a n : Nat) : (s.countReg a n).mgcTraps = s.mgcTraps := by
  unfold State.countReg; split <;> rfl
@[simp] theorem State.countReg_mgcSram (a n : Nat) : (s.countReg a n).mgcSram = s.mgcSram := by
  unfold State.countReg; split <;> rfl
@[simp] theorem State.countReg_mgcOn (a n : Nat) : (s.countReg a n).mgcOn = s.mgcOn := by
  unfold State.countReg; split <;> rfl
@[simp] theorem State.countReg_stopsLeft (a n : Nat) : (s.countReg a n).stopsLeft = s.stopsLeft := by
  unfold State.countReg; split <;> rfl
@[simp] theorem State.countReg_raised (a n : Nat) : (s.countReg a n).raised = s.raised := by
  unfold State.countReg; split <;> rfl
@[simp] theorem State.countReg_pins (a n : Nat) : (s.countReg a n).pins = s.pins := by
  unfold State.countReg; split <;> rfl
@[simp] theorem State.countReg_fuses (a n : Nat) : (s.countReg a n).fuses = s.fuses := by
  unfold State.countReg; split <;> rfl
@[simp] theorem State.countReg_flash (a n : Nat) : (s.countReg a n).flash = s.flash := by
  unfold State.countReg; split <;> rfl
@[simp] theorem State.countReg_flashSize (a n : Nat) : (s.countReg a n).flashSize = s.flashSize := by
  unfold State.countReg; split <;> rfl
@[simp] theorem State.countReg_boot (a n : Nat) : (s.countReg a n).boot = s.boot := by
  unfold State.countReg; split <;> rfl
@[simp] theorem State.countReg_rack (a n : Nat) : (s.countReg a n).rack = s.rack := by
  unfold State.countReg; split <;> rfl
@[simp] theorem State.countReg_mem (a n : Nat) : (s.countReg a n).mem = s.mem := by
  unfold State.countReg; split <;> rfl
@[simp] theorem State.countReg_poison (a n : Nat) : (s.countReg a n).poison = s.poison := by
  unfold State.countReg; split <;> rfl
@[simp] theorem State.countReg_flaws (a n : Nat) : (s.countReg a n).flaws = s.flaws := by
  unfold State.countReg; split <;> rfl
@[simp] theorem State.countReg_gerr (a n : Nat) : (s.countReg a n).gerr = s.gerr := by
  unfold State.countReg; split <;> rfl
@[simp] theorem State.countReg_gpoison (a n : Nat) : (s.countReg a n).gpoison = s.gpoison := by
  unfold State.countReg; split <;> rfl
@[simp] theorem State.countReg_wiping (a n : Nat) : (s.countReg a n).wiping = s.wiping := by
  unfold State.countReg; split <;> rfl
@[simp] theorem State.countReg_rowCache (a n : Nat) : (s.countReg a n).rowCache = s.rowCache := by
  unfold State.countReg; split <;> rfl
@[simp] theorem State.countReg_ports (a n : Nat) : (s.countReg a n).ports = s.ports := by
  unfold State.countReg; split <;> rfl
@[simp] theorem State.countReg_spread (a n : Nat) : (s.countReg a n).spread = s.spread := by
  unfold State.countReg; split <;> rfl
@[simp] theorem State.countReg_pathWritten (a n : Nat) : (s.countReg a n).pathWritten = s.pathWritten := by
  unfold State.countReg; split <;> rfl
@[simp] theorem State.countReg_msgCtr (a n : Nat) : (s.countReg a n).msgCtr = s.msgCtr := by
  unfold State.countReg; split <;> rfl
@[simp] theorem State.countReg_seqCtr (a n : Nat) : (s.countReg a n).seqCtr = s.seqCtr := by
  unfold State.countReg; split <;> rfl
@[simp] theorem State.countReg_msgs (a n : Nat) : (s.countReg a n).msgs = s.msgs := by
  unfold State.countReg; split <;> rfl
@[simp] theorem State.countReg_resps (a n : Nat) : (s.countReg a n).resps = s.resps := by
  unfold State.countReg; split <;> rfl
@[simp] theorem State.countReg_results (a n : Nat) : (s.countReg a n).results = s.results := by
  unfold State.countReg; split <;> rfl
@[simp] theorem State.countReg_releases (a n : Nat) : (s.countReg a n).releases = s.releases := by
  unfold State.countReg; split <;> rfl
@[simp] theorem State.countReg_milestones (a n : Nat) : (s.countReg a n).milestones = s.milestones := by
  unfold State.countReg; split <;> rfl
@[simp] theorem State.countReg_waits (a n : Nat) : (s.countReg a n).waits = s.waits := by
  unfold State.countReg; split <;> rfl
@[simp] theorem State.countReg_bpm (a n : Nat) : (s.countReg a n).bpm = s.bpm := by
  unfold State.countReg; split <;> rfl
@[simp] theorem State.countReg_engines (a n : Nat) : (s.countReg a n).engines = s.engines := by
  unfold State.countReg; split <;> rfl
@[simp] theorem State.countReg_slices (a n : Nat) : (s.countReg a n).slices = s.slices := by
  unfold State.countReg; split <;> rfl
@[simp] theorem State.countReg_descs (a n : Nat) : (s.countReg a n).descs = s.descs := by
  unfold State.countReg; split <;> rfl
@[simp] theorem State.countReg_colls (a n : Nat) : (s.countReg a n).colls = s.colls := by
  unfold State.countReg; split <;> rfl
@[simp] theorem State.countReg_closed (a n : Nat) : (s.countReg a n).closed = s.closed := by
  unfold State.countReg; split <;> rfl
@[simp] theorem State.countReg_locals (a n : Nat) : (s.countReg a n).locals = s.locals := by
  unfold State.countReg; split <;> rfl
@[simp] theorem State.countReg_parkedKeys (a n : Nat) : (s.countReg a n).parkedKeys = s.parkedKeys := by
  unfold State.countReg; split <;> rfl
@[simp] theorem State.countReg_parked (a n : Nat) : (s.countReg a n).parked = s.parked := by
  unfold State.countReg; split <;> rfl
@[simp] theorem State.countReg_parkMsgs (a n : Nat) : (s.countReg a n).parkMsgs = s.parkMsgs := by
  unfold State.countReg; split <;> rfl
@[simp] theorem State.countReg_parkMeta (a n : Nat) : (s.countReg a n).parkMeta = s.parkMeta := by
  unfold State.countReg; split <;> rfl
@[simp] theorem State.countReg_parkWait (a n : Nat) : (s.countReg a n).parkWait = s.parkWait := by
  unfold State.countReg; split <;> rfl
@[simp] theorem State.countReg_collWait (a n : Nat) : (s.countReg a n).collWait = s.collWait := by
  unfold State.countReg; split <;> rfl
@[simp] theorem State.countReg_grpCommit (a n : Nat) : (s.countReg a n).grpCommit = s.grpCommit := by
  unfold State.countReg; split <;> rfl
@[simp] theorem State.countReg_tabCommit (a n : Nat) : (s.countReg a n).tabCommit = s.tabCommit := by
  unfold State.countReg; split <;> rfl
@[simp] theorem State.countReg_busHeld (a n : Nat) : (s.countReg a n).busHeld = s.busHeld := by
  unfold State.countReg; split <;> rfl
@[simp] theorem State.countReg_bulkWait (a n : Nat) : (s.countReg a n).bulkWait = s.bulkWait := by
  unfold State.countReg; split <;> rfl
@[simp] theorem State.countReg_xswitches (a n : Nat) : (s.countReg a n).xswitches = s.xswitches := by
  unfold State.countReg; split <;> rfl
@[simp] theorem State.countReg_stepDrops (a n : Nat) : (s.countReg a n).stepDrops = s.stepDrops := by
  unfold State.countReg; split <;> rfl
@[simp] theorem State.countReg_xsteps (a n : Nat) : (s.countReg a n).xsteps = s.xsteps := by
  unfold State.countReg; split <;> rfl
@[simp] theorem State.countReg_combs (a n : Nat) : (s.countReg a n).combs = s.combs := by
  unfold State.countReg; split <;> rfl
@[simp] theorem State.countReg_xclosed (a n : Nat) : (s.countReg a n).xclosed = s.xclosed := by
  unfold State.countReg; split <;> rfl
@[simp] theorem State.countReg_hep (a n : Nat) : (s.countReg a n).hep = s.hep := by
  unfold State.countReg; split <;> rfl

/-! ## raise -/

/-- Raising a source changes the register file, the record of the cycle's bits and the list of raised sources only. -/
theorem raise_shape (b : Blk) (src : Nat) : ∃ c r w g, raise b src s = { s with csr := c, raised := r, w1cSet := w, again := g } := by
  by_cases h : bit (s.regN (blkFlt b)) src = true
  · exact ⟨_, _, _, _, by simp only [raise, h, if_true]; rfl⟩
  · by_cases k : collected (s.setSticky (blkFlt b) (BitVec.ofNat 64 (2 ^ src))) = true
    · exact ⟨_, _, _, _, by simp only [raise, h, k, if_true]; rfl⟩
    · exact ⟨_, _, _, _, by simp only [raise, h, k]; rfl⟩

@[simp] theorem raise_pending (b : Blk) (src : Nat) : (raise b src s).pending = s.pending := by
  obtain ⟨c, r, w, g, h⟩ := raise_shape s b src; rw [h]
@[simp] theorem raise_fresh (b : Blk) (src : Nat) : (raise b src s).fresh = s.fresh := by
  obtain ⟨c, r, w, g, h⟩ := raise_shape s b src; rw [h]
@[simp] theorem raise_now (b : Blk) (src : Nat) : (raise b src s).now = s.now := by
  obtain ⟨c, r, w, g, h⟩ := raise_shape s b src; rw [h]
@[simp] theorem raise_time7 (b : Blk) (src : Nat) : (raise b src s).time7 = s.time7 := by
  obtain ⟨c, r, w, g, h⟩ := raise_shape s b src; rw [h]
@[simp] theorem raise_aclk (b : Blk) (src : Nat) : (raise b src s).aclk = s.aclk := by
  obtain ⟨c, r, w, g, h⟩ := raise_shape s b src; rw [h]
@[simp] theorem raise_wrote (b : Blk) (src : Nat) : (raise b src s).wrote = s.wrote := by
  obtain ⟨c, r, w, g, h⟩ := raise_shape s b src; rw [h]
@[simp] theorem raise_msuLast (b : Blk) (src : Nat) : (raise b src s).msuLast = s.msuLast := by
  obtain ⟨c, r, w, g, h⟩ := raise_shape s b src; rw [h]
@[simp] theorem raise_excNow (b : Blk) (src : Nat) : (raise b src s).excNow = s.excNow := by
  obtain ⟨c, r, w, g, h⟩ := raise_shape s b src; rw [h]
@[simp] theorem raise_issued (b : Blk) (src : Nat) : (raise b src s).issued = s.issued := by
  obtain ⟨c, r, w, g, h⟩ := raise_shape s b src; rw [h]
@[simp] theorem raise_evts (b : Blk) (src : Nat) : (raise b src s).evts = s.evts := by
  obtain ⟨c, r, w, g, h⟩ := raise_shape s b src; rw [h]
@[simp] theorem raise_ecbPend (b : Blk) (src : Nat) : (raise b src s).ecbPend = s.ecbPend := by
  obtain ⟨c, r, w, g, h⟩ := raise_shape s b src; rw [h]
@[simp] theorem raise_corrected (b : Blk) (src : Nat) : (raise b src s).corrected = s.corrected := by
  obtain ⟨c, r, w, g, h⟩ := raise_shape s b src; rw [h]
@[simp] theorem raise_jtag (b : Blk) (src : Nat) : (raise b src s).jtag = s.jtag := by
  obtain ⟨c, r, w, g, h⟩ := raise_shape s b src; rw [h]
@[simp] theorem raise_mgcTraps (b : Blk) (src : Nat) : (raise b src s).mgcTraps = s.mgcTraps := by
  obtain ⟨c, r, w, g, h⟩ := raise_shape s b src; rw [h]
@[simp] theorem raise_mgcSram (b : Blk) (src : Nat) : (raise b src s).mgcSram = s.mgcSram := by
  obtain ⟨c, r, w, g, h⟩ := raise_shape s b src; rw [h]
@[simp] theorem raise_mgcOn (b : Blk) (src : Nat) : (raise b src s).mgcOn = s.mgcOn := by
  obtain ⟨c, r, w, g, h⟩ := raise_shape s b src; rw [h]
@[simp] theorem raise_stopsLeft (b : Blk) (src : Nat) : (raise b src s).stopsLeft = s.stopsLeft := by
  obtain ⟨c, r, w, g, h⟩ := raise_shape s b src; rw [h]
@[simp] theorem raise_pins (b : Blk) (src : Nat) : (raise b src s).pins = s.pins := by
  obtain ⟨c, r, w, g, h⟩ := raise_shape s b src; rw [h]
@[simp] theorem raise_fuses (b : Blk) (src : Nat) : (raise b src s).fuses = s.fuses := by
  obtain ⟨c, r, w, g, h⟩ := raise_shape s b src; rw [h]
@[simp] theorem raise_flash (b : Blk) (src : Nat) : (raise b src s).flash = s.flash := by
  obtain ⟨c, r, w, g, h⟩ := raise_shape s b src; rw [h]
@[simp] theorem raise_flashSize (b : Blk) (src : Nat) : (raise b src s).flashSize = s.flashSize := by
  obtain ⟨c, r, w, g, h⟩ := raise_shape s b src; rw [h]
@[simp] theorem raise_boot (b : Blk) (src : Nat) : (raise b src s).boot = s.boot := by
  obtain ⟨c, r, w, g, h⟩ := raise_shape s b src; rw [h]
@[simp] theorem raise_rack (b : Blk) (src : Nat) : (raise b src s).rack = s.rack := by
  obtain ⟨c, r, w, g, h⟩ := raise_shape s b src; rw [h]
@[simp] theorem raise_mem (b : Blk) (src : Nat) : (raise b src s).mem = s.mem := by
  obtain ⟨c, r, w, g, h⟩ := raise_shape s b src; rw [h]
@[simp] theorem raise_poison (b : Blk) (src : Nat) : (raise b src s).poison = s.poison := by
  obtain ⟨c, r, w, g, h⟩ := raise_shape s b src; rw [h]
@[simp] theorem raise_flaws (b : Blk) (src : Nat) : (raise b src s).flaws = s.flaws := by
  obtain ⟨c, r, w, g, h⟩ := raise_shape s b src; rw [h]
@[simp] theorem raise_gerr (b : Blk) (src : Nat) : (raise b src s).gerr = s.gerr := by
  obtain ⟨c, r, w, g, h⟩ := raise_shape s b src; rw [h]
@[simp] theorem raise_gpoison (b : Blk) (src : Nat) : (raise b src s).gpoison = s.gpoison := by
  obtain ⟨c, r, w, g, h⟩ := raise_shape s b src; rw [h]
@[simp] theorem raise_wiping (b : Blk) (src : Nat) : (raise b src s).wiping = s.wiping := by
  obtain ⟨c, r, w, g, h⟩ := raise_shape s b src; rw [h]
@[simp] theorem raise_rowCache (b : Blk) (src : Nat) : (raise b src s).rowCache = s.rowCache := by
  obtain ⟨c, r, w, g, h⟩ := raise_shape s b src; rw [h]
@[simp] theorem raise_ports (b : Blk) (src : Nat) : (raise b src s).ports = s.ports := by
  obtain ⟨c, r, w, g, h⟩ := raise_shape s b src; rw [h]
@[simp] theorem raise_spread (b : Blk) (src : Nat) : (raise b src s).spread = s.spread := by
  obtain ⟨c, r, w, g, h⟩ := raise_shape s b src; rw [h]
@[simp] theorem raise_pathWritten (b : Blk) (src : Nat) : (raise b src s).pathWritten = s.pathWritten := by
  obtain ⟨c, r, w, g, h⟩ := raise_shape s b src; rw [h]
@[simp] theorem raise_msgCtr (b : Blk) (src : Nat) : (raise b src s).msgCtr = s.msgCtr := by
  obtain ⟨c, r, w, g, h⟩ := raise_shape s b src; rw [h]
@[simp] theorem raise_seqCtr (b : Blk) (src : Nat) : (raise b src s).seqCtr = s.seqCtr := by
  obtain ⟨c, r, w, g, h⟩ := raise_shape s b src; rw [h]
@[simp] theorem raise_msgs (b : Blk) (src : Nat) : (raise b src s).msgs = s.msgs := by
  obtain ⟨c, r, w, g, h⟩ := raise_shape s b src; rw [h]
@[simp] theorem raise_resps (b : Blk) (src : Nat) : (raise b src s).resps = s.resps := by
  obtain ⟨c, r, w, g, h⟩ := raise_shape s b src; rw [h]
@[simp] theorem raise_results (b : Blk) (src : Nat) : (raise b src s).results = s.results := by
  obtain ⟨c, r, w, g, h⟩ := raise_shape s b src; rw [h]
@[simp] theorem raise_releases (b : Blk) (src : Nat) : (raise b src s).releases = s.releases := by
  obtain ⟨c, r, w, g, h⟩ := raise_shape s b src; rw [h]
@[simp] theorem raise_milestones (b : Blk) (src : Nat) : (raise b src s).milestones = s.milestones := by
  obtain ⟨c, r, w, g, h⟩ := raise_shape s b src; rw [h]
@[simp] theorem raise_waits (b : Blk) (src : Nat) : (raise b src s).waits = s.waits := by
  obtain ⟨c, r, w, g, h⟩ := raise_shape s b src; rw [h]
@[simp] theorem raise_bpm (b : Blk) (src : Nat) : (raise b src s).bpm = s.bpm := by
  obtain ⟨c, r, w, g, h⟩ := raise_shape s b src; rw [h]
@[simp] theorem raise_engines (b : Blk) (src : Nat) : (raise b src s).engines = s.engines := by
  obtain ⟨c, r, w, g, h⟩ := raise_shape s b src; rw [h]
@[simp] theorem raise_slices (b : Blk) (src : Nat) : (raise b src s).slices = s.slices := by
  obtain ⟨c, r, w, g, h⟩ := raise_shape s b src; rw [h]
@[simp] theorem raise_descs (b : Blk) (src : Nat) : (raise b src s).descs = s.descs := by
  obtain ⟨c, r, w, g, h⟩ := raise_shape s b src; rw [h]
@[simp] theorem raise_colls (b : Blk) (src : Nat) : (raise b src s).colls = s.colls := by
  obtain ⟨c, r, w, g, h⟩ := raise_shape s b src; rw [h]
@[simp] theorem raise_closed (b : Blk) (src : Nat) : (raise b src s).closed = s.closed := by
  obtain ⟨c, r, w, g, h⟩ := raise_shape s b src; rw [h]
@[simp] theorem raise_locals (b : Blk) (src : Nat) : (raise b src s).locals = s.locals := by
  obtain ⟨c, r, w, g, h⟩ := raise_shape s b src; rw [h]
@[simp] theorem raise_parkedKeys (b : Blk) (src : Nat) : (raise b src s).parkedKeys = s.parkedKeys := by
  obtain ⟨c, r, w, g, h⟩ := raise_shape s b src; rw [h]
@[simp] theorem raise_parked (b : Blk) (src : Nat) : (raise b src s).parked = s.parked := by
  obtain ⟨c, r, w, g, h⟩ := raise_shape s b src; rw [h]
@[simp] theorem raise_parkMsgs (b : Blk) (src : Nat) : (raise b src s).parkMsgs = s.parkMsgs := by
  obtain ⟨c, r, w, g, h⟩ := raise_shape s b src; rw [h]
@[simp] theorem raise_parkMeta (b : Blk) (src : Nat) : (raise b src s).parkMeta = s.parkMeta := by
  obtain ⟨c, r, w, g, h⟩ := raise_shape s b src; rw [h]
@[simp] theorem raise_parkWait (b : Blk) (src : Nat) : (raise b src s).parkWait = s.parkWait := by
  obtain ⟨c, r, w, g, h⟩ := raise_shape s b src; rw [h]
@[simp] theorem raise_collWait (b : Blk) (src : Nat) : (raise b src s).collWait = s.collWait := by
  obtain ⟨c, r, w, g, h⟩ := raise_shape s b src; rw [h]
@[simp] theorem raise_grpCommit (b : Blk) (src : Nat) : (raise b src s).grpCommit = s.grpCommit := by
  obtain ⟨c, r, w, g, h⟩ := raise_shape s b src; rw [h]
@[simp] theorem raise_tabCommit (b : Blk) (src : Nat) : (raise b src s).tabCommit = s.tabCommit := by
  obtain ⟨c, r, w, g, h⟩ := raise_shape s b src; rw [h]
@[simp] theorem raise_busHeld (b : Blk) (src : Nat) : (raise b src s).busHeld = s.busHeld := by
  obtain ⟨c, r, w, g, h⟩ := raise_shape s b src; rw [h]
@[simp] theorem raise_bulkWait (b : Blk) (src : Nat) : (raise b src s).bulkWait = s.bulkWait := by
  obtain ⟨c, r, w, g, h⟩ := raise_shape s b src; rw [h]
@[simp] theorem raise_xswitches (b : Blk) (src : Nat) : (raise b src s).xswitches = s.xswitches := by
  obtain ⟨c, r, w, g, h⟩ := raise_shape s b src; rw [h]
@[simp] theorem raise_stepDrops (b : Blk) (src : Nat) : (raise b src s).stepDrops = s.stepDrops := by
  obtain ⟨c, r, w, g, h⟩ := raise_shape s b src; rw [h]
@[simp] theorem raise_xsteps (b : Blk) (src : Nat) : (raise b src s).xsteps = s.xsteps := by
  obtain ⟨c, r, w, g, h⟩ := raise_shape s b src; rw [h]
@[simp] theorem raise_combs (b : Blk) (src : Nat) : (raise b src s).combs = s.combs := by
  obtain ⟨c, r, w, g, h⟩ := raise_shape s b src; rw [h]
@[simp] theorem raise_xclosed (b : Blk) (src : Nat) : (raise b src s).xclosed = s.xclosed := by
  obtain ⟨c, r, w, g, h⟩ := raise_shape s b src; rw [h]
@[simp] theorem raise_hep (b : Blk) (src : Nat) : (raise b src s).hep = s.hep := by
  obtain ⟨c, r, w, g, h⟩ := raise_shape s b src; rw [h]

/-! ## raiseIf -/

@[simp] theorem raiseIf_pending (c : Bool) (b : Blk) (src : Nat) : (raiseIf c b src s).pending = s.pending := by
  unfold raiseIf; split <;> simp
@[simp] theorem raiseIf_fresh (c : Bool) (b : Blk) (src : Nat) : (raiseIf c b src s).fresh = s.fresh := by
  unfold raiseIf; split <;> simp
@[simp] theorem raiseIf_now (c : Bool) (b : Blk) (src : Nat) : (raiseIf c b src s).now = s.now := by
  unfold raiseIf; split <;> simp
@[simp] theorem raiseIf_time7 (c : Bool) (b : Blk) (src : Nat) : (raiseIf c b src s).time7 = s.time7 := by
  unfold raiseIf; split <;> simp
@[simp] theorem raiseIf_aclk (c : Bool) (b : Blk) (src : Nat) : (raiseIf c b src s).aclk = s.aclk := by
  unfold raiseIf; split <;> simp
@[simp] theorem raiseIf_wrote (c : Bool) (b : Blk) (src : Nat) : (raiseIf c b src s).wrote = s.wrote := by
  unfold raiseIf; split <;> simp
@[simp] theorem raiseIf_msuLast (c : Bool) (b : Blk) (src : Nat) : (raiseIf c b src s).msuLast = s.msuLast := by
  unfold raiseIf; split <;> simp
@[simp] theorem raiseIf_excNow (c : Bool) (b : Blk) (src : Nat) : (raiseIf c b src s).excNow = s.excNow := by
  unfold raiseIf; split <;> simp
@[simp] theorem raiseIf_issued (c : Bool) (b : Blk) (src : Nat) : (raiseIf c b src s).issued = s.issued := by
  unfold raiseIf; split <;> simp
@[simp] theorem raiseIf_evts (c : Bool) (b : Blk) (src : Nat) : (raiseIf c b src s).evts = s.evts := by
  unfold raiseIf; split <;> simp
@[simp] theorem raiseIf_ecbPend (c : Bool) (b : Blk) (src : Nat) : (raiseIf c b src s).ecbPend = s.ecbPend := by
  unfold raiseIf; split <;> simp
@[simp] theorem raiseIf_corrected (c : Bool) (b : Blk) (src : Nat) : (raiseIf c b src s).corrected = s.corrected := by
  unfold raiseIf; split <;> simp
@[simp] theorem raiseIf_jtag (c : Bool) (b : Blk) (src : Nat) : (raiseIf c b src s).jtag = s.jtag := by
  unfold raiseIf; split <;> simp
@[simp] theorem raiseIf_mgcTraps (c : Bool) (b : Blk) (src : Nat) : (raiseIf c b src s).mgcTraps = s.mgcTraps := by
  unfold raiseIf; split <;> simp
@[simp] theorem raiseIf_mgcSram (c : Bool) (b : Blk) (src : Nat) : (raiseIf c b src s).mgcSram = s.mgcSram := by
  unfold raiseIf; split <;> simp
@[simp] theorem raiseIf_mgcOn (c : Bool) (b : Blk) (src : Nat) : (raiseIf c b src s).mgcOn = s.mgcOn := by
  unfold raiseIf; split <;> simp
@[simp] theorem raiseIf_stopsLeft (c : Bool) (b : Blk) (src : Nat) : (raiseIf c b src s).stopsLeft = s.stopsLeft := by
  unfold raiseIf; split <;> simp
@[simp] theorem raiseIf_pins (c : Bool) (b : Blk) (src : Nat) : (raiseIf c b src s).pins = s.pins := by
  unfold raiseIf; split <;> simp
@[simp] theorem raiseIf_fuses (c : Bool) (b : Blk) (src : Nat) : (raiseIf c b src s).fuses = s.fuses := by
  unfold raiseIf; split <;> simp
@[simp] theorem raiseIf_flash (c : Bool) (b : Blk) (src : Nat) : (raiseIf c b src s).flash = s.flash := by
  unfold raiseIf; split <;> simp
@[simp] theorem raiseIf_flashSize (c : Bool) (b : Blk) (src : Nat) : (raiseIf c b src s).flashSize = s.flashSize := by
  unfold raiseIf; split <;> simp
@[simp] theorem raiseIf_boot (c : Bool) (b : Blk) (src : Nat) : (raiseIf c b src s).boot = s.boot := by
  unfold raiseIf; split <;> simp
@[simp] theorem raiseIf_rack (c : Bool) (b : Blk) (src : Nat) : (raiseIf c b src s).rack = s.rack := by
  unfold raiseIf; split <;> simp
@[simp] theorem raiseIf_mem (c : Bool) (b : Blk) (src : Nat) : (raiseIf c b src s).mem = s.mem := by
  unfold raiseIf; split <;> simp
@[simp] theorem raiseIf_poison (c : Bool) (b : Blk) (src : Nat) : (raiseIf c b src s).poison = s.poison := by
  unfold raiseIf; split <;> simp
@[simp] theorem raiseIf_flaws (c : Bool) (b : Blk) (src : Nat) : (raiseIf c b src s).flaws = s.flaws := by
  unfold raiseIf; split <;> simp
@[simp] theorem raiseIf_gerr (c : Bool) (b : Blk) (src : Nat) : (raiseIf c b src s).gerr = s.gerr := by
  unfold raiseIf; split <;> simp
@[simp] theorem raiseIf_gpoison (c : Bool) (b : Blk) (src : Nat) : (raiseIf c b src s).gpoison = s.gpoison := by
  unfold raiseIf; split <;> simp
@[simp] theorem raiseIf_wiping (c : Bool) (b : Blk) (src : Nat) : (raiseIf c b src s).wiping = s.wiping := by
  unfold raiseIf; split <;> simp
@[simp] theorem raiseIf_rowCache (c : Bool) (b : Blk) (src : Nat) : (raiseIf c b src s).rowCache = s.rowCache := by
  unfold raiseIf; split <;> simp
@[simp] theorem raiseIf_ports (c : Bool) (b : Blk) (src : Nat) : (raiseIf c b src s).ports = s.ports := by
  unfold raiseIf; split <;> simp
@[simp] theorem raiseIf_spread (c : Bool) (b : Blk) (src : Nat) : (raiseIf c b src s).spread = s.spread := by
  unfold raiseIf; split <;> simp
@[simp] theorem raiseIf_pathWritten (c : Bool) (b : Blk) (src : Nat) : (raiseIf c b src s).pathWritten = s.pathWritten := by
  unfold raiseIf; split <;> simp
@[simp] theorem raiseIf_msgCtr (c : Bool) (b : Blk) (src : Nat) : (raiseIf c b src s).msgCtr = s.msgCtr := by
  unfold raiseIf; split <;> simp
@[simp] theorem raiseIf_seqCtr (c : Bool) (b : Blk) (src : Nat) : (raiseIf c b src s).seqCtr = s.seqCtr := by
  unfold raiseIf; split <;> simp
@[simp] theorem raiseIf_msgs (c : Bool) (b : Blk) (src : Nat) : (raiseIf c b src s).msgs = s.msgs := by
  unfold raiseIf; split <;> simp
@[simp] theorem raiseIf_resps (c : Bool) (b : Blk) (src : Nat) : (raiseIf c b src s).resps = s.resps := by
  unfold raiseIf; split <;> simp
@[simp] theorem raiseIf_results (c : Bool) (b : Blk) (src : Nat) : (raiseIf c b src s).results = s.results := by
  unfold raiseIf; split <;> simp
@[simp] theorem raiseIf_releases (c : Bool) (b : Blk) (src : Nat) : (raiseIf c b src s).releases = s.releases := by
  unfold raiseIf; split <;> simp
@[simp] theorem raiseIf_milestones (c : Bool) (b : Blk) (src : Nat) : (raiseIf c b src s).milestones = s.milestones := by
  unfold raiseIf; split <;> simp
@[simp] theorem raiseIf_waits (c : Bool) (b : Blk) (src : Nat) : (raiseIf c b src s).waits = s.waits := by
  unfold raiseIf; split <;> simp
@[simp] theorem raiseIf_bpm (c : Bool) (b : Blk) (src : Nat) : (raiseIf c b src s).bpm = s.bpm := by
  unfold raiseIf; split <;> simp
@[simp] theorem raiseIf_engines (c : Bool) (b : Blk) (src : Nat) : (raiseIf c b src s).engines = s.engines := by
  unfold raiseIf; split <;> simp
@[simp] theorem raiseIf_slices (c : Bool) (b : Blk) (src : Nat) : (raiseIf c b src s).slices = s.slices := by
  unfold raiseIf; split <;> simp
@[simp] theorem raiseIf_descs (c : Bool) (b : Blk) (src : Nat) : (raiseIf c b src s).descs = s.descs := by
  unfold raiseIf; split <;> simp
@[simp] theorem raiseIf_colls (c : Bool) (b : Blk) (src : Nat) : (raiseIf c b src s).colls = s.colls := by
  unfold raiseIf; split <;> simp
@[simp] theorem raiseIf_closed (c : Bool) (b : Blk) (src : Nat) : (raiseIf c b src s).closed = s.closed := by
  unfold raiseIf; split <;> simp
@[simp] theorem raiseIf_locals (c : Bool) (b : Blk) (src : Nat) : (raiseIf c b src s).locals = s.locals := by
  unfold raiseIf; split <;> simp
@[simp] theorem raiseIf_parkedKeys (c : Bool) (b : Blk) (src : Nat) : (raiseIf c b src s).parkedKeys = s.parkedKeys := by
  unfold raiseIf; split <;> simp
@[simp] theorem raiseIf_parked (c : Bool) (b : Blk) (src : Nat) : (raiseIf c b src s).parked = s.parked := by
  unfold raiseIf; split <;> simp
@[simp] theorem raiseIf_parkMsgs (c : Bool) (b : Blk) (src : Nat) : (raiseIf c b src s).parkMsgs = s.parkMsgs := by
  unfold raiseIf; split <;> simp
@[simp] theorem raiseIf_parkMeta (c : Bool) (b : Blk) (src : Nat) : (raiseIf c b src s).parkMeta = s.parkMeta := by
  unfold raiseIf; split <;> simp
@[simp] theorem raiseIf_parkWait (c : Bool) (b : Blk) (src : Nat) : (raiseIf c b src s).parkWait = s.parkWait := by
  unfold raiseIf; split <;> simp
@[simp] theorem raiseIf_collWait (c : Bool) (b : Blk) (src : Nat) : (raiseIf c b src s).collWait = s.collWait := by
  unfold raiseIf; split <;> simp
@[simp] theorem raiseIf_grpCommit (c : Bool) (b : Blk) (src : Nat) : (raiseIf c b src s).grpCommit = s.grpCommit := by
  unfold raiseIf; split <;> simp
@[simp] theorem raiseIf_tabCommit (c : Bool) (b : Blk) (src : Nat) : (raiseIf c b src s).tabCommit = s.tabCommit := by
  unfold raiseIf; split <;> simp
@[simp] theorem raiseIf_busHeld (c : Bool) (b : Blk) (src : Nat) : (raiseIf c b src s).busHeld = s.busHeld := by
  unfold raiseIf; split <;> simp
@[simp] theorem raiseIf_bulkWait (c : Bool) (b : Blk) (src : Nat) : (raiseIf c b src s).bulkWait = s.bulkWait := by
  unfold raiseIf; split <;> simp
@[simp] theorem raiseIf_xswitches (c : Bool) (b : Blk) (src : Nat) : (raiseIf c b src s).xswitches = s.xswitches := by
  unfold raiseIf; split <;> simp
@[simp] theorem raiseIf_stepDrops (c : Bool) (b : Blk) (src : Nat) : (raiseIf c b src s).stepDrops = s.stepDrops := by
  unfold raiseIf; split <;> simp
@[simp] theorem raiseIf_xsteps (c : Bool) (b : Blk) (src : Nat) : (raiseIf c b src s).xsteps = s.xsteps := by
  unfold raiseIf; split <;> simp
@[simp] theorem raiseIf_combs (c : Bool) (b : Blk) (src : Nat) : (raiseIf c b src s).combs = s.combs := by
  unfold raiseIf; split <;> simp
@[simp] theorem raiseIf_xclosed (c : Bool) (b : Blk) (src : Nat) : (raiseIf c b src s).xclosed = s.xclosed := by
  unfold raiseIf; split <;> simp
@[simp] theorem raiseIf_hep (c : Bool) (b : Blk) (src : Nat) : (raiseIf c b src s).hep = s.hep := by
  unfold raiseIf; split <;> simp

end Sys2Proof.Machine
end

