-- ==== Sys2Proof/Machine/Coding.lean ====
section
/-!
DEFINITION. What a port unit puts on its lanes: lane training frames from DETECT to the data start (R70 to R72), and from then on
link frames coded, dealt over the lanes, scrambled and mapped to PAM4 (R66). Views of the port's state: `Port.sent` and the lanes.
-/

namespace Sys2Proof.Machine

/-! ## RS(544,514) over GF(2^10) (R66 step 2) -/

/-- An element of GF(2^10), bit i the coefficient of x^i, modulo x^10 + x^3 + 1. (PRESUMED, notes/assumptions/66.md) -/
abbrev Gf := BitVec 10

/-- Times x. -/
def gfDouble (a : Gf) : Gf := if a.getLsbD 9 then (a <<< 1) ^^^ 0x009 else a <<< 1

/-- Product. -/
def gfMul (a b : Gf) : Gf := (List.range 10).foldl (fun t i => gfDouble t ^^^ (if b.getLsbD (9 - i) then a else 0)) 0

/-- The power `j` of the primitive element x. -/
def gfPow (j : Nat) : Gf := (List.range j).foldl (fun t _ => gfDouble t) 1

/-- A polynomial, lowest coefficient first, times (x + r). -/
def polyRoot (g : List Gf) (r : Gf) : List Gf := List.zipWith (· ^^^ ·) (0 :: g) (g.map (gfMul r) ++ [0])

/-- The generator polynomial: its roots are the powers 0 to 29 of x. (PRESUMED, notes/assumptions/66.md) -/
def rsGen : List Gf := (List.range 30).foldl (fun g j => polyRoot g (gfPow j)) [1]

/-- One message symbol into the division by the generator; the remainder's highest coefficient stands first. -/
def rsStep (reg : List Gf) (m : Gf) : List Gf :=
  let f := m ^^^ reg.headD 0
  List.zipWith (fun r g => r ^^^ gfMul f g) (reg.drop 1 ++ [0]) (rsGen.reverse.drop 1)

/-- The codeword of a message of 514 symbols: message symbols first, parity last. -/
def rsEncode (m : List Gf) : List Gf := m ++ m.foldl rsStep (List.replicate 30 0)

/-- Every power 0 to 29 of x is a root of the word, its first symbol the highest coefficient. -/
def rsWord (c : List Gf) : Bool :=
  c.length == 544 && (List.range 30).all (fun j => c.foldl (fun t x => gfMul t (gfPow j) ^^^ x) 0 == 0)

/-- Symbols in which two words differ. -/
def symbolsWrong (a b : List Gf) : Nat := ((a.zip b).filter (fun x => x.1 != x.2)).length

/-- A receiver takes the word `r` for the message `m` and corrects `k` symbols: the code corrects 15. A word that is so near to no
codeword is uncorrectable. These are the counts of LINK_FRAME's operands. -/
def rsCorrects (r m : List Gf) (k : Nat) : Bool :=
  m.length == 514 && r.length == 544 && decide (k ≤ 15) && symbolsWrong r (rsEncode m) == k

/-! ## The bit stream (R66 steps 1 and 2) -/

/-- Bits of a byte, the least significant first. -/
def byteBits (b : Byte) : List Bool := (List.range 8).map b.getLsbD

/-- The 2,056 bytes of a frame: 32 slots and the trailer. -/
def frameBytes (f : LinkFrame) : List Byte := f.slots.flatMap (fun x => leBytes 64 x.toNat) ++ leBytes 8 f.trailer.toNat

/-- The frames back to back as one stream of bits. -/
def streamBits (fs : List LinkFrame) : List Bool := fs.flatMap (fun f => (frameBytes f).flatMap byteBits)

/-- Ten bits as a symbol, the first the least significant. (PRESUMED, notes/assumptions/66.md) -/
def symbolOf (l : List Bool) : Gf := BitVec.ofNat 10 ((l.zip (List.range 10)).foldl (fun t x => t + b2n x.1 * 2 ^ x.2) 0)

/-- Symbols of the codewords of every whole message of 5,140 bits; five frames make sixteen of them, a superframe. -/
def codedSymbols (fs : List LinkFrame) : List Gf :=
  let l := streamBits fs
  (chunksOf 5140 (l.length / 5140) l).flatMap (fun m => rsEncode ((chunksOf 10 514 m).map symbolOf))

/-! ## Lanes (R66 steps 3 to 5) -/

/-- Lanes of a mask in ascending order. -/
def lanesOf (m : BitVec 8) : List Nat := (List.range 8).filter m.getLsbD

/-- The symbols dealt to the `i`-th of `w` lanes: symbol k goes to lane k mod w. -/
def dealt (w i : Nat) (l : List Gf) : List Gf := (chunksOf w (l.length / w) l).filterMap (fun row => row[i]?)

/-- `n` bits of PRBS31, x^31 + x^28 + 1, from register contents `r`. (PRESUMED, notes/assumptions/66.md) -/
def prbs31 (n : Nat) (r : BitVec 31) : List Bool :=
  match n with
  | 0 => []
  | k + 1 =>
    let b := r.getLsbD 30 != r.getLsbD 27
    b :: prbs31 k ((r <<< 1) ||| (BitVec.ofBool b).setWidth 31)

/-- The PAM4 step of a pair of bits: 00, 01, 11 and 10 are steps 0 to 3. -/
def grayStep (hi lo : Bool) : Nat := if hi then (if lo then 2 else 3) else (if lo then 1 else 0)

/-- Steps of the pairs of a list of bits, the first bit of a pair the more significant. -/
def graySteps : List Bool → List Nat
  | a :: b :: r => grayStep a b :: graySteps r
  | _ => []

/-- The precoder 1/(1+D) mod 4, from the step `p` before. -/
def precode (p : Nat) : List Nat → List Nat
  | [] => []
  | x :: r => let y := (x + 4 - p % 4) % 4; y :: precode y r

/-- The level of a step: −3, −1, +1, +3. -/
def pamLevel (x : Nat) : Int := 2 * (x : Int) - 3

/-- Levels of a list of bits, precoded or not: the precoder starts from step 0 at the data start and at each training pattern. (DESIGN
CHOICE, notes/assumptions/79.md) -/
def pamLevels (pre : Bool) (l : List Bool) : List Int :=
  let x := graySteps l
  (if pre then precode 0 x else x).map pamLevel

/-- Transmitter lane `lane` of a port precodes. -/
def precodes (q : Port) (lane : Nat) : Bool := (q.tx.getD lane TxLane.reset).precoding

/-- The lanes on which frames are sent: those of the set, and in RETRAIN every lane this end still holds good (R72, R81). -/
def dataLanes (q : Port) : List Nat := lanesOf (if q.link == .retrain then laneOk q else q.laneUse)

/-- The levels that local lane `lane` has carried since the data start, or since a fast retrain began or ended (R66, R81); none for a
lane that carries no data. -/
def laneData (q : Port) (lane : Nat) : List Int :=
  match (dataLanes q).idxOf? lane with
  | none => []
  | some i =>
    let l := (dealt (dataLanes q).length i (codedSymbols q.sent)).flatMap (fun x => (List.range 10).map x.getLsbD)
    let scr := (l.zip (prbs31 l.length (BitVec.ofNat 31 (0x40000000 + lane)))).map (fun x => x.1 != x.2)
    pamLevels (precodes q lane) scr

/-! ## Lane training frames (Tables 3.24 to 3.26) -/

/-- A word with the CRC of its bits [31:0] above them. -/
def ltfWord (w : Nat) : W64 := BitVec.ofNat 64 (w % 2 ^ 32 + (crc32c (leBytes 4 (w % 2 ^ 32))).toNat * 2 ^ 32)

/-- The control word that lane `lane` sends (Table 3.25): the request of its receiver lane, and what the port says of itself. -/
def ltfControl (q : Port) (lane : Nat) : W64 :=
  let r := q.rx.getD lane RxLane.reset
  ltfWord (lane + r.farLane * 2 ^ 3 + r.tap.toNat * 2 ^ 6 + r.req.toNat * 2 ^ 8 + b2n r.precode * 2 ^ 10 + b2n r.ready * 2 ^ 11 +
    b2n (q.link == .align) * 2 ^ 12 + (readyLanes q).toNat * 2 ^ 13 + q.maxw % 4 * 2 ^ 21 + r.rseq.toNat * 2 ^ 23)

/-- The status word that lane `lane` sends (Table 3.26): the answer to the last request addressed to its transmitter. -/
def ltfStatus (q : Port) (lane : Nat) : W64 :=
  let t := q.tx.getD lane TxLane.reset
  ltfWord (t.result.toNat + t.rseq.toNat * 2 ^ 2 + b2n t.precoding * 2 ^ 10)

/-- `n` bits of PRBS13, x^13 + x^12 + x^2 + x + 1, from register contents `r`, and the contents after. (PRESUMED,
notes/assumptions/66.md) -/
def prbs13 (n : Nat) (r : BitVec 13) : List Bool × BitVec 13 :=
  match n with
  | 0 => ([], r)
  | k + 1 =>
    let b := ((r.getLsbD 12 != r.getLsbD 11) != r.getLsbD 1) != r.getLsbD 0
    let (l, r') := prbs13 k ((r <<< 1) ||| (BitVec.ofBool b).setWidth 13)
    (b :: l, r')

/-- A word's 128 symbols: bit 0 first, a 1 as +3 then −3, a 0 as −3 then +3. -/
def wordLevels (w : W64) : List Int := (List.range 64).flatMap (fun i => if w.getLsbD i then [3, -3] else [-3, 3])

/-- The register of lane `lane`'s training pattern after `k` LTFs since DETECT. -/
def patternAt (lane k : Nat) : BitVec 13 :=
  (List.range k).foldl (fun r _ => (prbs13 3520 r).2) (BitVec.ofNat 13 (0x1000 + lane))

/-- The LTF that lane `lane` sends now, after `q.ltfs` of them since DETECT: marker, control word, status word and training
pattern. -/
def ltf (q : Port) (lane : Nat) : List Int :=
  List.replicate 16 3 ++ List.replicate 16 (-3) ++ wordLevels (ltfControl q lane) ++ wordLevels (ltfStatus q lane) ++
    pamLevels (precodes q lane) (prbs13 3520 (patternAt lane q.ltfs)).1

/-! ## What a lane does -/

/-- What a transmitter lane carries. -/
inductive LaneOut where
  /-- Nothing: the transmitter is off. -/
  | off
  /-- LTFs, back to back. -/
  | training (control status : W64)
  /-- Coded link frames. -/
  | data
deriving DecidableEq, Repr

/-- Lane `lane` of port `n`: off in DISABLED and HELD_DOWN, on a lane marked failed, in chip reset and under a latched halt (R68,
R70, R330); LTFs until the data start (R70); then data on the lanes of the set (R72). -/
def laneOut (s : State) (n lane : Nat) : LaneOut :=
  let q := s.port n
  if !coreOn s || q.link == .disabled || q.link == .heldDown || q.failed.getLsbD lane then .off
  else if ltfState q.link then .training (ltfControl q lane) (ltfStatus q lane)
  else if (dataLanes q).contains lane then .data
  else .off

end Sys2Proof.Machine
end

