-- ==== Sys2Proof/Machine/Pins.lean ====
section
/-!
DEFINITION. The package pins that show the block's state: GATE_EPOCH (R404), the flash pins (R401), and the JTAG port with what it
reaches in each life-cycle state (R355, R399, R400).
-/

namespace Sys2Proof.Machine

/-- GATE_EPOCH as this switch's driver holds it (R404): high impedance for a MEMBER and throughout a chip reset; else high for the
32 ns from a boundary on, and low between. (DEDUCED, notes/assumptions/67.md) -/
def gateEpoch (s : State) : Option Bool :=
  if held s || epochRole s = 0 then none
  else match s.rack.drivenAt with
    | some t => some (decide ((s.now - t) * 20 < 32 * 7))
    | none => some false

/-- CCLK cycles of the 100 µs for which NVM_RESET_N stays low after a reset (R401). -/
def nvmResetCycles : Nat := 35000

/-- NVM_RESET_N is high (R401). (DEDUCED, notes/assumptions/67.md) -/
def nvmResetN (s : State) : Bool := !held s && decide (nvmResetCycles ≤ s.now)

/-- The lines of NVM_DQ that the flash interface may drive: in quad mode the upper four are left to their keepers (R343, R401). -/
def nvmDq (s : State) : BitVec 8 := if held s then 0 else if bit (s.regN 0xA0) 5 then 0x0F else 0xFF

/-! ## JTAG (R400)

No row of the table moves TCK: `tck` is what one of its rising edges does, and no command of the block performs it
(notes/assumptions/74.md). -/

/-- The state after a rising edge of TCK with this TMS, by IEEE 1149.1; TRST_N low, as when it is unconnected, holds the TAP in its
reset state (R400). (PRESUMED, notes/assumptions/74.md) -/
def tapNext (trstN tms : Bool) (t : Tap) : Tap :=
  if !trstN then .testLogicReset
  else match t with
    | .testLogicReset => if tms then .testLogicReset else .runTestIdle
    | .runTestIdle => if tms then .selectDr else .runTestIdle
    | .selectDr => if tms then .selectIr else .captureDr
    | .captureDr => if tms then .exit1Dr else .shiftDr
    | .shiftDr => if tms then .exit1Dr else .shiftDr
    | .exit1Dr => if tms then .updateDr else .pauseDr
    | .pauseDr => if tms then .exit2Dr else .pauseDr
    | .exit2Dr => if tms then .updateDr else .shiftDr
    | .updateDr => if tms then .selectDr else .runTestIdle
    | .selectIr => if tms then .testLogicReset else .captureIr
    | .captureIr => if tms then .exit1Ir else .shiftIr
    | .shiftIr => if tms then .exit1Ir else .shiftIr
    | .exit1Ir => if tms then .updateIr else .pauseIr
    | .pauseIr => if tms then .exit2Ir else .pauseIr
    | .exit2Ir => if tms then .updateIr else .shiftIr
    | .updateIr => if tms then .selectDr else .runTestIdle

/-- The IDCODE register: GRADE, PART, the manufacturer's code, and 1 (R400). -/
def idcode (s : State) : BitVec 32 :=
  let id := glbIdent s.fuses
  BitVec.ofNat 32 (bits id 19 16 * 2 ^ 28 + bits id 15 0 * 2 ^ 12 + Config.makerCode.toNat * 2 + 1)

/-- TDO is driven in the Shift states alone (Table 18.2). -/
def tdoDriven (t : Tap) : Bool := t == .shiftDr || t == .shiftIr

/-- The instructions, for the search of a code. -/
def tapInstrs : List TapInstr := [.idcode, .sample, .preload, .extest, .extestPulse, .extestTrain, .access, .bypass]

/-- JTAG has full access: in BLANK and PROVISIONED, and not while TEST_EN leaves only boundary scan (R355, R399, Table 15.9). -/
def jtagFull (s : State) : Bool := decide (s.fuses.lcState ≤ 1) && !s.pins.testEn

/-- The instruction that the bits shifted in name: BYPASS for a code of none, or of one whose access the life-cycle state does not
grant. (PRESUMED, notes/assumptions/74.md) -/
def tapDecode (s : State) (bs : List Bool) : TapInstr :=
  ((tapInstrs.filter (fun i => i != .access || jtagFull s)).find? (fun i => Config.tapCode (tapInstrs.idxOf i) == bs)).getD .bypass

/-- The instruction in force: access that the life-cycle state or TEST_EN has taken away since is BYPASS (R355, R399).
(PRESUMED, notes/assumptions/74.md) -/
def tapInstr (s : State) : TapInstr := if s.jtag.instr == .access && !jtagFull s then .bypass else s.jtag.instr

/-- What an instruction's data register holds as it is captured: a 0 for BYPASS, IDCODE, the levels at the boundary, and for the
access to the MGC and the register blocks what that unit has ready. The pins that the boundary cells see, and that port's layout, are
the part's: free values. (PRESUMED, notes/assumptions/74.md) -/
def drCapture (s : State) : List Bool :=
  match tapInstr s with
  | .bypass => [false]
  | .idcode => (List.range 32).map (idcode s).getLsbD
  | .access => Config.jtagPort s.fresh
  | _ => Config.boundaryPins s.fresh

/-- One place of a shift register: TDI comes in at its top, its lowest bit goes out at TDO. -/
def shiftIn (tdi : Bool) (bs : List Bool) : List Bool := bs.drop 1 ++ [tdi]

/-- A rising edge of TCK with these levels at TRST_N, TMS and TDI: what the state it leaves does, and the next state. In the reset
state IDCODE is in force. The boundary cells take what was shifted in for the instructions of the boundary-scan chain, and in
Run-Test/Idle EXTEST_TRAIN turns the lanes over at each edge. (PRESUMED, notes/assumptions/74.md) -/
def tck (trstN tms tdi : Bool) (s : State) : State :=
  let j := s.jtag
  let next := tapNext trstN tms j.tap
  let j : Jtag := match j.tap with
    | .captureDr => { j with shift := drCapture s }
    | .captureIr => { j with shift := [true, false] ++ List.replicate (Config.tapCodeLen - 2) false }
    | .shiftDr | .shiftIr => { j with shift := shiftIn tdi j.shift }
    | .updateDr => if [TapInstr.bypass, .idcode, .access].contains (tapInstr s) then j else { j with boundary := j.shift }
    | .updateIr => { j with instr := tapDecode s j.shift }
    | _ => j
  let j := { j with
    turned := j.tap == .runTestIdle && j.instr == .extestTrain && !j.turned
    tap := next
    instr := if next = Tap.testLogicReset then .idcode else j.instr }
  { s with jtag := j, fresh := s.fresh + 1 }

/-- The boundary cells drive the pins: EXTEST and the two instructions of IEEE 1149.6. -/
def cellsDrive (s : State) : Bool := [TapInstr.extest, .extestPulse, .extestTrain].contains s.jtag.instr

/-- The level at output pad `k`, which the block itself drives as `own`, high impedance being `none`: while the boundary cells drive
the pins, that of its cell, where its enable cell, if it has one, is 1. (PRESUMED, notes/assumptions/74.md) -/
def pad (s : State) (k : Nat) (own : Option Bool) : Option Bool :=
  if cellsDrive s then
    let cell := fun i => s.jtag.boundary.getD i false
    if (Config.padEnable k).all cell then some (cell (Config.padCell k)) else none
  else own

/-- The level at the transmitter of fabric or host lane `k`, an AC pin of IEEE 1149.6, while the boundary cells drive it: in
Run-Test/Idle EXTEST_PULSE drives its cell's opposite, and EXTEST_TRAIN the cell and its opposite in turn (R400).
(PRESUMED, notes/assumptions/74.md) -/
def lanePad (s : State) (k : Nat) : Option Bool :=
  if cellsDrive s then
    let v := s.jtag.boundary.getD (Config.laneCell k) false
    some (v != (s.jtag.tap == .runTestIdle && (s.jtag.instr == .extestPulse || (s.jtag.instr == .extestTrain && s.jtag.turned))))
  else none

/-- GATE_EPOCH, NVM_RESET_N, ERR_OUT_N and the lines of NVM_DQ at the package, in the numbering of `Config.padCell`: 0, 1, 2, and 3 on.
ERR_OUT_N is an open drain. -/
def gateEpochPin (s : State) : Option Bool := pad s 0 (gateEpoch s)
def nvmResetPin (s : State) : Option Bool := pad s 1 (some (nvmResetN s))
def errOutPin (s : State) : Option Bool := pad s 2 (if errOut s then some false else none)
def nvmDqDriven (s : State) (i : Nat) : Bool := if cellsDrive s then (pad s (3 + i) none).isSome else (nvmDq s).getLsbD i

/-- TDO, where it is driven. -/
def tdo (s : State) : Option Bool := if tdoDriven s.jtag.tap then some (s.jtag.shift.headD false) else none

/-- A register read over JTAG (R355): by R21 and R22, where JTAG reaches the register blocks. -/
def jtagRead (a w : Nat) (s : State) : Option W64 := if jtagFull s && !held s then busRead s a w else none

/-- A register write over JTAG (R355), as the management bus performs one. -/
def jtagWrite (a w : Nat) (v : W64) (s : State) : State := if jtagFull s then busWrite a w v false s else s

/-- The MGC as JTAG reaches it (R355): its SRAM, while JTAG has full access. -/
def jtagMgcRead (s : State) : Option (List Byte) := if jtagFull s && !held s then some s.mgcSram else none

/-- Bytes written into the MGC's SRAM over JTAG (R355). -/
def jtagMgcWrite (off : Nat) (bs : List Byte) (s : State) : State :=
  if jtagFull s && !held s then
    { s with mgcSram := s.mgcSram.take off ++ bs.take (s.mgcSram.length - off) ++ s.mgcSram.drop (off + bs.length) }
  else s

end Sys2Proof.Machine
end

