-- ==== Sys2Proof/Safety.lean ====
section
/-!
DEFINITION. What counts as a sound state of the block, in the terms claims use.
-/

namespace Sys2Proof.Machine

/-- The memories in their canonical form, the register file with strictly rising addresses, and the host block with its two
ports (R363) and four session slots (R370). -/
def Sound (s : State) : Prop :=
  Memory.wf 0 s.mem = true ∧ Memory.wf 0xFF s.flash = true ∧ tabSorted s.csr = true ∧
    s.hep.ports.length = 2 ∧ s.hep.sessions.length = 4

end Sys2Proof.Machine
end

