-- ==== Sys2Proof/WellFormed.lean ====
section
/-!
DEFINITION. The operands a command can have: what the wire, the bus or a counter can carry. `exec` is total and gives
every command a meaning; a well-formed command is one the hardware can meet.
-/

namespace Sys2Proof

/-- A packet carries at most 2,048 payload bytes (R39). -/
def Packet.wf (p : Packet) : Bool := p.pay.length ≤ 2048

/-- A link frame has 32 flit slots (R62). -/
def LinkFrame.wf (f : LinkFrame) : Bool := f.slots.length == 32

/-- A YMP message is shorter than an Ethernet frame of 9,216 bytes (Table 16.1). -/
def YmpFrame.wf (m : YmpFrame) : Bool := m.bytes.length ≤ 9216

/-- Number of granules of the store below END (R268, R31). -/
def granuleCount : Nat := 48000000000

/-- The packet a command carries. -/
def Instr.packet (i : Instr) : Option Packet :=
  match i with
  | .hello _ p => some p
  | .helloAck _ p => some p
  | .delayReq _ p _ _ => some p
  | .delayResp _ p _ _ => some p
  | .epoch _ p _ => some p
  | .stop _ p => some p
  | .packetForward _ p => some p
  | .endpointDelivery _ p => some p
  | .storeWrite _ p => some p
  | .storeRead _ p => some p
  | .gather _ p => some p
  | .gatherSum _ p => some p
  | .milestoneAdd _ p => some p
  | .milestoneSet _ p => some p
  | .milestoneWait _ p => some p
  | .poolAlloc _ p => some p
  | .poolShare _ p => some p
  | .poolDrop _ p => some p
  | .poolFree _ p => some p
  | .contributeMember _ p => some p
  | .stepUp _ p => some p
  | .stepDown _ p => some p
  | .stepDone _ p => some p
  | .stepFin _ p => some p
  | .stepAbort _ p => some p
  | .tokenDispatch _ p => some p
  | .sourceSeal _ p => some p
  | .switchCopy _ p => some p
  | .switchSeal _ p => some p
  | .expertOutput _ p => some p
  | .overcapNotice _ p => some p
  | _ => none

/-- The YMP frame a command carries. -/
def Instr.ymp (i : Instr) : Option YmpFrame :=
  match i with
  | .ympRead _ m => some m
  | .ympWrite _ m => some m
  | .eventAck _ m => some m
  | .bulkWr _ m => some m
  | .bulkRd _ m => some m
  | _ => none

/-- A width code of PU_LINK_CFG.MAXW fits any link; a reading has 28 sensors (R411); a scrub read stays in the store and
finds errors inside what it reads (R285); a register write has a register's width (R21); an expert number has 10 bits. -/
def Instr.wf (i : Instr) : Bool :=
  (match i.packet with | some p => p.wf | none => true) &&
  (match i.ymp with | some m => m.wf | none => true) &&
  (match i with
   | .linkFrame _ f c _ => f.wf && c.symbols.length == 8
   | .thermalReading ts => ts.length == 28
   | .scrubStep first count found =>
     decide (first + count ≤ granuleCount) && found.store.all (fun e => decide (first ≤ e.1) && decide (e.1 < first + count))
   | .registerWrite _ w _ => w == 4 || w == 8
   | .batchAlloc _ _ e => decide (e < 1024)
   | .linkFrameTransmit _ t => decide (t < 100000000)
   | _ => true)

end Sys2Proof
end

