-- ==== Sys2Proof/Certificates/Slice0/Obligations.lean ====
section
/-!
DEFINITION. The statements for the provers, and the predicates they are written with. A statement that a command has an
effect concludes that `exec` answers a next state and says which: either the whole next state, or a state `u` and what holds
of it. The sources a command raises stand in `raised`; the end of the CCLK cycle performs their reactions (R323).
-/

namespace Sys2Proof.Claims

open Sys2Proof.Machine

/-- Command `c` answers a next state `u` with `P u`. -/
def Does (c : Instr) (s : State) (P : State → Prop) : Prop := ∃ u, exec c s = .next u ∧ P u

/-- The registers that only count: the event counters and their overflow bits, and the counters of the junction engines, the
tensor store, the milestones, the pools and the port units. -/
def counts (a : Nat) : Bool :=
  (decide (0x302000 ≤ a) && decide (a < 0x302800)) || (decide (0x300040 ≤ a) && decide (a < 0x300060)) ||
  (decide (0x5000000 ≤ a) && decide (a < 0x6000000) && decide (0x3F00 ≤ a % 0x40000) && decide (a % 0x40000 < 0x3F18)) ||
  (decide (0x6000100 ≤ a) && decide (a < 0x6000138)) || (decide (0x6000F00 ≤ a) && decide (a < 0x6000F18)) ||
  (decide (0x7000100 ≤ a) && decide (a < 0x7000120)) || (decide (0x8080020 ≤ a) && decide (a < 0x8080030)) ||
  (decide (0x1000000 ≤ a) && decide (a < 0x1400000) &&
    ((decide (0x20 ≤ a % 0x10000) && decide (a % 0x10000 < 0x38)) || (decide (0x50 ≤ a % 0x10000) && decide (a % 0x10000 < 0x70))))

/-- No memory but the tensor store holds a latent error or a poisoned granule (R31 to R33). -/
abbrev Whole (s : State) : Prop := s.gerr = [] ∧ s.gpoison = []

/-- The management bus does not hold a write at `a` (R23). -/
abbrev BusFree (s : State) (a : Nat) : Prop := mustHold s a true = false

/-- Two register files that agree on every register that does not count. -/
def SameRegs (c c' : Tab W64) : Prop := ∀ a, counts a = false → tabGet c' a = tabGet c a

/-- `u` is `s` but for what has counted: registers that only count, and the present cycle's record of events, numeric exceptions and
issues. -/
def CountsOnly (s u : State) : Prop :=
  ∃ csr ev ex i, u = { s with csr := csr, evts := ev, excNow := ex, issued := i } ∧ SameRegs s.csr csr

/-- `u` is `s` but for the present cycle's record of the engines' issues. -/
def Noted (s u : State) : Prop := ∃ i, u = { s with issued := i }

end Sys2Proof.Claims

open Sys2Proof Sys2Proof.Machine Sys2Proof.Claims

/-! ## Junction engines -/

namespace Sys2Proof.Claims

/-- The run `r` in a slot is about to perform the word `w`, which is legal and of opcode `opc`, and no memory but
the store holds an error. -/
abbrev Ready (s : State) (e : Fin 64) (slot : Fin 16) (opc : Nat) (r : Run) (w : W64) : Prop :=
  coreOn s = true ∧ Whole s ∧ present s e.val = true ∧ findRun s e.val slot.val = some r ∧ 128 ≤ r.pid ∧
    r.wait = none ∧ r.pc < progLen s e.val r.pid ∧ progWord s e.val r.pid r.pc = w ∧ legalWord w = true ∧ iOpc w = opc

/-- The command answers the state with its run replaced by `r'`; nothing else changes but that the issue is noted. -/
def Moves (c : Instr) (s : State) (e : Fin 64) (r' : Run) : Prop := ∃ u, exec c s = .next u ∧ Noted (putRun e.val r' s) u

/-- As `Moves`, but counters may have counted. -/
def MovesCounting (c : Instr) (s : State) (e : Fin 64) (r' : Run) : Prop :=
  ∃ u, exec c s = .next (putRun e.val r' u) ∧ CountsOnly s u

/-- The command writes accumulator RD of the run of `w` and goes on: `kind`, `mask`, `f i` in each lane `i` below VL that
the register has, the old lanes from VL on; besides it only counters change. -/
def WritesLanes (c : Instr) (s : State) (e : Fin 64) (r : Run) (w : W64) (kind : Kind) (mask : BitVec 8) (f : Nat → W32 × Fl) :
    Prop :=
  ∃ u acc, exec c s = .next (putRun e.val { r with pc := r.pc + 1, a := r.a.set (iRd w) acc } u) ∧
    CountsOnly s u ∧ acc.kind = kind ∧ acc.mask = mask ∧
    (∀ i, i < r.vl → i < (r.acc (iRd w)).lanes.length → acc.lanes.getD i 0 = (f i).1) ∧
    (∀ i, i < r.vl → i < (r.acc (iRd w)).flags.length → acc.flags.getD i 0 = (f i).2) ∧
    (∀ i, r.vl ≤ i → acc.lane i = (r.acc (iRd w)).lane i)

/-- A lane's own result, its flags united with those of the operands' lanes (R251). -/
def united (v : W32 × Fl) (a b : Fl) : W32 × Fl := (v.1, v.2 ||| (a ||| b))

/-- The condition of a BR (Table 10.5): the bit is 0, the bit is 1, S = 0, S ≠ 0. -/
def brHolds (w v : W64) : Bool :=
  let b := v.getLsbD (iImm w / 2 ^ 13 % 64)
  if iMod w = 0 then b == false else if iMod w = 1 then b == true else if iMod w = 2 then v == 0 else !(v == 0)

/-- The operations of SALU and SALUI, as numbers. -/
def aluResult (op : Nat) (a b : W64) : W64 :=
  match op with
  | 0 => BitVec.ofNat 64 (a.toNat + b.toNat)
  | 1 => BitVec.ofNat 64 (a.toNat + 2 ^ 64 - b.toNat)
  | 2 => a &&& b
  | 3 => a ||| b
  | 4 => a ^^^ b
  | 5 => BitVec.ofNat 64 (a.toNat * 2 ^ (b.toNat % 64))
  | 6 => BitVec.ofNat 64 (a.toNat / 2 ^ (b.toNat % 64))
  | 7 => BitVec.ofNat 64 (a.toNat * b.toNat)
  | 8 => BitVec.ofNat 64 (min a.toNat b.toNat)
  | _ => BitVec.ofNat 64 (max a.toNat b.toNat)

/-- What SPR reads under number `n` (Table 10.3); CYCLE is the ACLK edges since the run left the run queue, `aclk` of all. -/
def sprValue (e : Fin 64) (r : Run) (aclk n : Nat) : Option W64 :=
  [BitVec.ofNat 64 r.vl, r.ebase.setWidth 64, r.flags.setWidth 64, r.first.setWidth 64, r.crc.setWidth 64,
    BitVec.ofNat 64 r.slot, BitVec.ofNat 64 e.val, BitVec.ofNat 64 r.pid, BitVec.ofNat 64 (aclk - r.start)][n]?

/-- The effective address of a memory instruction. -/
def eaOf (w : W64) (r : Run) : Nat := ((r.sreg (iRa w)).toNat + iImm w) % 2 ^ 64

/-- The scalar LDS makes of an element: the FP32 bits of a float, the sign-extended value of an integer. -/
def loadedScalar (fmt x : Nat) : W64 := if fmt < 5 then (fmtWiden fmt x).1.setWidth 64 else BitVec.ofInt 64 (intVal fmt x)

/-- The kind a loaded vector gets. -/
def loadKind (fmt : Nat) : Kind := if fmt < 5 then .f else if fmt = 7 then .i32 else .i8

/-- Every command that performs an instruction of an engine. -/
def engineInstrs (e : Fin 64) (k : Fin 16) : List Instr :=
  [.nop e k, .halt e k, .jmp e k, .br e k, .loop e k, .waitm e k, .spr e k, .movi e k, .salu e k, .salui e k, .lds e k, .ldv e k,
    .ldvF e k, .stv e k, .dma e k, .dwait e k, .recv e k, .send e k, .raddFwd e k, .gfmaSend e k, .vadd e k, .vmul e k, .vfma e k,
    .vscale e k, .vmax e k, .vmov e k, .bmsk e k, .sadd e k, .fenceAcq e k, .fenceRel e k, .madd e k, .vcrc e k]

end Sys2Proof.Claims

/-- Table 10.5, class C: where NOP, JMP, BR, LOOP, DWAIT and FENCE.REL take their run; nothing else changes.
Model: notes/assumptions/53.md. -/
def Obligations.ControlInstructionsMoveTheirRun : Prop := ∀ (e : Fin 64) (k : Fin 16) (s : State) (r : Run) (w : W64),
  (Ready s e k 0x00 r w → Moves (.nop e k) s e { r with pc := r.pc + 1 }) ∧
  (Ready s e k 0x02 r w → iImm w % 2 ^ 13 < progLen s e.val r.pid → Moves (.jmp e k) s e { r with pc := iImm w % 2 ^ 13 }) ∧
  (Ready s e k 0x03 r w → brHolds w (r.sreg (iRa w)) = true → iImm w % 2 ^ 13 < progLen s e.val r.pid →
    Moves (.br e k) s e { r with pc := iImm w % 2 ^ 13 }) ∧
  (Ready s e k 0x03 r w → brHolds w (r.sreg (iRa w)) = false → Moves (.br e k) s e { r with pc := r.pc + 1 }) ∧
  (Ready s e k 0x04 r w → r.sreg (iRa w) ≠ 1 → iImm w % 2 ^ 13 < progLen s e.val r.pid →
    Moves (.loop e k) s e { r with s := r.s.set (iRa w) (r.sreg (iRa w) - 1), pc := iImm w % 2 ^ 13 }) ∧
  (Ready s e k 0x04 r w → r.sreg (iRa w) = 1 → Moves (.loop e k) s e { r with s := r.s.set (iRa w) 0, pc := r.pc + 1 }) ∧
  (Ready s e k 0x24 r w → r.dmas.length ≤ min 8 (iImm w % 16) → Moves (.dwait e k) s e { r with pc := r.pc + 1 }) ∧
  (Ready s e k 0x24 r w → min 8 (iImm w % 16) < r.dmas.length → exec (.dwait e k) s = .next s) ∧
  (Ready s e k 0x61 r w → r.dmas = [] → Moves (.fenceRel e k) s e { r with pc := r.pc + 1 })

/-- Table 10.5, class X, and SPR: the register that MOVI, SALU, SALUI and SPR write, for SPR each of the nine numbers of Table 10.3;
nothing else changes. -/
def Obligations.ScalarInstructionsWriteTheirResult : Prop := ∀ (e : Fin 64) (k : Fin 16) (s : State) (r : Run) (w : W64),
  (Ready s e k 0x10 r w → Moves (.movi e k) s e { r with
    pc := r.pc + 1
    s := r.s.set (iRd w) (if iM0 w then BitVec.ofNat 64 ((r.sreg (iRd w)).toNat % 2 ^ 32 + iImm w * 2 ^ 32) else BitVec.ofNat 64 (iImm w)) }) ∧
  (Ready s e k 0x11 r w → Moves (.salu e k) s e { r with
    pc := r.pc + 1, s := r.s.set (iRd w) (aluResult (iMod w) (r.sreg (iRa w)) (r.sreg (iRb w))) }) ∧
  (Ready s e k 0x12 r w → Moves (.salui e k) s e { r with
    pc := r.pc + 1, s := r.s.set (iRd w) (aluResult (iMod w) (r.sreg (iRa w)) (BitVec.ofNat 64 (iImm w))) }) ∧
  (∀ v, Ready s e k 0x06 r w → iM0 w = false → sprValue e r s.aclk (iImm w % 256) = some v → Moves (.spr e k) s e { r with
    pc := r.pc + 1, s := r.s.set (iRd w) v }) ∧
  (Ready s e k 0x06 r w → iM0 w = true → iImm w % 256 = 0 → 1 ≤ (r.sreg (iRa w)).toNat → (r.sreg (iRa w)).toNat ≤ 512 →
    Moves (.spr e k) s e { r with pc := r.pc + 1, vl := (r.sreg (iRa w)).toNat }) ∧
  (Ready s e k 0x06 r w → iM0 w = true → iImm w % 256 = 1 →
    Moves (.spr e k) s e { r with pc := r.pc + 1, ebase := (r.sreg (iRa w)).setWidth 32 }) ∧
  (Ready s e k 0x06 r w → iM0 w = true → iImm w % 256 = 4 →
    Moves (.spr e k) s e { r with pc := r.pc + 1, crc := (r.sreg (iRa w)).setWidth 32 })

/-- Table 10.6, class V without a stream: the lanes VADD, VMUL, VFMA, VSCALE by a scalar, VMAX, VMOV, BMSK and SADD write,
and the CRC VCRC leaves; an FMT of 0 is FP32 and one of 7 INT32. Model: notes/assumptions/54.md, 55.md, 56.md. -/
def Obligations.VectorInstructionsWriteTheirLanes : Prop := ∀ (e : Fin 64) (k : Fin 16) (s : State) (r : Run) (w : W64),
  let a := r.acc (iRa w)
  let b := r.acc (iRb w)
  let c := r.acc (iRc w)
  (Ready s e k 0x40 r w → iFmt w = 0 → a.kind = .f → b.kind = .f → WritesLanes (.vadd e k) s e r w .f 0xFF (fun i =>
    united (fadd r.convInf (a.lane i).1 (b.lane i).1) (a.lane i).2 (b.lane i).2)) ∧
  (Ready s e k 0x40 r w → iFmt w = 7 → a.kind ≠ .f → b.kind ≠ .f → WritesLanes (.vadd e k) s e r w .i32 0xFF (fun i =>
    united (iadd (a.lane i).1 (b.lane i).1) (a.lane i).2 (b.lane i).2)) ∧
  (Ready s e k 0x41 r w → iFmt w = 0 → a.kind = .f → b.kind = .f → WritesLanes (.vmul e k) s e r w .f 0xFF (fun i =>
    united (fmul r.convInf (a.lane i).1 (b.lane i).1) (a.lane i).2 (b.lane i).2)) ∧
  (Ready s e k 0x41 r w → iFmt w = 7 → a.kind = .i8 → b.kind = .i8 → WritesLanes (.vmul e k) s e r w .i32 0xFF (fun i =>
    united (imac (a.lane i).1 (b.lane i).1 0) (a.lane i).2 (b.lane i).2)) ∧
  (Ready s e k 0x42 r w → iFmt w = 0 → a.kind = .f → b.kind = .f → c.kind = .f → WritesLanes (.vfma e k) s e r w .f 0xFF (fun i =>
    united (ffma r.convInf (a.lane i).1 (b.lane i).1 (c.lane i).1) ((a.lane i).2 ||| (b.lane i).2) (c.lane i).2)) ∧
  (Ready s e k 0x42 r w → iFmt w = 7 → a.kind = .i8 → b.kind = .i8 → c.kind ≠ .f → WritesLanes (.vfma e k) s e r w .i32 0xFF (fun i =>
    united (imac (a.lane i).1 (b.lane i).1 (c.lane i).1) ((a.lane i).2 ||| (b.lane i).2) (c.lane i).2)) ∧
  (Ready s e k 0x43 r w → iM0 w = false → a.kind = .f → WritesLanes (.vscale e k) s e r w .f 0xFF (fun i =>
    united (fmul r.convInf (a.lane i).1 ((r.sreg (iRb w)).setWidth 32)) (a.lane i).2 0)) ∧
  (Ready s e k 0x44 r w → iFmt w = 0 → a.kind = .f → b.kind = .f → WritesLanes (.vmax e k) s e r w .f 0xFF (fun i =>
    united (fmaximum (a.lane i).1 (b.lane i).1) (a.lane i).2 (b.lane i).2)) ∧
  (Ready s e k 0x44 r w → iFmt w = 7 → a.kind ≠ .f → b.kind ≠ .f → WritesLanes (.vmax e k) s e r w .i32 0xFF (fun i =>
    united (imaximum (a.lane i).1 (b.lane i).1, 0) (a.lane i).2 (b.lane i).2)) ∧
  (Ready s e k 0x45 r w → iM0 w = true → WritesLanes (.vmov e k) s e r w (if iFmt w = 0 then .f else .i32) 0xFF
    (fun _ => (BitVec.ofNat 32 (iImm w), 0))) ∧
  (Ready s e k 0x45 r w → iM0 w = false → (iFmt w = 0 ↔ a.kind = .f) → WritesLanes (.vmov e k) s e r w a.kind a.mask a.lane) ∧
  (Ready s e k 0x50 r w → iM0 w = false → WritesLanes (.bmsk e k) s e r w a.kind ((r.sreg (iRb w)).setWidth 8)
    (fun i => if (r.sreg (iRb w)).getLsbD (i / 64) ∧ i / 64 < 8 then a.lane i else (0, 0))) ∧
  (Ready s e k 0x50 r w → iM0 w = true → MovesCounting (.bmsk e k) s e { r with
    pc := r.pc + 1, s := r.s.set (iRd w) (a.mask.setWidth 64) }) ∧
  (Ready s e k 0x51 r w → iFmt w = 0 → a.kind = .f → b.kind = .f → WritesLanes (.sadd e k) s e r w .f (a.mask ||| b.mask) (fun i =>
    if a.mask.getLsbD (i / 64) then
      (if b.mask.getLsbD (i / 64) then united (fadd r.convInf (a.lane i).1 (b.lane i).1) (a.lane i).2 (b.lane i).2 else a.lane i)
    else if b.mask.getLsbD (i / 64) then b.lane i else (0, 0))) ∧
  (Ready s e k 0x51 r w → iFmt w = 7 → a.kind ≠ .f → b.kind ≠ .f → WritesLanes (.sadd e k) s e r w .i32 (a.mask ||| b.mask) (fun i =>
    if a.mask.getLsbD (i / 64) then
      (if b.mask.getLsbD (i / 64) then united (iadd (a.lane i).1 (b.lane i).1) (a.lane i).2 (b.lane i).2 else a.lane i)
    else if b.mask.getLsbD (i / 64) then b.lane i else (0, 0))) ∧
  (Ready s e k 0x70 r w → Moves (.vcrc e k) s e { r with
    pc := r.pc + 1
    crc := crc32cRun (r.crc ^^^ 0xFFFFFFFF) ((a.lanes.take r.vl).flatMap (fun v => leBytes 4 v.toNat)) ^^^ 0xFFFFFFFF })

/-- R250, R253, R254, Table 10.6, class M: the bytes an engine reads are those of local space, those of the store when fresh and free
of errors, or those of the tile-cache line that holds the row, and a write changes exactly its own bytes; what LDS, LDV and LDV.F
load, STV stores, DMA copies and VSCALE by a vector scales by, where the access is in bounds, aligned and meets no poison; an access to the store waits while a wipe runs (R286).
Model: notes/assumptions/17.md, 18.md, 51.md, 52.md, 56.md. -/
def Obligations.EngineMemoryIsReadAndWritten : Prop :=
  (∀ (e : Fin 64) (s : State) (off a n : Nat) (bs : List Byte),
    (Whole s → ∀ fresh, engRead e.val fresh (.loc off) n s = (some (cellRead 0 (s.engine e.val).loc off n), s)) ∧
    (s.flaws = [] → (granules a n).all (fun g => !s.poison.contains g) = true →
      ∃ t, engRead e.val true (.store a) n s = (some (cellRead 0 s.mem a n), t) ∧ t.mem = s.mem ∧ t.poison = s.poison ∧
        t.raised = s.raised ∧ SameRegs s.csr t.csr) ∧
    (∀ l, (s.engine e.val).tcache.find? (fun l => l.row == a / 512) = some l → 0 < n → a % 512 + n ≤ 512 →
      (granules (a % 512) n).any l.bad.contains = false → l.flaws = [] →
      ∃ t, engRead e.val false (.store a) n s = (some (slice l.bytes (a % 512) n), t) ∧ t.mem = s.mem ∧ t.raised = s.raised) ∧
    (Whole s → ∀ x, cellGet 0 ((engWrite e.val (.loc off) bs s).engine e.val).loc x =
      if off ≤ x ∧ x < off + bs.length then bs.getD (x - off) 0 else cellGet 0 (s.engine e.val).loc x) ∧
    (s.flaws = [] → (granules a bs.length).all (fun g => !s.poison.contains g) = true → ∀ x,
      cellGet 0 (engWrite e.val (.store a) bs s).mem x =
        if a ≤ x ∧ x < a + bs.length then bs.getD (x - a) 0 else cellGet 0 s.mem x)) ∧
  (∀ (e : Fin 64) (k : Fin 16) (s : State) (r : Run) (w : W64),
    let a := eaOf w r
    let fmt := iFmt w
    let size := fmtSize fmt
    let count := r.vl * size
    (∀ bs t, Ready s e k 0x13 r w → iM1 w = true → eaSpace a 8 ≠ .bad → a % 8 = 0 → storeWait s a = false →
      engRead e.val (iM0 w) (eaSpace a 8) 8 (issueM e.val s) = (some bs, t) →
      Does (.lds e k) s (Noted (putRun e.val { r with pc := r.pc + 1, s := r.s.set (iRd w) (BitVec.ofNat 64 (leNat bs)) } t))) ∧
    (∀ bs t, Ready s e k 0x13 r w → iM1 w = false → eaSpace a size ≠ .bad → a % size = 0 → storeWait s a = false →
      engRead e.val (iM0 w) (eaSpace a size) size (issueM e.val s) = (some bs, t) →
      ∃ u, exec (.lds e k) s = .next (putRun e.val { r with pc := r.pc + 1, s := r.s.set (iRd w) (loadedScalar fmt (leNat bs)) } u) ∧
        CountsOnly t u) ∧
    (∀ (fresh : Bool) bs t, Ready s e k (if fresh then 0x21 else 0x20) r w → eaSpace a count ≠ .bad → a % 16 = 0 → storeWait s a = false →
      engRead e.val fresh (eaSpace a count) count (issueM e.val s) = (some bs, t) →
      ∃ u acc, exec (if fresh then .ldvF e k else .ldv e k) s = .next (putRun e.val { r with
          pc := r.pc + 1, a := r.a.set (iRd w) acc } u) ∧
        CountsOnly t u ∧ acc.kind = loadKind fmt ∧ acc.mask = 0xFF ∧
        (∀ i, i < (elemsOf fmt bs).length → i < (r.acc (iRd w)).lanes.length →
          acc.lanes.getD i 0 = (fmtWiden fmt ((elemsOf fmt bs).getD i 0)).1) ∧
        (∀ i, (elemsOf fmt bs).length ≤ i → acc.lanes.getD i 0 = (r.acc (iRd w)).lanes.getD i 0)) ∧
    (Ready s e k 0x22 r w → kindOk fmt (r.acc (iRb w)) = true → eaSpace a count ≠ .bad → a % 16 = 0 → storeWait s a = false →
      ∃ u r', exec (.stv e k) s = .next (putRun e.val r' (engWrite e.val (eaSpace a count)
          ((List.range r.vl).flatMap (fun i => leBytes size (fmtNarrow fmt r.convInf ((r.acc (iRb w)).lane i).1).1)) u)) ∧
        CountsOnly s u ∧ r'.pc = r.pc + 1 ∧ r' = { r with pc := r'.pc, flags := r'.flags, first := r'.first }) ∧
    (∀ bs t, Ready s e k 0x23 r w →
      let src := (r.sreg (iRa w)).toNat
      let dst := (r.sreg (iRb w)).toNat
      let n := (r.sreg (iRc w)).toNat
      1 ≤ n → n ≤ 1048576 → n % 16 = 0 → dmaPair (eaSpace src n) (eaSpace dst n) = true → src % 16 = 0 → dst % 16 = 0 →
      r.dmas.length < 8 → s.wiping = false → engRead e.val true (eaSpace src n) n (issueM e.val s) = (some bs, t) →
      Does (.dma e k) s (Noted (putRun e.val { r with pc := r.pc + 1, dmas := r.dmas ++ [⟨src, dst, n⟩] }
        (engWrite e.val (eaSpace dst n) bs t)))) ∧
    (Ready s e k 0x22 r w → kindOk fmt (r.acc (iRb w)) = true → eaSpace a count ≠ .bad → a % 16 = 0 → storeWait s a = true →
      exec (.stv e k) s = .next s) ∧
    (∀ bs t, Ready s e k 0x43 r w → iM0 w = true → (r.acc (iRa w)).kind = .f →
      let f := ((r.sreg (iRb w)).toNat + iImm w) % 2 ^ 64
      eaSpace f count ≠ .bad → f % 16 = 0 → storeWait s f = false →
      engRead e.val (iM1 w) (eaSpace f count) count (issueV e.val (issueM e.val s)) = (some bs, t) →
      ∃ u acc, exec (.vscale e k) s = .next (putRun e.val { r with
          pc := r.pc + 1, a := r.a.set (iRd w) acc } u) ∧ CountsOnly t u ∧ acc.kind = .f ∧ acc.mask = 0xFF ∧
        (∀ i, i < r.vl → i < (elemsOf fmt bs).length → i < (r.acc (iRd w)).lanes.length → acc.lanes.getD i 0 =
          (fmul r.convInf ((r.acc (iRa w)).lane i).1 (fmtWiden fmt ((elemsOf fmt bs).getD i 0)).1).1)))

namespace Sys2Proof.Claims

/-- The milestone WAITM and MADD name. -/
def namedMilestone (w : W64) (r : Run) : Nat := if iM0 w then (r.sreg (iRa w)).toNat % 2 ^ 16 else iImm w % 2 ^ 16

/-- The milestones of `s` with `m` at `v`. -/
def MilestonesWith (s u : State) (m : Nat) (v : W64) : Prop := ∀ j, msValue u j = if j = m then v else msValue s j

/-- The run after it has taken record `x` of node `node` from its input stream. -/
def taken (r : Run) (x : Rec) (node : Nat) : Run :=
  { r with
    vl := x.lanes, ebase := BitVec.ofNat 32 x.elem, last := r.last || x.last_
    sum := if x.ends then r.sum + 1 else r.sum
    operand := if x.ends then 0 else r.operand + 1
    unans := if x.ends then r.unans ++ [(node, BitVec.ofNat 32 x.elem, x.lanes)] else r.unans }

/-- Lanes of a value list padded with zeros to 512. -/
def padded {α : Type} [OfNat α 0] (l : List α) : List α := l ++ List.replicate (512 - l.length) 0

/-- Program exceptions that a run's next word raises before its operands are read: run off the end, or an illegal word. -/
def wordExc (s : State) (e : Fin 64) (r : Run) : Option Nat :=
  if r.pc ≥ progLen s e.val r.pid then some 7
  else if (opRow (progWord s e.val r.pid r.pc)).isNone then some 1 else none

end Sys2Proof.Claims

/-- R259, R260, Table 10.6, class S: RECV, SEND, RADD.FWD and GFMA.SEND on the streams of a reduction run.
Model: notes/assumptions/40.md, 51.md. -/
def Obligations.StreamInstructionsTakeAndSendRecords : Prop := ∀ (e : Fin 64) (k : Fin 16) (s : State) (r : Run) (w : W64),
  (∀ x node c, Ready s e k 0x30 r w → takeRec s e.val (iRc w) r = .got x node c → Moves (.recv e k) s e { taken r x node with
    pc := r.pc + 1
    s := r.s.set (iRb w) x.tag
    a := r.a.set (iRd w) ⟨if x.int then .i32 else .f, x.mask, padded (x.vals.map Prod.fst), padded (x.vals.map Prod.snd)⟩ }) ∧
  (Ready s e k 0x30 r w → takeRec s e.val (iRc w) r = .wait → exec (.recv e k) s = .next s) ∧
  (∀ g q idx node elem lanes rest c, Ready s e k 0x31 r w → r.origin = .reduction g q idx → r.unans = (node, elem, lanes) :: rest →
    iRc w = 0 → (r.sreg (iRb w)).toNat % 2 ^ 32 = elem.toNat → (r.sreg (iRb w)).toNat / 2 ^ 32 % 2 ^ 9 + 1 = lanes → r.vl = lanes →
    findColl s g q = some c →
    ∃ r' u, exec (.send e k) s = .next u ∧ Noted (putRun e.val r' (putColl { c with sums := c.sums ++
        [⟨e.val, elem.toNat, node, (r.acc (iRa w)).lanes.take r.vl, (r.acc (iRa w)).flags.take r.vl, (r.acc (iRa w)).mask⟩] } s)) u ∧
      r' = { r with pc := r.pc + 1, unans := rest, flags := r.flags ||| orFlags ((r.acc (iRa w)).flags.take r.vl), first := r'.first }) ∧
  (∀ x node c, Ready s e k 0x32 r w → takeRec s e.val (iRb w) r = .got x node c → (iFmt w = 0 ↔ (r.acc (iRa w)).kind = .f) →
    (x.int = false ↔ iFmt w = 0) → (iM0 w && x.ends && !(iM1 w && x.final)) = false →
    ∃ u acc, exec (.raddFwd e k) s = .next (putRun e.val { taken r x node with
        pc := r.pc + 1, s := r.s.set (iImm w % 16) x.tag, a := r.a.set (iRd w) acc } u) ∧
      CountsOnly s u ∧ acc.kind = (if iFmt w = 0 then .f else .i32) ∧ acc.mask = 0xFF ∧
      ∀ i, i < x.lanes → i < (r.acc (iRd w)).lanes.length → acc.lanes.getD i 0 =
        (accAdd (iFmt w == 0) r.convInf ((r.acc (iRa w)).lane i).1 ((x.vals.map Prod.fst).getD i 0)).1) ∧
  (Ready s e k 0x33 r w → iM0 w = false → iM1 w = true → (r.acc (iRa w)).kind = .f → (r.acc (iRd w)).kind = .f →
    WritesLanes (.gfmaSend e k) s e r w .f 0xFF (fun i =>
      united (fmul r.convInf ((r.sreg (iRb w)).setWidth 32) ((r.acc (iRa w)).lane i).1) ((r.acc (iRa w)).lane i).2 0)) ∧
  (Ready s e k 0x33 r w → iM0 w = false → iM1 w = false → (r.acc (iRa w)).kind = .f → (r.acc (iRd w)).kind = .f →
    WritesLanes (.gfmaSend e k) s e r w .f 0xFF (fun i =>
      united (ffma r.convInf ((r.sreg (iRb w)).setWidth 32) ((r.acc (iRa w)).lane i).1 ((r.acc (iRd w)).lane i).1)
        ((r.acc (iRa w)).lane i).2 ((r.acc (iRd w)).lane i).2))

/-- R247, R249, R254, R255, R264, R265, R291, R303 to R305: how runs begin, wait, resume, fence, update milestones, and end. A queued run
whose program is not VALID, and a register-started one whose PID is below 128, raises NOPROG in the slot it is released to.
Model: notes/assumptions/52.md, 53.md. -/
def Obligations.RunsBeginWaitAndEnd : Prop := ∀ (e : Fin 64) (k : Fin 16) (s : State) (r : Run) (w : W64),
  (∀ q rest slot, coreOn s = true → present s e.val = true → (s.engine e.val).queue = q :: rest →
    freeSlot (s.engine e.val) = some slot → q.origin ≠ .register → (q.pid < 128 ∨ progValid s e.val q.pid = true) →
    exec (.runBegin e) s = .next (s.modEngine e.val (fun x => Engine.refill { x with queue := rest, runs := x.runs ++
      [⟨slot, q.pid, q.origin, 0, q.args ++ List.replicate 12 0, List.replicate 8 (Acc.clear q.floating), 512, 0, 0, 0, 0xFFFFFFFF,
        q.convInf, none, false, s.aclk, [], 0, 0, [], false⟩] }))) ∧
  (∀ q rest slot, coreOn s = true → present s e.val = true → (s.engine e.val).queue = q :: rest →
    freeSlot (s.engine e.val) = some slot → q.origin = .register → 128 ≤ q.pid → progValid s e.val q.pid = true →
    ∃ t, exec (.runBegin e) s = .next t ∧ t.field (jBase e.val + 0x24) 2 0 = 2 ∧
      (t.engine e.val).queue = rest ++ (s.engine e.val).heldRuns.take (32 - rest.length) ∧
      findRun t e.val slot = some ⟨slot, q.pid, .register, 0, q.args ++ List.replicate 12 0,
        List.replicate 8 (Acc.clear q.floating), 512, 0, 0, 0, 0xFFFFFFFF, convInfNow s, none, false, s.aclk, [], 0, 0, [], false⟩) ∧
  (∀ q rest slot, coreOn s = true → present s e.val = true → (s.engine e.val).queue = q :: rest →
    freeSlot (s.engine e.val) = some slot → q.origin = .register → (q.pid < 128 ∨ progValid s e.val q.pid = false) →
    Does (.runBegin e) s (fun u => findRun u e.val slot = none ∧ u.field (jBase e.val + 0x24) 2 0 = 4 ∧
      u.field (jBase e.val + 0x24) 11 8 = 9 ∧ u.field (jBase e.val + 0x70) 3 0 = 9 ∧ u.field (jBase e.val + 0x70) 7 4 = slot ∧
      (u.engine e.val).queue = rest ++ (s.engine e.val).heldRuns.take (32 - rest.length) ∧
      (u.reg (blkFlt (jBlk e.val))).getLsbD 35 = true ∧ u.mem = s.mem ∧ u.milestones = s.milestones)) ∧
  (∀ q rest slot, coreOn s = true → present s e.val = true → (s.engine e.val).queue = q :: rest →
    freeSlot (s.engine e.val) = some slot → q.origin ≠ .register → 128 ≤ q.pid → progValid s e.val q.pid = false →
    ∃ v x, exec (.runBegin e) s = .next (progExc e.val 9 x v) ∧ x.slot = slot ∧ x.pid = q.pid ∧ x.origin = q.origin ∧ x.pc = 0 ∧
      v.mem = s.mem ∧ v.csr = s.csr ∧ v.colls = s.colls) ∧
  (Ready s e k 0x01 r w → r.origin = .register → r.dmas = [] → Does (.halt e k) s (fun u =>
    findRun u e.val k.val = none ∧ (u.engine e.val).doneWait = true ∧ u.field (jBase e.val + 0x24) 2 0 = 2 ∧
      (∀ i, i < 4 → u.reg (jBase e.val + 0x50 + 8 * i) = r.sreg i) ∧ u.mem = s.mem ∧ u.milestones = s.milestones)) ∧
  (Ready s e k 0x01 r w → r.dmas = [] → (∀ g q i, r.origin = .reduction g q i → r.unans = [] ∧ r.last = true) →
    Does (.halt e k) s (fun u => findRun u e.val k.val = none ∧ u.mem = s.mem ∧ u.milestones = s.milestones)) ∧
  (Ready s e k 0x01 r w → (∀ g q i, r.origin ≠ .reduction g q i) → r.dmas ≠ [] → exec (.halt e k) s = .next s) ∧
  (Ready s e k 0x05 r w → MovesCounting (.waitm e k) s e { r with
    wait := some (namedMilestone w r, r.sreg (iRb w)), waitMet := decide (r.sreg (iRb w) ≤ msValue s (namedMilestone w r)) }) ∧
  (coreOn s = true → findRun s e.val k.val = some r → r.wait.isSome = true → r.waitMet = true →
    Moves (.waitmResume e k) s e { r with pc := r.pc + 1, wait := none, waitMet := false }) ∧
  (coreOn s = true → findRun s e.val k.val = some r →
    Moves (.dmaComplete e k) s e { r with dmas := r.dmas.drop 1 }) ∧
  (Ready s e k 0x60 r w → r.dmas = [] → ∃ u v, CountsOnly s u ∧ exec (.fenceAcq e k) s = .next v ∧ Noted (putRun e.val { r with
    pc := r.pc + 1 } (u.modEngine e.val (fun x => { x with tcache := [] }))) v) ∧
  (Ready s e k 0x62 r w → r.dmas = [] → Does (.madd e k) s (fun u =>
    MilestonesWith s u (namedMilestone w r) (msValue s (namedMilestone w r) + r.sreg (iRb w)) ∧ u.mem = s.mem)) ∧
  (coreOn s = true → Whole s → (s.engine e.val).doneWait = true → s.field (jBase e.val + 0x20) 9 9 = 1 → Does (.runDone e) s (fun u =>
    (u.engine e.val).doneWait = false ∧ u.mem = s.mem ∧
      MilestonesWith s u (s.field (jBase e.val + 0x20) 31 16) (msValue s (s.field (jBase e.val + 0x20) 31 16) + 1))) ∧
  (coreOn s = true → (s.engine e.val).doneWait = true → s.field (jBase e.val + 0x20) 9 9 = 0 → Does (.runDone e) s (fun u =>
    (u.engine e.val).doneWait = false ∧ u.field (jBase e.val + 0x24) 2 0 = 3 ∧ u.mem = s.mem ∧ u.milestones = s.milestones)) ∧
  (coreOn s = true → findRun s e.val k.val = some r → 128 ≤ r.pid → s.field (jBase e.val) 19 0 ≠ 0 →
    exec (.runWatchdog e k) s = .next (progExc e.val 8 r s))

/-- R252, R257, R265: whatever command comes, a run whose next word lies past its program's end raises PCRANGE, and one whose opcode
is not listed raises ILLEGAL; a program exception of a register-started run frees its slot, records the exception in J_EXC_LAST
and J_RUN_STATUS, and sets the sticky bit of JE_PROG; the store and the milestones stay. Model: notes/assumptions/51.md. -/
def Obligations.BadWordsEndTheirRun : Prop :=
  (∀ (e : Fin 64) (k : Fin 16) (s : State) (r : Run) (x : Nat) (c : Instr),
    c ∈ engineInstrs e k → coreOn s = true → Whole s → present s e.val = true → findRun s e.val k.val = some r → 128 ≤ r.pid → r.wait = none →
    wordExc s e r = some x → exec c s = .next (progExc e.val x r s)) ∧
  (∀ (e : Fin 64) (x : Nat) (r : Run) (s : State),
    r.origin = .register → x < 16 → r.slot < 16 → r.pid < 256 → r.pc < 2 ^ 13 →
    let u := progExc e.val x r s
    findRun u e.val r.slot = none ∧ u.field (jBase e.val + 0x70) 3 0 = x ∧ u.field (jBase e.val + 0x70) 7 4 = r.slot ∧
      u.field (jBase e.val + 0x70) 15 8 = r.pid ∧ u.field (jBase e.val + 0x70) 28 16 = r.pc ∧
      u.field (jBase e.val + 0x24) 2 0 = 4 ∧ u.field (jBase e.val + 0x24) 11 8 = x ∧
      (u.reg (blkFlt (jBlk e.val))).getLsbD 35 = true ∧ u.mem = s.mem ∧ u.milestones = s.milestones)

/-- R172, R263, R265: starting a run by register, loading and unloading a program, and clearing the exception counters: a
count that is cleared holds what was counted in the same CCLK cycle (`excNow`), and one that is not keeps its value. -/
def Obligations.EngineRegistersStartLoadAndClear : Prop := ∀ (e : Fin 64) (s : State) (p : BitVec 8) (v : W32),
  (held s = false → present s e.val = true → (s.engine e.val).dis = .enabled → s.field (jBase e.val + 0x24) 2 0 ≠ 1 →
    s.field (jBase e.val + 0x24) 2 0 ≠ 2 → BusFree s (jBase e.val + 0x20) → ∃ t, exec (.runStart e v) s = .next t ∧
      t.field (jBase e.val + 0x24) 2 0 = 1 ∧ t.reg (jBase e.val + 0x28) = 0xFFFFFFFF ∧
      (t.engine e.val).queue ++ (t.engine e.val).heldRuns = (s.engine e.val).queue ++ (s.engine e.val).heldRuns ++ [⟨v.toNat % 256, .register,
        (List.range 4).map (fun i => s.reg (jBase e.val + 0x30 + 8 * i)), true, false⟩] ∧ t.mem = s.mem) ∧
  (held s = false → present s e.val = true → (s.field (jBase e.val + 0x24) 2 0 = 1 ∨ s.field (jBase e.val + 0x24) 2 0 = 2) →
    BusFree s (jBase e.val + 0x20) → ∃ t, exec (.runStart e v) s = .next t ∧ t.field (jBase e.val + 0x24) 3 3 = 1 ∧ t.engines = s.engines) ∧
  (held s = false → present s e.val = true → BusFree s (jBase e.val + 0x18) →
    loadReason s e.val p.toNat (s.reg (jBase e.val + 0x10)) = 0 → ∃ t, exec (.programLoad e p) s = .next t ∧
      t.reg (jBase e.val + 0x1C) = 4 ∧ (t.engine e.val).loading = some (p.toNat, s.reg (jBase e.val + 0x10))) ∧
  (∀ q w, coreOn s = true → present s e.val = true → (s.engine e.val).loading = some (q, w) → 128 ≤ q → s.busHeld = [] →
    Whole s →
    (crc32c (((List.range (w.toNat / 2 ^ 13 % 2 ^ 14)).map (fun i =>
      s.regN (jBase e.val + 0x10000 + (w.toNat % 2 ^ 13 + i) * 8))).flatMap (leBytes 8))).toNat = w.toNat / 2 ^ 32 →
    ∃ t, exec (.programLoadEnd e) s = .next t ∧ t.reg (jBase e.val + 0x1C) = 1 ∧ progValid t e.val q = true ∧
      (t.engine e.val).loading = none) ∧
  (held s = false → present s e.val = true → BusFree s (jBase e.val + 0x18) → progInUse s e.val p.toNat = false →
    progValid s e.val p.toNat = true → ∃ t, exec (.programUnload e p) s = .next t ∧
      t.reg (jBase e.val + 0x1C) = 1 ∧ progValid t e.val p.toNat = false) ∧
  (held s = false → present s e.val = true → BusFree s (jBase e.val + 0x3F18) → ∃ t, exec (.jExcClr e v) s = .next t ∧
    ∀ i, i < 3 → t.reg (jBase e.val + 0x3F00 + 8 * i) = 
      if v.getLsbD i then BitVec.ofNat 64 (tabOr s.excNow (jBase e.val + 0x3F00 + 8 * i) 0) else s.reg (jBase e.val + 0x3F00 + 8 * i)) ∧
  (held s = false → ∃ t, exec (.tscExcClr v) s = .next t ∧
    ∀ i, i < 3 → t.reg (0x6000F00 + 8 * i) = 
      if v.getLsbD i then BitVec.ofNat 64 (tabOr s.excNow (0x6000F00 + 8 * i) 0) else s.reg (0x6000F00 + 8 * i))

/-! ## Service packets, milestones, the store and the pools -/

namespace Sys2Proof.Claims

/-- A packet at port `n` that passes every check of Table 2.12 and reaches its service block as `q`, with the state `t` it finds
there; no memory but the store holds an error, and a store command does not wait for a wipe. -/
def Taken (s : State) (n : Fin 64) (p q : Packet) (t : State) : Prop :=
  canArrive s n.val p = true ∧ Whole s ∧ ∃ q0 hop t0, ingress n.val p s = (.service q0 hop, t0) ∧ check11 q0 = true ∧
    (s.wiping = true → usesStore q0 = false) ∧ q = known q0 ∧
    t = sinkOverrun (serviceBlk q0.typ) n.val hop q0 (cross (quadOf n.val) (serviceQuad q0) 1 t0)

/-- Message accounting takes the packet in (R52 to R55): it is no repeat, fits its context, and has a place. -/
abbrev Counted (b : Blk) (n : Fin 64) (q : Packet) (t : State) : Prop :=
  ∃ c first complete t', msgArrive b n.val q t = (.counted c first complete, t')

/-- The granules of `[a, a + n)` hold no error. -/
abbrev Clean (s : State) (a n : Nat) : Prop := ∀ g ∈ granules a n, s.poison.contains g = false ∧ tabGet s.flaws g = none

/-- The waits of `s` without those that milestone `m` at `v` meets. -/
def unmet (s : State) (m : Nat) (v : W64) : List FWait := s.waits.filter (fun w => !(w.ms == m && decide (w.thr ≤ v)))

/-- How many waits milestone `m` at `v` meets. -/
def metCount (s : State) (m : Nat) (v : W64) : Nat := (s.waits.filter (fun w => w.ms == m && decide (w.thr ≤ v))).length

/-- Milestone `m` takes `v`: its waits are answered, one message each, besides `own` answers, and the store stays. -/
def TakesValue (s u : State) (m : Nat) (v : W64) (own : Nat) : Prop :=
  MilestonesWith s u m v ∧ u.waits = unmet s m v ∧ u.msgCtr = s.msgCtr + BitVec.ofNat 32 (own + metCount s m v) ∧
    u.mem = s.mem ∧ u.poison = s.poison

/-- The bytes of elements converted from format `a` to `b`. -/
def converted (a b : Nat) (convInf : Bool) (bs : List Byte) : List Byte :=
  elemBytes b ((elemsOf a bs).map (fun x => (fmtConv a b convInf x).1))

end Sys2Proof.Claims

/-- R302 to R307, R275, R277: the value a milestone has after ADD, SET, a store command's update and a register write, with
the waits it meets; a register write is performed last in its cycle, and a read in the same cycle sees it; and a WAIT answered, held or dropped. -/
def Obligations.MilestonesTakeTheirValues : Prop := ∀ (s : State) (n : Fin 64) (p q : Packet) (t : State) (m : BitVec 16) (v : W64)
    (src msgId : W32),
  (Taken s n p q t → Counted .msu n q t → q.typ = 0x20 → moOp q = 0 → q.ssvc = false → Does (.milestoneAdd n p) s (fun u =>
    TakesValue s u (moMs q) (msValue s (moMs q) + moValue q) (b2n (moNtfy q)))) ∧
  (Taken s n p q t → Counted .msu n q t → q.typ = 0x20 → moOp q = 1 → q.ssvc = false → Does (.milestoneSet n p) s (fun u =>
    TakesValue s u (moMs q) (moValue q) (b2n (moNtfy q)))) ∧
  (Taken s n p q t → Counted .msu n q t → q.typ = 0x20 → moOp q = 2 → q.ssvc = false → moValue q ≤ msValue s (moMs q) →
    Does (.milestoneWait n p) s (fun u => u.milestones = s.milestones ∧ u.waits = s.waits ∧ u.msgCtr = s.msgCtr + 1 ∧ u.mem = s.mem)) ∧
  (Taken s n p q t → Counted .msu n q t → q.typ = 0x20 → moOp q = 2 → q.ssvc = false → msValue s (moMs q) < moValue q →
    (s.waits.filter (fun w => msHome w.ms == msHome (moMs q))).length < 4096 →
    Does (.milestoneWait n p) s (fun u => u.milestones = s.milestones ∧ u.msgCtr = s.msgCtr ∧ u.mem = s.mem ∧
      u.waits = s.waits ++ [⟨moMs q, moValue q, BitVec.ofNat 32 q.src, moTag q, q.tc, n.val⟩])) ∧
  (Taken s n p q t → Counted .msu n q t → q.typ = 0x20 → moOp q = 2 → q.ssvc = false → msValue s (moMs q) < moValue q →
    4096 ≤ (s.waits.filter (fun w => msHome w.ms == msHome (moMs q))).length →
    Does (.milestoneWait n p) s (fun u => u.milestones = s.milestones ∧ u.waits = s.waits ∧ u.msgCtr = s.msgCtr ∧
      (u.reg (blkFlt .msu)).getLsbD 36 = true)) ∧
  (∀ r, coreOn s = true → Whole s → s.releases.find? (fun r => r.src == src && r.msgId == msgId && r.stage == .inFlight) = some r →
    r.msen = true → Does (.milestoneUpdate src msgId) s (fun u =>
      u.releases = s.releases.erase r ∧ TakesValue s u r.ms (msValue s r.ms + r.val.setWidth 64) (b2n r.ntfy))) ∧
  (∀ r, coreOn s = true → Whole s → s.releases.find? (fun r => r.src == src && r.msgId == msgId && r.stage == .inFlight) = some r →
    r.msen = false → Does (.milestoneUpdate src msgId) s (fun u => u.releases = s.releases.erase r ∧ u.milestones = s.milestones ∧
      u.waits = s.waits ∧ u.msgCtr = s.msgCtr + 1 ∧ u.mem = s.mem)) ∧
  (coreOn s = true → Does (.msuValWrite m v) s (fun u => msuSeen u m.toNat = v ∧ u.milestones = s.milestones ∧ u.waits = s.waits)) ∧
  (Whole s → s.msuLast = [(m.toNat, v)] → TakesValue s (msuWrites s) m.toNat v 0) ∧
  (held s = false → s.now % 2 = 0 → s.raised = [] → s.waits = [] → Whole s → s.msuLast = [(m.toNat, v)] →
    msValue (tick s) m.toNat = v ∧ (tick s).msuLast = [])

/-- R273, R275, R277, R283, R285: what a packet of a STORE_WRITE leaves in the store when it keeps to Table 11.3 and meets no error,
every other byte staying; what a complete one owes, and how that becomes an update on its way; a scrub read corrects the
error of one symbol it finds and poisons one that is detected, leaving the bytes, and what passes as correct data spoils them, and waits while a wipe runs (R286); a refresh changes counters only.
Model: notes/assumptions/2.md, 17.md, 18.md, 68.md. -/
def Obligations.StoreHoldsWhatIsWritten : Prop :=
  (∀ (s : State) (first count g : Nat) (e : Flaw) (ch : Fin 192),
    (coreOn s = true → s.wiping = false → s.field 0x6000010 7 0 ≠ 0 → s.flaws = [] → s.poison.contains g = false → first ≤ g → g < first + count →
      16 * g < storeEnd → Does (.scrubStep first count ⟨[(g, e)], []⟩) s (fun u => u.flaws = [] ∧
        u.mem = (match flawClass e with | .missed r => cellXor s.mem (16 * g) r | _ => s.mem) ∧
        u.poison = (if flawClass e = .detected then s.poison ++ [g] else s.poison))) ∧
    (s.wiping = true → exec (.scrubStep first count ⟨[(g, e)], []⟩) s = .next s) ∧
    (coreOn s = true → ∃ u, exec (.refresh ch) s = .next u ∧ CountsOnly s u)) ∧
  (∀ (s : State) (n : Fin 64) (p q : Packet) (t t' : State) (c : MsgCtx)
      (first complete : Bool) (src msgId : W32),
    (Taken s n p q t → q.typ = 0x01 → msgArrive .tsc n.val q t = (.counted c first complete, t') → rwRow t' q = 0 → scRows q = 0 →
      let a := scAddr q + scElem q * fmtSize (scM q)
      let len := q.paylen / fmtSize (scW q) * fmtSize (scM q)
      let out := (converted (scW q) (scM q) c.convInf q.data).take len
      Clean s a len → Does (.storeWrite n p) s (fun u =>
        (∀ x, cellGet 0 u.mem x = if a ≤ x ∧ x < a + out.length then out.getD (x - a) 0 else cellGet 0 s.mem x) ∧
          u.milestones = s.milestones ∧ u.waits = s.waits ∧
          u.releases = s.releases ++ (if complete ∧ c.bad = false ∧ (scMsen ⟨c.hdr, []⟩ || scNtfy ⟨c.hdr, []⟩) then
            let h : Packet := ⟨c.hdr, []⟩
            [⟨BitVec.ofNat 32 h.src, BitVec.ofNat 32 h.msgId, .awaitEnd, scMs h, BitVec.ofNat 32 (scMsval h), scMsen h, scNtfy h, h.tc, c.port⟩]
            else []))) ∧
    (Taken s n p q t → q.typ = 0x01 → msgArrive .tsc n.val q t = (.counted c first complete, t') → rwRow t' q = 0 → scRows q ≠ 0 →
      Does (.storeWrite n p) s (fun u => ∃ v, v.mem = s.mem ∧ v.poison = s.poison ∧ v.flaws = s.flaws ∧
        u.mem = (writeSpans (tileSpans (q.paylen / fmtSize (scW q) + 1) (scAddr q) (scStride q) (512 / fmtSize (scM q)) (fmtSize (scM q))
          (scElem q) (q.paylen / fmtSize (scW q))) (converted (scW q) (scM q) c.convInf q.data) v).mem ∧ u.milestones = s.milestones)) ∧
    (Taken s n p q t → q.typ = 0x01 → msgArrive .tsc n.val q t = (.counted c first complete, t') → rwRow t' q = 3 →
      Does (.storeWrite n p) s (fun u => u.mem = s.mem ∧ u.poison = s.poison ∧ u.releases = s.releases ∧
        (u.reg (blkFlt .tsc)).getLsbD 21 = true)) ∧
    (coreOn s = true → exec (.storeWriteEnd src msgId) s = .next { s with releases := s.releases.map (fun r =>
      if r.src = src ∧ r.msgId = msgId ∧ r.stage = .awaitEnd then { r with stage := .inFlight } else r) }) ∧
    (coreOn s = true → exec (.readResponseHanded src msgId) s = .next { s with releases := s.releases.map (fun r =>
      if r.src = src ∧ r.msgId = msgId ∧ r.stage = .awaitHanded then { r with stage := .inFlight } else r) }))

/-- R276, R278 to R280: the response a STORE_READ, GATHER and GATHER_SUM answers with, where it fits one packet and the bytes
read hold no error, and holding SRAM has room for its window (R118): its payload is the elements read, converted, or for a GATHER_SUM their sum in ascending index.
Model: notes/assumptions/17.md, 18.md, 59.md. -/
def Obligations.StoreReadsAnswerWithTheirElements : Prop := ∀ (s : State) (n : Fin 64) (p q : Packet) (t t' : State) (c : MsgCtx)
    (first : Bool),
  let w := scW q
  let m := scM q
  let ms := fmtSize m
  let cv := c.convInf
  let room := windowRoom t' (q.msgId % 4) = true
  let fresh := findResp s (BitVec.ofNat 32 q.src) (BitVec.ofNat 32 q.msgId) = none
  let answer := fun (quad : Nat) (pay : List Byte) (u : State) => ∃ v, v.mem = s.mem ∧ v.milestones = s.milestones ∧ v.releases = s.releases ∧
    v.msgCtr = s.msgCtr + 1 ∧ u = addRelease c.port q .awaitHanded (originateFrom (q.msgId % 4) quad (mkPacket 0x03 q.tc q.src false s.msgCtr 0 1 pay
      [(256, 32, q.msgId), (288, 8, 0), (296, 4, w), (320, 32, 0)]) v)
  (Taken s n p q t → q.typ = 0x02 → msgArrive .tsc n.val q t = (.counted c first true, t') → rwRow t' q = 0 → scRows q = 0 →
    scElem q * fmtSize w ≤ 2048 → s.flaws = [] → Clean s (scAddr q) (scElem q * ms) → c.port = n.val → room →
    Does (.storeRead n p) s (answer (scAddr q / 512 % 4) (converted m w cv (cellRead 0 s.mem (scAddr q) (scElem q * ms))))) ∧
  (Taken s n p q t → q.typ = 0x04 → q.cnt = 1 → msgArrive .tsc n.val q t = (.counted c first true, t') → first = true → fresh → room → s.flaws = [] →
    let es := listEntries q (scStride q)
    gatherRow q = 0 → entriesRow t' [] es (scRows q) (scStride q) true = 0 → (es.foldl (fun l e => tabSet l e.1 e.2) ([] : Tab Nat)).length = scStride q →
    scStride q * (scRows q / ms) * fmtSize w ≤ 2048 → (∀ e ∈ es, Clean s e.2 (scRows q)) →
    Does (.gather n p) s (answer (tabOr (es.foldl (fun l e => tabSet l e.1 e.2) ([] : Tab Nat)) 0 0 / 512 % 4) (converted m w cv ((List.range (scStride q)).flatMap (fun i =>
      cellRead 0 s.mem (tabOr (es.foldl (fun l e => tabSet l e.1 e.2) ([] : Tab Nat)) i 0) (scRows q)))))) ∧
  (Taken s n p q t → q.typ = 0x05 → q.cnt = 1 → msgArrive .tsc n.val q t = (.counted c first true, t') → first = true → fresh → room → s.flaws = [] →
    let es := listEntries q (scStride q)
    let tab := es.foldl (fun l e => tabSet l e.1 e.2) ([] : Tab Nat)
    let row := fun a => (elemsOf m (cellRead 0 s.mem a (scRows q))).map (fun x => (fmtWiden m x).1)
    gatherRow q = 0 → entriesRow t' [] es (scRows q) (scStride q) true = 0 → tab.length = scStride q →
    scRows q / ms * fmtSize w ≤ 2048 → (∀ e ∈ es, Clean s e.2 (scRows q)) →
    ∀ a rest, tab.map Prod.snd = a :: rest → Does (.gatherSum n p) s (answer (q.msgId % 4) (converted 0 w cv (elemBytes 0
      ((rest.foldl (fun acc b => (acc.zip (row b)).map (fun x => (fadd cv x.1 x.2).1)) (row a)).map BitVec.toNat)))))

/-- R313 to R318, R321: what a buffer request changes in the table of buffers, and what RECONF and FORCE_FREE do. -/
def Obligations.PoolRequestsChangeTheBuffers : Prop := ∀ (s : State) (n : Fin 64) (p q : Packet) (t : State) (h : W32) (b : Buf),
  let src := BitVec.ofNat 32 q.src
  let asked := s.xsteps.any (fun x => x.batches.any (fun b => !b.given))
  let known := findBuf s (plHandle q) = some b ∧ tabGet s.bpm.flawed (bufKey b.pool b.quad b.index) = none ∧ b.owners.contains src = true
  (∀ k i, Taken s n p q t → Counted .bpm n q t → q.typ = 0x28 → q.ssvc = false → cwInside s (plCw q) = true → plSize q ≠ 0 →
    poolFor (plBack q) (plSize q) = some k →
    freeIndex s k (if plBack q then 0 else if finalHere s (plCw q) then quadOf (cwP (plCw q).toNat) else 1) = some i →
    Does (.poolAlloc n p) s (fun u => ∃ x, u.bpm.bufs = s.bpm.bufs ++ [x] ∧ x.pool = k ∧ x.index = i ∧ x.final = plCw q ∧
      x.owners = (if src = plCw q then [plCw q] else [plCw q, src]) ∧
      x.gen = (if tabOr s.bpm.gens (bufKey x.pool x.quad i) 1 ≥ 511 then 1 else tabOr s.bpm.gens (bufKey x.pool x.quad i) 1 + 1) ∧
      u.bpm.inForce = s.bpm.inForce ∧ u.msgCtr = s.msgCtr + 1 ∧ u.mem = s.mem ∧ u.milestones = s.milestones)) ∧
  (Taken s n p q t → Counted .bpm n q t → q.typ = 0x2A → q.ssvc = false → cwInside s (plCw q) = true → known → b.owners.contains (plCw q) = false →
    b.owners.length < 8 → Does (.poolShare n p) s (fun u =>
      u.bpm.bufs = s.bpm.bufs.map (fun x => if x = b then { b with owners := b.owners ++ [plCw q] } else x) ∧
      u.bpm.gens = s.bpm.gens ∧ u.msgCtr = s.msgCtr + 1 ∧ u.mem = s.mem)) ∧
  (Taken s n p q t → Counted .bpm n q t → q.typ = 0x2B → q.ssvc = false → known → src ≠ b.final → Does (.poolDrop n p) s (fun u =>
    u.bpm.bufs = s.bpm.bufs.map (fun x => if x = b then { b with owners := b.owners.filter (· != src) } else x) ∧
      u.bpm.gens = s.bpm.gens ∧ u.msgCtr = s.msgCtr + 1 ∧ u.mem = s.mem)) ∧
  (Taken s n p q t → Counted .bpm n q t → q.typ = 0x2B → q.ssvc = false → known → src = b.final → b.owners.length ≤ 1 →
    Does (.poolDrop n p) s (fun u => u.bpm.bufs = s.bpm.bufs.erase b ∧ u.bpm.gens = s.bpm.gens ∧ u.msgCtr = s.msgCtr + 1 ∧ u.mem = s.mem)) ∧
  (Taken s n p q t → Counted .bpm n q t → q.typ = 0x2C → q.ssvc = false → known → src = b.final → b.owners.length ≤ 1 →
    Does (.poolFree n p) s (fun u => u.bpm.bufs = s.bpm.bufs.erase b ∧ u.bpm.gens = s.bpm.gens ∧ u.msgCtr = s.msgCtr + 1 ∧ u.mem = s.mem)) ∧
  (Taken s n p q t → Counted .bpm n q t → q.typ = 0x2C → q.ssvc = false → known → (src ≠ b.final ∨ 1 < b.owners.length) →
    Does (.poolFree n p) s (fun u => u.bpm = s.bpm ∧ u.msgCtr = s.msgCtr + 1 ∧ u.mem = s.mem)) ∧
  (held s = false → findBuf s h = some b → tabGet s.bpm.flawed (bufKey b.pool b.quad b.index) = none →
    ∃ u, exec (.forceFree h) s = .next u ∧ u.bpm.bufs = s.bpm.bufs.erase b ∧ u.reg 0x7000074 = 1 ∧ u.mem = s.mem) ∧
  (held s = false → s.bpm.bufs = [] → asked = false → bpmLegal s (fun a => s.regN a) = true → ∃ u, exec .reconf s = .next u ∧
    u.reg 0x7000074 = 1 ∧ (∀ a ∈ bpmRegs, bpmCfg u a = s.regN a) ∧ u.bpm.bufs = [] ∧ u.mem = s.mem) ∧
  (held s = false → (s.bpm.bufs ≠ [] ∨ asked = true) → ∃ u, exec .reconf s = .next u ∧ u.reg 0x7000074 = 6 ∧ u.bpm = s.bpm)

/-! ## Lanes and links -/

namespace Sys2Proof.Claims

/-- Port `n` of `u` is `q`; besides it only registers, events and what was raised differ from `s`. -/
def PortBecomes (s u : State) (n : Fin 64) (q : Port) : Prop :=
  u.port n.val = q ∧ (∀ m, m < 64 → m ≠ n.val → u.port m = s.port m) ∧ u.mem = s.mem ∧ u.milestones = s.milestones ∧ u.colls = s.colls ∧
    u.engines = s.engines

/-- EQUALISE does not end: the port is not in it, or some locked lane is not ready at both ends (R71). -/
def keepsEqualising (q : Port) : Bool :=
  q.link != .equalise || (q.rx.filter (fun l => l.locked)).isEmpty ||
    (q.rx.filter (fun l => l.locked)).any (fun l => !(l.ready && q.farLaneOk.getLsbD l.farLane))

/-- Lane training frames are exchanged. -/
def trains (q : Port) : Bool := q.link == .detect || q.link == .equalise || q.link == .align

/-- A LINK_CTRL of subtype `sub` at port `n` passes its checks and is acted on in state `t`. -/
abbrev Heard (s : State) (n : Fin 64) (sub : Nat) (p : Packet) (t : State) : Prop := linkCtrlIn n.val sub p s = (true, t)

/-- One packet more waits to leave port `n` ahead of every other, of type `typ`, and whose byte 32 is `b`. -/
def QueuesLinkLocal (s u : State) (n : Fin 64) (typ b : Nat) : Prop :=
  ∃ x, (u.port n.val).linkLocal = (s.port n.val).linkLocal ++ [x] ∧ x.typ = typ ∧ x.at 32 8 = b

/-- The lanes two ends share and the width they give agree with the LTFs (R74). -/
def lanesAgree (s : State) (n : Fin 64) (h : HelloInfo) : Bool :=
  let q := s.port n.val
  h.laneOk == q.farLaneOk && h.maxw == q.farMaxw.toNat && (laneSet s n.val q.saidOk h.laneOk h.maxw).2 != 0

/-- A port that has not been UP before, or has already heard a frame of this training, so that a trailer's ACKSEQ names its frames (R93). -/
abbrev begunAnew (q : Port) : Prop := q.wasUp = false ∨ q.begun = true

/-- The frames that ACKSEQ `a` leaves unacknowledged (R77). -/
def unacked (q : Port) (a : BitVec 8) : List SentFrame :=
  if q.replay.any (fun x => trFseq x.frame.trailer == a) then (q.replay.dropWhile (fun x => trFseq x.frame.trailer != a)).drop 1 else q.replay

end Sys2Proof.Claims

/-- R70, R71: lane lock and unlock, RX_READY, the requests of the two equalisers and the end of EQUALISE; one step of a tap on a
request, within its range, at its limit, and PRESET; a lane's own next request once the last is answered.
Model: notes/assumptions/28.md, 70.md. -/
def Obligations.LanesTrainAndTapsMove : Prop :=
  (∀ (s : State) (n : Fin 64) (l far : Fin 8) (inv rdy : Bool) (ctrl status : W64),
    let q := s.port n.val
    let tl := ctrl.toNat / 2 ^ 3 % 2 ^ 3
    let heard := fun (x : RxLane) => { q with
      farLaneOk := BitVec.ofNat 8 (ctrl.toNat / 2 ^ 13), farMaxw := BitVec.ofNat 2 (ctrl.toNat / 2 ^ 21)
      goSeen := if ctrl.getLsbD 12 then q.goSeen ||| BitVec.ofNat 8 (2 ^ l.val) else q.goSeen
      rx := q.rx.set l.val (if q.link = .equalise then rxRequest s.fresh status.toNat x else x) }
    let crcHolds := fun (w : W64) => (crc32c (leBytes 4 (w.toNat % 2 ^ 32))).toNat = w.toNat / 2 ^ 32
    coreOn s = true →
    (trains q = true → q.failed.getLsbD l = false → ∃ u, exec (.laneLock n l far inv) s = .next u ∧ u.csr = s.csr ∧
      PortBecomes s u n { q with
        rx := q.rx.set l.val { RxLane.reset with locked := true, inverted := inv, farLane := far.val }, link := if q.link = .detect then .equalise else q.link }) ∧
    (trains q = true → keepsEqualising { q with rx := q.rx.set l.val RxLane.reset } = true → ∃ u, exec (.laneUnlock n l) s = .next u ∧
      u.csr = s.csr ∧ PortBecomes s u n { q with rx := q.rx.set l.val RxLane.reset }) ∧
    (∀ x, q.rx[l.val]? = some x → x.locked = true → (q.link = .equalise ∨ q.link = .align) →
      keepsEqualising { q with rx := q.rx.set l.val { x with ready := rdy } } = true → ∃ u, exec (.rxReady n l rdy) s = .next u ∧
      u.csr = s.csr ∧ PortBecomes s u n { q with rx := q.rx.set l.val { x with ready := rdy } }) ∧
    (∀ x, q.rx[l.val]? = some x → x.locked = true → q.link = .equalise → keepsEqualising { q with rx := q.rx.set l.val { x with ready := rdy } } = false →
      readyLanes { q with rx := q.rx.set l.val { x with ready := rdy } } ≠ 0 → ∃ u, exec (.rxReady n l rdy) s = .next u ∧
      PortBecomes s u n { q with
        rx := q.rx.set l.val { x with ready := rdy }, link := .align
        failed := ~~~ readyLanes { q with rx := q.rx.set l.val { x with ready := rdy } } }) ∧
    (∀ x, q.rx[l.val]? = some x → x.locked = true → trains q = true → crcHolds ctrl → crcHolds status → keepsEqualising (heard x) = true →
      ((q.tx.getD tl TxLane.reset).rseq.toNat = ctrl.toNat / 2 ^ 23 % 2 ^ 8 ∨ tl < q.tx.length) →
      ∃ u, exec (.equaliseRequest n ⟨l, ctrl, status⟩) s = .next u ∧ u.csr = s.csr ∧
        (u.port n.val).tx.getD tl TxLane.reset = (if (q.tx.getD tl TxLane.reset).rseq.toNat = ctrl.toNat / 2 ^ 23 % 2 ^ 8 then q.tx.getD tl TxLane.reset
          else txRequest ctrl.toNat (q.tx.getD tl TxLane.reset)) ∧
        PortBecomes s u n { heard x with tx := (u.port n.val).tx }) ∧
    (q.link = .equalise → readyLanes q ≠ 0 → ∃ u, exec (.equaliseTimeout n) s = .next u ∧ u.csr = s.csr ∧
      PortBecomes s u n { q with link := .align, failed := ~~~ readyLanes q }) ∧
    (q.link = .equalise → readyLanes q = 0 → ∃ u, exec (.equaliseTimeout n) s = .next u ∧ (u.port n.val).link = .detect ∧ u.mem = s.mem)) ∧
  (∀ (c : Nat) (t : TxLane),
    let tap := c / 2 ^ 6 % 4
    let req := c / 2 ^ 8 % 4
    (req = 1 → tap = 0 → t.pre2 < 6 → (txRequest c t).pre2 = t.pre2 + 1 ∧ (txRequest c t).result = 1) ∧
    (req = 1 → tap = 1 → t.pre1 < 16 → (txRequest c t).pre1 = t.pre1 + 1 ∧ (txRequest c t).result = 1) ∧
    (req = 1 → tap = 2 → t.post1 < 16 → (txRequest c t).post1 = t.post1 + 1 ∧ (txRequest c t).result = 1) ∧
    (req = 1 → tap = 0 → 6 ≤ t.pre2 → (txRequest c t).pre2 = t.pre2 ∧ (txRequest c t).result = 2) ∧
    (req = 2 → tap = 1 → 0 < t.pre1 → (txRequest c t).pre1 = t.pre1 - 1 ∧ (txRequest c t).result = 1) ∧
    (req = 2 → tap = 1 → t.pre1 = 0 → (txRequest c t).pre1 = 0 ∧ (txRequest c t).result = 2) ∧
    (req = 3 → tap ≠ 3 → (txRequest c t).pre2 = 0 ∧ (txRequest c t).pre1 = 0 ∧ (txRequest c t).post1 = 0 ∧ (txRequest c t).result = 1) ∧
    (txRequest c t).rseq.toNat = c / 2 ^ 23 % 2 ^ 8 ∧ (txRequest c t).precoding = c.testBit 10) ∧
  (∀ (f st : Nat) (x : RxLane),
    (x.ready = false → x.rseq.toNat = st / 4 % 256 → (rxRequest f st x).rseq = x.rseq + 1 ∧ (rxRequest f st x).locked = x.locked ∧
      (rxRequest f st x).ready = false) ∧
    (x.ready = true ∨ x.rseq.toNat ≠ st / 4 % 256 → rxRequest f st x = x))

/-- R72, R73, R75, R81, R87, Table 3.6: once ALIGN_GO has come on every lane of this end, 16 LTFs more go out and coded data starts with a
HELLO, which on a trunk eight delay requests follow, with no credit held; a HELLO or HELLO_ACK that ends the EXCHANGE of an endpoint
port in coordinate mode gives it OK and UP, or MISWIRED and ISOLATED; a HELLO is acknowledged, and a trunk waits for its eight
exchanges and its test frame; the eighth response ends that wait; a HELLO on a link that is UP or ISOLATED begins a fast retrain; a delay
request is answered in its traffic class with its two times; the eighth response and each after it give PU_LINK_DELAY the mean of the
last eight one-way delays; an exchange sends a request. Model: notes/assumptions/25.md, 32.md, 71.md, 75.md. -/
def Obligations.ExchangesEndAndDelaysAreMeasured : Prop :=
  (∀ (s : State) (n : Fin 64) (p : Packet) (t : State) (ok : BitVec 8) (mw : BitVec 2),
    let h := helloInfo p
    let plain := (t.port n.val).link = .exchange ∧ (t.port n.val).role = 1 ∧ t.field 0x20 18 18 = 0 ∧ h.dmode = 0 ∧
      lanesAgree t n h = true ∧ 1 ≤ h.fabverMax
    let isUp := fun (u : State) => (u.port n.val).link = .up ∧
      (u.port n.val).disc = .ok ∧ (u.port n.val).far = some h ∧ (u.port n.val).fabver = 1 ∧
      u.reg (puBase n.val + 0x0C) = h.ident.setWidth 64
    (coreOn s = true → (s.port n.val).link = .align → readyLanes (s.port n.val) &&& ~~~ (s.port n.val).goSeen = 0 → (laneSet s n.val (readyLanes (s.port n.val)) ok mw.toNat).2 ≠ 0 →
      Does (.dataStart n ok mw) s (fun u => (u.port n.val).link = .exchange ∧
        (u.port n.val).width = (laneSet s n.val (readyLanes (s.port n.val)) ok mw.toNat).2 ∧
        (u.port n.val).laneUse = (laneSet s n.val (readyLanes (s.port n.val)) ok mw.toNat).1 ∧
        (u.port n.val).ltfs = (s.port n.val).ltfs + 16 ∧ (u.port n.val).txCred = [] ∧ (u.port n.val).rxOwed = [] ∧
        ∃ x reqs, (u.port n.val).linkLocal = x :: reqs ++ (s.port n.val).linkLocal ∧ x.typ = 0x32 ∧ x.at 32 8 = 1 ∧
          reqs.length = (if (s.port n.val).role = 2 then 8 else 0) ∧ ∀ y ∈ reqs, y.typ = 0x32 ∧ y.at 32 8 = 3)) ∧
    ((s.port n.val).link = .align → readyLanes (s.port n.val) &&& ~~~ (s.port n.val).goSeen ≠ 0 →
      exec (.dataStart n ok mw) s = .next s) ∧
    (Heard s n 1 p t → plain → h.side = 1 → h.role = 0 → Does (.hello n p) s (fun u => isUp u ∧
      ∃ x ∈ (u.port n.val).linkLocal, x.typ = 0x32 ∧ x.at 32 8 = 2)) ∧
    (Heard s n 1 p t → plain → h.side ≠ 1 → Does (.hello n p) s (fun u => (u.port n.val).link = .isolated ∧ (u.port n.val).disc = .miswired)) ∧
    (Heard s n 2 p t → plain → h.side = 1 → h.role = 0 → Does (.helloAck n p) s isUp) ∧
    (Heard s n 2 p t → plain → h.side ≠ 1 → Does (.helloAck n p) s (fun u =>
      (u.port n.val).link = .isolated ∧ (u.port n.val).disc = .miswired)) ∧
    (Heard s n 1 p t → (t.port n.val).link = .exchange → lanesAgree t n h = true → (t.port n.val).role = 2 → h.side = 0 →
      ((t.port n.val).delays.length < 8 ∨ (t.port n.val).test.isSome = true) → Does (.hello n p) s (fun u =>
        (u.port n.val).link = .exchange ∧ (u.port n.val).far = some h ∧ QueuesLinkLocal t u n 0x32 2)) ∧
    (Heard s n 1 p t → (t.port n.val).link = .exchange → lanesAgree t n h = false → Does (.hello n p) s (fun u =>
      (u.port n.val).link = .detect)) ∧
    (Heard s n 1 p t → ((t.port n.val).link = .up ∨ (t.port n.val).link = .isolated) → (t.port n.val).fabver ≠ 0 → Does (.hello n p) s (fun u =>
      (u.port n.val).link = .retrain ∧ (u.port n.val).resumeTo = (t.port n.val).link ∧ (u.port n.val).replay = (t.port n.val).replay ∧
        QueuesLinkLocal t u n 0x32 1))) ∧
  (∀ (s : State) (n : Fin 64) (p : Packet) (t : State) (a b : Nat),
    (Heard s n 3 p t → a < 2 ^ 64 → b < 2 ^ 64 → Does (.delayReq n p a b) s (fun u => QueuesLinkLocal t u n 0x32 4 ∧
      ∃ x, (u.port n.val).linkLocal.getLast? = some x ∧ x.at 40 64 = a ∧ x.at 48 64 = b ∧ x.tc = p.tc)) ∧
    (Heard s n 4 p t → (t.port n.val).role = 2 →
      let twice : Int := ((b : Int) - a) - ((p.at 48 64 : Int) - p.at 40 64)
      let ds := (twice :: (t.port n.val).delays).take 8
      let mean := (ds.foldl (· + ·) 0 / (16 : Int)).toNat
      Does (.delayResp n p a b) s (fun u => (u.port n.val).delays = ds ∧
        u.field (puBase n.val + 0x1C) 15 0 = (if ds.length = 8 then min mean 0xFFFF else t.field (puBase n.val + 0x1C) 15 0) ∧
        (ds.length = 8 → ∀ h, (t.port n.val).link = .exchange → (t.port n.val).far = some h → (t.port n.val).test = none → 1 ≤ h.fabverMax →
          (u.port n.val).link = .up ∨ (u.port n.val).link = .isolated))) ∧
    (coreOn s = true → (s.port n.val).role = 2 → (s.port n.val).link = .up → 1 ≤ (s.port n.val).fabver → a < 2 ^ 64 →
      Does (.delayExchange n a) s (fun u => QueuesLinkLocal s u n 0x32 3 ∧
        ∃ x, (u.port n.val).linkLocal.getLast? = some x ∧ x.at 48 64 = a)))

/-- R63, R64, R70, R76 to R78, R81, R93: a good frame in sequence is acknowledged, frees what it acknowledges and brings its credits, and
the first after a training says what had arrived before it; one out of sequence acknowledges and is NAKed; a bad
one leaves everything but the NAK; a frame sent has the next FSEQ, a right FCRC and 32 slots, and stands in the replay
buffer; one sent again keeps its number and its slots; in RETRAIN a frame takes no number and is not kept, on either side; while lanes train
an LTF goes out. Model: notes/assumptions/22.md, 23.md, 25.md, 26.md, 29.md, 30.md, 32.md. -/
def Obligations.LinkFramesAreSequencedAndReplayed : Prop := ∀ (s : State) (n : Fin 64) (f : LinkFrame) (corr unc t : Nat) (symbols : List Nat),
  let q := s.port n
  let quiet := ∀ l, l < 8 → laneErrors q l + symbols.getD l 0 ≤ 2048
  let live := coreOn s = true ∧ (q.link = .exchange ∨ q.link = .up ∨ q.link = .isolated)
  let stays := q.link = .exchange → q.far = none
  (live → quiet → unc = 0 → frameOk f = true → trFseq f.trailer = q.rxSeq + 1 → trUsed f.trailer = 0 → trNak f.trailer = false →
    begunAnew q → q.nakRun < 8 → Does (.linkFrame n f ⟨corr, symbols⟩ unc) s (fun u =>
      (u.port n.val).rxSeq = trFseq f.trailer ∧ (u.port n.val).nak = false ∧
      (u.port n.val).txCred = (if trCred f.trailer = 0 then q.txCred else tabAdd q.txCred (trClass f.trailer) (trCred f.trailer)) ∧
      (u.port n.val).rxq = q.rxq ∧
      (stays → (u.port n.val).replay = unacked q (trAck f.trailer) ∧ (u.port n.val).egress = q.egress))) ∧
  (live → quiet → unc = 0 → frameOk f = true → trFseq f.trailer = q.rxSeq + 1 → trUsed f.trailer = 0 → q.wasUp = true → q.begun = false →
    q.nakRun < 8 → Does (.linkFrame n f ⟨corr, symbols⟩ unc) s (fun u => (u.port n.val).rxSeq = trFseq f.trailer ∧
      (u.port n.val).begun = true ∧ (u.port n.val).kept = [] ∧ (stays → (u.port n.val).replay = q.replay ∧
      ∀ e, e ∈ q.egress → e ∈ (u.port n.val).egress))) ∧
  (live → quiet → (unc > 0 ∨ frameOk f = false) → Does (.linkFrame n f ⟨corr, symbols⟩ unc) s (fun u =>
    PortBecomes s u n { q with nak := true, laneCorr := (u.port n.val).laneCorr } ∧ SameRegs s.csr u.csr)) ∧
  (live → quiet → unc = 0 → frameOk f = true → trFseq f.trailer ≠ q.rxSeq + 1 → q.nakRun < 7 → Does (.linkFrame n f ⟨corr, symbols⟩ unc) s (fun u =>
    (u.port n.val).rxSeq = q.rxSeq ∧ (u.port n.val).nak = true ∧ (u.port n.val).replay = unacked q (trAck f.trailer) ∧
      (u.port n.val).resend = (if trNak f.trailer = true ∧ q.resend = 0 then (unacked q (trAck f.trailer)).length
        else min q.resend (unacked q (trAck f.trailer)).length) ∧
      (u.port n.val).txCred = q.txCred ∧ (u.port n.val).rxq = q.rxq ∧ (u.port n.val).egress = q.egress)) ∧
  (coreOn s = true → q.link = .retrain → quiet → Does (.linkFrame n f ⟨corr, symbols⟩ unc) s (fun u =>
    PortBecomes s u n { q with laneCorr := (u.port n.val).laneCorr } ∧ SameRegs s.csr u.csr)) ∧
  (live → q.resend = 0 → q.replay.length < 64 → Does (.linkFrameTransmit n t) s (fun u => ∃ g,
    (u.port n.val).txSeq = q.txSeq + 1 ∧ (u.port n.val).sent = q.sent ++ [g] ∧ frameOk g = true ∧ trFseq g.trailer = q.txSeq ∧
      trAck g.trailer = (if q.wasUp = true ∧ q.opened = false then q.rxOld else q.rxSeq) ∧ g.slots.length = 32 ∧
      (stays → (u.port n.val).replay.map (fun x => x.frame) = q.replay.map (fun x => x.frame) ++ [g] ∧
        (u.port n.val).replay.map (fun x => x.sends) = q.replay.map (fun x => x.sends) ++ [1]))) ∧
  (live → 0 < q.resend → ∀ x, q.replay[q.replay.length - q.resend]? = some x → Does (.linkFrameTransmit n t) s (fun u =>
    (u.port n.val).resend = q.resend - 1 ∧ (u.port n.val).txSeq = q.txSeq ∧ (u.port n.val).replay.length = q.replay.length ∧
      ∃ y, (u.port n.val).replay[q.replay.length - q.resend]? = some y ∧ y.frame.slots = x.frame.slots ∧
        trFseq y.frame.trailer = trFseq x.frame.trailer ∧ y.sends = x.sends + 1)) ∧
  (coreOn s = true → q.link = .retrain → Does (.linkFrameTransmit n t) s (fun u => (u.port n.val).replay = q.replay ∧
    (u.port n.val).txSeq = q.txSeq ∧ ∃ g, (u.port n.val).sent = q.sent ++ [g] ∧ frameOk g = true ∧ trUsed g.trailer = 1)) ∧
  (coreOn s = true → trains q = true → Does (.linkFrameTransmit n t) s (fun u => (u.port n.val).ltfs = q.ltfs + 1 ∧
    (u.port n.val).link = q.link ∧ (u.port n.val).sent = q.sent))

/-- R68, R80, R81, R83, R92, R93, R97, R335: what a lane failure, a retrain, its end, ACCEPT and DISABLE make of a port.
Model: notes/assumptions/22.md, 26.md, 29.md, 75.md. -/
def Obligations.LinkStateFollowsItsEvents : Prop := ∀ (s : State) (n : Fin 64) (l : Fin 8) (ok : BitVec 8) (mw : BitVec 2),
  let q := s.port n.val
  let p := fun (u : State) => u.port n.val
  (coreOn s = true → q.link = .up → q.failed.getLsbD l = false → q.laneUse.getLsbD l = true → q.fabver ≠ 0 →
    laneOk { q with failed := q.failed ||| BitVec.ofNat 8 (2 ^ l.val) } ≠ 0 → Does (.laneFail n l) s (fun u =>
      (p u).link = .retrain ∧ (p u).failed = q.failed ||| BitVec.ofNat 8 (2 ^ l.val) ∧ (p u).replay = q.replay ∧ (p u).egress = q.egress)) ∧
  (coreOn s = true → q.link = .up → q.failed.getLsbD l = false → q.laneUse.getLsbD l = true → q.fabver = 0 → Does (.laneFail n l) s (fun u =>
    (p u).link = .detect ∧ (p u).disc = .pending ∧ (u.reg (blkFlt (puBlk n.val))).getLsbD 9 = true ∧ (p u).kept = [] ∧ (p u).replay = [])) ∧
  (coreOn s = true → q.link = .exchange → q.failed.getLsbD l = false → Does (.laneFail n l) s (fun u =>
    (p u).link = .detect ∧ (p u).failed = q.failed ||| BitVec.ofNat 8 (2 ^ l.val))) ∧
  (coreOn s = true → q.link = .retrain → q.resumeTo = .up → (laneSet s n.val (laneOk q) ok mw.toNat).2 ≠ 0 →
    Does (.fastRetrainEnd n true ok mw) s (fun u => (p u).link = .up ∧ (p u).width = (laneSet s n.val (laneOk q) ok mw.toNat).2 ∧
      (p u).retrains = 0 ∧ (p u).resend = q.replay.length ∧ (q.fabver ≠ 0 → (p u).replay = q.replay))) ∧
  (coreOn s = true → q.link = .retrain → 2 ≤ q.retrains → Does (.fastRetrainEnd n false ok mw) s (fun u =>
    (p u).link = .heldDown ∧ (p u).egress = [] ∧ (p u).replay = [] ∧ (u.reg (blkFlt (puBlk n.val))).getLsbD 9 = true)) ∧
  (coreOn s = true → q.link = .retrain → q.retrains < 2 →
    exec (.fastRetrainEnd n false ok mw) s = .next (s.setPort n.val { q with retrains := q.retrains + 1 })) ∧
  (coreOn s = true → (q.link = .up ∨ q.link = .isolated ∨ q.link = .retrain) → Does (.farRetrainDetect n) s (fun u =>
    (p u).link = .detect ∧ (p u).disc = .pending ∧ (p u).failed = q.failed ∧ (q.wasUp = true → q.txPartOf = none → (p u).egress = q.egress))) ∧
  (held s = false → portsLive s = true → q.link ≠ .disabled → Does (.linkRetrain n) s (fun u =>
    (p u).link = .detect ∧ (p u).disc = .pending ∧ (p u).failed = 0)) ∧
  (coreOn s = true → q.link = .isolated → (q.disc = .unexpected ∨ q.disc = .swapped ∨ q.disc = .misplaced) →
    Does (.linkAccept n) s (fun u => (p u).link = .up ∧ (p u).disc = q.disc)) ∧
  (held s = false → q.link ≠ .disabled → Does (.linkDisable n) s (fun u => (p u).link = .disabled ∧ (p u).egress = [] ∧ (p u).replay = [] ∧
    u.field (puBase n.val + 0x04) 2 2 = 1 ∧
    (portCargo q ≠ [] → (u.reg (blkFlt (puBlk n.val))).getLsbD 38 = true) ∧ (portCargo q = [] → u.raised = s.raised))) ∧
  (held s = false → portsLive s = true → q.link = .disabled → Does (.linkEnable n) s (fun u =>
    (p u).link = .detect ∧ (p u).disc = .pending ∧ u.field (puBase n.val + 0x04) 2 2 = 0))

/-! ## Rack time, STOP, routing and messages -/

namespace Sys2Proof.Claims

/-- What the halt of R329 leaves, with the wave recorded in GLB_STOP_INFO. -/
def IsHalted (u : State) (origin wave : Nat) : Prop :=
  u.field 0x58 31 0 = origin % 2 ^ 32 ∧ u.field 0x58 47 32 = wave % 2 ^ 16 ∧ u.field 0x58 48 48 = 1 ∧ u.field 0x30 0 0 = 0 ∧
    u.field 0x94 1 0 = 1 ∧ ∀ n, n < 64 → (u.port n).egress = []

/-- A packet leaves for egress `n` as the last of its queue, counted one hop further and on dateline channel `dl` (R42). -/
def JoinsEgress (s u : State) (n : Nat) (p : Packet) (dl : Nat) : Prop :=
  ∃ x, (u.port n).egress = (s.port n).egress ++ [x] ∧ x.pkt = (p.set 24 8 (p.hops + 1)).set 19 1 dl ∧ x.green = none

/-- The switch can originate a plain packet to the endpoint at port `n`: it is not halted and the port carries FABVER 1. -/
abbrev endpointOpen (s : State) (n : Nat) : Prop := halted s = false ∧ ((s.port n).link = .up ∨ (s.port n).link = .retrain) ∧ (s.port n).fabver ≠ 0

end Sys2Proof.Claims

/-- R20, R98 to R102, R135, R404: what an epoch boundary, an EPOCH packet and a holdover do to the epoch number, its state, the gates
and GATE_EPOCH, which a MASTER or FOLLOWER drives high for 32 ns from the boundary on; an EPOCH on an endpoint port is discarded.
Model: notes/assumptions/33.md, 67.md, 75.md. -/
def Obligations.EpochsAreCountedAndFollowed : Prop := ∀ (s : State) (n : Fin 64) (p : Packet) (t : State) (at_ : Nat),
  (coreOn s = true → s.rack.numbered = true → Does (.epochBoundary at_) s (fun u =>
    u.reg 0x48 = s.reg 0x48 + 1 ∧ u.rack.lastAt = at_ ∧ (∀ m, m < 64 → (u.port m).winSent = []) ∧ u.mem = s.mem ∧
      u.milestones = s.milestones ∧ u.rack.boundaryAt = s.now ∧ u.rack.drivenAt = (if epochRole s = 0 then s.rack.drivenAt else some s.now))) ∧
  (∀ at0, held s = false → epochRole s ≠ 0 → s.rack.drivenAt = some at0 →
    gateEpoch s = some (decide (20 * (s.now - at0) < 7 * 32))) ∧
  (held s = true ∨ epochRole s = 0 → gateEpoch s = none) ∧
  (coreOn s = true → s.rack.numbered = false → (epochRole s ≠ 1 ∨ ready s = false) → Does (.epochBoundary at_) s (fun u =>
    u.reg 0x48 = s.reg 0x48 ∧ u.rack.numbered = false ∧ u.rack.lastAt = at_)) ∧
  (linkLocalIn n.val 0x31 p s = (true, t) → (t.port n.val).link ≠ .isolated → isEndpoint t n.val = false → epochRole t ≠ 1 → ready t = true → t.rack.numbered = false →
    Does (.epoch n p at_) s (fun u => u.reg 0x48 = BitVec.ofNat 64 (p.at 36 64) ∧ u.rack.numbered = true ∧
      (epochRole t ≠ 2 → u.field 0x50 1 0 = 1))) ∧
  (linkLocalIn n.val 0x31 p s = (true, t) → (t.port n.val).link ≠ .isolated → isEndpoint t n.val = false → epochRole t ≠ 1 → ready t = true → t.rack.numbered = true →
    t.reg 0x48 ≠ BitVec.ofNat 64 (p.at 36 64) → Does (.epoch n p at_) s (fun u => u.reg 0x48 = BitVec.ofNat 64 (p.at 36 64) ∧
      (u.reg 0xF000).getLsbD 11 = true)) ∧
  (linkLocalIn n.val 0x31 p s = (true, t) → isEndpoint t n.val = true → Does (.epoch n p at_) s (fun u => CountsOnly t u)) ∧
  (coreOn s = true → epochRole s = 2 → epochState s ≠ 2 → Does .epochHoldover s (fun u => u.field 0x50 1 0 = 2 ∧
    (u.reg 0xF000).getLsbD 12 = true ∧ u.reg 0x48 = s.reg 0x48 ∧ u.ports = s.ports))

/-- R104 to R106, R328, R329: a STOP packet halts the switch with the wave it names, raises STOP_IN and is relayed; a halted
switch only counts it. Model: notes/assumptions/34.md. -/
def Obligations.StopHaltsTheSwitch : Prop := ∀ (s : State) (n : Fin 64) (p : Packet) (t : State),
  (linkLocalIn n.val 0x30 p s = (true, t) → (t.port n.val).link ≠ .isolated → halted t = false → Does (.stop n p) s (fun u =>
    IsHalted u (p.at 32 32) (p.at 36 16) ∧ (u.reg 0xF000).getLsbD 39 = true ∧ u.mem = s.mem ∧ u.milestones = s.milestones ∧
      ∀ m, m < 64 → (u.port m).linkLocal.length = (t.port m).linkLocal.length +
        (if (t.port m).link = .up ∧ 1 ≤ (t.port m).fabver ∧ m ≠ n.val then 1 else 0))) ∧
  (linkLocalIn n.val 0x30 p s = (true, t) → (t.port n.val).link ≠ .isolated → halted t = true → Does (.stop n p) s (fun u => CountsOnly t u))

/-- R38, R42, R108 to R119: a packet for another switch joins the egress chosen in the detour set of its first differing
axis; one whose set is empty is dropped with NO_ROUTE; a packet for an endpoint joins its port's egress, or is dropped with
source 4 when the port is down. Model: notes/assumptions/5.md, 11.md, 73.md, 75.md. -/
def Obligations.PacketsGoToTheirEgress : Prop := ∀ (s : State) (n : Fin 64) (p q : Packet) (t : State) (hop : Nat),
  (∀ axis m t', Whole s → canArrive s n.val p = true → ingress n.val p s = (.forward q hop, t) → routeAxis t q.dst = some axis →
    (q.cv && q.colour == 1) = false → spreadChoose (quadOf n.val) axis (detourSet t axis q.dst) t = (some m, t') →
    halted t = false → (t.port m).fabver ≠ 0 → Does (.packetForward n p) s (fun u =>
      JoinsEgress t u m q (trunkDl t' m (some n.val) q) ∧ m ∈ detourSet t axis q.dst ∧ u.mem = s.mem ∧ u.milestones = s.milestones)) ∧
  (∀ axis, Whole s → canArrive s n.val p = true → ingress n.val p s = (.forward q hop, t) → routeAxis t q.dst = some axis →
    (q.cv && q.colour == 1) = false → detourSet t axis q.dst = [] → Does (.packetForward n p) s (fun u =>
      (u.reg (blkFlt .rte)).getLsbD 14 = true ∧ u.ports = t.ports ∧ u.mem = s.mem)) ∧
  (canArrive s n.val p = true → ingress n.val p s = (.deliver q hop, t) → (q.cv && q.colour == 1) = false →
    endpointOpen t (cwP q.dst) → Does (.endpointDelivery n p) s (fun u => JoinsEgress t u (cwP q.dst) q 0 ∧ u.mem = s.mem)) ∧
  (canArrive s n.val p = true → ingress n.val p s = (.deliver q hop, t) → (t.port (cwP q.dst)).link ≠ .up →
    (t.port (cwP q.dst)).link ≠ .retrain → Does (.endpointDelivery n p) s (fun u =>
      (u.reg (blkFlt (puBlk (cwP q.dst)))).getLsbD 4 = true ∧ u.ports = t.ports ∧ u.mem = s.mem)) ∧
  (∀ c, c ∈ [Instr.packetForward n p, .endpointDelivery n p, .storeWrite n p, .storeRead n p, .gather n p, .gatherSum n p,
      .milestoneAdd n p, .milestoneSet n p, .milestoneWait n p, .poolAlloc n p, .poolShare n p, .poolDrop n p, .poolFree n p,
      .contributeMember n p, .stepUp n p, .stepDown n p, .stepDone n p, .stepFin n p, .stepAbort n p, .tokenDispatch n p,
      .sourceSeal n p, .switchCopy n p, .switchSeal n p, .expertOutput n p, .overcapNotice n p] →
    canArrive s n.val p = true → ingress n.val p s = (.gone, t) → exec c s = .next t)

/-- R39 to R51, Table 2.12: the checks up to check 5, each where those before it pass, with its event source and fault: a wrong header
CRC (0x020, HCRC), a halted switch (0x02A, none), a shut start gate at an endpoint port (0x029, none), a header the version does not
understand (0x021, PKT_MALFORMED), another packet than a plain store one on a FABVER 0 link (0x02C, PKT_MALFORMED), 64 hops (0x022,
HOP_LIMIT), a destination outside the torus (0x023, PKT_MALFORMED); and what a packet that fails one leaves: it has left the receive
buffer, its fault stands in the port's block, and memories, milestones and waits, collectives, message contexts, pools, engines, expert
steps and the host ports stay. Model: notes/assumptions/13.md, 17.md. -/
def Obligations.HeaderChecksDecideInOrder : Prop :=
  (∀ (s : State) (n : Fin 64) (p : Packet) (src : Nat) (f : Option Nat),
    Whole s → firstFail (takeIn n.val p s).2 n.val p = some (src, f) → ∃ u, ingress n.val p s = (.gone, u) ∧ u.mem = s.mem ∧
      u.milestones = s.milestones ∧ u.waits = s.waits ∧ u.colls = s.colls ∧ u.msgs = s.msgs ∧ u.bpm = s.bpm ∧ u.engines = s.engines ∧
      u.xsteps = s.xsteps ∧ u.combs = s.combs ∧ u.hep = s.hep ∧ u.ports = (takeIn n.val p s).2.ports ∧
      (∀ k, f = some k → k < 64 → (u.reg (blkFlt (puBlk n.val))).getLsbD k = true) ∧ (f = none → u.raised = s.raised)) ∧
  (∀ (s : State) (n : Nat) (p : Packet),
    let crc := p.hcrc = p.hcrcOf
    let runs := halted s = false
    let gate := isEndpoint s n = true → (s.regN 0x30).testBit 0 = true
    let known3 := check3 p (s.port n).fabver = true
    let plain := (s.port n).fabver = 0 → plainStore p = true
    let inside := cwX p.dst < dimAxis s 0 ∧ cwY p.dst < dimAxis s 1 ∧ cwZ p.dst < dimAxis s 2 ∧ cwW p.dst = 0
    (¬ crc → firstFail s n p = some (0x020, some 1)) ∧
    (crc → ¬ runs → firstFail s n p = some (0x02A, none)) ∧
    (crc → runs → ¬ gate → firstFail s n p = some (0x029, none)) ∧
    (crc → runs → gate → ¬ known3 → firstFail s n p = some (0x021, some 2)) ∧
    (crc → runs → gate → known3 → ¬ plain → firstFail s n p = some (0x02C, some 2)) ∧
    (crc → runs → gate → known3 → plain → 64 ≤ p.hops → firstFail s n p = some (0x022, some 3)) ∧
    (crc → runs → gate → known3 → plain → p.hops < 64 → ¬ inside → firstFail s n p = some (0x023, some 2)) ∧
    (crc → runs → gate → known3 → plain → p.hops < 64 → inside → firstFail s n p = none))

/-- R56, R134: a gate cycle lets every contract send its R again, less what it has sent ahead in the cycle's windows, and credits each bound meter of its port, cb
by R up to CBS and pb by PIR up to PBS, and no other; a message past its
timeout closes its context with MSG_TIMEOUT in its block. Model: notes/assumptions/2.md. -/
def Obligations.GateCyclesAndMessageTimeouts : Prop := ∀ (s : State) (n : Fin 64) (src msgId : W32) (c : MsgCtx),
  (coreOn s = true → ∃ u, exec (.gateCycleStart n) s = .next u ∧
    (∀ k, k % 2 = 0 → tabOr (u.port n.val).winSent k 0 = tabOr (s.port n.val).winSent (k + 1) 0) ∧
    (u.port n.val).egress = (s.port n.val).egress ∧ u.mem = s.mem ∧
    (∀ a, ¬ (puBase n.val + 0x3000 ≤ a ∧ a < puBase n.val + 0x3800) → tabGet u.csr a = tabGet s.csr a) ∧
    (∀ m, m < 256 → let a := meterAddr n.val m
      let o := s.field a 27 16
      if s.field a 28 28 = 1 then
        u.field a 7 0 = min (cCbs (conC s o)) (s.field a 7 0 + bR (conB s o)) ∧
        u.field a 15 8 = min (cPbs (conC s o)) (s.field a 15 8 + cPir (conC s o)) ∧ u.field a 63 16 = s.field a 63 16
      else u.reg a = s.reg a) ∧
    (∀ m, m < 64 → m ≠ n.val → u.port m = s.port m)) ∧
  (coreOn s = true → halted s = false → findMsg s src msgId = some c → [0x01, 0x04, 0x05].contains c.typ = true →
    Does (.msgTimeout src msgId) s (fun u => findMsg u src msgId = none ∧ (u.reg (blkFlt .tsc)).getLsbD 7 = true ∧
      u.releases = s.releases ∧ u.mem = s.mem ∧ u.milestones = s.milestones)) ∧
  (coreOn s = true → halted s = true → exec (.msgTimeout src msgId) s = .next s)

/-! ## Disabling, gates, tables and parking -/

namespace Sys2Proof.Claims

/-- A commit status register says APPLIED, or REFUSED with a reason (Tables 7.2, 9.2 and their like). -/
def statusOf (reason : Nat) : W64 := BitVec.ofNat 64 (if reason = 0 then 1 else 2 + 16 * reason)

/-- The command is performed: no halt is latched and the chip is out of reset. -/
abbrev Idle (s : State) : Prop := coreOn s = true

/-- Words A, B, C of contract `c`, and its state. -/
abbrev ContractIs (u : State) (c a b cc st : Nat) : Prop := conA u c = a ∧ conB u c = b ∧ conC u c = cc ∧ conState u c = st

end Sys2Proof.Claims

/-- R333 to R335: DISABLE drains a unit, the drained unit is disabled, FORCE abandons its work, and ENABLE ends it.
Model: notes/assumptions/62.md. -/
def Obligations.UnitsDrainDisableAndReturn : Prop := ∀ (s : State) (e : Fin 64) (m : BitVec 4) (q : Fin 4),
  Idle s → BusFree s (jBase e.val + 0xF010) → BusFree s 0x400F010 →
  (present s e.val = true → ∃ u, exec (.engineDisable e) s = .next u ∧ u.reg (jBase e.val + 0xF010) = 1 ∧ u.mem = s.mem ∧
    u.engine e.val = { s.engine e.val with dis := if (s.engine e.val).dis = .enabled then .draining else (s.engine e.val).dis }) ∧
  (present s e.val = true → ∃ u, exec (.engineEnable e) s = .next u ∧ u.reg (jBase e.val + 0xF010) = 0 ∧ u.mem = s.mem ∧
    u.engine e.val = { s.engine e.val with dis := .enabled }) ∧
  (present s e.val = true → Does (.engineForce e) s (fun u => u.reg (jBase e.val + 0xF010) = 1 ∧ (u.engine e.val).dis = .disabled ∧
    (u.engine e.val).queue = [] ∧ (u.engine e.val).heldRuns = [] ∧ (u.engine e.val).runs = [] ∧
    (engineBusy s e.val = true → (u.reg (blkFlt (jBlk e.val))).getLsbD 38 = true))) ∧
  ((s.engine e.val).dis = .draining → engineBusy s e.val = false → ∃ u, exec (.unitDrained (.engine e)) s = .next u ∧
    (u.engine e.val).dis = .disabled ∧ u.csr = s.csr) ∧
  (engineBusy s e.val = true → exec (.unitDrained (.engine e)) s = .next s) ∧
  (∃ u, exec (.sliceDisable m) s = .next u ∧ u.field 0x400F010 3 0 = s.field 0x400F010 3 0 ||| m.toNat ∧
    (m.getLsbD q.val = true → sliceState s q.val = .enabled → sliceState u q.val = .draining) ∧ u.colls = s.colls) ∧
  (∃ u, exec (.sliceEnable m) s = .next u ∧ u.field 0x400F010 3 0 = s.field 0x400F010 3 0 &&& (~~~ m).toNat ∧
    (m.getLsbD q.val = true → sliceState u q.val = .enabled) ∧ u.colls = s.colls) ∧
  (m ≠ 0 → Does (.sliceForce m) s (fun u => (m.getLsbD q.val = true → sliceState u q.val = .disabled) ∧
    (∀ c ∈ u.colls, m.getLsbD (c.group % 4) = false) ∧
    (slicesBusy s m.toNat = true → (u.reg (blkFlt .csq)).getLsbD 38 = true))) ∧
  (sliceState s q.val = .draining → slicesBusy s (2 ^ q.val) = false → ∃ u, exec (.unitDrained (.slice q)) s = .next u ∧
    sliceState u q.val = .disabled ∧ u.csr = s.csr)

/-- R23, R121 to R126, R139: holding classes, swapping the routing tables at one edge once the affected classes have drained, the
end of the copy, before which an access to a shadow table waits, and the pending gate swap.
Model: notes/assumptions/65.md, 75.md. -/
def Obligations.RoutingTablesSwapWhenDrained : Prop := ∀ (s : State) (n : Fin 64) (v : W32),
  Idle s → tabSorted s.csr = true → BusFree s 0x2000010 → BusFree s 0x2000020 →
  (bootState s ≠ 4 → ∃ u, exec (.gateSwap n) s = .next u ∧ u.field (puBase n.val + 0x4C) 2 2 = 1 ∧ u.ports = s.ports ∧
    (∀ a, a ≠ puBase n.val + 0x4C → u.reg a = s.reg a)) ∧
  (s.collWait = [] → ∃ u, exec (.rteHold v) s = .next u ∧ u.reg 0x2000010 = BitVec.ofNat 64 (v.toNat % 256) ∧ u.reg 0x2000018 = 0 ∧
    u.ports = s.ports ∧ (∀ a, a ≠ 0x2000010 → a ≠ 0x2000018 → u.reg a = s.reg a)) ∧
  (s.field 0x2000024 2 2 = 0 → drained s = 0xFF → ∃ u, exec .swapSign s = .next u ∧ u.field 0x2000024 1 0 = 1 ∧
    u.field 0x2000024 2 2 = 1 ∧ u.ports = s.ports ∧
    (∀ i, i < 192 → tabGet u.csr (0x2001000 + 4 * i) = tabGet s.csr (0x2002000 + 4 * i)) ∧
    (∀ i, i < 192 → tabGet u.csr (0x2002000 + 4 * i) = tabGet s.csr (0x2002000 + 4 * i))) ∧
  (s.field 0x2000024 2 2 = 0 → drained s = 0 → ∃ u, exec .swapSign s = .next u ∧ u.field 0x2000024 1 0 = 2 ∧
    u.field 0x2000024 23 16 = 0xFF ∧ (∀ a, a ≠ 0x2000024 → u.reg a = s.reg a)) ∧
  (s.field 0x2000024 2 2 = 1 → ∃ u, exec .swapSign s = .next u ∧ u.field 0x2000024 1 0 = 3 ∧ (∀ a, a ≠ 0x2000024 → u.reg a = s.reg a)) ∧
  (s.field 0x2000024 2 2 = 0 → drained s = 0xFF → ∃ u, exec .swapCpath s = .next u ∧ u.field 0x2000024 1 0 = 1 ∧
    u.pathWritten = [] ∧ u.ports = s.ports ∧
    (∀ c, c < 4096 → tabGet u.csr (0x2010000 + 4 * c) = tabGet s.csr (0x2020000 + 4 * c))) ∧
  (∀ c x, c < 4096 → s.field 0x2000024 2 2 = 1 → ∃ u, exec (.registerWrite (BitVec.ofNat 32 (0x2020000 + 4 * c)) 4 x) s = .next u ∧ u.csr = s.csr ∧
    u.pathWritten = s.pathWritten ∧ u.busHeld = s.busHeld ++ [.write (0x2020000 + 4 * c) (x &&& 0xFFFFFFFF) false]) ∧
  (s.busHeld = [] → ∃ u, exec .shadowCopyEnd s = .next u ∧ u.field 0x2000024 2 2 = 0 ∧ (∀ a, a ≠ 0x2000024 → u.reg a = s.reg a))

/-- R129, R140, R141: a contract WRITE that passes Table 5.3 makes the entry ACTIVE with the staged words; one that fails leaves
the table and says why; a DELETE frees the entry; and TCU_CFG keeps the classes of committed contracts.
Model: notes/assumptions/27.md, 75.md. -/
def Obligations.ContractsCommitAndDelete : Prop := ∀ (s : State) (c : BitVec 12) (v : W32),
  let n := c.toNat
  let why := commitReason s n (s.regN 0x3000010) (s.regN 0x3000014) (s.regN 0x3000018)
  Idle s →
  (why = 0 → ∃ u, exec (.contractWrite c) s = .next u ∧
    ContractIs u n (s.regN 0x3000010) (s.regN 0x3000014) (s.regN 0x3000018) 1 ∧ u.field 0x3000024 1 0 = 1 ∧
    (∀ m, m < 64 → u.port m = { s.port m with slotWidth := (u.port m).slotWidth }) ∧
    (∀ d, d < 4096 → d ≠ n → ContractIs u d (conA s d) (conB s d) (conC s d) (conState s d))) ∧
  (why ≠ 0 → ∃ u, exec (.contractWrite c) s = .next u ∧ u.field 0x3000024 1 0 = 2 ∧ u.field 0x3000024 7 4 = why ∧
    (∀ a, a ≠ 0x3000024 → u.reg a = s.reg a) ∧ u.ports = s.ports) ∧
  (∃ u, exec (.contractDelete c) s = .next u ∧ ContractIs u n 0 0 0 0 ∧ u.field 0x3000024 1 0 = 1 ∧ u.mem = s.mem ∧
    (∀ m, m < 64 → ∀ x ∈ (u.port m).egress, x.green ≠ some n) ∧
    (∀ d, d < 4096 → d ≠ n → ContractIs u d (conA s d) (conB s d) (conC s d) (conState s d))) ∧
  (∃ u, exec (.ctcMaskWrite v) s = .next u ∧ (∀ a, a ≠ 0x3000000 → u.reg a = s.reg a) ∧ u.ports = s.ports ∧
    ∀ t, t < 8 → (u.reg 0x3000000).getLsbD t =
      (v.getLsbD t || ((committed s).any (fun c => aTc (conA s c) == t) && (s.reg 0x3000000).getLsbD t)))

/-- R184: registering a descriptor that passes its checks, identical bytes once more adding nothing, and removing one that no open
collective uses; the reasons of the refusals: FIELD, FULL, COLLIDE, ABSENT and INUSE. -/
def Obligations.DescriptorsRegisterAndRemove : Prop := ∀ (s : State),
  let d := stagedDesc s
  Idle s → BusFree s 0x4000050 → Whole s →
  (descField s d = false → s.descs.contains d = false → s.descs.any (fun e => dDigest e == dDigest d) = false → s.descs.length < 8192 →
    ∃ u, exec .descRegister s = .next u ∧ u.descs = s.descs ++ [d] ∧ u.reg 0x4000054 = statusOf 0) ∧
  (descField s d = true → ∃ u, exec .descRegister s = .next u ∧ u.descs = s.descs ∧ u.reg 0x4000054 = statusOf 1) ∧
  (descField s d = false → s.descs.contains d = false → s.descs.any (fun e => dDigest e == dDigest d) = true →
    ∃ u, exec .descRegister s = .next u ∧ u.descs = s.descs ∧ u.reg 0x4000054 = statusOf 3) ∧
  (descField s d = false → s.descs.contains d = true → ∃ u, exec .descRegister s = .next u ∧ u.descs = s.descs ∧ u.reg 0x4000054 = statusOf 0) ∧
  (descField s d = false → s.descs.contains d = false → s.descs.any (fun e => dDigest e == dDigest d) = false → 8192 ≤ s.descs.length →
    ∃ u, exec .descRegister s = .next u ∧ u.descs = s.descs ∧ u.reg 0x4000054 = statusOf 2) ∧
  (s.descs.contains d = true → s.colls.any (fun c => c.desc == d) = false →
    ∃ u, exec .descRemove s = .next u ∧ u.descs = s.descs.erase d ∧ u.reg 0x4000054 = statusOf 0) ∧
  (s.descs.contains d = true → s.colls.any (fun c => c.desc == d) = true →
    ∃ u, exec .descRemove s = .next u ∧ u.descs = s.descs ∧ u.reg 0x4000054 = statusOf 5) ∧
  (s.descs.contains d = false → ∃ u, exec .descRemove s = .next u ∧ u.descs = s.descs ∧ u.reg 0x4000054 = statusOf 4)


/-! ## Commits of groups and expert tables, parking, and the start gate -/

namespace Sys2Proof.Claims

/-- A register file that differs in one register only. -/
def OnlyReg (s u : State) (a : Nat) (v : W64) : Prop := u.reg a = v ∧ ∀ b, b ≠ a → u.reg b = s.reg b

/-- The list of `n` coordinates at `addr`. -/
def listAt (s : State) (addr n : Nat) : List Nat := (chunksOf 4 n (cellRead 0 s.mem addr (4 * n))).map leNat

/-- A member list that row 3 of Table 7.2 accepts: no coordinate that cannot be a member, `local_` of this switch, each once. -/
abbrev goodMembers (s : State) (addr n local_ : Nat) : Prop :=
  let own := (listAt s addr n).filter (fun cw => cwSw cw == ownSw s)
  (∀ cw ∈ listAt s addr n, badCw s cw = false) ∧ own.eraseDups.length = own.length ∧ own.length = local_

/-- Words and STATE of group entry `g`, with its horizon at 0 and no CSEQ of it closed. -/
def GroupIs (u : State) (g : Nat) (a b c d : W64) : Prop :=
  u.reg (0x4010000 + g * 0x20) = a ∧ u.reg (0x4010004 + g * 0x20) = b ∧ u.reg (0x4010008 + g * 0x20) = c ∧
    u.reg (0x4010010 + g * 0x20) = d ∧ u.reg (0x4010018 + g * 0x20) = 1 ∧ u.reg (0x401001C + g * 0x20) = 0 ∧
    ∀ e ∈ u.closed, e.1 ≠ g

/-- Words and STATE of expert table entry `t`, with its horizon at 0 and no CSEQ of it closed. -/
def TableIs (u : State) (t : Nat) (a b c d e f : W64) : Prop :=
  u.reg (xBase t) = a ∧ u.reg (xBase t + 4) = b ∧ u.reg (xBase t + 8) = c ∧ u.reg (xBase t + 0x10) = d ∧
    u.reg (xBase t + 0x18) = e ∧ u.reg (xBase t + 0x20) = f ∧ u.reg (xBase t + 0x28) = 1 ∧ u.reg (xBase t + 0x2C) = 0 ∧
    ∀ x ∈ u.xclosed, x.1 ≠ t

end Sys2Proof.Claims

/-- R23, R178, R180, R286: a group WRITE is held while a commit runs, and is refused as OPEN or FIELD, writes an AXIS entry at one edge, or waits for its member list;
the end of the list's reading, which waits for the end of a wipe, writes the entry whole or refuses it as LIST; a DELETE leaves nothing of the entry.
Model: notes/assumptions/18.md, 65.md. -/
def Obligations.GroupEntriesCommit : Prop := ∀ (s : State) (g : BitVec 12) (a b c d : W64),
  let a0 := s.regN 0x4000020
  let d0 := s.regN 0x4000030
  let w := if a0.testBit 16 then axisWords s a0 d0 else (a0, s.regN 0x4000024, s.regN 0x4000028)
  let st := 0x400003C
  Idle s →
  (BusFree s 0x4000038 → groupOpen s g.toNat = true →
    (∃ u, exec (.groupWrite g) s = .next u ∧ OnlyReg s u st (statusOf 1)) ∧
    (∃ u, exec (.groupDelete g) s = .next u ∧ OnlyReg s u st (statusOf 1))) ∧
  (BusFree s 0x4000038 → groupOpen s g.toNat = false → groupField s w.1 w.2.1 w.2.2 d0 = true →
    ∃ u, exec (.groupWrite g) s = .next u ∧ OnlyReg s u st (statusOf 2)) ∧
  (BusFree s 0x4000038 → groupOpen s g.toNat = false → groupField s w.1 w.2.1 w.2.2 d0 = false → w.1.testBit 16 = true →
    ∃ u, exec (.groupWrite g) s = .next u ∧
      GroupIs u g.toNat (BitVec.ofNat 64 w.1) (BitVec.ofNat 64 w.2.1) (BitVec.ofNat 64 w.2.2) (BitVec.ofNat 64 d0) ∧
      u.reg st = statusOf 0 ∧ u.mem = s.mem ∧ u.colls = s.colls) ∧
  (BusFree s 0x4000038 → groupOpen s g.toNat = false → groupField s w.1 w.2.1 w.2.2 d0 = false → w.1.testBit 16 = false →
    ∃ u, exec (.groupWrite g) s = .next u ∧ OnlyReg s u st 4 ∧
      u.grpCommit = some ⟨g.toNat, [w.1, w.2.1, w.2.2, d0].map (BitVec.ofNat 64)⟩) ∧
  (mustHold s 0x4000038 true = true → ∃ u, exec (.groupWrite g) s = .next u ∧ u.csr = s.csr ∧
    u.busHeld = s.busHeld ++ [.write 0x4000038 (g.setWidth 64) false]) ∧
  (s.grpCommit.isSome = true → mustHold s 0x4000038 true = true) ∧
  (s.wiping = true → s.busHeld = [] → exec .groupCommitEnd s = .next s) ∧
  (BusFree s 0x4000038 → groupOpen s g.toNat = false → ∃ u, exec (.groupDelete g) s = .next u ∧ u.reg st = statusOf 0 ∧
    (∀ x, 0x4010000 + g.toNat * 0x20 ≤ x → x < 0x4010020 + g.toNat * 0x20 → u.reg x = regReset s.fuses x) ∧
    (∀ e ∈ u.closed, e.1 ≠ g.toNat) ∧ u.mem = s.mem) ∧
  (s.grpCommit = some ⟨g.toNat, [a, b, c, d]⟩ → s.busHeld = [] → s.wiping = false → s.flaws = [] → groupOpen s g.toNat = false →
    Clean s c.toNat (4 * bits b.toNat 17 0) →
    (goodMembers s c.toNat (bits b.toNat 17 0) (bits b.toNat 24 18) → ∃ u, exec .groupCommitEnd s = .next u ∧
      GroupIs u g.toNat a b c d ∧ u.reg st = statusOf 0 ∧ u.grpCommit = none ∧ u.mem = s.mem) ∧
    (¬ goodMembers s c.toNat (bits b.toNat 17 0) (bits b.toNat 24 18) → ∃ u, exec .groupCommitEnd s = .next u ∧
      u.reg st = statusOf 3 ∧ u.reg (0x4010018 + g.toNat * 0x20) = s.reg (0x4010018 + g.toNat * 0x20) ∧ u.grpCommit = none ∧
      u.mem = s.mem))

/-- R225: an expert table WRITE that passes Table 9.2 waits for its expert list and then writes the entry whole; OPEN, FIELD
and LIST refuse it; a DELETE leaves nothing of the entry. Model: notes/assumptions/37.md, 65.md. -/
def Obligations.ExpertTablesCommit : Prop := ∀ (s : State) (t : Fin 64) (a b c d e f : W64),
  let r := fun x => s.regN x
  let bad := tableField s (r 0x4000080) (r 0x4000084) (r 0x4000088) (r 0x4000090) (r 0x4000098) (r 0x40000A0)
  let st := 0x40000AC
  Idle s →
  (BusFree s 0x40000A8 → stepOpen s t.val = true →
    (∃ u, exec (.tableWrite t) s = .next u ∧ OnlyReg s u st (statusOf 1)) ∧
    (∃ u, exec (.tableDelete t) s = .next u ∧ OnlyReg s u st (statusOf 1))) ∧
  (BusFree s 0x40000A8 → stepOpen s t.val = false → bad = true →
    ∃ u, exec (.tableWrite t) s = .next u ∧ OnlyReg s u st (statusOf 2)) ∧
  (BusFree s 0x40000A8 → stepOpen s t.val = false → bad = false →
    ∃ u, exec (.tableWrite t) s = .next u ∧ OnlyReg s u st 4 ∧ u.tabCommit = some ⟨t.val, [s.reg 0x4000080, s.reg 0x4000084,
      s.reg 0x4000088, s.reg 0x4000090, s.reg 0x4000098, s.reg 0x40000A0]⟩) ∧
  (BusFree s 0x40000A8 → stepOpen s t.val = false → ∃ u, exec (.tableDelete t) s = .next u ∧ u.reg st = statusOf 0 ∧
    (∀ x, xBase t.val ≤ x → x < xBase t.val + 0x40 → u.reg x = regReset s.fuses x) ∧
    (∀ x ∈ u.xclosed, x.1 ≠ t.val) ∧ u.mem = s.mem) ∧
  (s.tabCommit = some ⟨t.val, [a, b, c, d, e, f]⟩ → s.busHeld = [] → s.wiping = false → s.flaws = [] → Clean s d.toNat (4 * bits a.toNat 10 0) →
    ((∀ cw ∈ listAt s d.toNat (bits a.toNat 10 0), badCw s cw = false) → ∃ u, exec .tableCommitEnd s = .next u ∧
      TableIs u t.val a b c d e f ∧ u.reg st = statusOf 0 ∧ u.tabCommit = none ∧ u.mem = s.mem) ∧
    ((∃ cw ∈ listAt s d.toNat (bits a.toNat 10 0), badCw s cw = true) → ∃ u, exec .tableCommitEnd s = .next u ∧
      u.reg st = statusOf 3 ∧ u.reg (xBase t.val + 0x28) = s.reg (xBase t.val + 0x28) ∧ u.tabCommit = none ∧ u.mem = s.mem))

/-- R214 to R218: a PARK starts only with every class held and drained, nothing but collectives open, and an area that holds
the save; its end writes the save, closes every collective without an ABORT, and shows PARKED; a RESUME refuses while the
classes are not held or a collective is open; the end of a resume opens what was saved. Model: notes/assumptions/35.md. -/
def Obligations.ParkingSavesTheCollectives : Prop := ∀ (s : State),
  let body := saveBody (saveNow s)
  Idle s → BusFree s 0x4000068 →
  (parkState s = 0 → parkReason s = 0 → ∃ u, exec .park s = .next u ∧ OnlyReg s u 0x400006C 1 ∧ u.colls = s.colls) ∧
  (parkState s = 0 → parkReason s ≠ 0 → ∃ u, exec .park s = .next u ∧
    OnlyReg s u 0x400006C (BitVec.ofNat 64 (8 + 16 * parkReason s)) ∧ u.colls = s.colls) ∧
  (parkState s = 1 → parkOutside s = false → s.wiping = false → Whole s → s.poison = [] → s.flaws = [] → (s.colls.map (fun c => (c.group, c.cseq))).Nodup → ∃ u, exec .parkComplete s = .next u ∧ u.colls = [] ∧
    u.reg 0x400006C = 6 ∧ u.reg 0x4000070 = BitVec.ofNat 64 (32 + body.length) ∧
    u.parkedKeys = s.colls.map (fun c => (c.group, c.cseq)) ∧ (∀ m ∈ u.msgs, m.typ ≠ tContribute) ∧ u.ports = s.ports ∧
    (∀ x, cellGet 0 u.mem x = if parkArea s ≤ x ∧ x < parkArea s + (32 + body.length)
      then (saveHeader s s.colls.length body ++ body).getD (x - parkArea s) 0 else cellGet 0 s.mem x)) ∧
  (parkState s ≠ 1 → parkState s ≠ 3 → heldAndDrained s = false → ∃ u, exec .resume s = .next u ∧
    OnlyReg s u 0x400006C (BitVec.ofNat 64 (parkState s + 8 + 16)) ∧ u.colls = s.colls) ∧
  (parkState s ≠ 1 → parkState s ≠ 3 → heldAndDrained s = true → s.colls ≠ [] → ∃ u, exec .resume s = .next u ∧
    OnlyReg s u 0x400006C (BitVec.ofNat 64 (parkState s + 8 + 32)) ∧ u.colls = s.colls) ∧
  (∀ v t, parkState s ≠ 1 → parkState s ≠ 3 → heldAndDrained s = true → s.colls = [] → readSave s = (0, some v, t) →
    ∃ u, exec .resume s = .next u ∧ u.reg 0x400006C = 3 ∧ u.parked = v.colls ∧ u.parkMsgs = v.msgs ∧
      u.colls = [] ∧ u.mem = t.mem) ∧
  (parkState s = 3 → (∀ c ∈ s.parked, unitAway s c.group (neededEngines s c.group c.desc) = none) → ∃ u, exec .resumeComplete s = .next u ∧ u.reg 0x400006C = 4 ∧ u.parked = [] ∧ u.parkedKeys = [] ∧
    u.msgs = s.msgs ++ s.parkMsgs ∧ u.colls.map (fun c => (c.group, c.cseq)) = s.parked.map (fun c => (c.group, c.cseq)) ∧
    u.mem = s.mem)


/-! ## Collectives -/

namespace Sys2Proof.Claims

/-- The command by which a CONTRIBUTE of step `k` arrives: member data 0, UP 1, DOWN 2, DONE 3, FIN 4, ABORT 5. -/
def stepCmd (k : Fin 6) (n : Fin 64) (p : Packet) : Instr :=
  match k with
  | 0 => .contributeMember n p
  | 1 => .stepUp n p
  | 2 => .stepDown n p
  | 3 => .stepDone n p
  | 4 => .stepFin n p
  | 5 => .stepAbort n p

/-- Packet `p` reaches the handling slice as the CONTRIBUTE `q` of step `k`, in state `t`, and what the slice must read of the store
can be read: no wipe runs, and the entry of the member list is whole. -/
abbrev TakenStep (s : State) (k : Fin 6) (n : Fin 64) (p q : Packet) (t : State) : Prop :=
  Taken s n p q t ∧ q.typ = tContribute ∧ cbStep q = k.val ∧
    (t.wiping = true → readsMember t (cbGroup q) q = false ∧ opensPermute t (cbGroup q) q = false) ∧
    (readsMember t (cbGroup q) q = true → Clean t (grpC t (cbGroup q) + 4 * cbMember q) 4)

/-- State `t` after the slice has read what row 2 of Table 7.5 compares. -/
def listRead (t : State) (q : Packet) : State :=
  if readsMember t (cbGroup q) q then (memberRead (cbGroup q) (cbMember q) t).2 else t

/-- CSEQ `cseq` of group `g` is closed at the switch: listed as closed, or behind the horizon (R185). -/
def ClosedNow (u : State) (g : Nat) (cseq : W32) : Prop :=
  u.closed.contains (g, cseq) = true ∨ 2 ^ 31 ≤ (cseq - grpH u g).toNat

/-- Collective (g, cseq) has ended: its context and its messages' contexts are closed, and its CSEQ counts as closed. -/
def CollEnded (u : State) (g : Nat) (cseq : W32) : Prop :=
  findColl u g cseq = none ∧ (∀ m ∈ u.msgs, ctxOfColl g cseq m = false) ∧ ClosedNow u g cseq

/-- An element as a switch keeps it: a member's is widened for a reduction and converted to RFMT else; a step's is as sent
(R160, R190, R203). -/
def kept (c : Coll) (k : Fin 6) (raw : Nat) : W32 :=
  if k = 0 then (if opReduce (dOp c.desc) then (fmtWiden (dFmt c.desc) raw).1
    else BitVec.ofNat 32 (fmtConv (dFmt c.desc) (dRfmt c.desc) c.convInf raw).1)
  else BitVec.ofNat 32 raw

/-- The value of element `e` of a switch's one partial result, by the order in force (R204, R206, R208). -/
def orderedVal (s : State) (c : Coll) (ks : List CKey) (e : Nat) : Option (W32 × Fl) :=
  if collOrder c = 1 then (nativeVal (collAdd c) (enginesPerQuad s.fuses) (ks.map (fun k => inputVal c k e))).1
  else (chain (collAdd c) ((arrivalOrder c ks e).map (fun k => inputVal c k e))).1

end Sys2Proof.Claims

/-- Table 7.5, R182, R185, R192, R193: a CONTRIBUTE of any step that fails rows 1 to 6 is dropped and opens nothing; a packet of
an open collective with another digest ends it with MISMATCH; one that breaks the layout is dropped with PKT_MALFORMED.
A read of the member list meets the errors of its row, of which the store then holds none. Model: notes/assumptions/39.md, 71.md. -/
def Obligations.ContributionsAreChecked : Prop := ∀ (s : State) (k : Fin 6) (n : Fin 64) (p q : Packet) (t : State),
  let g := cbGroup q
  s.flaws = [] →
  (∀ src f, TakenStep s k n p q t → early t g q = some (src, f) → Does (stepCmd k n p) s (fun u =>
    u.colls = s.colls ∧ u.msgs = s.msgs ∧ u.mem = s.mem ∧ u.ports = t.ports ∧ u.closed = s.closed ∧
      ∀ b, f = some b → (u.reg (blkFlt .csq)).getLsbD b = true)) ∧
  (∀ c, TakenStep s k n p q t → early t g q = none → k ≠ 5 → findColl t g (cbCseq q) = some c → cbDigest q ≠ c.digest →
    Does (stepCmd k n p) s (fun u => CollEnded u g (cbCseq q) ∧ (u.reg (blkFlt .csq)).getLsbD 22 = true ∧ u.mem = s.mem)) ∧
  (∀ c, TakenStep s k n p q t → early t g q = none → k.val ≤ 2 → findColl t g (cbCseq q) = some c → cbDigest q = c.digest →
    cbFmt q = wantFmt c.desc k.val → row12Data t c k.val (cbKey k.val ((stepDir t g k.val q.src).getD 0) q) q = false →
    Does (stepCmd k n p) s (fun u => u.colls = s.colls ∧ u.msgs = s.msgs ∧ u.mem = s.mem ∧
      (u.reg (blkFlt .csq)).getLsbD 2 = true))

/-- R185 to R190, R203, R211: the first good packet of a collective opens it with the registered descriptor of its digest; member
data, UP and DOWN packets that pass Table 7.5 put their elements into their input, as kept at this switch; one for which collective
staging has no place waits in the receive buffer, but for one whose fragment then goes on alone (the model's choice:
notes/assumptions/80.md). Model: notes/assumptions/17.md, 39.md. -/
def Obligations.ContributionsOpenAndFill : Prop := ∀ (s : State) (k : Fin 6) (n : Fin 64) (p q : Packet) (t t1 t2 : State)
    (c : Coll) (m : MsgCtx) (first complete : Bool),
  let g := cbGroup q
  let key := cbKey k.val ((stepDir t g k.val q.src).getD 0) q
  (∀ d, findColl t g (cbCseq q) = none → t.descs.find? (fun d => dDigest d == cbDigest q) = some d → fits t g d = true →
    (t.colls.filter (fun c => c.group % 4 == g % 4)).length < 256 → sliceState t g = .enabled → Whole t →
    (∀ e ∈ neededEngines t g d, (t.engine e).dis = .enabled) → dOp d ≠ 8 →
    ∃ c t1, collFor n.val q g t = (some c, t1) ∧ findColl t1 g (cbCseq q) = some c ∧ c.desc = d ∧ c.digest = cbDigest q ∧
      c.inputs = [] ∧ c.strict = (t.regN 0x88).testBit 0 ∧ c.convInf = convInfNow t ∧ c.tc = q.tc ∧ t1.mem = t.mem) ∧
  (TakenStep s k n p q t → k.val ≤ 2 → early t g q = none → collFor n.val q g (listRead t q) = (some c, t1) →
    cbFmt q = wantFmt c.desc k.val → row12Data t1 c k.val key q = true → msgArrive .csq n.val q t1 = (.counted m first complete, t2) →
    waitsForPlace t1 c k.val key q = true → waitsForPlace t1 (passFragment t1 c key) k.val key q = true → Does (stepCmd k n p) s (fun u => (∃ e ∈ (u.port n.val).rxq, e.pkt = p) ∧
      u.colls = s.colls ∧ u.msgs = s.msgs ∧ u.mem = s.mem ∧ u.csr = s.csr)) ∧
  (TakenStep s k n p q t → k.val ≤ 2 → early t g q = none → collFor n.val q g (listRead t q) = (some c, t1) →
    cbFmt q = wantFmt c.desc k.val → row12Data t1 c k.val key q = true → msgArrive .csq n.val q t1 = (.counted m first complete, t2) →
    waitsForPlace t1 c k.val key q = false → isJoin c.desc k.val q = false → Does (stepCmd k n p) s (fun u => ∃ c' i, findColl u g (cbCseq q) = some c' ∧
      inputOf c' key = some i ∧ i.complete = complete ∧
      (∀ x raw, (x, raw) ∈ (packetElems c.desc (cbFmt q) q).getD [] → tabGet i.elems x = some (kept c k raw)) ∧
      (∀ key', key' ≠ key → inputOf c' key' = inputOf c key') ∧
      c'.desc = c.desc ∧ c'.joins = c.joins ∧ c'.dones = c.dones ∧ c'.outs = c.outs ∧ c'.parts = c.parts ∧ u.mem = t1.mem)) ∧
  (TakenStep s k n p q t → k.val ≤ 2 → early t g q = none → collFor n.val q g (listRead t q) = (some c, t1) →
    cbFmt q = wantFmt c.desc k.val → row12Data t1 c k.val key q = true → msgArrive .csq n.val q t1 = (.counted m first complete, t2) →
    waitsForPlace t1 c k.val key q = true → waitsForPlace t1 (passFragment t1 c key) k.val key q = false →
    Does (stepCmd k n p) s (fun u => ∃ c' i, findColl u g (cbCseq q) = some c' ∧ inputOf c' key = some i ∧ i.complete = complete ∧
      (∀ x raw, (x, raw) ∈ (packetElems c.desc (cbFmt q) q).getD [] → tabGet i.elems x = some (kept c k raw)) ∧
      let f := fragOf (grpN t1 c.group) key
      c'.parts = c.parts ++ [⟨f.1, f.2, [], [], []⟩])) ∧
  (TakenStep s k n p q t → k = 0 → early t g q = none → collFor n.val q g (listRead t q) = (some c, t1) →
    cbFmt q = wantFmt c.desc 0 → row12Data t1 c 0 key q = true → msgArrive .csq n.val q t1 = (.counted m first complete, t2) →
    isJoin c.desc 0 q = true → Does (stepCmd k n p) s (fun u =>
      findColl u g (cbCseq q) = some { c with joins := setAdd c.joins (cbMember q) } ∧ u.mem = t1.mem))

/-- R189, R191, R193: DONE and FIN leave their record with the collective; an ABORT ends it, and goes on to every tree neighbour
but the one it came from and to every local member. Model: notes/assumptions/71.md. -/
def Obligations.DoneFinAndAbortTakeEffect : Prop := ∀ (s : State) (n : Fin 64) (p q : Packet) (t t2 : State) (c : Coll) (m : MsgCtx)
    (first complete : Bool) (cnt code : Nat) (idx : W32) (fl : Fl) (recs : List SegRec),
  let g := cbGroup q
  let dir := (stepDir t g (cbStep q) q.src).getD 0
  parseControl q = some (cnt, idx, fl, code, recs) → early t g q = none →
  (TakenStep s 3 n p q t → findColl t g (cbCseq q) = some c → cbDigest q = c.digest → cbFmt q = 0 → q.cnt = 1 → code = 0 →
    (∀ r ∈ c.dones, r.dir ≠ dir) → msgArrive .csq n.val q t = (.counted m first complete, t2) →
    Does (.stepDone n p) s (fun u => findColl u g (cbCseq q) = some { c with dones := c.dones ++ [⟨dir, cnt, fl, idx, recs⟩] } ∧
      u.mem = s.mem)) ∧
  (TakenStep s 4 n p q t → findColl t g (cbCseq q) = some c → cbDigest q = c.digest → cbFmt q = 0 → q.cnt = 1 → code = 0 →
    c.fin = none → msgArrive .csq n.val q t = (.counted m first complete, t2) →
    Does (.stepFin n p) s (fun u => findColl u g (cbCseq q) = some { c with fin := some ⟨dir, cnt, fl, idx, recs⟩ } ∧
      u.mem = s.mem)) ∧
  (TakenStep s 5 n p q t → q.paylen = 16 → 1 ≤ code → code ≤ 5 → recs = [] → Counted .csq n q t → Does (.stepAbort n p) s (fun u =>
    CollEnded u g (cbCseq q) ∧ u.mem = s.mem ∧ u.msgCtr = s.msgCtr + BitVec.ofNat 32
      (((treeNeighbours t g).filter (fun x => x != neighbour t dir)).length + (localMembers t g).length) ∧
    ∀ g' q', (g', q') ≠ (g, cbCseq q) → findColl u g' q' = findColl s g' q'))

/-- R189, R203 to R208, R247: a stripe of a reduction for which every input has come is combined in the order in force, NATIVE or
ARRIVAL, with the built-in operation, once the runs that add it have begun; the root converts it to RFMT. A switch whose inputs are complete and that owes no UP
message sends DONE. While every class is held nothing is sent: what would be waits (R220).
Model: notes/assumptions/40.md, 71.md. -/
def Obligations.ReductionsFollowTheirOrder : Prop := ∀ (s : State) (g : BitVec 12) (cseq : W32) (c : Coll) (ks : List CKey)
    (k e : Nat),
  let n := g.toNat
  findColl s n cseq = some c → coreOn s = true → Whole s → s.poison = [] → s.flaws = [] →
  (opReduce (dOp c.desc) = true → dProg c.desc = 0 → collOrder c ≠ 2 → c.parts = [] →
    fullInputs s c = some ks → k < stripes c → (∀ x ∈ ks, hasStripe c x k = true) → stripeBegun s c k = true → 512 * k ≤ e → e < 512 * (k + 1) →
    e < dElem c.desc → Does (.upTraffic g cseq) s (fun u => ∃ c' x, findColl u n cseq = some c' ∧ partOf c' 0 0 = some x ∧
      k ∈ x.stripes ∧ tabGet x.vals e = (orderedVal s c ks e).map (fun v =>
        if grpRoot s n then BitVec.ofNat 32 (fmtNarrow (dRfmt c.desc) c.convInf v.1).1 else v.1) ∧ u.mem = s.mem)) ∧
  (opReduce (dOp c.desc) = true → dProg c.desc = 0 → collOrder c ≠ 2 → c.parts = [] → stripeBegun s c k = false →
    Does (.upTraffic g cseq) s (fun u => ∀ c' x, findColl u n cseq = some c' → partOf c' 0 0 = some x → k ∉ x.stripes)) ∧
  (opReduce (dOp c.desc) = false → s.wiping = false → dOp c.desc ≠ 5 → dOp c.desc ≠ 6 → grpRoot s n = false → inputsIn s c = true →
    Does (.upTraffic g cseq) s (fun u => ∃ c', findColl u n cseq = some c' ∧ c'.doneSent = true ∧ c'.inputs = c.inputs ∧
      u.mem = s.mem)) ∧
  (allHeld s = true → Does (.upTraffic g cseq) s (fun u => u.ports = s.ports ∧ ∃ l, u.collWait = s.collWait ++ l ∧
    ∀ e ∈ l, e.1 = n % 4 ∧ (e.2.2.typ = tContribute ∨ e.2.2.typ = tResult)))

/-- R191, R194, R195, R214, R220: a collective that is finished sends FIN to its children and COMPLETION to its members and
closes; one that is not is left alone; a timeout ends it with COLL_TIMEOUT, but not while every class is held, the CSQ parks or
the switch is halted. Model: notes/assumptions/2.md. -/
def Obligations.CollectivesFinishOrTimeOut : Prop := ∀ (s : State) (g : BitVec 12) (cseq : W32) (c : Coll),
  let n := g.toNat
  findColl s n cseq = some c → coreOn s = true → Whole s →
  (finishable s c = true → allHeld s = false → Does (.collFinish g cseq) s (fun u => CollEnded u n cseq ∧ u.mem = s.mem ∧
    u.msgCtr = s.msgCtr + BitVec.ofNat 32 ((kids s n).length +
      (localMembers s n).length * (if dSegen c.desc then (dSegs s c.desc).length else 1)) ∧
    ∀ g' q', (g', q') ≠ (n, cseq) → findColl u g' q' = findColl s g' q')) ∧
  (finishable s c = false ∨ allHeld s = true → exec (.collFinish g cseq) s = .next s) ∧
  (allHeld s = false → halted s = false → parking s = false → Does (.collTimeout g cseq) s (fun u => CollEnded u n cseq ∧ u.mem = s.mem ∧
    (u.reg (blkFlt .csq)).getLsbD 28 = true ∧ u.msgCtr = s.msgCtr + BitVec.ofNat 32
      ((treeNeighbours s n).length + (localMembers s n).length))) ∧
  (allHeld s = true ∨ halted s = true ∨ parking s = true → exec (.collTimeout g cseq) s = .next s)

/-! ## Expert dispatch and combine -/

namespace Sys2Proof.Claims

/-- The command by which a DISPATCH for this switch arrives: from an endpoint a token dispatch or a source seal, from a trunk a
switch copy or a switch seal. -/
def dispatchCmd (trunk ctl : Bool) (n : Fin 64) (p : Packet) : Instr :=
  match trunk, ctl with
  | false, false => .tokenDispatch n p
  | false, true => .sourceSeal n p
  | true, false => .switchCopy n p
  | true, true => .switchSeal n p

/-- The store holds no latent error, and the expert list of table `b` no poison: the owners read as they stand (R32, R33). -/
abbrev ListClean (s : State) (b : Nat) : Prop := s.flaws = [] ∧ ∀ e, e < xNexp s b → Clean s (xList s b + 4 * e) 4

/-- Packet `p` reaches the handling slice as the DISPATCH `q` of that kind, in state `t`, and passes rows 1 to 5 of Table 9.4. -/
abbrev TakenDispatch (s : State) (trunk ctl : Bool) (n : Fin 64) (p q : Packet) (t : State) : Prop :=
  Taken s n p q t ∧ ListClean s (xTable q) ∧ isDispatch n.val trunk ctl t q = true ∧ xActive t (xTable q) = true ∧ kindOk9 t n.val q = true ∧
    xDiff t (xTable q) q < 8 ∧ t.xclosed.contains (xTable q, xStepNo t (xTable q) q) = false

/-- The gate weights of a context, in order of rank, as the store holds them in BF16 or FP32 (R230). -/
def gateList (s : State) (c : Comb) : List W32 :=
  let sz := if c.gwfmt = 0 then 2 else 4
  ((chunksOf sz 8 (cellRead 0 s.mem c.gwptr (c.experts.length * sz))).map leNat).map (BitVec.ofNat 32)

/-- A gate weight is +0 or -0. -/
def noWeight (gwfmt : Nat) (w : W32) : Bool := w.toNat % 2 ^ (if gwfmt = 0 then 15 else 31) == 0

/-- Bytes a context's gate weights take. -/
def gateLen (c : Comb) : Nat := c.experts.length * (if c.gwfmt = 0 then 2 else 4)

/-- CSEQ `q` of table `t` is closed at the switch (R229). -/
def StepClosed (u : State) (t : Nat) (q : W32) : Prop :=
  findStep u t q = none ∧ (u.xclosed.contains (t, q) = true ∨ 2 ^ 31 ≤ (q - xH u t).toNat)

end Sys2Proof.Claims

/-- Table 9.4, R229: a DISPATCH for this switch that fails rows 1 to 5 is dropped with the fault of its row, and opens neither a
step nor a combine context. Model: notes/assumptions/36.md. -/
def Obligations.DispatchesAreChecked : Prop := ∀ (s : State) (trunk ctl : Bool) (n : Fin 64) (p q : Packet) (t : State),
  let b := xTable q
  let same := fun (u : State) => u.xsteps = s.xsteps ∧ u.combs = s.combs ∧ u.msgs = s.msgs ∧ u.mem = s.mem ∧ u.ports = t.ports
  Taken s n p q t → ListClean s b → isDispatch n.val trunk ctl t q = true →
  (xActive t b = false → Does (dispatchCmd trunk ctl n p) s (fun u => same u ∧ (u.reg (blkFlt .csq)).getLsbD 29 = true)) ∧
  (xActive t b = true → kindOk9 t n.val q = false → Does (dispatchCmd trunk ctl n p) s (fun u => same u ∧
    (u.reg (blkFlt .csq)).getLsbD 30 = true)) ∧
  (xActive t b = true → kindOk9 t n.val q = true → 8 ≤ xDiff t b q → xDiff t b q < 32768 →
    Does (dispatchCmd trunk ctl n p) s (fun u => same u ∧ (u.reg (blkFlt .csq)).getLsbD 31 = true)) ∧
  (xActive t b = true → kindOk9 t n.val q = true → (32768 ≤ xDiff t b q ∨ (xDiff t b q < 8 ∧
    t.xclosed.contains (b, xStepNo t b q) = true)) → Does (dispatchCmd trunk ctl n p) s (fun u => same u ∧ u.raised = t.raised))

/-- R229, R230, R173, R210: a good packet of a step that is not open opens it; the first packet of a token opens its combine
context, with every rank open and the row kept; a whole row counts for its port. Model: notes/assumptions/36.md, 37.md. -/
def Obligations.TokensOpenTheirContexts : Prop := ∀ (s : State) (n : Fin 64) (p q : Packet) (t t' : State) (x : XStep) (ctx : Nat)
    (m : MsgCtx) (complete : Bool),
  let b := xTable q
  let cs := xStepNo t b q
  let c : Comb := ⟨b, cs, xToken q, BitVec.ofNat 32 q.src, BitVec.ofNat 32 q.msgId, ctx, n.val, q.tc, x.convInf, x.strict, xExperts q,
    xGwptr q, xGwfmt q, [], [], false, List.replicate (xK q) .open, [(n.val, q)], complete, false⟩
  TakenDispatch s false false n p q t → row6 t q = true →
  (findStep t b cs = some x → findMsg t (BitVec.ofNat 32 q.src) (BitVec.ofNat 32 q.msgId) = none → findComb t b cs (xToken q) = none →
    freeCtx t b = some ctx → (t.engine (combEngine t b ctx)).dis = .enabled → msgArrive .csq n.val q t = (.counted m true complete, t') →
    Does (.tokenDispatch n p) s (fun u => u.combs = s.combs ++ [c] ∧ u.mem = s.mem ∧
      findStep u b cs = some (if complete then { x with tokens := tabAdd x.tokens n.val 1 } else x))) ∧
  (findStep t b cs = none → findMsg t (BitVec.ofNat 32 q.src) (BitVec.ofNat 32 q.msgId) = none → sliceState t b = .enabled → Does (.tokenDispatch n p) s (fun u => ∃ y, findStep u b cs = some y ∧
    y.port = n.val ∧ y.tc = q.tc ∧ y.strict = (t.regN 0x88).testBit 0 ∧ y.convInf = convInfNow t ∧ y.sealed = [] ∧ y.seals = [] ∧
    y.batches = [] ∧ u.mem = s.mem)) ∧
  (findStep t b cs = none → sliceState t b ≠ .enabled → Does (.tokenDispatch n p) s (fun u => u.xsteps = s.xsteps ∧
    u.combs = s.combs ∧ (u.reg (blkFlt .csq)).getLsbD 37 = true ∧ u.mem = s.mem))

/-- R230, R231, R238, R268: the gate weights are read; a rank of weight zero is skipped, one already resolved stays so; and the row
is copied once to each other batch switch that owns an expert of a rank that is not skipped. A poisoned granule in the weights
(R230), and weights that reach beyond END, close the context with no copy. Model: notes/assumptions/17.md, 38.md. -/
def Obligations.GateWeightsChooseTheRanks : Prop := ∀ (s : State) (t : Fin 64) (cseq : W32) (token : BitVec 24) (c : Comb) (x : XStep),
  let ws := gateList s c
  let c1 : Comb := { c with
    owners := c.experts.map (xOwner s t.val), weights := ws, known := true
    ranks := (c.ranks.zip ws).map (fun r => if noWeight c.gwfmt r.2 then RankSt.skipped else r.1) }
  findComb s t.val cseq token.toNat = some c → coreOn s = true → Whole s → s.wiping = false → c.known = false → s.flaws = [] →
  (c.gwptr + gateLen c ≤ storeEnd → c.complete = false → Clean s c.gwptr (gateLen c) →
    (∀ e ∈ c.experts, Clean s (xList s t.val + 4 * e) 4) → findStep s t.val cseq = some x →
    Does (.gateWeightsReturn t cseq token) s (fun u => findComb u t.val cseq token.toNat = some c1 ∧ u.mem = s.mem ∧
      ∃ y, findStep u t.val cseq = some y ∧ y.batches = x.batches ∧ y.sealed = x.sealed ∧
        ∀ w, tabOr y.copies w 0 = tabOr x.copies w 0 + (if w ∈ copyDsts s c1 then 1 else 0))) ∧
  (storeEnd < c.gwptr + gateLen c ∨ (∃ g ∈ granules c.gwptr (gateLen c), s.poison.contains g = true) →
    Does (.gateWeightsReturn t cseq token) s (fun u => findComb u t.val cseq token.toNat = none ∧ u.mem = s.mem))

/-- R232, R234, R236: a seal leaves its count with the step, by port or by switch; a whole switch copy is counted; and a source
switch whose ports are sealed and whose tokens are all in sends one seal to each other batch switch.
Model: notes/assumptions/36.md, 37.md. -/
def Obligations.SealsCloseTheSources : Prop := ∀ (s : State) (n : Fin 64) (p q : Packet) (t t' : State) (x : XStep) (m : MsgCtx)
    (first : Bool) (b : Fin 64) (cseq : W32),
  let cs := xStepNo t (xTable q) q
  (TakenDispatch s false true n p q t → row6 t q = true → findStep t (xTable q) cs = some x →
    msgArrive .csq n.val q t = (.counted m first true, t') → Does (.sourceSeal n p) s (fun u => u.mem = s.mem ∧
      findStep u (xTable q) cs = some { x with sealed := tabSet x.sealed n.val (leNat (q.data.take 4)) })) ∧
  (TakenDispatch s true true n p q t → isEndpoint t n.val = false → row6 t q = true → findStep t (xTable q) cs = some x →
    msgArrive .csq n.val q t = (.counted m first true, t') → Does (.switchSeal n p) s (fun u => u.mem = s.mem ∧
      findStep u (xTable q) cs = some { x with seals := tabSet x.seals (cwSw q.src) (leNat (q.data.take 4)) })) ∧
  (TakenDispatch s true false n p q t → isEndpoint t n.val = false → row6 t q = true → findStep t (xTable q) cs = some x →
    msgArrive .csq n.val q t = (.counted m first true, t') → Does (.switchCopy n p) s (fun u =>
      ∃ y, findStep u (xTable q) cs = some y ∧ y.copiesIn = x.copiesIn + 1 ∧ y.seals = x.seals ∧ y.closed = x.closed)) ∧
  (TakenDispatch s true false n p q t → isEndpoint t n.val = false → row6 t q = true → findStep t (xTable q) cs = some x →
    msgArrive .csq n.val q t = (.counted m first false, t') → Does (.switchCopy n p) s (fun u =>
      findStep u (xTable q) cs = some x ∧ u.mem = s.mem ∧ u.bpm = s.bpm)) ∧
  (findStep s b.val cseq = some x → coreOn s = true → Whole s → s.wiping = false → ListClean s b.val → isSource s b.val = true →
    x.sealsSent = false →
    (∀ k, k < 64 → (xPorts s b.val).testBit k = true → tabGet x.sealed k = some (tabOr x.tokens k 0)) →
    (∀ c ∈ s.combs, c.table = b.val → c.cseq = cseq → c.known = true) → isBatch s b.val = true → x.closed = false →
    Does (.switchSealsSend b cseq) s (fun u => findStep u b.val cseq = some { x with sealsSent := true } ∧ u.mem = s.mem ∧
      u.msgCtr = s.msgCtr + BitVec.ofNat 32 ((batchSwitches s b.val).filter (fun w => w != ownSw s)).length)) ∧
  (findStep s b.val cseq = some x → Whole s → x.sealsSent = true → exec (.switchSealsSend b cseq) s = .next s)

/-- R233, R234, R236, R237: the batch of an expert gets its buffer and takes in the rows that waited, in slots from 0; without
a free buffer they are refused; the step closes its batches when every seal and copy is in, with one notice an expert here.
Model: notes/assumptions/17.md, 37.md, 71.md. -/
def Obligations.BatchesFillAndClose : Prop := ∀ (s : State) (t : Fin 64) (cseq : W32) (e i k : Nat) (x : XStep) (b : Batch),
  findStep s t.val cseq = some x → coreOn s = true → Whole s → s.wiping = false → s.flaws = [] → Clean s (xList s t.val + 4 * e) 4 →
  (findBatch x e = some b → b.given = false → b.failed = false → b.rows = [] → poolFor true (xBatchSize s t.val) = some k → freeIndex s k 0 = some i →
    b.waiting.length ≤ xCap s t.val → Does (.batchAlloc t cseq e) s (fun u => ∃ y b' buf, findStep u t.val cseq = some y ∧
      findBatch y e = some b' ∧ b'.given = true ∧ b'.failed = false ∧ b'.waiting = [] ∧
      b'.rows = (b.waiting.zip (List.range b.waiting.length)).map (fun r => { r.1 with slot := r.2 }) ∧
      u.bpm.bufs = s.bpm.bufs ++ [buf] ∧ b'.handle = handleOf buf ∧ buf.index = i ∧
      buf.owners = [BitVec.ofNat 32 (xOwner s t.val e)] ∧ y.seals = x.seals ∧ y.closed = x.closed)) ∧
  (findBatch x e = some b → b.given = false → freeIndex s ((poolFor true (xBatchSize s t.val)).getD 7) 0 = none →
    Does (.batchAlloc t cseq e) s (fun u => ∃ y b', findStep u t.val cseq = some y ∧ findBatch y e = some b' ∧ b'.given = true ∧
      b'.failed = true ∧ b'.rows = b.rows ∧ b'.waiting = [] ∧ u.bpm.bufs = s.bpm.bufs)) ∧
  (closable s x = true → ListClean s t.val → isSource s t.val = true → (∃ c ∈ s.combs, c.table = t.val ∧ c.cseq = cseq) → Does (.dispatchClose t cseq) s (fun u =>
      findStep u t.val cseq = some { x with closed := true } ∧ u.msgCtr = s.msgCtr + BitVec.ofNat 32 ((List.range (xNexp s t.val)).filter (xLocal s t.val)).length)) ∧
  (closable s x = true → ListClean s t.val → isSource s t.val = false → Does (.dispatchClose t cseq) s (fun u => StepClosed u t.val cseq)) ∧
  (closable s x = false → exec (.dispatchClose t cseq) s = .next s)

/-- R238, Table 9.6: an output for an open rank is staged in the combine area and, whole, resolves its rank; an OVERCAP notice
resolves it so; an output that finds no context is discarded and changes no context. Model: notes/assumptions/17.md, 38.md. -/
def Obligations.OutputsResolveTheirRanks : Prop := ∀ (s : State) (n : Fin 64) (p q : Packet) (t t' : State) (c : Comb) (m : MsgCtx)
    (first complete : Bool),
  let b := xTable q
  let sz := fmtSize (xOfmt t b)
  let a := xComb t b + (c.ctx * xKmax t b + xK q) * xOS t b + xOff q * sz
  let bs := q.data.take ((xElems t b - xOff q) * sz)
  ListClean s b →
  (Taken s n p q t → q.typ = tExpertOut → q.ssvc = false → outCheck t q = .ok c →
    msgArrive .csq n.val q t = (.counted m first complete, t') → Clean s a bs.length → Does (.expertOutput n p) s (fun u =>
      (∀ y, cellGet 0 u.mem y = if a ≤ y ∧ y < a + bs.length then bs.getD (y - a) 0 else cellGet 0 s.mem y) ∧
      findComb u c.table c.cseq c.token = some (if complete then setRank (xK q) .done c else c) ∧ u.xsteps = s.xsteps)) ∧
  (Taken s n p q t → q.typ = tExpertOut → q.ssvc = true → outCheck t q = .ok c →
    msgArrive .csq n.val q t = (.counted m first complete, t') → Does (.overcapNotice n p) s (fun u =>
      findComb u c.table c.cseq c.token = some (setRank (xK q) .overcap c) ∧ u.mem = s.mem ∧ u.xsteps = s.xsteps)) ∧
  (∀ cmd, cmd ∈ [Instr.expertOutput n p, .overcapNotice n p] → Taken s n p q t → q.typ = tExpertOut →
    (q.ssvc = true ↔ cmd = .overcapNotice n p) → outCheck t q = .discard → Does cmd s (fun u =>
      u.combs = s.combs ∧ u.mem = s.mem ∧ u.xsteps = s.xsteps ∧ u.raised = t.raised)) ∧
  (∀ cmd f, cmd ∈ [Instr.expertOutput n p, .overcapNotice n p] → Taken s n p q t → q.typ = tExpertOut →
    (q.ssvc = true ↔ cmd = .overcapNotice n p) → outCheck t q = .fault f → Does cmd s (fun u =>
      u.combs = s.combs ∧ u.mem = s.mem ∧ u.xsteps = s.xsteps ∧ (u.reg (blkFlt .csq)).getLsbD f = true))

/-- R239 to R241, R247: a combine starts when its weights are known and every rank is resolved, and its run waits outside a run
queue of 32; its end sends the row, each element combined in order of rank by a multiplication and then fused multiply-adds, with
the weights widened, and converted to FMT, and closes the context (the row waits for room in the window of R118); a timeout closes a context, or a step with its contexts, with
EXP_TIMEOUT. Model: notes/assumptions/17.md, 38.md. -/
def Obligations.CombinesSendTheirResult : Prop := ∀ (s : State) (t : Fin 64) (cseq : W32) (token : BitVec 24) (c : Comb) (r : Run)
    (x : XStep) (outs : List (W32 × List Nat)) (v : State),
  let e := combEngine s t.val c.ctx
  let start : QRun := ⟨8, .combine t.val cseq token.toNat, [], true, c.convInf⟩
  let room := decide ((s.engine e).queue.length < 32) && (s.engine e).heldRuns.isEmpty
  let row := (List.range (xElems s t.val)).map (fun i =>
    combElem c.convInf (xFmt s t.val) (xOfmt s t.val) c.gwfmt (outs.map (fun o => (o.1, o.2.getD i 0))))
  let result := fun (ovr : Nat) (fl : Fl) (first : Nat) => mkPacket tCombineResult c.tc c.toksrc.toNat false s.msgCtr 0 1
    (elemBytes (xFmt s t.val) (row.map Prod.fst)) (resultFields s t.val c.cseq c.token 0 outs.length ovr fl first)
  let answers := fun (u : State) => findComb u t.val cseq token.toNat = none ∧ u.mem = s.mem ∧
    ∀ r' ∈ (u.engine e).runs, ofComb c r'.origin = false
  let ends := findComb s t.val cseq token.toNat = some c ∧ s.wiping = false ∧ s.flaws = [] ∧
    (s.engine e).runs.find? (fun r => ofComb c r.origin) = some r ∧ readOutputs e c s = ([], outs, v) ∧
    xElems s t.val * fmtSize (xFmt s t.val) ≤ 2048 ∧ 0 < xElems s t.val
  coreOn s = true → Whole s →
  (findComb s t.val cseq token.toNat = some c → c.known = true → c.started = false → (∀ k ∈ c.ranks, k ≠ .open) →
    Does (.combineRun t cseq token) s (fun u => findComb u t.val cseq token.toNat = some { c with started := true } ∧
      (u.engine e).queue = (s.engine e).queue ++ (if room then [start] else []) ∧
      (u.engine e).heldRuns = (s.engine e).heldRuns ++ (if room then [] else [start]) ∧ u.mem = s.mem)) ∧
  (findComb s t.val cseq token.toNat = some c → (c.known = false ∨ RankSt.open ∈ c.ranks) →
    exec (.combineRun t cseq token) s = .next s) ∧
  (ends → windowRoom s (t.val % 4) = true → Does (.combineDone t cseq token) s (fun u => answers u ∧ ∃ w' ovr fl first,
    w'.mem = s.mem ∧ w'.combs = s.combs ∧ u = closeComb c (originate (t.val % 4) (result ovr fl first) w'))) ∧
  (ends → windowRoom s (t.val % 4) = false → Does (.combineDone t cseq token) s (fun u => answers u ∧ u.ports = s.ports ∧
    ∃ ovr fl first, u.results = s.results ++ [⟨t.val % 4, s.msgCtr, false, [result ovr fl first]⟩])) ∧
  (∀ (w : W32) o ci f g gw, let wide := fun (v : W32) => (fmtWiden (if gw = 0 then 1 else 0) v.toNat).1
    (combElem ci f g gw [(w, o)]).1 = (fmtNarrow f ci (fmul ci (wide w) (fmtWiden g o).1).1).1 ∧
    (∀ w' o', (combElem ci f g gw [(w, o), (w', o')]).1 =
      (fmtNarrow f ci (ffma ci (wide w') (fmtWiden g o').1 (fmul ci (wide w) (fmtWiden g o).1).1).1).1)) ∧
  (findStep s t.val cseq = some x → halted s = false → Does (.stepTimeout t cseq) s (fun u => StepClosed u t.val cseq ∧
    (u.reg (blkFlt .csq)).getLsbD 34 = true ∧ u.mem = s.mem ∧
    u.combs = s.combs.filter (fun c => !(c.table == t.val && c.cseq == cseq)))) ∧
  (findComb s t.val cseq token.toNat = some c → halted s = false → Does (.combineTimeout t cseq token) s (fun u =>
    findComb u t.val cseq token.toNat = none ∧ (u.reg (blkFlt .csq)).getLsbD 34 = true ∧ u.mem = s.mem))

/-! ## Faults, restart, throttling, the safety partition, flash and check values -/

namespace Sys2Proof.Claims

/-- The reaction set `r` is made of reactions among those listed, and ERR_PIN. -/
abbrev OnlyReacts (r : Nat) (ks : List Nat) : Prop := ∀ k, k < 7 → k ≠ 4 → k ∉ ks → r.testBit k = false

/-- The switch starts afresh after a chip reset of cause `c` (R341, Table 15.2): start-up has begun, the wipe runs, nothing of
the fabric side is left, and fuses, flash and pins are kept. -/
def StartsAfresh (s u : State) (c : Nat) : Prop :=
  bootState u = 1 ∧ u.wiping = true ∧ u.field 0x200010 1 0 = c ∧ u.mem = [] ∧ u.colls = [] ∧ u.msgs = [] ∧ u.milestones = [] ∧
    u.bpm = Bpm.reset ∧ u.ports = State.reset.ports ∧ u.hep.sessions = Hep.reset.sessions ∧ u.fuses = s.fuses ∧ u.flash = s.flash ∧
    u.pending = s.pending

/-- The arguments of a SAP request: those after the key number of a signed one. -/
def sapArgs (req : Nat) (buf : List Byte) : List Byte := if signed15 req then slice buf 8 2048 else buf

/-- The reason a SAP request is refused for, or 0 (R356 to R358): STATE, then KEY and SIGNATURE, then the others. -/
def sapWhy (req : Nat) (buf : List Byte) (s : State) : Nat :=
  if stateReason req s then 1 else if signed15 req ∧ signReason req buf s ≠ 0 then signReason req buf s
  else argReason req (sapArgs req buf) s

/-- Command `c` submits request `req` with the buffer as it stands: the mailbox is BUSY with it, and nothing else changes. -/
def Submits (s : State) (c : Instr) (req : Nat) : Prop :=
  ∃ u, exec c s = .next u ∧ u.reg 0x104 = 4 ∧ u.boot.sapReq = some (req, regBytes s 0x2000 5136) ∧ u.fuses = s.fuses ∧ u.mem = s.mem ∧
    ∀ x, x ≠ 0x104 → u.reg x = s.reg x

/-- A SAP request is refused with reason `why`; what it would change is as it was. -/
def SapRefused (s u : State) (why : Nat) : Prop :=
  u.reg 0x104 = BitVec.ofNat 64 (2 + 16 * why) ∧ u.fuses = s.fuses ∧ u.boot.sapReq = none ∧ u.mem = s.mem ∧
    ∀ a, a ≠ 0x104 → a ≠ 0x100008 → u.reg a = s.reg a

end Sys2Proof.Claims

/-- R322 to R332, Table 14.2, Table 14.3: a write of BLOCK_FLT_INJECT and the watchdog set sticky bits, a latched halt
notwithstanding for the watchdog; a source with an empty
set does nothing more; STOP_WAVE halts the switch, at the end of its cycle, INTERRUPT and TRAP make one event each, in COLLECTED mode one for all sources of a cycle, CHIP_RESET starts the chip afresh
with its cause, LATCH_HALT latches and loses the store; and what BLOCK_RESET does to each block: the queues of a port unit go and it
trains, an engine's runs end and the collectives that need it close, the CSQ's work closes, the store's message contexts and responses
end, the pools, milestones and meters are as they were at first. Model: notes/assumptions/49.md, 50.md, 69.md. -/
def Obligations.FaultsReactByTheirSets : Prop := ∀ (s : State) (b : Blk) (n : Nat) (v : W64) (k : Fin 64),
  let r := reactSet s n
  let own := ownSw s
  (held s = false → BusFree s (blkFlt b + 8) → blkAbsent s b = false → Does (.blockFltInject b v) s (fun u => u.mem = s.mem ∧ u.ports = s.ports ∧
    ∀ k, k < 64 → (u.reg (blkFlt b)).getLsbD k = ((s.reg (blkFlt b)).getLsbD k || (v.getLsbD k && (blkSources b).testBit k)))) ∧
  (held s = false → mustHold s (blkFlt b + 8) true = true → exec (.blockFltInject b v) s =
    .next { s with busHeld := s.busHeld ++ [.write (blkFlt b + 8) v false] }) ∧
  (held s = false → BusFree s (blkFlt b + 8) → blkAbsent s b = true → exec (.blockFltInject b v) s = .next s) ∧
  (held s = false → Does .mgcWatchdog s (fun u => (u.reg 0xF000).getLsbD 43 = true ∧ u.mem = s.mem ∧ u.ports = s.ports)) ∧
  (s.raised = [(b, n)] → n < 64 → OnlyReacts r [] → settle s = { s with raised := [] }) ∧
  (s.raised = [(b, n)] → n < 64 → OnlyReacts r [5] → r.testBit 5 = true → latched s = false → restarting s = false →
    halted s = false → IsHalted (settle s) own ((s.regN 0x60 + 1) % 2 ^ 16) ∧ (settle s).mem = s.mem ∧
      (settle s).reg 0x60 = BitVec.ofNat 64 ((s.regN 0x60 + 1) % 2 ^ 16)) ∧
  (s.raised = [(b, n)] → n < 64 → OnlyReacts r [0, 1] → (settle s).mem = s.mem ∧ (settle s).hep.nextEseq = s.hep.nextEseq +
    (if r.testBit 0 then 1 else 0) + (if r.testBit 1 then 1 else 0)) ∧
  (s.raised = [(b, n)] → n < 64 → r.testBit 6 = false → r.testBit 3 = true → coreOn s = true →
    StartsAfresh s (settle s) 2 ∧ (settle s).field 0x200010 13 8 = n ∧ (settle s).field 0x200010 21 16 = blkFaultBlock b ∧
      (settle s).field 0x200010 31 31 = 1 ∧ (settle s).field 0x200010 2 2 = (if r.testBit 4 then 1 else 0)) ∧
  (∀ b' n', s.raised = [(b, n), (b', n')] → n < 64 → n' < 64 → OnlyReacts r [0] → OnlyReacts (reactSet s n') [0] → r.testBit 0 = true →
    collected s = true → (settle s).hep.nextEseq = s.hep.nextEseq + 1) ∧
  (s.raised = [(b, n)] → n < 64 → OnlyReacts r [5] → r.testBit 5 = true → coreOn s = true → restarting s = false →
    s.now % 2 = 0 → s.wrote = [] → s.msuLast = [] → s.ecbPend = [] → halted (tick s) = true ∧ (tick s).raised = []) ∧
  (s.raised = [(b, n)] → n < 64 → r.testBit 6 = true → latched s = false → s.busHeld = [] → latched (settle s) = true ∧ (settle s).mem = [] ∧
    (settle s).field 0x200018 13 8 = n ∧ (settle s).field 0x200018 21 16 = blkFaultBlock b ∧ coreOn (settle s) = false) ∧
  ((blockReset .csq s).colls = [] ∧ (blockReset .csq s).xsteps = [] ∧ (blockReset .csq s).combs = [] ∧ (blockReset .csq s).mem = s.mem) ∧
  (((blockReset (.pu k) s).port k.val).egress = [] ∧ ((blockReset (.pu k) s).port k.val).linkLocal = [] ∧
    ((blockReset (.pu k) s).port k.val).replay = [] ∧ (portsLive s = true → (s.port k.val).link ≠ .disabled →
      ((blockReset (.pu k) s).port k.val).link = .detect ∧ ((blockReset (.pu k) s).port k.val).failed = 0)) ∧
  (((blockReset (.j k) s).engine k.val).runs = [] ∧ ((blockReset (.j k) s).engine k.val).queue = [] ∧
    (∀ c ∈ (blockReset (.j k) s).colls, k.val ∉ c.engines) ∧ (blockReset (.j k) s).mem = s.mem) ∧
  ((blockReset .tsc s).resps = [] ∧ (blockReset .tsc s).mem = s.mem ∧ (blockReset .tsc s).milestones = s.milestones ∧
    ∀ m, m ∈ (blockReset .tsc s).msgs ↔ m ∈ s.msgs ∧ m.typ ≠ 0x01 ∧ m.typ ≠ 0x04 ∧ m.typ ≠ 0x05) ∧
  (∀ i m, i < 64 → m < 256 → (s.regN (meterAddr i m)).testBit 28 = true →
    let owner := bits (s.regN (meterAddr i m)) 27 16
    let v := (blockReset .tcu s).regN (meterAddr i m)
    bits v 7 0 = cCbs (conC s owner) ∧ bits v 15 8 = cPbs (conC s owner)) ∧
  ((blockReset .glb s).hep.events = s.hep.events.filter (fun e => e.sent)) ∧
  ((blockReset .bpm s).bpm.bufs = [] ∧ (blockReset .msu s).milestones = [] ∧ (blockReset .msu s).waits = [] ∧
    blockReset .rte s = s ∧ blockReset .ecb s = s)

/-- R328, R337, R338, Table 14.5: GLB_RESTART is refused unless the switch is halted, no fault with STOP_WAVE pends and no
restart runs; a restart drops all work of the fabric and keeps the store unless it wipes it; its end, for which the replays must be done, lets the switch run.
Model: notes/assumptions/18.md, 61.md. -/
def Obligations.RestartsClearTheFabric : Prop := ∀ (s : State) (wipe : Bool) (n : Fin 64),
  Idle s →
  (halted s = false → ∃ u, exec (.restartGo wipe) s = .next u ∧ u.field 0x94 3 2 = 2 ∧ u.field 0x94 7 4 = 1 ∧ u.colls = s.colls ∧
    u.ports = s.ports) ∧
  (halted s = true → pendingFault s = true → ∃ u, exec (.restartGo wipe) s = .next u ∧ u.field 0x94 3 2 = 2 ∧
    u.field 0x94 7 4 = 2 ∧ u.colls = s.colls ∧ u.ports = s.ports) ∧
  (halted s = true → pendingFault s = false → restarting s = true → ∃ u, exec (.restartGo wipe) s = .next u ∧
    u.field 0x94 3 2 = 2 ∧ u.field 0x94 7 4 = 3 ∧ u.colls = s.colls ∧ u.ports = s.ports) ∧
  (halted s = true → pendingFault s = false → restarting s = false → Does (.restartGo wipe) s (fun u =>
    u.field 0x94 1 0 = 2 ∧ u.rack.restarting = true ∧ u.colls = [] ∧ u.closed = [] ∧ u.xsteps = [] ∧ u.combs = [] ∧ u.msgs = [] ∧
      u.releases = [] ∧ u.resps = [] ∧ u.results = [] ∧ u.collWait = [] ∧ u.seqCtr = 0 ∧ u.field 0x30 0 0 = 0 ∧ u.waits = [] ∧ u.milestones = [] ∧ u.bpm.bufs = [] ∧ (u.port n.val).replay = (s.port n.val).replay ∧ (u.port n.val).rxq = [] ∧
      (s.colls = [] → (u.port n.val).egress = []) ∧ (present s n.val = true → (u.engine n.val).runs = [] ∧ (u.engine n.val).queue = [] ∧
        (u.engine n.val).heldRuns = []) ∧
      ((wipe || (s.regN 0x100220).testBit 0) = false → u.mem = s.mem ∧ u.poison = s.poison) ∧
      ((wipe || (s.regN 0x100220).testBit 0) = true → u.wiping = true ∧ ∀ x, (x < regionBase s ∨ regionEnd s ≤ x) → x < storeEnd →
        cellGet 0 u.mem x = 0))) ∧
  (halted s = false → restarting s = false → ∃ u, exec .restartHalt s = .next u ∧
    IsHalted u (ownSw s) ((s.regN 0x60 + 1) % 2 ^ 16) ∧ u.mem = s.mem ∧ u.colls = s.colls) ∧
  (restarting s = true → ∃ u, exec .restartHalt s = .next u ∧ u.rack.stopDeferred = true ∧ u.csr = s.csr ∧ u.ports = s.ports) ∧
  (restarting s = true → replaysLeft s = true → exec .restartEnd s = .next s) ∧
  (restarting s = true → replaysLeft s = false → (s.rack.restartWipe = true → s.wiping = false) → s.rack.stopDeferred = false →
    ∃ u, exec .restartEnd s = .next u ∧ halted u = false ∧ u.field 0x94 1 0 = 0 ∧ u.field 0x94 3 2 = 1 ∧
      u.rack.restarting = false ∧ u.hep.nextEseq = s.hep.nextEseq + 1 ∧ u.mem = s.mem) ∧
  (restarting s = true → replaysLeft s = false → (s.rack.restartWipe = true → s.wiping = false) → s.rack.stopDeferred = true →
    ∃ u, exec .restartEnd s = .next u ∧ IsHalted u (ownSw s) ((s.regN 0x60 + 1) % 2 ^ 16) ∧ u.rack.stopDeferred = false)

/-- R411 to R413: a reading of the sensors sets the junction temperature, the thermal level with its hysteresis, and the
faults at the first level and at the critical temperature, and it falls by one for each level left; a power window raises or lowers the
power level by one; and the clock runs at the higher level from the end of an eight-cycle pattern on. -/
def Obligations.TemperatureAndPowerThrottle : Prop := ∀ (s : State) (temps : List (BitVec 16)) (watts : Nat),
  let tj := (temps.map (fun t => t.toInt)).foldl max (-32768)
  let cur := s.field 0xC0 17 16
  let pow := s.field 0xC0 19 18
  let lim := s.field 0x100208 10 0
  held s = false →
  (temps.length = 28 → Does (.thermalReading temps) s (fun u =>
    (∀ k, k < 28 → u.reg (0x200 + 4 * k) = (temps.getD k 0).setWidth 64) ∧ u.field 0xC0 15 0 = (tj % 65536).toNat ∧
    u.field 0xC0 17 16 = thermalLevel s tj ∧ u.field 0xC0 19 18 = pow ∧ u.field 0xB000000 3 2 = s.field 0xB000000 3 2 ∧
    (cur = 0 → thermalLevel s tj ≠ 0 → (u.reg 0xF000).getLsbD 40 = true) ∧
    (((s.field 0x100200 23 16 * 16 : Nat) : Int) ≤ tj → (u.reg 0xF000).getLsbD 41 = true) ∧ u.mem = s.mem ∧ u.ports = s.ports)) ∧
  (cur = 0 → (∀ k, 1 ≤ k → k ≤ 3 → tj < enterAt s k) → thermalLevel s tj = 0) ∧
  (enterAt s 3 ≤ tj → thermalLevel s tj = 3) ∧
  (∀ m, m ≤ cur → (∀ k, cur < k → k ≤ 3 → tj < enterAt s k) →
    (∀ k, 1 ≤ k → k ≤ m → enterAt s k - ((s.field 0x100200 15 8 * 16 : Nat) : Int) ≤ tj) →
    (∀ k, m < k → k ≤ cur → tj < enterAt s k - ((s.field 0x100200 15 8 * 16 : Nat) : Int)) → thermalLevel s tj = m) ∧
  (Does (.powerWindowEnd watts) s (fun u => u.field 0xC0 42 32 = min watts 2047 ∧ u.field 0xC0 17 16 = cur ∧
    u.field 0xC0 19 18 = (if lim < watts then min 3 (pow + 1) else if 100 * watts < 95 * lim then pow - 1 else pow) ∧
    u.field 0xB000000 3 2 = s.field 0xB000000 3 2 ∧
    (lim < watts → pow = 3 → (u.reg 0xF000).getLsbD 42 = true) ∧ u.mem = s.mem ∧ u.ports = s.ports)) ∧
  (s.raised = [] → s.wrote = [] → s.msuLast = [] → s.ecbPend = [] → tabSorted s.csr = true → reactSet s 19 = 0 →
    (tick s).field 0xB000000 3 2 = if s.now % 2 = 1 then max cur pow else s.field 0xB000000 3 2)

/-- R357 to R360, Table 15.10: a request of the mailbox runs with the buffer as it stood; at its end it is refused with the
reason of its table, or the fuses, the life cycle or the register it names change as it says. Each of provision, addKey, revokeKey,
deploy, retire, raiseSvn and sapSet completes while no request runs, and sapRequestDone while one does.
Model: notes/assumptions/7.md, 41.md, 46.md. -/
def Obligations.SapRequestsChangeTheFuses : Prop := ∀ (s : State) (buf : List Byte) (k : Fin 7),
  let req := k.val + 1
  let args := sapArgs req buf
  let a := leNat (args.take 1)
  let s0 := { s with boot := { s.boot with sapReq := none } }
  let why := sapWhy req buf s0
  let hash := Config.shake256 (args.take 1793)
  let runs := s.boot.sapReq = some (req, buf) ∧ why = 0
  held s = false →
  (s.boot.sapReq = none → Submits s .provision 1 ∧ Submits s .addKey 2 ∧ Submits s .revokeKey 3 ∧ Submits s .deploy 4 ∧
    Submits s .retire 5 ∧ Submits s .raiseSvn 6 ∧ Submits s .sapSet 7) ∧
  (s.boot.sapReq ≠ none → (∃ u, exec .sapRequestDone s = .next u ∧ u.boot.sapReq = none) ∧
    ∀ c ∈ [Instr.provision, .addKey, .revokeKey, .deploy, .retire, .raiseSvn, .sapSet], exec c s = .next s) ∧
  (s.boot.sapReq = some (req, buf) → why ≠ 0 → ∃ u, exec .sapRequestDone s = .next u ∧ SapRefused s u why) ∧
  (runs → k = 0 → latched s = false → ∃ u, exec .sapRequestDone s = .next u ∧ u.fuses = { s.fuses with
    hashes := s.fuses.hashes.set 0 hash, prog := s.fuses.prog ||| 1, sealKey := slice args 1808 32, lcState := 1 } ∧ bootState u = 1) ∧
  (runs → k = 1 → ∃ u j, exec .sapRequestDone s = .next u ∧ j < 4 ∧ s.fuses.prog.getLsbD j = false ∧
    (∀ i, i < j → s.fuses.prog.getLsbD i = true) ∧ u.reg 0x104 = 1 ∧ u.fuses = { s.fuses with
    hashes := s.fuses.hashes.set j hash, prog := s.fuses.prog ||| BitVec.ofNat 4 (2 ^ j) }) ∧
  (runs → k = 2 → ∃ u, exec .sapRequestDone s = .next u ∧ u.reg 0x104 = 1 ∧
    u.fuses = { s.fuses with revoked := s.fuses.revoked ||| BitVec.ofNat 4 (2 ^ a) }) ∧
  (runs → k = 3 → latched s = false → ∃ u, exec .sapRequestDone s = .next u ∧ u.fuses = { s.fuses with lcState := 2 } ∧
    bootState u = 1) ∧
  (runs → k = 4 → latched s = false → ∃ u, exec .sapRequestDone s = .next u ∧
    u.fuses = { s.fuses with lcState := 3, sealKey := List.replicate 32 0 } ∧ bootState u = 1) ∧
  (runs → k = 5 → ∃ u, exec .sapRequestDone s = .next u ∧ u.reg 0x104 = 1 ∧ u.fuses = { s.fuses with minSvn := a }) ∧
  (runs → k = 6 → ∃ u x, exec .sapRequestDone s = .next u ∧ u.reg 0x104 = 1 ∧ u.fuses = s.fuses ∧
    setTarget a (leNat (slice args 4 4)) (leNat (slice args 8 4)) = some x ∧ u.reg x = BitVec.ofNat 64 (leNat (slice args 8 4)))

/-- R361, R382 to R384, R386, R387, R389 to R391: flash is read, erased by 64-KiB blocks and programmed; the events of a cycle
that match a counter's select while RUN is 1 are added to it at the end of the cycle 16 later; a snapshot copies every event counter to the other bank; and a
check-value unit takes its initial value, its bytes and its value. Model: notes/assumptions/8.md, 14.md, 47.md. -/
def Obligations.FlashSnapshotsAndCheckValues : Prop := ∀ (s : State) (op a len : Nat) (data : List Byte) (n : Fin 8) (v : W32) (w : W64)
    (b : BitVec 8) (h : BitVec 16),
  let val := cvuBase n.val + 0x10
  let poly := s.field (cvuBase n.val) 1 0
  let feed := fun (bs : List Byte) => bs.foldl (cvuByte poly) (s.reg val)
  let bank := 1 - s.field 0x300010 0 0
  held s = false →
  (∀ c, [Instr.nvmRead, .nvmErase, .nvmProgram][op]? = some c → nvmReason op s = 0 → ∃ u, exec c s = .next u ∧
    u.reg 0xA000010 = 4 ∧ u.boot.nvmOp = some (op, s.regN 0xA000008, s.regN 0xA00000C,
      if op = 2 then regBytes s 0xA001000 (s.regN 0xA00000C) else []) ∧ u.flash = s.flash) ∧
  (∀ c, [Instr.nvmRead, .nvmErase, .nvmProgram][op]? = some c → nvmReason op s ≠ 0 → ∃ u, exec c s = .next u ∧
    u.reg 0xA000010 = BitVec.ofNat 64 (2 + (if s.boot.nvmOp.isSome then 4 else 0) + 16 * nvmReason op s) ∧
    u.boot = s.boot ∧ u.flash = s.flash) ∧
  (s.boot.nvmOp = some (op, a, len, data) → ∃ u, exec (.nvmOperationDone false) s = .next u ∧ u.reg 0xA000010 = 0x42 ∧
    u.boot.nvmOp = none ∧ u.flash = s.flash) ∧
  (s.boot.nvmOp = some (0, a, len, data) → ∃ u, exec (.nvmOperationDone true) s = .next u ∧ u.flash = s.flash ∧
    u.boot.nvmOp = none ∧ regBytes u 0xA001000 len = cellRead 0xFF s.flash a len) ∧
  (s.boot.nvmOp = some (1, a, len, data) → ∃ u, exec (.nvmOperationDone true) s = .next u ∧ u.reg 0xA000010 = 1 ∧
    ∀ x, cellGet 0xFF u.flash x = if x / 65536 = a / 65536 then 0xFF else cellGet 0xFF s.flash x) ∧
  (s.boot.nvmOp = some (2, a, len, data) → ∃ u, exec (.nvmOperationDone true) s = .next u ∧ u.reg 0xA000010 = 1 ∧
    ∀ x, cellGet 0xFF u.flash x = if a ≤ x ∧ x < a + data.length then data.getD (x - a) 0xFF else cellGet 0xFF s.flash x) ∧
  (tabSorted s.csr = true → s.ecbPend = [] → s.rack.snapAt ≠ some s.now → ∃ u, exec .snapshotNow s = .next u ∧ u.field 0x300010 0 0 = bank ∧ u.field 0x300010 1 1 = 1 ∧
    u.field 0x300010 31 16 = (s.field 0x300010 31 16 + 1) % 65536 ∧ u.reg (0x300018 + 8 * bank) = s.reg 0x48 ∧
    ∀ k, k < 256 → tabGet u.csr (0x303000 + bank * 0x800 + 8 * k) = tabGet s.csr (0x302000 + 8 * k) ∧
      tabGet u.csr (0x302000 + 8 * k) = tabGet s.csr (0x302000 + 8 * k)) ∧
  (s.rack.snapAt = some s.now → s.field 0x300010 1 1 = 0 → exec .snapshotNow s = .next s) ∧
  (tabSorted s.csr = true → ∀ k, k < 256 → tabOr (ecbSteps s.csr s.evts) k 0 = if bit (tabOr s.csr 0x300000 1).toNat 0 then ((s.evts.filter (fun o =>
      ecbMatch (s.regN (0x301000 + 8 * k)) o.src o.port o.tc o.grp)).map (fun o => o.n)).sum else 0) ∧
  (∀ t old, tabSorted s.csr = true → s.ecbPend = (old, t) :: [] → old + 16 = s.now → ecbSteps s.csr s.evts = [] → (∀ x ∈ t, x.1 < 256) →
    (t.map Prod.fst).Nodup → (ecbEndCycle s).evts = [] ∧ (ecbEndCycle s).ecbPend = [] ∧ ∀ k, k < 256 →
      (ecbEndCycle s).regN (0x302000 + 8 * k) = (s.regN (0x302000 + 8 * k) + tabOr t k 0) % 2 ^ 64) ∧
  (s.ecbPend = [] → ecbSteps s.csr s.evts ≠ [] → (ecbEndCycle s).csr = s.csr ∧ (ecbEndCycle s).evts = [] ∧
    (ecbEndCycle s).ecbPend = [(s.now, ecbSteps s.csr s.evts)]) ∧
  (∃ u, exec (.cvuInit n) s = .next u ∧ OnlyReg s u val (cvuInitial poly)) ∧
  (∃ u, exec (.cvuCfgWrite n v) s = .next u ∧ u.reg (cvuBase n.val) = BitVec.ofNat 64 (v.toNat % 4) ∧
    u.reg val = cvuInitial (v.toNat % 4) ∧ ∀ x, x ≠ cvuBase n.val → x ≠ val → u.reg x = s.reg x) ∧
  (∃ u, exec (.cvuFeedB n b) s = .next u ∧ OnlyReg s u val (feed [b])) ∧
  (∃ u, exec (.cvuFeedH n h) s = .next u ∧ OnlyReg s u val (feed [h.setWidth 8, (h >>> 8).setWidth 8])) ∧
  (∃ u, exec (.cvuFeedW n v) s = .next u ∧
    OnlyReg s u val (feed [v.setWidth 8, (v >>> 8).setWidth 8, (v >>> 16).setWidth 8, (v >>> 24).setWidth 8])) ∧
  (∃ u, exec (.cvuValWrite n w) s = .next u ∧ OnlyReg s u val (w &&& cvuMask poly))

/-- R7 to R11, R21 to R24, R323: an access of another width than the register's, or off its first address, is refused and only raises the
MGC's bus-error trap; one where no register is changes nothing; one that the bus must hold joins those held; a select register of
the event counters keeps its written fields; a 1 clears a sticky bit that the hardware does not set in the same cycle, and a 0
leaves it, and a source that came again in that cycle, its bit standing, reacts again; registers of the safety partition are not written over the management bus. Model: notes/assumptions/24.md, 65.md. -/
def Obligations.RegisterWritesFollowTheMap : Prop := ∀ (s : State) (a : W32) (w : Nat) (v : W64) (k : Fin 256) (b : Blk) (e : Fin 64),
  held s = false →
  (accessKind a.toNat w = .absent → exec (.registerWrite a w v) s = .next s) ∧
  (accessKind a.toNat w = .refused → exec (.registerWrite a w v) s = .next { s with mgcTraps := s.mgcTraps + 1 }) ∧
  (∀ r, accessKind a.toNat w = .performed r → mustHold s a.toNat true = true → exec (.registerWrite a w v) s =
    .next { s with busHeld := s.busHeld ++ [.write a.toNat (if w = 4 then v &&& 0xFFFFFFFF else v) false] }) ∧
  (0x100000 ≤ a.toNat → a.toNat < 0x200000 → accessKind a.toNat w ≠ .refused → BusFree s a.toNat →
    exec (.registerWrite a w v) s = .next s) ∧
  (BusFree s (0x301000 + 8 * k.val) → ∃ u, exec (.registerWrite (BitVec.ofNat 32 (0x301000 + 8 * k.val)) 8 v) s = .next u ∧
    (∀ x, x ≠ 0x301000 + 8 * k.val → u.reg x = s.reg x) ∧
    ∀ i, i < 64 → (u.reg (0x301000 + 8 * k.val)).getLsbD i = if i < 39 then v.getLsbD i else (s.reg (0x301000 + 8 * k.val)).getLsbD i) ∧
  (blkAbsent s b = false → BusFree s (blkFlt b) → Does (.registerWrite (BitVec.ofNat 32 (blkFlt b)) 8 v) s (fun u =>
    OnlyReg s u (blkFlt b) (s.reg (blkFlt b) &&& ~~~ (v &&& ~~~ setNow s (blkFlt b))) ∧
      u.raised = s.again.filter (fun x => x.1 == b && v.getLsbD x.2))) ∧
  (present s e.val = false → ∀ i, i < 0x40000 → accessKind (jBase e.val + i) w ≠ .refused → BusFree s (jBase e.val + i) → exec (.registerWrite (BitVec.ofNat 32 (jBase e.val + i)) w v) s = .next s)

/-! ## Pins, resets and start-up -/

namespace Sys2Proof.Claims

/-- The chip is held in reset with nothing of the fabric side left, its cause of reset in FCO_RESET_CAUSE (R341, R420). -/
def HeldEmpty (s u : State) (c : Nat) : Prop :=
  held u = true ∧ u.field 0x200010 1 0 = c ∧ bootState u = 0 ∧ u.mem = [] ∧ u.colls = [] ∧ u.bpm = Bpm.reset ∧
    u.ports = State.reset.ports ∧ u.fuses = s.fuses ∧ u.flash = s.flash ∧ u.pending = s.pending

/-- Start-up begins (Table 15.2): straps sampled, the root PLL locked, the wipe running. -/
def Begins (u : State) (straps : Straps) : Prop :=
  bootState u = 1 ∧ u.wiping = true ∧ u.reg 0x24 = BitVec.ofNat 64 (straps.x.toNat + straps.y.toNat * 64 + straps.z.toNat * 4096) ∧
    u.field 0x20 18 18 = b2n straps.discMode ∧ u.field 0xA0 5 5 = b2n straps.nvmQspi ∧ u.field 0xB000000 0 0 = 1 ∧
    u.field 0x6000020 0 0 = 1

/-- The copy in hand is given up for reason `why` (R346, Table 15.6): the other copy is read, or recovery mode entered. -/
def CopyFails (s u : State) (why : Nat) : Prop :=
  u.field 0xA0 (11 + 4 * s.boot.copy) (8 + 4 * s.boot.copy) = why ∧ u.boot.copy = s.boot.copy + 1 ∧
    (s.boot.copy = 0 → s.fuses.lcState ≠ 0 → s.fuses.lcState ≠ 3 → bootState u = 2 ∧ u.boot.read = 0) ∧
    (s.boot.copy = 1 → bootState u = 7)

end Sys2Proof.Claims

/-- R27, R330, R341, R344, R399, R401, R404, R408, R420: RST_N and TEST_EN hold the chip, a rail below its threshold holds it and
loses every record, their release and REBOOT begin start-up; a latched halt heeds no pin; the clock's status bits; and in a chip
reset GATE_EPOCH is high impedance and NVM_RESET_N low. Each of rstNAssert, rstNRelease, testEnAssert, testEnRelease, undervoltage
and railsAboveThreshold completes in every state, and reboot, refclkLoss, refclkReturn and
serdesPllLock in every state in which the chip runs. Model: notes/assumptions/3.md, 8.md, 10.md, 50.md, 67.md. -/
def Obligations.PinsHoldAndStartTheChip : Prop := ∀ (s : State) (straps : Straps),
  ((∃ u, exec .rstNAssert s = .next u ∧ u.pins.rstN = false) ∧
    (∃ u, exec (.rstNRelease straps) s = .next u ∧ u.pins.rstN = true ∧ u.pins.straps = straps) ∧
    (∃ u, exec .testEnAssert s = .next u ∧ u.pins.testEn = true) ∧ (∃ u, exec .testEnRelease s = .next u ∧ u.pins.testEn = false) ∧
    (∃ u, exec .undervoltage s = .next u ∧ u.pins.railsOk = false) ∧
    (∃ u, exec .railsAboveThreshold s = .next u ∧ u.pins.railsOk = true)) ∧
  (held s = true → gateEpoch s = none ∧ nvmResetN s = false) ∧
  (latched s = false → s.pins.railsOk = true → (∃ u, exec .rstNAssert s = .next u ∧ HeldEmpty s u 1 ∧ u.pins.rstN = false) ∧
    (∃ u, exec .testEnAssert s = .next u ∧ HeldEmpty s u 1 ∧ u.pins.testEn = true)) ∧
  (latched s = true → exec .rstNAssert s = .next { s with pins := { s.pins with rstN := false } } ∧
    exec .testEnAssert s = .next { s with pins := { s.pins with testEn := true } }) ∧
  (latched s = false → s.pins.railsOk = true → s.pins.rstN = false → s.pins.testEn = false →
    ∃ u, exec (.rstNRelease straps) s = .next u ∧ Begins u straps ∧ u.pins.rstN = true ∧ u.pins.straps = straps) ∧
  (latched s = false → s.pins.railsOk = true → s.pins.rstN = true → s.pins.testEn = true →
    ∃ u, exec .testEnRelease s = .next u ∧ Begins u s.pins.straps ∧ u.pins.testEn = false) ∧
  (∃ u, exec .undervoltage s = .next u ∧ HeldEmpty s u 0 ∧ u.pins.railsOk = false) ∧
  (s.pins.railsOk = false → s.pins.rstN = true → s.pins.testEn = false → latched s = false →
    ∃ u, exec .railsAboveThreshold s = .next u ∧ Begins u s.pins.straps ∧ u.pins.railsOk = true) ∧
  (coreOn s = true → ∃ u, exec .reboot s = .next u ∧ StartsAfresh s u 1) ∧
  (latched s = true → exec .reboot s = .next s) ∧
  (held s = false → Does .refclkLoss s (fun u => (u.reg (blkFlt .clk)).getLsbD 13 = true ∧ u.field 0xB000000 0 0 = 0 ∧
    u.field 0xB000000 8 8 = 1 ∧ u.mem = s.mem ∧ u.ports = s.ports)) ∧
  (held s = false → ∃ u, exec .refclkReturn s = .next u ∧ u.field 0xB000000 0 0 = 1 ∧ ∀ a, a ≠ 0xB000000 → u.reg a = s.reg a) ∧
  (coreOn s = true → ∃ u, exec .serdesPllLock s = .next u ∧ u.field 0xB000000 1 1 = 1 ∧ ∀ a, a ≠ 0xB000000 → u.reg a = s.reg a)

/-- R286, R346 to R349, R353: the end of the wipe starts the reading of a copy, or recovery in a life cycle that boots no
image; each stage of a copy goes on when its rows of Table 15.6 pass and gives the copy up when one fails; a copy that passes
them all is applied, its firmware in MGC SRAM. Each of wipeComplete, imageHeaderRead, sectionTableRead and imageReadComplete
completes at its stage. Model: notes/assumptions/7.md, 18.md, 43.md, 44.md, 72.md. -/
def Obligations.ImageCopiesAreReadAndVerified : Prop := ∀ (s : State) (ok : Bool),
  let boots := s.fuses.lcState ≠ 0 ∧ s.fuses.lcState ≠ 3 ∧ s.boot.copy ≤ 1
  (held s = false → s.wiping = true → s.busHeld = [] → s.bulkWait = [] → ∃ u, exec .wipeComplete s = .next u ∧ u.wiping = false ∧ u.field 0x6000020 0 0 = 0 ∧
    u.mem = s.mem ∧ (bootState s = 1 → boots → bootState u = 2 ∧ u.boot.read = 0) ∧
    (bootState s = 1 → ¬ boots → bootState u = 7 ∧ u.hep.nextEseq = s.hep.nextEseq + 1) ∧ (bootState s ≠ 1 → bootState u = bootState s)) ∧
  (coreOn s = true → bootState s = 2 → (s.boot.read = 0 → ∃ u, exec (.imageHeaderRead ok) s = .next u ∧
      (u.boot.read = 1 ∨ u.boot.copy = s.boot.copy + 1)) ∧
    (s.boot.read = 1 → ∃ u, exec (.sectionTableRead ok) s = .next u ∧ (u.boot.read = 2 ∨ u.boot.copy = s.boot.copy + 1)) ∧
    (s.boot.read = 2 → ∃ u, exec (.imageReadComplete ok) s = .next u ∧ (bootState u = 4 ∨ u.boot.copy = s.boot.copy + 1))) ∧
  (coreOn s = true → bootState s = 2 → s.boot.read = 0 → ok = true → headerReason s = 0 →
    exec (.imageHeaderRead ok) s = .next { s with boot := { s.boot with read := 1 } }) ∧
  (coreOn s = true → bootState s = 2 → s.boot.read = 0 → s.boot.copy ≤ 1 → ok = true → headerReason s ≠ 0 →
    ∃ u, exec (.imageHeaderRead ok) s = .next u ∧ CopyFails s u (headerReason s)) ∧
  (coreOn s = true → bootState s = 2 → s.boot.read = 1 → ok = true → sectionsBad s = false →
    exec (.sectionTableRead ok) s = .next { s with boot := { s.boot with read := 2 } }) ∧
  (coreOn s = true → bootState s = 2 → s.boot.read = 1 → s.boot.copy ≤ 1 → ok = true → sectionsBad s = true →
    ∃ u, exec (.sectionTableRead ok) s = .next u ∧ CopyFails s u 8) ∧
  (coreOn s = true → bootState s = 2 → s.boot.copy ≤ 1 → ok = false →
    (s.boot.read = 0 → ∃ u, exec (.imageHeaderRead ok) s = .next u ∧ CopyFails s u 1) ∧
    (s.boot.read = 1 → ∃ u, exec (.sectionTableRead ok) s = .next u ∧ CopyFails s u 1) ∧
    (s.boot.read = 2 → ∃ u, exec (.imageReadComplete ok) s = .next u ∧ CopyFails s u 1)) ∧
  (coreOn s = true → bootState s = 2 → s.boot.read = 2 → s.boot.copy ≤ 1 → ok = true →
    Config.falconVerify (img s 256 1793) (imgDigest s) (img s (imgLen s - 1280) 1280) = false →
    ∃ u, exec (.imageReadComplete ok) s = .next u ∧ CopyFails s u 9) ∧
  (coreOn s = true → bootState s = 2 → s.boot.read = 2 → ok = true →
    Config.falconVerify (img s 256 1793) (imgDigest s) (img s (imgLen s - 1280) 1280) = true → hostKeyBad s = false →
    sapsetBad ((sectBytes s 1).getD []) = false → layoutBad (planMode s) ((sectBytes s 2).getD []) (sectBytes s 4) = false →
    layoutAbsent s ((sectBytes s 2).getD []) = true → s.boot.copy ≤ 1 →
    ∃ u, exec (.imageReadComplete ok) s = .next u ∧ CopyFails s u 13) ∧
  (coreOn s = true → bootState s = 2 → s.boot.read = 2 → ok = true →
    Config.falconVerify (img s 256 1793) (imgDigest s) (img s (imgLen s - 1280) 1280) = true → hostKeyBad s = false →
    sapsetBad ((sectBytes s 1).getD []) = false → layoutBad (planMode s) ((sectBytes s 2).getD []) (sectBytes s 4) = false →
    layoutAbsent s ((sectBytes s 2).getD []) = false →
    ∃ u, exec (.imageReadComplete ok) s = .next u ∧ bootState u = 4 ∧ u.boot.phase = .regs ∧ u.boot.idx = 0 ∧
      u.boot.regs = readRecs ((sectBytes s 6).getD []) ∧ u.boot.late = readRecs ((sectBytes s 7).getD []) ∧
      u.boot.svn = imgN s 12 1 ∧ u.mgcSram = (sectBytes s 3).getD [] ∧ u.mgcOn = true ∧ u.hep.hostKey = (sectBytes s 5).map (unsealKey s) ∧ u.fuses = s.fuses ∧
      ∀ x, cellGet 0 u.mem x = if stagingBase ≤ x ∧ x < stagingBase + imgLen s then (img s 0 (imgLen s)).getD (x - stagingBase) 0
        else cellGet 0 s.mem x)

/-- R350 to R354, R90, R91, R94: a register record writes its register and the next comes; one that fails ends its section, REGS with a
fresh start-up and LATE with its status; the final checks apply the configuration or fail the copy; the window's close turns
pending ports MISSING and makes the switch READY; LATE_GO begins LATE; and opening the start gate sends START to each endpoint port
that is UP with FABVER 1 when the gate was shut. Each of regsRecord, commitBusyTimeout, finalChecks, discoveryWindowClose,
fabricReady, lateGo and startGateOpen completes where it is due.
Model: notes/assumptions/12.md, 18.md, 44.md, 45.md, 63.md, 72.md, 75.md. -/
def Obligations.RecordsApplyAndTheFabricOpens : Prop :=
  (∀ (s : State) (n : Nat), n < 64 → Idle s →
    ∃ u, exec .startGateOpen s = .next u ∧ u.field 0x30 0 0 = 1 ∧ u.mem = s.mem ∧ u.colls = s.colls ∧
      (s.field 0x30 0 0 = 0 → (u.port n).link = (s.port n).link ∧ (u.port n).linkLocal.length = (s.port n).linkLocal.length +
        (if isEndpoint s n = true ∧ (s.port n).link = .up ∧ 1 ≤ (s.port n).fabver then 1 else 0)) ∧
      (s.field 0x30 0 0 = 1 → u.ports = s.ports)) ∧
  (∀ (s : State) (r : RegRec),
    let w := if r.kind = 2 then 8 else 4
    let t := busWrite r.addr w r.value false s
    coreOn s = true →
    (s.boot.phase = .regs → s.boot.waiting = false → s.boot.regs[s.boot.idx]? = some r → recordReason s r = 0 →
      BusFree s r.addr → Whole s → (r.kind ≠ 3 ∨ accessKind r.addr 4 = .absent) → t.boot.phase = .regs → exec .regsRecord s = .next { t with boot := { t.boot with idx := t.boot.idx + 1, waiting := false } }) ∧
    (s.boot.phase = .regs → s.boot.waiting = false → s.boot.regs[s.boot.idx]? = some r → recordReason s r ≠ 0 →
      BusFree s r.addr → Whole s → s.boot.copy ≤ 1 → ∃ u, exec .regsRecord s = .next u ∧ bootState u = 1 ∧ u.wiping = true ∧
        u.field 0xA0 (11 + 4 * s.boot.copy) (8 + 4 * s.boot.copy) = recordReason s r ∧ u.boot.copy = s.boot.copy + 1 ∧
        u.mem = [] ∧ u.colls = [] ∧ u.fuses = s.fuses ∧ u.flash = s.flash) ∧
    (s.boot.phase = .late → s.boot.waiting = true → s.boot.late[s.boot.idx]? = some r → r.busyBit ≠ 0xFF →
      ((busRead s (r.addr + 4) 4).getD 0).toNat.testBit r.busyBit = true → ∃ u, exec .commitBusyTimeout s = .next u ∧
        u.reg 0xAC = BitVec.ofNat 64 (2 + 14 * 16 + s.boot.idx % 65536 * 256) ∧ u.boot.phase = .idle ∧
        (∀ a, a ≠ 0xAC → u.reg a = s.reg a)) ∧
    (bootState s = 4 → s.boot.phase = .regs → s.boot.waiting = false → s.boot.regs.length ≤ s.boot.idx → linkCfgOk s = true →
      bpmLegal s (fun a => s.regN a) = true → Does .finalChecks s (fun u => bootState u = 5 ∧ u.boot.applied = true ∧
        u.boot.windowOpen = placed s ∧ u.field 0xA0 4 4 = s.boot.copy % 2 ∧
        (∀ x, stagingBase ≤ x → x < storeEnd → cellGet 0 u.mem x = 0) ∧ u.colls = s.colls)) ∧
    (bootState s = 4 → s.boot.phase = .regs → s.boot.waiting = false → s.boot.regs.length ≤ s.boot.idx → linkCfgOk s = false →
      s.boot.copy ≤ 1 → ∃ u, exec .finalChecks s = .next u ∧ bootState u = 1 ∧ u.wiping = true ∧
        u.field 0xA0 (11 + 4 * s.boot.copy) (8 + 4 * s.boot.copy) = 11 ∧ u.boot.copy = s.boot.copy + 1) ∧
    (s.boot.windowOpen = true → s.boot.applied = true → placed s = true → ready s = false → bootState s = 5 →
      ∃ u, exec .discoveryWindowClose s = .next u ∧ u.boot.windowOpen = false ∧ bootState u = 6 ∧ ready u = true ∧ u.mem = s.mem ∧
        ∀ n, n < 64 → (s.port n).link ≠ .disabled → (s.port n).role ≠ roleNone → (s.port n).disc = .pending →
          (u.port n).disc = .missing ∧ (u.port n).link = .heldDown) ∧
    (portsLive s = true → ready s = false → bootState s = 5 → (s.boot.windowOpen = true → noPending s = true) →
      ∃ u, exec .fabricReady s = .next u ∧ bootState u = 6 ∧ ready u = true ∧ u.hep.nextEseq = s.hep.nextEseq + 1 ∧
        u.ports = s.ports ∧ u.mem = s.mem) ∧
    (bootState s = 6 → s.field 0xAC 2 2 = 0 → s.field 0xAC 1 0 ≠ 1 → ∃ u, exec .lateGo s = .next u ∧ u.field 0xAC 2 2 = 1 ∧
      u.boot.phase = .late ∧ u.boot.idx = (if s.field 0xAC 1 0 = 2 then s.field 0xAC 23 8 else 0) ∧ u.boot.waiting = false ∧
      ∀ a, a ≠ 0xAC → u.reg a = s.reg a))
/-! ## The host ports -/

namespace Sys2Proof.Claims

/-- Host port `n` has sent one frame more, and nothing else of it has changed. -/
def Sends (s u : State) (n : Nat) (o : HostOut) : Prop :=
  (u.host n).out = (s.host n).out ++ [o] ∧ (u.host n).link = (s.host n).link ∧ u.csr = s.csr ∧ u.mem = s.mem ∧
    u.hep.sessions = s.hep.sessions ∧ u.hep.events = s.hep.events

/-- The host block holds two ports and four session slots. -/
abbrev HostShape (s : State) : Prop := s.hep.ports.length = 2 ∧ s.hep.sessions.length = 4

/-- A message reaches the check of its type: the chip runs, the port is up, the carrier is on, the header is one of a request. -/
abbrev Reaches (s : State) (h : Fin 2) (m : YmpFrame) (typ : Nat) : Prop :=
  held s = false ∧ (s.host h.val).link = true ∧ carrierOn s h.val m = true ∧ ympDropped m = false ∧ YmpFrame.typ m = typ

/-- The state in which a request is performed: its codewords are counted, its CTR is taken; and, unless it is refused for what it
asks, its sender is the events' destination (R371, R379, R381). -/
def accepted (s : State) (h : Nat) (m : YmpFrame) : State :=
  let r := hostCodewords h m.fec s
  let t := if YmpFrame.auth m then ctrAccept m r else r
  if requestRefused h m t then t else t.setHost h { t.host h with lastReq := some (YmpFrame.dest m) }

/-- The request is well formed and authentic, no event waits to be sent, and it is performed in state `v` with key `key` for its answer. -/
abbrev Accepted (s : State) (h : Fin 2) (m : YmpFrame) (typ : Nat) (key : Option (List Byte)) (v : State) : Prop :=
  Reaches s h m typ ∧ ympMalformed m = false ∧ (YmpFrame.auth m = true → ympAuthentic s m = true) ∧ unsentEvents s = [] ∧
    v = accepted s h.val m ∧ key = answerKey s m

/-- The command by which a request of type `typ` arrives. -/
def ympCmd (typ : Nat) (h : Fin 2) (m : YmpFrame) : Option Instr :=
  if typ = 1 then some (.ympRead h m) else if typ = 3 then some (.ympWrite h m) else if typ = 6 then some (.eventAck h m)
  else if typ = 7 then some (.bulkWr h m) else if typ = 8 then some (.bulkRd h m) else none

/-- The answer to `m` on port `h`, from state `v` on; its SESSION and CTR are 0 without a key, and its CTR is open with one (R371,
Table 16.2). -/
def Answers (v u : State) (h typ status : Nat) (m : YmpFrame) (pay : List Byte) (key : Option (List Byte)) : Prop :=
  ∃ ctr, (key = none → ctr = 0) ∧
    Sends v u h (.ymp (YmpFrame.dest m) (ympBytes typ status (YmpFrame.seq m) (if key.isSome then YmpFrame.sess m else 0) ctr pay key))

end Sys2Proof.Claims

/-- R347, R370: OPEN makes a slot PENDING, CONFIRM with the right tag makes it ACTIVE with its key and else FAILED, CLOSE frees it; a
slot that is ACTIVE takes an OP only from an ACTIVE session, and none is taken in recovery mode or behind a latched halt. Model: notes/assumptions/7.md. -/
def Obligations.SessionsOpenConfirmAndClose : Prop := ∀ (s : State) (k : Fin 4) (auth : Bool) (key : List Byte),
  let x := sessInput k.val s
  let others := fun (u : State) => ∀ j : Fin 4, j ≠ k → u.session j.val = s.session j.val
  HostShape s → held s = false →
  ((s.session k.val).st ≠ .active ∨ auth = true → bootState s ≠ 7 → latched s = false →
    (∃ u, exec (.sessionOpen k auth) s = .next u ∧ (u.session k.val).st = .pending ∧ others u ∧ u.mem = s.mem) ∧
    (∃ u, exec (.sessionClose k auth) s = .next u ∧ (u.session k.val).st = .free ∧ others u ∧ u.csr = s.csr) ∧
    (s.hep.hostKey = some key → (s.session k.val).st = .pending → Config.kmac256 key x strYmpOpen 32 = regBytes s 0x9000150 32 →
      ∃ u, exec (.sessionConfirm k auth) s = .next u ∧ u.session k.val = ⟨.active, Config.kmac256 key x strYmpKey 32, 0, []⟩ ∧
        others u ∧ u.csr = s.csr) ∧
    ((s.hep.hostKey = none ∨ (s.session k.val).st ≠ .pending ∨
        (s.hep.hostKey = some key ∧ Config.kmac256 key x strYmpOpen 32 ≠ regBytes s 0x9000150 32)) →
      ∃ u, exec (.sessionConfirm k auth) s = .next u ∧ (u.session k.val).st = .failed ∧ others u ∧
        u.reg 0x9000408 = satAdd64 (s.reg 0x9000408) 1)) ∧
  (((s.session k.val).st = .active ∧ auth = false) ∨ bootState s = 7 ∨ latched s = true → exec (.sessionOpen k auth) s = .next s ∧
    exec (.sessionConfirm k auth) s = .next s ∧ exec (.sessionClose k auth) s = .next s)

/-- R347, R364 to R366, R373, R374, R379 to R381: what moves a host port's interface and link, the answers to neighbour solicitations and
echo requests for an address of the port, the attestation with its signature, the event retry, and the time exchange. A frame whose MAC address the port does not take
(R364) changes nothing but the counts of its codewords, and a VLAN tag comes back with the answer (R363); in recovery mode the built-in
settings stay in force, the MAC addresses among them, and attestation is unavailable. Model: notes/assumptions/7.md, 20.md, 42.md, 58.md. -/
def Obligations.HostPortsAnswer : Prop := ∀ (s : State) (n : Fin 2) (v : W32) (mac dest : BitVec 48) (vlan : Option (BitVec 16))
    (ip target : BitVec 128) (data st : List Byte) (t1 t2 t3 t4 p : Nat) (d : HostDest) (fec : HostFec),
  let h := s.host n.val
  let eth : EthHeader := ⟨mac, dest, vlan, fec⟩
  let r := hostCodewords n.val fec s
  HostShape s → held s = false →
  (bootState s = 7 → exec (.auiSelect v) s = .next s ∧ exec .attest s = .next s ∧ hostMac s n.val = BitVec.ofNat 48 (macDefault s.fuses n.val)) ∧
  (latched s = true → exec .attest s = .next s) ∧
  (h.link = true → ∀ a, a ≠ 0x9000420 + 8 * n.val → a ≠ 0x9000430 + 8 * n.val → tabSorted s.csr = true → r.reg a = s.reg a ∧
    r.reg (0x9000420 + 8 * n.val) = satAdd64 (s.reg (0x9000420 + 8 * n.val)) fec.corr ∧
    r.reg (0x9000430 + 8 * n.val) = satAdd64 (s.reg (0x9000430 + 8 * n.val)) fec.uncorr) ∧
  (bootState s ≠ 7 → ∃ u, exec (.auiSelect v) s = .next u ∧ u.field 0x9000000 31 8 = v.toNat / 256 ∧ u.field 0x9000000 5 0 = v.toNat % 64 ∧
    (u.host n.val).fixed = true ∧ (u.host n.val).aui = v.getLsbD (2 + n.val) ∧
    (u.host n.val).link = false ∧ (u.host n.val).locked = false ∧ (u.host n.val).out = h.out) ∧
  (h.locked = false → h.fixed = false → ∃ u, exec (.auiTryTimeout n) s = .next u ∧ u.host n.val = { h with aui := !h.aui } ∧
    u.csr = s.csr) ∧
  (h.locked = true ∨ h.fixed = true → exec (.auiTryTimeout n) s = .next s) ∧
  (∃ u, exec (.hostPcsLock n) s = .next u ∧ (u.host n.val).link = true ∧ (u.host n.val).locked = true ∧ u.csr = s.csr ∧
    u.hep.sessions = s.hep.sessions) ∧
  (∃ u, exec (.hostLinkLoss n) s = .next u ∧ (u.host n.val).link = false ∧ (u.host n.val).locked = false ∧ u.csr = s.csr ∧
    u.hep.sessions = s.hep.sessions) ∧
  (h.link = true → macAccepts s n.val dest = true → hostIp s n.val target = true →
    ∃ u, exec (.neighborSolicitation n eth ip target) s = .next u ∧
      Sends r u n.val (.neighborAdvert mac vlan ip target (hostMac s n.val))) ∧
  (h.link = true → macAccepts s n.val dest = true → hostIp s n.val target = true → data.length ≤ 9000 →
    ∃ u, exec (.echoRequest n eth ip target data) s = .next u ∧ Sends r u n.val (.echoReply mac vlan ip target data)) ∧
  (hostIp s n.val target = false ∨ macAccepts s n.val dest = false → exec (.neighborSolicitation n eth ip target) s = .next r ∧
    exec (.echoRequest n eth ip target data) s = .next r) ∧
  (9216 < data.length → exec (.echoRequest n eth ip target data) s = .next r) ∧
  (s.hep.att = none → bootState s ≠ 7 → latched s = false → ∃ u, exec .attest s = .next u ∧ OnlyReg s u 0x9000224 4 ∧ u.hep.att = some (attStatement s)) ∧
  (s.hep.att = some st → ∃ u sig, exec .attestationDone s = .next u ∧ u.reg 0x9000224 = 1 ∧ u.hep.att = none ∧
    sig = Config.falconSign s.fuses.seed (Config.shake256 st) s.fresh ∧
    regBytes u 0x9002000 1280 = (sig ++ List.replicate 1280 0).take 1280) ∧
  (eventPort s = some p → p < 2 → eventDest s p = some d → ∃ u, exec .eventRetry s = .next u ∧
    (u.host p).out.length = (s.host p).out.length + s.hep.events.length ∧ u.csr = s.csr ∧
    u.hep.events.map (fun e => e.eseq) = s.hep.events.map (fun e => e.eseq)) ∧
  (h.link = true → macAccepts s n.val dest = true →
    exec (.ptpMessage n (.sync eth t1 t2)) s = .next { r with hep := { r.hep with ptpT1 := some (t1, t2) } }) ∧
  (h.link = true → exec (.ptpMessage n (.delayReq t3)) s = .next { s with hep := { s.hep with ptpT3 := some t3 } }) ∧
  (h.link = true → macAccepts s n.val dest = true → s.hep.ptpT1 = some (t1, t2) → s.hep.ptpT3 = some t3 →
    ∃ u, exec (.ptpMessage n (.delayResp eth t4)) s = .next u ∧
    u.time7 = ((s.time7 : Int) + Config.ptpServo s.fresh).toNat ∧ u.hep.ptpT1 = none ∧ u.hep.ptpT3 = none ∧ u.csr = r.csr) ∧
  (h.link = false ∨ macAccepts s n.val dest = false → exec (.ptpMessage n (.sync eth t1 t2)) s = .next r ∧
    exec (.ptpMessage n (.delayResp eth t4)) s = .next r)

/-- R367 to R372, R379: a frame that is no request is counted and gone; a malformed or falsely signed request performs nothing;
an accepted READ answers with what its registers read, up to the first access that is refused, held or poisoned, a WRITE performs its accesses in order up to the first that is
refused, one whose access the bus holds waits with it, and an EVENT_ACK drops the events it covers, but not one that R372 refuses.
Model: notes/assumptions/48.md, 65.md. -/
def Obligations.ManagementMessagesAreAnswered : Prop := ∀ (s : State) (h : Fin 2) (m : YmpFrame) (typ : Nat) (c : Instr) (v t : State)
    (key : Option (List Byte)) (vs : List W64) (status done : Nat),
  let ws := (List.range (rwCount m)).map (fun i => (rwAt m i, BitVec.ofNat 64 (YmpFrame.n m (32 + i * rwWidth m) (rwWidth m))))
  let r := hostCodewords h.val m.fec s
  HostShape s →
  (ympCmd typ h m = some c → held s = false → (s.host h.val).link = true → carrierOn s h.val m = true → ympDropped m = true →
    ∃ u, exec c s = .next u ∧ OnlyReg r u 0x9000400 (satAdd64 (s.reg 0x9000400) 1) ∧ u.hep = s.hep ∧ u.mem = s.mem) ∧
  (ympCmd typ h m = some c → Reaches s h m typ → ympMalformed m = true → ∃ u, exec c s = .next u ∧ u.csr = r.csr ∧ u.mem = s.mem ∧
    u.hep.sessions = s.hep.sessions ∧ u.hep.events = s.hep.events ∧ u.hep.bulk = s.hep.bulk) ∧
  (ympCmd typ h m = some c → Reaches s h m typ → ympMalformed m = false → YmpFrame.auth m = true → ympAuthentic s m = false →
    ∃ u, exec c s = .next u ∧ OnlyReg r u 0x9000408 (satAdd64 (s.reg 0x9000408) 1) ∧ u.mem = s.mem ∧
      u.hep.sessions = s.hep.sessions ∧ u.hep.events = s.hep.events ∧ u.hep.bulk = s.hep.bulk) ∧
  (Accepted s h m 1 key v → rwMalformed m = false → ympReads (rwWidth m) ((List.range (rwCount m)).map (rwAt m)) v = (vs, status, t) → ympWaiting v = false →
    status ≠ yHeld → Does (.ympRead h m) s (fun u => Answers t u h.val 2 status m
      (vs.flatMap (fun x => leBytes (rwWidth m) x.toNat) ++ List.replicate ((rwCount m - vs.length) * rwWidth m) 0) key)) ∧
  (Accepted s h m 1 key v → rwMalformed m = false → ympReads (rwWidth m) ((List.range (rwCount m)).map (rwAt m)) v = (vs, yHeld, t) →
    ympWaiting v = false → Does (.ympRead h m) s (fun u => u = { t with busHeld := t.busHeld ++ [.ymp h.val m key vs.length vs] })) ∧
  (∀ w a rest, mustHold s a false = false ∨ latched s = true → (busRead s a w = none → ympReads w (a :: rest) s = ([], yAccess, s)) ∧
    (busRead s a w ≠ none → Whole s → ympReads w (a :: rest) s =
      (readReg s a :: (ympReads w rest s).1, (ympReads w rest s).2.1, (ympReads w rest s).2.2)) ∧
    (busRead s a w ≠ none → (wordRead a s).1 = true → ympReads w (a :: rest) s = ([], yPoison, (wordRead a s).2))) ∧
  (Accepted s h m 3 key v → rwMalformed m = false → ympWaiting v = false → status ≠ yHeld → ympWrites (rwWidth m) (YmpFrame.auth m) ws v = (status, done, t) →
    exec (.ympWrite h m) s = .next (ympAnswer h.val 4 status (YmpFrame.seq m) (YmpFrame.sess m) (YmpFrame.dest m)
      (leBytes 8 done) key t)) ∧
  (∀ w auth (a : Nat) (x : W64) rest, (latched s = true → ympWrites w auth ((a, x) :: rest) s = (yDenied, 0, s)) ∧
    (latched s = false → mustHold s a true = true → ympWrites w auth ((a, x) :: rest) s = (yHeld, 0, s)) ∧
    (BusFree s a → writeStatus s a x.toNat auth ≠ yOk → ympWrites w auth ((a, x) :: rest) s = (writeStatus s a x.toNat auth, 0, s)) ∧
    (BusFree s a → writeStatus s a x.toNat auth = yOk → accessKind a w = .refused → ympWrites w auth ((a, x) :: rest) s = (yAccess, 0, s)) ∧
    (BusFree s a → writeStatus s a x.toNat auth = yOk → accessKind a w ≠ .refused → bootState s ≤ bootState (busWrite a w x auth s) →
      ∃ st k u, ympWrites w auth rest (busWrite a w x auth s) = (st, k, u) ∧ ympWrites w auth ((a, x) :: rest) s = (st, k + 1, u))) ∧
  (Accepted s h m 6 key v → YmpFrame.len m = 8 → (YmpFrame.auth m = true ∨ ∀ e ∈ s.hep.events, e.tagged = false) →
    ∃ u, exec (.eventAck h m) s = .next u ∧ u.csr = r.csr ∧
      u.hep.events = s.hep.events.filter (fun e => decide (YmpFrame.n m 24 8 < e.eseq))) ∧
  (Reaches s h m 6 → ympMalformed m = false → YmpFrame.len m = 8 → YmpFrame.auth m = false →
    (∃ e ∈ s.hep.events, e.eseq ≤ YmpFrame.n m 24 8 ∧ e.tagged = true) → ∃ u, exec (.eventAck h m) s = .next u ∧
      OnlyReg r u 0x9000408 (satAdd64 (s.reg 0x9000408) 1) ∧ u.hep = s.hep ∧ u.mem = s.mem)

/-- R287, R375 to R377: a chunk of a BULK write goes into the store at its place and the last one closes the context with an
answer; a BULK read answers with its chunks; one that comes while a wipe runs waits (R286); an idle context is told what is missing and stays, and one past its time closes.
Model: notes/assumptions/18.md, 48.md. -/
def Obligations.BulkTransfersMoveTheirChunks : Prop := ∀ (s : State) (h : Fin 2) (m : YmpFrame) (v : State) (key : Option (List Byte))
    (sess : BitVec 8) (xid : W32) (b : BulkCtx),
  let ctx := bulkCtx h.val m v
  let i := bkChunk m
  let data := (YmpFrame.pay m).drop 24
  let a := ctx.addr + i * ctx.chunk
  let missing := bulkMissing { ctx with got := setAdd ctx.got i }
  HostShape s →
  (Accepted s h m 7 key v → bulkStatus v m = yOk → s.wiping = false → ctx.addr = bkAddr m → ctx.len = bkLen m → i < ceilDiv ctx.len ctx.chunk →
    data.length = chunkLen ctx.len ctx.chunk i → Clean s a data.length →
    ((findBulk v ctx.session ctx.xid).isSome = true ∨ v.hep.bulk.length < 64) → Does (.bulkWr h m) s (fun u =>
      (∀ x, cellGet 0 u.mem x = if a ≤ x ∧ x < a + data.length then data.getD (x - a) 0 else cellGet 0 s.mem x) ∧
      findBulk u ctx.session ctx.xid = (if missing = [] then none else some { ctx with got := setAdd ctx.got i }) ∧
      (u.host h.val).out.length = (s.host h.val).out.length + (if missing = [] then 1 else 0))) ∧
  (Accepted s h m 7 key v → bulkWrStatus h.val m v ≠ yOk → ∃ u, exec (.bulkWr h m) s = .next u ∧ u.mem = s.mem ∧ u.hep.bulk = s.hep.bulk ∧
    (u.host h.val).out.length = (s.host h.val).out.length + 1) ∧
  (Accepted s h m 8 key v → bulkStatus v m = yOk → s.wiping = false → s.flaws = [] →
    bkLen m ≤ chunkSize v → Clean s (bkAddr m) (bkLen m) → Does (.bulkRd h m) s (fun u =>
    u.mem = s.mem ∧ ∃ o1 o2 ctr, (u.host h.val).out = (s.host h.val).out ++ [o1, o2] ∧ (key = none → ctr = 0) ∧
      o1 = .ymp (YmpFrame.dest m) (ympBytes 9 yOk (YmpFrame.seq m) (if key.isSome then YmpFrame.sess m else 0) ctr (leBytes 4 (bkXid m) ++ leBytes 4 0 ++
        leBytes 8 (bkAddr m) ++ leBytes 8 (bkLen m) ++ cellRead 0 s.mem (bkAddr m) (bkLen m)) key))) ∧
  (Accepted s h m 8 key v → bulkStatus v m = yOk → s.wiping = true → exec (.bulkRd h m) s =
    .next { v with bulkWait := v.bulkWait ++ [(h.val, chunkSize v, m)] }) ∧
  (findBulk s sess.toNat xid = some b → held s = false → (s.host b.host).link = true → carrierLive s b.dest.via = true → b.host < 2 →
    (∃ u, exec (.bulkIdle sess xid) s = .next u ∧ findBulk u sess.toNat xid = some b ∧ u.mem = s.mem ∧
      (u.host b.host).out.length = (s.host b.host).out.length + 1) ∧
    (∃ u, exec (.bulkTimeout sess xid) s = .next u ∧ findBulk u sess.toNat xid = none ∧ u.mem = s.mem ∧
      (u.host b.host).out.length = (s.host b.host).out.length + 1))

/-! ## Arithmetic -/

namespace Sys2Proof.Claims

/-- The sign of an FP32 word. -/
def sgn (a : W32) : Bool := a.getLsbD 31

/-- FP32 infinity with a sign. -/
def infinity (neg : Bool) : W32 := if neg then 0xFF800000 else 0x7F800000

/-- An FP32 word that is a zero. -/
def isZero (a : W32) : Bool := a == 0 || a == 0x80000000

/-- An FP32 word that is an infinity. -/
def isInf (a : W32) : Bool := a == infinity false || a == infinity true

/-- An FP32 word that is a NaN. -/
def isNaN (a : W32) : Bool := f32 a == .nan

/-- An FP32 word that is finite. -/
def isFin (a : W32) : Bool := !isNaN a && !isInf a

/-- The value of a finite FP32 word in units of 2 ^ -149, as Table 6.2 lays it out. -/
def exactly (a : W32) : Int :=
  let ex := a.toNat / 2 ^ 23 % 2 ^ 8
  let m : Nat := (if ex = 0 then a.toNat % 2 ^ 23 else 2 ^ 23 + a.toNat % 2 ^ 23) * 2 ^ (max ex 1 - 1)
  if sgn a then -(m : Int) else m

/-- The least magnitude in units of 2 ^ -149 that rounds beyond the FP32 range, to nearest and ties to even (R161, R163). -/
def beyond : Nat := 2 ^ 277 - 2 ^ 252

/-- An FP32 word past the finite range as R163 delivers it, with its sign. -/
def pastRange (convInf neg : Bool) : W32 := if convInf then infinity neg else if neg then 0xFF7FFFFF else 0x7F7FFFFF

end Sys2Proof.Claims

/-- R163, R168, Table 6.6: the results and flags of FP32 arithmetic on special values and of maximum; of finite operands OVERFLOW comes
exactly when the exact result rounds beyond the range, and the result is then the largest finite value or an infinity, with the sign of the
exact result; operand order changes none of them; a sum of INT32 values beyond the range is as R164 has it. -/
def Obligations.SpecialValuesFollowTheTable : Prop := ∀ (ci : Bool) (a b c : W32),
  (fadd ci a b = fadd ci b a ∧ fmul ci a b = fmul ci b a ∧ ffma ci a b c = ffma ci b a c ∧ fmaximum a b = fmaximum b a ∧
    iadd a b = iadd b a) ∧
  (isZero a → isInf b → fmul ci a b = (0x7FC00000, fInvalid)) ∧
  (isZero a → isInf b → ¬ isNaN c → ffma ci a b c = (0x7FC00000, fInvalid)) ∧
  (fadd ci (infinity false) (infinity true) = (0x7FC00000, fInvalid)) ∧
  (isInf a → ¬ isNaN b → ¬ isZero b → ffma ci a b (infinity (!(sgn a != sgn b))) = (0x7FC00000, fInvalid)) ∧
  (isNaN a ∨ isNaN b → fadd ci a b = (0x7FC00000, fNanIn) ∧ fmul ci a b = (0x7FC00000, fNanIn)) ∧
  (isNaN a ∨ isNaN b → ffma ci a b c = (0x7FC00000, fNanIn)) ∧
  (isNaN c → ffma ci a b c = (0x7FC00000, if (isZero a && isInf b) || (isInf a && isZero b) then fNanIn ||| fInvalid else fNanIn)) ∧
  (isInf a → ¬ isNaN b → (isInf b → a = b) → fadd ci a b = (a, 0)) ∧
  (isInf a → ¬ isNaN b → ¬ isZero b → fmul ci a b = (infinity (sgn a != sgn b), 0)) ∧
  (isInf a → ¬ isNaN b → ¬ isZero b → isFin c ∨ c = infinity (sgn a != sgn b) → ffma ci a b c = (infinity (sgn a != sgn b), 0)) ∧
  (isFin a → isFin b → isInf c → ffma ci a b c = (c, 0)) ∧
  (isFin a → ¬ isZero a → fadd ci a (a ^^^ 0x80000000) = (0, 0)) ∧
  (fadd ci 0 0x80000000 = (0, 0) ∧ fadd ci 0x80000000 0x80000000 = (0x80000000, 0)) ∧
  (isFin a → isFin b → sgn (fmul ci a b).1 = (sgn a != sgn b) ∧ ((fmul ci a b).2 = 0 ∨ (fmul ci a b).2 = fOverflow)) ∧
  (isNaN a ∨ isNaN b → fmaximum a b = (0x7FC00000, fNanIn)) ∧
  (fmaximum 0 0x80000000 = (0, 0) ∧ (isNaN b = false → fmaximum (infinity false) b = (infinity false, 0))) ∧
  (isFin a → isFin b → let v := exactly a + exactly b
    if beyond ≤ v.natAbs then fadd ci a b = (pastRange ci (decide (v < 0)), fOverflow) else (fadd ci a b).2 = 0) ∧
  (isFin a → isFin b → let v := exactly a * exactly b
    if beyond * 2 ^ 149 ≤ v.natAbs then fmul ci a b = (pastRange ci (decide (v < 0)), fOverflow) else (fmul ci a b).2 = 0) ∧
  (isFin a → isFin b → isFin c → let v := exactly a * exactly b + exactly c * 2 ^ 149
    if beyond * 2 ^ 149 ≤ v.natAbs then ffma ci a b c = (pastRange ci (decide (v < 0)), fOverflow) else (ffma ci a b c).2 = 0) ∧
  ((iadd a b).1.toInt = max (-2147483648) (min 2147483647 (a.toInt + b.toInt)) ∧
    (iadd a b).2 = if -2147483648 ≤ a.toInt + b.toInt ∧ a.toInt + b.toInt ≤ 2147483647 then 0 else fOverflow)

/-- R164: a conversion into an integer format, or an integer addition, delivers the nearest value within the range, with OVERFLOW when
the exact result lies outside it and no other flag. -/
def Obligations.IntegersSaturate : Prop := ∀ (src dst x : Nat) (ci : Bool) (a b : W32),
  let within := fun (code : Nat) (v : Int) => max (intLo code) (min (intHi code) v)
  (5 ≤ src → src ≤ 7 → 5 ≤ dst → dst ≤ 7 → x < 2 ^ (8 * fmtSize src) →
    intVal dst (fmtConv src dst ci x).1 = within dst (intVal src x) ∧ (fmtConv src dst ci x).1 < 2 ^ (8 * fmtSize dst) ∧
    (fmtConv src dst ci x).2 = if within dst (intVal src x) = intVal src x then 0 else fOverflow) ∧
  ((iadd a b).1.toInt = within 7 (a.toInt + b.toInt) ∧
    (iadd a b).2 = if within 7 (a.toInt + b.toInt) = a.toInt + b.toInt then 0 else fOverflow) ∧
  (intLo 5 = -128 ∧ intHi 5 = 127 ∧ intLo 6 = 0 ∧ intHi 6 = 255 ∧ intLo 7 = -2147483648 ∧ intHi 7 = 2147483647)

/-- R159, R160, R161: widening is exact, so a value of a narrow format, widened and narrowed again, is itself with no flag; and a
conversion of a format to itself changes nothing. -/
def Obligations.WideningIsExact : Prop := ∀ (fmt x : Nat) (ci : Bool),
  (fmt < 8 → x < 2 ^ (8 * fmtSize fmt) → (fmt < 5 → fdecode (ffmt fmt) x ≠ .nan) →
    (fmtWiden fmt x).2 = 0 ∧ fmtNarrow fmt ci (fmtWiden fmt x).1 = (x, 0)) ∧
  (0 < fmt → fmt < 5 → fdecode (ffmt fmt) x = .nan → fmtWiden fmt x = (0x7FC00000, fNanIn)) ∧
  fmtConv fmt fmt ci x = (x, 0)

/-! ## The whole block -/

/-- R22: an access to an address at which no register exists reads zero and ignores a write; it raises no fault, no trap and no
error status. -/
def Obligations.AbsentAddressesReadZero : Prop := ∀ (s : State) (a : W32) (w : Nat) (v : W64) (auth : Bool),
  0 < w → (∀ i, i < w → regAt (a.toNat + i) = none) →
  busRead s a.toNat w = some 0 ∧ busWrite a.toNat w v auth s = s ∧ accessKind a.toNat w ≠ .refused ∧
    (exec (.registerWrite a w v) s = .next s) ∧
    (BusFree s a.toNat → writeStatus s a.toNat v.toNat auth = yOk → ∀ rest, ∃ st k u, ympWrites w auth rest s = (st, k, u) ∧
      ympWrites w auth ((a.toNat, v) :: rest) s = (st, k + 1, u)) ∧
    (mustHold s a.toNat false = false → Whole s → ∀ as_, (ympReads w (a.toNat :: as_) s).2.1 = (ympReads w as_ s).2.1)

/-- A step takes the command at the front of the queue and does it on the rest; every command completes; with nothing waiting one
CCLK cycle passes, but not while the chip is held in reset (the model's choice: notes/assumptions/1.md), and at its end no reaction
is left to perform (R323) and a register field that a management write has set in it holds the value written. -/
def Obligations.StepRunsTheFrontCommand : Prop := ∀ (s : State) (c : Instr) (rest : List Instr),
  step { s with pending := c :: rest } = exec c { s with pending := rest } ∧ (∃ u, exec c s = .next u) ∧
  (s.pending = [] → held s = true → step s = .next s) ∧
  (s.pending = [] → held s = false → s.now % 2 = 0 → s.raised = [] → s.msuLast = [] → (∀ e ∈ s.ecbPend, ∀ x ∈ e.2, x.1 < 256) → tabSorted s.csr = true → ∃ u, step s = .next u ∧
    u.now = s.now + 1 ∧ u.time7 = s.time7 + 20 ∧ u.mem = s.mem ∧ u.ports = s.ports ∧ u.hep = s.hep ∧ u.raised = [] ∧
    u.wrote = [] ∧ u.w1cSet = [] ∧ u.evts = [] ∧ (s.wrote = [] → SameRegs s.csr u.csr) ∧
    ∀ x k v, s.wrote = [(x, k, v)] → counts x = false → u.reg x = (s.reg x &&& ~~~k) ||| v) ∧
  (s.pending = [] → held s = false → step s = .next (tick s) ∧ (tick s).raised = [] ∧ (tick s).msuLast = [] ∧ (tick s).wrote = [])

/-- R14, R416, R417: what a chip reset leaves, as the register map gives it, and that the state right after reset is sound.
Model: notes/assumptions/60.md. -/
def Obligations.ResetLeavesTheSpecsValues : Prop :=
  Sound State.reset ∧ held State.reset = true ∧ State.reset.mem = [] ∧ State.reset.milestones = [] ∧ State.reset.bpm.bufs = [] ∧
  State.reset.colls = [] ∧ State.reset.pending = [] ∧ (∀ n, (State.reset.port n).link = .disabled) ∧
  (∀ n, (State.reset.engine n).dis = .enabled ∧ (State.reset.engine n).runs = []) ∧
  (∀ e ∈ [(0x10, 0xC8), (0x28, 0x190), (0x40, 0x3E800), (0x30, 0), (0x58, 0), (0xA0, 0), (0x100200, 0x690564), (0x100208, 0xA0546),
      (0x100210, 5), (0x300000, 1), (0x300008, 0x10000), (0x301000, 0x8003FC0000), (0x400010, 0xFFFFFFFF), (0x1000000, 0x60),
      (0x1000040, 0x64), (0x1000044, 0x64), (0x2000000, 0), (0x3000000, 0), (0x4000000, 0x7D001), (0x5000000, 0x3E8),
      (0x5000028, 0xFFFFFFFF), (0x6000000, 0xB2D05E0000), (0x6000010, 0x18), (0x7000000, 0x228), (0x9000000, 0x32730031),
      (0x9000004, 0x64), (0x9000080, 0xA00)], readReg State.reset e.1 = BitVec.ofNat 64 e.2) ∧
  (∀ n, n < 44 → (State.reset.reg (0x100100 + 4 * n)).toNat = if n = 0 ∨ n = 13 ∨ n = 42 then 0x31 else if n = 39 ∨ n = 40 then 0x01
    else if n = 41 then 0x71 else if n = 43 then 0x34 else 0x21) ∧
  (∀ f a, 0x4010000 ≤ a → a < 0x4030000 → regReset f a = 0)

/-- Every step keeps the state sound: the store and the flash in their canonical form, the register file with strictly rising
addresses, and the host block with its two ports and four session slots. -/
def Obligations.EveryStepKeepsTheStateSound : Prop := ∀ (s u : State), Sound s → step s = .next u → Sound u
end

