-- ==== Sys2Proof/Laws/Tables.lean ====
section
/-!
SUPPORT. Laws of sparse tables, of memory and of the register file: a read after a write of the same key gives the value
written, a write leaves every other key alone, and every operation of memory keeps its canonical form.
-/

namespace Sys2Proof.Machine

variable {α : Type}

/-! ## Tables -/

theorem tabGet_tabSet_same (t : Tab α) (k : Nat) (v : α) : tabGet (tabSet t k v) k = some v := by
  induction t with
  | nil => simp [tabSet, tabGet]
  | cons e r ih =>
    obtain ⟨k', v'⟩ := e
    simp only [tabSet]
    split
    · simp [tabGet]
    · split
      · simp [tabGet]
      · next h1 h2 => simp only [tabGet, if_neg (Ne.symm h2), ih]

theorem tabGet_tabSet_ne (t : Tab α) (k j : Nat) (v : α) (h : j ≠ k) : tabGet (tabSet t k v) j = tabGet t j := by
  induction t with
  | nil => simp [tabSet, tabGet, Ne.symm h]
  | cons e r ih =>
    obtain ⟨k', v'⟩ := e
    simp only [tabSet]
    split
    · simp [tabGet, Ne.symm h]
    · split
      · next h1 h2 => subst h2; simp [tabGet, Ne.symm h]
      · simp only [tabGet, ih]

/-- The value read under a key after a write. -/
theorem tabGet_tabSet (t : Tab α) (k j : Nat) (v : α) : tabGet (tabSet t k v) j = if j = k then some v else tabGet t j := by
  split
  · next h => subst h; exact tabGet_tabSet_same t j v
  · next h => exact tabGet_tabSet_ne t k j v h

theorem tabGet_filter (t : Tab α) (p : Nat → Bool) (j : Nat) :
    tabGet (t.filter (fun e => p e.1)) j = if p j then tabGet t j else none := by
  induction t with
  | nil => simp [tabGet]
  | cons e r ih =>
    obtain ⟨k, v⟩ := e
    simp only [List.filter_cons]
    by_cases hp : p k = true
    · simp only [hp, if_true, tabGet, ih]
      by_cases hk : k = j
      · subst hk; simp [hp]
      · simp [hk]
    · simp only [hp, tabGet]
      by_cases hk : k = j
      · subst hk; simp [ih, hp]
      · simp [hk, ih]

theorem tabGet_tabDel (t : Tab α) (k j : Nat) : tabGet (tabDel t k) j = if j = k then none else tabGet t j := by
  have := tabGet_filter t (fun x => x != k) j
  simp only [tabDel, this]
  by_cases h : j = k <;> simp [h]

/-! ### Strictly rising keys -/

/-- Every key is above `k`. -/
def keysAbove (k : Nat) (t : Tab α) : Prop := ∀ e ∈ t, k < e.1

theorem tabSorted_cons (e : Nat × α) (t : Tab α) : tabSorted (e :: t) = true ↔ keysAbove e.1 t ∧ tabSorted t = true := by
  induction t generalizing e with
  | nil => simp [tabSorted, keysAbove]
  | cons f r ih =>
    obtain ⟨a, v⟩ := e
    obtain ⟨b, w⟩ := f
    simp only [tabSorted, Bool.and_eq_true, decide_eq_true_eq]
    constructor
    · rintro ⟨hab, hs⟩
      refine ⟨?_, hs⟩
      intro x hx
      rcases List.mem_cons.1 hx with rfl | hx
      · exact hab
      · exact Nat.lt_trans hab (((ih (b, w)).1 hs).1 x hx)
    · rintro ⟨hk, hs⟩
      exact ⟨hk (b, w) (by simp), hs⟩

theorem keysAbove_tabSet (k j : Nat) (v : α) (t : Tab α) (hj : k < j) (h : keysAbove k t) : keysAbove k (tabSet t j v) := by
  induction t with
  | nil => intro e he; simp [tabSet] at he; subst he; exact hj
  | cons f r ih =>
    obtain ⟨b, w⟩ := f
    have hr : keysAbove k r := fun e he => h e (by simp [he])
    intro e he
    simp only [tabSet] at he
    split at he
    · rcases List.mem_cons.1 he with rfl | he
      · exact hj
      · exact h e he
    · split at he
      · rcases List.mem_cons.1 he with rfl | he
        · exact hj
        · exact hr e he
      · rcases List.mem_cons.1 he with rfl | he
        · exact h (b, w) (by simp)
        · exact ih hr e he

theorem tabSorted_tabSet (t : Tab α) (k : Nat) (v : α) (h : tabSorted t = true) : tabSorted (tabSet t k v) = true := by
  induction t with
  | nil => simp [tabSet, tabSorted]
  | cons f r ih =>
    obtain ⟨b, w⟩ := f
    obtain ⟨ha, hs⟩ := (tabSorted_cons (b, w) r).1 h
    simp only [tabSet]
    split
    · next hk =>
      refine (tabSorted_cons _ _).2 ⟨?_, h⟩
      intro e he
      rcases List.mem_cons.1 he with rfl | he
      · exact hk
      · exact Nat.lt_trans hk (ha e he)
    · split
      · next _ hk => subst hk; exact (tabSorted_cons _ _).2 ⟨ha, hs⟩
      · next h1 h2 => exact (tabSorted_cons _ _).2 ⟨keysAbove_tabSet b k v r (by omega) ha, ih hs⟩

theorem tabSorted_filter (t : Tab α) (p : Nat × α → Bool) (h : tabSorted t = true) : tabSorted (t.filter p) = true := by
  induction t with
  | nil => simp [tabSorted]
  | cons f r ih =>
    obtain ⟨ha, hs⟩ := (tabSorted_cons f r).1 h
    simp only [List.filter_cons]
    split
    · exact (tabSorted_cons _ _).2 ⟨fun e he => ha e (List.mem_filter.1 he).1, ih hs⟩
    · exact ih hs

theorem tabGet_below (k : Nat) (t : Tab α) (h : keysAbove k t) : tabGet t k = none := by
  induction t with
  | nil => rfl
  | cons e r ih =>
    have he : ¬ e.1 = k := fun hk => Nat.lt_irrefl k (hk ▸ h e List.mem_cons_self)
    simp [tabGet, he, ih (fun x hx => h x (List.mem_cons_of_mem e hx))]

theorem tabGet_filterE (t : Tab α) (p : Nat × α → Bool) (k : Nat) (h : tabSorted t = true) :
    tabGet (t.filter p) k = (tabGet t k).filter (fun v => p (k, v)) := by
  induction t with
  | nil => rfl
  | cons e r ih =>
    obtain ⟨j, v⟩ := e
    obtain ⟨ha, hs⟩ := (tabSorted_cons (j, v) r).1 h
    have hr := ih hs
    by_cases hk : j = k
    · subst hk
      have hn := tabGet_below j r ha
      rw [List.filter_cons]
      cases hp : p (j, v)
      · simp [hr, hn, tabGet, Option.filter, hp]
      · simp [tabGet, Option.filter, hp]
    · rw [List.filter_cons]
      cases hp : p (j, v) <;> simp [tabGet, hk, hr]

/-! ## Memory -/

/-- What a byte reads after a byte is written. -/
theorem cellGet_cellPut (d : Byte) (m : List Host.Cell) (a x : Nat) (b : Byte) :
    cellGet d (cellPut d m a b) x = if x = a then b else cellGet d m x := by
  unfold cellPut cellGet tabOr
  split
  · next h =>
    rw [tabGet_tabDel]
    by_cases hx : x = a <;> simp [hx, h]
  · rw [tabGet_tabSet]
    by_cases hx : x = a <;> simp [hx]

/-- What a byte reads after `bs` are written from `a` on. -/
theorem cellGet_cellWrite (d : Byte) (bs : List Byte) : ∀ (m : List Host.Cell) (a x : Nat),
    cellGet d (cellWrite d m a bs) x = if a ≤ x ∧ x < a + bs.length then bs.getD (x - a) d else cellGet d m x := by
  induction bs with
  | nil =>
    intro m a x
    rw [if_neg (by simp only [List.length_nil]; omega)]
    rfl
  | cons b r ih =>
    intro m a x
    simp only [cellWrite, ih, cellGet_cellPut, List.length_cons]
    by_cases h1 : x = a
    · subst h1
      rw [if_neg (by omega), if_pos rfl, if_pos (by omega), Nat.sub_self]
      rfl
    · by_cases h2 : a + 1 ≤ x ∧ x < a + 1 + r.length
      · have h3 : a ≤ x ∧ x < a + (r.length + 1) := by omega
        simp only [if_pos h2, if_pos h3]
        obtain ⟨k, rfl⟩ : ∃ k, x = a + 1 + k := ⟨x - (a + 1), by omega⟩
        simp [show a + 1 + k - (a + 1) = k by omega, show a + 1 + k - a = k + 1 by omega]
      · have h3 : ¬ (a ≤ x ∧ x < a + (r.length + 1)) := by omega
        rw [if_neg h2, if_neg h3, if_neg h1]

/-- What a byte reads after a range is cleared. -/
theorem cellGet_cellClear (d : Byte) (m : List Host.Cell) (a n x : Nat) :
    cellGet d (cellClear m a n) x = if a ≤ x ∧ x < a + n then d else cellGet d m x := by
  unfold cellGet tabOr cellClear
  rw [tabGet_filter m (fun k => !(decide (a ≤ k) && decide (k < a + n)))]
  by_cases h : a ≤ x ∧ x < a + n
  · simp [h]
  · rw [if_neg h]
    have : (!(decide (a ≤ x) && decide (x < a + n))) = true := by simp; omega
    rw [this]; simp

theorem cellWf_put (d : Byte) (m : List Host.Cell) (a : Nat) (b : Byte) (h : Memory.wf d m = true) :
    Memory.wf d (cellPut d m a b) = true := by
  simp only [Memory.wf, Bool.and_eq_true, List.all_eq_true, bne_iff_ne, ne_eq] at h ⊢
  unfold cellPut
  split
  · exact ⟨tabSorted_filter m _ h.1, fun e he => h.2 e (List.mem_filter.1 he).1⟩
  · next hb =>
    refine ⟨tabSorted_tabSet m a b h.1, ?_⟩
    have : ∀ t : List Host.Cell, (∀ e ∈ t, ¬ e.2 = d) → ∀ e ∈ tabSet t a b, ¬ e.2 = d := by
      intro t
      induction t with
      | nil => intro _ e he; simp [tabSet] at he; subst he; exact hb
      | cons f r ih =>
        obtain ⟨k, v⟩ := f
        intro ht e he
        simp only [tabSet] at he
        split at he
        · rcases List.mem_cons.1 he with rfl | he
          · exact hb
          · exact ht e he
        · split at he
          · rcases List.mem_cons.1 he with rfl | he
            · exact hb
            · exact ht e (by simp [he])
          · rcases List.mem_cons.1 he with rfl | he
            · exact ht _ (by simp)
            · exact ih (fun x hx => ht x (by simp [hx])) e he
    exact this m h.2

theorem cellWf_write (d : Byte) (bs : List Byte) : ∀ (m : List Host.Cell) (a : Nat), Memory.wf d m = true →
    Memory.wf d (cellWrite d m a bs) = true := by
  induction bs with
  | nil => intro m a h; exact h
  | cons b r ih => intro m a h; exact ih _ _ (cellWf_put d m a b h)

theorem cellWf_clear (d : Byte) (m : List Host.Cell) (a n : Nat) (h : Memory.wf d m = true) :
    Memory.wf d (cellClear m a n) = true := by
  simp only [Memory.wf, Bool.and_eq_true, List.all_eq_true] at h ⊢
  exact ⟨tabSorted_filter m _ h.1, fun e he => h.2 e (List.mem_filter.1 he).1⟩

/-! ## Registers -/

/-- What a register reads after the hardware writes one. -/
theorem reg_setReg (s : State) (a b : Nat) (v : W64) : (s.setReg a v).reg b = if b = a then v else s.reg b := by
  simp only [State.reg, State.setReg, tabGet_tabSet]
  split <;> rfl

@[simp] theorem reg_setReg_same (s : State) (a : Nat) (v : W64) : (s.setReg a v).reg a = v := by simp [reg_setReg]

theorem reg_setRegN (s : State) (a b v : Nat) : (s.setRegN a v).reg b = if b = a then BitVec.ofNat 64 v else s.reg b :=
  reg_setReg s a b _

@[simp] theorem regN_setRegN_same (s : State) (a v : Nat) : (s.setRegN a v).regN a = v % 2 ^ 64 := by
  simp [State.regN, reg_setRegN]

/-! ## Ports and engines -/

theorem get_eq {n : Nat} (v : Vector α n) (i : Fin n) : v.get i = v[i.val] := rfl

@[simp] theorem port_setPort_same (s : State) (n : Nat) (p : Port) : (s.setPort n p).port n = p := by
  simp [State.port, State.setPort, get_eq]

theorem port_setPort_ne (s : State) (n m : Nat) (p : Port) (h : n % 64 ≠ m % 64) : (s.setPort n p).port m = s.port m := by
  simp [State.port, State.setPort, get_eq, h]

@[simp] theorem engine_setEngine_same (s : State) (n : Nat) (e : Engine) : (s.setEngine n e).engine n = e := by
  simp [State.engine, State.setEngine, get_eq]

theorem engine_setEngine_ne (s : State) (n m : Nat) (e : Engine) (h : n % 64 ≠ m % 64) :
    (s.setEngine n e).engine m = s.engine m := by
  simp [State.engine, State.setEngine, get_eq, h]

end Sys2Proof.Machine
end

