-- ==== Sys2Proof/Laws/Ops.lean ====
section
/-!
SUPPORT. What each shared operation can do, said once: which fields it may change, and that it keeps the canonical form of
what it changes. A later proof cites these and unfolds no operation.
-/

namespace Sys2Proof.Machine

/-! ## What may change -/

/-- Only registers change. -/
def OnlyRegs (s t : State) : Prop :=
  ∃ csr w ev ex, t = { s with csr := csr, w1cSet := w, evts := ev, excNow := ex } ∧ (tabSorted s.csr = true → tabSorted csr = true)

/-- Registers change, and sources are raised. -/
def OnlyRaises (s t : State) : Prop :=
  ∃ csr w ev ex r ag, t = { s with csr := csr, w1cSet := w, evts := ev, excNow := ex, raised := s.raised ++ r, again := ag } ∧ (tabSorted s.csr = true → tabSorted csr = true)

/-- What a read of a memory other than the tensor store may change: its latent errors and poison besides. -/
def OnlyScans (s t : State) : Prop :=
  ∃ csr w ev ex r ag ge gp co, t = { s with csr := csr, w1cSet := w, evts := ev, excNow := ex, raised := s.raised ++ r, again := ag, gerr := ge, gpoison := gp, corrected := co } ∧
    (tabSorted s.csr = true → tabSorted csr = true)

/-- What an access to the tensor store may change: row cache, latent errors, poison and the store besides. -/
def OnlyStore (s t : State) : Prop :=
  ∃ csr w ev ex r ag rc fl po m, t = { s with csr := csr, w1cSet := w, evts := ev, excNow := ex, raised := s.raised ++ r, again := ag, rowCache := rc, flaws := fl, poison := po, mem := m } ∧
    (tabSorted s.csr = true → tabSorted csr = true) ∧ (Memory.wf 0 s.mem = true → Memory.wf 0 m = true)

/-- What sending or taking in a packet may change: registers, raised sources, errors of tables and packet buffers, ports, spreading
pointers, the SEQ counter. -/
def OnlySends (s t : State) : Prop :=
  ∃ csr w ev ex r ag ge gp co ps sp q, t = { s with csr := csr, w1cSet := w, evts := ev, excNow := ex, raised := s.raised ++ r, again := ag, gerr := ge, gpoison := gp, corrected := co, ports := ps, spread := sp, seqCtr := q } ∧
    (tabSorted s.csr = true → tabSorted csr = true)

/-- What the accounting of a message may change: message contexts, and errors of other memories than the store, besides. -/
def OnlyMessages (s t : State) : Prop :=
  ∃ csr w ev ex r ag ge gp co ms, t = { s with csr := csr, w1cSet := w, evts := ev, excNow := ex, raised := s.raised ++ r, again := ag, gerr := ge, gpoison := gp, corrected := co, msgs := ms } ∧
    (tabSorted s.csr = true → tabSorted csr = true)

theorem OnlyRegs.refl (s : State) : OnlyRegs s s := ⟨s.csr, s.w1cSet, s.evts, s.excNow, rfl, id⟩
theorem OnlyRegs.trans {s t u : State} (h : OnlyRegs s t) (k : OnlyRegs t u) : OnlyRegs s u := by
  obtain ⟨c, w, ev, ex, rfl, hc⟩ := h
  obtain ⟨d, v, eu, ey, rfl, hd⟩ := k
  exact ⟨d, v, eu, ey, rfl, fun h => hd (hc h)⟩

theorem OnlyRegs.raises {s t : State} (h : OnlyRegs s t) : OnlyRaises s t := by
  obtain ⟨c, w, ev, ex, rfl, hc⟩ := h
  exact ⟨c, w, ev, ex, [], s.again, by rw [List.append_nil], hc⟩

theorem OnlyRaises.refl (s : State) : OnlyRaises s s := (OnlyRegs.refl s).raises
theorem OnlyRaises.trans {s t u : State} (h : OnlyRaises s t) (k : OnlyRaises t u) : OnlyRaises s u := by
  obtain ⟨c, w, ev, ex, r, ag, rfl, hc⟩ := h
  obtain ⟨d, v, eu, ey, q, ag2, rfl, hd⟩ := k
  exact ⟨d, v, eu, ey, r ++ q, ag2, by rw [← List.append_assoc], fun h => hd (hc h)⟩

theorem OnlyRaises.scans {s t : State} (h : OnlyRaises s t) : OnlyScans s t := by
  obtain ⟨c, w, ev, ex, r, ag, rfl, hc⟩ := h
  exact ⟨c, w, ev, ex, r, ag, s.gerr, s.gpoison, s.corrected, rfl, hc⟩
theorem OnlyRaises.store {s t : State} (h : OnlyRaises s t) : OnlyStore s t := by
  obtain ⟨c, w, ev, ex, r, ag, rfl, hc⟩ := h
  exact ⟨c, w, ev, ex, r, ag, s.rowCache, s.flaws, s.poison, s.mem, rfl, hc, id⟩
theorem OnlyScans.messages {s t : State} (h : OnlyScans s t) : OnlyMessages s t := by
  obtain ⟨c, w, ev, ex, r, ag, a, b, co, rfl, hc⟩ := h
  exact ⟨c, w, ev, ex, r, ag, a, b, co, s.msgs, rfl, hc⟩
theorem OnlyRaises.messages {s t : State} (h : OnlyRaises s t) : OnlyMessages s t := h.scans.messages

theorem OnlyScans.refl (s : State) : OnlyScans s s := (OnlyRaises.refl s).scans
theorem OnlyScans.trans {s t u : State} (h : OnlyScans s t) (k : OnlyScans t u) : OnlyScans s u := by
  obtain ⟨c, w, ev, ex, r, ag, a, b, co, rfl, hc⟩ := h
  obtain ⟨d, v, eu, ey, q, ag2, a', b', co', rfl, hd⟩ := k
  exact ⟨d, v, eu, ey, r ++ q, ag2, a', b', co', by rw [← List.append_assoc], fun h => hd (hc h)⟩
theorem OnlyScans.sends {s t : State} (h : OnlyScans s t) : OnlySends s t := by
  obtain ⟨c, w, ev, ex, r, ag, a, b, co, rfl, hc⟩ := h
  exact ⟨c, w, ev, ex, r, ag, a, b, co, s.ports, s.spread, s.seqCtr, rfl, hc⟩
theorem OnlyRaises.sends {s t : State} (h : OnlyRaises s t) : OnlySends s t := h.scans.sends

theorem OnlyStore.refl (s : State) : OnlyStore s s := (OnlyRaises.refl s).store
theorem OnlyStore.trans {s t u : State} (h : OnlyStore s t) (k : OnlyStore t u) : OnlyStore s u := by
  obtain ⟨c, w, ev, ex, r, ag, a, b, e, m, rfl, hc, hm⟩ := h
  obtain ⟨d, v, eu, ey, q, ag2, a', b', e', m', rfl, hd, hm'⟩ := k
  exact ⟨d, v, eu, ey, r ++ q, ag2, a', b', e', m', by rw [← List.append_assoc], fun h => hd (hc h), fun h => hm' (hm h)⟩

theorem OnlySends.refl (s : State) : OnlySends s s := (OnlyRaises.refl s).sends
theorem OnlySends.trans {s t u : State} (h : OnlySends s t) (k : OnlySends t u) : OnlySends s u := by
  obtain ⟨c, w, ev, ex, r, ag, x, y, co, a, b, e, rfl, hc⟩ := h
  obtain ⟨d, v, eu, ey, q, ag2, x', y', co', a', b', e', rfl, hd⟩ := k
  exact ⟨d, v, eu, ey, r ++ q, ag2, x', y', co', a', b', e', by rw [← List.append_assoc], fun h => hd (hc h)⟩

theorem OnlyMessages.trans {s t u : State} (h : OnlyMessages s t) (k : OnlyMessages t u) : OnlyMessages s u := by
  obtain ⟨c, w, ev, ex, r, ag, x, y, co, a, rfl, hc⟩ := h
  obtain ⟨d, v, eu, ey, q, ag2, x', y', co', a', rfl, hd⟩ := k
  exact ⟨d, v, eu, ey, r ++ q, ag2, x', y', co', a', by rw [← List.append_assoc], fun h => hd (hc h)⟩

/-- A fold whose every step keeps a transitive relation keeps it. -/
theorem foldl_keeps {α σ : Type} {R : σ → σ → Prop} (refl : ∀ x, R x x) (trans : ∀ {x y z}, R x y → R y z → R x z)
    {f : σ → α → σ} (step : ∀ x a, R x (f x a)) : ∀ (l : List α) (x : σ), R x (l.foldl f x)
  | [], x => refl x
  | a :: l, x => trans (step x a) (foldl_keeps refl trans step l (f x a))

/-! ## Registers and counting -/

theorem setReg_only (a : Nat) (v : W64) (s : State) : OnlyRegs s (s.setReg a v) :=
  ⟨tabSet s.csr a v, s.w1cSet, s.evts, s.excNow, rfl, tabSorted_tabSet s.csr a v⟩

theorem setRegN_only (a v : Nat) (s : State) : OnlyRegs s (s.setRegN a v) := setReg_only a _ s

theorem setField_only (a hi lo x : Nat) (s : State) : OnlyRegs s (s.setField a hi lo x) := setRegN_only a _ s

theorem setSticky_only (a : Nat) (m : W64) (s : State) : OnlyRegs s (s.setSticky a m) :=
  ⟨tabSet s.csr a (s.reg a ||| m), _, s.evts, s.excNow, rfl, tabSorted_tabSet s.csr a _⟩

theorem countReg_only (a n : Nat) (s : State) : OnlyRegs s (s.countReg a n) := by
  unfold State.countReg
  split
  · exact OnlyRegs.refl s
  · exact setReg_only a _ s

/-- The addresses of the event counters and of their overflow bits (R382). -/
def ecbAddr (a : Nat) : Prop := (0x302000 ≤ a ∧ a < 0x302800) ∨ (0x300040 ≤ a ∧ a < 0x300060)

theorem ecbAdd_keeps (csr : Tab W64) (k n a : Nat) (hk : k < 256) (ha : ¬ ecbAddr a) : tabGet (ecbAdd csr k n) a = tabGet csr a := by
  unfold ecbAddr at ha
  have h1 : a ≠ 0x302000 + 8 * k := by omega
  have h2 : a ≠ 0x300040 + k / 64 * 8 := by omega
  unfold ecbAdd
  simp only
  split
  · rw [tabGet_tabSet, if_neg h1]
  · rw [tabGet_tabSet, if_neg h2, tabGet_tabSet, if_neg h1]

theorem ecbAdd_sorted (csr : Tab W64) (k n : Nat) (h : tabSorted csr = true) : tabSorted (ecbAdd csr k n) = true := by
  unfold ecbAdd
  simp only
  split
  · exact tabSorted_tabSet _ _ _ h
  · exact tabSorted_tabSet _ _ _ (tabSorted_tabSet _ _ _ h)

/-- Adding increments changes no register but the counters (R382, R383). -/
theorem ecbAddAll_keeps (a : Nat) (ha : ¬ ecbAddr a) : ∀ (t : Tab Nat) (c : Tab W64), (∀ e ∈ t, e.1 < 256) →
    tabGet (ecbAddAll c t) a = tabGet c a
  | [], _, _ => rfl
  | e :: t, c, h => (ecbAddAll_keeps a ha t (ecbAdd c e.1 e.2) (fun x hx => h x (List.mem_cons_of_mem e hx))).trans
      (ecbAdd_keeps c e.1 e.2 a (h e List.mem_cons_self) ha)

theorem ecbAddAll_sorted (c : Tab W64) (t : Tab Nat) (h : tabSorted c = true) : tabSorted (ecbAddAll c t) = true := by
  unfold ecbAddAll
  exact foldl_keeps (R := fun c d => tabSorted c = true → tabSorted d = true) (fun _ => id) (fun f g h => g (f h))
    (fun c e => ecbAdd_sorted c e.1 e.2) t c h

theorem ecbAdd_counter (csr : Tab W64) (j n k : Nat) (hj : j < 256) (hk : k < 256) :
    tabOr (ecbAdd csr j n) (0x302000 + 8 * k) 0 = tabOr csr (0x302000 + 8 * k) 0 + BitVec.ofNat 64 (if j = k then n else 0) := by
  have h2 : 0x302000 + 8 * k ≠ 0x300040 + j / 64 * 8 := by omega
  by_cases h : j = k
  · subst h
    unfold ecbAdd
    simp only
    split <;> simp [tabOr, tabGet_tabSet, h2, BitVec.ofNat_add]
  · have h1 : ¬ 8 * k = 8 * j := by omega
    unfold ecbAdd
    simp only
    split <;> simp [tabOr, tabGet_tabSet, h1, h2, h]

/-- What adding increments, one a counter at most, does to counter `k` (R382, R383). -/
theorem ecbAddAll_counter (k : Nat) (hk : k < 256) : ∀ (t : Tab Nat) (c : Tab W64), tabSorted t = true → (∀ e ∈ t, e.1 < 256) →
    tabOr (ecbAddAll c t) (0x302000 + 8 * k) 0 = tabOr c (0x302000 + 8 * k) 0 + BitVec.ofNat 64 (tabOr t k 0)
  | [], c, _, _ => by simp [ecbAddAll, tabOr, tabGet]
  | e :: t, c, hs, h => by
    obtain ⟨ha, hs⟩ := (tabSorted_cons e t).1 hs
    have hi := ecbAddAll_counter k hk t (ecbAdd c e.1 e.2) hs (fun x hx => h x (List.mem_cons_of_mem e hx))
    have hd : ecbAddAll c (e :: t) = ecbAddAll (ecbAdd c e.1 e.2) t := rfl
    rw [hd, hi, ecbAdd_counter c e.1 e.2 k (h e List.mem_cons_self) hk]
    by_cases hk' : e.1 = k
    · have hn : tabGet t k = none := tabGet_below _ t (hk' ▸ ha)
      simp [tabOr, tabGet, hk', hn]
    · simp [tabOr, tabGet, hk']

theorem count_only (src n : Nat) (port tc grp : Option Nat) (s : State) : OnlyRegs s (count src n port tc grp s) :=
  ⟨s.csr, s.w1cSet, _, s.excNow, rfl, id⟩

theorem countPkt_only (src n : Nat) (p : Packet) (s : State) : OnlyRegs s (countPkt src n p s) := count_only src 1 _ _ none s

theorem countExc_only (a n : Nat) (s : State) : OnlyRegs s (countExc a n s) := by
  unfold countExc
  split
  · exact OnlyRegs.refl s
  · exact (countReg_only a n s).trans ⟨_, _, _, _, rfl, id⟩

theorem countFlags_only (base : Nat) (fs : List Fl) (s : State) : OnlyRegs s (countFlags base fs s) :=
  (((countExc_only _ _ s).trans (countExc_only _ _ _)).trans (countExc_only _ _ _))

theorem tscFlags_only (fs : List Fl) (s : State) : OnlyRegs s (tscFlags fs s) := countFlags_only _ fs s

theorem engFlags_only (e : Nat) (fs : List Fl) (s : State) : OnlyRegs s (engFlags e fs s) := countFlags_only _ fs s

/-! ## Fault sources -/

/-- Raising a source sets bits of registers and may list the source as raised (R322, R323). -/
theorem raise_only (b : Blk) (src : Nat) (s : State) : OnlyRaises s (raise b src s) := by
  have up : ∀ (t : State) (x y : List (Blk × Nat)), OnlyRaises t { t with raised := t.raised ++ x, again := y } := fun t x y =>
    ⟨t.csr, t.w1cSet, t.evts, t.excNow, x, y, rfl, id⟩
  have h0 := (setSticky_only (blkFlt b) (BitVec.ofNat 64 (2 ^ src)) s).raises
  unfold raise
  simp only
  split
  · have h := up (s.setSticky (blkFlt b) (BitVec.ofNat 64 (2 ^ src))) []
    simp only [List.append_nil] at h
    exact h0.trans (h _)
  · split
    · exact (h0.trans (setSticky_only _ _ _).raises).trans (up _ _ _)
    · exact h0.trans (up _ _ _)

/-- A source whose sticky bit is set already sets it again and is not raised anew (R322). -/
theorem raise_again (b : Blk) (src : Nat) (s : State) (h : bit (s.regN (blkFlt b)) src = true) : (raise b src s).raised = s.raised := by
  unfold raise
  simp only [h, if_true]
  rfl

theorem raiseIf_only (c : Bool) (b : Blk) (src : Nat) (s : State) : OnlyRaises s (raiseIf c b src s) := by
  unfold raiseIf
  split
  · exact raise_only b src s
  · exact OnlyRaises.refl s

/-! ## The tensor store -/

/-- A change of the row cache alone. -/
theorem rowCache_only (rc : List Nat) (s : State) : OnlyStore s { s with rowCache := rc } :=
  ⟨s.csr, s.w1cSet, s.evts, s.excNow, [], s.again, rc, s.flaws, s.poison, s.mem, by rw [List.append_nil], id, id⟩

/-- A latent error met by a read is corrected or poisons its granule (R31 to R33). -/
theorem flawRead_only (b : Blk) (g : Nat) (e : Flaw) (s : State) : OnlyStore s (flawRead b g e s) := by
  have h0 : OnlyStore s { s with flaws := tabDel s.flaws g } :=
    ⟨s.csr, s.w1cSet, s.evts, s.excNow, [], s.again, s.rowCache, _, s.poison, s.mem, by rw [List.append_nil], id, id⟩
  have ok : ∀ (t : State), OnlyStore t (count 0x0AD 1 none none none (t.countReg 0x6000100 1)) := fun t =>
    ((countReg_only _ _ t).trans (count_only _ _ _ _ _ _)).raises.store
  unfold flawRead
  simp only
  split
  · exact h0
  · exact h0.trans (ok _)
  · exact (h0.trans ⟨s.csr, s.w1cSet, s.evts, s.excNow, [], s.again, s.rowCache, _, s.poison, _, by rw [List.append_nil]; rfl, id,
      fun h => cellWf_write 0 _ s.mem _ h⟩).trans (ok _)
  · refine (h0.trans ⟨s.csr, s.w1cSet, s.evts, s.excNow, [], s.again, _, _, _, s.mem, by rw [List.append_nil], id, id⟩).trans
      ((((countReg_only _ _ _).trans (count_only _ _ _ _ _ _)).raises.trans (raise_only _ _ _)).trans (raise_only _ _ _)).store

/-- A row fetched from its channel meets the row's latent errors and may be held (R281). -/
theorem rowFill_only (b : Blk) (gs : List Nat) (r : Nat) (s : State) : OnlyStore s (rowFill b gs r s) := by
  unfold rowFill
  have h := foldl_keeps (f := fun (s : State) (e : Nat × Flaw) => flawRead (if gs.contains e.1 then b else .tsc) e.1 e.2 s)
    OnlyStore.refl OnlyStore.trans (fun _ _ => flawRead_only _ _ _ _) (s.flaws.filter (fun e => e.1 / 32 == r)) s
  simp only
  split
  · exact h.trans (rowCache_only _ _)
  · exact h

theorem rowRead_only (b : Blk) (gs : List Nat) (r : Nat) (s : State) : OnlyStore s (rowRead b gs r s) := by
  unfold rowRead
  split
  · exact (rowCache_only _ s).trans ((countReg_only _ _ _).trans (count_only _ _ _ _ _ _)).raises.store
  · exact ((((countReg_only _ _ s).trans (count_only _ _ _ _ _ _)).trans (count_only _ _ _ _ _ _)).raises.store).trans
      (rowFill_only _ _ _ _)

/-- A row with no latent error in the store changes counters and the row cache (R281). -/
theorem rowRead_clean (b : Blk) (gs : List Nat) (r : Nat) (s : State) (hf : s.flaws = []) :
    ∃ csr w ev ex rc, rowRead b gs r s = { s with csr := csr, w1cSet := w, evts := ev, excNow := ex, rowCache := rc } := by
  unfold rowRead
  split
  · obtain ⟨c, w, ev, ex, h, _⟩ := (countReg_only 0x6000128 1 { s with rowCache := rowTouch s.rowCache r }).trans
      (count_only 0x0A6 1 none none none _)
    exact ⟨c, w, ev, ex, _, h⟩
  · obtain ⟨c, w, ev, ex, h, _⟩ := ((countReg_only 0x6000130 1 s).trans (count_only 0x0A7 1 none none none _)).trans
      (count_only (0x0D0 + 4 * stackOf r) 8 none none none _)
    rw [h]
    unfold rowFill
    simp only [hf, List.filter_nil, List.foldl_nil]
    split
    · exact ⟨c, w, ev, ex, _, by rw [← hf]⟩
    · exact ⟨c, w, ev, ex, s.rowCache, by rw [← hf]⟩

theorem countBursts_only (a n : Nat) (s : State) : OnlyRegs s (countBursts a n s) := by
  unfold countBursts
  split
  · exact OnlyRegs.refl s
  · exact foldl_keeps OnlyRegs.refl OnlyRegs.trans (fun _ _ => count_only _ _ _ _ _ _) _ s

theorem rowReads_only (b : Blk) (gs rs : List Nat) (s : State) : OnlyStore s (rs.foldl (fun s r => rowRead b gs r s) s) :=
  foldl_keeps OnlyStore.refl OnlyStore.trans (fun _ _ => rowRead_only _ _ _ _) rs s

/-- Rows read with no latent error in the store change counters and the row cache. -/
theorem rowReads_clean (b : Blk) (gs : List Nat) : ∀ (rs : List Nat) (s : State), s.flaws = [] →
    ∃ csr w ev ex rc, rs.foldl (fun s r => rowRead b gs r s) s = { s with csr := csr, w1cSet := w, evts := ev, excNow := ex, rowCache := rc }
  | [], s, _ => ⟨s.csr, s.w1cSet, s.evts, s.excNow, s.rowCache, rfl⟩
  | r :: rs, s, hf => by
    obtain ⟨c, w, ev, ex, rc, h⟩ := rowRead_clean b gs r s hf
    rw [List.foldl_cons, h]
    obtain ⟨d, v, eu, ey, rd, k⟩ := rowReads_clean b gs rs { s with csr := c, w1cSet := w, evts := ev, excNow := ex, rowCache := rc } hf
    exact ⟨d, v, eu, ey, rd, k⟩

/-- A read of granules may correct or meet errors (R32, R33, R281). -/
theorem granulesRead_only (b : Blk) (gs : List Nat) (s : State) : OnlyStore s (granulesRead b gs s).2 := by
  unfold granulesRead
  simp only
  exact (rowReads_only b gs _ s).trans
    (((count_only _ _ _ _ _ _).raises.trans (raiseIf_only _ _ _ _)).trans (count_only _ _ _ _ _ _).raises).store

/-- A read of the store may change counters, row cache, errors and the data they spoil, and raise; nothing else. -/
theorem storeRead_only (b : Blk) (a n : Nat) (s : State) : OnlyStore s (storeRead b a n s).2.2 := granulesRead_only b _ s

/-- The bytes a read answers are those of the store as it leaves it. -/
theorem storeRead_bytes (b : Blk) (a n : Nat) (s : State) : (storeRead b a n s).2.1 = cellRead 0 (storeRead b a n s).2.2.mem a n := rfl

/-- With no latent error in the store and none of its granules poisoned, a read meets no bad granule, answers the bytes that
stand there, raises nothing, and leaves the store as it is. -/
theorem storeRead_clean (b : Blk) (a n : Nat) (s : State) (hf : s.flaws = [])
    (hp : ∀ g ∈ granules a n, s.poison.contains g = false) :
    ∃ csr w ev ex rc, storeRead b a n s = ([], cellRead 0 s.mem a n, { s with csr := csr, w1cSet := w, evts := ev, excNow := ex, rowCache := rc }) := by
  have old : (granules a n).filter s.poison.contains = [] := by
    rw [List.filter_eq_nil_iff]
    intro g hg
    rw [hp g hg]
    exact Bool.false_ne_true
  obtain ⟨c, w, ev, ex, rc, h⟩ := rowReads_clean b (granules a n) (rowsOf (granules a n)) s hf
  obtain ⟨d, v, eu, ey, k, _⟩ := (count_only 0x0AC 0 none none none { s with csr := c, w1cSet := w, evts := ev, excNow := ex, rowCache := rc }).trans
    (count_only 0x0A5 (granules a n).length none none none _)
  refine ⟨d, v, eu, ey, rc, ?_⟩
  unfold storeRead granulesRead
  simp only [h, old, List.length_nil, List.isEmpty_nil, Bool.not_true, raiseIf, Bool.false_eq_true, if_false]
  exact Prod.ext old (Prod.ext rfl k)

theorem granuleWrite_only (a : Nat) (bs : List Byte) (s : State) : OnlyStore s (granuleWrite a bs s) := by
  have put : ∀ (t : State) (po : List Nat) (fl : Tab Flaw),
      OnlyStore t { t with mem := cellWrite 0 t.mem a bs, poison := po, flaws := fl } := fun t po fl =>
    ⟨t.csr, t.w1cSet, t.evts, t.excNow, [], t.again, t.rowCache, fl, po, _, by rw [List.append_nil], id, fun h => cellWf_write 0 bs t.mem a h⟩
  have h0 := (count_only 0x0A4 1 none none none s).raises.store
  have part : ∀ (t x : State), OnlyStore t x →
      OnlyStore t (if x.poison.contains (a / 16) then raise .tsc 0 (count 0x0AB 1 none none none (x.countReg 0x6000110 1))
        else { x with mem := cellWrite 0 x.mem a bs }) := by
    intro t x h1
    split
    · exact h1.trans (((countReg_only _ _ x).trans (count_only _ _ _ _ _ _)).raises.trans (raise_only _ _ _)).store
    · exact h1.trans (put x x.poison x.flaws)
  unfold granuleWrite
  simp only
  split
  · exact h0.trans (put _ _ _)
  · refine h0.trans (part _ _ ?_)
    split
    · split
      · exact ⟨_, _, _, _, [], _, _, _, _, _, by rw [List.append_nil], id, id⟩
      · exact flawRead_only _ _ _ _
    · exact OnlyStore.refl _

theorem storeWriteLoop_only : ∀ (fuel a : Nat) (bs : List Byte) (s : State), OnlyStore s (storeWriteLoop fuel a bs s)
  | 0, _, _, s => OnlyStore.refl s
  | f + 1, a, bs, s => by
    unfold storeWriteLoop
    simp only
    split
    · exact OnlyStore.refl s
    · exact (granuleWrite_only _ _ s).trans (storeWriteLoop_only f _ _ _)

/-- A write of the store may change counters, the store, row cache and errors, and raise; the store keeps its form. -/
theorem storeWrite_only (a : Nat) (bs : List Byte) (s : State) : OnlyStore s (storeWrite a bs s) :=
  (countBursts_only a bs.length s).raises.store.trans (storeWriteLoop_only _ _ _ _)

theorem wipeRange_only (lo hi : Nat) (s : State) : OnlyStore s (wipeRange lo hi s) :=
  ⟨s.csr, s.w1cSet, s.evts, s.excNow, [], s.again, s.rowCache, _, _, _, by rw [List.append_nil]; rfl, id, fun h => cellWf_clear 0 s.mem lo (hi - lo) h⟩

/-! ## The other memories -/

theorem scanOne_only (b : Blk) (x : List GMem × List (GMem × BitVec 128) × State) (e : GMem × Flaw) :
    OnlyScans x.2.2 (scanOne b x e).2.2 := by
  have put : ∀ (t : State) (gp : List GMem) (co : Tab Nat), OnlyScans t { t with gpoison := gp, corrected := co } := fun t gp co =>
    ⟨t.csr, t.w1cSet, t.evts, t.excNow, [], t.again, t.gerr, gp, co, by rw [List.append_nil], id⟩
  unfold scanOne
  split
  · exact OnlyScans.refl _
  · exact put x.2.2 x.2.2.gpoison _
  · exact put x.2.2 x.2.2.gpoison _
  · exact (put x.2.2 _ x.2.2.corrected).trans (raise_only _ _ _).scans

theorem scanFold_only (b : Blk) (l : List (GMem × Flaw)) (x : List GMem × List (GMem × BitVec 128) × State) :
    OnlyScans x.2.2 (l.foldl (scanOne b) x).2.2 :=
  foldl_keeps (R := fun (x y : List GMem × List (GMem × BitVec 128) × State) => OnlyScans x.2.2 y.2.2) (fun x => OnlyScans.refl x.2.2)
    OnlyScans.trans (scanOne_only b) l x

/-- A read of another memory meets its errors and poison, and raises (R31 to R33). -/
theorem memScan_only (b : Blk) (sel : GMem → Bool) (s : State) : OnlyScans s (memScan b sel s).2.2 := by
  unfold memScan
  simp only
  have h : OnlyScans s { s with gerr := s.gerr.filter (fun e => !sel e.1) } :=
    ⟨s.csr, s.w1cSet, s.evts, s.excNow, [], s.again, _, s.gpoison, s.corrected, by rw [List.append_nil], id⟩
  exact (h.trans (raiseIf_only _ _ _ _).scans).trans (scanFold_only b _ _)

/-- With no error and no poison in any memory a read meets none and changes nothing. -/
theorem memScan_clean (b : Blk) (sel : GMem → Bool) (s : State) (he : s.gerr = []) (hp : s.gpoison = []) :
    memScan b sel s = ([], [], s) := by
  cases s
  simp only at he hp
  subst he
  subst hp
  rfl

theorem wordsXor_only (a : Nat) (m : BitVec 128) (s : State) : OnlyRegs s (wordsXor a m s) :=
  foldl_keeps OnlyRegs.refl OnlyRegs.trans (fun s i => by
    split
    · split
      · exact setReg_only _ _ s
      · exact OnlyRegs.refl s
    · exact OnlyRegs.refl s) _ s

/-- A read of table words (R33). -/
theorem tableRead_only (b : Blk) (a n : Nat) (s : State) : OnlyScans s (tableRead b a n s).2 := by
  unfold tableRead
  simp only
  refine (memScan_only b _ s).trans (foldl_keeps OnlyScans.refl OnlyScans.trans ?_ _ _)
  intro x e
  split
  · exact (wordsXor_only _ _ _).raises.scans
  · exact OnlyScans.refl _

/-- Table words without error or poison are read whole, and their read changes nothing. -/
theorem tableRead_clean (b : Blk) (a n : Nat) (s : State) (he : s.gerr = []) (hp : s.gpoison = []) :
    tableRead b a n s = (false, s) := by
  unfold tableRead
  simp only [memScan_clean b _ s he hp, List.isEmpty_nil, Bool.not_true, List.foldl_nil]

/-! ## Records and messages -/

/-- A read of a record whose layout is open meets its errors and poison, and stores the record where it comes out wrong (R31 to R33). -/
theorem recordRead_only {α : Type} [Inhabited α] {R : State → State → Prop} (trans : ∀ {x y z}, R x y → R y z → R x z)
    (scan : ∀ {x y}, OnlyScans x y → R x y) (b : Blk) (g : GMem) (keep : α → α) (put : α → State → State) (hp : ∀ y s, R s (put y s))
    (x : α) (s : State) : R s (recordRead b g keep put x s).2.2 := by
  have h := memScan_only b (· == g) s
  unfold recordRead
  split
  · next _ _ e => rw [e] at h; exact scan h
  · next _ _ _ _ e => rw [e] at h; exact trans (scan h) (hp _ _)

/-- With no error and no poison in any memory a record is read as it stands. -/
theorem recordRead_clean {α : Type} [Inhabited α] (b : Blk) (g : GMem) (keep : α → α) (put : α → State → State) (x : α) (s : State)
    (he : s.gerr = []) (hp : s.gpoison = []) : recordRead b g keep put x s = (false, x, s) := by
  unfold recordRead
  rw [memScan_clean b _ s he hp]
  rfl

theorem msgs_only (m : List MsgCtx) (s : State) : OnlyMessages s { s with msgs := m } :=
  ⟨s.csr, s.w1cSet, s.evts, s.excNow, [], s.again, s.gerr, s.gpoison, s.corrected, m, by rw [List.append_nil], id⟩

theorem granuleClean_only (g : GMem) (s : State) : OnlyScans s (granuleClean g s) :=
  ⟨s.csr, s.w1cSet, s.evts, s.excNow, [], s.again, _, _, s.corrected, by rw [List.append_nil]; rfl, id⟩

/-- Where no memory holds an error or poison, writing a granule clears none. -/
theorem granuleClean_clean (g : GMem) (s : State) (he : s.gerr = []) (hp : s.gpoison = []) : granuleClean g s = s := by
  cases s
  simp only at he hp
  subst he
  subst hp
  rfl

theorem msgRead_only (b : Blk) (c : MsgCtx) (s : State) : OnlyMessages s (msgRead b c s).2.2 :=
  recordRead_only (R := OnlyMessages) OnlyMessages.trans OnlyScans.messages b (.message c.src c.msgId) _ putMsg (fun _ t => msgs_only _ t) c s

/-- Message accounting reads and changes the contexts, counts, and raises (R33, R52 to R55). -/
theorem msgArrive_only (b : Blk) (port : Nat) (p : Packet) (s : State) : OnlyMessages s (msgArrive b port p s).2 := by
  have cr : ∀ (k f n : Nat) (t : State), OnlyMessages t (raise b f (countPkt k n p t)) := fun k f n t =>
    ((countPkt_only k n p t).raises.trans (raise_only b f _)).messages
  unfold msgArrive
  simp only
  split
  · next c _ =>
    have h := msgRead_only b c s
    split
    · next _ _ e => rw [e] at h; exact h
    · next _ _ e =>
      rw [e] at h
      refine h.trans ?_
      split
      · exact cr 0x053 2 _ _
      · split
        · exact (msgs_only _ _).trans (count_only 0x051 1 _ _ none _).raises.messages
        · exact msgs_only _ _
  · split
    · exact (OnlyRaises.refl s).messages
    · split
      · exact cr 0x054 6 _ _
      · exact ((msgs_only _ s).trans (granuleClean_only _ _).messages).trans (countPkt_only 0x050 port p _).raises.messages

/-! ## Ports and packets -/

theorem modPort_only (n : Nat) (f : Port → Port) (s : State) : OnlySends s (s.modPort n f) :=
  ⟨s.csr, s.w1cSet, s.evts, s.excNow, [], s.again, s.gerr, s.gpoison, s.corrected, _, s.spread, s.seqCtr, by rw [List.append_nil]; rfl, id⟩

theorem OnlySends.ite {c : Prop} [Decidable c] {s x y : State} (hx : OnlySends s x) (hy : OnlySends s y) :
    OnlySends s (if c then x else y) := by
  split
  · exact hx
  · exact hy

theorem OnlySends.pair {α : Type} {c : Prop} [Decidable c] {s : State} {x y : α × State} (hx : OnlySends s x.2)
    (hy : OnlySends s y.2) : OnlySends s (if c then x else y).2 := by
  split
  · exact hx
  · exact hy

theorem cross_only (f t n : Nat) (s : State) : OnlyRegs s (cross f t n s) := by
  unfold cross
  split
  · exact OnlyRegs.refl s
  · exact count_only _ _ _ _ _ s

theorem carry_only (hq mq n : Nat) (p : Packet) (s : State) : OnlyRegs s (carry hq mq n p s) :=
  (cross_only _ _ _ s).trans (cross_only _ _ _ _)

/-- A packet is read at a stage of its way; poison in it is met and gone with it (R33). -/
theorem stageRead_only (b : Blk) (st : Stage) (n : Nat) (p : Packet) (s : State) : OnlySends s (stageRead b st n p s).2 := by
  have drop : ∀ (t : State) (l : List GMem), OnlyScans t { t with gpoison := l } := fun t l =>
    ⟨t.csr, t.w1cSet, t.evts, t.excNow, [], t.again, t.gerr, l, t.corrected, by rw [List.append_nil], id⟩
  unfold stageRead
  exact OnlySends.pair ((memScan_only _ _ s).trans (drop _ _)).sends (memScan_only _ _ s).sends

theorem egressPush_only (n : Nat) (p : Packet) (g : Option Nat) (hop : Nat) (i : Option Nat) (s : State) :
    OnlySends s (egressPush n p g hop i s) :=
  modPort_only n _ s

theorem egressGreen_only (n : Nat) (p : Packet) (hop : Nat) (i : Option Nat) (s : State) : OnlySends s (egressGreen n p hop i s) := by
  have h0 : OnlySends s (contractRead p.contract s).2 := (tableRead_only .tcu (0x3010000 + p.contract * 16) 16 s).sends
  unfold egressGreen
  simp only
  generalize contractRead p.contract s = x at h0 ⊢
  exact OnlySends.ite h0 (OnlySends.ite (OnlySends.ite
    (h0.trans ((((countReg_only _ _ _).trans (countPkt_only _ _ _ _)).raises.trans (raise_only _ _ _)).sends))
    (h0.trans (egressPush_only _ _ _ _ _ _)))
    ((h0.trans ((countPkt_only _ _ _ _).raises.trans (raiseIf_only _ _ _ _)).sends).trans (egressPush_only _ _ _ _ _ _)))

/-- A packet that leaves by an egress changes that port's queue, or is counted away (R42, R60, R329). -/
theorem egress_only (n : Nat) (p : Packet) (dl hop : Nat) (i : Option Nat) (s : State) : OnlySends s (egress n p dl hop i s) := by
  unfold egress
  simp only
  exact OnlySends.ite (count_only _ _ _ _ _ s).raises.sends (OnlySends.ite (OnlySends.ite (egressPush_only _ _ _ _ _ s)
    ((countPkt_only _ _ _ s).raises.trans (raise_only _ _ _)).sends)
    (OnlySends.ite (egressGreen_only _ _ _ _ s) (egressPush_only _ _ _ _ _ s)))

/-- A packet through the crossbars and crossings to its egress (R13, R33). -/
theorem throughRte_only (n hq mq dl hop : Nat) (i : Option Nat) (p : Packet) (s : State) :
    OnlySends s (throughRte n hq mq dl hop i p s) := by
  have h := (carry_only hq mq n p s).raises.sends.trans (stageRead_only .rte .crossbar n p (carry hq mq n p s))
  unfold throughRte
  split
  · next t e => rw [e] at h; exact h
  · next q t e => rw [e] at h; exact h.trans (egress_only _ _ _ _ _ _)

theorem toTrunk_only (n hq mq : Nat) (i : Option Nat) (hop : Nat) (p : Packet) (s : State) : OnlySends s (toTrunk n hq mq i hop p s) := by
  exact throughRte_only _ _ _ _ _ _ _ _

theorem noRoute_only (n : Option Nat) (p : Packet) (s : State) : OnlySends s (noRoute n p s) :=
  ((count_only _ _ _ _ _ s).raises.trans (raise_only _ _ _)).sends

theorem spreadChoose_only (quad axis : Nat) (ps : List Nat) (s : State) : OnlySends s (spreadChoose quad axis ps s).2 := by
  unfold spreadChoose
  simp only
  split
  · exact OnlySends.refl s
  · exact ⟨s.csr, s.w1cSet, s.evts, s.excNow, [], s.again, s.gerr, s.gpoison, s.corrected, s.ports, _, s.seqCtr, by rw [List.append_nil], id⟩

/-- Routing a packet changes the queues of ports, the spreading pointer and counters, meets errors of the routing tables, and may
raise (R33, R108 to R119). -/
theorem route_only (i : Option Nat) (quad mq hop : Nat) (p : Packet) (s : State) : OnlySends s (route i quad mq hop p s) := by
  unfold route
  split
  · exact OnlySends.refl s
  · next axis _ =>
    split
    · have h := (tableRead_only .rte (0x2010000 + p.contract * 4) 4 s).sends
      simp only
      generalize tableRead .rte (0x2010000 + p.contract * 4) 4 s = x at h ⊢
      exact OnlySends.ite (h.trans (count_only _ _ _ _ _ _).raises.sends) (OnlySends.ite
        (h.trans ((toTrunk_only _ _ _ _ _ _ _).trans (countPkt_only _ _ _ _).raises.sends)) (h.trans (noRoute_only _ _ _)))
    · have h : OnlySends s (if cwAxis p.dst axis < dimAxis s axis then
          tableRead .rte (0x2001000 + axis * 0x100 + cwAxis p.dst axis * 4) 4 s else (false, s)).2 :=
        OnlySends.pair (tableRead_only .rte _ 4 s).sends (OnlySends.refl s)
      simp only
      generalize (if cwAxis p.dst axis < dimAxis s axis then
          tableRead .rte (0x2001000 + axis * 0x100 + cwAxis p.dst axis * 4) 4 s else (false, s)) = x at h ⊢
      refine OnlySends.ite (h.trans (count_only _ _ _ _ _ _).raises.sends) ?_
      have h' := h.trans (spreadChoose_only quad axis (detourSet x.2 axis p.dst) x.2)
      split
      · next t e => rw [e] at h'; exact h'.trans (noRoute_only _ _ _)
      · next m t e => rw [e] at h'; exact h'.trans ((toTrunk_only _ _ _ _ _ _ _).trans (countPkt_only _ _ _ _).raises.sends)

theorem toEndpoint_only (i : Option Nat) (quad mq hop : Nat) (p : Packet) (s : State) : OnlySends s (toEndpoint i quad mq hop p s) := by
  unfold toEndpoint
  simp only
  exact OnlySends.ite (throughRte_only _ _ _ _ _ _ _ s) ((countPkt_only _ _ _ s).raises.trans (raise_only _ _ _)).sends

theorem sendOn_only (quad mq hop : Nat) (p : Packet) (s : State) : OnlySends s (sendOn quad mq hop p s) :=
  OnlySends.ite (toEndpoint_only _ _ _ _ _ _) (route_only _ _ _ _ _ _)

/-- A packet the switch originates takes the SEQ counter and goes to its egress (R38, R43). -/
theorem originateFrom_only (quad mq : Nat) (p : Packet) (s : State) : OnlySends s (originateFrom quad mq p s) := by
  have h : OnlySends s { s with seqCtr := s.seqCtr + 1 } :=
    ⟨s.csr, s.w1cSet, s.evts, s.excNow, [], s.again, s.gerr, s.gpoison, s.corrected, s.ports, s.spread, _, by rw [List.append_nil], id⟩
  exact OnlySends.ite (count_only _ _ _ _ _ s).raises.sends (h.trans (sendOn_only _ _ _ _ _))

theorem originate_only (quad : Nat) (p : Packet) (s : State) : OnlySends s (originate quad p s) := originateFrom_only quad quad p s

/-! ## Ingress -/

theorem received_only (n : Nat) (p : Packet) (s : State) : OnlyRegs s (received n p s) := by
  unfold received
  split
  · exact (countPkt_only 0x014 n p s).trans (countPkt_only _ _ _ _)
  · exact countPkt_only _ _ _ _

theorem takeIn_only (n : Nat) (p : Packet) (s : State) : OnlySends s (takeIn n p s).2 := by
  unfold takeIn
  simp only
  split
  · exact ((count_only _ _ _ _ _ s).trans (received_only n p _)).raises.sends
  · exact ⟨s.csr, s.w1cSet, s.evts, s.excNow, [], s.again, s.gerr, s.gpoison, s.corrected, _, s.spread, s.seqCtr, by rw [List.append_nil]; rfl, id⟩

theorem dropIn_only (n src : Nat) (f : Option Nat) (p : Packet) (s : State) : OnlySends s (dropIn n src f p s).2 := by
  unfold dropIn
  cases f with
  | none => exact (countPkt_only src n p s).raises.sends
  | some f => exact ((countPkt_only src n p s).raises.trans (raise_only _ _ _)).sends

theorem checkHere_only (n hop : Nat) (p : Packet) (s : State) : OnlySends s (checkHere n hop p s).2 := by
  unfold checkHere
  simp only
  split
  · exact dropIn_only _ _ _ _ s
  · exact dropIn_only _ _ _ _ s
  · exact OnlySends.pair (dropIn_only _ _ _ _ s) (OnlySends.pair (OnlySends.refl s)
      (OnlySends.pair (dropIn_only _ _ _ _ s) (OnlySends.refl s)))

theorem meterColour_only (n m : Nat) (s : State) : OnlyRegs s (meterColour n m s).2 := by
  unfold meterColour
  simp only
  split
  · exact OnlyRegs.refl s
  · split
    · exact setRegN_only _ _ s
    · exact setRegN_only _ _ s

theorem endpointIn_only (n : Nat) (past : Bool) (p : Packet) (s : State) : OnlySends s (endpointIn n past p s).2 := by
  have drop : ∀ (q : Packet) (k f : Nat) (t : State), OnlySends t (raise (puBlk n) f (countPkt k n q t)) := fun q k f t =>
    ((countPkt_only k n q t).raises.trans (raise_only _ _ _)).sends
  have loss : ∀ (q : Packet) (k a : Nat) (t : State), OnlySends t (countPkt k n q (t.countReg a 1)) := fun q k a t =>
    ((countReg_only _ _ _).trans (countPkt_only _ _ _ _)).raises.sends
  unfold endpointIn
  simp only
  refine OnlySends.pair (drop _ _ _ _) (OnlySends.pair (OnlySends.pair (drop _ _ _ _) (OnlySends.refl s)) ?_)
  have h0 : OnlySends s (contractRead (p.set 19 1 0).contract s).2 := (tableRead_only .tcu _ 16 s).sends
  generalize contractRead (p.set 19 1 0).contract s = x at h0 ⊢
  have h1 := h0.trans (tableRead_only .tcu (meterAddr n (aMeter (conA x.2 (p.set 19 1 0).contract))) 8 x.2).sends
  generalize tableRead .tcu (meterAddr n (aMeter (conA x.2 (p.set 19 1 0).contract))) 8 x.2 = y at h1 ⊢
  refine OnlySends.pair (h1.trans (countPkt_only _ _ _ _).raises.sends) (OnlySends.pair ?_ (h1.trans (drop _ _ _ _)))
  have h2 := h1.trans (meterColour_only n (aMeter (conA x.2 (p.set 19 1 0).contract)) y.2).raises.sends
  have h3 := h2.trans (countPkt_only (if (meterColour n (aMeter (conA x.2 (p.set 19 1 0).contract)) y.2).1 = 1 then 0x016 else 0x017) n
    (p.set 19 1 0) _).raises.sends
  exact OnlySends.pair (h2.trans (loss _ _ _ _)) (OnlySends.pair (h3.trans (loss _ _ _ _)) h3)

theorem trunkIn_only (n : Nat) (p : Packet) (s : State) : OnlySends s (trunkIn n p s).2 := by
  unfold trunkIn
  simp only
  split
  · exact ((setReg_only _ _ s).trans (countPkt_only _ _ _ _)).raises.sends
  · exact OnlySends.refl s

theorem checks_only (n hop : Nat) (past : Bool) (p : Packet) (s : State) : OnlySends s (checks n hop past p s).2 := by
  unfold checks
  split
  · exact dropIn_only _ _ _ _ _
  · have part : ∀ (y : Option Packet × State), OnlySends s y.2 →
        OnlySends s (match y.1 with
          | none => (Ing.gone, y.2)
          | some p => if cwSw p.dst = ownSw y.2 then checkHere n hop p y.2 else (.forward p hop, y.2)).2 := by
      intro y h2
      split
      · exact h2
      · exact OnlySends.pair (h2.trans (checkHere_only _ _ _ _)) h2
    exact part _ (OnlySends.pair (endpointIn_only n past p s) (trunkIn_only n p s))

/-- A received packet's entry changes its port's receive buffer and counters, a meter, meets errors of buffers and tables, and may
raise (R33, R50). -/
theorem ingress_only (n : Nat) (p : Packet) (s : State) : OnlySends s (ingress n p s).2 := by
  have h0 := takeIn_only n p s
  unfold ingress
  simp only
  generalize takeIn n p s = x at h0 ⊢
  have h1 := h0.trans (stageRead_only (puBlk n) .buffer n p x.2)
  split
  · next t e => rw [e] at h1; exact h1
  · next q t e =>
    rw [e] at h1
    exact h1.trans (checks_only _ _ _ _ _)

theorem sinkOverrun_only (b : Blk) (n hop : Nat) (p : Packet) (s : State) : OnlySends s (sinkOverrun b n hop p s) := by
  unfold sinkOverrun
  split
  · exact (((countReg_only _ _ s).trans (countPkt_only _ _ _ _)).raises.trans (raise_only _ _ _)).sends
  · exact OnlySends.refl s

end Sys2Proof.Machine
end

