-- ==== Sys2Proof/Laws/Settle.lean ====
section
/-!
SUPPORT. The reactions at the end of a cycle: where nothing was raised nothing more happens, and nothing is left raised.
-/

namespace Sys2Proof.Machine

@[simp] theorem settleN_none (f : Nat) (s : State) (h : s.raised = []) : settleN f s = s := by
  cases f with
  | zero => simp only [settleN]; rw [← h]
  | succ f => simp [settleN, h]

/-- A cycle in which nothing was raised has no reaction. -/
@[simp] theorem settle_none (s : State) (h : s.raised = []) : settle s = s := settleN_none 64 s h

theorem settleN_raised (f : Nat) : ∀ s : State, (settleN f s).raised = [] := by
  induction f with
  | zero => intro s; rfl
  | succ f ih =>
    intro s
    simp only [settleN]
    split
    · next h => simpa using h
    · exact ih _

/-- After the reactions of a cycle nothing is left raised. -/
@[simp] theorem settle_raised (s : State) : (settle s).raised = [] := settleN_raised 64 s

end Sys2Proof.Machine
end

