-- ==== Sys2Proof/Laws/Engines.lean ====
section
/-!
SUPPORT. The next instruction of a run: what `instr` and the updates of a run do.
-/

namespace Sys2Proof.Machine

/-- With no error and no poison outside the tensor store, a word of the program memory is read and nothing changes (R33). -/
theorem pmemRead_clean (e i : Nat) (s : State) (hg : s.gerr = []) (hp : s.gpoison = []) : pmemRead e i s = (false, s) := by
  unfold pmemRead
  rw [memScan_clean _ _ _ hg hp]
  rfl

/-- The next instruction of the run in a slot is the word `w` with opcode `opc`, and can be performed. -/
theorem instr_ready {s : State} {e slot opc : Nat} {r : Run} {w : W64} (body : W64 → Run → State → State)
    (hon : coreOn s = true) (hp : present s e = true) (hr : findRun s e slot = some r) (hu : 128 ≤ r.pid)
    (hw : r.wait = none) (hpc : r.pc < progLen s e r.pid) (hword : progWord s e r.pid r.pc = w)
    (hl : legalWord w = true) (ho : iOpc w = opc)
    (hg : s.gerr = []) (hq : s.gpoison = []) : instr e slot opc body s = noteIssue e w r (body w r s) := by
  have hrow : (opRow w).isNone = false := by
    unfold legalWord at hl
    cases h : opRow w with
    | none => rw [h] at hl; simp at hl
    | some x => rfl
  have h1 : ¬ r.pid < 128 := by omega
  have h2 : ¬ progLen s e r.pid ≤ r.pc := by omega
  simp [instr, hon, hp, hr, h1, hw, h2, hword, hrow, ho, hl, pmemRead_clean _ _ _ hg hq]

/-- Noting an issue changes the record of the cycle's issues and nothing else. -/
theorem noteIssue_shape (e : Nat) (w : W64) (r : Run) (s : State) : ∃ i, noteIssue e w r s = { s with issued := i } := by
  unfold noteIssue
  split
  · exact ⟨_, rfl⟩
  · exact ⟨s.issued, rfl⟩

end Sys2Proof.Machine
end

