-- ==== Sys2Proof/Tests/Machines.lean ====
section
/-!
SUPPORT. Small states and operands for the tests: a running switch, its ports, packets, engine programs and frames.
-/

namespace Sys2Proof.Tests

open Sys2Proof Sys2Proof.Machine Sys2Proof.Claims

/-- Registers written in a state. -/
def withRegs (rs : List (Nat × Nat)) (s : State) : State := rs.foldl (fun s r => s.setRegN r.1 r.2) s

/-- Reaction sets all empty. -/
def noReactions : Tab W64 :=
  [
    (0x100100, 0), (0x100104, 0), (0x100108, 0), (0x10010C, 0), (0x100110, 0), (0x100114, 0), (0x100118, 0), (0x10011C, 0), (0x100120, 0), (0x100124, 0), (0x100128, 0),
    (0x10012C, 0), (0x100130, 0), (0x100134, 0), (0x100138, 0), (0x10013C, 0), (0x100140, 0), (0x100144, 0), (0x100148, 0), (0x10014C, 0), (0x100150, 0), (0x100154, 0),
    (0x100158, 0), (0x10015C, 0), (0x100160, 0), (0x100164, 0), (0x100168, 0), (0x10016C, 0), (0x100170, 0), (0x100174, 0), (0x100178, 0), (0x10017C, 0), (0x100180, 0),
    (0x100184, 0), (0x100188, 0), (0x10018C, 0), (0x100190, 0), (0x100194, 0), (0x100198, 0), (0x10019C, 0), (0x1001A0, 0), (0x1001A4, 0), (0x1001A8, 0), (0x1001AC, 0)]

/-- A switch of a 1 × 1 × 1 torus that has applied its image, with its start gate shut. -/
def applied : State :=
  { State.reset with
    csr := [(0x20, 0x80000), (0xA0, 5)] ++ noReactions ++ [(0x2000004, 0x010101)]
    pins := ⟨true, false, true, Straps.open⟩
    boot := { Boot.reset with applied := true } }

/-- The same switch READY with its start gate open. -/
def on : State := { applied with csr := [(0x20, 0x80000), (0x30, 3), (0xA0, 6)] ++ noReactions ++ [(0x2000004, 0x010101)] }

/-- An endpoint port that is UP. -/
def endPort : Port := { Port.reset with link := .up, role := 1, fabver := 1, width := 8, laneUse := 0xFF, disc := .ok, everUp := true, wasUp := true }

/-- The running switch with endpoint ports 0 and 1 UP. -/
def sw : State := (on.setPort 0 endPort).setPort 1 endPort

/-- Coordinate word of endpoint port `n` of the switch at (0, 0, 0). -/
def cw (n : Nat) : Nat := n * 2 ^ 18

/-- A packet from the endpoint at port `n`, sealed. -/
def pkt (n typ dst : Nat) (dsvc : Bool) (msgId idx cnt : Nat) (pay : List Byte) (own : List (Nat × Nat × Nat)) : Packet :=
  (((mkPacket typ 0 dst dsvc (BitVec.ofNat 32 msgId) idx cnt pay own).set 157 1 0).set 64 32 (cw n)).seal

/-- What ingress hands to the service block, and the state then. -/
def servPkt (s : State) (n : Nat) (p : Packet) : Packet :=
  match ingress n p s with | (.service q _, _) => known q | _ => p
def servSt (s : State) (n : Nat) (p : Packet) : State :=
  match ingress n p s with
  | (.service q hop, t) => sinkOverrun (serviceBlk q.typ) n hop q (cross (quadOf n) (serviceQuad q) 1 t)
  | (_, t) => t

/-- A packet that is `Taken`, as a computation. -/
def takenB (s : State) (n : Fin 64) (p : Packet) : Bool :=
  match ingress n.val p s with
  | (.service q _, _) => canArrive s n.val p && s.gerr.isEmpty && s.gpoison.isEmpty && check11 q && (!s.wiping || !usesStore q)
  | _ => false

theorem taken_of {s : State} {n : Fin 64} {p : Packet} (h : takenB s n p = true) :
    Taken s n p (servPkt s n.val p) (servSt s n.val p) := by
  unfold takenB at h
  unfold Taken servPkt servSt
  split at h
  · next q hop t he =>
    simp only [Bool.and_eq_true, Bool.or_eq_true, Bool.not_eq_true', List.isEmpty_iff] at h
    obtain ⟨⟨⟨⟨h1, h2⟩, h3⟩, h4⟩, h5⟩ := h
    rw [he]
    exact ⟨h1, ⟨h2, h3⟩, q, hop, t, rfl, h4, fun hw => h5.resolve_left (by simp [hw]), rfl, rfl⟩
  · exact absurd h (by decide)

/-- The context, the two flags and the state of a packet that its message counted. -/
def countedOf (r : MsgRes × State) : MsgCtx × Bool × Bool × State :=
  match r with
  | (.counted c f k, t) => (c, f, k, t)
  | (_, t) => (⟨0, 0, 0, 0, 0, 0, [], false, true, false, []⟩, false, false, t)

theorem counted_of {r : MsgRes × State} {f k : Bool}
    (h : (match r.1 with | .counted _ f' k' => f' == f && k' == k | _ => false) = true) :
    r = (.counted (countedOf r).1 f k, (countedOf r).2.2.2) := by
  obtain ⟨m, t⟩ := r
  cases m with
  | counted c f' k' =>
    have e : (f' == f && k' == k) = true := h
    rw [Bool.and_eq_true] at e
    rw [eq_of_beq e.1, eq_of_beq e.2]; rfl
  | _ => exact Bool.noConfusion h

/-- A packet that its message counts. -/
theorem counted_ex {r : MsgRes × State} (h : (match r.1 with | .counted _ _ _ => true | _ => false) = true) :
    ∃ c f k t, r = (.counted c f k, t) := by
  obtain ⟨m, t⟩ := r
  cases m with
  | counted c f k => exact ⟨c, f, k, t, rfl⟩
  | _ => exact Bool.noConfusion h

/-- A bounded family of cases, one by one. -/
theorem bounded {A P : Nat → Prop} {b : Nat} (h : ∀ k, k < b + 1 → A k → P k) : ∀ k, A k → k ≤ b → P k :=
  fun k ha hk => h k (Nat.lt_succ_of_le hk) ha

/-- An access that reaches no register. -/
theorem notPerformed {a w : Nat} (h : accessKind a w = .absent ∨ accessKind a w = .refused) : ∀ r, accessKind a w ≠ .performed r := by
  intro r hr
  rw [hr] at h
  cases h with
  | inl h => cases h
  | inr h => cases h

/-- An instruction word from its fields (Table 10.4). -/
def word (opc fmt rd ra rb rc mod imm : Nat) : W64 :=
  BitVec.ofNat 64 (opc * 2 ^ 56 + fmt * 2 ^ 52 + rd * 2 ^ 48 + ra * 2 ^ 44 + rb * 2 ^ 40 + rc * 2 ^ 36 + mod * 2 ^ 32 + imm)

/-- A run of program 128 in slot 0, at its first word: S0 is 7, S1 is 1, every accumulator clear and of kind `k`. -/
def run0 (k : Bool) : Run :=
  ⟨0, 128, .register, 0, [7, 1, 0x10000000000, 32] ++ List.replicate 12 0, List.replicate 8 (Acc.clear k), 4, 0, 0, 0, 0xFFFFFFFF, true, none, false,
    0, [], 0, 0, [], false⟩

/-- Engine 0 runs `r` on a program of four words whose first is `w`. -/
def engineAt (w : W64) (r : Run) : State :=
  (withRegs [(jBase 0 + 0x100, 2 ^ 27 + 4 * 2 ^ 13), (jBase 0 + 0x10000, w.toNat)] on).modEngine 0 (fun x => { x with runs := [r] })

/-- The run of floating accumulators, and of integer ones, on a word. -/
def eng (w : W64) : State := engineAt w (run0 true)
def engI (w : W64) : State := engineAt w (run0 false)

/-- Group 4: two members at ports 0 and 1, its list at 0x1000, this switch its root; ALLREDUCE_SUM of 16 FP32 elements,
NATIVE, registered. -/
def desc4 : BitVec 128 := BitVec.ofNat 128 (1 + 2 ^ 16 + 16 * 2 ^ 32)
def grouped : State :=
  { withRegs [(0x4010080, 2 ^ 17), (0x4010084, 2 + 2 * 2 ^ 18), (0x4010088, 0x1000), (0x4010098, 1)] sw with
    mem := cellWrite 0 [] 0x1000 (leBytes 4 (cw 0) ++ leBytes 4 (cw 1)), descs := [desc4], locals := [(4, [(0, 0), (1, 1)])] }

/-- A whole input of 16 elements `v`. -/
def input16 (k : CKey) (v : W32) : CIn := ⟨k, 0, 0, (List.range 16).map (fun i => (i, v)), [], [], [], true⟩

/-- Collective (4, 0) with both members' data, on engines 0 and 1. -/
def coll4 : Coll :=
  ⟨4, 0, 0, dDigest desc4, desc4, 0, false, false, [0, 1], [], [input16 (.member 0) 0x3F800000, input16 (.member 1) 0x40000000],
    [(0, 0, 16), (1, 0, 16)], [], [], none, [], [], [], false⟩
/-- Run 0 of the collective. -/
def redRun : Run := { run0 true with origin := .reduction 4 0 0, vl := 16 }

/-- The collective open, with its first run begun on both engines. -/
def summing : State :=
  ({ grouped with colls := [coll4] }.modEngine 0 (fun x => { x with runs := [redRun] })).modEngine 1 (fun x => { x with runs := [redRun] })

/-- The same, engine 0 running `r` on the user program of `engineAt`, at word `w`. -/
def redAt (w : W64) (r : Run) : State :=
  (withRegs [(jBase 0 + 0x100, 2 ^ 27 + 4 * 2 ^ 13), (jBase 0 + 0x10000, w.toNat)] summing).modEngine 0 (fun x => { x with runs := [r] })

/-- What a stream hands a run. -/
def gotRec (s : State) (r : Run) : Rec × Nat × Coll :=
  match takeRec s 0 0 r with
  | .got x n c => (x, n, c)
  | _ => (⟨0, 0, 0, false, false, false, false, false, 0, []⟩, 0, coll4)

end Sys2Proof.Tests
end

