-- ==== Sys2Proof/Tests/Collectives.lean ====
section
/-!
SUPPORT. Witnesses: states and operands that meet the hypotheses of each statement, clause by clause (groups and collectives in progress).
-/

namespace Sys2Proof.Tests.Collectives

open Sys2Proof Sys2Proof.Machine Sys2Proof.Claims Sys2Proof.Tests

set_option Elab.async false

def cbo (step fmt b43 mem off : Nat) (cseq : Nat) (d : BitVec 128) : List (Nat × Nat × Nat) :=
  [(256,12,4),(272,16,0),(288,32,cseq),(320,16,step),(336,4,fmt),(344,8,b43),(352,32,(dDigest d).toNat),(384,32,off),(416,17,mem),(440,8,0)]
def ones16 : List Byte := (List.range 16).flatMap (fun i => leBytes 4 (0x3F800000 + i * 2 ^ 16))
def mpk (n cseq : Nat) (d : BitVec 128) (pay : List Byte) (off : Nat) : Packet := pkt n 0x10 0 true 9 0 1 pay (cbo 0 (dFmt d) 0 n off cseq d)
def spk (src step fmt b43 mem off cseq : Nat) (d : BitVec 128) (pay : List Byte) : Packet :=
  ((mkPacket 0x10 0 0 true 9 0 1 pay (cbo step fmt b43 mem off cseq d)).set 64 32 src).seal
def ctl (count code : Nat) : List Byte := leBytes 4 count ++ leBytes 4 0xFFFFFFFF ++ [0, BitVec.ofNat 8 code, 0, 0, 0, 0, 0, 0]
def desc6 : BitVec 128 := BitVec.ofNat 128 (6 + 16 * 2 ^ 32)
def desc7 : BitVec 128 := BitVec.ofNat 128 (4 + 16 * 2 ^ 32)
def descs4 : List (BitVec 128) := [desc4, desc6, desc7]
def gMem : List (Nat × Byte) := cellWrite 0 [] 0x1000 (leBytes 4 (cw 0) ++ leBytes 4 (cw 1))
def trunkPort (d : Nat) : Port := { endPort with role := 2, dir := d }
def torus2 : State := ((withRegs [(0x2000004, 0x010103), (0x2001004, 1), (0x2001008, 2)] sw).setPort 2 (trunkPort 0)).setPort 3 (trunkPort 1)
def rooted : State := { withRegs [(0x4010080, 2 ^ 17 + 2 ^ 21), (0x4010084, 2 + 2 * 2 ^ 18), (0x4010088, 0x1000), (0x4010098, 1)] torus2 with mem := gMem, descs := descs4, locals := [(4, [(0, 0), (1, 1)])] }
def leafed : State := { withRegs [(0x4010080, 1 * 2 ^ 18), (0x4010084, 2 + 2 * 2 ^ 18), (0x4010088, 0x1000), (0x4010098, 1)] torus2 with mem := gMem, descs := descs4, locals := [(4, [(0, 0), (1, 1)])] }
def cnt (b : Blk) (n : Nat) (s : State) (p : Packet) (s' : State) : MsgCtx × Bool × Bool × State :=
  countedOf (msgArrive b n (servPkt s n p) s')
theorem cnt_of {b : Blk} {a n : Nat} {s s' : State} {p : Packet} {f k : Bool} (ha : a = n)
    (h : (match (msgArrive b n (servPkt s n p) s').1 with | .counted _ f' k' => f' == f && k' == k | _ => false) = true) :
    msgArrive b a (servPkt s n p) s' = (.counted (cnt b n s p s').1 f k, (cnt b n s p s').2.2.2) := by
  subst ha; exact counted_of h
def cf (n : Nat) (s : State) (p : Packet) : Option Coll × State := collFor n (servPkt s n p) 4 (listRead (servSt s n p) (servPkt s n p))
def withColl (c : Coll) (s : State) : State := { s with colls := [c] }
def emptyColl (d : BitVec 128) : Coll := ⟨4, 0, 0, dDigest d, d, 0, false, false, if opReduce (dOp d) then [0, 1, 2] else [], [], [], [], [], [], none, [], [], [], false⟩
def desc1k : BitVec 128 := BitVec.ofNat 128 (1 + 2 ^ 16 + 528 * 2 ^ 32)
def noStaging : State := { grouped with descs := [desc1k], bpm := { grouped.bpm with inForce := (List.range 4).map (fun q => (0x7000000 + 4 * q, (0x10 : W64))) } }
def descC : BitVec 128 := BitVec.ofNat 128 (1 + 2 * 2 ^ 16 + 528 * 2 ^ 32)
def canonMid : State := { withRegs [(0x4010080, 1 * 2 ^ 18 + 2 ^ 21), (0x4010084, 4 + 1 * 2 ^ 18), (0x4010088, 0x1000), (0x4010098, 1)] torus2 with
  mem := gMem, descs := [descC], locals := [(4, [(0, 0)])], bpm := noStaging.bpm }
def c8 : Coll := { emptyColl desc7 with desc := BitVec.ofNat 128 (7 + 16*2^32 + 2^96), inputs := [input16 (.member 0) 1, input16 (.member 1) 2] }
def cfin : Coll := { coll4 with parts := [⟨0, 0, [0], (List.range 16).map (fun i => (i, 5)), []⟩], outs := [] }
def cfin2 : Coll := { cfin with outs := (downsOwed (withColl cfin grouped) cfin).map (fun k => ⟨k, 0, 1, 1⟩) }

/-- The hypotheses of `Obligations.ContributionsAreChecked`, at clauses 1, 2, 3. -/
theorem witness_ContributionsAreChecked :
  (∃ (s : State) (k : Fin 6) (n : Fin 64) (p : Packet) (q : Packet) (t : State) (src : Nat) (f : Option Nat), s.flaws = [] ∧ TakenStep s k n p q t ∧
    early t (cbGroup q) q = some (src, f)) ∧
  (∃ (s : State) (k : Fin 6) (n : Fin 64) (p : Packet) (q : Packet) (t : State) (c : Coll), s.flaws = [] ∧ TakenStep s k n p q t ∧
    early t (cbGroup q) q = none ∧ k ≠ 5 ∧ findColl t (cbGroup q) (cbCseq q) = some c ∧ cbDigest q ≠ c.digest) ∧
  (∃ (s : State) (k : Fin 6) (n : Fin 64) (p : Packet) (q : Packet) (t : State) (c : Coll), s.flaws = [] ∧ TakenStep s k n p q t ∧
    early t (cbGroup q) q = none ∧ k.val ≤ 2 ∧ findColl t (cbGroup q) (cbCseq q) = some c ∧ cbDigest q = c.digest ∧ cbFmt q = wantFmt c.desc k.val ∧
    row12Data t c (k.val) (cbKey (k.val) ((stepDir t (cbGroup q) (k.val) q.src).getD 0) q) q = false) :=
  ⟨⟨grouped, 0, 0, mpk 0 8 desc4 ones16 0, servPkt grouped 0 (mpk 0 8 desc4 ones16 0), servSt grouped 0 (mpk 0 8 desc4 ones16 0), ((early (servSt grouped 0 (mpk 0 8 desc4 ones16 0)) 4 (servPkt grouped 0 (mpk 0 8 desc4 ones16 0))).getD (0,none)).1, ((early (servSt grouped 0 (mpk 0 8 desc4 ones16 0)) 4 (servPkt grouped 0 (mpk 0 8 desc4 ones16 0))).getD (0,none)).2, by decide +kernel, ⟨taken_of (by decide +kernel), by decide +kernel⟩, by decide +kernel⟩,
  ⟨withColl (emptyColl desc6) grouped, 0, 0, mpk 0 0 desc4 ones16 0, servPkt (withColl (emptyColl desc6) grouped) 0 (mpk 0 0 desc4 ones16 0), servSt (withColl (emptyColl desc6) grouped) 0 (mpk 0 0 desc4 ones16 0), emptyColl desc6, by decide +kernel, ⟨taken_of (by decide +kernel), by decide +kernel⟩, by decide +kernel⟩,
  ⟨withColl (emptyColl desc4) grouped, 0, 0, mpk 0 0 desc4 ones16 1, servPkt (withColl (emptyColl desc4) grouped) 0 (mpk 0 0 desc4 ones16 1), servSt (withColl (emptyColl desc4) grouped) 0 (mpk 0 0 desc4 ones16 1), emptyColl desc4, by decide +kernel, ⟨taken_of (by decide +kernel), by decide +kernel⟩, by decide +kernel⟩⟩

/-- The hypotheses of `Obligations.ContributionsOpenAndFill`, at clauses 1, 2, 3, 4, 5. -/
theorem witness_ContributionsOpenAndFill :
  (∃ (q : Packet) (t : State) (c : Coll) (d : BitVec 128), findColl t (cbGroup q) (cbCseq q) = none ∧
    List.find? (fun d => dDigest d == cbDigest q) t.descs = some d ∧ fits t (cbGroup q) d = true ∧
    (List.filter (fun c => c.group % 4 == cbGroup q % 4) t.colls).length < 256 ∧ sliceState t (cbGroup q) = DisState.enabled ∧ Whole t ∧
    (∀ (e : Nat), e ∈ neededEngines t (cbGroup q) d → (t.engine e).dis = DisState.enabled) ∧ dOp d ≠ 8) ∧
  (∃ (s : State) (k : Fin 6) (n : Fin 64) (p : Packet) (q : Packet) (t : State) (t1 : State) (t2 : State) (c : Coll) (m : MsgCtx) (first : Bool) (complete : Bool), TakenStep s k n p q t ∧
    k.val ≤ 2 ∧ early t (cbGroup q) q = none ∧ collFor (n.val) q (cbGroup q) (listRead t q) = (some c, t1) ∧ cbFmt q = wantFmt c.desc k.val ∧
    row12Data t1 c (k.val) (cbKey (k.val) ((stepDir t (cbGroup q) (k.val) q.src).getD 0) q) q = true ∧
    msgArrive Blk.csq (n.val) q t1 = (MsgRes.counted m first complete, t2) ∧
    waitsForPlace t1 c (k.val) (cbKey (k.val) ((stepDir t (cbGroup q) (k.val) q.src).getD 0) q) q = true ∧
    waitsForPlace t1 (passFragment t1 c (cbKey (k.val) ((stepDir t (cbGroup q) (k.val) q.src).getD 0) q)) (k.val) (cbKey (k.val) ((stepDir t (cbGroup q) (k.val) q.src).getD 0) q) q = true) ∧
  (∃ (s : State) (k : Fin 6) (n : Fin 64) (p : Packet) (q : Packet) (t : State) (t1 : State) (t2 : State) (c : Coll) (m : MsgCtx) (first : Bool) (complete : Bool), TakenStep s k n p q t ∧
    k.val ≤ 2 ∧ early t (cbGroup q) q = none ∧ collFor (n.val) q (cbGroup q) (listRead t q) = (some c, t1) ∧ cbFmt q = wantFmt c.desc k.val ∧
    row12Data t1 c (k.val) (cbKey (k.val) ((stepDir t (cbGroup q) (k.val) q.src).getD 0) q) q = true ∧
    msgArrive Blk.csq (n.val) q t1 = (MsgRes.counted m first complete, t2) ∧
    waitsForPlace t1 c (k.val) (cbKey (k.val) ((stepDir t (cbGroup q) (k.val) q.src).getD 0) q) q = false ∧ isJoin c.desc (k.val) q = false) ∧
  (∃ (s : State) (k : Fin 6) (n : Fin 64) (p : Packet) (q : Packet) (t : State) (t1 : State) (t2 : State) (c : Coll) (m : MsgCtx) (first : Bool) (complete : Bool), TakenStep s k n p q t ∧
    k.val ≤ 2 ∧ early t (cbGroup q) q = none ∧ collFor (n.val) q (cbGroup q) (listRead t q) = (some c, t1) ∧ cbFmt q = wantFmt c.desc k.val ∧
    row12Data t1 c (k.val) (cbKey (k.val) ((stepDir t (cbGroup q) (k.val) q.src).getD 0) q) q = true ∧
    msgArrive Blk.csq (n.val) q t1 = (MsgRes.counted m first complete, t2) ∧
    waitsForPlace t1 c (k.val) (cbKey (k.val) ((stepDir t (cbGroup q) (k.val) q.src).getD 0) q) q = true ∧
    waitsForPlace t1 (passFragment t1 c (cbKey (k.val) ((stepDir t (cbGroup q) (k.val) q.src).getD 0) q)) (k.val) (cbKey (k.val) ((stepDir t (cbGroup q) (k.val) q.src).getD 0) q) q = false) ∧
  (∃ (s : State) (k : Fin 6) (n : Fin 64) (p : Packet) (q : Packet) (t : State) (t1 : State) (t2 : State) (c : Coll) (m : MsgCtx) (first : Bool) (complete : Bool), TakenStep s k n p q t ∧
    k = 0 ∧ early t (cbGroup q) q = none ∧ collFor (n.val) q (cbGroup q) (listRead t q) = (some c, t1) ∧ cbFmt q = wantFmt c.desc 0 ∧
    row12Data t1 c 0 (cbKey (k.val) ((stepDir t (cbGroup q) (k.val) q.src).getD 0) q) q = true ∧
    msgArrive Blk.csq (n.val) q t1 = (MsgRes.counted m first complete, t2) ∧ isJoin c.desc 0 q = true) :=
  ⟨⟨servPkt rooted 0 (mpk 0 7 desc6 ones16 0), servSt rooted 0 (mpk 0 7 desc6 ones16 0), (cf 0 rooted (mpk 0 7 desc6 ones16 0)).1.getD (emptyColl desc4), desc6, by decide +kernel⟩,
  ⟨noStaging, 0, 0, pkt 0 0x10 0 true 9 1 2 ones16 (cbo 0 0 0 0 512 0 desc1k), servPkt noStaging 0 (pkt 0 0x10 0 true 9 1 2 ones16 (cbo 0 0 0 0 512 0 desc1k)), servSt noStaging 0 (pkt 0 0x10 0 true 9 1 2 ones16 (cbo 0 0 0 0 512 0 desc1k)), (cf 0 noStaging (pkt 0 0x10 0 true 9 1 2 ones16 (cbo 0 0 0 0 512 0 desc1k))).2, (cnt .csq 0 noStaging (pkt 0 0x10 0 true 9 1 2 ones16 (cbo 0 0 0 0 512 0 desc1k)) (cf 0 noStaging (pkt 0 0x10 0 true 9 1 2 ones16 (cbo 0 0 0 0 512 0 desc1k))).2).2.2.2, (cf 0 noStaging (pkt 0 0x10 0 true 9 1 2 ones16 (cbo 0 0 0 0 512 0 desc1k))).1.getD (emptyColl desc4), (cnt .csq 0 noStaging (pkt 0 0x10 0 true 9 1 2 ones16 (cbo 0 0 0 0 512 0 desc1k)) (cf 0 noStaging (pkt 0 0x10 0 true 9 1 2 ones16 (cbo 0 0 0 0 512 0 desc1k))).2).1, (cnt .csq 0 noStaging (pkt 0 0x10 0 true 9 1 2 ones16 (cbo 0 0 0 0 512 0 desc1k)) (cf 0 noStaging (pkt 0 0x10 0 true 9 1 2 ones16 (cbo 0 0 0 0 512 0 desc1k))).2).2.1, (cnt .csq 0 noStaging (pkt 0 0x10 0 true 9 1 2 ones16 (cbo 0 0 0 0 512 0 desc1k)) (cf 0 noStaging (pkt 0 0x10 0 true 9 1 2 ones16 (cbo 0 0 0 0 512 0 desc1k))).2).2.2.1, ⟨taken_of (by decide +kernel), by decide +kernel⟩, by decide +kernel, by decide +kernel, by decide +kernel, by decide +kernel, by decide +kernel, cnt_of rfl (by decide +kernel), by decide +kernel⟩,
  ⟨rooted, 0, 0, mpk 0 7 desc6 ones16 0, servPkt rooted 0 (mpk 0 7 desc6 ones16 0), servSt rooted 0 (mpk 0 7 desc6 ones16 0), (cf 0 rooted (mpk 0 7 desc6 ones16 0)).2, (cnt .csq 0 rooted (mpk 0 7 desc6 ones16 0) (cf 0 rooted (mpk 0 7 desc6 ones16 0)).2).2.2.2, (cf 0 rooted (mpk 0 7 desc6 ones16 0)).1.getD (emptyColl desc4), (cnt .csq 0 rooted (mpk 0 7 desc6 ones16 0) (cf 0 rooted (mpk 0 7 desc6 ones16 0)).2).1, (cnt .csq 0 rooted (mpk 0 7 desc6 ones16 0) (cf 0 rooted (mpk 0 7 desc6 ones16 0)).2).2.1, (cnt .csq 0 rooted (mpk 0 7 desc6 ones16 0) (cf 0 rooted (mpk 0 7 desc6 ones16 0)).2).2.2.1, ⟨taken_of (by decide +kernel), by decide +kernel⟩, by decide +kernel, by decide +kernel, by decide +kernel, by decide +kernel, by decide +kernel, cnt_of rfl (by decide +kernel), by decide +kernel⟩,
  ⟨canonMid, 0, 0, pkt 0 0x10 0 true 9 1 2 ones16 (cbo 0 0 0 0 512 0 descC), servPkt canonMid 0 (pkt 0 0x10 0 true 9 1 2 ones16 (cbo 0 0 0 0 512 0 descC)), servSt canonMid 0 (pkt 0 0x10 0 true 9 1 2 ones16 (cbo 0 0 0 0 512 0 descC)), (cf 0 canonMid (pkt 0 0x10 0 true 9 1 2 ones16 (cbo 0 0 0 0 512 0 descC))).2, (cnt .csq 0 canonMid (pkt 0 0x10 0 true 9 1 2 ones16 (cbo 0 0 0 0 512 0 descC)) (cf 0 canonMid (pkt 0 0x10 0 true 9 1 2 ones16 (cbo 0 0 0 0 512 0 descC))).2).2.2.2, (cf 0 canonMid (pkt 0 0x10 0 true 9 1 2 ones16 (cbo 0 0 0 0 512 0 descC))).1.getD (emptyColl desc4), (cnt .csq 0 canonMid (pkt 0 0x10 0 true 9 1 2 ones16 (cbo 0 0 0 0 512 0 descC)) (cf 0 canonMid (pkt 0 0x10 0 true 9 1 2 ones16 (cbo 0 0 0 0 512 0 descC))).2).1, (cnt .csq 0 canonMid (pkt 0 0x10 0 true 9 1 2 ones16 (cbo 0 0 0 0 512 0 descC)) (cf 0 canonMid (pkt 0 0x10 0 true 9 1 2 ones16 (cbo 0 0 0 0 512 0 descC))).2).2.1, (cnt .csq 0 canonMid (pkt 0 0x10 0 true 9 1 2 ones16 (cbo 0 0 0 0 512 0 descC)) (cf 0 canonMid (pkt 0 0x10 0 true 9 1 2 ones16 (cbo 0 0 0 0 512 0 descC))).2).2.2.1, ⟨taken_of (by decide +kernel), by decide +kernel⟩, by decide +kernel, by decide +kernel, by decide +kernel, by decide +kernel, by decide +kernel, cnt_of rfl (by decide +kernel), by decide +kernel⟩,
  ⟨rooted, 0, 1, pkt 1 0x10 0 true 9 0 1 [] (cbo 0 0 0 1 0 7 desc6), servPkt rooted 1 (pkt 1 0x10 0 true 9 0 1 [] (cbo 0 0 0 1 0 7 desc6)), servSt rooted 1 (pkt 1 0x10 0 true 9 0 1 [] (cbo 0 0 0 1 0 7 desc6)), (cf 1 rooted (pkt 1 0x10 0 true 9 0 1 [] (cbo 0 0 0 1 0 7 desc6))).2, (cnt .csq 1 rooted (pkt 1 0x10 0 true 9 0 1 [] (cbo 0 0 0 1 0 7 desc6)) (cf 1 rooted (pkt 1 0x10 0 true 9 0 1 [] (cbo 0 0 0 1 0 7 desc6))).2).2.2.2, (cf 1 rooted (pkt 1 0x10 0 true 9 0 1 [] (cbo 0 0 0 1 0 7 desc6))).1.getD (emptyColl desc4), (cnt .csq 1 rooted (pkt 1 0x10 0 true 9 0 1 [] (cbo 0 0 0 1 0 7 desc6)) (cf 1 rooted (pkt 1 0x10 0 true 9 0 1 [] (cbo 0 0 0 1 0 7 desc6))).2).1, (cnt .csq 1 rooted (pkt 1 0x10 0 true 9 0 1 [] (cbo 0 0 0 1 0 7 desc6)) (cf 1 rooted (pkt 1 0x10 0 true 9 0 1 [] (cbo 0 0 0 1 0 7 desc6))).2).2.1, (cnt .csq 1 rooted (pkt 1 0x10 0 true 9 0 1 [] (cbo 0 0 0 1 0 7 desc6)) (cf 1 rooted (pkt 1 0x10 0 true 9 0 1 [] (cbo 0 0 0 1 0 7 desc6))).2).2.2.1, ⟨taken_of (by decide +kernel), by decide +kernel⟩, by decide +kernel, by decide +kernel, by decide +kernel, by decide +kernel, by decide +kernel, cnt_of rfl (by decide +kernel), by decide +kernel⟩⟩

/-- The hypotheses of `Obligations.DoneFinAndAbortTakeEffect`, at clauses 1, 2, 3. -/
theorem witness_DoneFinAndAbortTakeEffect :
  (∃ (s : State) (n : Fin 64) (p : Packet) (q : Packet) (t : State) (t2 : State) (c : Coll) (m : MsgCtx) (first : Bool) (complete : Bool) (cnt : Nat) (code : Nat) (idx : W32) (fl : Fl) (recs : List SegRec), parseControl q = some (cnt, idx, fl, code, recs) ∧
    early t (cbGroup q) q = none ∧ TakenStep s 3 n p q t ∧ findColl t (cbGroup q) (cbCseq q) = some c ∧ cbDigest q = c.digest ∧ cbFmt q = 0 ∧ q.cnt = 1 ∧
    code = 0 ∧ (∀ (r : CtlRec), r ∈ c.dones → r.dir ≠ (stepDir t (cbGroup q) (cbStep q) q.src).getD 0) ∧
    msgArrive Blk.csq (n.val) q t = (MsgRes.counted m first complete, t2)) ∧
  (∃ (s : State) (n : Fin 64) (p : Packet) (q : Packet) (t : State) (t2 : State) (c : Coll) (m : MsgCtx) (first : Bool) (complete : Bool) (cnt : Nat) (code : Nat) (idx : W32) (fl : Fl) (recs : List SegRec), parseControl q = some (cnt, idx, fl, code, recs) ∧
    early t (cbGroup q) q = none ∧ TakenStep s 4 n p q t ∧ findColl t (cbGroup q) (cbCseq q) = some c ∧ cbDigest q = c.digest ∧ cbFmt q = 0 ∧ q.cnt = 1 ∧
    code = 0 ∧ c.fin = none ∧ msgArrive Blk.csq (n.val) q t = (MsgRes.counted m first complete, t2)) ∧
  (∃ (s : State) (n : Fin 64) (p : Packet) (q : Packet) (t : State) (cnt : Nat) (code : Nat) (idx : W32) (fl : Fl) (recs : List SegRec), parseControl q = some (cnt, idx, fl, code, recs) ∧
    early t (cbGroup q) q = none ∧ TakenStep s 5 n p q t ∧ q.paylen = 16 ∧ 1 ≤ code ∧ code ≤ 5 ∧ recs = [] ∧ Counted Blk.csq n q t) :=
  ⟨⟨withColl (emptyColl desc4) rooted, 2, spk 1 3 0 0 0 0 0 desc4 (ctl 1 0), servPkt (withColl (emptyColl desc4) rooted) 2 (spk 1 3 0 0 0 0 0 desc4 (ctl 1 0)), servSt (withColl (emptyColl desc4) rooted) 2 (spk 1 3 0 0 0 0 0 desc4 (ctl 1 0)), (cnt .csq 2 (withColl (emptyColl desc4) rooted) (spk 1 3 0 0 0 0 0 desc4 (ctl 1 0)) (servSt (withColl (emptyColl desc4) rooted) 2 (spk 1 3 0 0 0 0 0 desc4 (ctl 1 0)))).2.2.2, emptyColl desc4, (cnt .csq 2 (withColl (emptyColl desc4) rooted) (spk 1 3 0 0 0 0 0 desc4 (ctl 1 0)) (servSt (withColl (emptyColl desc4) rooted) 2 (spk 1 3 0 0 0 0 0 desc4 (ctl 1 0)))).1, (cnt .csq 2 (withColl (emptyColl desc4) rooted) (spk 1 3 0 0 0 0 0 desc4 (ctl 1 0)) (servSt (withColl (emptyColl desc4) rooted) 2 (spk 1 3 0 0 0 0 0 desc4 (ctl 1 0)))).2.1, (cnt .csq 2 (withColl (emptyColl desc4) rooted) (spk 1 3 0 0 0 0 0 desc4 (ctl 1 0)) (servSt (withColl (emptyColl desc4) rooted) 2 (spk 1 3 0 0 0 0 0 desc4 (ctl 1 0)))).2.2.1, ((parseControl (servPkt (withColl (emptyColl desc4) rooted) 2 (spk 1 3 0 0 0 0 0 desc4 (ctl 1 0)))).getD (0,0,0,0,[])).1, ((parseControl (servPkt (withColl (emptyColl desc4) rooted) 2 (spk 1 3 0 0 0 0 0 desc4 (ctl 1 0)))).getD (0,0,0,0,[])).2.2.2.1, ((parseControl (servPkt (withColl (emptyColl desc4) rooted) 2 (spk 1 3 0 0 0 0 0 desc4 (ctl 1 0)))).getD (0,0,0,0,[])).2.1, ((parseControl (servPkt (withColl (emptyColl desc4) rooted) 2 (spk 1 3 0 0 0 0 0 desc4 (ctl 1 0)))).getD (0,0,0,0,[])).2.2.1, ((parseControl (servPkt (withColl (emptyColl desc4) rooted) 2 (spk 1 3 0 0 0 0 0 desc4 (ctl 1 0)))).getD (0,0,0,0,[])).2.2.2.2, by decide +kernel, by decide +kernel, ⟨taken_of (by decide +kernel), by decide +kernel⟩, by decide +kernel, by decide +kernel, by decide +kernel, by decide +kernel, by decide +kernel, by decide +kernel, cnt_of rfl (by decide +kernel)⟩,
  ⟨withColl (emptyColl desc4) leafed, 3, spk 2 4 0 0 0 0 0 desc4 (ctl 1 0), servPkt (withColl (emptyColl desc4) leafed) 3 (spk 2 4 0 0 0 0 0 desc4 (ctl 1 0)), servSt (withColl (emptyColl desc4) leafed) 3 (spk 2 4 0 0 0 0 0 desc4 (ctl 1 0)), (cnt .csq 3 (withColl (emptyColl desc4) leafed) (spk 2 4 0 0 0 0 0 desc4 (ctl 1 0)) (servSt (withColl (emptyColl desc4) leafed) 3 (spk 2 4 0 0 0 0 0 desc4 (ctl 1 0)))).2.2.2, emptyColl desc4, (cnt .csq 3 (withColl (emptyColl desc4) leafed) (spk 2 4 0 0 0 0 0 desc4 (ctl 1 0)) (servSt (withColl (emptyColl desc4) leafed) 3 (spk 2 4 0 0 0 0 0 desc4 (ctl 1 0)))).1, (cnt .csq 3 (withColl (emptyColl desc4) leafed) (spk 2 4 0 0 0 0 0 desc4 (ctl 1 0)) (servSt (withColl (emptyColl desc4) leafed) 3 (spk 2 4 0 0 0 0 0 desc4 (ctl 1 0)))).2.1, (cnt .csq 3 (withColl (emptyColl desc4) leafed) (spk 2 4 0 0 0 0 0 desc4 (ctl 1 0)) (servSt (withColl (emptyColl desc4) leafed) 3 (spk 2 4 0 0 0 0 0 desc4 (ctl 1 0)))).2.2.1, ((parseControl (servPkt (withColl (emptyColl desc4) leafed) 3 (spk 2 4 0 0 0 0 0 desc4 (ctl 1 0)))).getD (0,0,0,0,[])).1, ((parseControl (servPkt (withColl (emptyColl desc4) leafed) 3 (spk 2 4 0 0 0 0 0 desc4 (ctl 1 0)))).getD (0,0,0,0,[])).2.2.2.1, ((parseControl (servPkt (withColl (emptyColl desc4) leafed) 3 (spk 2 4 0 0 0 0 0 desc4 (ctl 1 0)))).getD (0,0,0,0,[])).2.1, ((parseControl (servPkt (withColl (emptyColl desc4) leafed) 3 (spk 2 4 0 0 0 0 0 desc4 (ctl 1 0)))).getD (0,0,0,0,[])).2.2.1, ((parseControl (servPkt (withColl (emptyColl desc4) leafed) 3 (spk 2 4 0 0 0 0 0 desc4 (ctl 1 0)))).getD (0,0,0,0,[])).2.2.2.2, by decide +kernel, by decide +kernel, ⟨taken_of (by decide +kernel), by decide +kernel⟩, by decide +kernel, by decide +kernel, by decide +kernel, by decide +kernel, by decide +kernel, by decide +kernel, cnt_of rfl (by decide +kernel)⟩,
  ⟨rooted, 2, spk 1 5 0 0 0 0 3 desc4 (ctl 0 1), servPkt rooted 2 (spk 1 5 0 0 0 0 3 desc4 (ctl 0 1)), servSt rooted 2 (spk 1 5 0 0 0 0 3 desc4 (ctl 0 1)), ((parseControl (servPkt rooted 2 (spk 1 5 0 0 0 0 3 desc4 (ctl 0 1)))).getD (0,0,0,0,[])).1, ((parseControl (servPkt rooted 2 (spk 1 5 0 0 0 0 3 desc4 (ctl 0 1)))).getD (0,0,0,0,[])).2.2.2.1, ((parseControl (servPkt rooted 2 (spk 1 5 0 0 0 0 3 desc4 (ctl 0 1)))).getD (0,0,0,0,[])).2.1, ((parseControl (servPkt rooted 2 (spk 1 5 0 0 0 0 3 desc4 (ctl 0 1)))).getD (0,0,0,0,[])).2.2.1, ((parseControl (servPkt rooted 2 (spk 1 5 0 0 0 0 3 desc4 (ctl 0 1)))).getD (0,0,0,0,[])).2.2.2.2, by decide +kernel, by decide +kernel, ⟨taken_of (by decide +kernel), by decide +kernel⟩, by decide +kernel, by decide +kernel, by decide +kernel, by decide +kernel, counted_ex (by decide +kernel)⟩⟩

/-- The hypotheses of `Obligations.ReductionsFollowTheirOrder`, at clauses 1, 2, 3, 4. -/
theorem witness_ReductionsFollowTheirOrder :
  (∃ (s : State) (g : BitVec 12) (cseq : W32) (c : Coll) (ks : List CKey) (k : Nat) (e : Nat), findColl s g.toNat cseq = some c ∧ coreOn s = true ∧
    Whole s ∧ s.poison = [] ∧ s.flaws = [] ∧ opReduce (dOp c.desc) = true ∧ dProg c.desc = 0 ∧ collOrder c ≠ 2 ∧ c.parts = [] ∧ fullInputs s c = some ks ∧
    k < stripes c ∧ (∀ (x : CKey), x ∈ ks → hasStripe c x k = true) ∧ stripeBegun s c k = true ∧ 512 * k ≤ e ∧ e < 512 * (k + 1) ∧ e < dElem c.desc) ∧
  (∃ (s : State) (g : BitVec 12) (cseq : W32) (c : Coll) (k : Nat), findColl s g.toNat cseq = some c ∧ coreOn s = true ∧ Whole s ∧ s.poison = [] ∧
    s.flaws = [] ∧ opReduce (dOp c.desc) = true ∧ dProg c.desc = 0 ∧ collOrder c ≠ 2 ∧ c.parts = [] ∧ stripeBegun s c k = false) ∧
  (∃ (s : State) (g : BitVec 12) (cseq : W32) (c : Coll), findColl s g.toNat cseq = some c ∧ coreOn s = true ∧ Whole s ∧ s.poison = [] ∧ s.flaws = [] ∧
    opReduce (dOp c.desc) = false ∧ s.wiping = false ∧ dOp c.desc ≠ 5 ∧ dOp c.desc ≠ 6 ∧ grpRoot s g.toNat = false ∧ inputsIn s c = true) ∧
  (∃ (s : State) (g : BitVec 12) (cseq : W32) (c : Coll), findColl s g.toNat cseq = some c ∧ coreOn s = true ∧ Whole s ∧ s.poison = [] ∧ s.flaws = [] ∧
    allHeld s = true) :=
  ⟨⟨summing, 4, 0, coll4, [.member 0, .member 1], 0, 0, by decide +kernel⟩,
  ⟨withColl coll4 grouped, 4, 0, coll4, 0, by decide +kernel⟩,
  ⟨withColl c8 leafed, 4, 0, c8, by decide +kernel⟩,
  ⟨withRegs [(0x2000010,0xFF)] summing, 4, 0, coll4, by decide +kernel⟩⟩

/-- The hypotheses of `Obligations.CollectivesFinishOrTimeOut`, at clauses 1, 2, 3, 4. -/
theorem witness_CollectivesFinishOrTimeOut :
  (∃ (s : State) (g : BitVec 12) (cseq : W32) (c : Coll), findColl s g.toNat cseq = some c ∧ coreOn s = true ∧ Whole s ∧ finishable s c = true ∧
    allHeld s = false) ∧
  (∃ (s : State) (g : BitVec 12) (cseq : W32) (c : Coll), findColl s g.toNat cseq = some c ∧ coreOn s = true ∧ Whole s ∧
    (finishable s c = false ∨ allHeld s = true)) ∧
  (∃ (s : State) (g : BitVec 12) (cseq : W32) (c : Coll), findColl s g.toNat cseq = some c ∧ coreOn s = true ∧ Whole s ∧ allHeld s = false ∧
    halted s = false ∧ parking s = false) ∧
  (∃ (s : State) (g : BitVec 12) (cseq : W32) (c : Coll), findColl s g.toNat cseq = some c ∧ coreOn s = true ∧ Whole s ∧
    (allHeld s = true ∨ halted s = true ∨ parking s = true)) :=
  ⟨⟨withColl cfin2 grouped, 4, 0, cfin2, by decide +kernel⟩,
  ⟨summing, 4, 0, coll4, by decide +kernel⟩,
  ⟨summing, 4, 0, coll4, by decide +kernel⟩,
  ⟨withRegs [(0x2000010,0xFF)] summing, 4, 0, coll4, by decide +kernel⟩⟩


end Sys2Proof.Tests.Collectives
end

