-- ==== Sys2Proof/Tests/Engines.lean ====
section
/-!
SUPPORT. Witnesses: states and operands that meet the hypotheses of each statement, clause by clause (an engine with one run, its queue and its program).
-/

namespace Sys2Proof.Tests.Engines

open Sys2Proof Sys2Proof.Machine Sys2Proof.Claims Sys2Proof.Tests

set_option Elab.async false

def sLoc : State := sw.modEngine 3 (fun x => { x with loc := cellWrite 0 [] 0x20 [1,2,3,4], tcache := [⟨2, List.replicate 512 7, [], []⟩] })
def qx : QRun := ⟨128, .reduction 4 0 0, [1,2,3,4], true, true⟩
def sQ : State := (engineAt (word 0 0 0 0 0 0 0 0) (run0 true)).modEngine 0 (fun x => { x with queue := [qx] })
def qr : QRun := ⟨128, .register, [1,2,3,4], true, false⟩
def sQr : State := (engineAt (word 0 0 0 0 0 0 0 0) (run0 true)).modEngine 0 (fun x => { x with queue := [qr] })
def qn : QRun := ⟨5, .register, [1,2,3,4], true, false⟩
def qo : QRun := ⟨129, .combine 0 0 0, [1,2,3,4], true, true⟩
def sNqn : State := (engineAt 0 (run0 true)).modEngine 0 (fun x => { x with queue := [qn], heldRuns := [qx] })
def sNo : State := (engineAt 0 (run0 true)).modEngine 0 (fun x => { x with queue := [qo] })
def rD : Run := { run0 true with dmas := [⟨0, 512, 16⟩] }
def rR : Run := { redRun with last := true }
def rWt : Run := { run0 true with wait := some (9, 1), waitMet := true }
def sDone : State := withRegs [(jBase 0 + 0x20, 2^9 + 5 * 2^16)] ((eng 0).modEngine 0 (fun x => { x with doneWait := true }))
def sDone0 : State := withRegs [(jBase 0 + 0x20, 5 * 2^16)] ((eng 0).modEngine 0 (fun x => { x with doneWait := true }))
def sWd : State := withRegs [(jBase 0, 1)] (eng 0)
def rEnd : Run := { run0 true with pc := 4 }
def sIdle : State := withRegs [(jBase 0 + 0x30, 7), (jBase 0 + 0x38, 8)] on
def sRun : State := withRegs [(jBase 0 + 0x24, 1)] on
def pcrc : Nat := (crc32c ((List.replicate 4 (0 : Nat)).flatMap (leBytes 8))).toNat
def sLd : State := withRegs [(jBase 0 + 0x10, pcrc * 2 ^ 32 + 4 * 2^13)] on
def sLd2 : State := sLd.modEngine 0 (fun x => { x with loading := some (129, BitVec.ofNat 64 (pcrc * 2^32 + 4 * 2^13)) })
def sLd3 : State := withRegs [(jBase 0 + 0x108, 2 ^ 27 + 4 * 2 ^ 13)] on
def sEx : State := withRegs [(jBase 0 + 0x3F00, 3),(jBase 0 + 0x3F08, 4),(jBase 0 + 0x3F10, 5)] on
def sEx2 : State := withRegs [(0x6000F00, 3),(0x6000F08, 4),(0x6000F10, 5)] on

/-- The hypotheses of `Obligations.ControlInstructionsMoveTheirRun`, at clauses 1, 2, 3, 4, 5, 6, 7, 8, 9. -/
theorem witness_ControlInstructionsMoveTheirRun :
  (∃ (e : Fin 64) (k : Fin 16) (s : State) (r : Run) (w : W64), Ready s e k 0 r w) ∧
  (∃ (e : Fin 64) (k : Fin 16) (s : State) (r : Run) (w : W64), Ready s e k 2 r w ∧ iImm w % 2 ^ 13 < progLen s (e.val) r.pid) ∧
  (∃ (e : Fin 64) (k : Fin 16) (s : State) (r : Run) (w : W64), Ready s e k 3 r w ∧ brHolds w (r.sreg (iRa w)) = true ∧
    iImm w % 2 ^ 13 < progLen s (e.val) r.pid) ∧
  (∃ (e : Fin 64) (k : Fin 16) (s : State) (r : Run) (w : W64), Ready s e k 3 r w ∧ brHolds w (r.sreg (iRa w)) = false) ∧
  (∃ (e : Fin 64) (k : Fin 16) (s : State) (r : Run) (w : W64), Ready s e k 4 r w ∧ r.sreg (iRa w) ≠ 1 ∧ iImm w % 2 ^ 13 < progLen s (e.val) r.pid) ∧
  (∃ (e : Fin 64) (k : Fin 16) (s : State) (r : Run) (w : W64), Ready s e k 4 r w ∧ r.sreg (iRa w) = 1) ∧
  (∃ (e : Fin 64) (k : Fin 16) (s : State) (r : Run) (w : W64), Ready s e k 36 r w ∧ r.dmas.length ≤ min 8 (iImm w % 16)) ∧
  (∃ (e : Fin 64) (k : Fin 16) (s : State) (r : Run) (w : W64), Ready s e k 36 r w ∧ min 8 (iImm w % 16) < r.dmas.length) ∧
  (∃ (e : Fin 64) (k : Fin 16) (s : State) (r : Run) (w : W64), Ready s e k 97 r w ∧ r.dmas = []) :=
  ⟨⟨0, 0, eng (word 0x0 0 0 0 0 0 0 0), run0 true, word 0x0 0 0 0 0 0 0 0, by decide +kernel⟩,
  ⟨0, 0, eng (word 0x2 0 0 0 0 0 0 3), run0 true, word 0x2 0 0 0 0 0 0 3, by decide +kernel⟩,
  ⟨0, 0, eng (word 0x3 0 0 0 0 0 1 16387), run0 true, word 0x3 0 0 0 0 0 1 16387, by decide +kernel⟩,
  ⟨0, 0, eng (word 0x3 0 0 0 0 0 0 16387), run0 true, word 0x3 0 0 0 0 0 0 16387, by decide +kernel⟩,
  ⟨0, 0, eng (word 0x4 0 0 0 0 0 0 3), run0 true, word 0x4 0 0 0 0 0 0 3, by decide +kernel⟩,
  ⟨0, 0, eng (word 0x4 0 0 1 0 0 0 3), run0 true, word 0x4 0 0 1 0 0 0 3, by decide +kernel⟩,
  ⟨0, 0, eng (word 0x24 0 0 0 0 0 0 0), run0 true, word 0x24 0 0 0 0 0 0 0, by decide +kernel⟩,
  ⟨0, 0, engineAt (word 0x24 0 0 0 0 0 0 0) ({ run0 true with dmas := [⟨0, 512, 16⟩] }), { run0 true with dmas := [⟨0, 512, 16⟩] }, word 0x24 0 0 0 0 0 0 0, by decide +kernel⟩,
  ⟨0, 0, eng (word 0x61 0 0 0 0 0 0 0), run0 true, word 0x61 0 0 0 0 0 0 0, by decide +kernel⟩⟩

/-- The hypotheses of `Obligations.ScalarInstructionsWriteTheirResult`, at clauses 1, 2, 3, 4, 5, 6, 7. -/
theorem witness_ScalarInstructionsWriteTheirResult :
  (∃ (e : Fin 64) (k : Fin 16) (s : State) (r : Run) (w : W64), Ready s e k 16 r w) ∧
  (∃ (e : Fin 64) (k : Fin 16) (s : State) (r : Run) (w : W64), Ready s e k 17 r w) ∧
  (∃ (e : Fin 64) (k : Fin 16) (s : State) (r : Run) (w : W64), Ready s e k 18 r w) ∧
  (∃ (e : Fin 64) (k : Fin 16) (s : State) (r : Run) (w : W64) (v : W64), Ready s e k 6 r w ∧ iM0 w = false ∧ sprValue e r s.aclk (iImm w % 256) = some v) ∧
  (∃ (e : Fin 64) (k : Fin 16) (s : State) (r : Run) (w : W64), Ready s e k 6 r w ∧ iM0 w = true ∧ iImm w % 256 = 0 ∧ 1 ≤ BitVec.toNat (r.sreg (iRa w)) ∧
    BitVec.toNat (r.sreg (iRa w)) ≤ 512) ∧
  (∃ (e : Fin 64) (k : Fin 16) (s : State) (r : Run) (w : W64), Ready s e k 6 r w ∧ iM0 w = true ∧ iImm w % 256 = 1) ∧
  (∃ (e : Fin 64) (k : Fin 16) (s : State) (r : Run) (w : W64), Ready s e k 6 r w ∧ iM0 w = true ∧ iImm w % 256 = 4) :=
  ⟨⟨0, 0, eng (word 0x10 0 0 0 0 0 1 5), run0 true, word 0x10 0 0 0 0 0 1 5, by decide +kernel⟩,
  ⟨0, 0, eng (word 0x11 0 4 0 1 0 0 0), run0 true, word 0x11 0 4 0 1 0 0 0, by decide +kernel⟩,
  ⟨0, 0, eng (word 0x12 0 4 0 0 0 0 3), run0 true, word 0x12 0 4 0 0 0 0 3, by decide +kernel⟩,
  ⟨0, 0, eng (word 0x6 0 4 0 0 0 0 0), run0 true, word 0x6 0 4 0 0 0 0 0, (sprValue 0 (run0 true) 0 0).getD 0, by decide +kernel⟩,
  ⟨0, 0, eng (word 0x6 0 0 3 0 0 1 0), run0 true, word 0x6 0 0 3 0 0 1 0, by decide +kernel⟩,
  ⟨0, 0, eng (word 0x6 0 0 3 0 0 1 1), run0 true, word 0x6 0 0 3 0 0 1 1, by decide +kernel⟩,
  ⟨0, 0, eng (word 0x6 0 0 3 0 0 1 4), run0 true, word 0x6 0 0 3 0 0 1 4, by decide +kernel⟩⟩

/-- The hypotheses of `Obligations.VectorInstructionsWriteTheirLanes`, at clauses 1, 2, 3, 4, 5, 6, 7, 8, 9, 10, 11, 12, 13, 14, 15, 16. -/
theorem witness_VectorInstructionsWriteTheirLanes :
  (∃ (e : Fin 64) (k : Fin 16) (s : State) (r : Run) (w : W64), Ready s e k 64 r w ∧ iFmt w = 0 ∧ (r.acc (iRa w)).kind = Kind.f ∧
    (r.acc (iRb w)).kind = Kind.f) ∧
  (∃ (e : Fin 64) (k : Fin 16) (s : State) (r : Run) (w : W64), Ready s e k 64 r w ∧ iFmt w = 7 ∧ (r.acc (iRa w)).kind ≠ Kind.f ∧
    (r.acc (iRb w)).kind ≠ Kind.f) ∧
  (∃ (e : Fin 64) (k : Fin 16) (s : State) (r : Run) (w : W64), Ready s e k 65 r w ∧ iFmt w = 0 ∧ (r.acc (iRa w)).kind = Kind.f ∧
    (r.acc (iRb w)).kind = Kind.f) ∧
  (∃ (e : Fin 64) (k : Fin 16) (s : State) (r : Run) (w : W64), Ready s e k 65 r w ∧ iFmt w = 7 ∧ (r.acc (iRa w)).kind = Kind.i8 ∧
    (r.acc (iRb w)).kind = Kind.i8) ∧
  (∃ (e : Fin 64) (k : Fin 16) (s : State) (r : Run) (w : W64), Ready s e k 66 r w ∧ iFmt w = 0 ∧ (r.acc (iRa w)).kind = Kind.f ∧
    (r.acc (iRb w)).kind = Kind.f ∧ (r.acc (iRc w)).kind = Kind.f) ∧
  (∃ (e : Fin 64) (k : Fin 16) (s : State) (r : Run) (w : W64), Ready s e k 66 r w ∧ iFmt w = 7 ∧ (r.acc (iRa w)).kind = Kind.i8 ∧
    (r.acc (iRb w)).kind = Kind.i8 ∧ (r.acc (iRc w)).kind ≠ Kind.f) ∧
  (∃ (e : Fin 64) (k : Fin 16) (s : State) (r : Run) (w : W64), Ready s e k 67 r w ∧ iM0 w = false ∧ (r.acc (iRa w)).kind = Kind.f) ∧
  (∃ (e : Fin 64) (k : Fin 16) (s : State) (r : Run) (w : W64), Ready s e k 68 r w ∧ iFmt w = 0 ∧ (r.acc (iRa w)).kind = Kind.f ∧
    (r.acc (iRb w)).kind = Kind.f) ∧
  (∃ (e : Fin 64) (k : Fin 16) (s : State) (r : Run) (w : W64), Ready s e k 68 r w ∧ iFmt w = 7 ∧ (r.acc (iRa w)).kind ≠ Kind.f ∧
    (r.acc (iRb w)).kind ≠ Kind.f) ∧
  (∃ (e : Fin 64) (k : Fin 16) (s : State) (r : Run) (w : W64), Ready s e k 69 r w ∧ iM0 w = true) ∧
  (∃ (e : Fin 64) (k : Fin 16) (s : State) (r : Run) (w : W64), Ready s e k 69 r w ∧ iM0 w = false ∧ (iFmt w = 0 ↔ (r.acc (iRa w)).kind = Kind.f)) ∧
  (∃ (e : Fin 64) (k : Fin 16) (s : State) (r : Run) (w : W64), Ready s e k 80 r w ∧ iM0 w = false) ∧
  (∃ (e : Fin 64) (k : Fin 16) (s : State) (r : Run) (w : W64), Ready s e k 80 r w ∧ iM0 w = true) ∧
  (∃ (e : Fin 64) (k : Fin 16) (s : State) (r : Run) (w : W64), Ready s e k 81 r w ∧ iFmt w = 0 ∧ (r.acc (iRa w)).kind = Kind.f ∧
    (r.acc (iRb w)).kind = Kind.f) ∧
  (∃ (e : Fin 64) (k : Fin 16) (s : State) (r : Run) (w : W64), Ready s e k 81 r w ∧ iFmt w = 7 ∧ (r.acc (iRa w)).kind ≠ Kind.f ∧
    (r.acc (iRb w)).kind ≠ Kind.f) ∧
  (∃ (e : Fin 64) (k : Fin 16) (s : State) (r : Run) (w : W64), Ready s e k 112 r w) :=
  ⟨⟨0, 0, engineAt (word 0x40 0 2 0 1 0 0 0) ({ run0 true with a := [⟨.f, 0xFF, [0x3F800000, 0x40000000, 0x7F800000, 0x7FC00000] ++ List.replicate 508 0, List.replicate 512 1⟩, ⟨.f, 3, [0xBF800000, 0x40400000, 0xFF800000, 0x3F800000] ++ List.replicate 508 0, List.replicate 512 2⟩] ++ List.replicate 6 (Acc.clear true) }), { run0 true with a := [⟨.f, 0xFF, [0x3F800000, 0x40000000, 0x7F800000, 0x7FC00000] ++ List.replicate 508 0, List.replicate 512 1⟩, ⟨.f, 3, [0xBF800000, 0x40400000, 0xFF800000, 0x3F800000] ++ List.replicate 508 0, List.replicate 512 2⟩] ++ List.replicate 6 (Acc.clear true) }, word 0x40 0 2 0 1 0 0 0, by decide +kernel⟩,
  ⟨0, 0, engineAt (word 0x40 7 2 0 1 0 0 0) ({ run0 true with a := [⟨.i8, 0xFF, [1, 0x7FFFFFFF, 0x80000000, 3] ++ List.replicate 508 0, List.replicate 512 1⟩, ⟨.i8, 2, [5, 0x7FFFFFFF, 0xFFFFFFFF, 4] ++ List.replicate 508 0, List.replicate 512 2⟩] ++ List.replicate 6 (Acc.clear false) }), { run0 true with a := [⟨.i8, 0xFF, [1, 0x7FFFFFFF, 0x80000000, 3] ++ List.replicate 508 0, List.replicate 512 1⟩, ⟨.i8, 2, [5, 0x7FFFFFFF, 0xFFFFFFFF, 4] ++ List.replicate 508 0, List.replicate 512 2⟩] ++ List.replicate 6 (Acc.clear false) }, word 0x40 7 2 0 1 0 0 0, by decide +kernel⟩,
  ⟨0, 0, engineAt (word 0x41 0 2 0 1 0 0 0) ({ run0 true with a := [⟨.f, 0xFF, [0x3F800000, 0x40000000, 0x7F800000, 0x7FC00000] ++ List.replicate 508 0, List.replicate 512 1⟩, ⟨.f, 3, [0xBF800000, 0x40400000, 0xFF800000, 0x3F800000] ++ List.replicate 508 0, List.replicate 512 2⟩] ++ List.replicate 6 (Acc.clear true) }), { run0 true with a := [⟨.f, 0xFF, [0x3F800000, 0x40000000, 0x7F800000, 0x7FC00000] ++ List.replicate 508 0, List.replicate 512 1⟩, ⟨.f, 3, [0xBF800000, 0x40400000, 0xFF800000, 0x3F800000] ++ List.replicate 508 0, List.replicate 512 2⟩] ++ List.replicate 6 (Acc.clear true) }, word 0x41 0 2 0 1 0 0 0, by decide +kernel⟩,
  ⟨0, 0, engineAt (word 0x41 7 2 0 1 0 0 0) ({ run0 true with a := [⟨.i8, 0xFF, [1, 0x7FFFFFFF, 0x80000000, 3] ++ List.replicate 508 0, List.replicate 512 1⟩, ⟨.i8, 2, [5, 0x7FFFFFFF, 0xFFFFFFFF, 4] ++ List.replicate 508 0, List.replicate 512 2⟩] ++ List.replicate 6 (Acc.clear false) }), { run0 true with a := [⟨.i8, 0xFF, [1, 0x7FFFFFFF, 0x80000000, 3] ++ List.replicate 508 0, List.replicate 512 1⟩, ⟨.i8, 2, [5, 0x7FFFFFFF, 0xFFFFFFFF, 4] ++ List.replicate 508 0, List.replicate 512 2⟩] ++ List.replicate 6 (Acc.clear false) }, word 0x41 7 2 0 1 0 0 0, by decide +kernel⟩,
  ⟨0, 0, engineAt (word 0x42 0 2 0 1 0 0 0) ({ run0 true with a := [⟨.f, 0xFF, [0x3F800000, 0x40000000, 0x7F800000, 0x7FC00000] ++ List.replicate 508 0, List.replicate 512 1⟩, ⟨.f, 3, [0xBF800000, 0x40400000, 0xFF800000, 0x3F800000] ++ List.replicate 508 0, List.replicate 512 2⟩] ++ List.replicate 6 (Acc.clear true) }), { run0 true with a := [⟨.f, 0xFF, [0x3F800000, 0x40000000, 0x7F800000, 0x7FC00000] ++ List.replicate 508 0, List.replicate 512 1⟩, ⟨.f, 3, [0xBF800000, 0x40400000, 0xFF800000, 0x3F800000] ++ List.replicate 508 0, List.replicate 512 2⟩] ++ List.replicate 6 (Acc.clear true) }, word 0x42 0 2 0 1 0 0 0, by decide +kernel⟩,
  ⟨0, 0, engineAt (word 0x42 7 2 0 1 0 0 0) ({ run0 true with a := [⟨.i8, 0xFF, [1, 0x7FFFFFFF, 0x80000000, 3] ++ List.replicate 508 0, List.replicate 512 1⟩, ⟨.i8, 2, [5, 0x7FFFFFFF, 0xFFFFFFFF, 4] ++ List.replicate 508 0, List.replicate 512 2⟩] ++ List.replicate 6 (Acc.clear false) }), { run0 true with a := [⟨.i8, 0xFF, [1, 0x7FFFFFFF, 0x80000000, 3] ++ List.replicate 508 0, List.replicate 512 1⟩, ⟨.i8, 2, [5, 0x7FFFFFFF, 0xFFFFFFFF, 4] ++ List.replicate 508 0, List.replicate 512 2⟩] ++ List.replicate 6 (Acc.clear false) }, word 0x42 7 2 0 1 0 0 0, by decide +kernel⟩,
  ⟨0, 0, engineAt (word 0x43 0 2 0 0 0 0 0) ({ run0 true with a := [⟨.f, 0xFF, [0x3F800000, 0x40000000, 0x7F800000, 0x7FC00000] ++ List.replicate 508 0, List.replicate 512 1⟩, ⟨.f, 3, [0xBF800000, 0x40400000, 0xFF800000, 0x3F800000] ++ List.replicate 508 0, List.replicate 512 2⟩] ++ List.replicate 6 (Acc.clear true) }), { run0 true with a := [⟨.f, 0xFF, [0x3F800000, 0x40000000, 0x7F800000, 0x7FC00000] ++ List.replicate 508 0, List.replicate 512 1⟩, ⟨.f, 3, [0xBF800000, 0x40400000, 0xFF800000, 0x3F800000] ++ List.replicate 508 0, List.replicate 512 2⟩] ++ List.replicate 6 (Acc.clear true) }, word 0x43 0 2 0 0 0 0 0, by decide +kernel⟩,
  ⟨0, 0, engineAt (word 0x44 0 2 0 1 0 0 0) ({ run0 true with a := [⟨.f, 0xFF, [0x3F800000, 0x40000000, 0x7F800000, 0x7FC00000] ++ List.replicate 508 0, List.replicate 512 1⟩, ⟨.f, 3, [0xBF800000, 0x40400000, 0xFF800000, 0x3F800000] ++ List.replicate 508 0, List.replicate 512 2⟩] ++ List.replicate 6 (Acc.clear true) }), { run0 true with a := [⟨.f, 0xFF, [0x3F800000, 0x40000000, 0x7F800000, 0x7FC00000] ++ List.replicate 508 0, List.replicate 512 1⟩, ⟨.f, 3, [0xBF800000, 0x40400000, 0xFF800000, 0x3F800000] ++ List.replicate 508 0, List.replicate 512 2⟩] ++ List.replicate 6 (Acc.clear true) }, word 0x44 0 2 0 1 0 0 0, by decide +kernel⟩,
  ⟨0, 0, engineAt (word 0x44 7 2 0 1 0 0 0) ({ run0 true with a := [⟨.i8, 0xFF, [1, 0x7FFFFFFF, 0x80000000, 3] ++ List.replicate 508 0, List.replicate 512 1⟩, ⟨.i8, 2, [5, 0x7FFFFFFF, 0xFFFFFFFF, 4] ++ List.replicate 508 0, List.replicate 512 2⟩] ++ List.replicate 6 (Acc.clear false) }), { run0 true with a := [⟨.i8, 0xFF, [1, 0x7FFFFFFF, 0x80000000, 3] ++ List.replicate 508 0, List.replicate 512 1⟩, ⟨.i8, 2, [5, 0x7FFFFFFF, 0xFFFFFFFF, 4] ++ List.replicate 508 0, List.replicate 512 2⟩] ++ List.replicate 6 (Acc.clear false) }, word 0x44 7 2 0 1 0 0 0, by decide +kernel⟩,
  ⟨0, 0, engineAt (word 0x45 7 2 0 0 0 1 77) ({ run0 true with a := [⟨.i8, 0xFF, [1, 0x7FFFFFFF, 0x80000000, 3] ++ List.replicate 508 0, List.replicate 512 1⟩, ⟨.i8, 2, [5, 0x7FFFFFFF, 0xFFFFFFFF, 4] ++ List.replicate 508 0, List.replicate 512 2⟩] ++ List.replicate 6 (Acc.clear false) }), { run0 true with a := [⟨.i8, 0xFF, [1, 0x7FFFFFFF, 0x80000000, 3] ++ List.replicate 508 0, List.replicate 512 1⟩, ⟨.i8, 2, [5, 0x7FFFFFFF, 0xFFFFFFFF, 4] ++ List.replicate 508 0, List.replicate 512 2⟩] ++ List.replicate 6 (Acc.clear false) }, word 0x45 7 2 0 0 0 1 77, by decide +kernel⟩,
  ⟨0, 0, engineAt (word 0x45 7 2 1 0 0 0 0) ({ run0 true with a := [⟨.i8, 0xFF, [1, 0x7FFFFFFF, 0x80000000, 3] ++ List.replicate 508 0, List.replicate 512 1⟩, ⟨.i8, 2, [5, 0x7FFFFFFF, 0xFFFFFFFF, 4] ++ List.replicate 508 0, List.replicate 512 2⟩] ++ List.replicate 6 (Acc.clear false) }), { run0 true with a := [⟨.i8, 0xFF, [1, 0x7FFFFFFF, 0x80000000, 3] ++ List.replicate 508 0, List.replicate 512 1⟩, ⟨.i8, 2, [5, 0x7FFFFFFF, 0xFFFFFFFF, 4] ++ List.replicate 508 0, List.replicate 512 2⟩] ++ List.replicate 6 (Acc.clear false) }, word 0x45 7 2 1 0 0 0 0, by decide +kernel⟩,
  ⟨0, 0, engineAt (word 0x50 0 2 0 0 0 0 0) ({ run0 true with a := [⟨.f, 0xFF, [0x3F800000, 0x40000000, 0x7F800000, 0x7FC00000] ++ List.replicate 508 0, List.replicate 512 1⟩, ⟨.f, 3, [0xBF800000, 0x40400000, 0xFF800000, 0x3F800000] ++ List.replicate 508 0, List.replicate 512 2⟩] ++ List.replicate 6 (Acc.clear true) }), { run0 true with a := [⟨.f, 0xFF, [0x3F800000, 0x40000000, 0x7F800000, 0x7FC00000] ++ List.replicate 508 0, List.replicate 512 1⟩, ⟨.f, 3, [0xBF800000, 0x40400000, 0xFF800000, 0x3F800000] ++ List.replicate 508 0, List.replicate 512 2⟩] ++ List.replicate 6 (Acc.clear true) }, word 0x50 0 2 0 0 0 0 0, by decide +kernel⟩,
  ⟨0, 0, engineAt (word 0x50 0 2 1 0 0 1 0) ({ run0 true with a := [⟨.f, 0xFF, [0x3F800000, 0x40000000, 0x7F800000, 0x7FC00000] ++ List.replicate 508 0, List.replicate 512 1⟩, ⟨.f, 3, [0xBF800000, 0x40400000, 0xFF800000, 0x3F800000] ++ List.replicate 508 0, List.replicate 512 2⟩] ++ List.replicate 6 (Acc.clear true) }), { run0 true with a := [⟨.f, 0xFF, [0x3F800000, 0x40000000, 0x7F800000, 0x7FC00000] ++ List.replicate 508 0, List.replicate 512 1⟩, ⟨.f, 3, [0xBF800000, 0x40400000, 0xFF800000, 0x3F800000] ++ List.replicate 508 0, List.replicate 512 2⟩] ++ List.replicate 6 (Acc.clear true) }, word 0x50 0 2 1 0 0 1 0, by decide +kernel⟩,
  ⟨0, 0, engineAt (word 0x51 0 2 0 1 0 0 0) ({ run0 true with a := [⟨.f, 0xFF, [0x3F800000, 0x40000000, 0x7F800000, 0x7FC00000] ++ List.replicate 508 0, List.replicate 512 1⟩, ⟨.f, 3, [0xBF800000, 0x40400000, 0xFF800000, 0x3F800000] ++ List.replicate 508 0, List.replicate 512 2⟩] ++ List.replicate 6 (Acc.clear true) }), { run0 true with a := [⟨.f, 0xFF, [0x3F800000, 0x40000000, 0x7F800000, 0x7FC00000] ++ List.replicate 508 0, List.replicate 512 1⟩, ⟨.f, 3, [0xBF800000, 0x40400000, 0xFF800000, 0x3F800000] ++ List.replicate 508 0, List.replicate 512 2⟩] ++ List.replicate 6 (Acc.clear true) }, word 0x51 0 2 0 1 0 0 0, by decide +kernel⟩,
  ⟨0, 0, engineAt (word 0x51 7 2 0 1 0 0 0) ({ run0 true with a := [⟨.i8, 0xFF, [1, 0x7FFFFFFF, 0x80000000, 3] ++ List.replicate 508 0, List.replicate 512 1⟩, ⟨.i8, 2, [5, 0x7FFFFFFF, 0xFFFFFFFF, 4] ++ List.replicate 508 0, List.replicate 512 2⟩] ++ List.replicate 6 (Acc.clear false) }), { run0 true with a := [⟨.i8, 0xFF, [1, 0x7FFFFFFF, 0x80000000, 3] ++ List.replicate 508 0, List.replicate 512 1⟩, ⟨.i8, 2, [5, 0x7FFFFFFF, 0xFFFFFFFF, 4] ++ List.replicate 508 0, List.replicate 512 2⟩] ++ List.replicate 6 (Acc.clear false) }, word 0x51 7 2 0 1 0 0 0, by decide +kernel⟩,
  ⟨0, 0, engineAt (word 0x70 0 0 0 0 0 0 0) ({ run0 true with a := [⟨.f, 0xFF, [0x3F800000, 0x40000000, 0x7F800000, 0x7FC00000] ++ List.replicate 508 0, List.replicate 512 1⟩, ⟨.f, 3, [0xBF800000, 0x40400000, 0xFF800000, 0x3F800000] ++ List.replicate 508 0, List.replicate 512 2⟩] ++ List.replicate 6 (Acc.clear true) }), { run0 true with a := [⟨.f, 0xFF, [0x3F800000, 0x40000000, 0x7F800000, 0x7FC00000] ++ List.replicate 508 0, List.replicate 512 1⟩, ⟨.f, 3, [0xBF800000, 0x40400000, 0xFF800000, 0x3F800000] ++ List.replicate 508 0, List.replicate 512 2⟩] ++ List.replicate 6 (Acc.clear true) }, word 0x70 0 0 0 0 0 0 0, by decide +kernel⟩⟩

/-- The hypotheses of `Obligations.EngineMemoryIsReadAndWritten`, at clauses 1.1, 1.2, 1.3, 1.4, 1.5, 2.1, 2.2, 2.3, 2.4, 2.5, 2.6, 2.7. -/
theorem witness_EngineMemoryIsReadAndWritten :
  (∃ (s : State), Whole s) ∧
  (∃ (s : State) (a : Nat) (n : Nat), s.flaws = [] ∧ ((granules a n).all fun g => !s.poison.contains g) = true) ∧
  (∃ (e : Fin 64) (s : State) (a : Nat) (n : Nat) (l : TLine), List.find? (fun l => l.row == a / 512) (s.engine e.val).tcache = some l ∧ 0 < n ∧
    a % 512 + n ≤ 512 ∧ (granules (a % 512) n).any l.bad.contains = false ∧ l.flaws = []) ∧
  (∃ (s : State), Whole s) ∧
  (∃ (s : State) (a : Nat) (bs : List Byte), s.flaws = [] ∧ ((granules a bs.length).all fun g => !s.poison.contains g) = true) ∧
  (∃ (e : Fin 64) (k : Fin 16) (s : State) (r : Run) (w : W64) (bs : List Byte) (t : State), Ready s e k 19 r w ∧ iM1 w = true ∧
    eaSpace (eaOf w r) 8 ≠ Space.bad ∧ eaOf w r % 8 = 0 ∧ storeWait s (eaOf w r) = false ∧
    engRead (e.val) (iM0 w) (eaSpace (eaOf w r) 8) 8 (issueM (e.val) s) = (some bs, t)) ∧
  (∃ (e : Fin 64) (k : Fin 16) (s : State) (r : Run) (w : W64) (bs : List Byte) (t : State), Ready s e k 19 r w ∧ iM1 w = false ∧
    eaSpace (eaOf w r) (fmtSize (iFmt w)) ≠ Space.bad ∧ eaOf w r % fmtSize (iFmt w) = 0 ∧ storeWait s (eaOf w r) = false ∧
    engRead (e.val) (iM0 w) (eaSpace (eaOf w r) (fmtSize (iFmt w))) (fmtSize (iFmt w)) (issueM (e.val) s) = (some bs, t)) ∧
  (∃ (e : Fin 64) (k : Fin 16) (s : State) (r : Run) (w : W64) (fresh : Bool) (bs : List Byte) (t : State), Ready s e k (if fresh = true then 33 else 32) r w ∧
    eaSpace (eaOf w r) (r.vl * fmtSize (iFmt w)) ≠ Space.bad ∧ eaOf w r % 16 = 0 ∧ storeWait s (eaOf w r) = false ∧
    engRead (e.val) fresh (eaSpace (eaOf w r) (r.vl * fmtSize (iFmt w))) (r.vl * fmtSize (iFmt w)) (issueM (e.val) s) = (some bs, t)) ∧
  (∃ (e : Fin 64) (k : Fin 16) (s : State) (r : Run) (w : W64), Ready s e k 34 r w ∧ kindOk (iFmt w) (r.acc (iRb w)) = true ∧
    eaSpace (eaOf w r) (r.vl * fmtSize (iFmt w)) ≠ Space.bad ∧ eaOf w r % 16 = 0 ∧ storeWait s (eaOf w r) = false) ∧
  (∃ (e : Fin 64) (k : Fin 16) (s : State) (r : Run) (w : W64) (bs : List Byte) (t : State), Ready s e k 35 r w ∧ 1 ≤ BitVec.toNat (r.sreg (iRc w)) ∧
    BitVec.toNat (r.sreg (iRc w)) ≤ 1048576 ∧ BitVec.toNat (r.sreg (iRc w)) % 16 = 0 ∧
    dmaPair (eaSpace (BitVec.toNat (r.sreg (iRa w))) (BitVec.toNat (r.sreg (iRc w)))) (eaSpace (BitVec.toNat (r.sreg (iRb w))) (BitVec.toNat (r.sreg (iRc w)))) = true ∧
    BitVec.toNat (r.sreg (iRa w)) % 16 = 0 ∧ BitVec.toNat (r.sreg (iRb w)) % 16 = 0 ∧ r.dmas.length < 8 ∧ s.wiping = false ∧
    engRead (e.val) true (eaSpace (BitVec.toNat (r.sreg (iRa w))) (BitVec.toNat (r.sreg (iRc w)))) (BitVec.toNat (r.sreg (iRc w))) (issueM (e.val) s) = (some bs, t)) ∧
  (∃ (e : Fin 64) (k : Fin 16) (s : State) (r : Run) (w : W64), Ready s e k 34 r w ∧ kindOk (iFmt w) (r.acc (iRb w)) = true ∧
    eaSpace (eaOf w r) (r.vl * fmtSize (iFmt w)) ≠ Space.bad ∧ eaOf w r % 16 = 0 ∧ storeWait s (eaOf w r) = true) ∧
  (∃ (e : Fin 64) (k : Fin 16) (s : State) (r : Run) (w : W64) (bs : List Byte) (t : State), Ready s e k 67 r w ∧ iM0 w = true ∧
    (r.acc (iRa w)).kind = Kind.f ∧ eaSpace ((BitVec.toNat (r.sreg (iRb w)) + iImm w) % 2 ^ 64) (r.vl * fmtSize (iFmt w)) ≠ Space.bad ∧
    (BitVec.toNat (r.sreg (iRb w)) + iImm w) % 2 ^ 64 % 16 = 0 ∧ storeWait s ((BitVec.toNat (r.sreg (iRb w)) + iImm w) % 2 ^ 64) = false ∧
    engRead (e.val) (iM1 w) (eaSpace ((BitVec.toNat (r.sreg (iRb w)) + iImm w) % 2 ^ 64) (r.vl * fmtSize (iFmt w))) (r.vl * fmtSize (iFmt w)) (issueV (e.val) (issueM (e.val) s)) = (some bs, t)) :=
  ⟨⟨sLoc, by decide +kernel⟩,
  ⟨{sLoc with mem := cellWrite 0 [] 1500 [1,2,3,4]}, 1500, 600, by decide +kernel⟩,
  ⟨3, sLoc, 1030, 506, ⟨2, List.replicate 512 7, [], []⟩, by decide +kernel⟩,
  ⟨sLoc, by decide +kernel⟩,
  ⟨sLoc, 1030, [5,6], by decide +kernel⟩,
  ⟨0, 0, engineAt (word 0x13 0 4 2 0 0 2 0) (run0 true), run0 true, word 0x13 0 4 2 0 0 2 0, (engRead 0 false (eaSpace 0x10000000000 8) (8) (issueM 0 (engineAt (word 0x13 0 4 2 0 0 2 0) (run0 true)))).1.getD [], (engRead 0 false (eaSpace 0x10000000000 8) (8) (issueM 0 (engineAt (word 0x13 0 4 2 0 0 2 0) (run0 true)))).2, by decide +kernel⟩,
  ⟨0, 0, engineAt (word 0x13 0 4 0 0 0 0 0) ({ run0 true with s := [0x400, 1, 0x1000, 32] ++ List.replicate 12 0, a := Acc.clear true :: ⟨.f, 0xFF, [0x3F800000, 0x40000000, 0x7F800000, 0x7FC00000] ++ List.replicate 508 0, List.replicate 512 1⟩ :: List.replicate 6 (Acc.clear true) }), { run0 true with s := [0x400, 1, 0x1000, 32] ++ List.replicate 12 0, a := Acc.clear true :: ⟨.f, 0xFF, [0x3F800000, 0x40000000, 0x7F800000, 0x7FC00000] ++ List.replicate 508 0, List.replicate 512 1⟩ :: List.replicate 6 (Acc.clear true) }, word 0x13 0 4 0 0 0 0 0, (engRead 0 false (eaSpace 0x400 (fmtSize 0)) (fmtSize 0) (issueM 0 (engineAt (word 0x13 0 4 0 0 0 0 0) ({ run0 true with s := [0x400, 1, 0x1000, 32] ++ List.replicate 12 0, a := Acc.clear true :: ⟨.f, 0xFF, [0x3F800000, 0x40000000, 0x7F800000, 0x7FC00000] ++ List.replicate 508 0, List.replicate 512 1⟩ :: List.replicate 6 (Acc.clear true) })))).1.getD [], (engRead 0 false (eaSpace 0x400 (fmtSize 0)) (fmtSize 0) (issueM 0 (engineAt (word 0x13 0 4 0 0 0 0 0) ({ run0 true with s := [0x400, 1, 0x1000, 32] ++ List.replicate 12 0, a := Acc.clear true :: ⟨.f, 0xFF, [0x3F800000, 0x40000000, 0x7F800000, 0x7FC00000] ++ List.replicate 508 0, List.replicate 512 1⟩ :: List.replicate 6 (Acc.clear true) })))).2, by decide +kernel⟩,
  ⟨0, 0, engineAt (word 0x21 2 2 0 0 0 0 0) ({ run0 true with s := [0x400, 1, 0x1000, 32] ++ List.replicate 12 0, a := Acc.clear true :: ⟨.f, 0xFF, [0x3F800000, 0x40000000, 0x7F800000, 0x7FC00000] ++ List.replicate 508 0, List.replicate 512 1⟩ :: List.replicate 6 (Acc.clear true) }), { run0 true with s := [0x400, 1, 0x1000, 32] ++ List.replicate 12 0, a := Acc.clear true :: ⟨.f, 0xFF, [0x3F800000, 0x40000000, 0x7F800000, 0x7FC00000] ++ List.replicate 508 0, List.replicate 512 1⟩ :: List.replicate 6 (Acc.clear true) }, word 0x21 2 2 0 0 0 0 0, true, (engRead 0 true (eaSpace 0x400 (4*fmtSize 2)) (4*fmtSize 2) (issueM 0 (engineAt (word 0x21 2 2 0 0 0 0 0) ({ run0 true with s := [0x400, 1, 0x1000, 32] ++ List.replicate 12 0, a := Acc.clear true :: ⟨.f, 0xFF, [0x3F800000, 0x40000000, 0x7F800000, 0x7FC00000] ++ List.replicate 508 0, List.replicate 512 1⟩ :: List.replicate 6 (Acc.clear true) })))).1.getD [], (engRead 0 true (eaSpace 0x400 (4*fmtSize 2)) (4*fmtSize 2) (issueM 0 (engineAt (word 0x21 2 2 0 0 0 0 0) ({ run0 true with s := [0x400, 1, 0x1000, 32] ++ List.replicate 12 0, a := Acc.clear true :: ⟨.f, 0xFF, [0x3F800000, 0x40000000, 0x7F800000, 0x7FC00000] ++ List.replicate 508 0, List.replicate 512 1⟩ :: List.replicate 6 (Acc.clear true) })))).2, by decide +kernel⟩,
  ⟨0, 0, engineAt (word 0x22 5 0 0 1 0 0 0) ({ run0 false with s := [0x400, 1, 0x1000, 32] ++ List.replicate 12 0, a := Acc.clear false :: ⟨.i8, 0xFF, [5, 0x40000000, 0x7F800000, 0x80000000] ++ List.replicate 508 0, List.replicate 512 1⟩ :: List.replicate 6 (Acc.clear false) }), { run0 false with s := [0x400, 1, 0x1000, 32] ++ List.replicate 12 0, a := Acc.clear false :: ⟨.i8, 0xFF, [5, 0x40000000, 0x7F800000, 0x80000000] ++ List.replicate 508 0, List.replicate 512 1⟩ :: List.replicate 6 (Acc.clear false) }, word 0x22 5 0 0 1 0 0 0, by decide +kernel⟩,
  ⟨0, 0, engineAt (word 0x23 0 0 0 2 3 0 0) ({ run0 true with s := [0x400, 1, 0x10000000000, 32] ++ List.replicate 12 0, a := Acc.clear true :: ⟨.f, 0xFF, [0x3F800000, 0x40000000, 0x7F800000, 0x7FC00000] ++ List.replicate 508 0, List.replicate 512 1⟩ :: List.replicate 6 (Acc.clear true) }), { run0 true with s := [0x400, 1, 0x10000000000, 32] ++ List.replicate 12 0, a := Acc.clear true :: ⟨.f, 0xFF, [0x3F800000, 0x40000000, 0x7F800000, 0x7FC00000] ++ List.replicate 508 0, List.replicate 512 1⟩ :: List.replicate 6 (Acc.clear true) }, word 0x23 0 0 0 2 3 0 0, (engRead 0 true (eaSpace 0x400 32) 32 (issueM 0 (engineAt (word 0x23 0 0 0 2 3 0 0) ({ run0 true with s := [0x400, 1, 0x10000000000, 32] ++ List.replicate 12 0, a := Acc.clear true :: ⟨.f, 0xFF, [0x3F800000, 0x40000000, 0x7F800000, 0x7FC00000] ++ List.replicate 508 0, List.replicate 512 1⟩ :: List.replicate 6 (Acc.clear true) })))).1.getD [], (engRead 0 true (eaSpace 0x400 32) 32 (issueM 0 (engineAt (word 0x23 0 0 0 2 3 0 0) ({ run0 true with s := [0x400, 1, 0x10000000000, 32] ++ List.replicate 12 0, a := Acc.clear true :: ⟨.f, 0xFF, [0x3F800000, 0x40000000, 0x7F800000, 0x7FC00000] ++ List.replicate 508 0, List.replicate 512 1⟩ :: List.replicate 6 (Acc.clear true) })))).2, by decide +kernel⟩,
  ⟨0, 0, { (engineAt (word 0x22 0 0 0 1 0 0 0) ({ run0 true with s := [0x400, 1, 0x1000, 32] ++ List.replicate 12 0, a := Acc.clear true :: ⟨.f, 0xFF, [0x3F800000, 0x40000000, 0x7F800000, 0x7FC00000] ++ List.replicate 508 0, List.replicate 512 1⟩ :: List.replicate 6 (Acc.clear true) })) with wiping := true }, { run0 true with s := [0x400, 1, 0x1000, 32] ++ List.replicate 12 0, a := Acc.clear true :: ⟨.f, 0xFF, [0x3F800000, 0x40000000, 0x7F800000, 0x7FC00000] ++ List.replicate 508 0, List.replicate 512 1⟩ :: List.replicate 6 (Acc.clear true) }, word 0x22 0 0 0 1 0 0 0, by decide +kernel⟩,
  ⟨0, 0, engineAt (word 0x43 0 2 1 0 0 1 16) ({ run0 true with s := [0x400, 1, 0x1000, 32] ++ List.replicate 12 0, a := Acc.clear true :: ⟨.f, 0xFF, [0x3F800000, 0x40000000, 0x7F800000, 0x7FC00000] ++ List.replicate 508 0, List.replicate 512 1⟩ :: List.replicate 6 (Acc.clear true) }), { run0 true with s := [0x400, 1, 0x1000, 32] ++ List.replicate 12 0, a := Acc.clear true :: ⟨.f, 0xFF, [0x3F800000, 0x40000000, 0x7F800000, 0x7FC00000] ++ List.replicate 508 0, List.replicate 512 1⟩ :: List.replicate 6 (Acc.clear true) }, word 0x43 0 2 1 0 0 1 16, (engRead 0 false (eaSpace 0x410 (4*fmtSize 0)) (4*fmtSize 0) (issueV 0 (issueM 0 (engineAt (word 0x43 0 2 1 0 0 1 16) ({ run0 true with s := [0x400, 1, 0x1000, 32] ++ List.replicate 12 0, a := Acc.clear true :: ⟨.f, 0xFF, [0x3F800000, 0x40000000, 0x7F800000, 0x7FC00000] ++ List.replicate 508 0, List.replicate 512 1⟩ :: List.replicate 6 (Acc.clear true) }))))).1.getD [], (engRead 0 false (eaSpace 0x410 (4*fmtSize 0)) (4*fmtSize 0) (issueV 0 (issueM 0 (engineAt (word 0x43 0 2 1 0 0 1 16) ({ run0 true with s := [0x400, 1, 0x1000, 32] ++ List.replicate 12 0, a := Acc.clear true :: ⟨.f, 0xFF, [0x3F800000, 0x40000000, 0x7F800000, 0x7FC00000] ++ List.replicate 508 0, List.replicate 512 1⟩ :: List.replicate 6 (Acc.clear true) }))))).2, by decide +kernel⟩⟩

/-- The hypotheses of `Obligations.StreamInstructionsTakeAndSendRecords`, at clauses 1, 2, 3, 4, 5, 6. -/
theorem witness_StreamInstructionsTakeAndSendRecords :
  (∃ (e : Fin 64) (k : Fin 16) (s : State) (r : Run) (w : W64) (x : Rec) (node : Nat) (c : Coll), Ready s e k 48 r w ∧
    takeRec s (e.val) (iRc w) r = InRes.got x node c) ∧
  (∃ (e : Fin 64) (k : Fin 16) (s : State) (r : Run) (w : W64), Ready s e k 48 r w ∧ takeRec s (e.val) (iRc w) r = InRes.wait) ∧
  (∃ (e : Fin 64) (k : Fin 16) (s : State) (r : Run) (w : W64) (g : Nat) (q : W32) (idx : Nat) (node : Nat) (elem : W32) (lanes : Nat) (rest : List (Nat × W32 × Nat)) (c : Coll), Ready s e k 49 r w ∧
    r.origin = RunOrigin.reduction g q idx ∧ r.unans = (node, elem, lanes) :: rest ∧ iRc w = 0 ∧
    BitVec.toNat (r.sreg (iRb w)) % 2 ^ 32 = BitVec.toNat elem ∧ BitVec.toNat (r.sreg (iRb w)) / 2 ^ 32 % 2 ^ 9 + 1 = lanes ∧ r.vl = lanes ∧
    findColl s g q = some c) ∧
  (∃ (e : Fin 64) (k : Fin 16) (s : State) (r : Run) (w : W64) (x : Rec) (node : Nat) (c : Coll), Ready s e k 50 r w ∧
    takeRec s (e.val) (iRb w) r = InRes.got x node c ∧ (iFmt w = 0 ↔ (r.acc (iRa w)).kind = Kind.f) ∧ (x.int = false ↔ iFmt w = 0) ∧
    (iM0 w && x.ends && !(iM1 w && x.final)) = false) ∧
  (∃ (e : Fin 64) (k : Fin 16) (s : State) (r : Run) (w : W64), Ready s e k 51 r w ∧ iM0 w = false ∧ iM1 w = true ∧ (r.acc (iRa w)).kind = Kind.f ∧
    (r.acc (iRd w)).kind = Kind.f) ∧
  (∃ (e : Fin 64) (k : Fin 16) (s : State) (r : Run) (w : W64), Ready s e k 51 r w ∧ iM0 w = false ∧ iM1 w = false ∧ (r.acc (iRa w)).kind = Kind.f ∧
    (r.acc (iRd w)).kind = Kind.f) :=
  ⟨⟨0, 0, redAt (word 0x30 0 2 0 5 0 0 0) (redRun), redRun, word 0x30 0 2 0 5 0 0 0, (gotRec (redAt (word 0x30 0 2 0 5 0 0 0) (redRun)) (redRun)).1, (gotRec (redAt (word 0x30 0 2 0 5 0 0 0) (redRun)) (redRun)).2.1, (gotRec (redAt (word 0x30 0 2 0 5 0 0 0) (redRun)) (redRun)).2.2, by decide +kernel⟩,
  ⟨0, 0, redAt (word 0x30 0 2 0 5 0 0 0) ({ redRun with sum := 5 }), { redRun with sum := 5 }, word 0x30 0 2 0 5 0 0 0, by decide +kernel⟩,
  ⟨0, 0, redAt (word 0x31 0 0 0 5 0 0 0) ({ redRun with s := redRun.s.set 5 0xF00000000, unans := [(0, 0, 16)] }), { redRun with s := redRun.s.set 5 0xF00000000, unans := [(0, 0, 16)] }, word 0x31 0 0 0 5 0 0 0, 4, 0, 0, 0, 0, 16, [], coll4, by decide +kernel⟩,
  ⟨0, 0, redAt (word 0x32 0 2 1 0 0 0 6) (redRun), redRun, word 0x32 0 2 1 0 0 0 6, (gotRec (redAt (word 0x32 0 2 1 0 0 0 6) (redRun)) (redRun)).1, (gotRec (redAt (word 0x32 0 2 1 0 0 0 6) (redRun)) (redRun)).2.1, (gotRec (redAt (word 0x32 0 2 1 0 0 0 6) (redRun)) (redRun)).2.2, by decide +kernel⟩,
  ⟨0, 0, redAt (word 0x33 0 2 1 0 0 2 0) (redRun), redRun, word 0x33 0 2 1 0 0 2 0, by decide +kernel⟩,
  ⟨0, 0, redAt (word 0x33 0 2 1 0 0 0 0) (redRun), redRun, word 0x33 0 2 1 0 0 0 0, by decide +kernel⟩⟩

/-- The hypotheses of `Obligations.RunsBeginWaitAndEnd`, at clauses 1, 2, 3, 4, 5, 6, 7, 8, 9, 10, 11, 12, 13, 14, 15. -/
theorem witness_RunsBeginWaitAndEnd :
  (∃ (e : Fin 64) (s : State) (q : QRun) (rest : List QRun) (slot : Nat), coreOn s = true ∧ present s e.val = true ∧ (s.engine e.val).queue = q :: rest ∧
    freeSlot (s.engine e.val) = some slot ∧ q.origin ≠ RunOrigin.register ∧ (q.pid < 128 ∨ progValid s (e.val) q.pid = true)) ∧
  (∃ (e : Fin 64) (s : State) (q : QRun) (rest : List QRun) (slot : Nat), coreOn s = true ∧ present s e.val = true ∧ (s.engine e.val).queue = q :: rest ∧
    freeSlot (s.engine e.val) = some slot ∧ q.origin = RunOrigin.register ∧ 128 ≤ q.pid ∧ progValid s (e.val) q.pid = true) ∧
  (∃ (e : Fin 64) (s : State) (q : QRun) (rest : List QRun) (slot : Nat), coreOn s = true ∧ present s e.val = true ∧ (s.engine e.val).queue = q :: rest ∧
    freeSlot (s.engine e.val) = some slot ∧ q.origin = RunOrigin.register ∧ (q.pid < 128 ∨ progValid s (e.val) q.pid = false)) ∧
  (∃ (e : Fin 64) (s : State) (q : QRun) (rest : List QRun) (slot : Nat), coreOn s = true ∧ present s e.val = true ∧ (s.engine e.val).queue = q :: rest ∧
    freeSlot (s.engine e.val) = some slot ∧ q.origin ≠ RunOrigin.register ∧ 128 ≤ q.pid ∧ progValid s (e.val) q.pid = false) ∧
  (∃ (e : Fin 64) (k : Fin 16) (s : State) (r : Run) (w : W64), Ready s e k 1 r w ∧ r.origin = RunOrigin.register ∧ r.dmas = []) ∧
  (∃ (e : Fin 64) (k : Fin 16) (s : State) (r : Run) (w : W64), Ready s e k 1 r w ∧ r.dmas = [] ∧
    (∀ (g : Nat) (q : W32) (i : Nat), r.origin = RunOrigin.reduction g q i → r.unans = [] ∧ r.last = true)) ∧
  (∃ (e : Fin 64) (k : Fin 16) (s : State) (r : Run) (w : W64), Ready s e k 1 r w ∧
    (∀ (g : Nat) (q : W32) (i : Nat), r.origin ≠ RunOrigin.reduction g q i) ∧ r.dmas ≠ []) ∧
  (∃ (e : Fin 64) (k : Fin 16) (s : State) (r : Run) (w : W64), Ready s e k 5 r w) ∧
  (∃ (e : Fin 64) (k : Fin 16) (s : State) (r : Run), coreOn s = true ∧ findRun s e.val k.val = some r ∧ r.wait.isSome = true ∧ r.waitMet = true) ∧
  (∃ (e : Fin 64) (k : Fin 16) (s : State) (r : Run), coreOn s = true ∧ findRun s e.val k.val = some r) ∧
  (∃ (e : Fin 64) (k : Fin 16) (s : State) (r : Run) (w : W64), Ready s e k 96 r w ∧ r.dmas = []) ∧
  (∃ (e : Fin 64) (k : Fin 16) (s : State) (r : Run) (w : W64), Ready s e k 98 r w ∧ r.dmas = []) ∧
  (∃ (e : Fin 64) (s : State), coreOn s = true ∧ Whole s ∧ (s.engine e.val).doneWait = true ∧ s.field (jBase e.val + 32) 9 9 = 1) ∧
  (∃ (e : Fin 64) (s : State), coreOn s = true ∧ (s.engine e.val).doneWait = true ∧ s.field (jBase e.val + 32) 9 9 = 0) ∧
  (∃ (e : Fin 64) (k : Fin 16) (s : State) (r : Run), coreOn s = true ∧ findRun s e.val k.val = some r ∧ 128 ≤ r.pid ∧ s.field (jBase e.val) 19 0 ≠ 0) :=
  ⟨⟨0, sQ, qx, [], 1, by decide +kernel⟩,
  ⟨0, sQr, qr, [], 1, by decide +kernel⟩,
  ⟨0, sNqn, qn, [], 1, by decide +kernel⟩,
  ⟨0, sNo, qo, [], 1, by decide +kernel⟩,
  ⟨0, 0, eng (word 0x1 0 0 0 0 0 0 0), run0 true, word 0x1 0 0 0 0 0 0 0, by decide +kernel⟩,
  ⟨0, 0, redAt (word 0x1 0 0 0 0 0 0 0) rR, rR, word 0x1 0 0 0 0 0 0 0, by decide +kernel, by decide +kernel, fun _ _ _ _ => by decide +kernel⟩,
  ⟨0, 0, engineAt (word 0x1 0 0 0 0 0 0 0) rD, rD, word 0x1 0 0 0 0 0 0 0, by decide +kernel, fun _ _ _ h => RunOrigin.noConfusion h, by decide +kernel⟩,
  ⟨0, 0, eng (word 0x5 0 0 0 1 0 0 9), run0 true, word 0x5 0 0 0 1 0 0 9, by decide +kernel⟩,
  ⟨0, 0, engineAt 0 rWt, rWt, by decide +kernel⟩,
  ⟨0, 0, engineAt 0 rD, rD, by decide +kernel⟩,
  ⟨0, 0, eng (word 0x60 0 0 0 0 0 0 0), run0 true, word 0x60 0 0 0 0 0 0 0, by decide +kernel⟩,
  ⟨0, 0, eng (word 0x62 0 0 2 1 0 1 0), run0 true, word 0x62 0 0 2 1 0 1 0, by decide +kernel⟩,
  ⟨0, sDone, by decide +kernel⟩,
  ⟨0, sDone0, by decide +kernel⟩,
  ⟨0, 0, sWd, run0 true, by decide +kernel⟩⟩

/-- The hypotheses of `Obligations.BadWordsEndTheirRun`, at clauses 1, 2. -/
theorem witness_BadWordsEndTheirRun :
  (∃ (e : Fin 64) (k : Fin 16) (s : State) (r : Run) (x : Nat) (c : Instr), c ∈ engineInstrs e k ∧ coreOn s = true ∧ Whole s ∧ present s e.val = true ∧
    findRun s e.val k.val = some r ∧ 128 ≤ r.pid ∧ r.wait = none ∧ wordExc s e r = some x) ∧
  (∃ (x : Nat) (r : Run), r.origin = RunOrigin.register ∧ x < 16 ∧ r.slot < 16 ∧ r.pid < 256 ∧ r.pc < 2 ^ 13) :=
  ⟨⟨0, 0, engineAt 0 rEnd, rEnd, 7, .nop 0 0, by decide +kernel⟩,
  ⟨1, run0 true, by decide +kernel⟩⟩

/-- The hypotheses of `Obligations.EngineRegistersStartLoadAndClear`, at clauses 1, 2, 3, 4, 5, 6, 7. -/
theorem witness_EngineRegistersStartLoadAndClear :
  (∃ (e : Fin 64) (s : State), held s = false ∧ present s e.val = true ∧ (s.engine e.val).dis = DisState.enabled ∧ s.field (jBase e.val + 36) 2 0 ≠ 1 ∧
    s.field (jBase e.val + 36) 2 0 ≠ 2 ∧ BusFree s (jBase e.val + 32)) ∧
  (∃ (e : Fin 64) (s : State), held s = false ∧ present s e.val = true ∧ (s.field (jBase e.val + 36) 2 0 = 1 ∨ s.field (jBase e.val + 36) 2 0 = 2) ∧
    BusFree s (jBase e.val + 32)) ∧
  (∃ (e : Fin 64) (s : State) (p : BitVec 8), held s = false ∧ present s e.val = true ∧ BusFree s (jBase e.val + 24) ∧
    loadReason s (e.val) p.toNat (s.reg (jBase e.val + 16)) = 0) ∧
  (∃ (e : Fin 64) (s : State) (q : Nat) (w : W64), coreOn s = true ∧ present s e.val = true ∧ (s.engine e.val).loading = some (q, w) ∧ 128 ≤ q ∧
    s.busHeld = [] ∧ Whole s ∧
    BitVec.toNat (crc32c (List.flatMap (leBytes 8) (List.map (fun i => s.regN (jBase e.val + 65536 + (BitVec.toNat w % 2 ^ 13 + i) * 8)) (List.range (BitVec.toNat w / 2 ^ 13 % 2 ^ 14))))) = BitVec.toNat w / 2 ^ 32) ∧
  (∃ (e : Fin 64) (s : State) (p : BitVec 8), held s = false ∧ present s e.val = true ∧ BusFree s (jBase e.val + 24) ∧
    progInUse s (e.val) p.toNat = false ∧ progValid s (e.val) p.toNat = true) ∧
  (∃ (e : Fin 64) (s : State), held s = false ∧ present s e.val = true ∧ BusFree s (jBase e.val + 16152)) ∧
  (∃ (s : State), held s = false) :=
  ⟨⟨0, sIdle, by decide +kernel⟩,
  ⟨0, sRun, by decide +kernel⟩,
  ⟨0, sLd, 129, by decide +kernel⟩,
  ⟨0, sLd2, 129, BitVec.ofNat 64 (pcrc * 2^32 + 4 * 2^13), by decide +kernel⟩,
  ⟨0, sLd3, 129, by decide +kernel⟩,
  ⟨0, sEx, by decide +kernel⟩,
  ⟨sEx2, by decide +kernel⟩⟩


end Sys2Proof.Tests.Engines
end

