-- ==== Sys2Proof/Tests/Experts.lean ====
section
/-!
SUPPORT. Witnesses: states and operands that meet the hypotheses of each statement, clause by clause (expert tables, steps, batches and combines).
-/

namespace Sys2Proof.Tests.Experts

open Sys2Proof Sys2Proof.Machine Sys2Proof.Claims Sys2Proof.Tests

set_option Elab.async false

def trunkPort (d : Nat) : Port := { endPort with role := 2, dir := d }
def torus2 : State := ((withRegs [(0x2000004, 0x010103), (0x2001004, 1), (0x2001008, 2)] sw).setPort 2 (trunkPort 0)).setPort 3 (trunkPort 1)
def tabled : State :=
  { bpmApply (withRegs [(xBase 5, 4 + 2 * 2 ^ 20), (xBase 5 + 4, 16 + 2 * 2 ^ 17), (xBase 5 + 8, 2 + 2 * 2 ^ 16), (xBase 5 + 0x10, 0x200000), (xBase 5 + 0x18, 0x280000),
      (xBase 5 + 0x20, 3), (xBase 5 + 0x28, 1), (0x4000008, 0x200000), (0x4000010, 4), (0x7000060, 4)] torus2) with
    mem := cellWrite 0 (cellWrite 0 (cellWrite 0 [] 0x200000 (leBytes 4 (cw 1) ++ leBytes 4 1 ++ leBytes 4 (cw 1) ++ leBytes 4 1)) 0x300000 (leBytes 2 0x3F80 ++ leBytes 2 0xC000)) 0x300010 (leBytes 2 0 ++ leBytes 2 0x8000)
    xswitches := [(5, [0, 1])] }
def xo (cseq token k off gwptr : Nat) (es : Nat) : List (Nat × Nat × Nat) := [(256, 6, 5), (262, 1, 0), (264, 4, 0), (268, 4, k), (272, 16, off), (288, 16, cseq), (304, 24, token), (328, 40, gwptr), (368, 80, es)]
def row16 : List Byte := (List.range 16).flatMap (fun i => leBytes 4 (0x3F800000 + i * 2 ^ 16))
def tok (n cseq token k gwptr es : Nat) : Packet := pkt n 0x18 0 true 9 0 1 row16 (xo cseq token k 0 gwptr es)
def sseal (n cseq cnt : Nat) : Packet := pkt n 0x18 0 true 9 0 1 (leBytes 4 cnt ++ List.replicate 12 0) (xo cseq 0xFFFFFF 1 0 0 0)
def tpk (src : Nat) (ssvc : Nat) (pay : List Byte) (own : List (Nat × Nat × Nat)) : Packet := (((mkPacket 0x18 0 0 true 9 0 1 pay own).set 157 1 ssvc).set 64 32 src).seal
def wseal (cseq cnt : Nat) : Packet := tpk 1 1 (leBytes 4 cnt ++ List.replicate 12 0) (xo cseq 0xFFFFFF 1 0 0 0)
def wcopy (cseq token : Nat) : Packet := tpk (1 + 0 * 2 ^ 18) 0 row16 (xo cseq token 2 0 1 (0 + 1 * 2 ^ 10))
def cnt (n : Nat) (s : State) (p : Packet) : MsgCtx × Bool × Bool × State :=
  countedOf (msgArrive .csq n (servPkt s n p) (servSt s n p))
theorem cnt_of {a n : Nat} {s : State} {p : Packet} {f k : Bool} (ha : a = n)
    (h : (match (msgArrive .csq n (servPkt s n p) (servSt s n p)).1 with | .counted _ f' k' => f' == f && k' == k | _ => false) = true) :
    msgArrive .csq a (servPkt s n p) (servSt s n p) = (.counted (cnt n s p).1 f k, (cnt n s p).2.2.2) := by
  subst ha; exact counted_of h
def xst (cseq : W32) : XStep := ⟨5, cseq, 0, 0, false, false, [], [], [], false, [], 0, [], false⟩
def stepped (x : XStep) : State := { tabled with xsteps := [x] }
def comb7 : Comb := ⟨5, 3, 7, 0, 9, 0, 0, 0, false, false, [0, 1], 0x300000, 0, [], [], false, [.open, .open], [(0, tok 0 3 7 2 0x300000 (0 + 1 * 2 ^ 10))], false, false⟩
def combing (c : Comb) : State := { stepped (xst 3) with combs := [c] }
def past : Comb := { comb7 with gwptr := storeEnd - 2 }
def bigTab : State := withRegs [(xBase 5 + 4, 528 + 2 * 2 ^ 17)] (stepped (xst 3))
def wpart : Packet := (((mkPacket 0x18 0 0 true 9 1 2 (List.replicate 64 1) (xo 3 7 2 512 1 1024)).set 157 1 0).set 64 32 1).seal
def xready : XStep := { xst 3 with sealed := [(0, 1), (1, 0)], tokens := [(0, 1)], copies := [(1, 1)] }
def rw (k : Nat) : Row := ⟨k, 0, 0, 0, [(0, tok 0 3 k 2 0x300000 1024)]⟩
def bt : Batch := ⟨0, false, false, 0, 0, 0, [], [rw 7, rw 6]⟩
def xb : XStep := { xst 3 with batches := [bt], sealsSent := true, seals := [(1, 0)] }
def bg : Batch := ⟨0, true, false, cw 1, 0, 0, [{ rw 7 with slot := 0 }], []⟩
def xc : XStep := { xb with batches := [bg] }
def outp (ssvc src tokn rank e toksrc : Nat) (pay : List Byte) : Packet := (((mkPacket 0x19 0 0 true 9 0 1 pay [(256, 6, 5), (264, 4, 0), (268, 4, rank), (272, 16, 0), (288, 16, 3), (304, 24, tokn), (328, 32, toksrc), (368, 10, e)]).set 157 1 ssvc).set 64 32 src).seal
def combK : Comb := { comb7 with owners := [cw 1, 1], known := true, weights := [0x3F80, 0x4000] }
def crun : Run := { run0 true with origin := .combine 5 3 7, pid := 8 }
def combD : Comb := { combK with ranks := [.done, .overcap] }
def combRun (c : Comb) : State := (combing c).modEngine 16 (fun x => { x with runs := [crun] })

/-- The hypotheses of `Obligations.DispatchesAreChecked`, at clauses 1, 2, 3, 4. -/
theorem witness_DispatchesAreChecked :
  (∃ (s : State) (trunk : Bool) (ctl : Bool) (n : Fin 64) (p : Packet) (q : Packet) (t : State), Taken s n p q t ∧ ListClean s (xTable q) ∧
    isDispatch (n.val) trunk ctl t q = true ∧ xActive t (xTable q) = false) ∧
  (∃ (s : State) (trunk : Bool) (ctl : Bool) (n : Fin 64) (p : Packet) (q : Packet) (t : State), Taken s n p q t ∧ ListClean s (xTable q) ∧
    isDispatch (n.val) trunk ctl t q = true ∧ xActive t (xTable q) = true ∧ kindOk9 t (n.val) q = false) ∧
  (∃ (s : State) (trunk : Bool) (ctl : Bool) (n : Fin 64) (p : Packet) (q : Packet) (t : State), Taken s n p q t ∧ ListClean s (xTable q) ∧
    isDispatch (n.val) trunk ctl t q = true ∧ xActive t (xTable q) = true ∧ kindOk9 t (n.val) q = true ∧ 8 ≤ xDiff t (xTable q) q ∧
    xDiff t (xTable q) q < 32768) ∧
  (∃ (s : State) (trunk : Bool) (ctl : Bool) (n : Fin 64) (p : Packet) (q : Packet) (t : State), Taken s n p q t ∧ ListClean s (xTable q) ∧
    isDispatch (n.val) trunk ctl t q = true ∧ xActive t (xTable q) = true ∧ kindOk9 t (n.val) q = true ∧
    (32768 ≤ xDiff t (xTable q) q ∨ xDiff t (xTable q) q < 8 ∧ t.xclosed.contains (xTable q, xStepNo t (xTable q) q) = true)) :=
  ⟨⟨withRegs [(xBase 5 + 0x28, 0)] tabled, true, true, 2, wseal 3 1, servPkt (withRegs [(xBase 5 + 0x28, 0)] tabled) 2 (wseal 3 1), servSt (withRegs [(xBase 5 + 0x28, 0)] tabled) 2 (wseal 3 1), taken_of (by decide +kernel), by decide +kernel⟩,
  ⟨tabled, true, false, 2, tpk 1 0 row16 (xo 3 7 2 0 0 1024), servPkt tabled 2 (tpk 1 0 row16 (xo 3 7 2 0 0 1024)), servSt tabled 2 (tpk 1 0 row16 (xo 3 7 2 0 0 1024)), taken_of (by decide +kernel), by decide +kernel⟩,
  ⟨tabled, true, true, 2, wseal 8 1, servPkt tabled 2 (wseal 8 1), servSt tabled 2 (wseal 8 1), taken_of (by decide +kernel), by decide +kernel⟩,
  ⟨tabled, true, true, 2, wseal 32768 1, servPkt tabled 2 (wseal 32768 1), servSt tabled 2 (wseal 32768 1), taken_of (by decide +kernel), by decide +kernel⟩⟩

/-- The hypotheses of `Obligations.TokensOpenTheirContexts`, at clauses 1, 2, 3. -/
theorem witness_TokensOpenTheirContexts :
  (∃ (s : State) (n : Fin 64) (p : Packet) (q : Packet) (t : State) (t' : State) (x : XStep) (ctx : Nat) (m : MsgCtx) (complete : Bool), TakenDispatch s false false n p q t ∧
    row6 t q = true ∧ findStep t (xTable q) (xStepNo t (xTable q) q) = some x ∧ findMsg t (BitVec.ofNat 32 q.src) (BitVec.ofNat 32 q.msgId) = none ∧
    findComb t (xTable q) (xStepNo t (xTable q) q) (xToken q) = none ∧ freeCtx t (xTable q) = some ctx ∧
    (t.engine (combEngine t (xTable q) ctx)).dis = DisState.enabled ∧ msgArrive Blk.csq (n.val) q t = (MsgRes.counted m true complete, t')) ∧
  (∃ (s : State) (n : Fin 64) (p : Packet) (q : Packet) (t : State), TakenDispatch s false false n p q t ∧ row6 t q = true ∧
    findStep t (xTable q) (xStepNo t (xTable q) q) = none ∧ findMsg t (BitVec.ofNat 32 q.src) (BitVec.ofNat 32 q.msgId) = none ∧
    sliceState t (xTable q) = DisState.enabled) ∧
  (∃ (s : State) (n : Fin 64) (p : Packet) (q : Packet) (t : State), TakenDispatch s false false n p q t ∧ row6 t q = true ∧
    findStep t (xTable q) (xStepNo t (xTable q) q) = none ∧ sliceState t (xTable q) ≠ DisState.enabled) :=
  ⟨⟨stepped (xst 3), 0, tok 0 3 7 2 0x300000 1024, servPkt (stepped (xst 3)) 0 (tok 0 3 7 2 0x300000 1024), servSt (stepped (xst 3)) 0 (tok 0 3 7 2 0x300000 1024), (cnt 0 (stepped (xst 3)) (tok 0 3 7 2 0x300000 1024)).2.2.2, xst 3, 0, (cnt 0 (stepped (xst 3)) (tok 0 3 7 2 0x300000 1024)).1, (cnt 0 (stepped (xst 3)) (tok 0 3 7 2 0x300000 1024)).2.2.1, ⟨taken_of (by decide +kernel), by decide +kernel⟩, by decide +kernel, by decide +kernel, by decide +kernel, by decide +kernel, by decide +kernel, by decide +kernel, cnt_of rfl (by decide +kernel)⟩,
  ⟨tabled, 0, tok 0 3 7 2 0x300000 1024, servPkt tabled 0 (tok 0 3 7 2 0x300000 1024), servSt tabled 0 (tok 0 3 7 2 0x300000 1024), ⟨taken_of (by decide +kernel), by decide +kernel⟩, by decide +kernel⟩,
  ⟨{ tabled with slices := tabled.slices.set 1 .draining }, 0, tok 0 3 7 2 0x300000 1024, servPkt { tabled with slices := tabled.slices.set 1 .draining } 0 (tok 0 3 7 2 0x300000 1024), servSt { tabled with slices := tabled.slices.set 1 .draining } 0 (tok 0 3 7 2 0x300000 1024), ⟨taken_of (by decide +kernel), by decide +kernel⟩, by decide +kernel⟩⟩

/-- The hypotheses of `Obligations.GateWeightsChooseTheRanks`, at clauses 1, 2. -/
theorem witness_GateWeightsChooseTheRanks :
  (∃ (s : State) (t : Fin 64) (cseq : W32) (token : BitVec 24) (c : Comb) (x : XStep), findComb s (t.val) cseq token.toNat = some c ∧ coreOn s = true ∧
    Whole s ∧ s.wiping = false ∧ c.known = false ∧ s.flaws = [] ∧ c.gwptr + gateLen c ≤ storeEnd ∧ c.complete = false ∧ Clean s c.gwptr (gateLen c) ∧
    (∀ (e : Nat), e ∈ c.experts → Clean s (xList s t.val + 4 * e) 4) ∧ findStep s (t.val) cseq = some x) ∧
  (∃ (s : State) (t : Fin 64) (cseq : W32) (token : BitVec 24) (c : Comb), findComb s (t.val) cseq token.toNat = some c ∧ coreOn s = true ∧ Whole s ∧
    s.wiping = false ∧ c.known = false ∧ s.flaws = [] ∧ (storeEnd < c.gwptr + gateLen c ∨ ∃ g, g ∈ granules c.gwptr (gateLen c) ∧
    s.poison.contains g = true)) :=
  ⟨⟨combing comb7, 5, 3, 7, comb7, xst 3, by decide +kernel⟩,
  ⟨combing past, 5, 3, 7, past, by decide +kernel⟩⟩

/-- The hypotheses of `Obligations.SealsCloseTheSources`, at clauses 1, 2, 3, 4, 5, 6. -/
theorem witness_SealsCloseTheSources :
  (∃ (s : State) (n : Fin 64) (p : Packet) (q : Packet) (t : State) (t' : State) (x : XStep) (m : MsgCtx) (first : Bool), TakenDispatch s false true n p q t ∧
    row6 t q = true ∧ findStep t (xTable q) (xStepNo t (xTable q) q) = some x ∧ msgArrive Blk.csq (n.val) q t = (MsgRes.counted m first true, t')) ∧
  (∃ (s : State) (n : Fin 64) (p : Packet) (q : Packet) (t : State) (t' : State) (x : XStep) (m : MsgCtx) (first : Bool), TakenDispatch s true true n p q t ∧
    isEndpoint t n.val = false ∧ row6 t q = true ∧ findStep t (xTable q) (xStepNo t (xTable q) q) = some x ∧
    msgArrive Blk.csq (n.val) q t = (MsgRes.counted m first true, t')) ∧
  (∃ (s : State) (n : Fin 64) (p : Packet) (q : Packet) (t : State) (t' : State) (x : XStep) (m : MsgCtx) (first : Bool), TakenDispatch s true false n p q t ∧
    isEndpoint t n.val = false ∧ row6 t q = true ∧ findStep t (xTable q) (xStepNo t (xTable q) q) = some x ∧
    msgArrive Blk.csq (n.val) q t = (MsgRes.counted m first true, t')) ∧
  (∃ (s : State) (n : Fin 64) (p : Packet) (q : Packet) (t : State) (t' : State) (x : XStep) (m : MsgCtx) (first : Bool), TakenDispatch s true false n p q t ∧
    isEndpoint t n.val = false ∧ row6 t q = true ∧ findStep t (xTable q) (xStepNo t (xTable q) q) = some x ∧
    msgArrive Blk.csq (n.val) q t = (MsgRes.counted m first false, t')) ∧
  (∃ (s : State) (x : XStep) (b : Fin 64) (cseq : W32), findStep s (b.val) cseq = some x ∧ coreOn s = true ∧ Whole s ∧ s.wiping = false ∧
    ListClean s b.val ∧ isSource s b.val = true ∧ x.sealsSent = false ∧
    (∀ (k : Nat), k < 64 → (xPorts s b.val).testBit k = true → tabGet x.sealed k = some (tabOr x.tokens k 0)) ∧
    (∀ (c : Comb), c ∈ s.combs → c.table = b.val → c.cseq = cseq → c.known = true) ∧ isBatch s b.val = true ∧ x.closed = false) ∧
  (∃ (s : State) (x : XStep) (b : Fin 64) (cseq : W32), findStep s (b.val) cseq = some x ∧ Whole s ∧ x.sealsSent = true) :=
  ⟨⟨stepped (xst 3), 0, sseal 0 3 4, servPkt (stepped (xst 3)) 0 (sseal 0 3 4), servSt (stepped (xst 3)) 0 (sseal 0 3 4), (cnt 0 (stepped (xst 3)) (sseal 0 3 4)).2.2.2, xst 3, (cnt 0 (stepped (xst 3)) (sseal 0 3 4)).1, (cnt 0 (stepped (xst 3)) (sseal 0 3 4)).2.1, ⟨taken_of (by decide +kernel), by decide +kernel⟩, by decide +kernel, by decide +kernel, cnt_of rfl (by decide +kernel)⟩,
  ⟨stepped (xst 3), 2, wseal 3 4, servPkt (stepped (xst 3)) 2 (wseal 3 4), servSt (stepped (xst 3)) 2 (wseal 3 4), (cnt 2 (stepped (xst 3)) (wseal 3 4)).2.2.2, xst 3, (cnt 2 (stepped (xst 3)) (wseal 3 4)).1, (cnt 2 (stepped (xst 3)) (wseal 3 4)).2.1, ⟨taken_of (by decide +kernel), by decide +kernel⟩, by decide +kernel, by decide +kernel, by decide +kernel, cnt_of rfl (by decide +kernel)⟩,
  ⟨stepped (xst 3), 2, wcopy 3 7, servPkt (stepped (xst 3)) 2 (wcopy 3 7), servSt (stepped (xst 3)) 2 (wcopy 3 7), (cnt 2 (stepped (xst 3)) (wcopy 3 7)).2.2.2, xst 3, (cnt 2 (stepped (xst 3)) (wcopy 3 7)).1, (cnt 2 (stepped (xst 3)) (wcopy 3 7)).2.1, ⟨taken_of (by decide +kernel), by decide +kernel⟩, by decide +kernel, by decide +kernel, by decide +kernel, cnt_of rfl (by decide +kernel)⟩,
  ⟨bigTab, 2, wpart, servPkt bigTab 2 wpart, servSt bigTab 2 wpart, (cnt 2 bigTab wpart).2.2.2, xst 3, (cnt 2 bigTab wpart).1, (cnt 2 bigTab wpart).2.1, ⟨taken_of (by decide +kernel), by decide +kernel⟩, by decide +kernel, by decide +kernel, by decide +kernel, cnt_of rfl (by decide +kernel)⟩,
  ⟨stepped xready, xready, 5, 3, by decide +kernel⟩,
  ⟨stepped { xready with sealsSent := true }, { xready with sealsSent := true }, 5, 3, by decide +kernel⟩⟩

/-- The hypotheses of `Obligations.BatchesFillAndClose`, at clauses 1, 2, 3, 4, 5. -/
theorem witness_BatchesFillAndClose :
  (∃ (s : State) (t : Fin 64) (cseq : W32) (e : Nat) (i : Nat) (k : Nat) (x : XStep) (b : Batch), findStep s (t.val) cseq = some x ∧ coreOn s = true ∧
    Whole s ∧ s.wiping = false ∧ s.flaws = [] ∧ Clean s (xList s t.val + 4 * e) 4 ∧ findBatch x e = some b ∧ b.given = false ∧ b.failed = false ∧
    b.rows = [] ∧ poolFor true (xBatchSize s t.val) = some k ∧ freeIndex s k 0 = some i ∧ b.waiting.length ≤ xCap s t.val) ∧
  (∃ (s : State) (t : Fin 64) (cseq : W32) (e : Nat) (x : XStep) (b : Batch), findStep s (t.val) cseq = some x ∧ coreOn s = true ∧ Whole s ∧
    s.wiping = false ∧ s.flaws = [] ∧ Clean s (xList s t.val + 4 * e) 4 ∧ findBatch x e = some b ∧ b.given = false ∧
    freeIndex s ((poolFor true (xBatchSize s t.val)).getD 7) 0 = none) ∧
  (∃ (s : State) (t : Fin 64) (cseq : W32) (e : Nat) (x : XStep), findStep s (t.val) cseq = some x ∧ coreOn s = true ∧ Whole s ∧ s.wiping = false ∧
    s.flaws = [] ∧ Clean s (xList s t.val + 4 * e) 4 ∧ closable s x = true ∧ ListClean s t.val ∧ isSource s t.val = true ∧ (∃ c, c ∈ s.combs ∧
    c.table = t.val ∧ c.cseq = cseq)) ∧
  (∃ (s : State) (t : Fin 64) (cseq : W32) (e : Nat) (x : XStep), findStep s (t.val) cseq = some x ∧ coreOn s = true ∧ Whole s ∧ s.wiping = false ∧
    s.flaws = [] ∧ Clean s (xList s t.val + 4 * e) 4 ∧ closable s x = true ∧ ListClean s t.val ∧ isSource s t.val = false) ∧
  (∃ (s : State) (t : Fin 64) (cseq : W32) (e : Nat) (x : XStep), findStep s (t.val) cseq = some x ∧ coreOn s = true ∧ Whole s ∧ s.wiping = false ∧
    s.flaws = [] ∧ Clean s (xList s t.val + 4 * e) 4 ∧ closable s x = false) :=
  ⟨⟨stepped xb, 5, 3, 0, 0, 4, xb, bt, by decide +kernel⟩,
  ⟨{ stepped xb with bpm := { (stepped xb).bpm with inForce := [] } }, 5, 3, 0, xb, bt, by decide +kernel⟩,
  ⟨{ stepped xc with combs := [comb7] }, 5, 3, 0, xc, by decide +kernel⟩,
  ⟨withRegs [(xBase 5 + 0x20, 0),(xBase 5 + 4, 16 + 1 * 2 ^ 17)] (stepped xc), 5, 3, 0, xc, by decide +kernel⟩,
  ⟨stepped xb, 5, 3, 0, xb, by decide +kernel⟩⟩

/-- The hypotheses of `Obligations.OutputsResolveTheirRanks`, at clauses 1, 2, 3, 4. -/
theorem witness_OutputsResolveTheirRanks :
  (∃ (s : State) (n : Fin 64) (p : Packet) (q : Packet) (t : State) (t' : State) (c : Comb) (m : MsgCtx) (first : Bool) (complete : Bool), ListClean s (xTable q) ∧
    Taken s n p q t ∧ q.typ = tExpertOut ∧ q.ssvc = false ∧ outCheck t q = OutCheck.ok c ∧
    msgArrive Blk.csq (n.val) q t = (MsgRes.counted m first complete, t') ∧
    Clean s (xComb t (xTable q) + (c.ctx * xKmax t (xTable q) + xK q) * xOS t (xTable q) + xOff q * fmtSize (xOfmt t (xTable q))) (List.take ((xElems t (xTable q) - xOff q) * fmtSize (xOfmt t (xTable q))) q.data).length) ∧
  (∃ (s : State) (n : Fin 64) (p : Packet) (q : Packet) (t : State) (t' : State) (c : Comb) (m : MsgCtx) (first : Bool) (complete : Bool), ListClean s (xTable q) ∧
    Taken s n p q t ∧ q.typ = tExpertOut ∧ q.ssvc = true ∧ outCheck t q = OutCheck.ok c ∧
    msgArrive Blk.csq (n.val) q t = (MsgRes.counted m first complete, t')) ∧
  (∃ (s : State) (n : Fin 64) (p : Packet) (q : Packet) (t : State) (cmd : Instr), ListClean s (xTable q) ∧
    cmd ∈ [Instr.expertOutput n p, Instr.overcapNotice n p] ∧ Taken s n p q t ∧ q.typ = tExpertOut ∧ (q.ssvc = true ↔ cmd = Instr.overcapNotice n p) ∧
    outCheck t q = OutCheck.discard) ∧
  (∃ (s : State) (n : Fin 64) (p : Packet) (q : Packet) (t : State) (cmd : Instr) (f : Nat), ListClean s (xTable q) ∧
    cmd ∈ [Instr.expertOutput n p, Instr.overcapNotice n p] ∧ Taken s n p q t ∧ q.typ = tExpertOut ∧ (q.ssvc = true ↔ cmd = Instr.overcapNotice n p) ∧
    outCheck t q = OutCheck.fault f) :=
  ⟨⟨combing combK, 2, outp 0 1 7 1 1 0 row16, servPkt (combing combK) 2 (outp 0 1 7 1 1 0 row16), servSt (combing combK) 2 (outp 0 1 7 1 1 0 row16), (cnt 2 (combing combK) (outp 0 1 7 1 1 0 row16)).2.2.2, combK, (cnt 2 (combing combK) (outp 0 1 7 1 1 0 row16)).1, (cnt 2 (combing combK) (outp 0 1 7 1 1 0 row16)).2.1, (cnt 2 (combing combK) (outp 0 1 7 1 1 0 row16)).2.2.1, by decide +kernel, taken_of (by decide +kernel), by decide +kernel, by decide +kernel, by decide +kernel, cnt_of rfl (by decide +kernel), by decide +kernel⟩,
  ⟨combing combK, 2, outp 1 1 7 1 1 0 [], servPkt (combing combK) 2 (outp 1 1 7 1 1 0 []), servSt (combing combK) 2 (outp 1 1 7 1 1 0 []), (cnt 2 (combing combK) (outp 1 1 7 1 1 0 [])).2.2.2, combK, (cnt 2 (combing combK) (outp 1 1 7 1 1 0 [])).1, (cnt 2 (combing combK) (outp 1 1 7 1 1 0 [])).2.1, (cnt 2 (combing combK) (outp 1 1 7 1 1 0 [])).2.2.1, by decide +kernel, taken_of (by decide +kernel), by decide +kernel, by decide +kernel, by decide +kernel, cnt_of rfl (by decide +kernel)⟩,
  ⟨combing combK, 2, outp 1 1 8 1 1 0 [], servPkt (combing combK) 2 (outp 1 1 8 1 1 0 []), servSt (combing combK) 2 (outp 1 1 8 1 1 0 []), .overcapNotice 2 (outp 1 1 8 1 1 0 []), by decide +kernel, by decide +kernel, taken_of (by decide +kernel), by decide +kernel⟩,
  ⟨combing combK, 2, outp 1 1 7 0 1 0 [], servPkt (combing combK) 2 (outp 1 1 7 0 1 0 []), servSt (combing combK) 2 (outp 1 1 7 0 1 0 []), .overcapNotice 2 (outp 1 1 7 0 1 0 []), 30, by decide +kernel, by decide +kernel, taken_of (by decide +kernel), by decide +kernel⟩⟩

/-- The hypotheses of `Obligations.CombinesSendTheirResult`, at clauses 1, 2, 3, 4, 5.1, 5.2, 6, 7. -/
theorem witness_CombinesSendTheirResult :
  (∃ (s : State) (t : Fin 64) (cseq : W32) (token : BitVec 24) (c : Comb), coreOn s = true ∧ Whole s ∧ findComb s (t.val) cseq token.toNat = some c ∧
    c.known = true ∧ c.started = false ∧ (∀ (k : RankSt), k ∈ c.ranks → k ≠ RankSt.open)) ∧
  (∃ (s : State) (t : Fin 64) (cseq : W32) (token : BitVec 24) (c : Comb), coreOn s = true ∧ Whole s ∧ findComb s (t.val) cseq token.toNat = some c ∧
    (c.known = false ∨ RankSt.open ∈ c.ranks)) ∧
  (∃ (s : State) (t : Fin 64) (cseq : W32) (token : BitVec 24) (c : Comb) (r : Run) (outs : List (W32 × List Nat)) (v : State), coreOn s = true ∧
    Whole s ∧ findComb s (t.val) cseq token.toNat = some c ∧ s.wiping = false ∧ s.flaws = [] ∧
    List.find? (fun r => ofComb c r.origin) (s.engine (combEngine s (t.val) c.ctx)).runs = some r ∧
    readOutputs (combEngine s (t.val) c.ctx) c s = ([], outs, v) ∧ xElems s t.val * fmtSize (xFmt s t.val) ≤ 2048 ∧ 0 < xElems s t.val ∧
    windowRoom s (t.val % 4) = true) ∧
  (∃ (s : State) (t : Fin 64) (cseq : W32) (token : BitVec 24) (c : Comb) (r : Run) (outs : List (W32 × List Nat)) (v : State), coreOn s = true ∧
    Whole s ∧ findComb s (t.val) cseq token.toNat = some c ∧ s.wiping = false ∧ s.flaws = [] ∧
    List.find? (fun r => ofComb c r.origin) (s.engine (combEngine s (t.val) c.ctx)).runs = some r ∧
    readOutputs (combEngine s (t.val) c.ctx) c s = ([], outs, v) ∧ xElems s t.val * fmtSize (xFmt s t.val) ≤ 2048 ∧ 0 < xElems s t.val ∧
    windowRoom s (t.val % 4) = false) ∧
  (∃ (s : State), coreOn s = true ∧ Whole s) ∧
  (∃ (s : State), coreOn s = true ∧ Whole s) ∧
  (∃ (s : State) (t : Fin 64) (cseq : W32) (x : XStep), coreOn s = true ∧ Whole s ∧ findStep s (t.val) cseq = some x ∧ halted s = false) ∧
  (∃ (s : State) (t : Fin 64) (cseq : W32) (token : BitVec 24) (c : Comb), coreOn s = true ∧ Whole s ∧ findComb s (t.val) cseq token.toNat = some c ∧
    halted s = false) :=
  ⟨⟨combing combD, 5, 3, 7, combD, by decide +kernel⟩,
  ⟨combing combK, 5, 3, 7, combK, by decide +kernel⟩,
  ⟨combRun combD, 5, 3, 7, combD, crun, (readOutputs 16 combD (combRun combD)).2.1, (readOutputs 16 combD (combRun combD)).2.2, by decide +kernel⟩,
  ⟨{ combRun combD with bpm := { (combRun combD).bpm with inForce := (List.range 4).map (fun q => (0x7000000 + 4 * q, 0)) } }, 5, 3, 7, combD, crun, (readOutputs 16 combD ({ combRun combD with bpm := { (combRun combD).bpm with inForce := (List.range 4).map (fun q => (0x7000000 + 4 * q, 0)) } })).2.1, (readOutputs 16 combD ({ combRun combD with bpm := { (combRun combD).bpm with inForce := (List.range 4).map (fun q => (0x7000000 + 4 * q, 0)) } })).2.2, by decide +kernel⟩,
  ⟨sw, by decide +kernel⟩,
  ⟨sw, by decide +kernel⟩,
  ⟨stepped (xst 3), 5, 3, xst 3, by decide +kernel⟩,
  ⟨combing comb7, 5, 3, 7, comb7, by decide +kernel⟩⟩


end Sys2Proof.Tests.Experts
end

