-- ==== Sys2Proof/Tests/Fabric.lean ====
section
/-!
SUPPORT. Witnesses: states and operands that meet the hypotheses of each statement, clause by clause (a torus of three switches, the epoch, the stop wave).
-/

namespace Sys2Proof.Tests.Fabric

open Sys2Proof Sys2Proof.Machine Sys2Proof.Claims Sys2Proof.Tests

set_option Elab.async false

def trunkPort (d : Nat) : Port := { endPort with role := 2, dir := d }
def torus : State := ((withRegs [(0x2000004, 0x010103), (0x2001004, 1), (0x2001008, 2)] sw).setPort 2 (trunkPort 0)).setPort 3 (trunkPort 1)
def ep (n : Nat) : Packet := (((mkPacket 0x31 0 0 false 0 0 1 [] [(288, 64, n)]).set 157 1 0)).seal
def mo6 (_ : Nat) : Packet := (((pkt 0 0x32 0 false 9 0 1 [] []).set 0 4 0)).seal
def stp : Packet := (((mkPacket 0x30 0 0 false 0 0 1 [] [(256, 32, 77), (288, 16, 5)]).set 157 1 0)).seal
def ls (typ : Nat) (p : Packet) (s : State) : State := (linkLocalIn 0 typ p s).2
def ing (s : State) (p : Packet) : Packet × Nat × State := match ingress 0 p s with | (.forward q h, t) => (q, h, t) | (.deliver q h, t) => (q, h, t) | (_, t) => (p, 0, t)
def numbered (s : State) : State := { withRegs [(0x48, 41)] s with rack := { s.rack with numbered := true, lastAt := 100 } }
def swT : State := sw.modPort 0 (fun q => { q with role := 2 })
def sHalt : State := withRegs [(0x58, 2^48), (0x94, 1), (0x30, 2)] sw
def spr (s : State) (p : Packet) : Option Nat × State := spreadChoose (quadOf 0) 0 (detourSet (ing s p).2.2 0 p.dst) (ing s p).2.2
def tor2 : State := withRegs [(0x2000000, 2)] torus
def mctx (typ : Nat) : MsgCtx := ⟨5, 6, typ, 3, 0, 0, [0], false, false, false, []⟩
def sMsg (typ : Nat) : State := { sw with msgs := [mctx typ], releases := [⟨5, 7, .awaitEnd, 7, 5, true, true, 0, 0⟩] }

/-- The hypotheses of `Obligations.EpochsAreCountedAndFollowed`, at clauses 1, 2, 3, 4, 5, 6, 7, 8. -/
theorem witness_EpochsAreCountedAndFollowed :
  (∃ (s : State), coreOn s = true ∧ s.rack.numbered = true) ∧
  (∃ (s : State) (at0 : Nat), held s = false ∧ epochRole s ≠ 0 ∧ s.rack.drivenAt = some at0) ∧
  (∃ (s : State), (held s = true ∨ epochRole s = 0)) ∧
  (∃ (s : State), coreOn s = true ∧ s.rack.numbered = false ∧ (epochRole s ≠ 1 ∨ ready s = false)) ∧
  (∃ (s : State) (n : Fin 64) (p : Packet) (t : State), linkLocalIn (n.val) 49 p s = (true, t) ∧ (t.port n.val).link ≠ LinkState.isolated ∧
    isEndpoint t n.val = false ∧ epochRole t ≠ 1 ∧ ready t = true ∧ t.rack.numbered = false) ∧
  (∃ (s : State) (n : Fin 64) (p : Packet) (t : State), linkLocalIn (n.val) 49 p s = (true, t) ∧ (t.port n.val).link ≠ LinkState.isolated ∧
    isEndpoint t n.val = false ∧ epochRole t ≠ 1 ∧ ready t = true ∧ t.rack.numbered = true ∧ t.reg 72 ≠ BitVec.ofNat 64 (p.at 36 64)) ∧
  (∃ (s : State) (n : Fin 64) (p : Packet) (t : State), linkLocalIn (n.val) 49 p s = (true, t) ∧ isEndpoint t n.val = true) ∧
  (∃ (s : State), coreOn s = true ∧ epochRole s = 2 ∧ epochState s ≠ 2) :=
  ⟨⟨numbered sw, by decide +kernel⟩,
  ⟨withRegs [(0x40, 1)] { sw with now := 1000, rack := { sw.rack with drivenAt := some 1000 } }, 1000, by decide +kernel⟩,
  ⟨State.reset, by decide +kernel⟩,
  ⟨sw, by decide +kernel⟩,
  ⟨withRegs [(0x40, 0)] swT, 0, ep 9, ls 0x31 (ep 9) (withRegs [(0x40, 0)] swT), by decide +kernel⟩,
  ⟨numbered (withRegs [(0x40, 0)] swT), 0, ep 9, ls 0x31 (ep 9) (numbered (withRegs [(0x40, 0)] swT)), by decide +kernel⟩,
  ⟨sw, 0, ep 9, ls 0x31 (ep 9) sw, by decide +kernel⟩,
  ⟨withRegs [(0x40, 2),(0x50,1)] sw, by decide +kernel⟩⟩

/-- The hypotheses of `Obligations.StopHaltsTheSwitch`, at clauses 1, 2. -/
theorem witness_StopHaltsTheSwitch :
  (∃ (s : State) (n : Fin 64) (p : Packet) (t : State), linkLocalIn (n.val) 48 p s = (true, t) ∧ (t.port n.val).link ≠ LinkState.isolated ∧
    halted t = false) ∧
  (∃ (s : State) (n : Fin 64) (p : Packet) (t : State), linkLocalIn (n.val) 48 p s = (true, t) ∧ (t.port n.val).link ≠ LinkState.isolated ∧
    halted t = true) :=
  ⟨⟨sw, 0, stp, ls 0x30 stp sw, by decide +kernel⟩,
  ⟨sHalt, 0, stp, ls 0x30 stp sHalt, by decide +kernel⟩⟩

/-- The hypotheses of `Obligations.PacketsGoToTheirEgress`, at clauses 1, 2, 3, 4, 5. -/
theorem witness_PacketsGoToTheirEgress :
  (∃ (s : State) (n : Fin 64) (p : Packet) (q : Packet) (t : State) (hop : Nat) (axis : Nat) (m : Nat) (t' : State), Whole s ∧
    canArrive s (n.val) p = true ∧ ingress (n.val) p s = (Ing.forward q hop, t) ∧ routeAxis t q.dst = some axis ∧ (q.cv && q.colour == 1) = false ∧
    spreadChoose (quadOf n.val) axis (detourSet t axis q.dst) t = (some m, t') ∧ halted t = false ∧ (t.port m).fabver ≠ 0) ∧
  (∃ (s : State) (n : Fin 64) (p : Packet) (q : Packet) (t : State) (hop : Nat) (axis : Nat), Whole s ∧ canArrive s (n.val) p = true ∧
    ingress (n.val) p s = (Ing.forward q hop, t) ∧ routeAxis t q.dst = some axis ∧ (q.cv && q.colour == 1) = false ∧ detourSet t axis q.dst = []) ∧
  (∃ (s : State) (n : Fin 64) (p : Packet) (q : Packet) (t : State) (hop : Nat), canArrive s (n.val) p = true ∧
    ingress (n.val) p s = (Ing.deliver q hop, t) ∧ (q.cv && q.colour == 1) = false ∧ endpointOpen t (cwP q.dst)) ∧
  (∃ (s : State) (n : Fin 64) (p : Packet) (q : Packet) (t : State) (hop : Nat), canArrive s (n.val) p = true ∧
    ingress (n.val) p s = (Ing.deliver q hop, t) ∧ (t.port (cwP q.dst)).link ≠ LinkState.up ∧ (t.port (cwP q.dst)).link ≠ LinkState.retrain) ∧
  (∃ (s : State) (n : Fin 64) (p : Packet) (t : State) (c : Instr), c ∈ [Instr.packetForward n p, Instr.endpointDelivery n p, Instr.storeWrite n p, Instr.storeRead n p, Instr.gather n p, Instr.gatherSum n p, Instr.milestoneAdd n p, Instr.milestoneSet n p, Instr.milestoneWait n p, Instr.poolAlloc n p, Instr.poolShare n p, Instr.poolDrop n p, Instr.poolFree n p, Instr.contributeMember n p, Instr.stepUp n p, Instr.stepDown n p, Instr.stepDone n p, Instr.stepFin n p, Instr.stepAbort n p, Instr.tokenDispatch n p, Instr.sourceSeal n p, Instr.switchCopy n p, Instr.switchSeal n p, Instr.expertOutput n p, Instr.overcapNotice n p] ∧
    canArrive s (n.val) p = true ∧ ingress (n.val) p s = (Ing.gone, t)) :=
  ⟨⟨tor2, 0, pkt 0 0x02 1 false 9 0 1 [] [], (ing tor2 (pkt 0 0x02 1 false 9 0 1 [] [])).1, (ing tor2 (pkt 0 0x02 1 false 9 0 1 [] [])).2.2, (ing tor2 (pkt 0 0x02 1 false 9 0 1 [] [])).2.1, 0, (spr tor2 (pkt 0 0x02 1 false 9 0 1 [] [])).1.getD 0, (spr tor2 (pkt 0 0x02 1 false 9 0 1 [] [])).2, by decide +kernel⟩,
  ⟨torus.modPort 2 (fun q => { q with link := .detect }), 0, pkt 0 0x02 1 false 9 0 1 [] [], (ing (torus.modPort 2 (fun q => { q with link := .detect })) (pkt 0 0x02 1 false 9 0 1 [] [])).1, (ing (torus.modPort 2 (fun q => { q with link := .detect })) (pkt 0 0x02 1 false 9 0 1 [] [])).2.2, (ing (torus.modPort 2 (fun q => { q with link := .detect })) (pkt 0 0x02 1 false 9 0 1 [] [])).2.1, 0, by decide +kernel⟩,
  ⟨torus, 0, pkt 0 0x02 (cw 1) false 9 0 1 [] [], (ing torus (pkt 0 0x02 (cw 1) false 9 0 1 [] [])).1, (ing torus (pkt 0 0x02 (cw 1) false 9 0 1 [] [])).2.2, (ing torus (pkt 0 0x02 (cw 1) false 9 0 1 [] [])).2.1, by decide +kernel⟩,
  ⟨sw.modPort 1 (fun q => { q with link := .detect }), 0, pkt 0 0x02 (cw 1) false 9 0 1 [] [], (ing (sw.modPort 1 (fun q => { q with link := .detect })) (pkt 0 0x02 (cw 1) false 9 0 1 [] [])).1, (ing (sw.modPort 1 (fun q => { q with link := .detect })) (pkt 0 0x02 (cw 1) false 9 0 1 [] [])).2.2, (ing (sw.modPort 1 (fun q => { q with link := .detect })) (pkt 0 0x02 (cw 1) false 9 0 1 [] [])).2.1, by decide +kernel⟩,
  ⟨sw, 0, (pkt 0 0x02 1 false 9 0 1 [] []).set 24 8 5, (ing sw ((pkt 0 0x02 1 false 9 0 1 [] []).set 24 8 5)).2.2, .stepUp 0 ((pkt 0 0x02 1 false 9 0 1 [] []).set 24 8 5), by decide +kernel⟩⟩

/-- The hypotheses of `Obligations.HeaderChecksDecideInOrder`, at clauses 1, 2.1, 2.2, 2.3, 2.4, 2.5, 2.6, 2.7, 2.8. -/
theorem witness_HeaderChecksDecideInOrder :
  (∃ (s : State) (n : Fin 64) (p : Packet) (src : Nat) (f : Option Nat), Whole s ∧ firstFail (takeIn (n.val) p s).snd (n.val) p = some (src, f)) ∧
  (∃ (p : Packet), ¬p.hcrc = p.hcrcOf) ∧
  (∃ (s : State) (p : Packet), p.hcrc = p.hcrcOf ∧ ¬halted s = false) ∧
  (∃ (s : State) (n : Nat) (p : Packet), p.hcrc = p.hcrcOf ∧ halted s = false ∧ ¬(isEndpoint s n = true → (s.regN 48).testBit 0 = true)) ∧
  (∃ (s : State) (n : Nat) (p : Packet), p.hcrc = p.hcrcOf ∧ halted s = false ∧ (isEndpoint s n = true → (s.regN 48).testBit 0 = true) ∧
    ¬check3 p (s.port n).fabver = true) ∧
  (∃ (s : State) (n : Nat) (p : Packet), p.hcrc = p.hcrcOf ∧ halted s = false ∧ (isEndpoint s n = true → (s.regN 48).testBit 0 = true) ∧
    check3 p (s.port n).fabver = true ∧ ¬((s.port n).fabver = 0 → plainStore p = true)) ∧
  (∃ (s : State) (n : Nat) (p : Packet), p.hcrc = p.hcrcOf ∧ halted s = false ∧ (isEndpoint s n = true → (s.regN 48).testBit 0 = true) ∧
    check3 p (s.port n).fabver = true ∧ ((s.port n).fabver = 0 → plainStore p = true) ∧ 64 ≤ p.hops) ∧
  (∃ (s : State) (n : Nat) (p : Packet), p.hcrc = p.hcrcOf ∧ halted s = false ∧ (isEndpoint s n = true → (s.regN 48).testBit 0 = true) ∧
    check3 p (s.port n).fabver = true ∧ ((s.port n).fabver = 0 → plainStore p = true) ∧ p.hops < 64 ∧ ¬(cwX p.dst < dimAxis s 0 ∧ cwY p.dst < dimAxis s 1 ∧
    cwZ p.dst < dimAxis s 2 ∧ cwW p.dst = 0)) ∧
  (∃ (s : State) (n : Nat) (p : Packet), p.hcrc = p.hcrcOf ∧ halted s = false ∧ (isEndpoint s n = true → (s.regN 48).testBit 0 = true) ∧
    check3 p (s.port n).fabver = true ∧ ((s.port n).fabver = 0 → plainStore p = true) ∧ p.hops < 64 ∧ cwX p.dst < dimAxis s 0 ∧ cwY p.dst < dimAxis s 1 ∧
    cwZ p.dst < dimAxis s 2 ∧ cwW p.dst = 0) :=
  ⟨⟨sw, 0, pkt 0 0x02 1 false 9 0 1 [] [], ((firstFail (takeIn 0 (pkt 0 0x02 1 false 9 0 1 [] []) sw).2 0 (pkt 0 0x02 1 false 9 0 1 [] [])).getD (0,none)).1, ((firstFail (takeIn 0 (pkt 0 0x02 1 false 9 0 1 [] []) sw).2 0 (pkt 0 0x02 1 false 9 0 1 [] [])).getD (0,none)).2, by decide +kernel⟩,
  ⟨(pkt 0 0x02 0 false 9 0 1 [] []).set 96 8 7, by decide +kernel⟩,
  ⟨sHalt, pkt 0 0x02 0 false 9 0 1 [] [], by decide +kernel⟩,
  ⟨withRegs [(0x30,2)] sw, 0, pkt 0 0x02 0 false 9 0 1 [] [], by decide +kernel⟩,
  ⟨sw, 0, ((pkt 0 0x02 0 false 9 0 1 [] []).set 0 4 5).seal, by decide +kernel⟩,
  ⟨sw.modPort 0 (fun q => { q with fabver := 0 }), 0, mo6 0, by decide +kernel⟩,
  ⟨sw, 0, ((pkt 0 0x02 0 false 9 0 1 [] []).set 24 8 64).seal, by decide +kernel⟩,
  ⟨sw, 0, pkt 0 0x02 1 false 9 0 1 [] [], by decide +kernel⟩,
  ⟨sw, 0, pkt 0 0x02 0 false 9 0 1 [] [], by decide +kernel⟩⟩

/-- The hypotheses of `Obligations.GateCyclesAndMessageTimeouts`, at clauses 1, 2, 3. -/
theorem witness_GateCyclesAndMessageTimeouts :
  (∃ (s : State), coreOn s = true) ∧
  (∃ (s : State) (src : W32) (msgId : W32) (c : MsgCtx), coreOn s = true ∧ halted s = false ∧ findMsg s src msgId = some c ∧
    [1, 4, 5].contains c.typ = true) ∧
  (∃ (s : State), coreOn s = true ∧ halted s = true) :=
  ⟨⟨sMsg 1, by decide +kernel⟩,
  ⟨sMsg 1, 5, 6, mctx 1, by decide +kernel⟩,
  ⟨{ sMsg 1 with csr := sHalt.csr }, by decide +kernel⟩⟩


end Sys2Proof.Tests.Fabric
end

