-- ==== Sys2Proof/Tests/Flash.lean ====
section
/-!
SUPPORT. Witnesses: states and operands that meet the hypotheses of each statement, clause by clause (SAP requests, the flash, registers and pins).
-/

namespace Sys2Proof.Tests.Flash

open Sys2Proof Sys2Proof.Machine Sys2Proof.Claims Sys2Proof.Tests

set_option Elab.async false

def lc (n : Nat) (s : State) : State := { s with fuses := { s.fuses with lcState := n, prog := 3, hashes := [[1], [2], [], []] } }
def req (k : Nat) (buf : List Byte) (s : State) : State := withRegs [(0x104, 4)] { s with boot := { s.boot with sapReq := some (k, buf) } }
def setBuf (what idx v : Nat) : List Byte := leBytes 4 what ++ leBytes 4 idx ++ leBytes 4 v
def flashed : State := withRegs [(0xA000008, 0x10010), (0xA00000C, 4), (0xA001000, 0x44332211)] { sw with flash := cellWrite 0xFF [] 0x1FFFE [1, 2, 3, 4], flashSize := 0x1000000 }
def busyNvm (op a len : Nat) (d : List Byte) : State := { flashed with boot := { flashed.boot with nvmOp := some (op, a, len, d) } }
def rowOf (a w : Nat) : RegRow := match accessKind a w with | .performed r => r | _ => ⟨0, 0, 0, 0, 0, 0, 0⟩
def holdB : State := { sw with busHeld := [.write 0x301008 0 false] }
def cut : State := { sw with fuses := { sw.fuses with grade := 2 } }
def st1 : Straps := { x := 5, y := 6, z := 3, discMode := true, nvmQspi := true }
def lat : State := withRegs [(0x200018, 1)] sw

/-- The hypotheses of `Obligations.SapRequestsChangeTheFuses`, at clauses 1.1, 1.2, 1.3, 1.4, 1.5, 1.6, 1.7, 2, 3, 4, 10. -/
theorem witness_SapRequestsChangeTheFuses :
  (∃ (s : State), held s = false ∧ s.boot.sapReq = none) ∧
  (∃ (s : State), held s = false ∧ s.boot.sapReq = none) ∧
  (∃ (s : State), held s = false ∧ s.boot.sapReq = none) ∧
  (∃ (s : State), held s = false ∧ s.boot.sapReq = none) ∧
  (∃ (s : State), held s = false ∧ s.boot.sapReq = none) ∧
  (∃ (s : State), held s = false ∧ s.boot.sapReq = none) ∧
  (∃ (s : State), held s = false ∧ s.boot.sapReq = none) ∧
  (∃ (s : State), held s = false ∧ s.boot.sapReq ≠ none) ∧
  (∃ (s : State) (buf : List Byte) (k : Fin 7), held s = false ∧ s.boot.sapReq = some (k.val + 1, buf) ∧
    sapWhy (k.val + 1) buf { s with boot := { s.boot with sapReq := none } } ≠ 0) ∧
  (∃ (s : State) (buf : List Byte) (k : Fin 7), held s = false ∧ s.boot.sapReq = some (k.val + 1, buf) ∧
    sapWhy (k.val + 1) buf { s with boot := { s.boot with sapReq := none } } = 0 ∧ k = 0 ∧ latched s = false) ∧
  (∃ (s : State) (buf : List Byte) (k : Fin 7), held s = false ∧ s.boot.sapReq = some (k.val + 1, buf) ∧
    sapWhy (k.val + 1) buf { s with boot := { s.boot with sapReq := none } } = 0 ∧ k = 6) :=
  ⟨⟨withRegs [(0x2000, 0x11223344),(0x100104,5)] (lc 2 sw), by decide +kernel⟩,
  ⟨withRegs [(0x2000, 0x11223344),(0x100104,5)] (lc 2 sw), by decide +kernel⟩,
  ⟨withRegs [(0x2000, 0x11223344),(0x100104,5)] (lc 2 sw), by decide +kernel⟩,
  ⟨withRegs [(0x2000, 0x11223344),(0x100104,5)] (lc 2 sw), by decide +kernel⟩,
  ⟨withRegs [(0x2000, 0x11223344),(0x100104,5)] (lc 2 sw), by decide +kernel⟩,
  ⟨withRegs [(0x2000, 0x11223344),(0x100104,5)] (lc 2 sw), by decide +kernel⟩,
  ⟨withRegs [(0x2000, 0x11223344),(0x100104,5)] (lc 2 sw), by decide +kernel⟩,
  ⟨req 3 [] sw, by decide +kernel⟩,
  ⟨req 1 [] (lc 1 sw), [], 0, by decide +kernel⟩,
  ⟨req 1 (List.replicate 2000 5) (lc 0 sw), List.replicate 2000 5, 0, by decide +kernel⟩,
  ⟨req 7 (setBuf 3 0 1) (lc 2 sw), setBuf 3 0 1, 6, by decide +kernel⟩⟩

/-- The hypotheses of `Obligations.FlashSnapshotsAndCheckValues`, at clauses 1, 2, 3, 4, 5, 6, 7, 8, 9, 10, 11, 12, 13, 14, 15, 16, 17. -/
theorem witness_FlashSnapshotsAndCheckValues :
  (∃ (s : State) (op : Nat) (c : Instr), held s = false ∧ [Instr.nvmRead, Instr.nvmErase, Instr.nvmProgram][op]? = some c ∧ nvmReason op s = 0) ∧
  (∃ (s : State) (op : Nat) (c : Instr), held s = false ∧ [Instr.nvmRead, Instr.nvmErase, Instr.nvmProgram][op]? = some c ∧ nvmReason op s ≠ 0) ∧
  (∃ (s : State) (op : Nat) (a : Nat) (len : Nat) (data : List Byte), held s = false ∧ s.boot.nvmOp = some (op, a, len, data)) ∧
  (∃ (s : State) (a : Nat) (len : Nat) (data : List Byte), held s = false ∧ s.boot.nvmOp = some (0, a, len, data)) ∧
  (∃ (s : State) (a : Nat) (len : Nat) (data : List Byte), held s = false ∧ s.boot.nvmOp = some (1, a, len, data)) ∧
  (∃ (s : State) (a : Nat) (len : Nat) (data : List Byte), held s = false ∧ s.boot.nvmOp = some (2, a, len, data)) ∧
  (∃ (s : State), held s = false ∧ tabSorted s.csr = true ∧ s.ecbPend = [] ∧ s.rack.snapAt ≠ some s.now) ∧
  (∃ (s : State), held s = false ∧ s.rack.snapAt = some s.now ∧ s.field 3145744 1 1 = 0) ∧
  (∃ (s : State) (k : Nat), held s = false ∧ tabSorted s.csr = true ∧ k < 256) ∧
  (∃ (s : State) (t : Tab Nat) (old : Nat), held s = false ∧ tabSorted s.csr = true ∧ s.ecbPend = [(old, t)] ∧ old + 16 = s.now ∧
    ecbSteps s.csr s.evts = [] ∧ (∀ (x : Nat × Nat), x ∈ t → x.fst < 256) ∧ (List.map Prod.fst t).Nodup) ∧
  (∃ (s : State), held s = false ∧ s.ecbPend = [] ∧ ecbSteps s.csr s.evts ≠ []) ∧
  (∃ (s : State), held s = false) ∧
  (∃ (s : State), held s = false) ∧
  (∃ (s : State), held s = false) ∧
  (∃ (s : State), held s = false) ∧
  (∃ (s : State), held s = false) ∧
  (∃ (s : State), held s = false) :=
  ⟨⟨flashed, 0, .nvmRead, by decide +kernel⟩,
  ⟨busyNvm 0 0 4 [], 0, .nvmRead, by decide +kernel⟩,
  ⟨busyNvm 0 0 4 [], 0, 0, 4, [], by decide +kernel⟩,
  ⟨busyNvm 0 0x1FFFC 5 [], 0x1FFFC, 5, [], by decide +kernel⟩,
  ⟨busyNvm 1 0x1FFFE 5 [], 0x1FFFE, 5, [], by decide +kernel⟩,
  ⟨busyNvm 2 0x1FFFD 3 [9,255,8], 0x1FFFD, 3, [9,255,8], by decide +kernel⟩,
  ⟨withRegs [(0x302000, 5), (0x3027F8, 7), (0x303000, 3), (0x303808, 9), (0x48, 77)] sw, by decide +kernel⟩,
  ⟨{ (withRegs [(0x302000, 5), (0x3027F8, 7), (0x303000, 3), (0x303808, 9), (0x48, 77),(0x300010, 1)] sw) with now := 5, rack := { ((withRegs [(0x302000, 5), (0x3027F8, 7), (0x303000, 3), (0x303808, 9), (0x48, 77),(0x300010, 1)] sw)).rack with snapAt := some 5 } }, by decide +kernel⟩,
  ⟨{ withRegs [(0x301000 + 8 * 255, 0x3FC0440), (0x302000 + 8 * 255, 0xFFFFFFFFFFFFFFFF)] sw with evts := [⟨0x40, 3, some 2, some 1, none⟩, ⟨0x41, 9, none, none, none⟩, ⟨0x40, 5, some 6, none, none⟩] }, 255, by decide +kernel⟩,
  ⟨{ ({ withRegs [(0x301000 + 8 * 255, 0x3FC0440), (0x302000 + 8 * 255, 0xFFFFFFFFFFFFFFFF)] sw with evts := [⟨0x40, 3, some 2, some 1, none⟩, ⟨0x41, 9, none, none, none⟩, ⟨0x40, 5, some 6, none, none⟩] }) with ecbPend := [(984, [(0, 5), (255, 7)])], now := 1000, evts := [] }, [(0, 5), (255, 7)], 984, by decide +kernel⟩,
  ⟨{ ({ withRegs [(0x301000 + 8 * 255, 0x3FC0440), (0x302000 + 8 * 255, 0xFFFFFFFFFFFFFFFF)] sw with evts := [⟨0x40, 3, some 2, some 1, none⟩, ⟨0x41, 9, none, none, none⟩, ⟨0x40, 5, some 6, none, none⟩] }) with now := 5 }, by decide +kernel⟩,
  ⟨withRegs [(cvuBase 7, 0), (cvuBase 7 + 0x10, 0x1234)] sw, by decide +kernel⟩,
  ⟨withRegs [(cvuBase 7, 0), (cvuBase 7 + 0x10, 0x1234)] sw, by decide +kernel⟩,
  ⟨withRegs [(cvuBase 7, 0), (cvuBase 7 + 0x10, 0x1234)] sw, by decide +kernel⟩,
  ⟨withRegs [(cvuBase 7, 0), (cvuBase 7 + 0x10, 0x1234)] sw, by decide +kernel⟩,
  ⟨withRegs [(cvuBase 7, 0), (cvuBase 7 + 0x10, 0x1234)] sw, by decide +kernel⟩,
  ⟨withRegs [(cvuBase 7, 0), (cvuBase 7 + 0x10, 0x1234)] sw, by decide +kernel⟩⟩

/-- The hypotheses of `Obligations.RegisterWritesFollowTheMap`, at clauses 1, 2, 3, 4, 5, 6, 7. -/
theorem witness_RegisterWritesFollowTheMap :
  (∃ (s : State) (a : W32) (w : Nat), held s = false ∧ accessKind (BitVec.toNat a) w = AccessKind.absent) ∧
  (∃ (s : State) (a : W32) (w : Nat), held s = false ∧ accessKind (BitVec.toNat a) w = AccessKind.refused) ∧
  (∃ (s : State) (a : W32) (w : Nat) (r : RegRow), held s = false ∧ accessKind (BitVec.toNat a) w = AccessKind.performed r ∧
    mustHold s (BitVec.toNat a) true = true) ∧
  (∃ (s : State) (a : W32) (w : Nat), held s = false ∧ 1048576 ≤ BitVec.toNat a ∧ BitVec.toNat a < 2097152 ∧
    accessKind (BitVec.toNat a) w ≠ AccessKind.refused ∧ BusFree s (BitVec.toNat a)) ∧
  (∃ (s : State) (k : Fin 256), held s = false ∧ BusFree s (3149824 + 8 * k.val)) ∧
  (∃ (s : State) (b : Blk), held s = false ∧ blkAbsent s b = false ∧ BusFree s (blkFlt b)) ∧
  (∃ (s : State) (w : Nat) (e : Fin 64) (i : Nat), held s = false ∧ present s e.val = false ∧ i < 262144 ∧
    accessKind (jBase e.val + i) w ≠ AccessKind.refused ∧ BusFree s (jBase e.val + i)) :=
  ⟨⟨sw, 0xFFFFFFFC, 4, by decide +kernel⟩,
  ⟨sw, 0x1, 4, by decide +kernel⟩,
  ⟨holdB, 0x301000, 8, rowOf 0x301000 8, by decide +kernel⟩,
  ⟨sw, 0x100104, 4, by decide +kernel⟩,
  ⟨sw, 255, by decide +kernel⟩,
  ⟨withRegs [(blkFlt .glb, 0xFF)] sw, .glb, by decide +kernel⟩,
  ⟨cut, 4, 12, 0x1C, by decide +kernel⟩⟩

/-- The hypotheses of `Obligations.PinsHoldAndStartTheChip`, at clauses 2, 3.1, 3.2, 4.1, 4.2, 5, 6, 8, 9, 10, 11, 12, 13. -/
theorem witness_PinsHoldAndStartTheChip :
  (∃ (s : State), held s = true) ∧
  (∃ (s : State), latched s = false ∧ s.pins.railsOk = true) ∧
  (∃ (s : State), latched s = false ∧ s.pins.railsOk = true) ∧
  (∃ (s : State), latched s = true) ∧
  (∃ (s : State), latched s = true) ∧
  (∃ (s : State), latched s = false ∧ s.pins.railsOk = true ∧ s.pins.rstN = false ∧ s.pins.testEn = false) ∧
  (∃ (s : State), latched s = false ∧ s.pins.railsOk = true ∧ s.pins.rstN = true ∧ s.pins.testEn = true) ∧
  (∃ (s : State), s.pins.railsOk = false ∧ s.pins.rstN = true ∧ s.pins.testEn = false ∧ latched s = false) ∧
  (∃ (s : State), coreOn s = true) ∧
  (∃ (s : State), latched s = true) ∧
  (∃ (s : State), held s = false) ∧
  (∃ (s : State), held s = false) ∧
  (∃ (s : State), coreOn s = true) :=
  ⟨⟨State.reset, by decide +kernel⟩,
  ⟨sw, by decide +kernel⟩,
  ⟨sw, by decide +kernel⟩,
  ⟨lat, by decide +kernel⟩,
  ⟨lat, by decide +kernel⟩,
  ⟨{ sw with pins := { sw.pins with rstN := false } }, by decide +kernel⟩,
  ⟨{ sw with pins := { sw.pins with testEn := true, straps := st1 } }, by decide +kernel⟩,
  ⟨{ sw with pins := { sw.pins with railsOk := false } }, by decide +kernel⟩,
  ⟨sw, by decide +kernel⟩,
  ⟨lat, by decide +kernel⟩,
  ⟨sw, by decide +kernel⟩,
  ⟨sw, by decide +kernel⟩,
  ⟨sw, by decide +kernel⟩⟩


end Sys2Proof.Tests.Flash
end

