-- ==== Sys2Proof/Tests/HostPort.lean ====
section
/-!
SUPPORT. Witnesses: states and operands that meet the hypotheses of each statement, clause by clause (host ports, sessions and bulk transfers).
-/

namespace Sys2Proof.Tests.HostPort

open Sys2Proof Sys2Proof.Machine Sys2Proof.Claims Sys2Proof.Tests

set_option Elab.async false

def hk : List Byte := [1, 2, 3]
def hs0 (s : State) : State := { s with hep := { s.hep with hostKey := some hk, ports := s.hep.ports.map (fun p => { p with link := true }) } }
def hsw : State := hs0 (withRegs [(0x9000000, 0x53 + 1 * 2 ^ 8)] sw)
def sess (k : Nat) (st : SessState) (s : State) : State := { s with hep := { s.hep with sessions := s.hep.sessions.set k ⟨st, [7, 7], 5, [3]⟩ } }
def tagged (k : Nat) (s : State) : State := withRegs ((List.range 4).map (fun i => (0x9000150 + 8 * i, leNat (slice (Config.kmac256 hk (sessInput k s) strYmpOpen 32) (8 * i) 8)))) s
def ev (n : Nat) (snt tg : Bool) : Event := ⟨n, 1, 0, 0, 0, 5, 6, 7, snt, tg⟩
def dst0 : HostDest := ⟨0x112233445566, .ether, none⟩
def hPort (f : HostPort → HostPort) : State := { hsw with hep := { hsw.hep with ports := hsw.hep.ports.map f } }
def rec : State := withRegs [(0xA0, 7)] hsw
def fr (typ fl sess ctr : Nat) (pay : List Byte) : YmpFrame :=
  let b := [1, BitVec.ofNat 8 typ, BitVec.ofNat 8 fl, 0] ++ leBytes 4 77 ++ leBytes 1 sess ++ [0, 0, 0] ++ leBytes 4 ctr ++ leBytes 4 pay.length ++ [0, 0, 0, 0] ++ pay
  ⟨0x112233445566, 0xFFFFFFFFFFFF, .ether, none, if fl = 1 then b ++ List.replicate 16 0 else b, ⟨3, 1⟩⟩
def rw (typ addr cnt w : Nat) (data : List Byte) (fl : Nat := 0) : YmpFrame := fr typ fl 0 (if fl = 1 then 6 else 0) (leBytes 4 addr ++ leBytes 2 cnt ++ leBytes 1 w ++ [0] ++ data)
def act : State := sess 0 .active hsw
def heldM : State := { act with busHeld := [.write 0x24 0 false] }
def bk (typ xid chunk addr len : Nat) (data : List Byte) : YmpFrame := fr typ 1 0 6 (leBytes 4 xid ++ leBytes 4 chunk ++ leBytes 8 addr ++ leBytes 8 len ++ data)
def bctx (got : List Nat) : BulkCtx := ⟨0, 9, true, 0, dst0, 0, 0x100000, 3000 / 16 * 16, 2048, got⟩
def bs (l : List BulkCtx) : State := withRegs [(0x9000000, 0x53 + 1 * 2 ^ 8)] { act with hep := { act.hep with bulk := l } }

/-- The hypotheses of `Obligations.SessionsOpenConfirmAndClose`, at clauses 1.1, 1.2, 1.4, 2. -/
theorem witness_SessionsOpenConfirmAndClose :
  (∃ (s : State) (k : Fin 4) (auth : Bool), HostShape s ∧ held s = false ∧ ((s.session k.val).st ≠ SessState.active ∨ auth = true) ∧ bootState s ≠ 7 ∧
    latched s = false) ∧
  (∃ (s : State) (k : Fin 4) (auth : Bool), HostShape s ∧ held s = false ∧ ((s.session k.val).st ≠ SessState.active ∨ auth = true) ∧ bootState s ≠ 7 ∧
    latched s = false) ∧
  (∃ (s : State) (k : Fin 4) (auth : Bool) (key : List Byte), HostShape s ∧ held s = false ∧ ((s.session k.val).st ≠ SessState.active ∨ auth = true) ∧
    bootState s ≠ 7 ∧ latched s = false ∧ (s.hep.hostKey = none ∨ (s.session k.val).st ≠ SessState.pending ∨ s.hep.hostKey = some key ∧
    Config.kmac256 key (sessInput (k.val) s) strYmpOpen 32 ≠ regBytes s 150995280 32)) ∧
  (∃ (s : State) (k : Fin 4) (auth : Bool), HostShape s ∧ held s = false ∧ ((s.session k.val).st = SessState.active ∧
    auth = false ∨ bootState s = 7 ∨ latched s = true)) :=
  ⟨⟨hsw, 3, true, by decide +kernel⟩,
  ⟨hsw, 3, true, by decide +kernel⟩,
  ⟨hsw, 3, true, hk, by decide +kernel⟩,
  ⟨sess 2 .active hsw, 2, false, by decide +kernel⟩⟩

/-- The hypotheses of `Obligations.SessionsOpenConfirmAndClose`, clause 1.3, for functions of Config with the values assumed here. -/
theorem witness_SessionsOpenConfirmAndClose_1_3 (h : ∀ key b cst n, Config.kmac256 key b cst n = List.replicate n 0) :
  ∃ (s : State) (k : Fin 4) (auth : Bool) (key : List Byte), HostShape s ∧ held s = false ∧ ((s.session k.val).st ≠ SessState.active ∨ auth = true) ∧
    bootState s ≠ 7 ∧ latched s = false ∧ s.hep.hostKey = some key ∧ (s.session k.val).st = SessState.pending ∧
    Config.kmac256 key (sessInput (k.val) s) strYmpOpen 32 = regBytes s 150995280 32 :=
  ⟨sess 3 .pending hsw, 3, true, hk, by decide +kernel, by decide +kernel, by decide +kernel, by decide +kernel, by decide +kernel, by decide +kernel, by decide +kernel, by rw [h]; decide +kernel⟩

/-- The hypotheses of `Obligations.HostPortsAnswer`, at clauses 1, 2, 3, 4, 5, 6, 7, 8, 9, 10, 11, 12, 13, 14, 15, 16, 17, 18, 19. -/
theorem witness_HostPortsAnswer :
  (∃ (s : State), HostShape s ∧ held s = false ∧ bootState s = 7) ∧
  (∃ (s : State), HostShape s ∧ held s = false ∧ latched s = true) ∧
  (∃ (s : State) (n : Fin 2), HostShape s ∧ held s = false ∧ (s.host n.val).link = true) ∧
  (∃ (s : State), HostShape s ∧ held s = false ∧ bootState s ≠ 7) ∧
  (∃ (s : State) (n : Fin 2), HostShape s ∧ held s = false ∧ (s.host n.val).locked = false ∧ (s.host n.val).fixed = false) ∧
  (∃ (s : State) (n : Fin 2), HostShape s ∧ held s = false ∧ ((s.host n.val).locked = true ∨ (s.host n.val).fixed = true)) ∧
  (∃ (s : State), HostShape s ∧ held s = false) ∧
  (∃ (s : State), HostShape s ∧ held s = false) ∧
  (∃ (s : State) (n : Fin 2) (dest : BitVec 48) (target : BitVec 128), HostShape s ∧ held s = false ∧ (s.host n.val).link = true ∧
    macAccepts s (n.val) dest = true ∧ hostIp s (n.val) target = true) ∧
  (∃ (s : State) (n : Fin 2) (dest : BitVec 48) (target : BitVec 128) (data : List Byte), HostShape s ∧ held s = false ∧ (s.host n.val).link = true ∧
    macAccepts s (n.val) dest = true ∧ hostIp s (n.val) target = true ∧ data.length ≤ 9000) ∧
  (∃ (s : State) (n : Fin 2) (dest : BitVec 48) (target : BitVec 128), HostShape s ∧ held s = false ∧
    (hostIp s (n.val) target = false ∨ macAccepts s (n.val) dest = false)) ∧
  (∃ (s : State) (data : List Byte), HostShape s ∧ held s = false ∧ 9216 < data.length) ∧
  (∃ (s : State), HostShape s ∧ held s = false ∧ s.hep.att = none ∧ bootState s ≠ 7 ∧ latched s = false) ∧
  (∃ (s : State) (st : List Byte), HostShape s ∧ held s = false ∧ s.hep.att = some st) ∧
  (∃ (s : State) (p : Nat) (d : HostDest), HostShape s ∧ held s = false ∧ eventPort s = some p ∧ p < 2 ∧ eventDest s p = some d) ∧
  (∃ (s : State) (n : Fin 2) (dest : BitVec 48), HostShape s ∧ held s = false ∧ (s.host n.val).link = true ∧ macAccepts s (n.val) dest = true) ∧
  (∃ (s : State) (n : Fin 2), HostShape s ∧ held s = false ∧ (s.host n.val).link = true) ∧
  (∃ (s : State) (n : Fin 2) (dest : BitVec 48) (t1 : Nat) (t2 : Nat) (t3 : Nat), HostShape s ∧ held s = false ∧ (s.host n.val).link = true ∧
    macAccepts s (n.val) dest = true ∧ s.hep.ptpT1 = some (t1, t2) ∧ s.hep.ptpT3 = some t3) ∧
  (∃ (s : State) (n : Fin 2) (dest : BitVec 48), HostShape s ∧ held s = false ∧ ((s.host n.val).link = false ∨ macAccepts s (n.val) dest = false)) :=
  ⟨⟨rec, by decide +kernel⟩,
  ⟨withRegs [(0x200018, 1)] hsw, by decide +kernel⟩,
  ⟨hsw, 0, by decide +kernel⟩,
  ⟨hsw, by decide +kernel⟩,
  ⟨hsw, 0, by decide +kernel⟩,
  ⟨hPort (fun p => { p with fixed := true }), 1, by decide +kernel⟩,
  ⟨hsw, by decide +kernel⟩,
  ⟨hsw, by decide +kernel⟩,
  ⟨hsw, 0, 0xFFFFFFFFFFFF, linkLocalIp hsw 0, by decide +kernel⟩,
  ⟨hsw, 0, 0xFFFFFFFFFFFF, linkLocalIp hsw 0, [1,2], by decide +kernel⟩,
  ⟨hsw, 0, 0xFFFFFFFFFFFF, 0, by decide +kernel⟩,
  ⟨hsw, List.replicate 9217 0, by decide +kernel⟩,
  ⟨hsw, by decide +kernel⟩,
  ⟨{ hsw with hep := { hsw.hep with att := some [1,2,3] } }, [1,2,3], by decide +kernel⟩,
  ⟨{ (hPort (fun p => { p with lastReq := some dst0 })) with hep := { (hPort (fun p => { p with lastReq := some dst0 })).hep with events := [ev 1 true false, ev 2 false true, ev 3 true false] } }, 0, dst0, by decide +kernel⟩,
  ⟨hsw, 0, 0xFFFFFFFFFFFF, by decide +kernel⟩,
  ⟨hsw, 0, by decide +kernel⟩,
  ⟨{ hsw with hep := { hsw.hep with ptpT1 := some (1,2), ptpT3 := some 3 } }, 0, 0xFFFFFFFFFFFF, 1, 2, 3, by decide +kernel⟩,
  ⟨hsw, 0, 0x112233445566, by decide +kernel⟩⟩

/-- The hypotheses of `Obligations.ManagementMessagesAreAnswered`, at clauses 1, 2, 3, 4, 5, 6.1, 6.2, 6.3, 7, 8.1, 8.2, 8.3, 8.4, 8.5, 9, 10. -/
theorem witness_ManagementMessagesAreAnswered :
  (∃ (s : State) (h : Fin 2) (m : YmpFrame) (typ : Nat) (c : Instr), HostShape s ∧ ympCmd typ h m = some c ∧ held s = false ∧ (s.host h.val).link = true ∧
    carrierOn s (h.val) m = true ∧ ympDropped m = true) ∧
  (∃ (s : State) (h : Fin 2) (m : YmpFrame) (typ : Nat) (c : Instr), HostShape s ∧ ympCmd typ h m = some c ∧ Reaches s h m typ ∧ ympMalformed m = true) ∧
  (∃ (s : State) (h : Fin 2) (m : YmpFrame) (typ : Nat) (c : Instr), HostShape s ∧ ympCmd typ h m = some c ∧ Reaches s h m typ ∧ ympMalformed m = false ∧
    YmpFrame.auth m = true ∧ ympAuthentic s m = false) ∧
  (∃ (s : State) (h : Fin 2) (m : YmpFrame) (v : State) (t : State) (key : Option (List Byte)) (vs : List W64) (status : Nat), HostShape s ∧
    Accepted s h m 1 key v ∧ rwMalformed m = false ∧ ympReads (rwWidth m) (List.map (rwAt m) (List.range (rwCount m))) v = (vs, status, t) ∧
    ympWaiting v = false ∧ status ≠ yHeld) ∧
  (∃ (s : State) (h : Fin 2) (m : YmpFrame) (v : State) (t : State) (key : Option (List Byte)) (vs : List W64), HostShape s ∧ Accepted s h m 1 key v ∧
    rwMalformed m = false ∧ ympReads (rwWidth m) (List.map (rwAt m) (List.range (rwCount m))) v = (vs, yHeld, t) ∧ ympWaiting v = false) ∧
  (∃ (s : State) (w : Nat) (a : Nat), HostShape s ∧ (mustHold s a false = false ∨ latched s = true) ∧ busRead s a w = none) ∧
  (∃ (s : State) (w : Nat) (a : Nat), HostShape s ∧ (mustHold s a false = false ∨ latched s = true) ∧ busRead s a w ≠ none ∧ Whole s) ∧
  (∃ (s : State) (w : Nat) (a : Nat), HostShape s ∧ (mustHold s a false = false ∨ latched s = true) ∧ busRead s a w ≠ none ∧ (wordRead a s).fst = true) ∧
  (∃ (s : State) (h : Fin 2) (m : YmpFrame) (v : State) (t : State) (key : Option (List Byte)) (status : Nat) (done : Nat), HostShape s ∧
    Accepted s h m 3 key v ∧ rwMalformed m = false ∧ ympWaiting v = false ∧ status ≠ yHeld ∧
    ympWrites (rwWidth m) (YmpFrame.auth m) (List.map (fun i => (rwAt m i, BitVec.ofNat 64 (YmpFrame.n m (32 + i * rwWidth m) (rwWidth m)))) (List.range (rwCount m))) v = (status, done, t)) ∧
  (∃ (s : State), HostShape s ∧ latched s = true) ∧
  (∃ (s : State) (a : Nat), HostShape s ∧ latched s = false ∧ mustHold s a true = true) ∧
  (∃ (s : State) (auth : Bool) (a : Nat) (x : W64), HostShape s ∧ BusFree s a ∧ writeStatus s a (BitVec.toNat x) auth ≠ yOk) ∧
  (∃ (s : State) (w : Nat) (auth : Bool) (a : Nat) (x : W64), HostShape s ∧ BusFree s a ∧ writeStatus s a (BitVec.toNat x) auth = yOk ∧
    accessKind a w = AccessKind.refused) ∧
  (∃ (s : State) (w : Nat) (auth : Bool) (a : Nat) (x : W64), HostShape s ∧ BusFree s a ∧ writeStatus s a (BitVec.toNat x) auth = yOk ∧
    accessKind a w ≠ AccessKind.refused ∧ bootState s ≤ bootState (busWrite a w x auth s)) ∧
  (∃ (s : State) (h : Fin 2) (m : YmpFrame) (v : State) (key : Option (List Byte)), HostShape s ∧ Accepted s h m 6 key v ∧ YmpFrame.len m = 8 ∧
    (YmpFrame.auth m = true ∨ ∀ (e : Event), e ∈ s.hep.events → e.tagged = false)) ∧
  (∃ (s : State) (h : Fin 2) (m : YmpFrame), HostShape s ∧ Reaches s h m 6 ∧ ympMalformed m = false ∧ YmpFrame.len m = 8 ∧ YmpFrame.auth m = false ∧
    (∃ e, e ∈ s.hep.events ∧ e.eseq ≤ YmpFrame.n m 24 8 ∧ e.tagged = true)) :=
  ⟨⟨hsw, 0, { fr 7 0 0 0 [] with bytes := [1,7] }, 7, .bulkWr 0 { fr 7 0 0 0 [] with bytes := [1,7] }, by decide +kernel⟩,
  ⟨hsw, 1, fr 7 0 3 0 [1,2], 7, .bulkWr 1 (fr 7 0 3 0 [1,2]), by decide +kernel⟩,
  ⟨hsw, 1, fr 7 1 0 4 [1,2], 7, .bulkWr 1 (fr 7 1 0 4 [1,2]), by decide +kernel⟩,
  ⟨act, 0, rw 1 0 1 8 [], accepted act 0 (rw 1 0 1 8 []), (ympReads (rwWidth (rw 1 0 1 8 [])) ((List.range (rwCount (rw 1 0 1 8 []))).map (rwAt (rw 1 0 1 8 []))) (accepted act 0 (rw 1 0 1 8 []))).2.2, answerKey act (rw 1 0 1 8 []), (ympReads (rwWidth (rw 1 0 1 8 [])) ((List.range (rwCount (rw 1 0 1 8 []))).map (rwAt (rw 1 0 1 8 []))) (accepted act 0 (rw 1 0 1 8 []))).1, (ympReads (rwWidth (rw 1 0 1 8 [])) ((List.range (rwCount (rw 1 0 1 8 []))).map (rwAt (rw 1 0 1 8 []))) (accepted act 0 (rw 1 0 1 8 []))).2.1, by decide +kernel⟩,
  ⟨heldM, 0, rw 1 0x24 3 4 [], accepted heldM 0 (rw 1 0x24 3 4 []), (ympReads (rwWidth (rw 1 0x24 3 4 [])) ((List.range (rwCount (rw 1 0x24 3 4 []))).map (rwAt (rw 1 0x24 3 4 []))) (accepted heldM 0 (rw 1 0x24 3 4 []))).2.2, answerKey heldM (rw 1 0x24 3 4 []), (ympReads (rwWidth (rw 1 0x24 3 4 [])) ((List.range (rwCount (rw 1 0x24 3 4 []))).map (rwAt (rw 1 0x24 3 4 []))) (accepted heldM 0 (rw 1 0x24 3 4 []))).1, by decide +kernel⟩,
  ⟨act, 4, 0x301000, by decide +kernel⟩,
  ⟨act, 4, 0x24, by decide +kernel⟩,
  ⟨{ act with gpoison := [.word 0x3010070] }, 4, 0x3010070, by decide +kernel⟩,
  ⟨act, 0, rw 3 0x301000 2 8 (List.replicate 16 5), accepted act 0 (rw 3 0x301000 2 8 (List.replicate 16 5)), (ympWrites (rwWidth (rw 3 0x301000 2 8 (List.replicate 16 5))) (YmpFrame.auth (rw 3 0x301000 2 8 (List.replicate 16 5))) ((List.range (rwCount (rw 3 0x301000 2 8 (List.replicate 16 5)))).map (fun i => (rwAt (rw 3 0x301000 2 8 (List.replicate 16 5)) i, BitVec.ofNat 64 (YmpFrame.n (rw 3 0x301000 2 8 (List.replicate 16 5)) (32 + i * rwWidth (rw 3 0x301000 2 8 (List.replicate 16 5))) (rwWidth (rw 3 0x301000 2 8 (List.replicate 16 5))))))) (accepted act 0 (rw 3 0x301000 2 8 (List.replicate 16 5)))).2.2, answerKey act (rw 3 0x301000 2 8 (List.replicate 16 5)), (ympWrites (rwWidth (rw 3 0x301000 2 8 (List.replicate 16 5))) (YmpFrame.auth (rw 3 0x301000 2 8 (List.replicate 16 5))) ((List.range (rwCount (rw 3 0x301000 2 8 (List.replicate 16 5)))).map (fun i => (rwAt (rw 3 0x301000 2 8 (List.replicate 16 5)) i, BitVec.ofNat 64 (YmpFrame.n (rw 3 0x301000 2 8 (List.replicate 16 5)) (32 + i * rwWidth (rw 3 0x301000 2 8 (List.replicate 16 5))) (rwWidth (rw 3 0x301000 2 8 (List.replicate 16 5))))))) (accepted act 0 (rw 3 0x301000 2 8 (List.replicate 16 5)))).1, (ympWrites (rwWidth (rw 3 0x301000 2 8 (List.replicate 16 5))) (YmpFrame.auth (rw 3 0x301000 2 8 (List.replicate 16 5))) ((List.range (rwCount (rw 3 0x301000 2 8 (List.replicate 16 5)))).map (fun i => (rwAt (rw 3 0x301000 2 8 (List.replicate 16 5)) i, BitVec.ofNat 64 (YmpFrame.n (rw 3 0x301000 2 8 (List.replicate 16 5)) (32 + i * rwWidth (rw 3 0x301000 2 8 (List.replicate 16 5))) (rwWidth (rw 3 0x301000 2 8 (List.replicate 16 5))))))) (accepted act 0 (rw 3 0x301000 2 8 (List.replicate 16 5)))).2.1, by decide +kernel⟩,
  ⟨withRegs [(0x200018, 1)] heldM, by decide +kernel⟩,
  ⟨heldM, 0x28, by decide +kernel⟩,
  ⟨act, false, 0x100104, 5, by decide +kernel⟩,
  ⟨act, 4, true, 0x301000, 5, by decide +kernel⟩,
  ⟨act, 4, true, 0x34, 1, by decide +kernel⟩,
  ⟨{ act with hep := { act.hep with events := [ev 1 true false, ev 2 true false, ev 3 true false] } }, 0, fr 6 0 0 0 (leBytes 8 2), accepted { act with hep := { act.hep with events := [ev 1 true false, ev 2 true false, ev 3 true false] } } 0 (fr 6 0 0 0 (leBytes 8 2)), answerKey { act with hep := { act.hep with events := [ev 1 true false, ev 2 true false, ev 3 true false] } } (fr 6 0 0 0 (leBytes 8 2)), by decide +kernel⟩,
  ⟨{ act with hep := { act.hep with events := [ev 1 true true, ev 2 true false, ev 3 true false] } }, 0, fr 6 0 0 0 (leBytes 8 2), by decide +kernel⟩⟩

/-- The hypotheses of `Obligations.BulkTransfersMoveTheirChunks`, at clauses 5.1, 5.2. -/
theorem witness_BulkTransfersMoveTheirChunks :
  (∃ (s : State) (sess : BitVec 8) (xid : W32) (b : BulkCtx), HostShape s ∧ findBulk s sess.toNat xid = some b ∧ held s = false ∧
    (s.host b.host).link = true ∧ carrierLive s b.dest.via = true ∧ b.host < 2) ∧
  (∃ (s : State) (sess : BitVec 8) (xid : W32) (b : BulkCtx), HostShape s ∧ findBulk s sess.toNat xid = some b ∧ held s = false ∧
    (s.host b.host).link = true ∧ carrierLive s b.dest.via = true ∧ b.host < 2) :=
  ⟨⟨bs [bctx [1]], 0, 9, bctx [1], by decide +kernel⟩,
  ⟨bs [bctx [1]], 0, 9, bctx [1], by decide +kernel⟩⟩

/-- The hypotheses of `Obligations.BulkTransfersMoveTheirChunks`, clause 1, for functions of Config with the values assumed here. -/
theorem witness_BulkTransfersMoveTheirChunks_1 (h : ∀ key b cst n, Config.kmac256 key b cst n = List.replicate n 0) :
  ∃ (s : State) (h : Fin 2) (m : YmpFrame) (v : State) (key : Option (List Byte)) (xid : W32), HostShape s ∧ Accepted s h m 7 key v ∧
    bulkStatus v m = yOk ∧ s.wiping = false ∧ (bulkCtx (h.val) m v).addr = bkAddr m ∧ (bulkCtx (h.val) m v).len = bkLen m ∧
    bkChunk m < ceilDiv (bulkCtx (h.val) m v).len (bulkCtx (h.val) m v).chunk ∧
    (List.drop 24 (YmpFrame.pay m)).length = chunkLen (bulkCtx (h.val) m v).len (bulkCtx (h.val) m v).chunk (bkChunk m) ∧
    Clean s ((bulkCtx (h.val) m v).addr + bkChunk m * (bulkCtx (h.val) m v).chunk) (List.drop 24 (YmpFrame.pay m)).length ∧
    ((findBulk v (bulkCtx (h.val) m v).session (bulkCtx (h.val) m v).xid).isSome = true ∨ v.hep.bulk.length < 64) :=
  ⟨bs [], 0, bk 7 9 0 0x100000 64 (List.replicate 64 5), accepted (bs []) 0 (bk 7 9 0 0x100000 64 (List.replicate 64 5)), answerKey (bs []) (bk 7 9 0 0x100000 64 (List.replicate 64 5)), 9, by decide +kernel, ⟨by decide +kernel, by decide +kernel, fun _ => by simp only [ympAuthentic, h]; decide +kernel, by decide +kernel⟩, by decide +kernel⟩

/-- The hypotheses of `Obligations.BulkTransfersMoveTheirChunks`, clause 2, for functions of Config with the values assumed here. -/
theorem witness_BulkTransfersMoveTheirChunks_2 (h : ∀ key b cst n, Config.kmac256 key b cst n = List.replicate n 0) :
  ∃ (s : State) (h : Fin 2) (m : YmpFrame) (v : State) (key : Option (List Byte)), HostShape s ∧ Accepted s h m 7 key v ∧ bulkWrStatus (h.val) m v ≠ yOk :=
  ⟨bs [], 0, bk 7 9 0 0x100001 64 (List.replicate 64 5), accepted (bs []) 0 (bk 7 9 0 0x100001 64 (List.replicate 64 5)), answerKey (bs []) (bk 7 9 0 0x100001 64 (List.replicate 64 5)), by decide +kernel, ⟨by decide +kernel, by decide +kernel, fun _ => by simp only [ympAuthentic, h]; decide +kernel, by decide +kernel⟩, by decide +kernel⟩

/-- The hypotheses of `Obligations.BulkTransfersMoveTheirChunks`, clause 3, for functions of Config with the values assumed here. -/
theorem witness_BulkTransfersMoveTheirChunks_3 (h : ∀ key b cst n, Config.kmac256 key b cst n = List.replicate n 0) :
  ∃ (s : State) (h : Fin 2) (m : YmpFrame) (v : State) (key : Option (List Byte)), HostShape s ∧ Accepted s h m 8 key v ∧ bulkStatus v m = yOk ∧
    s.wiping = false ∧ s.flaws = [] ∧ bkLen m ≤ chunkSize v ∧ Clean s (bkAddr m) (bkLen m) :=
  ⟨bs [], 0, bk 8 9 0 0x100000 64 [], accepted (bs []) 0 (bk 8 9 0 0x100000 64 []), answerKey (bs []) (bk 8 9 0 0x100000 64 []), by decide +kernel, ⟨by decide +kernel, by decide +kernel, fun _ => by simp only [ympAuthentic, h]; decide +kernel, by decide +kernel⟩, by decide +kernel⟩

/-- The hypotheses of `Obligations.BulkTransfersMoveTheirChunks`, clause 4, for functions of Config with the values assumed here. -/
theorem witness_BulkTransfersMoveTheirChunks_4 (h : ∀ key b cst n, Config.kmac256 key b cst n = List.replicate n 0) :
  ∃ (s : State) (h : Fin 2) (m : YmpFrame) (v : State) (key : Option (List Byte)), HostShape s ∧ Accepted s h m 8 key v ∧ bulkStatus v m = yOk ∧
    s.wiping = true :=
  ⟨{ bs [] with wiping := true }, 0, bk 8 9 0 0x100000 64 [], accepted { bs [] with wiping := true } 0 (bk 8 9 0 0x100000 64 []), answerKey { bs [] with wiping := true } (bk 8 9 0 0x100000 64 []), by decide +kernel, ⟨by decide +kernel, by decide +kernel, fun _ => by simp only [ympAuthentic, h]; decide +kernel, by decide +kernel⟩, by decide +kernel⟩


end Sys2Proof.Tests.HostPort
end

