-- ==== Sys2Proof/Tests/Image.lean ====
section
/-!
SUPPORT. Witnesses: states and operands that meet the hypotheses of each statement, clause by clause (an image in the flash and its records).
-/

namespace Sys2Proof.Tests.Image

open Sys2Proof Sys2Proof.Machine Sys2Proof.Claims Sys2Proof.Tests

set_option Elab.async false

/-- Cells that hold `bs` from `a` on. -/
def cells (a : Nat) : List Byte → List (Nat × Byte)
  | [] => []
  | b :: r => (a, b) :: cells (a + 1) r
def hdrBytes : List Byte := [0x59, 0x43, 0x46, 0x31, 0, 1, 1, 0, 0x40, 0x64, 15, 0, 0, 0, 3, 0, 0, 0x10] ++ List.replicate 238 0
def sectB (t off len : Nat) : List Byte := leBytes 4 t ++ leBytes 4 off ++ leBytes 4 len ++ leBytes 4 0
def sapB : List Byte := (List.range 64).map (fun n => if n = 41 then 0x40 else 0) ++ leBytes 4 (80 + 5 * 256 + 105 * 65536) ++ leBytes 4 (1000 + 6 * 65536) ++ leBytes 4 0 ++ leBytes 4 0
/-- The first copy in the flash: header, three sections, SAP settings, lanes, records. -/
def imgFlash : List (Nat × Byte) :=
  cells 0 hdrBytes ++ cells 2064 (sectB 1 2112 80 ++ sectB 2 2192 16 ++ sectB 3 2208 16) ++ cells 2112 sapB ++
    cells 2192 ([1, 1, 1] ++ List.replicate 13 0)
def booting (st : Nat) (s : State) : State :=
  withRegs [(0xA0, st), (0x30, 0)]
    { s with boot := Boot.reset, fuses := { s.fuses with lcState := 2, prog := 1, hashes := [List.replicate 32 0] } }
def img0 (st read : Nat) (fl : List (Nat × Byte)) : State := { booting st sw with flash := fl, flashSize := 0x10000000, boot := { Boot.reset with read := read } }
def r0 : RegRec := ⟨0x301008, 2, 0xFF, 5⟩
def rbad : RegRec := ⟨0x100104, 1, 0xFF, 5⟩
def recs (ph : RecPhase) (wt : Bool) (rs : List RegRec) (i : Nat) (st : Nat) : State := withRegs [(0xA0, st), (0x30, 0)] { sw with boot := { Boot.reset with phase := ph, waiting := wt, regs := rs, late := rs, idx := i } }
def rbusy : RegRec := ⟨0x4000038, 3, 2, 5⟩
def absFlash : List (Nat × Byte) := cellWrite 0xFF (cellWrite 0xFF imgFlash 2064 (sectB 1 2112 80 ++ sectB 2 2192 48 ++ sectB 3 2240 16)) 2192 (leBytes 4 0x010101 ++ List.replicate 32 0 ++ leBytes 8 0x1000 ++ leBytes 4 0)
def absImg : State := let t := img0 2 2 absFlash; { t with fuses := { t.fuses with grade := 2, hashes := [Config.shake256 (img t 256 1793)] } }
def pk : List Byte := List.replicate 1793 3
def sg (k a : Nat) : List Byte := leBytes 8 k ++ [BitVec.ofNat 8 a] ++ List.replicate 2047 0 ++ pk ++ List.replicate 2000 1

/-- The hypotheses of `Obligations.ImageCopiesAreReadAndVerified`, at clauses 1, 2.1, 2.2, 2.3, 4, 5, 6, 7.1, 7.2, 7.3. -/
theorem witness_ImageCopiesAreReadAndVerified :
  (∃ (s : State), held s = false ∧ s.wiping = true ∧ s.busHeld = [] ∧ s.bulkWait = []) ∧
  (∃ (s : State), coreOn s = true ∧ bootState s = 2 ∧ s.boot.read = 0) ∧
  (∃ (s : State), coreOn s = true ∧ bootState s = 2 ∧ s.boot.read = 1) ∧
  (∃ (s : State), coreOn s = true ∧ bootState s = 2 ∧ s.boot.read = 2) ∧
  (∃ (s : State) (ok : Bool), coreOn s = true ∧ bootState s = 2 ∧ s.boot.read = 0 ∧ s.boot.copy ≤ 1 ∧ ok = true ∧ headerReason s ≠ 0) ∧
  (∃ (s : State) (ok : Bool), coreOn s = true ∧ bootState s = 2 ∧ s.boot.read = 1 ∧ ok = true ∧ sectionsBad s = false) ∧
  (∃ (s : State) (ok : Bool), coreOn s = true ∧ bootState s = 2 ∧ s.boot.read = 1 ∧ s.boot.copy ≤ 1 ∧ ok = true ∧ sectionsBad s = true) ∧
  (∃ (s : State) (ok : Bool), coreOn s = true ∧ bootState s = 2 ∧ s.boot.copy ≤ 1 ∧ ok = false ∧ s.boot.read = 0) ∧
  (∃ (s : State) (ok : Bool), coreOn s = true ∧ bootState s = 2 ∧ s.boot.copy ≤ 1 ∧ ok = false ∧ s.boot.read = 1) ∧
  (∃ (s : State) (ok : Bool), coreOn s = true ∧ bootState s = 2 ∧ s.boot.copy ≤ 1 ∧ ok = false ∧ s.boot.read = 2) :=
  ⟨⟨{ sw with wiping := true }, by decide +kernel⟩,
  ⟨img0 2 0 [], by decide +kernel⟩,
  ⟨img0 2 1 [], by decide +kernel⟩,
  ⟨img0 2 2 imgFlash, by decide +kernel⟩,
  ⟨img0 2 0 [], true, by decide +kernel⟩,
  ⟨img0 2 1 imgFlash, true, by decide +kernel⟩,
  ⟨img0 2 1 [], true, by decide +kernel⟩,
  ⟨img0 2 0 imgFlash, false, by decide +kernel⟩,
  ⟨img0 2 1 imgFlash, false, by decide +kernel⟩,
  ⟨img0 2 2 imgFlash, false, by decide +kernel⟩⟩

/-- The hypotheses of `Obligations.ImageCopiesAreReadAndVerified`, clause 3, for functions of Config with the values assumed here. -/
theorem witness_ImageCopiesAreReadAndVerified_3 (h : ∀ b, Config.shake256 b = List.replicate 32 0) :
  ∃ (s : State) (ok : Bool), coreOn s = true ∧ bootState s = 2 ∧ s.boot.read = 0 ∧ ok = true ∧ headerReason s = 0 :=
  ⟨img0 2 0 imgFlash, true, by decide +kernel, by decide +kernel, by decide +kernel, by decide +kernel, by unfold headerReason; rw [h]; decide +kernel⟩

/-- The hypotheses of `Obligations.ImageCopiesAreReadAndVerified`, clause 8, for functions of Config with the values assumed here. -/
theorem witness_ImageCopiesAreReadAndVerified_8 (hv : ∀ key m sg, Config.falconVerify key m sg = false) :
  ∃ (s : State) (ok : Bool), coreOn s = true ∧ bootState s = 2 ∧ s.boot.read = 2 ∧ s.boot.copy ≤ 1 ∧ ok = true ∧
    Config.falconVerify (img s 256 1793) (imgDigest s) (img s (imgLen s - 1280) 1280) = false :=
  ⟨img0 2 2 imgFlash, true, by decide +kernel, by decide +kernel, by decide +kernel, by decide +kernel, by decide +kernel, hv _ _ _⟩

/-- The hypotheses of `Obligations.ImageCopiesAreReadAndVerified`, clause 9, for functions of Config with the values assumed here. -/
theorem witness_ImageCopiesAreReadAndVerified_9 (hv : ∀ key m sg, Config.falconVerify key m sg = true) :
  ∃ (s : State) (ok : Bool), coreOn s = true ∧ bootState s = 2 ∧ s.boot.read = 2 ∧ ok = true ∧
    Config.falconVerify (img s 256 1793) (imgDigest s) (img s (imgLen s - 1280) 1280) = true ∧ hostKeyBad s = false ∧
    sapsetBad ((sectBytes s 1).getD []) = false ∧ layoutBad (planMode s) ((sectBytes s 2).getD []) (sectBytes s 4) = false ∧
    layoutAbsent s ((sectBytes s 2).getD []) = true ∧ s.boot.copy ≤ 1 :=
  ⟨absImg, true, by decide +kernel, by decide +kernel, by decide +kernel, by decide +kernel, hv _ _ _, by decide +kernel⟩

/-- The hypotheses of `Obligations.ImageCopiesAreReadAndVerified`, clause 10, for functions of Config with the values assumed here. -/
theorem witness_ImageCopiesAreReadAndVerified_10 (hv : ∀ key m sg, Config.falconVerify key m sg = true) :
  ∃ (s : State) (ok : Bool), coreOn s = true ∧ bootState s = 2 ∧ s.boot.read = 2 ∧ ok = true ∧
    Config.falconVerify (img s 256 1793) (imgDigest s) (img s (imgLen s - 1280) 1280) = true ∧ hostKeyBad s = false ∧
    sapsetBad ((sectBytes s 1).getD []) = false ∧ layoutBad (planMode s) ((sectBytes s 2).getD []) (sectBytes s 4) = false ∧
    layoutAbsent s ((sectBytes s 2).getD []) = false :=
  ⟨img0 2 2 imgFlash, true, by decide +kernel, by decide +kernel, by decide +kernel, by decide +kernel, hv _ _ _, by decide +kernel⟩

/-- The hypotheses of `Obligations.RecordsApplyAndTheFabricOpens`, at clauses 1, 2.1, 2.2, 2.3, 2.4, 2.5, 2.6, 2.7, 2.8. -/
theorem witness_RecordsApplyAndTheFabricOpens :
  (∃ (s : State) (n : Nat), n < 64 ∧ Idle s) ∧
  (∃ (s : State) (r : RegRec), coreOn s = true ∧ s.boot.phase = RecPhase.regs ∧ s.boot.waiting = false ∧ s.boot.regs[s.boot.idx]? = some r ∧
    recordReason s r = 0 ∧ BusFree s r.addr ∧ Whole s ∧ (r.kind ≠ 3 ∨ accessKind r.addr 4 = AccessKind.absent) ∧
    (busWrite r.addr (if r.kind = 2 then 8 else 4) r.value false s).boot.phase = RecPhase.regs) ∧
  (∃ (s : State) (r : RegRec), coreOn s = true ∧ s.boot.phase = RecPhase.regs ∧ s.boot.waiting = false ∧ s.boot.regs[s.boot.idx]? = some r ∧
    recordReason s r ≠ 0 ∧ BusFree s r.addr ∧ Whole s ∧ s.boot.copy ≤ 1) ∧
  (∃ (s : State) (r : RegRec), coreOn s = true ∧ s.boot.phase = RecPhase.late ∧ s.boot.waiting = true ∧ s.boot.late[s.boot.idx]? = some r ∧
    r.busyBit ≠ 255 ∧ (BitVec.toNat ((busRead s (r.addr + 4) 4).getD 0)).testBit r.busyBit = true) ∧
  (∃ (s : State), coreOn s = true ∧ bootState s = 4 ∧ s.boot.phase = RecPhase.regs ∧ s.boot.waiting = false ∧ s.boot.regs.length ≤ s.boot.idx ∧
    linkCfgOk s = true ∧ (bpmLegal s fun a => s.regN a) = true) ∧
  (∃ (s : State), coreOn s = true ∧ bootState s = 4 ∧ s.boot.phase = RecPhase.regs ∧ s.boot.waiting = false ∧ s.boot.regs.length ≤ s.boot.idx ∧
    linkCfgOk s = false ∧ s.boot.copy ≤ 1) ∧
  (∃ (s : State), coreOn s = true ∧ s.boot.windowOpen = true ∧ s.boot.applied = true ∧ placed s = true ∧ ready s = false ∧ bootState s = 5) ∧
  (∃ (s : State), coreOn s = true ∧ portsLive s = true ∧ ready s = false ∧ bootState s = 5 ∧ (s.boot.windowOpen = true → noPending s = true)) ∧
  (∃ (s : State), coreOn s = true ∧ bootState s = 6 ∧ s.field 172 2 2 = 0 ∧ s.field 172 1 0 ≠ 1) :=
  ⟨⟨sw, 0, by decide +kernel⟩,
  ⟨recs .regs false [r0, rbad] 0 4, r0, by decide +kernel⟩,
  ⟨recs .regs false [r0, rbad] 1 4, rbad, by decide +kernel⟩,
  ⟨withRegs [(0x400003C, 4)] (recs .late true [r0, rbusy] 1 6), rbusy, by decide +kernel⟩,
  ⟨recs .regs false [r0] 1 4, by decide +kernel⟩,
  ⟨withRegs [(puBase 9, 2 + 7*4)] (recs .regs false [r0] 1 4), by decide +kernel⟩,
  ⟨let t := recs .idle false [] 0 5; { t.modPort 4 (fun q => { q with role := 1, link := .detect, disc := .pending }) with boot := { t.boot with applied := true, windowOpen := true } }, by decide +kernel⟩,
  ⟨let t := recs .idle false [] 0 5; { t with boot := { t.boot with applied := true } }, by decide +kernel⟩,
  ⟨recs .idle false [] 0 6, by decide +kernel⟩⟩


end Sys2Proof.Tests.Image
end

