-- ==== Sys2Proof/Tests/Links.lean ====
section
/-!
SUPPORT. Witnesses: states and operands that meet the hypotheses of each statement, clause by clause (ports in training, their lanes, frames and exchanges).
-/

namespace Sys2Proof.Tests.Links

open Sys2Proof Sys2Proof.Machine Sys2Proof.Claims Sys2Proof.Tests

set_option Elab.async false

def portIn (l : LinkState) (q : Port) : State := on.setPort 0 { q with link := l }
def rdyLane (k : Nat) : RxLane := ⟨true, false, k, true, 0, 0, 0, false⟩
def eqPort : Port := { endPort with rx := rdyLane 0 :: List.replicate 7 RxLane.reset, tx := List.replicate 8 TxLane.reset, farLaneOk := 0 }
def eqPort1 : Port := { eqPort with rx := ⟨true, false, 0, false, 0, 0, 0, false⟩ :: List.replicate 7 RxLane.reset, farLaneOk := 1 }
def ltfCtrl (low : Nat) : W64 := BitVec.ofNat 64 (low + (crc32c (leBytes 4 low)).toNat * 2 ^ 32)
def exPort : Port := { endPort with rx := (List.range 8).map rdyLane, farLaneOk := 0xFF, farMaxw := 0, fabver := 0, wasUp := false, everUp := false, goSeen := 0xFF, saidOk := 0xFF }
def exPortT : Port := { exPort with role := 2 }
def exPortGo : Port := { exPort with goSeen := 0x7F }
def lc (ver sub : Nat) (own : List (Nat × Nat × Nat)) : Packet := (((mkPacket 0x32 0 0 false 0 0 1 [] ([(256, 8, sub)] ++ own)).set 0 4 ver).set 157 1 0).seal
def hel (ver sub side role : Nat) : Packet := lc ver sub [(264, 8, 1), (272, 8, 0), (288, 32, 5), (320, 8, side), (328, 8, role), (344, 8, 0xFF)]
def hs (n sub : Nat) (p : Packet) (s : State) : State := (linkCtrlIn n sub p s).2
def trunkUp : State := on.setPort 0 { endPort with role := 2, delays := [10, 20, 30, 40, 50, 60, 70, 80] }
def sent (seq : Nat) : SentFrame :=
  ⟨⟨List.replicate 32 0, if seq = 5 then 0xDB4F60F800000005 else if seq = 6 then 0xB96DE9C100000006 else 0x6428437900000007⟩, 1, [], none⟩
def rpPort : Port := { endPort with begun := true, opened := true, rxSeq := 255, txSeq := 8, replay := [sent 5, sent 6, sent 7], nak := true }
def sRp : State := sw.setPort 0 rpPort
def sNb : State := sw.setPort 0 { rpPort with begun := false }
def sRs : State := sw.setPort 0 { rpPort with resend := 2, rxSeq := 9 }
/-- An idle frame: FSEQ 0, ACK 6, five credits of class 3. -/
def ack6 : LinkFrame := ⟨List.replicate 32 0, 0x0F55A24F29800600⟩
/-- The CRC register after `n` zero bytes, each step evaluated before the next. -/
def zeros : Nat → Nat → Nat
  | 0, c => c
  | n + 1, 0 => zeros n (crc32cByte 0 0).toNat
  | n + 1, c + 1 => zeros n (crc32cByte (BitVec.ofNat 32 (c + 1)) 0).toNat

theorem zeros_eq (n : Nat) (c : W32) : (crc32cRun c (List.replicate n 0)).toNat = zeros n c.toNat := by
  induction n generalizing c with
  | zero => rfl
  | succ n ih =>
    have e : crc32cRun c (List.replicate (n + 1) 0) = crc32cRun (crc32cByte c 0) (List.replicate n 0) := rfl
    rw [e, ih]
    cases h : c.toNat with
    | zero =>
      have : c = 0 := BitVec.eq_of_toNat_eq h
      subst this; rfl
    | succ k =>
      show _ = zeros n (crc32cByte (BitVec.ofNat 32 (k + 1)) 0).toNat
      rw [← h, BitVec.ofNat_toNat, BitVec.setWidth_eq]

theorem ack6_ok : frameOk ack6 = true := by
  have e : (List.replicate 32 (0 : BitVec 512)).flatMap (fun x => leBytes 64 x.toNat) = List.replicate 2048 0 := by decide +kernel
  have q : crc32cRun 0xFFFFFFFF (List.replicate 2048 0) = 0x5B767CB0 :=
    BitVec.eq_of_toNat_eq (by rw [zeros_eq]; decide +kernel)
  have h : frameCrc (List.replicate 32 0) 0x29800600 = 0x0F55A24F := by
    unfold frameCrc crc32c
    rw [e, crc32cRun, List.foldl_append]
    rw [crc32cRun] at q
    rw [q]
    decide +kernel
  have l : (0x0F55A24F29800600 : W64).toNat % 2 ^ 32 = 0x29800600 := by decide
  unfold frameOk ack6
  rw [l, h]
  decide

/-- The hypotheses of `Obligations.LanesTrainAndTapsMove`, at clauses 1.1, 1.2, 1.3, 1.4, 1.5, 1.6, 1.7, 2.1, 2.2, 2.3, 2.4, 2.5, 2.6, 2.7, 3.1, 3.2. -/
theorem witness_LanesTrainAndTapsMove :
  (∃ (s : State) (n : Fin 64) (l : Fin 8), coreOn s = true ∧ trains (s.port n.val) = true ∧ (s.port n.val).failed.getLsbD l.val = false) ∧
  (∃ (s : State) (n : Fin 64) (l : Fin 8), coreOn s = true ∧ trains (s.port n.val) = true ∧
    keepsEqualising { (s.port n.val) with rx := (s.port n.val).rx.set (l.val) RxLane.reset } = true) ∧
  (∃ (s : State) (n : Fin 64) (l : Fin 8) (rdy : Bool) (x : RxLane), coreOn s = true ∧ (s.port n.val).rx[l.val]? = some x ∧ x.locked = true ∧
    ((s.port n.val).link = LinkState.equalise ∨ (s.port n.val).link = LinkState.align) ∧
    keepsEqualising { (s.port n.val) with rx := (s.port n.val).rx.set l.val { x with ready := rdy } } = true) ∧
  (∃ (s : State) (n : Fin 64) (l : Fin 8) (rdy : Bool) (x : RxLane), coreOn s = true ∧ (s.port n.val).rx[l.val]? = some x ∧ x.locked = true ∧
    (s.port n.val).link = LinkState.equalise ∧ keepsEqualising { (s.port n.val) with rx := (s.port n.val).rx.set l.val { x with ready := rdy } } = false ∧
    readyLanes { (s.port n.val) with rx := (s.port n.val).rx.set l.val { x with ready := rdy } } ≠ 0) ∧
  (∃ (s : State) (n : Fin 64) (l : Fin 8) (ctrl : W64) (status : W64) (x : RxLane), coreOn s = true ∧ (s.port n.val).rx[l.val]? = some x ∧
    x.locked = true ∧ trains (s.port n.val) = true ∧
    (fun w => BitVec.toNat (crc32c (leBytes 4 (BitVec.toNat w % 2 ^ 32))) = BitVec.toNat w / 2 ^ 32) ctrl ∧
    (fun w => BitVec.toNat (crc32c (leBytes 4 (BitVec.toNat w % 2 ^ 32))) = BitVec.toNat w / 2 ^ 32) status ∧
    keepsEqualising ((fun x => { (s.port n.val) with rx := (s.port n.val).rx.set (l.val) (if (s.port n.val).link = LinkState.equalise then rxRequest s.fresh (BitVec.toNat status) x else x), goSeen := if BitVec.getLsbD ctrl 12 = true then (s.port n.val).goSeen ||| BitVec.ofNat 8 (2 ^ l.val) else (s.port n.val).goSeen, farLaneOk := BitVec.ofNat 8 (BitVec.toNat ctrl / 2 ^ 13), farMaxw := BitVec.ofNat 2 (BitVec.toNat ctrl / 2 ^ 21) }) x) = true ∧
    (((s.port n.val).tx.getD (BitVec.toNat ctrl / 2 ^ 3 % 2 ^ 3) TxLane.reset).rseq.toNat = BitVec.toNat ctrl / 2 ^ 23 % 2 ^ 8 ∨ BitVec.toNat ctrl / 2 ^ 3 % 2 ^ 3 < (s.port n.val).tx.length)) ∧
  (∃ (s : State) (n : Fin 64), coreOn s = true ∧ (s.port n.val).link = LinkState.equalise ∧ readyLanes (s.port n.val) ≠ 0) ∧
  (∃ (s : State) (n : Fin 64), coreOn s = true ∧ (s.port n.val).link = LinkState.equalise ∧ readyLanes (s.port n.val) = 0) ∧
  (∃ (c : Nat) (t : TxLane), c / 2 ^ 8 % 4 = 1 ∧ c / 2 ^ 6 % 4 = 0 ∧ t.pre2 < 6) ∧
  (∃ (c : Nat) (t : TxLane), c / 2 ^ 8 % 4 = 1 ∧ c / 2 ^ 6 % 4 = 1 ∧ t.pre1 < 16) ∧
  (∃ (c : Nat) (t : TxLane), c / 2 ^ 8 % 4 = 1 ∧ c / 2 ^ 6 % 4 = 2 ∧ t.post1 < 16) ∧
  (∃ (c : Nat) (t : TxLane), c / 2 ^ 8 % 4 = 1 ∧ c / 2 ^ 6 % 4 = 0 ∧ 6 ≤ t.pre2) ∧
  (∃ (c : Nat) (t : TxLane), c / 2 ^ 8 % 4 = 2 ∧ c / 2 ^ 6 % 4 = 1 ∧ 0 < t.pre1) ∧
  (∃ (c : Nat) (t : TxLane), c / 2 ^ 8 % 4 = 2 ∧ c / 2 ^ 6 % 4 = 1 ∧ t.pre1 = 0) ∧
  (∃ (c : Nat), c / 2 ^ 8 % 4 = 3 ∧ c / 2 ^ 6 % 4 ≠ 3) ∧
  (∃ (st : Nat) (x : RxLane), x.ready = false ∧ x.rseq.toNat = st / 4 % 256) ∧
  (∃ (st : Nat) (x : RxLane), (x.ready = true ∨ x.rseq.toNat ≠ st / 4 % 256)) :=
  ⟨⟨portIn .detect eqPort, 0, 7, by decide +kernel⟩,
  ⟨portIn .align eqPort, 0, 0, by decide +kernel⟩,
  ⟨portIn .align eqPort, 0, 0, false, rdyLane 0, by decide +kernel⟩,
  ⟨portIn .equalise eqPort1, 0, 0, true, ⟨true, false, 0, false, 0, 0, 0, false⟩, by decide +kernel⟩,
  ⟨portIn .detect eqPort, 0, 0, ltfCtrl 6275624, ltfCtrl 0, rdyLane 0, by decide +kernel⟩,
  ⟨portIn .equalise eqPort, 0, by decide +kernel⟩,
  ⟨portIn .equalise eqPort1, 0, by decide +kernel⟩,
  ⟨256, ⟨0,0,0,false,0,0⟩, by decide +kernel⟩,
  ⟨320, ⟨0,0,0,false,0,0⟩, by decide +kernel⟩,
  ⟨384, ⟨0,0,0,false,0,0⟩, by decide +kernel⟩,
  ⟨256, ⟨6,16,16,true,1,0⟩, by decide +kernel⟩,
  ⟨576, ⟨6,16,16,true,1,0⟩, by decide +kernel⟩,
  ⟨576, ⟨0,0,0,false,0,0⟩, by decide +kernel⟩,
  ⟨768, by decide +kernel⟩,
  ⟨0, ⟨true,false,0,false,1,1,0,false⟩, by decide +kernel⟩,
  ⟨0, ⟨true,false,0,true,1,1,0,false⟩, by decide +kernel⟩⟩

/-- The hypotheses of `Obligations.ExchangesEndAndDelaysAreMeasured`, at clauses 1.1, 1.2, 1.3, 1.4, 1.5, 1.6, 1.7, 1.8, 1.9, 2.1, 2.2, 2.3. -/
theorem witness_ExchangesEndAndDelaysAreMeasured :
  (∃ (s : State) (n : Fin 64) (ok : BitVec 8) (mw : BitVec 2), coreOn s = true ∧ (s.port n.val).link = LinkState.align ∧
    readyLanes (s.port n.val) &&& ~~~(s.port n.val).goSeen = 0 ∧ (laneSet s (n.val) (readyLanes (s.port n.val)) ok mw.toNat).snd ≠ 0) ∧
  (∃ (s : State) (n : Fin 64), (s.port n.val).link = LinkState.align ∧ readyLanes (s.port n.val) &&& ~~~(s.port n.val).goSeen ≠ 0) ∧
  (∃ (s : State) (n : Fin 64) (p : Packet) (t : State), Heard s n 1 p t ∧ (t.port n.val).link = LinkState.exchange ∧ (t.port n.val).role = 1 ∧
    t.field 32 18 18 = 0 ∧ (helloInfo p).dmode = 0 ∧ lanesAgree t n (helloInfo p) = true ∧ 1 ≤ (helloInfo p).fabverMax ∧ (helloInfo p).side = 1 ∧
    (helloInfo p).role = 0) ∧
  (∃ (s : State) (n : Fin 64) (p : Packet) (t : State), Heard s n 1 p t ∧ (t.port n.val).link = LinkState.exchange ∧ (t.port n.val).role = 1 ∧
    t.field 32 18 18 = 0 ∧ (helloInfo p).dmode = 0 ∧ lanesAgree t n (helloInfo p) = true ∧ 1 ≤ (helloInfo p).fabverMax ∧ (helloInfo p).side ≠ 1) ∧
  (∃ (s : State) (n : Fin 64) (p : Packet) (t : State), Heard s n 2 p t ∧ (t.port n.val).link = LinkState.exchange ∧ (t.port n.val).role = 1 ∧
    t.field 32 18 18 = 0 ∧ (helloInfo p).dmode = 0 ∧ lanesAgree t n (helloInfo p) = true ∧ 1 ≤ (helloInfo p).fabverMax ∧ (helloInfo p).side = 1 ∧
    (helloInfo p).role = 0) ∧
  (∃ (s : State) (n : Fin 64) (p : Packet) (t : State), Heard s n 2 p t ∧ (t.port n.val).link = LinkState.exchange ∧ (t.port n.val).role = 1 ∧
    t.field 32 18 18 = 0 ∧ (helloInfo p).dmode = 0 ∧ lanesAgree t n (helloInfo p) = true ∧ 1 ≤ (helloInfo p).fabverMax ∧ (helloInfo p).side ≠ 1) ∧
  (∃ (s : State) (n : Fin 64) (p : Packet) (t : State), Heard s n 1 p t ∧ (t.port n.val).link = LinkState.exchange ∧ lanesAgree t n (helloInfo p) = true ∧
    (t.port n.val).role = 2 ∧ (helloInfo p).side = 0 ∧ ((t.port n.val).delays.length < 8 ∨ (t.port n.val).test.isSome = true)) ∧
  (∃ (s : State) (n : Fin 64) (p : Packet) (t : State), Heard s n 1 p t ∧ (t.port n.val).link = LinkState.exchange ∧ lanesAgree t n (helloInfo p) = false) ∧
  (∃ (s : State) (n : Fin 64) (p : Packet) (t : State), Heard s n 1 p t ∧
    ((t.port n.val).link = LinkState.up ∨ (t.port n.val).link = LinkState.isolated) ∧ (t.port n.val).fabver ≠ 0) ∧
  (∃ (s : State) (n : Fin 64) (p : Packet) (t : State) (a : Nat) (b : Nat), Heard s n 3 p t ∧ a < 2 ^ 64 ∧ b < 2 ^ 64) ∧
  (∃ (s : State) (n : Fin 64) (p : Packet) (t : State), Heard s n 4 p t ∧ (t.port n.val).role = 2) ∧
  (∃ (s : State) (n : Fin 64) (a : Nat), coreOn s = true ∧ (s.port n.val).role = 2 ∧ (s.port n.val).link = LinkState.up ∧ 1 ≤ (s.port n.val).fabver ∧
    a < 2 ^ 64) :=
  ⟨⟨portIn .align exPort, 0, 0xFF, 0, by decide +kernel⟩,
  ⟨portIn .align exPortGo, 0, by decide +kernel⟩,
  ⟨portIn .exchange exPort, 0, hel 0 1 1 0, hs 0 1 (hel 0 1 1 0) (portIn .exchange exPort), by decide +kernel⟩,
  ⟨portIn .exchange exPort, 0, hel 0 1 0 0, hs 0 1 (hel 0 1 0 0) (portIn .exchange exPort), by decide +kernel⟩,
  ⟨portIn .exchange exPort, 0, hel 0 2 1 0, hs 0 2 (hel 0 2 1 0) (portIn .exchange exPort), by decide +kernel⟩,
  ⟨portIn .exchange exPort, 0, hel 0 2 0 0, hs 0 2 (hel 0 2 0 0) (portIn .exchange exPort), by decide +kernel⟩,
  ⟨portIn .exchange exPortT, 0, hel 0 1 0 2, hs 0 1 (hel 0 1 0 2) (portIn .exchange exPortT), by decide +kernel⟩,
  ⟨portIn .exchange { exPortT with farMaxw := 2 }, 0, hel 0 1 1 0, hs 0 1 (hel 0 1 1 0) (portIn .exchange { exPortT with farMaxw := 2 }), by decide +kernel⟩,
  ⟨sw, 0, hel 1 1 1 0, hs 0 1 (hel 1 1 1 0) sw, by decide +kernel⟩,
  ⟨sw, 0, lc 1 3 [], hs 0 3 (lc 1 3 []) sw, 5, 7, by decide +kernel⟩,
  ⟨trunkUp, 0, lc 1 4 [(320,64,100),(384,64,120)], hs 0 4 (lc 1 4 [(320,64,100),(384,64,120)]) trunkUp, by decide +kernel⟩,
  ⟨trunkUp, 0, 77, by decide +kernel⟩⟩

/-- The hypotheses of `Obligations.LinkFramesAreSequencedAndReplayed`, at clauses 1, 2, 3, 4, 5, 6, 7, 8, 9. -/
theorem witness_LinkFramesAreSequencedAndReplayed :
  (∃ (s : State) (n : Fin 64) (f : LinkFrame) (unc : Nat) (symbols : List Nat), coreOn s = true ∧
    ((s.port n.val).link = LinkState.exchange ∨ (s.port n.val).link = LinkState.up ∨ (s.port n.val).link = LinkState.isolated) ∧
    (∀ (l : Nat), l < 8 → laneErrors (s.port n.val) l + symbols.getD l 0 ≤ 2048) ∧ unc = 0 ∧ frameOk f = true ∧
    trFseq f.trailer = (s.port n.val).rxSeq + 1 ∧ trUsed f.trailer = 0 ∧ trNak f.trailer = false ∧ begunAnew (s.port n.val) ∧ (s.port n.val).nakRun < 8) ∧
  (∃ (s : State) (n : Fin 64) (f : LinkFrame) (unc : Nat) (symbols : List Nat), coreOn s = true ∧
    ((s.port n.val).link = LinkState.exchange ∨ (s.port n.val).link = LinkState.up ∨ (s.port n.val).link = LinkState.isolated) ∧
    (∀ (l : Nat), l < 8 → laneErrors (s.port n.val) l + symbols.getD l 0 ≤ 2048) ∧ unc = 0 ∧ frameOk f = true ∧
    trFseq f.trailer = (s.port n.val).rxSeq + 1 ∧ trUsed f.trailer = 0 ∧ (s.port n.val).wasUp = true ∧ (s.port n.val).begun = false ∧
    (s.port n.val).nakRun < 8) ∧
  (∃ (s : State) (n : Fin 64) (f : LinkFrame) (unc : Nat) (symbols : List Nat), coreOn s = true ∧
    ((s.port n.val).link = LinkState.exchange ∨ (s.port n.val).link = LinkState.up ∨ (s.port n.val).link = LinkState.isolated) ∧
    (∀ (l : Nat), l < 8 → laneErrors (s.port n.val) l + symbols.getD l 0 ≤ 2048) ∧ (unc > 0 ∨ frameOk f = false)) ∧
  (∃ (s : State) (n : Fin 64) (f : LinkFrame) (unc : Nat) (symbols : List Nat), coreOn s = true ∧
    ((s.port n.val).link = LinkState.exchange ∨ (s.port n.val).link = LinkState.up ∨ (s.port n.val).link = LinkState.isolated) ∧
    (∀ (l : Nat), l < 8 → laneErrors (s.port n.val) l + symbols.getD l 0 ≤ 2048) ∧ unc = 0 ∧ frameOk f = true ∧
    trFseq f.trailer ≠ (s.port n.val).rxSeq + 1 ∧ (s.port n.val).nakRun < 7) ∧
  (∃ (s : State) (n : Fin 64) (symbols : List Nat), coreOn s = true ∧ (s.port n.val).link = LinkState.retrain ∧
    (∀ (l : Nat), l < 8 → laneErrors (s.port n.val) l + symbols.getD l 0 ≤ 2048)) ∧
  (∃ (s : State) (n : Fin 64), coreOn s = true ∧
    ((s.port n.val).link = LinkState.exchange ∨ (s.port n.val).link = LinkState.up ∨ (s.port n.val).link = LinkState.isolated) ∧
    (s.port n.val).resend = 0 ∧ (s.port n.val).replay.length < 64) ∧
  (∃ (s : State) (n : Fin 64) (x : SentFrame), coreOn s = true ∧
    ((s.port n.val).link = LinkState.exchange ∨ (s.port n.val).link = LinkState.up ∨ (s.port n.val).link = LinkState.isolated) ∧
    0 < (s.port n.val).resend ∧ (s.port n.val).replay[(s.port n.val).replay.length - (s.port n.val).resend]? = some x) ∧
  (∃ (s : State) (n : Fin 64), coreOn s = true ∧ (s.port n.val).link = LinkState.retrain) ∧
  (∃ (s : State) (n : Fin 64), coreOn s = true ∧ trains (s.port n.val) = true) :=
  ⟨⟨sRp, 0, ack6, 0, [], by decide +kernel, by decide +kernel, by decide +kernel, by decide +kernel, ack6_ok, by decide +kernel⟩,
  ⟨sNb, 0, ack6, 0, [], by decide +kernel, by decide +kernel, by decide +kernel, by decide +kernel, ack6_ok, by decide +kernel⟩,
  ⟨sRp, 0, ack6, 1, [], by decide +kernel⟩,
  ⟨sRs, 0, ack6, 0, [], by decide +kernel, by decide +kernel, by decide +kernel, by decide +kernel, ack6_ok, by decide +kernel⟩,
  ⟨portIn .retrain rpPort, 0, [], by decide +kernel⟩,
  ⟨sRp, 0, by decide +kernel⟩,
  ⟨sRs, 0, sent 6, by decide +kernel⟩,
  ⟨portIn .retrain rpPort, 0, by decide +kernel⟩,
  ⟨portIn .align rpPort, 0, by decide +kernel⟩⟩

/-- The hypotheses of `Obligations.LinkStateFollowsItsEvents`, at clauses 1, 2, 3, 4, 5, 6, 7, 8, 9, 10, 11. -/
theorem witness_LinkStateFollowsItsEvents :
  (∃ (s : State) (n : Fin 64) (l : Fin 8), coreOn s = true ∧ (s.port n.val).link = LinkState.up ∧ (s.port n.val).failed.getLsbD l.val = false ∧
    (s.port n.val).laneUse.getLsbD l.val = true ∧ (s.port n.val).fabver ≠ 0 ∧
    laneOk { (s.port n.val) with failed := (s.port n.val).failed ||| BitVec.ofNat 8 (2 ^ l.val) } ≠ 0) ∧
  (∃ (s : State) (n : Fin 64) (l : Fin 8), coreOn s = true ∧ (s.port n.val).link = LinkState.up ∧ (s.port n.val).failed.getLsbD l.val = false ∧
    (s.port n.val).laneUse.getLsbD l.val = true ∧ (s.port n.val).fabver = 0) ∧
  (∃ (s : State) (n : Fin 64) (l : Fin 8), coreOn s = true ∧ (s.port n.val).link = LinkState.exchange ∧ (s.port n.val).failed.getLsbD l.val = false) ∧
  (∃ (s : State) (n : Fin 64) (ok : BitVec 8) (mw : BitVec 2), coreOn s = true ∧ (s.port n.val).link = LinkState.retrain ∧
    (s.port n.val).resumeTo = LinkState.up ∧ (laneSet s (n.val) (laneOk (s.port n.val)) ok mw.toNat).snd ≠ 0) ∧
  (∃ (s : State) (n : Fin 64), coreOn s = true ∧ (s.port n.val).link = LinkState.retrain ∧ 2 ≤ (s.port n.val).retrains) ∧
  (∃ (s : State) (n : Fin 64), coreOn s = true ∧ (s.port n.val).link = LinkState.retrain ∧ (s.port n.val).retrains < 2) ∧
  (∃ (s : State) (n : Fin 64), coreOn s = true ∧
    ((s.port n.val).link = LinkState.up ∨ (s.port n.val).link = LinkState.isolated ∨ (s.port n.val).link = LinkState.retrain)) ∧
  (∃ (s : State) (n : Fin 64), held s = false ∧ portsLive s = true ∧ (s.port n.val).link ≠ LinkState.disabled) ∧
  (∃ (s : State) (n : Fin 64), coreOn s = true ∧ (s.port n.val).link = LinkState.isolated ∧
    ((s.port n.val).disc = Disc.unexpected ∨ (s.port n.val).disc = Disc.swapped ∨ (s.port n.val).disc = Disc.misplaced)) ∧
  (∃ (s : State) (n : Fin 64), held s = false ∧ (s.port n.val).link ≠ LinkState.disabled) ∧
  (∃ (s : State) (n : Fin 64), held s = false ∧ portsLive s = true ∧ (s.port n.val).link = LinkState.disabled) :=
  ⟨⟨sRp, 0, 7, by decide +kernel⟩,
  ⟨sw.setPort 0 { rpPort with fabver := 0, kept := [sent 3] }, 0, 7, by decide +kernel⟩,
  ⟨portIn .exchange exPort, 0, 2, by decide +kernel⟩,
  ⟨on.setPort 0 { rpPort with link := .retrain, resumeTo := .up, retrains := 1, egress := [⟨pkt 0 0x20 0 true 9 0 1 [] [], none, 0, none, false, 0, false⟩] }, 0, 0xFF, 0, by decide +kernel⟩,
  ⟨on.setPort 0 { rpPort with link := .retrain, resumeTo := .up, retrains := 2, egress := [⟨pkt 0 0x20 0 true 9 0 1 [] [], none, 0, none, false, 0, false⟩] }, 0, by decide +kernel⟩,
  ⟨on.setPort 0 { rpPort with link := .retrain, resumeTo := .up, retrains := 1, egress := [⟨pkt 0 0x20 0 true 9 0 1 [] [], none, 0, none, false, 0, false⟩] }, 0, by decide +kernel⟩,
  ⟨sRp, 0, by decide +kernel⟩,
  ⟨sRp, 0, by decide +kernel⟩,
  ⟨portIn .isolated { endPort with disc := .swapped }, 0, by decide +kernel⟩,
  ⟨sw, 0, by decide +kernel⟩,
  ⟨portIn .disabled Port.reset, 0, by decide +kernel⟩⟩


end Sys2Proof.Tests.Links
end

