-- ==== Sys2Proof/Tests/Sap.lean ====
section
/-!
SUPPORT. Witnesses: states and operands that meet the hypotheses of each statement, clause by clause (signed SAP requests).
-/

namespace Sys2Proof.Tests.Sap

open Sys2Proof Sys2Proof.Machine Sys2Proof.Claims Sys2Proof.Tests

set_option Elab.async false

def pk : List Byte := List.replicate 1793 3
def lc (n : Nat) (s : State) : State := { s with fuses := { s.fuses with lcState := n, prog := 5, hashes := [List.replicate 32 0, [2], List.replicate 32 0, []] }, boot := { s.boot with svn := 9 } }
def req (k : Nat) (buf : List Byte) (s : State) : State := withRegs [(0x104, 4)] { s with boot := { s.boot with sapReq := some (k, buf) } }
def sg (k a : Nat) : List Byte := leBytes 8 k ++ [BitVec.ofNat 8 a] ++ List.replicate 2047 0 ++ pk ++ List.replicate 2000 1

/-- The hypotheses of `Obligations.SapRequestsChangeTheFuses`, clause 5, for functions of Config with the values assumed here. -/
theorem witness_SapRequestsChangeTheFuses_5 (h : ∀ b, Config.shake256 b = List.replicate 32 0) (hv : ∀ key m sg, Config.falconVerify key m sg = true) :
  ∃ (s : State) (buf : List Byte) (k : Fin 7), held s = false ∧ s.boot.sapReq = some (k.val + 1, buf) ∧
    sapWhy (k.val + 1) buf { s with boot := { s.boot with sapReq := none } } = 0 ∧ k = 1 :=
  ⟨req 2 (sg 0 7) (lc 1 sw), sg 0 7, 1, by decide +kernel, rfl, by simp only [sapWhy, signReason, h, hv]; decide +kernel, by decide +kernel⟩

/-- The hypotheses of `Obligations.SapRequestsChangeTheFuses`, clause 6, for functions of Config with the values assumed here. -/
theorem witness_SapRequestsChangeTheFuses_6 (h : ∀ b, Config.shake256 b = List.replicate 32 0) (hv : ∀ key m sg, Config.falconVerify key m sg = true) :
  ∃ (s : State) (buf : List Byte) (k : Fin 7), held s = false ∧ s.boot.sapReq = some (k.val + 1, buf) ∧
    sapWhy (k.val + 1) buf { s with boot := { s.boot with sapReq := none } } = 0 ∧ k = 2 :=
  ⟨req 3 (sg 0 2) (lc 1 sw), sg 0 2, 2, by decide +kernel, rfl, by simp only [sapWhy, signReason, h, hv]; decide +kernel, by decide +kernel⟩

/-- The hypotheses of `Obligations.SapRequestsChangeTheFuses`, clause 7, for functions of Config with the values assumed here. -/
theorem witness_SapRequestsChangeTheFuses_7 (h : ∀ b, Config.shake256 b = List.replicate 32 0) (hv : ∀ key m sg, Config.falconVerify key m sg = true) :
  ∃ (s : State) (buf : List Byte) (k : Fin 7), held s = false ∧ s.boot.sapReq = some (k.val + 1, buf) ∧
    sapWhy (k.val + 1) buf { s with boot := { s.boot with sapReq := none } } = 0 ∧ k = 3 ∧ latched s = false :=
  ⟨req 4 (sg 0 2) (withRegs [(0xA0,7)] (lc 1 sw)), sg 0 2, 3, by decide +kernel, rfl, by simp only [sapWhy, signReason, h, hv]; decide +kernel, by decide +kernel⟩

/-- The hypotheses of `Obligations.SapRequestsChangeTheFuses`, clause 8, for functions of Config with the values assumed here. -/
theorem witness_SapRequestsChangeTheFuses_8 (h : ∀ b, Config.shake256 b = List.replicate 32 0) (hv : ∀ key m sg, Config.falconVerify key m sg = true) :
  ∃ (s : State) (buf : List Byte) (k : Fin 7), held s = false ∧ s.boot.sapReq = some (k.val + 1, buf) ∧
    sapWhy (k.val + 1) buf { s with boot := { s.boot with sapReq := none } } = 0 ∧ k = 4 ∧ latched s = false :=
  ⟨req 5 (sg 0 2) (withRegs [(0xA0,7)] (lc 2 sw)), sg 0 2, 4, by decide +kernel, rfl, by simp only [sapWhy, signReason, h, hv]; decide +kernel, by decide +kernel⟩

/-- The hypotheses of `Obligations.SapRequestsChangeTheFuses`, clause 9, for functions of Config with the values assumed here. -/
theorem witness_SapRequestsChangeTheFuses_9 (h : ∀ b, Config.shake256 b = List.replicate 32 0) (hv : ∀ key m sg, Config.falconVerify key m sg = true) :
  ∃ (s : State) (buf : List Byte) (k : Fin 7), held s = false ∧ s.boot.sapReq = some (k.val + 1, buf) ∧
    sapWhy (k.val + 1) buf { s with boot := { s.boot with sapReq := none } } = 0 ∧ k = 5 :=
  ⟨req 6 (sg 0 9) (lc 1 sw), sg 0 9, 5, by decide +kernel, rfl, by simp only [sapWhy, signReason, h, hv]; decide +kernel, by decide +kernel⟩


end Sys2Proof.Tests.Sap
end

