-- ==== Sys2Proof/Tests/Service.lean ====
section
/-!
SUPPORT. Witnesses: states and operands that meet the hypotheses of each statement, clause by clause (faults, restarts, temperatures).
-/

namespace Sys2Proof.Tests.Service

open Sys2Proof Sys2Proof.Machine Sys2Proof.Claims Sys2Proof.Tests

set_option Elab.async false

def cut (s : State) : State := { s with fuses := { s.fuses with grade := 2 } }
def raisedN (n r : Nat) (s : State) : State := { withRegs [(0x100100 + 4 * n, r)] s with raised := [(.csq, n)] }
def full : State := { summing with msgs := [⟨5, 6, 0x10, 3, 0, 0, [0], false, false, false, []⟩], milestones := [(3, 4)], poison := [9], waits := [⟨7, 5, 0, 3, 0, 1⟩], releases := [⟨5, 6, .awaitEnd, 7, 5, true, true, 0, 0⟩], bpm := { summing.bpm with bufs := [⟨0, 0, 0, 1, [cw 0], cw 1, none⟩] } }
def haltedS (s : State) : State := withRegs [(0x58, 2^48), (0x94, 1), (0x30, 2)] s
def temps (k : Nat) (t : Int) : List (BitVec 16) := (List.range 28).map (fun i => BitVec.ofInt 16 (if i = k then t else 400))
def therm : State := withRegs [(0x100200, 90 + 5 * 2 ^ 8 + 105 * 2 ^ 16), (0x100208, 1000)] sw

/-- The hypotheses of `Obligations.FaultsReactByTheirSets`, at clauses 1, 2, 3, 4, 5, 6, 7, 8, 9, 10, 11, 16. -/
theorem witness_FaultsReactByTheirSets :
  (∃ (s : State) (b : Blk), held s = false ∧ BusFree s (blkFlt b + 8) ∧ blkAbsent s b = false) ∧
  (∃ (s : State) (b : Blk), held s = false ∧ mustHold s (blkFlt b + 8) true = true) ∧
  (∃ (s : State) (b : Blk), held s = false ∧ BusFree s (blkFlt b + 8) ∧ blkAbsent s b = true) ∧
  (∃ (s : State), held s = false) ∧
  (∃ (s : State) (b : Blk) (n : Nat), s.raised = [(b, n)] ∧ n < 64 ∧ OnlyReacts (reactSet s n) []) ∧
  (∃ (s : State) (b : Blk) (n : Nat), s.raised = [(b, n)] ∧ n < 64 ∧ OnlyReacts (reactSet s n) [5] ∧ (reactSet s n).testBit 5 = true ∧ latched s = false ∧
    restarting s = false ∧ halted s = false) ∧
  (∃ (s : State) (b : Blk) (n : Nat), s.raised = [(b, n)] ∧ n < 64 ∧ OnlyReacts (reactSet s n) [0, 1]) ∧
  (∃ (s : State) (b : Blk) (n : Nat), s.raised = [(b, n)] ∧ n < 64 ∧ (reactSet s n).testBit 6 = false ∧ (reactSet s n).testBit 3 = true ∧ coreOn s = true) ∧
  (∃ (s : State) (b : Blk) (n : Nat) (b' : Blk) (n' : Nat), s.raised = [(b, n), (b', n')] ∧ n < 64 ∧ n' < 64 ∧ OnlyReacts (reactSet s n) [0] ∧
    OnlyReacts (reactSet s n') [0] ∧ (reactSet s n).testBit 0 = true ∧ collected s = true) ∧
  (∃ (s : State) (b : Blk) (n : Nat), s.raised = [(b, n)] ∧ n < 64 ∧ OnlyReacts (reactSet s n) [5] ∧ (reactSet s n).testBit 5 = true ∧ coreOn s = true ∧
    restarting s = false ∧ s.now % 2 = 0 ∧ s.wrote = [] ∧ s.msuLast = [] ∧ s.ecbPend = []) ∧
  (∃ (s : State) (b : Blk) (n : Nat), s.raised = [(b, n)] ∧ n < 64 ∧ (reactSet s n).testBit 6 = true ∧ latched s = false ∧ s.busHeld = []) ∧
  (∃ (s : State) (i : Nat) (m : Nat), i < 64 ∧ m < 256 ∧ (s.regN (meterAddr i m)).testBit 28 = true) :=
  ⟨⟨sw, .pu 63, by decide +kernel⟩,
  ⟨{ sw with busHeld := [.write (blkFlt .csq) 0 false] }, .csq, by decide +kernel⟩,
  ⟨cut sw, .j 12, by decide +kernel⟩,
  ⟨sw, by decide +kernel⟩,
  ⟨raisedN 22 0 full, .csq, 22, by decide +kernel⟩,
  ⟨raisedN 22 0x20 full, .csq, 22, by decide +kernel⟩,
  ⟨raisedN 22 0 full, .csq, 22, by decide +kernel⟩,
  ⟨raisedN 22 8 full, .csq, 22, by decide +kernel⟩,
  ⟨{ (raisedN 22 1 (withRegs [(0x200000, 1)] full)) with raised := [(.csq, 22), (.csq, 22)] }, .csq, 22, .csq, 22, by decide +kernel⟩,
  ⟨raisedN 22 0x20 full, .csq, 22, by decide +kernel⟩,
  ⟨raisedN 22 64 full, .csq, 22, by decide +kernel⟩,
  ⟨withRegs [(0x3010000 + 16 * 7, 1), (0x3010004 + 16 * 7, 0x40204), (0x3010008 + 16 * 7, 0x0A0B0C), (0x301000C + 16 * 7, 1), (meterAddr 63 255, 0xF0030302 + 7 * 2^16), (meterAddr 0 0, 0x10070102)] sw, 0, 0, by decide +kernel⟩⟩

/-- The hypotheses of `Obligations.RestartsClearTheFabric`, at clauses 1, 2, 3, 4, 5, 6, 7, 8, 9. -/
theorem witness_RestartsClearTheFabric :
  (∃ (s : State), Idle s ∧ halted s = false) ∧
  (∃ (s : State), Idle s ∧ halted s = true ∧ pendingFault s = true) ∧
  (∃ (s : State), Idle s ∧ halted s = true ∧ pendingFault s = false ∧ restarting s = true) ∧
  (∃ (s : State), Idle s ∧ halted s = true ∧ pendingFault s = false ∧ restarting s = false) ∧
  (∃ (s : State), Idle s ∧ halted s = false ∧ restarting s = false) ∧
  (∃ (s : State), Idle s ∧ restarting s = true) ∧
  (∃ (s : State), Idle s ∧ restarting s = true ∧ replaysLeft s = true) ∧
  (∃ (s : State), Idle s ∧ restarting s = true ∧ replaysLeft s = false ∧ (s.rack.restartWipe = true → s.wiping = false) ∧ s.rack.stopDeferred = false) ∧
  (∃ (s : State), Idle s ∧ restarting s = true ∧ replaysLeft s = false ∧ (s.rack.restartWipe = true → s.wiping = false) ∧ s.rack.stopDeferred = true) :=
  ⟨⟨full, by decide +kernel⟩,
  ⟨withRegs [(blkFlt .csq, 1), (0x100100, 0x20)] (haltedS full), by decide +kernel⟩,
  ⟨withRegs [(0x94, 2)] (haltedS full), by decide +kernel⟩,
  ⟨haltedS full, by decide +kernel⟩,
  ⟨full, by decide +kernel⟩,
  ⟨withRegs [(0x94, 2)] (haltedS full), by decide +kernel⟩,
  ⟨({ (withRegs [(0x94, 2)] (haltedS full)) with rack := { full.rack with restarting := true } }).modPort 3 (fun q => { q with replay := [⟨⟨[], 0⟩, 1, [⟨pkt 0 0x20 0 true 9 0 1 [] [], none, 0, none, false, 0, false⟩], none⟩] }), by decide +kernel⟩,
  ⟨{ (withRegs [(0x94, 2)] (haltedS full)) with rack := { full.rack with restarting := true } }, by decide +kernel⟩,
  ⟨{ (withRegs [(0x94, 2)] (haltedS full)) with rack := { full.rack with restarting := true, stopDeferred := true } }, by decide +kernel⟩⟩

/-- The hypotheses of `Obligations.TemperatureAndPowerThrottle`, at clauses 1, 2, 3, 4, 5, 6. -/
theorem witness_TemperatureAndPowerThrottle :
  (∃ (s : State) (temps : List (BitVec 16)), held s = false ∧ temps.length = 28) ∧
  (∃ (s : State) (temps : List (BitVec 16)), held s = false ∧ s.field 192 17 16 = 0 ∧
    (∀ (k : Nat), 1 ≤ k → k ≤ 3 → List.foldl max (-32768) (List.map (fun t => t.toInt) temps) < enterAt s k)) ∧
  (∃ (s : State) (temps : List (BitVec 16)), held s = false ∧ enterAt s 3 ≤ List.foldl max (-32768) (List.map (fun t => t.toInt) temps)) ∧
  (∃ (s : State) (temps : List (BitVec 16)) (m : Nat), held s = false ∧ m ≤ s.field 192 17 16 ∧
    (∀ (k : Nat), s.field 192 17 16 < k → k ≤ 3 → List.foldl max (-32768) (List.map (fun t => t.toInt) temps) < enterAt s k) ∧
    (∀ (k : Nat), 1 ≤ k → k ≤ m → enterAt s k - ↑(s.field 1049088 15 8 * 16) ≤ List.foldl max (-32768) (List.map (fun t => t.toInt) temps)) ∧
    (∀ (k : Nat), m < k → k ≤ s.field 192 17 16 → List.foldl max (-32768) (List.map (fun t => t.toInt) temps) < enterAt s k - ↑(s.field 1049088 15 8 * 16))) ∧
  (∃ (s : State), held s = false) ∧
  (∃ (s : State), held s = false ∧ s.raised = [] ∧ s.wrote = [] ∧ s.msuLast = [] ∧ s.ecbPend = [] ∧ tabSorted s.csr = true ∧ reactSet s 19 = 0) :=
  ⟨⟨withRegs [(0xC0, 0 * 2 ^ 16 + 2 * 2 ^ 18)] therm, temps 7 (400), by decide +kernel⟩,
  ⟨therm, [], by decide +kernel, by decide +kernel, bounded (by decide +kernel)⟩,
  ⟨therm, temps 27 1700, by decide +kernel⟩,
  ⟨withRegs [(0xC0, 3 * 2 ^ 16)] therm, temps 3 0, 0, by decide +kernel, by decide +kernel, bounded (by decide +kernel), bounded (by decide +kernel), bounded (by decide +kernel)⟩,
  ⟨withRegs [(0xC0, 1 * 2 ^ 16 + 0 * 2 ^ 18)] therm, by decide +kernel⟩,
  ⟨{ (withRegs [(192, 0)] sw) with now := 4 }, by decide +kernel⟩⟩


end Sys2Proof.Tests.Service
end

