-- ==== Sys2Proof/Tests/Slice0.lean ====
section
/-!
SUPPORT. The model's own tests: an ill-formed command for every check of WellFormed, the values of Tables 6.7 and 17.4, and the
witnesses of the statements about arithmetic and about the whole block.
-/

namespace Sys2Proof.Tests

open Sys2Proof Sys2Proof.Machine Sys2Proof.Claims

/-! ## Ill-formed commands -/

theorem test_wf_payload : Instr.wf (.packetForward 0 ⟨0, List.replicate 2049 0⟩) = false := by decide +kernel
theorem test_wf_frame : Instr.wf (.linkFrame 0 ⟨[], 0⟩ ⟨0, List.replicate 8 0⟩ 0) = false := by decide +kernel
theorem test_wf_ymp : Instr.wf (.ympRead 0 ⟨0, 0, .ether, none, List.replicate 9217 0, ⟨0, 0⟩⟩) = false := by decide +kernel
theorem test_wf_sensors : Instr.wf (.thermalReading []) = false := by decide +kernel
theorem test_wf_scrub_end : Instr.wf (.scrubStep 48000000000 1 ⟨[], []⟩) = false := by decide +kernel
theorem test_wf_scrub_found : Instr.wf (.scrubStep 4 2 ⟨[(6, 1)], []⟩) = false := by decide +kernel
theorem test_wf_lane_symbols : Instr.wf (.linkFrame 0 ⟨List.replicate 32 0, 0⟩ ⟨0, []⟩ 0) = false := by decide +kernel
theorem test_wf_width : Instr.wf (.registerWrite 0 2 0) = false := by decide +kernel
theorem test_wf_expert : Instr.wf (.batchAlloc 0 0 1024) = false := by decide +kernel
theorem test_wf_time : Instr.wf (.linkFrameTransmit 0 100000000) = false := by decide +kernel
theorem test_wf_good : Instr.wf (.packetForward 0 ⟨0, List.replicate 2048 0⟩) = true := by decide +kernel

/-! ## Values the spec's tables give -/

/-- Table 6.7, conversions to BF16 and FP16. -/
theorem test_table_6_7_halves :
    fmtConv 0 1 false 0x3F808000 = (0x3F80, 0) ∧ fmtConv 0 1 false 0x3F818000 = (0x3F82, 0) ∧ fmtConv 0 1 false 0x3F808001 = (0x3F81, 0) ∧
    fmtConv 0 1 false 0x7F7FFFFF = (0x7F7F, fOverflow) ∧ fmtConv 0 1 true 0x7F7FFFFF = (0x7F80, fOverflow) ∧
    fmtConv 0 2 false 0x477FEF00 = (0x7BFF, 0) ∧ fmtConv 0 2 false 0x4788B800 = (0x7BFF, fOverflow) ∧
    fmtConv 0 2 true 0x4788B800 = (0x7C00, fOverflow) ∧ fmtConv 0 2 false 0x33C00000 = (0x0002, 0) ∧
    fmtConv 0 2 false 0xB3000000 = (0x8000, 0) ∧ fmtConv 0 1 false 0xFF800001 = (0x7FC0, fNanIn) ∧
    fmtConv 0 0 false 0xFF800001 = (0xFF800001, 0) := by decide +kernel

/-- Table 6.7, conversions to and from one-byte formats. -/
theorem test_table_6_7_bytes :
    fmtConv 0 3 false 0x3BA00000 = (0x02, 0) ∧ fmtConv 1 3 false 0x43E8 = (0x7E, 0) ∧ fmtConv 1 3 true 0x43F0 = (0x7E, fOverflow) ∧
    fmtConv 1 3 false 0xFF80 = (0xFE, fOverflow) ∧ fmtConv 2 4 false 0x7B7F = (0x7B, 0) ∧ fmtConv 2 4 false 0x7B80 = (0x7B, fOverflow) ∧
    fmtConv 2 4 true 0x7B80 = (0x7C, fOverflow) ∧ fmtConv 3 0 false 0x5B = (0x41B00000, 0) ∧ fmtConv 7 5 false 0x12C = (0x7F, fOverflow) ∧
    fmtConv 7 6 false 0xFFFFFFFB = (0x00, fOverflow) := by decide +kernel

/-- What CVU_RESULT reads after the bytes "123456789" under a POLY. -/
def crcOfDigits (poly : Nat) : W64 :=
  ([0x31, 0x32, 0x33, 0x34, 0x35, 0x36, 0x37, 0x38, 0x39] : List Byte).foldl (cvuByte poly) (cvuInitial poly) ^^^ cvuFinalXor poly

/-- Table 17.4, its last column. -/
theorem test_table_17_4 : crcOfDigits 0 = 0xE3069283 ∧ crcOfDigits 1 = 0xCBF43926 ∧ crcOfDigits 2 = 0x29B1 ∧
    crcOfDigits 3 = 0x6C40DF5F0B497347 := by decide +kernel

/-- Table 2 of R66: the PAM4 levels of the pairs 00, 01, 11 and 10. -/
theorem test_pam4_levels : (graySteps [false, false, false, true, true, true, true, false]).map pamLevel = [-3, -1, 1, 3] := by decide +kernel

/-- R66: the precoder takes each step less the one it sent before, modulo 4. -/
theorem test_precoder : precode 0 [1, 1, 0, 3] = [1, 0, 0, 3] := by decide +kernel

/-- R66: the generator has degree 30, and a shortened word with its parity vanishes at the powers 0 to 29 of x, where a message alone
does not. -/
theorem test_rs_parity :
    let roots := fun (c : List Gf) => (List.range 30).all (fun j => c.foldl (fun v x => gfMul v (gfPow j) ^^^ x) 0 == 0)
    gfMul 0x200 2 = 0x009 ∧ rsGen.length = 31 ∧ roots (rsEncode [5, 0x3FF]) = true ∧ roots ([5, 0x3FF] ++ List.replicate 30 0) = false := by
  decide +kernel

/-- R404: GATE_EPOCH is high for the 32 ns from a boundary on; 11 CCLK cycles are 31.4 ns. -/
theorem test_gate_epoch :
    let at_ := fun (t : Nat) => gateEpoch (withRegs [(0x40, 1)] { on with now := t, rack := { on.rack with drivenAt := some 100 } })
    at_ 111 = some true ∧ at_ 112 = some false ∧ gateEpoch State.reset = none := by decide +kernel

/-- R401: NVM_RESET_N rises 100 µs after the reset. -/
theorem test_nvm_reset : nvmResetN { on with now := 34999 } = false ∧ nvmResetN { on with now := 35000 } = true ∧
    nvmResetN State.reset = false := by decide +kernel

/-- R400: bit 0 of IDCODE is 1, bits [27:12] PART, bits [31:28] GRADE. -/
theorem test_idcode : (idcode on).getLsbD 0 = true ∧ (idcode on).toNat / 2 ^ 12 % 2 ^ 16 = 0x6440 ∧
    (idcode on).toNat / 2 ^ 28 = on.fuses.grade := by
  unfold idcode
  generalize Config.makerCode = m
  revert m
  decide +kernel

/-- R355: JTAG reaches the register blocks in BLANK and PROVISIONED only. -/
theorem test_jtag_states :
    [0, 1, 2, 3].map (fun n => jtagFull { on with fuses := { on.fuses with lcState := n } }) = [true, true, false, false] := by decide +kernel

/-- R31: an error of one symbol is corrected, one of two bits in two symbols detected. -/
theorem test_flaw_class : flawClass 0xFF = .corrected ∧ flawClass 0x101 = .detected ∧ flawClass 0 = .clean := by decide +kernel

/-! ## Witnesses -/

/-- The hypotheses of `Obligations.SpecialValuesFollowTheTable`, clause by clause. -/
theorem witness_SpecialValuesFollowTheTable :
    (∃ a b c : W32, isZero a = true ∧ isInf b = true ∧ isNaN c = false) ∧ (∃ a b : W32, isInf a = true ∧ isNaN b = false ∧ isZero b = false) ∧
    (∃ a : W32, isNaN a = true) ∧ (∃ a b : W32, isInf a = true ∧ isInf b = true ∧ a = b) ∧
    (∃ a b c : W32, isInf a = true ∧ isNaN b = false ∧ isZero b = false ∧ isFin c = true) ∧
    (∃ a b c : W32, isFin a = true ∧ isFin b = true ∧ isInf c = true) ∧ (∃ a : W32, isFin a = true ∧ isZero a = false) ∧
    (∃ a b c : W32, isFin a = true ∧ isFin b = true ∧ isFin c = true) ∧
    (∃ a b : W32, isFin a = true ∧ isFin b = true ∧ beyond ≤ (exactly a + exactly b).natAbs ∧ exactly a + exactly b < 0) ∧
    (∃ a b : W32, isFin a = true ∧ isFin b = true ∧ (exactly a + exactly b).natAbs < beyond) ∧
    (∃ a b c : W32, isFin a = true ∧ isFin b = true ∧ isFin c = true ∧
      beyond * 2 ^ 149 ≤ (exactly a * exactly b + exactly c * 2 ^ 149).natAbs ∧ (exactly a * exactly b).natAbs < beyond * 2 ^ 149) :=
  ⟨⟨0x80000000, 0xFF800000, 0xFF7FFFFF, by decide +kernel⟩, ⟨0x7F800000, 1, by decide +kernel⟩, ⟨0x7F800001, by decide +kernel⟩,
    ⟨0xFF800000, 0xFF800000, by decide +kernel⟩, ⟨0x7F800000, 0x80000001, 0x7F7FFFFF, by decide +kernel⟩,
    ⟨0x7F7FFFFF, 0x7F7FFFFF, 0xFF800000, by decide +kernel⟩, ⟨1, by decide +kernel⟩,
    ⟨0x7F7FFFFF, 0xFF7FFFFF, 0, by decide +kernel⟩, ⟨0xFF7FFFFF, 0xF3000000, by decide +kernel⟩, ⟨0x7F7FFFFF, 0x72FFFFFF, by decide +kernel⟩,
    ⟨0x3F800000, 0x7F7FFFFF, 0x73000000, by decide +kernel⟩⟩

/-- The hypotheses of `Obligations.IntegersSaturate`, at the ends of the two codes and of the source's range. -/
theorem witness_IntegersSaturate :
    (∃ src dst x : Nat, 5 ≤ src ∧ src ≤ 7 ∧ 5 ≤ dst ∧ dst ≤ 7 ∧ x < 2 ^ (8 * fmtSize src) ∧ x = 0xFFFFFFFF) ∧
    (∃ src dst x : Nat, 5 ≤ src ∧ src ≤ 7 ∧ 5 ≤ dst ∧ dst ≤ 7 ∧ x < 2 ^ (8 * fmtSize src) ∧ x = 0x80) :=
  ⟨⟨7, 5, 0xFFFFFFFF, by decide +kernel⟩, ⟨5, 7, 0x80, by decide +kernel⟩⟩

/-- The hypotheses of `Obligations.WideningIsExact`, clauses 1 and 2. -/
theorem witness_WideningIsExact :
    (∃ fmt x : Nat, fmt < 8 ∧ x < 2 ^ (8 * fmtSize fmt) ∧ (fmt < 5 → fdecode (ffmt fmt) x ≠ .nan)) ∧
    (∃ fmt x : Nat, 0 < fmt ∧ fmt < 5 ∧ fdecode (ffmt fmt) x = .nan) :=
  ⟨⟨4, 0x7C, by decide +kernel⟩, ⟨4, 0x7F, by decide +kernel⟩⟩

/-- The hypotheses of `Obligations.AbsentAddressesReadZero`, at the top of the address space, its fourth to sixth clause
among them. -/
theorem witness_AbsentAddressesReadZero :
    ∃ (s : State) (a : W32) (w : Nat) (v : W64) (auth : Bool), 0 < w ∧ (∀ i, i < w → regAt (a.toNat + i) = none) ∧ s.raised = [] ∧
      writeStatus s a.toNat v.toNat auth = yOk ∧ BusFree s a.toNat ∧
      mustHold s a.toNat false = false ∧ Whole s :=
  ⟨on, 0xFFFFFFF8, 8, 5, true, by decide,
    fun i hi => Option.isNone_iff_eq_none.mp ((by decide +kernel : ∀ i, i < 8 → (regAt (0xFFFFFFF8 + i)).isNone = true) i hi),
    by decide +kernel⟩

/-- The hypotheses of `Obligations.StepRunsTheFrontCommand`, clauses 3 to 5; of clause 4 with an event that still waits at the ECB and a
field written in the cycle. -/
theorem witness_StepRunsTheFrontCommand :
    (∃ s : State, s.pending = [] ∧ held s = true) ∧
    (∃ (s : State) (x : Nat) (k v : W64), s.pending = [] ∧ held s = false ∧ s.now % 2 = 0 ∧ s.raised = [] ∧ s.msuLast = [] ∧ (∀ e ∈ s.ecbPend, ∀ y ∈ e.2, y.1 < 256) ∧
      tabSorted s.csr = true ∧ s.ecbPend ≠ [] ∧ s.wrote = [(x, k, v)] ∧ counts x = false) ∧
    (∃ s : State, s.pending = [] ∧ held s = false) :=
  ⟨⟨State.reset, by decide +kernel⟩,
    ⟨{ sw with csr := tabSet [] 0x20 0x80000, ecbPend := [(0, [(255, 3)])], wrote := [(0x28, 0xFF, 7)] }, 0x28, 0xFF, 7, by decide +kernel⟩,
    ⟨sw, by decide +kernel⟩⟩

/-- The hypotheses of `Obligations.EveryStepKeepsTheStateSound`: the running switch is sound, and a step answers a next state. -/
theorem witness_EveryStepKeepsTheStateSound : ∃ s u : State, Sound s ∧ step s = .next u ∧ held s = false :=
  ⟨sw, tick sw, by unfold Sound; decide +kernel,
    by unfold step; rw [show sw.pending = [] from by decide +kernel], by decide +kernel⟩

end Sys2Proof.Tests
end

