-- ==== Sys2Proof/Tests/Store.lean ====
section
/-!
SUPPORT. Witnesses: states and operands that meet the hypotheses of each statement, clause by clause (waits, releases, buffers and requests of the store, the milestones and the pools).
-/

namespace Sys2Proof.Tests.Store

open Sys2Proof Sys2Proof.Machine Sys2Proof.Claims Sys2Proof.Tests

set_option Elab.async false

def mo (ms op nt val tag : Nat) : Packet := pkt 0 0x20 0 true 9 0 1 [] [(256,16,ms),(272,8,op),(280,1,nt),(288,64,val),(384,32,tag)]
def sWait : State := { sw with waits := [⟨65535, 5, 0, 3, 0, 0⟩, ⟨7, 5, 0, 3, 0, 1⟩, ⟨7, 9, 0, 3, 0, 1⟩] }
def sFull : State := { sw with waits := List.replicate 4096 ⟨7, 9, 0, 3, 0, 1⟩ }
def rel1 : Release := ⟨5, 6, .inFlight, 7, 5, true, true, 0, 0⟩
def rel0 : Release := ⟨5, 6, .inFlight, 7, 5, false, true, 0, 0⟩
def cnt (b : Blk) (n : Nat) (s : State) (p : Packet) : MsgCtx × Bool × Bool × State :=
  countedOf (msgArrive b n (servPkt s n p) (servSt s n p))
theorem cnt_of {b : Blk} {a n : Nat} {s : State} {p : Packet} {f k : Bool} (ha : a = n)
    (h : (match (msgArrive b n (servPkt s n p) (servSt s n p)).1 with | .counted _ f' k' => f' == f && k' == k | _ => false) = true) :
    msgArrive b a (servPkt s n p) (servSt s n p) = (.counted (cnt b n s p).1 f k, (cnt b n s p).2.2.2) := by
  subst ha; exact counted_of h
def s0 : State := withRegs [(0x6000010, 1), (0x100100 + 4 * 21, 0)] { sw with mem := cellWrite 0 [] 0x100000 (leBytes 8 0x4000000040000000 ++ leBytes 8 0x400000003F800000) }
def scw (wf mf cntB : Nat) (rows stride elem ms msen ntfy : Nat) (typ idx cnt mid : Nat) (pay : List Byte) : Packet :=
  pkt 0 typ 0 true mid idx cnt pay [(256,40,0x100000),(296,4,wf),(300,4,mf),(304,16,rows),(320,32,stride),(352,32,elem),(384,16,ms),(400,1,msen),(401,1,ntfy),(416,32,7 + cntB)]
def sRel : State := { s0 with releases := [⟨0,9,.awaitEnd,7,5,true,true,0,0⟩, ⟨1,9,.awaitEnd,7,5,true,true,0,0⟩,⟨0,9,.awaitHanded,7,5,true,true,0,0⟩] }
def ents : List Byte := leBytes 8 0x100000 ++ leBytes 8 0x100010 ++ leBytes 8 0x100020 ++ leBytes 8 0x200000
def b0 : Buf := ⟨0, 0, 0, 1, [cw 0, cw 1], cw 1, none⟩
def b1 : Buf := ⟨0, 0, 1, 1, [cw 0], cw 0, none⟩
def hOf (b : Buf) : W32 := handleOf b
def pooled : State := bpmApply (withRegs [(0x7000000, 0x210), (0x7000004, 0x210), (0x7000010, 0x0004000400040004), (0x7000018, 0x0004000400040004), (0x7000060, 4), (0x7000064, 2), (0x7000048, 0x100000)] sw)
def sPool : State := { pooled with bpm := { pooled.bpm with bufs := [b0, b1] } }
def plp (typ : Nat) (own : List (Nat × Nat × Nat)) : Packet := pkt 0 typ 0 true 9 0 1 [] own
def sRe : State := { sPool with bpm := { sPool.bpm with bufs := [] } }

/-- The hypotheses of `Obligations.MilestonesTakeTheirValues`, at clauses 1, 2, 3, 4, 5, 6, 7, 8, 9, 10. -/
theorem witness_MilestonesTakeTheirValues :
  (∃ (s : State) (n : Fin 64) (p : Packet) (q : Packet) (t : State), Taken s n p q t ∧ Counted Blk.msu n q t ∧ q.typ = 32 ∧ moOp q = 0 ∧ q.ssvc = false) ∧
  (∃ (s : State) (n : Fin 64) (p : Packet) (q : Packet) (t : State), Taken s n p q t ∧ Counted Blk.msu n q t ∧ q.typ = 32 ∧ moOp q = 1 ∧ q.ssvc = false) ∧
  (∃ (s : State) (n : Fin 64) (p : Packet) (q : Packet) (t : State), Taken s n p q t ∧ Counted Blk.msu n q t ∧ q.typ = 32 ∧ moOp q = 2 ∧ q.ssvc = false ∧
    moValue q ≤ msValue s (moMs q)) ∧
  (∃ (s : State) (n : Fin 64) (p : Packet) (q : Packet) (t : State), Taken s n p q t ∧ Counted Blk.msu n q t ∧ q.typ = 32 ∧ moOp q = 2 ∧ q.ssvc = false ∧
    msValue s (moMs q) < moValue q ∧ (List.filter (fun w => msHome w.ms == msHome (moMs q)) s.waits).length < 4096) ∧
  (∃ (s : State) (n : Fin 64) (p : Packet) (q : Packet) (t : State), Taken s n p q t ∧ Counted Blk.msu n q t ∧ q.typ = 32 ∧ moOp q = 2 ∧ q.ssvc = false ∧
    msValue s (moMs q) < moValue q ∧ 4096 ≤ (List.filter (fun w => msHome w.ms == msHome (moMs q)) s.waits).length) ∧
  (∃ (s : State) (src : W32) (msgId : W32) (r : Release), coreOn s = true ∧ Whole s ∧
    List.find? (fun r => r.src == src && r.msgId == msgId && r.stage == RelStage.inFlight) s.releases = some r ∧ r.msen = true) ∧
  (∃ (s : State) (src : W32) (msgId : W32) (r : Release), coreOn s = true ∧ Whole s ∧
    List.find? (fun r => r.src == src && r.msgId == msgId && r.stage == RelStage.inFlight) s.releases = some r ∧ r.msen = false) ∧
  (∃ (s : State), coreOn s = true) ∧
  (∃ (s : State) (m : BitVec 16) (v : W64), Whole s ∧ s.msuLast = [(m.toNat, v)]) ∧
  (∃ (s : State) (m : BitVec 16) (v : W64), held s = false ∧ s.now % 2 = 0 ∧ s.raised = [] ∧ s.waits = [] ∧ Whole s ∧ s.msuLast = [(m.toNat, v)]) :=
  ⟨⟨sWait, 0, mo 7 0 0 5 0, servPkt sWait 0 (mo 7 0 0 5 0), servSt sWait 0 (mo 7 0 0 5 0), taken_of (by decide +kernel), counted_ex (by decide +kernel), by decide +kernel⟩,
  ⟨sWait, 0, mo 65535 1 0 6 0, servPkt sWait 0 (mo 65535 1 0 6 0), servSt sWait 0 (mo 65535 1 0 6 0), taken_of (by decide +kernel), counted_ex (by decide +kernel), by decide +kernel⟩,
  ⟨sWait, 0, mo 7 2 0 0 3, servPkt sWait 0 (mo 7 2 0 0 3), servSt sWait 0 (mo 7 2 0 0 3), taken_of (by decide +kernel), counted_ex (by decide +kernel), by decide +kernel⟩,
  ⟨sWait, 0, mo 7 2 0 6 3, servPkt sWait 0 (mo 7 2 0 6 3), servSt sWait 0 (mo 7 2 0 6 3), taken_of (by decide +kernel), counted_ex (by decide +kernel), by decide +kernel⟩,
  ⟨sFull, 0, mo 7 2 0 6 3, servPkt sFull 0 (mo 7 2 0 6 3), servSt sFull 0 (mo 7 2 0 6 3), taken_of (by decide +kernel), counted_ex (by decide +kernel), by decide +kernel, by decide +kernel, by decide +kernel, by decide +kernel, Nat.le_of_eq (by
      show 4096 = (List.filter _ (List.replicate 4096 _)).length
      rw [List.filter_replicate, if_pos (by decide +kernel), List.length_replicate])⟩,
  ⟨{ sWait with releases := [rel1] }, 5, 6, rel1, by decide +kernel⟩,
  ⟨{ sWait with releases := [rel0] }, 5, 6, rel0, by decide +kernel⟩,
  ⟨sWait, by decide +kernel⟩,
  ⟨{ sWait with msuLast := [(7, 6)] }, 7, 6, by decide +kernel⟩,
  ⟨{ sw with msuLast := [(7, 6)], milestones := [(7, 9)] }, 7, 6, by decide +kernel⟩⟩

/-- The hypotheses of `Obligations.StoreHoldsWhatIsWritten`, at clauses 1.1, 1.2, 1.3, 2.1, 2.2, 2.3, 2.4, 2.5. -/
theorem witness_StoreHoldsWhatIsWritten :
  (∃ (s : State) (first : Nat) (count : Nat) (g : Nat), coreOn s = true ∧ s.wiping = false ∧ s.field 100663312 7 0 ≠ 0 ∧ s.flaws = [] ∧
    s.poison.contains g = false ∧ first ≤ g ∧ g < first + count ∧ 16 * g < storeEnd) ∧
  (∃ (s : State), s.wiping = true) ∧
  (∃ (s : State), coreOn s = true) ∧
  (∃ (s : State) (n : Fin 64) (p : Packet) (q : Packet) (t : State) (t' : State) (c : MsgCtx) (first : Bool) (complete : Bool), Taken s n p q t ∧
    q.typ = 1 ∧ msgArrive Blk.tsc (n.val) q t = (MsgRes.counted c first complete, t') ∧ rwRow t' q = 0 ∧ scRows q = 0 ∧
    Clean s (scAddr q + scElem q * fmtSize (scM q)) (q.paylen / fmtSize (scW q) * fmtSize (scM q))) ∧
  (∃ (s : State) (n : Fin 64) (p : Packet) (q : Packet) (t : State) (t' : State) (c : MsgCtx) (first : Bool) (complete : Bool), Taken s n p q t ∧
    q.typ = 1 ∧ msgArrive Blk.tsc (n.val) q t = (MsgRes.counted c first complete, t') ∧ rwRow t' q = 0 ∧ scRows q ≠ 0) ∧
  (∃ (s : State) (n : Fin 64) (p : Packet) (q : Packet) (t : State) (t' : State) (c : MsgCtx) (first : Bool) (complete : Bool), Taken s n p q t ∧
    q.typ = 1 ∧ msgArrive Blk.tsc (n.val) q t = (MsgRes.counted c first complete, t') ∧ rwRow t' q = 3) ∧
  (∃ (s : State), coreOn s = true) ∧
  (∃ (s : State), coreOn s = true) :=
  ⟨⟨s0, 0, 4, 2, by decide +kernel⟩,
  ⟨{ s0 with wiping := true }, by decide +kernel⟩,
  ⟨s0, by decide +kernel⟩,
  ⟨s0, 0, scw 0 0 0 0 0 8 7 1 1 1 0 1 9 ([0,0,0x80,0x3F,0,0,0,0x40] ++ List.replicate 8 0x40), servPkt s0 0 (scw 0 0 0 0 0 8 7 1 1 1 0 1 9 ([0,0,0x80,0x3F,0,0,0,0x40] ++ List.replicate 8 0x40)), servSt s0 0 (scw 0 0 0 0 0 8 7 1 1 1 0 1 9 ([0,0,0x80,0x3F,0,0,0,0x40] ++ List.replicate 8 0x40)), (cnt .tsc 0 s0 (scw 0 0 0 0 0 8 7 1 1 1 0 1 9 ([0,0,0x80,0x3F,0,0,0,0x40] ++ List.replicate 8 0x40))).2.2.2, (cnt .tsc 0 s0 (scw 0 0 0 0 0 8 7 1 1 1 0 1 9 ([0,0,0x80,0x3F,0,0,0,0x40] ++ List.replicate 8 0x40))).1, (cnt .tsc 0 s0 (scw 0 0 0 0 0 8 7 1 1 1 0 1 9 ([0,0,0x80,0x3F,0,0,0,0x40] ++ List.replicate 8 0x40))).2.1, (cnt .tsc 0 s0 (scw 0 0 0 0 0 8 7 1 1 1 0 1 9 ([0,0,0x80,0x3F,0,0,0,0x40] ++ List.replicate 8 0x40))).2.2.1, taken_of (by decide +kernel), by decide +kernel, cnt_of rfl (by decide +kernel), by decide +kernel⟩,
  ⟨s0, 0, scw 0 0 0 4 1024 130 7 1 1 1 0 1 9 ([0,0,0x80,0x3F,0,0,0,0x40] ++ List.replicate 8 0x40), servPkt s0 0 (scw 0 0 0 4 1024 130 7 1 1 1 0 1 9 ([0,0,0x80,0x3F,0,0,0,0x40] ++ List.replicate 8 0x40)), servSt s0 0 (scw 0 0 0 4 1024 130 7 1 1 1 0 1 9 ([0,0,0x80,0x3F,0,0,0,0x40] ++ List.replicate 8 0x40)), (cnt .tsc 0 s0 (scw 0 0 0 4 1024 130 7 1 1 1 0 1 9 ([0,0,0x80,0x3F,0,0,0,0x40] ++ List.replicate 8 0x40))).2.2.2, (cnt .tsc 0 s0 (scw 0 0 0 4 1024 130 7 1 1 1 0 1 9 ([0,0,0x80,0x3F,0,0,0,0x40] ++ List.replicate 8 0x40))).1, (cnt .tsc 0 s0 (scw 0 0 0 4 1024 130 7 1 1 1 0 1 9 ([0,0,0x80,0x3F,0,0,0,0x40] ++ List.replicate 8 0x40))).2.1, (cnt .tsc 0 s0 (scw 0 0 0 4 1024 130 7 1 1 1 0 1 9 ([0,0,0x80,0x3F,0,0,0,0x40] ++ List.replicate 8 0x40))).2.2.1, taken_of (by decide +kernel), by decide +kernel, cnt_of rfl (by decide +kernel), by decide +kernel⟩,
  ⟨s0, 0, pkt 0 1 0 true 9 0 1 ([0,0,0x80,0x3F,0,0,0,0x40] ++ List.replicate 8 0x40) [(256,40,0xFFFFFFFF00)], servPkt s0 0 (pkt 0 1 0 true 9 0 1 ([0,0,0x80,0x3F,0,0,0,0x40] ++ List.replicate 8 0x40) [(256,40,0xFFFFFFFF00)]), servSt s0 0 (pkt 0 1 0 true 9 0 1 ([0,0,0x80,0x3F,0,0,0,0x40] ++ List.replicate 8 0x40) [(256,40,0xFFFFFFFF00)]), (cnt .tsc 0 s0 (pkt 0 1 0 true 9 0 1 ([0,0,0x80,0x3F,0,0,0,0x40] ++ List.replicate 8 0x40) [(256,40,0xFFFFFFFF00)])).2.2.2, (cnt .tsc 0 s0 (pkt 0 1 0 true 9 0 1 ([0,0,0x80,0x3F,0,0,0,0x40] ++ List.replicate 8 0x40) [(256,40,0xFFFFFFFF00)])).1, (cnt .tsc 0 s0 (pkt 0 1 0 true 9 0 1 ([0,0,0x80,0x3F,0,0,0,0x40] ++ List.replicate 8 0x40) [(256,40,0xFFFFFFFF00)])).2.1, (cnt .tsc 0 s0 (pkt 0 1 0 true 9 0 1 ([0,0,0x80,0x3F,0,0,0,0x40] ++ List.replicate 8 0x40) [(256,40,0xFFFFFFFF00)])).2.2.1, taken_of (by decide +kernel), by decide +kernel, cnt_of rfl (by decide +kernel), by decide +kernel⟩,
  ⟨sRel, by decide +kernel⟩,
  ⟨sRel, by decide +kernel⟩⟩

/-- The hypotheses of `Obligations.StoreReadsAnswerWithTheirElements`, at clauses 1, 2, 3. -/
theorem witness_StoreReadsAnswerWithTheirElements :
  (∃ (s : State) (n : Fin 64) (p : Packet) (q : Packet) (t : State) (t' : State) (c : MsgCtx) (first : Bool), Taken s n p q t ∧ q.typ = 2 ∧
    msgArrive Blk.tsc (n.val) q t = (MsgRes.counted c first true, t') ∧ rwRow t' q = 0 ∧ scRows q = 0 ∧ scElem q * fmtSize (scW q) ≤ 2048 ∧ s.flaws = [] ∧
    Clean s (scAddr q) (scElem q * fmtSize (scM q)) ∧ c.port = n.val ∧ windowRoom t' (q.msgId % 4) = true) ∧
  (∃ (s : State) (n : Fin 64) (p : Packet) (q : Packet) (t : State) (t' : State) (c : MsgCtx) (first : Bool), Taken s n p q t ∧ q.typ = 4 ∧ q.cnt = 1 ∧
    msgArrive Blk.tsc (n.val) q t = (MsgRes.counted c first true, t') ∧ first = true ∧
    findResp s (BitVec.ofNat 32 q.src) (BitVec.ofNat 32 q.msgId) = none ∧ windowRoom t' (q.msgId % 4) = true ∧ s.flaws = [] ∧ gatherRow q = 0 ∧
    entriesRow t' [] (listEntries q (scStride q)) (scRows q) (scStride q) true = 0 ∧
    (List.foldl (fun l e => tabSet l e.fst e.snd) [] (listEntries q (scStride q))).length = scStride q ∧
    scStride q * (scRows q / fmtSize (scM q)) * fmtSize (scW q) ≤ 2048 ∧ (∀ (e : Nat × Nat), e ∈ listEntries q (scStride q) → Clean s e.snd (scRows q))) ∧
  (∃ (s : State) (n : Fin 64) (p : Packet) (q : Packet) (t : State) (t' : State) (c : MsgCtx) (first : Bool) (a : Nat) (rest : List Nat), Taken s n p q t ∧
    q.typ = 5 ∧ q.cnt = 1 ∧ msgArrive Blk.tsc (n.val) q t = (MsgRes.counted c first true, t') ∧ first = true ∧
    findResp s (BitVec.ofNat 32 q.src) (BitVec.ofNat 32 q.msgId) = none ∧ windowRoom t' (q.msgId % 4) = true ∧ s.flaws = [] ∧ gatherRow q = 0 ∧
    entriesRow t' [] (listEntries q (scStride q)) (scRows q) (scStride q) true = 0 ∧
    (List.foldl (fun l e => tabSet l e.fst e.snd) [] (listEntries q (scStride q))).length = scStride q ∧
    scRows q / fmtSize (scM q) * fmtSize (scW q) ≤ 2048 ∧ (∀ (e : Nat × Nat), e ∈ listEntries q (scStride q) → Clean s e.snd (scRows q)) ∧
    List.map Prod.snd (List.foldl (fun l e => tabSet l e.fst e.snd) [] (listEntries q (scStride q))) = a :: rest) :=
  ⟨⟨s0, 0, scw 0 0 0 0 0 16 7 1 1 2 0 1 9 [], servPkt s0 0 (scw 0 0 0 0 0 16 7 1 1 2 0 1 9 []), servSt s0 0 (scw 0 0 0 0 0 16 7 1 1 2 0 1 9 []), (cnt .tsc 0 s0 (scw 0 0 0 0 0 16 7 1 1 2 0 1 9 [])).2.2.2, (cnt .tsc 0 s0 (scw 0 0 0 0 0 16 7 1 1 2 0 1 9 [])).1, (cnt .tsc 0 s0 (scw 0 0 0 0 0 16 7 1 1 2 0 1 9 [])).2.1, taken_of (by decide +kernel), by decide +kernel, cnt_of rfl (by decide +kernel), by decide +kernel⟩,
  ⟨s0, 0, scw 0 0 0 32 4 0 7 1 1 4 0 1 9 ents, servPkt s0 0 (scw 0 0 0 32 4 0 7 1 1 4 0 1 9 ents), servSt s0 0 (scw 0 0 0 32 4 0 7 1 1 4 0 1 9 ents), (cnt .tsc 0 s0 (scw 0 0 0 32 4 0 7 1 1 4 0 1 9 ents)).2.2.2, (cnt .tsc 0 s0 (scw 0 0 0 32 4 0 7 1 1 4 0 1 9 ents)).1, (cnt .tsc 0 s0 (scw 0 0 0 32 4 0 7 1 1 4 0 1 9 ents)).2.1, taken_of (by decide +kernel), by decide +kernel, by decide +kernel, cnt_of rfl (by decide +kernel), by decide +kernel⟩,
  ⟨s0, 0, scw 0 1 0 32 4 0 7 1 1 5 0 1 9 ents, servPkt s0 0 (scw 0 1 0 32 4 0 7 1 1 5 0 1 9 ents), servSt s0 0 (scw 0 1 0 32 4 0 7 1 1 5 0 1 9 ents), (cnt .tsc 0 s0 (scw 0 1 0 32 4 0 7 1 1 5 0 1 9 ents)).2.2.2, (cnt .tsc 0 s0 (scw 0 1 0 32 4 0 7 1 1 5 0 1 9 ents)).1, (cnt .tsc 0 s0 (scw 0 1 0 32 4 0 7 1 1 5 0 1 9 ents)).2.1, 0x100000, [0x100010,0x100020,0x200000], taken_of (by decide +kernel), by decide +kernel, by decide +kernel, cnt_of rfl (by decide +kernel), by decide +kernel⟩⟩

/-- The hypotheses of `Obligations.PoolRequestsChangeTheBuffers`, at clauses 1, 2, 3, 4, 5, 6, 7, 8, 9. -/
theorem witness_PoolRequestsChangeTheBuffers :
  (∃ (s : State) (n : Fin 64) (p : Packet) (q : Packet) (t : State) (k : Nat) (i : Nat), Taken s n p q t ∧ Counted Blk.bpm n q t ∧ q.typ = 40 ∧
    q.ssvc = false ∧ cwInside s (plCw q) = true ∧ plSize q ≠ 0 ∧ poolFor (plBack q) (plSize q) = some k ∧
    freeIndex s k (if plBack q = true then 0 else if finalHere s (plCw q) = true then quadOf (cwP (BitVec.toNat (plCw q))) else 1) = some i) ∧
  (∃ (s : State) (n : Fin 64) (p : Packet) (q : Packet) (t : State) (b : Buf), Taken s n p q t ∧ Counted Blk.bpm n q t ∧ q.typ = 42 ∧ q.ssvc = false ∧
    cwInside s (plCw q) = true ∧ findBuf s (plHandle q) = some b ∧ tabGet s.bpm.flawed (bufKey b.pool b.quad b.index) = none ∧
    b.owners.contains (BitVec.ofNat 32 q.src) = true ∧ b.owners.contains (plCw q) = false ∧ b.owners.length < 8) ∧
  (∃ (s : State) (n : Fin 64) (p : Packet) (q : Packet) (t : State) (b : Buf), Taken s n p q t ∧ Counted Blk.bpm n q t ∧ q.typ = 43 ∧ q.ssvc = false ∧
    findBuf s (plHandle q) = some b ∧ tabGet s.bpm.flawed (bufKey b.pool b.quad b.index) = none ∧ b.owners.contains (BitVec.ofNat 32 q.src) = true ∧
    BitVec.ofNat 32 q.src ≠ b.final) ∧
  (∃ (s : State) (n : Fin 64) (p : Packet) (q : Packet) (t : State) (b : Buf), Taken s n p q t ∧ Counted Blk.bpm n q t ∧ q.typ = 43 ∧ q.ssvc = false ∧
    findBuf s (plHandle q) = some b ∧ tabGet s.bpm.flawed (bufKey b.pool b.quad b.index) = none ∧ b.owners.contains (BitVec.ofNat 32 q.src) = true ∧
    BitVec.ofNat 32 q.src = b.final ∧ b.owners.length ≤ 1) ∧
  (∃ (s : State) (n : Fin 64) (p : Packet) (q : Packet) (t : State) (b : Buf), Taken s n p q t ∧ Counted Blk.bpm n q t ∧ q.typ = 44 ∧ q.ssvc = false ∧
    findBuf s (plHandle q) = some b ∧ tabGet s.bpm.flawed (bufKey b.pool b.quad b.index) = none ∧ b.owners.contains (BitVec.ofNat 32 q.src) = true ∧
    BitVec.ofNat 32 q.src = b.final ∧ b.owners.length ≤ 1) ∧
  (∃ (s : State) (n : Fin 64) (p : Packet) (q : Packet) (t : State) (b : Buf), Taken s n p q t ∧ Counted Blk.bpm n q t ∧ q.typ = 44 ∧ q.ssvc = false ∧
    findBuf s (plHandle q) = some b ∧ tabGet s.bpm.flawed (bufKey b.pool b.quad b.index) = none ∧ b.owners.contains (BitVec.ofNat 32 q.src) = true ∧
    (BitVec.ofNat 32 q.src ≠ b.final ∨ 1 < b.owners.length)) ∧
  (∃ (s : State) (h : W32) (b : Buf), held s = false ∧ findBuf s h = some b ∧ tabGet s.bpm.flawed (bufKey b.pool b.quad b.index) = none) ∧
  (∃ (s : State) (b : Buf), held s = false ∧ s.bpm.bufs = [] ∧ (s.xsteps.any fun x => x.batches.any fun b => !b.given) = false ∧
    (bpmLegal s fun a => s.regN a) = true) ∧
  (∃ (s : State) (b : Buf), held s = false ∧ (s.bpm.bufs ≠ [] ∨ (s.xsteps.any fun x => x.batches.any fun b => !b.given) = true)) :=
  ⟨⟨sPool, 0, plp 0x28 [(256,32,4096),(288,1,1),(320,32,262144)], servPkt sPool 0 (plp 0x28 [(256,32,4096),(288,1,1),(320,32,262144)]), servSt sPool 0 (plp 0x28 [(256,32,4096),(288,1,1),(320,32,262144)]), 4, (freeIndex sPool 4 0).getD 0, taken_of (by decide +kernel), counted_ex (by decide +kernel), by decide +kernel⟩,
  ⟨sPool, 0, plp 0x2A [(256,32,(hOf b1).toNat),(320,32,1310720)], servPkt sPool 0 (plp 0x2A [(256,32,(hOf b1).toNat),(320,32,1310720)]), servSt sPool 0 (plp 0x2A [(256,32,(hOf b1).toNat),(320,32,1310720)]), b1, taken_of (by decide +kernel), counted_ex (by decide +kernel), by decide +kernel⟩,
  ⟨sPool, 0, plp 0x2B [(256,32,(hOf b0).toNat),(320,32,0)], servPkt sPool 0 (plp 0x2B [(256,32,(hOf b0).toNat),(320,32,0)]), servSt sPool 0 (plp 0x2B [(256,32,(hOf b0).toNat),(320,32,0)]), b0, taken_of (by decide +kernel), counted_ex (by decide +kernel), by decide +kernel⟩,
  ⟨sPool, 0, plp 0x2B [(256,32,(hOf b1).toNat),(320,32,0)], servPkt sPool 0 (plp 0x2B [(256,32,(hOf b1).toNat),(320,32,0)]), servSt sPool 0 (plp 0x2B [(256,32,(hOf b1).toNat),(320,32,0)]), b1, taken_of (by decide +kernel), counted_ex (by decide +kernel), by decide +kernel⟩,
  ⟨sPool, 0, plp 0x2C [(256,32,(hOf b1).toNat),(320,32,0)], servPkt sPool 0 (plp 0x2C [(256,32,(hOf b1).toNat),(320,32,0)]), servSt sPool 0 (plp 0x2C [(256,32,(hOf b1).toNat),(320,32,0)]), b1, taken_of (by decide +kernel), counted_ex (by decide +kernel), by decide +kernel⟩,
  ⟨sPool, 0, plp 0x2C [(256,32,(hOf b0).toNat),(320,32,0)], servPkt sPool 0 (plp 0x2C [(256,32,(hOf b0).toNat),(320,32,0)]), servSt sPool 0 (plp 0x2C [(256,32,(hOf b0).toNat),(320,32,0)]), b0, taken_of (by decide +kernel), counted_ex (by decide +kernel), by decide +kernel⟩,
  ⟨sPool, hOf b0, b0, by decide +kernel⟩,
  ⟨sRe, b0, by decide +kernel⟩,
  ⟨sPool, b0, by decide +kernel⟩⟩


end Sys2Proof.Tests.Store
end

