-- ==== Sys2Proof/Tests/Tables.lean ====
section
/-!
SUPPORT. Witnesses: states and operands that meet the hypotheses of each statement, clause by clause (units, contracts, routing tables, descriptors, groups and expert tables).
-/

namespace Sys2Proof.Tests.Tables

open Sys2Proof Sys2Proof.Machine Sys2Proof.Claims Sys2Proof.Tests

set_option Elab.async false

def dis (d : DisState) (s : State) : State := s.modEngine 0 (fun x => { x with dis := d })
def slc (d : DisState) (s : State) : State := { s with slices := s.slices.set 0 d }
def region (s : State) : State := withRegs [(0x4000008, 0x200000), (0x4000010, 4)] s
def conSw : State := withRegs ([(0x3000000, 0x0E), (0x3000010, 1 + 1 * 2 + 1 * 2 ^ 4 + 3 * 2 ^ 12 + 1 * 2 ^ 21), (0x3000014, 0 + 2 * 2 ^ 8 + 4 * 2 ^ 16), (0x3000018, 0x0A0A0A),
  (0x3000030, 100)] ++ [(puBase 0, 1), (puBase 1, 1), (puBase 1 + 0x44, 100 + 1 * 2 ^ 17), (puBase 0 + 0x44, 100 + 1 * 2 ^ 17), (puBase 1 + 0x1800, 0 + 100 * 2 ^ 17)]) sw
def con2 : State := withRegs [(0x3010000 + 16 * 7, 1 + 2 * 2 + 2 ^ 20), (0x3010004 + 16 * 7, 0x40204), (0x301000C + 16 * 7, 1)] conSw
def conQ : State := con2.modPort 1 (fun q => { q with egress := [⟨pkt 0 0x20 0 true 9 0 1 [] [], some 4095, 0, none, false, 0, false⟩, ⟨pkt 0 0x20 0 true 9 0 1 [] [], some 7, 0, none, true, 0, false⟩, ⟨pkt 0 0x20 0 true 9 0 1 [] [], none, 0, some 3, false, 0, false⟩] })
def stage (d : BitVec 128) (s : State) : State := withRegs ((List.range 4).map (fun i => (0x4000040 + 4 * i, d.toNat / 2 ^ (32 * i) % 2 ^ 32))) s
def stG (a b c d : Nat) (s : State) : State := withRegs [(0x4000020, a), (0x4000024, b), (0x4000028, c), (0x4000030, d)] (region s)
def listed (s : State) : State := { region s with mem := cellWrite 0 [] 0x200000 (leBytes 4 (cw 0) ++ leBytes 4 (cw 1)), closed := [(4, 3), (5, 3)] }
def axD : Nat := 0 + 1 * 2^24 + 1 * 2^31 + 1 * 2^38 + 2 * 2^45
def gc : State := { (region sw) with grpCommit := some ⟨4, [0,0,0,0]⟩ }
def sGc : State := { listed grouped with grpCommit := some ⟨4, [BitVec.ofNat 64 (2^17), BitVec.ofNat 64 (2 + 2*2^18), 0x200000, 0]⟩ }
def sGc2 : State := { listed grouped with grpCommit := some ⟨4, [BitVec.ofNat 64 (2^17), BitVec.ofNat 64 (3 + 2*2^18), 0x200000, 0]⟩ }
def stT (s : State) : State := withRegs [(0x4000080, 2 + 1 * 2^20), (0x4000084, 64 + 4 * 2^17), (0x4000088, 8 + 2 * 2^16), (0x4000090, 0x200000), (0x4000098, 0x280000), (0x40000A0, 3)] (listed s)
def step0 : XStep := ⟨5, 9, 0, 0, false, false, [], [], [], false, [], 0, [], false⟩
def sTc : State := { stT sw with tabCommit := some ⟨5, [BitVec.ofNat 64 (2 + 2^20), BitVec.ofNat 64 (64 + 4*2^17), BitVec.ofNat 64 (8 + 2*2^16), 0x200000, 0x280000, 3]⟩ }
def sTc2 : State := { sTc with mem := cellWrite 0 [] 0x200000 (leBytes 4 (cw 5)) }
def saved0 : State :=
  { withRegs [(0x400006C, 2), (0x2000010, 0xFF), (0x4000060, 0x210000)] (region sw) with mem :=
    [(0x210000, 64), (0x210001, 100), (0x210002, 1), (0x210003, 20), (0x210008, 1), (0x210010, 80), (0x210018, 185), (0x210019, 58), (0x21001A, 140), (0x21001B, 40), (0x21001C, 74), (0x21001D, 208), (0x21001E, 22), (0x21001F, 167)] }
/-- A full registry (R184). -/
abbrev crowded : State := stage desc4 { sw with descs := List.replicate 8192 0 }
theorem full_contains : crowded.descs.contains (stagedDesc crowded) = false := by
  show (List.replicate 8192 (0 : BitVec 128)).contains _ = false
  rw [List.contains_replicate]; decide +kernel
theorem full_any : crowded.descs.any (fun e => dDigest e == dDigest (stagedDesc crowded)) = false := by
  show (List.replicate 8192 (0 : BitVec 128)).any _ = false
  rw [List.any_replicate]; decide +kernel
theorem full_len : 8192 ≤ crowded.descs.length := by
  show 8192 ≤ (List.replicate 8192 (0 : BitVec 128)).length
  exact Nat.le_of_eq List.length_replicate.symm

/-- The hypotheses of `Obligations.UnitsDrainDisableAndReturn`, at clauses 1, 2, 3, 4, 5, 6, 7, 8, 9. -/
theorem witness_UnitsDrainDisableAndReturn :
  (∃ (s : State) (e : Fin 64), Idle s ∧ BusFree s (jBase e.val + 61456) ∧ BusFree s 67170320 ∧ present s e.val = true) ∧
  (∃ (s : State) (e : Fin 64), Idle s ∧ BusFree s (jBase e.val + 61456) ∧ BusFree s 67170320 ∧ present s e.val = true) ∧
  (∃ (s : State) (e : Fin 64), Idle s ∧ BusFree s (jBase e.val + 61456) ∧ BusFree s 67170320 ∧ present s e.val = true) ∧
  (∃ (s : State) (e : Fin 64), Idle s ∧ BusFree s (jBase e.val + 61456) ∧ BusFree s 67170320 ∧ (s.engine e.val).dis = DisState.draining ∧
    engineBusy s e.val = false) ∧
  (∃ (s : State) (e : Fin 64), Idle s ∧ BusFree s (jBase e.val + 61456) ∧ BusFree s 67170320 ∧ engineBusy s e.val = true) ∧
  (∃ (s : State) (e : Fin 64), Idle s ∧ BusFree s (jBase e.val + 61456) ∧ BusFree s 67170320) ∧
  (∃ (s : State) (e : Fin 64), Idle s ∧ BusFree s (jBase e.val + 61456) ∧ BusFree s 67170320) ∧
  (∃ (s : State) (e : Fin 64) (m : BitVec 4), Idle s ∧ BusFree s (jBase e.val + 61456) ∧ BusFree s 67170320 ∧ m ≠ 0) ∧
  (∃ (s : State) (e : Fin 64) (q : Fin 4), Idle s ∧ BusFree s (jBase e.val + 61456) ∧ BusFree s 67170320 ∧ sliceState s q.val = DisState.draining ∧
    slicesBusy s (2 ^ q.val) = false) :=
  ⟨⟨sw, 0, by decide +kernel⟩,
  ⟨dis .disabled sw, 0, by decide +kernel⟩,
  ⟨sw, 0, by decide +kernel⟩,
  ⟨dis .draining sw, 0, by decide +kernel⟩,
  ⟨summing, 0, by decide +kernel⟩,
  ⟨sw, 0, by decide +kernel⟩,
  ⟨slc .disabled sw, 0, by decide +kernel⟩,
  ⟨sw, 0, 15, by decide +kernel⟩,
  ⟨slc .draining sw, 0, 0, by decide +kernel⟩⟩

/-- The hypotheses of `Obligations.RoutingTablesSwapWhenDrained`, at clauses 1, 2, 3, 4, 5, 6, 7, 8. -/
theorem witness_RoutingTablesSwapWhenDrained :
  (∃ (s : State), Idle s ∧ tabSorted s.csr = true ∧ BusFree s 33554448 ∧ BusFree s 33554464 ∧ bootState s ≠ 4) ∧
  (∃ (s : State), Idle s ∧ tabSorted s.csr = true ∧ BusFree s 33554448 ∧ BusFree s 33554464 ∧ s.collWait = []) ∧
  (∃ (s : State), Idle s ∧ tabSorted s.csr = true ∧ BusFree s 33554448 ∧ BusFree s 33554464 ∧ s.field 33554468 2 2 = 0 ∧ drained s = 255) ∧
  (∃ (s : State), Idle s ∧ tabSorted s.csr = true ∧ BusFree s 33554448 ∧ BusFree s 33554464 ∧ s.field 33554468 2 2 = 0 ∧ drained s = 0) ∧
  (∃ (s : State), Idle s ∧ tabSorted s.csr = true ∧ BusFree s 33554448 ∧ BusFree s 33554464 ∧ s.field 33554468 2 2 = 1) ∧
  (∃ (s : State), Idle s ∧ tabSorted s.csr = true ∧ BusFree s 33554448 ∧ BusFree s 33554464 ∧ s.field 33554468 2 2 = 0 ∧ drained s = 255) ∧
  (∃ (s : State) (c : Nat), Idle s ∧ tabSorted s.csr = true ∧ BusFree s 33554448 ∧ BusFree s 33554464 ∧ c < 4096 ∧ s.field 33554468 2 2 = 1) ∧
  (∃ (s : State), Idle s ∧ tabSorted s.csr = true ∧ BusFree s 33554448 ∧ BusFree s 33554464 ∧ s.busHeld = []) :=
  ⟨⟨withRegs [(0x2001000,1),(0x2002000,2),(0x20022FC,3),(0x2010000,5),(0x2023FFC,7)] sw, by decide +kernel⟩,
  ⟨withRegs [(0x2001000,1),(0x2002000,2),(0x20022FC,3),(0x2010000,5),(0x2023FFC,7)] sw, by decide +kernel⟩,
  ⟨withRegs [(0x2001000,1),(0x2002000,2),(0x20022FC,3),(0x2010000,5),(0x2023FFC,7),(0x2000010,0xFF)] sw, by decide +kernel⟩,
  ⟨withRegs [(0x2001000,1),(0x2002000,2),(0x20022FC,3),(0x2010000,5),(0x2023FFC,7)] sw, by decide +kernel⟩,
  ⟨withRegs [(0x2001000,1),(0x2002000,2),(0x20022FC,3),(0x2010000,5),(0x2023FFC,7),(0x2000024,4)] sw, by decide +kernel⟩,
  ⟨{ (withRegs [(0x2001000,1),(0x2002000,2),(0x20022FC,3),(0x2010000,5),(0x2023FFC,7),(0x2000010,0xFF)] sw) with pathWritten := [3,4095] }, by decide +kernel⟩,
  ⟨withRegs [(0x2001000,1),(0x2002000,2),(0x20022FC,3),(0x2010000,5),(0x2023FFC,7),(0x2000024,7)] sw, 4095, by decide +kernel⟩,
  ⟨withRegs [(0x2001000,1),(0x2002000,2),(0x20022FC,3),(0x2010000,5),(0x2023FFC,7),(0x2000024,7)] sw, by decide +kernel⟩⟩

/-- The hypotheses of `Obligations.ContractsCommitAndDelete`, at clauses 1, 2, 3, 4. -/
theorem witness_ContractsCommitAndDelete :
  (∃ (s : State) (c : BitVec 12), Idle s ∧ commitReason s c.toNat (s.regN 50331664) (s.regN 50331668) (s.regN 50331672) = 0) ∧
  (∃ (s : State) (c : BitVec 12), Idle s ∧ commitReason s c.toNat (s.regN 50331664) (s.regN 50331668) (s.regN 50331672) ≠ 0) ∧
  (∃ (s : State), Idle s) ∧
  (∃ (s : State), Idle s) :=
  ⟨⟨con2, 7, by decide +kernel⟩,
  ⟨sw, 4095, by decide +kernel⟩,
  ⟨conQ, by decide +kernel⟩,
  ⟨con2, by decide +kernel⟩⟩

/-- The hypotheses of `Obligations.DescriptorsRegisterAndRemove`, at clauses 1, 2, 3, 4, 5, 6, 7, 8. -/
theorem witness_DescriptorsRegisterAndRemove :
  (∃ (s : State), Idle s ∧ BusFree s 67108944 ∧ Whole s ∧ descField s (stagedDesc s) = false ∧ s.descs.contains (stagedDesc s) = false ∧
    (s.descs.any fun e => dDigest e == dDigest (stagedDesc s)) = false ∧ s.descs.length < 8192) ∧
  (∃ (s : State), Idle s ∧ BusFree s 67108944 ∧ Whole s ∧ descField s (stagedDesc s) = true) ∧
  (∃ (s : State), Idle s ∧ BusFree s 67108944 ∧ Whole s ∧ descField s (stagedDesc s) = false ∧ s.descs.contains (stagedDesc s) = false ∧
    (s.descs.any fun e => dDigest e == dDigest (stagedDesc s)) = true) ∧
  (∃ (s : State), Idle s ∧ BusFree s 67108944 ∧ Whole s ∧ descField s (stagedDesc s) = false ∧ s.descs.contains (stagedDesc s) = true) ∧
  (∃ (s : State), Idle s ∧ BusFree s 67108944 ∧ Whole s ∧ descField s (stagedDesc s) = false ∧ s.descs.contains (stagedDesc s) = false ∧
    (s.descs.any fun e => dDigest e == dDigest (stagedDesc s)) = false ∧ 8192 ≤ s.descs.length) ∧
  (∃ (s : State), Idle s ∧ BusFree s 67108944 ∧ Whole s ∧ s.descs.contains (stagedDesc s) = true ∧ (s.colls.any fun c => c.desc == stagedDesc s) = false) ∧
  (∃ (s : State), Idle s ∧ BusFree s 67108944 ∧ Whole s ∧ s.descs.contains (stagedDesc s) = true ∧ (s.colls.any fun c => c.desc == stagedDesc s) = true) ∧
  (∃ (s : State), Idle s ∧ BusFree s 67108944 ∧ Whole s ∧ s.descs.contains (stagedDesc s) = false) :=
  ⟨⟨stage desc4 sw, by decide +kernel⟩,
  ⟨stage 0 grouped, by decide +kernel⟩,
  ⟨stage 0x7000077770001bed000000006 { sw with descs := [0x1000000006] }, by decide +kernel⟩,
  ⟨stage desc4 grouped, by decide +kernel⟩,
  ⟨crowded, by decide +kernel, by decide +kernel, by decide +kernel, by decide +kernel, full_contains, by decide +kernel, full_len⟩,
  ⟨stage desc4 grouped, by decide +kernel⟩,
  ⟨stage desc4 summing, by decide +kernel⟩,
  ⟨stage desc4 sw, by decide +kernel⟩⟩

/-- The hypotheses of `Obligations.GroupEntriesCommit`, at clauses 1.1, 1.2, 2, 3, 4, 5, 6, 7, 8, 9.1, 9.2. -/
theorem witness_GroupEntriesCommit :
  (∃ (s : State) (g : BitVec 12), Idle s ∧ BusFree s 67108920 ∧ groupOpen s g.toNat = true) ∧
  (∃ (s : State) (g : BitVec 12), Idle s ∧ BusFree s 67108920 ∧ groupOpen s g.toNat = true) ∧
  (∃ (s : State) (g : BitVec 12), Idle s ∧ BusFree s 67108920 ∧ groupOpen s g.toNat = false ∧
    groupField s (if (s.regN 67108896).testBit 16 = true then axisWords s (s.regN 67108896) (s.regN 67108912) else (s.regN 67108896, s.regN 67108900, s.regN 67108904)).fst (if (s.regN 67108896).testBit 16 = true then axisWords s (s.regN 67108896) (s.regN 67108912) else (s.regN 67108896, s.regN 67108900, s.regN 67108904)).snd.fst (if (s.regN 67108896).testBit 16 = true then axisWords s (s.regN 67108896) (s.regN 67108912) else (s.regN 67108896, s.regN 67108900, s.regN 67108904)).snd.snd (s.regN 67108912) = true) ∧
  (∃ (s : State) (g : BitVec 12), Idle s ∧ BusFree s 67108920 ∧ groupOpen s g.toNat = false ∧
    groupField s (if (s.regN 67108896).testBit 16 = true then axisWords s (s.regN 67108896) (s.regN 67108912) else (s.regN 67108896, s.regN 67108900, s.regN 67108904)).fst (if (s.regN 67108896).testBit 16 = true then axisWords s (s.regN 67108896) (s.regN 67108912) else (s.regN 67108896, s.regN 67108900, s.regN 67108904)).snd.fst (if (s.regN 67108896).testBit 16 = true then axisWords s (s.regN 67108896) (s.regN 67108912) else (s.regN 67108896, s.regN 67108900, s.regN 67108904)).snd.snd (s.regN 67108912) = false ∧
    (if (s.regN 67108896).testBit 16 = true then axisWords s (s.regN 67108896) (s.regN 67108912) else (s.regN 67108896, s.regN 67108900, s.regN 67108904)).fst.testBit 16 = true) ∧
  (∃ (s : State) (g : BitVec 12), Idle s ∧ BusFree s 67108920 ∧ groupOpen s g.toNat = false ∧
    groupField s (if (s.regN 67108896).testBit 16 = true then axisWords s (s.regN 67108896) (s.regN 67108912) else (s.regN 67108896, s.regN 67108900, s.regN 67108904)).fst (if (s.regN 67108896).testBit 16 = true then axisWords s (s.regN 67108896) (s.regN 67108912) else (s.regN 67108896, s.regN 67108900, s.regN 67108904)).snd.fst (if (s.regN 67108896).testBit 16 = true then axisWords s (s.regN 67108896) (s.regN 67108912) else (s.regN 67108896, s.regN 67108900, s.regN 67108904)).snd.snd (s.regN 67108912) = false ∧
    (if (s.regN 67108896).testBit 16 = true then axisWords s (s.regN 67108896) (s.regN 67108912) else (s.regN 67108896, s.regN 67108900, s.regN 67108904)).fst.testBit 16 = false) ∧
  (∃ (s : State), Idle s ∧ mustHold s 67108920 true = true) ∧
  (∃ (s : State), Idle s ∧ s.grpCommit.isSome = true) ∧
  (∃ (s : State), Idle s ∧ s.wiping = true ∧ s.busHeld = []) ∧
  (∃ (s : State) (g : BitVec 12), Idle s ∧ BusFree s 67108920 ∧ groupOpen s g.toNat = false) ∧
  (∃ (s : State) (g : BitVec 12) (a : W64) (b : W64) (c : W64) (d : W64), Idle s ∧ s.grpCommit = some { key := g.toNat, words := [a, b, c, d] } ∧
    s.busHeld = [] ∧ s.wiping = false ∧ s.flaws = [] ∧ groupOpen s g.toNat = false ∧ Clean s (BitVec.toNat c) (4 * bits (BitVec.toNat b) 17 0) ∧
    goodMembers s (BitVec.toNat c) (bits (BitVec.toNat b) 17 0) (bits (BitVec.toNat b) 24 18)) ∧
  (∃ (s : State) (g : BitVec 12) (a : W64) (b : W64) (c : W64) (d : W64), Idle s ∧ s.grpCommit = some { key := g.toNat, words := [a, b, c, d] } ∧
    s.busHeld = [] ∧ s.wiping = false ∧ s.flaws = [] ∧ groupOpen s g.toNat = false ∧ Clean s (BitVec.toNat c) (4 * bits (BitVec.toNat b) 17 0) ∧
    ¬goodMembers s (BitVec.toNat c) (bits (BitVec.toNat b) 17 0) (bits (BitVec.toNat b) 24 18)) :=
  ⟨⟨summing, 4, by decide +kernel⟩,
  ⟨summing, 4, by decide +kernel⟩,
  ⟨stG (2^17) 0 0x200000 0 sw, 4, by decide +kernel⟩,
  ⟨stG (2^16 + 2^17) 0 0 axD sw, 4, by decide +kernel⟩,
  ⟨stG (2^17) (2 + 2 * 2^18) 0x200000 0 (listed sw), 4, by decide +kernel⟩,
  ⟨gc, by decide +kernel⟩,
  ⟨gc, by decide +kernel⟩,
  ⟨{ gc with wiping := true }, by decide +kernel⟩,
  ⟨sw, 4095, by decide +kernel⟩,
  ⟨sGc, 4, BitVec.ofNat 64 (2^17), BitVec.ofNat 64 (2 + 2*2^18), 0x200000, 0, by decide +kernel⟩,
  ⟨sGc2, 4, BitVec.ofNat 64 (2^17), BitVec.ofNat 64 (3 + 2*2^18), 0x200000, 0, by decide +kernel⟩⟩

/-- The hypotheses of `Obligations.ExpertTablesCommit`, at clauses 1.1, 1.2, 2, 3, 4, 5.1, 5.2. -/
theorem witness_ExpertTablesCommit :
  (∃ (s : State) (t : Fin 64), Idle s ∧ BusFree s 67109032 ∧ stepOpen s t.val = true) ∧
  (∃ (s : State) (t : Fin 64), Idle s ∧ BusFree s 67109032 ∧ stepOpen s t.val = true) ∧
  (∃ (s : State) (t : Fin 64), Idle s ∧ BusFree s 67109032 ∧ stepOpen s t.val = false ∧
    tableField s ((fun x => s.regN x) 67108992) ((fun x => s.regN x) 67108996) ((fun x => s.regN x) 67109000) ((fun x => s.regN x) 67109008) ((fun x => s.regN x) 67109016) ((fun x => s.regN x) 67109024) = true) ∧
  (∃ (s : State) (t : Fin 64), Idle s ∧ BusFree s 67109032 ∧ stepOpen s t.val = false ∧
    tableField s ((fun x => s.regN x) 67108992) ((fun x => s.regN x) 67108996) ((fun x => s.regN x) 67109000) ((fun x => s.regN x) 67109008) ((fun x => s.regN x) 67109016) ((fun x => s.regN x) 67109024) = false) ∧
  (∃ (s : State) (t : Fin 64), Idle s ∧ BusFree s 67109032 ∧ stepOpen s t.val = false) ∧
  (∃ (s : State) (t : Fin 64) (a : W64) (b : W64) (c : W64) (d : W64) (e : W64) (f : W64), Idle s ∧
    s.tabCommit = some { key := t.val, words := [a, b, c, d, e, f] } ∧ s.busHeld = [] ∧ s.wiping = false ∧ s.flaws = [] ∧
    Clean s (BitVec.toNat d) (4 * bits (BitVec.toNat a) 10 0) ∧
    (∀ (cw : Nat), cw ∈ listAt s (BitVec.toNat d) (bits (BitVec.toNat a) 10 0) → badCw s cw = false)) ∧
  (∃ (s : State) (t : Fin 64) (a : W64) (b : W64) (c : W64) (d : W64) (e : W64) (f : W64), Idle s ∧
    s.tabCommit = some { key := t.val, words := [a, b, c, d, e, f] } ∧ s.busHeld = [] ∧ s.wiping = false ∧ s.flaws = [] ∧
    Clean s (BitVec.toNat d) (4 * bits (BitVec.toNat a) 10 0) ∧ (∃ cw, cw ∈ listAt s (BitVec.toNat d) (bits (BitVec.toNat a) 10 0) ∧ badCw s cw = true)) :=
  ⟨⟨{ sw with xsteps := [step0] }, 5, by decide +kernel⟩,
  ⟨{ sw with xsteps := [step0] }, 5, by decide +kernel⟩,
  ⟨sw, 5, by decide +kernel⟩,
  ⟨stT sw, 5, by decide +kernel⟩,
  ⟨stT (withRegs [(xBase 5 + 0x28, 1),(xBase 5, 77),(xBase 5 + 0x2C, 9)] { sw with xclosed := [(5,1),(6,1)] }), 5, by decide +kernel⟩,
  ⟨sTc, 5, BitVec.ofNat 64 (2 + 2^20), BitVec.ofNat 64 (64 + 4*2^17), BitVec.ofNat 64 (8 + 2*2^16), 0x200000, 0x280000, 3, by decide +kernel⟩,
  ⟨sTc2, 5, BitVec.ofNat 64 (2 + 2^20), BitVec.ofNat 64 (64 + 4*2^17), BitVec.ofNat 64 (8 + 2*2^16), 0x200000, 0x280000, 3, by decide +kernel⟩⟩

/-- The hypotheses of `Obligations.ParkingSavesTheCollectives`, at clauses 1, 2, 3, 4, 5, 6, 7. -/
theorem witness_ParkingSavesTheCollectives :
  (∃ (s : State), Idle s ∧ BusFree s 67108968 ∧ parkState s = 0 ∧ parkReason s = 0) ∧
  (∃ (s : State), Idle s ∧ BusFree s 67108968 ∧ parkState s = 0 ∧ parkReason s ≠ 0) ∧
  (∃ (s : State), Idle s ∧ BusFree s 67108968 ∧ parkState s = 1 ∧ parkOutside s = false ∧ s.wiping = false ∧ Whole s ∧ s.poison = [] ∧ s.flaws = [] ∧
    (List.map (fun c => (c.group, c.cseq)) s.colls).Nodup) ∧
  (∃ (s : State), Idle s ∧ BusFree s 67108968 ∧ parkState s ≠ 1 ∧ parkState s ≠ 3 ∧ heldAndDrained s = false) ∧
  (∃ (s : State), Idle s ∧ BusFree s 67108968 ∧ parkState s ≠ 1 ∧ parkState s ≠ 3 ∧ heldAndDrained s = true ∧ s.colls ≠ []) ∧
  (∃ (s : State) (v : Save) (t : State), Idle s ∧ BusFree s 67108968 ∧ parkState s ≠ 1 ∧ parkState s ≠ 3 ∧ heldAndDrained s = true ∧ s.colls = [] ∧
    readSave s = (0, some v, t)) ∧
  (∃ (s : State), Idle s ∧ BusFree s 67108968 ∧ parkState s = 3 ∧
    (∀ (c : Coll), c ∈ s.parked → unitAway s c.group (neededEngines s c.group c.desc) = none)) :=
  ⟨⟨withRegs [(0x2000010,0xFF),(0x4000060,0x210000)] (region sw), by decide +kernel⟩,
  ⟨region summing, by decide +kernel⟩,
  ⟨withRegs [(0x400006C, 1)] (withRegs [(0x2000010,0xFF),(0x4000060,0x210000)] (region summing)), by decide +kernel⟩,
  ⟨region sw, by decide +kernel⟩,
  ⟨withRegs [(0x2000010,0xFF),(0x4000060,0x210000)] (region summing), by decide +kernel⟩,
  ⟨saved0, (readSave saved0).2.1.getD ⟨[],[],[],[],[],[]⟩, (readSave saved0).2.2, by decide +kernel⟩,
  ⟨withRegs [(0x400006C, 3)] (region sw), by decide +kernel⟩⟩


end Sys2Proof.Tests.Tables
end

section
/-!
PROOFS. The whole block: an access to an address at which no register exists (R22), on each path by which an access comes.
-/

namespace Sys2Proof.Proofs

open Sys2Proof.Machine Sys2Proof.Claims

/-! ## The management bus -/

/-- R21, R22: an access none of whose bytes lies in a register is absent. -/
theorem accessKind_eq_absent {a w : Nat} (hw : 0 < w) (h : ∀ i, i < w → regAt (a + i) = none) : accessKind a w = .absent := by
  have hfirst : regAt a = none := h 0 hw
  have hall : (List.range w).all (fun i => (regAt (a + i)).isNone) = true :=
    List.all_eq_true.2 fun i hi => Option.isNone_iff_eq_none.2 (h i (List.mem_range.1 hi))
  simp [accessKind, hfirst, hall]

theorem busRead_absent {a w : Nat} (h : accessKind a w = .absent) (s : State) : busRead s a w = some 0 := by
  simp [busRead, h]

theorem busWrite_absent {a w : Nat} (h : accessKind a w = .absent) (v : W64) (auth : Bool) (s : State) :
    busWrite a w v auth s = s := by
  simp [busWrite, h]

/-- A write by the MGC where no register is: nothing is written, and no bus-error trap is raised. -/
theorem mgcWrite_absent {a w : Nat} (h : accessKind a w = .absent) (v : W64) (s : State) : mgcWrite a w v s = s := by
  simp [mgcWrite, h, busWrite_absent h]

/-! ## Messages of the HEP -/

/-- An access that the bus would not hold is not held for a message either. -/
theorem ympHold_of_not_mustHold {s : State} {a : Nat} {wr : Bool} (h : mustHold s a wr = false) : ympHold s a wr = false := by
  simp [ympHold, h]

/-- A message's write that may be made, is not refused and changes nothing counts as performed, and the rest follow from the
same state. -/
theorem ympWrites_cons_of_busWrite_eq {s : State} {a w : Nat} {v : W64} {auth : Bool} (hfree : BusFree s a)
    (hok : writeStatus s a v.toNat auth = yOk) (hk : accessKind a w ≠ .refused) (hsame : busWrite a w v auth s = s)
    (rest : List (Nat × W64)) : ympWrites w auth ((a, v) :: rest) s =
      ((ympWrites w auth rest s).1, (ympWrites w auth rest s).2.1 + 1, (ympWrites w auth rest s).2.2) := by
  simp [ympWrites, ympHold_of_not_mustHold hfree, hok, hk, hsame]

/-- A milestone's granule without error or poison is read whole, and its read changes nothing. -/
theorem msRead_clean (m : Nat) {s : State} (h : Whole s) : msRead m s = (false, s) := by
  obtain ⟨herr, hpoison⟩ := h
  simp [msRead, memScan_clean _ _ s herr hpoison]

/-- With no error and no poison outside the tensor store, the bus reads no poisoned granule, and its read changes nothing. -/
theorem wordRead_clean (a : Nat) {s : State} (h : Whole s) : wordRead a s = (false, s) := by
  have hmilestone (m : Nat) : msRead m s = (false, s) := msRead_clean m h
  obtain ⟨herr, hpoison⟩ := h
  have htable (b : Blk) (n : Nat) : tableRead b a n s = (false, s) := tableRead_clean b a n s herr hpoison
  have hprogram (e i : Nat) : pmemRead e i s = (false, s) := pmemRead_clean e i s herr hpoison
  simp [wordRead, htable, hprogram, hmilestone]

/-- A message's read that is neither held nor refused, of memories without error or poison: its value comes first, and the
rest follow from the same state. -/
theorem ympReads_cons_of_whole {s : State} {a w : Nat} (hfree : ympHold s a false = false) (hread : busRead s a w ≠ none)
    (hwhole : Whole s) (rest : List Nat) : ympReads w (a :: rest) s =
      (readReg s a :: (ympReads w rest s).1, (ympReads w rest s).2.1, (ympReads w rest s).2.2) := by
  simp [ympReads, hfree, hread, wordRead_clean a hwhole]

/-! ## The statement -/

/-- Settles O57: no byte of the access lies in a register, so the access is absent, and each path of access answers an absent one
by zero, by no change of the state and by no status of its own. -/
theorem absentAddressesReadZero : Obligations.AbsentAddressesReadZero := by
  intro s a w v auth hw hnone
  have habsent : accessKind a.toNat w = .absent := accessKind_eq_absent hw hnone
  have hk : accessKind a.toNat w ≠ .refused := by simp [habsent]
  have hread : busRead s a.toNat w = some 0 := busRead_absent habsent s
  have hwrite : busWrite a.toNat w v auth s = s := busWrite_absent habsent v auth s
  refine ⟨hread, hwrite, hk, congrArg Host.Outcome.next (mgcWrite_absent habsent v s), ?_, ?_⟩
  · intro hfree hok rest
    exact ⟨_, _, _, rfl, ympWrites_cons_of_busWrite_eq hfree hok hk hwrite rest⟩
  · intro hfree hwhole rest
    rw [ympReads_cons_of_whole (ympHold_of_not_mustHold hfree) (by simp [hread]) hwhole rest]

end Sys2Proof.Proofs
end

section
/-!
PROOFS. Integer formats: a conversion and an addition saturate (R157, R164).
-/

namespace Sys2Proof.Proofs

open Sys2Proof.Machine Sys2Proof.Claims

/-- The value of an integer format's range nearest to `v` (R164). -/
def nearest (code : Nat) (v : Int) : Int := max (intLo code) (min (intHi code) v)

/-- An integer format's own values are their own nearest. -/
theorem nearest_intVal {code : Nat} (h5 : 5 ≤ code) (h7 : code ≤ 7) (x : Nat) : nearest code (intVal code x) = intVal code x := by
  obtain rfl | rfl | rfl : code = 5 ∨ code = 6 ∨ code = 7 := by omega
  all_goals simp only [nearest, intLo, intHi, intVal, signed, reduceIte, Nat.reduceEqDiff]; omega

/-- The encoding of an integer stands for the nearest value of the format. -/
theorem intVal_intEncode {code : Nat} (h5 : 5 ≤ code) (h7 : code ≤ 7) (v : Int) :
    intVal code (intEncode code v).1 = nearest code v := by
  obtain rfl | rfl | rfl : code = 5 ∨ code = 6 ∨ code = 7 := by omega
  all_goals simp only [nearest, intEncode, intLo, intHi, intVal, signed, fmtSize, reduceIte, Nat.reduceEqDiff, or_self, or_true, Nat.reduceMul]; omega

theorem intEncode_lt (code : Nat) (v : Int) : (intEncode code v).1 < 2 ^ (8 * fmtSize code) := by
  have hpos : (0 : Int) < (2 ^ (8 * fmtSize code) : Nat) := Int.natCast_pos.2 (Nat.two_pow_pos _)
  exact (Int.toNat_lt (Int.emod_nonneg _ (Int.ne_of_gt hpos))).2 (Int.emod_lt_of_pos _ hpos)

theorem intEncode_flag (code : Nat) (v : Int) : (intEncode code v).2 = if nearest code v = v then 0 else fOverflow := rfl

/-- The value of an INT32 word is its two's complement value. -/
theorem intVal_word (a : W32) : intVal 7 a.toNat = a.toInt := by
  have hlt := a.isLt
  simp only [intVal, signed, BitVec.toInt_eq_toNat_cond]
  omega

/-- R164: a sum of two INT32 words is the nearest value to the exact sum. -/
theorem toInt_iadd (a b : W32) : (iadd a b).1.toInt = nearest 7 (a.toInt + b.toInt) := by
  have hlt := intEncode_lt 7 (a.toInt + b.toInt)
  have hword : (iadd a b).1.toNat = (intEncode 7 (a.toInt + b.toInt)).1 := by
    simpa [iadd, intVal_word, fmtSize] using hlt
  rw [← intVal_word, hword, intVal_intEncode (by decide) (by decide)]

theorem iadd_flag (a b : W32) :
    (iadd a b).2 = if nearest 7 (a.toInt + b.toInt) = a.toInt + b.toInt then 0 else fOverflow := by
  simp only [iadd, intVal_word, intEncode_flag]

theorem iadd_comm (a b : W32) : iadd a b = iadd b a := by
  simp only [iadd, Int.add_comm]

/-- A conversion between two integer formats encodes the value. -/
theorem fmtConv_int {src dst : Nat} (hsrc : 5 ≤ src) (hne : src ≠ dst) (ci : Bool) (x : Nat) :
    fmtConv src dst ci x = intEncode dst (intVal src x) := by
  have hint : fmtFloat src = false := by simpa [fmtFloat] using hsrc
  simp [fmtConv, hne, hint]

/-- Settles O55: a conversion of a format to itself keeps a value that lies in the range already, every other one and the
addition encode the exact value, and an encoding stands for the nearest value. -/
theorem integersSaturate : Obligations.IntegersSaturate := by
  intro src dst x ci a b within
  refine ⟨fun hs5 hs7 hd5 hd7 hx => ?_, ⟨toInt_iadd a b, iadd_flag a b⟩, by decide⟩
  change intVal dst _ = nearest dst _ ∧ _ ∧ _ = if nearest dst _ = _ then _ else _
  by_cases hsame : src = dst
  · subst hsame
    have hcopy : fmtConv src src ci x = (x, 0) := if_pos rfl
    simp [hcopy, nearest_intVal hs5 hs7, hx]
  · rw [fmtConv_int hs5 hsame]
    exact ⟨intVal_intEncode hd5 hd7 _, intEncode_lt _ _, intEncode_flag _ _⟩

end Sys2Proof.Proofs
end

section
/-!
PROOFS. FP32 words by their fields (Table 6.2): which of a NaN, an infinity and a finite value a word stands for, and the
exact value of a finite word.
-/

namespace Sys2Proof.Proofs

open Sys2Proof.Machine Sys2Proof.Claims

/-! ## Fields -/

/-- The exponent field of an FP32 word. -/
def expField (a : W32) : Nat := a.toNat / 2 ^ 23 % 2 ^ 8

/-- The fraction field of an FP32 word. -/
def fracField (a : W32) : Nat := a.toNat % 2 ^ 23

/-- The significand of a finite FP32 word, an integer. -/
def significand (a : W32) : Nat := if expField a = 0 then fracField a else 2 ^ 23 + fracField a

/-- The power of two by which a finite FP32 word's significand counts, in units of 2 ^ -149. -/
def shiftOf (a : W32) : Nat := max (expField a) 1 - 1

theorem sgn_eq_testBit (a : W32) : sgn a = a.toNat.testBit 31 := rfl

theorem toNat_eq_fields (a : W32) : a.toNat = b2n (sgn a) * 2 ^ 31 + expField a * 2 ^ 23 + fracField a := by
  have hlt := a.isLt
  rw [sgn_eq_testBit, Nat.testBit_eq_decide_div_mod_eq]
  simp only [b2n, expField, fracField, decide_eq_true_eq]
  split <;> omega

theorem word_ext {a b : W32} (hs : sgn a = sgn b) (he : expField a = expField b) (hf : fracField a = fracField b) : a = b := by
  apply BitVec.eq_of_toNat_eq
  rw [toNat_eq_fields a, toNat_eq_fields b, hs, he, hf]

/-- R156: the value of an FP32 word by its fields. -/
theorem f32_eq_fields (a : W32) : f32 a =
    if expField a = 255 then (if fracField a = 0 then .inf (sgn a) else .nan)
    else .fin (sgn a) (significand a) ((shiftOf a : Int) - 149) := by
  have hfrac : bits a.toNat 22 0 = fracField a := by rw [bits, Nat.pow_zero, Nat.div_one]; rfl
  change (if expField a = 255 ∧ true = true then (if bits a.toNat 22 0 = 0 then FVal.inf (sgn a) else FVal.nan)
    else if expField a = 255 ∧ bits a.toNat 22 0 = 2 ^ 23 - 1 then FVal.nan
    else if expField a = 0 then FVal.fin (sgn a) (bits a.toNat 22 0) (-149)
    else FVal.fin (sgn a) (2 ^ 23 + bits a.toNat 22 0) ((expField a : Int) - 127 - 23)) = _
  rw [hfrac]
  by_cases htop : expField a = 255
  · rw [if_pos ⟨htop, rfl⟩, if_pos htop]
  rw [if_neg fun h => htop h.1, if_neg fun h => htop h.1, if_neg htop]
  by_cases hsub : expField a = 0
  · rw [if_pos hsub, significand, if_pos hsub, shiftOf, hsub]
    rfl
  · have hexp : (expField a : Int) - 127 - 23 = (shiftOf a : Int) - 149 := by unfold shiftOf; omega
    rw [if_neg hsub, significand, if_neg hsub, hexp]

/-! ## NaNs, infinities and zeros -/

theorem isNaN_iff {a : W32} : isNaN a = true ↔ f32 a = .nan := by simp [isNaN]

@[simp] theorem sgn_infinity (neg : Bool) : sgn (infinity neg) = neg := by cases neg <;> decide

@[simp] theorem f32_infinity (neg : Bool) : f32 (infinity neg) = .inf neg := by
  cases neg <;> rw [f32_eq_fields] <;> decide

theorem isInf_iff {a : W32} : isInf a = true ↔ a = infinity (sgn a) := by
  have hor : isInf a = true ↔ a = infinity false ∨ a = infinity true := by simp [isInf]
  rw [hor]
  constructor
  · rintro (rfl | rfl) <;> simp
  · intro h
    cases hs : sgn a
    · exact .inl (hs ▸ h)
    · exact .inr (hs ▸ h)

theorem f32_of_isInf {a : W32} (h : isInf a = true) : f32 a = .inf (sgn a) := by
  have hword := f32_infinity (sgn a)
  rwa [← isInf_iff.1 h] at hword

theorem isInf_of_fields {a : W32} (he : expField a = 255) (hf : fracField a = 0) : isInf a = true := by
  have hexp (neg : Bool) : expField (infinity neg) = 255 := by cases neg <;> decide
  have hfrac (neg : Bool) : fracField (infinity neg) = 0 := by cases neg <;> decide
  exact isInf_iff.2 (word_ext (sgn_infinity _).symm (he.trans (hexp _).symm) (hf.trans (hfrac _).symm))

/-- A word is finite when its exponent field is not all ones. -/
theorem isFin_iff {a : W32} : isFin a = true ↔ expField a ≠ 255 := by
  constructor
  · intro h he
    obtain ⟨hnan, hinf⟩ : ¬ isNaN a = true ∧ ¬ isInf a = true := by simpa [isFin] using h
    have hf : fracField a ≠ 0 := fun hf => hinf (isInf_of_fields he hf)
    exact hnan (isNaN_iff.2 (by simp [f32_eq_fields, he, hf]))
  · intro he
    have hval : f32 a = .fin (sgn a) (significand a) ((shiftOf a : Int) - 149) := by simp [f32_eq_fields, he]
    have hnan : ¬ isNaN a = true := by simp [isNaN_iff, hval]
    have hinf : ¬ isInf a = true := fun h => by simp [f32_of_isInf h] at hval
    simp [isFin, hnan, hinf]

theorem f32_of_isFin {a : W32} (h : isFin a = true) : f32 a = .fin (sgn a) (significand a) ((shiftOf a : Int) - 149) := by
  rw [f32_eq_fields, if_neg (isFin_iff.1 h)]

theorem significand_eq_zero_iff {a : W32} : significand a = 0 ↔ expField a = 0 ∧ fracField a = 0 := by
  unfold significand
  split <;> omega

theorem isZero_iff {a : W32} : isZero a = true ↔ significand a = 0 := by
  have hor : isZero a = true ↔ a = 0 ∨ a = 0x80000000 := by simp [isZero]
  rw [hor]
  constructor
  · rintro (rfl | rfl) <;> decide
  · intro h
    obtain ⟨he, hf⟩ := significand_eq_zero_iff.1 h
    cases hs : sgn a
    · exact .inl (word_ext hs he hf)
    · exact .inr (word_ext hs he hf)

theorem isFin_of_isZero {a : W32} (h : isZero a = true) : isFin a = true := by
  obtain ⟨he, -⟩ := significand_eq_zero_iff.1 (isZero_iff.1 h)
  exact isFin_iff.2 (by omega)

/-- Every word is a NaN, an infinity or finite. -/
theorem word_cases (a : W32) : isNaN a = true ∨ isInf a = true ∨ isFin a = true := by
  cases hn : isNaN a <;> cases hi : isInf a <;> simp [isFin, hn, hi]

theorem not_isNaN_of_isFin {a : W32} (h : isFin a = true) : ¬ isNaN a = true := by
  simp [isNaN_iff, f32_of_isFin h]

theorem not_isNaN_of_isInf {a : W32} (h : isInf a = true) : ¬ isNaN a = true := by
  simp [isNaN_iff, f32_of_isInf h]

theorem not_isNaN_of_isZero {a : W32} (h : isZero a = true) : ¬ isNaN a = true :=
  not_isNaN_of_isFin (isFin_of_isZero h)

/-! ## Exact values -/

/-- `(−1) ^ neg × mant × 2 ^ exp` in units of `2 ^ unit`, for a unit no greater than the exponent. -/
def scaled (unit : Int) (neg : Bool) (mant : Nat) (exp : Int) : Int :=
  (if neg then -1 else 1) * ((mant * 2 ^ (exp - unit).toNat : Nat) : Int)

theorem natAbs_scaled (unit : Int) (neg : Bool) (mant : Nat) (exp : Int) :
    (scaled unit neg mant exp).natAbs = mant * 2 ^ (exp - unit).toNat := by
  rw [scaled, Int.natAbs_mul, Int.natAbs_natCast]
  cases neg <;> simp

/-- The sign of a value that is not zero is its sign bit. -/
theorem scaled_neg_iff {unit exp : Int} {neg : Bool} {mant : Nat} (h : mant ≠ 0) :
    decide (scaled unit neg mant exp < 0) = neg := by
  have hpos : 0 < mant * 2 ^ (exp - unit).toNat := Nat.mul_pos (Nat.pos_of_ne_zero h) (Nat.two_pow_pos _)
  unfold scaled
  generalize mant * 2 ^ (exp - unit).toNat = p at hpos
  cases neg
  · simp only [Bool.false_eq_true, if_false, decide_eq_false_iff_not]; omega
  · simp only [if_true, decide_eq_true_eq]; omega

/-- A value counted in a smaller unit. -/
theorem scaled_of_unit_le {unit unit' exp : Int} (h : unit ≤ unit') (h' : unit' ≤ exp) (neg : Bool) (mant : Nat) :
    scaled unit neg mant exp = scaled unit' neg mant exp * ((2 ^ (unit' - unit).toNat : Nat) : Int) := by
  have hexp : (exp - unit).toNat = (exp - unit').toNat + (unit' - unit).toNat := by omega
  rw [scaled, scaled, Int.mul_assoc, ← Int.natCast_mul, Nat.mul_assoc, ← Nat.pow_add, ← hexp]

/-- The exact value of a finite word is that of its fields. -/
theorem exactly_eq_scaled (a : W32) : exactly a = scaled (-149) (sgn a) (significand a) ((shiftOf a : Int) - 149) := by
  have hexp : ((shiftOf a : Int) - 149 - -149).toNat = shiftOf a := by omega
  have hdef : exactly a = if sgn a then -((significand a * 2 ^ shiftOf a : Nat) : Int) else (significand a * 2 ^ shiftOf a : Nat) := rfl
  rw [scaled, hexp, hdef]
  cases sgn a
  · exact (Int.one_mul _).symm
  · exact Int.neg_eq_neg_one_mul _

end Sys2Proof.Proofs
end

section
/-!
PROOFS. Rounding to FP32 (R161, R163): which finite values overflow, and what the encoding of a value is.
-/

namespace Sys2Proof.Proofs

open Sys2Proof.Machine Sys2Proof.Claims

/-! ## Rounding to nearest, ties to even -/

theorem shiftRne_le {v k N : Nat} (h : v < N * 2 ^ k) : shiftRne v k ≤ N := by
  have hquot : v / 2 ^ k < N := Nat.div_lt_of_lt_mul (by rwa [Nat.mul_comm])
  unfold shiftRne
  by_cases hk : k = 0
  · subst hk; simpa using Nat.le_of_lt h
  · simp only [hk, if_false]; split <;> omega

/-- An even number is reached from half a unit below it on. -/
theorem le_shiftRne_iff {v k N : Nat} (hpos : 0 < N) (heven : N % 2 = 0) : N ≤ shiftRne v k ↔ (2 * N - 1) * 2 ^ k ≤ 2 * v := by
  by_cases hk : k = 0
  · subst hk
    rw [Nat.pow_zero, Nat.mul_one]
    change N ≤ v ↔ _
    omega
  simp only [shiftRne, hk, if_false]
  have hP : 0 < 2 ^ k := Nat.two_pow_pos k
  have hv : v = v / 2 ^ k * 2 ^ k + v % 2 ^ k := (Nat.div_add_mod' _ _).symm
  have hr : v % 2 ^ k < 2 ^ k := Nat.mod_lt _ hP
  generalize v / 2 ^ k = q at *
  generalize v % 2 ^ k = r at *
  generalize 2 ^ k = P at *
  subst hv
  obtain hle | rfl | hge : N ≤ q ∨ N = q + 1 ∨ q + 2 ≤ N := by omega
  · have hbelow : (2 * N - 1) * P ≤ 2 * q * P := Nat.mul_le_mul_right P (by omega)
    have hq : 2 * q * P = 2 * (q * P) := Nat.mul_assoc _ _ _
    split <;> omega
  · have hhalf : (2 * (q + 1) - 1) * P = 2 * (q * P) + P := by
      rw [show 2 * (q + 1) - 1 = 2 * q + 1 by omega, Nat.add_mul, Nat.mul_assoc, Nat.one_mul]
    rw [hhalf]
    split <;> omega
  · have habove : (2 * q + 2) * P ≤ (2 * N - 1) * P := Nat.mul_le_mul_right P (by omega)
    have hq : (2 * q + 2) * P = 2 * (q * P) + 2 * P := by rw [Nat.add_mul, Nat.mul_assoc]
    split <;> omega

/-- `mant × 2 ^ exp` rounded to a multiple of `2 ^ t`, in units of `2 ^ t`. -/
def roundTo (mant : Nat) (exp t : Int) : Nat :=
  if t ≤ exp then mant * 2 ^ (exp - t).toNat else shiftRne mant (t - exp).toNat

/-- A power of two between three exponents. -/
theorem two_pow_between {a b c : Int} (hab : a ≤ b) (hbc : b ≤ c) :
    2 ^ (c - a).toNat = 2 ^ (c - b).toNat * 2 ^ (b - a).toNat := by
  rw [← Nat.pow_add]
  congr 1
  omega

theorem roundTo_le {mant N : Nat} {unit exp t : Int} (he : unit ≤ exp) (ht : unit ≤ t)
    (h : mant * 2 ^ (exp - unit).toNat < N * 2 ^ (t - unit).toNat) : roundTo mant exp t ≤ N := by
  unfold roundTo
  split
  case isTrue hle =>
    rw [two_pow_between ht hle, ← Nat.mul_assoc] at h
    exact Nat.le_of_lt (Nat.lt_of_mul_lt_mul_right h)
  case isFalse hlt =>
    rw [two_pow_between he (by omega : exp ≤ t), ← Nat.mul_assoc] at h
    exact shiftRne_le (Nat.lt_of_mul_lt_mul_right h)

theorem le_roundTo_iff {mant N : Nat} {unit exp t : Int} (he : unit ≤ exp) (ht : unit ≤ t) (hpos : 0 < N) (heven : N % 2 = 0) :
    N ≤ roundTo mant exp t ↔ (2 * N - 1) * 2 ^ (t - unit).toNat ≤ 2 * (mant * 2 ^ (exp - unit).toNat) := by
  unfold roundTo
  split
  case isTrue hle =>
    rw [two_pow_between ht hle, ← Nat.mul_assoc, ← Nat.mul_assoc, Nat.mul_le_mul_right_iff (Nat.two_pow_pos _), Nat.mul_assoc]
    omega
  case isFalse hlt =>
    rw [two_pow_between he (by omega : exp ≤ t), ← Nat.mul_assoc, ← Nat.mul_assoc, Nat.mul_le_mul_right_iff (Nat.two_pow_pos _),
      le_shiftRne_iff hpos heven]

/-! ## The encoding of a finite value -/

/-- The exponent of the last place of FP32 at `mant × 2 ^ exp`. -/
def lastPlace (mant : Nat) (exp : Int) : Int := max (exp + (Nat.log2 mant : Int) - 23) (-149)

/-- The exponent and fraction fields of `mant × 2 ^ exp` rounded, as one number; it goes on past the largest finite value. -/
def magnitude (mant : Nat) (exp : Int) : Nat :=
  (lastPlace mant exp + 149).toNat * 2 ^ 23 + roundTo mant exp (lastPlace mant exp)

section
variable {mant : Nat} {unit exp : Int}

theorem neg149_le_lastPlace : -149 ≤ lastPlace mant exp := Int.le_max_right _ _

/-- A value is less than 2 ^ 24 last places. -/
theorem lt_lastPlace (he : unit ≤ exp) :
    mant * 2 ^ (exp - unit).toNat < 2 ^ 24 * 2 ^ (lastPlace mant exp - unit).toNat := by
  have hlast : exp + (Nat.log2 mant : Int) - 23 ≤ lastPlace mant exp := Int.le_max_left _ _
  calc mant * 2 ^ (exp - unit).toNat
      < 2 ^ (mant.log2 + 1) * 2 ^ (exp - unit).toNat := Nat.mul_lt_mul_of_pos_right Nat.lt_log2_self (Nat.two_pow_pos _)
    _ = 2 ^ (mant.log2 + 1 + (exp - unit).toNat) := (Nat.pow_add _ _ _).symm
    _ ≤ 2 ^ (24 + (lastPlace mant exp - unit).toNat) := Nat.pow_le_pow_right (Nat.zero_lt_succ 1) (by omega)
    _ = 2 ^ 24 * 2 ^ (lastPlace mant exp - unit).toNat := Nat.pow_add _ _ _

/-- A value above the subnormal range is at least 2 ^ 23 last places. -/
theorem lastPlace_le (hm : mant ≠ 0) (he : unit ≤ exp) (hu : unit ≤ -149) (hnormal : lastPlace mant exp ≠ -149) :
    2 ^ 23 * 2 ^ (lastPlace mant exp - unit).toNat ≤ mant * 2 ^ (exp - unit).toNat := by
  have hlast : lastPlace mant exp = exp + (Nat.log2 mant : Int) - 23 := by unfold lastPlace at *; omega
  have hlow : -149 ≤ lastPlace mant exp := neg149_le_lastPlace
  calc 2 ^ 23 * 2 ^ (lastPlace mant exp - unit).toNat
      = 2 ^ (23 + (lastPlace mant exp - unit).toNat) := (Nat.pow_add _ _ _).symm
    _ = 2 ^ (mant.log2 + (exp - unit).toNat) := by congr 1; omega
    _ = 2 ^ mant.log2 * 2 ^ (exp - unit).toNat := Nat.pow_add _ _ _
    _ ≤ mant * 2 ^ (exp - unit).toNat := Nat.mul_le_mul_right _ (Nat.log2_self_le hm)

theorem roundTo_lastPlace_le : roundTo mant exp (lastPlace mant exp) ≤ 2 ^ 24 :=
  have hlow : -149 ≤ lastPlace mant exp := neg149_le_lastPlace
  roundTo_le (unit := min exp (-149)) (Int.min_le_left _ _) (by omega) (lt_lastPlace (Int.min_le_left _ _))

theorem le_roundTo_lastPlace (hm : mant ≠ 0) (hnormal : lastPlace mant exp ≠ -149) :
    2 ^ 23 ≤ roundTo mant exp (lastPlace mant exp) := by
  have hlow : -149 ≤ lastPlace mant exp := neg149_le_lastPlace
  have hval := lastPlace_le (unit := min exp (-149)) hm (Int.min_le_left _ _) (Int.min_le_right _ _) hnormal
  rw [le_roundTo_iff (unit := min exp (-149)) (Int.min_le_left _ _) (by omega) (by decide) (by decide)]
  calc (2 * 2 ^ 23 - 1) * 2 ^ (lastPlace mant exp - min exp (-149)).toNat
      ≤ 2 * 2 ^ 23 * 2 ^ (lastPlace mant exp - min exp (-149)).toNat := Nat.mul_le_mul_right _ (by decide)
    _ ≤ _ := by rw [Nat.mul_assoc]; exact Nat.mul_le_mul_left 2 hval

/-- R161, R163: the encoding of a finite value is its magnitude, or past the largest finite value the result of an overflow. -/
theorem fencode_fin (ci neg : Bool) (hm : mant ≠ 0) : fencode (ffmt 0) ci (.fin neg mant exp) =
    if magnitude mant exp < 0x7F800000 then (b2n neg * 2 ^ 31 + magnitude mant exp, 0)
    else (if ci then finf (ffmt 0) neg else fmax (ffmt 0) neg, fOverflow) := by
  have hle : roundTo mant exp (lastPlace mant exp) ≤ 2 ^ 24 := roundTo_lastPlace_le
  have hnormal := le_roundTo_lastPlace (exp := exp) hm
  have hlow : -149 ≤ lastPlace mant exp := neg149_le_lastPlace
  have hunfold : fencode (ffmt 0) ci (.fin neg mant exp) = if mant = 0 then (b2n neg * 2 ^ 31, 0) else
      let qt := if roundTo mant exp (lastPlace mant exp) = 2 ^ 24 then (2 ^ 23, lastPlace mant exp + 1)
        else (roundTo mant exp (lastPlace mant exp), lastPlace mant exp)
      let mag := if qt.1 < 2 ^ 23 then qt.1 else ((qt.2 - -149).toNat + 1) * 2 ^ 23 + (qt.1 - 2 ^ 23)
      if mag ≤ 0x7F7FFFFF then (b2n neg * 2 ^ 31 + mag, 0)
      else (if ci then finf (ffmt 0) neg else fmax (ffmt 0) neg, fOverflow) := rfl
  rw [hunfold, if_neg hm]
  unfold magnitude
  generalize roundTo mant exp (lastPlace mant exp) = q at *
  generalize lastPlace mant exp = t at *
  have hmag : (let qt := if q = 2 ^ 24 then (2 ^ 23, t + 1) else (q, t)
      if qt.1 < 2 ^ 23 then qt.1 else ((qt.2 - -149).toNat + 1) * 2 ^ 23 + (qt.1 - 2 ^ 23)) = (t + 149).toNat * 2 ^ 23 + q := by
    by_cases hq : q = 2 ^ 24
    · simp only [hq, if_true, Nat.lt_irrefl, if_false]; omega
    · simp only [hq, if_false]; split <;> omega
  simp only [hmag, Nat.lt_iff_le_pred (show 0 < 0x7F800000 by decide)]

/-- R163: past the range comes a largest finite value or an infinity. -/
theorem pastRange_eq (ci neg : Bool) :
    BitVec.ofNat 32 (if ci then finf (ffmt 0) neg else fmax (ffmt 0) neg) = pastRange ci neg := by
  cases ci <;> cases neg <;> decide

theorem sgn_pastRange (ci neg : Bool) : sgn (pastRange ci neg) = neg := by
  cases ci <;> cases neg <;> decide

theorem sgn_ofNat (neg : Bool) {m : Nat} (h : m < 2 ^ 31) : sgn (BitVec.ofNat 32 (b2n neg * 2 ^ 31 + m)) = neg := by
  have hlt : b2n neg * 2 ^ 31 + m < 2 ^ 32 := by
    have hbit : b2n neg ≤ 1 := by cases neg <;> decide
    omega
  rw [sgn_eq_testBit, BitVec.toNat_ofNat, Nat.mod_eq_of_lt hlt, Nat.testBit_eq_decide_div_mod_eq]
  cases neg
  · rw [decide_eq_false_iff_not, show b2n false = 0 from rfl]
    omega
  · rw [decide_eq_true_eq, show b2n true = 1 from rfl]
    omega

theorem beyond_eq : beyond = (2 * 2 ^ 24 - 1) * 2 ^ 252 := by
  have hpow (n k : Nat) (hn : n = k + 24 + 1) : 2 ^ n - 2 ^ k = (2 * 2 ^ 24 - 1) * 2 ^ k := by
    rw [hn, Nat.pow_succ', Nat.pow_add, Nat.sub_one_mul, Nat.mul_comm (2 ^ k), ← Nat.mul_assoc]
  exact hpow 277 252 rfl

/-- A value is beyond the range exactly when its magnitude is past the largest finite one. -/
theorem magnitude_overflows_iff (hm : mant ≠ 0) (he : unit ≤ exp) (hu : unit ≤ -149) :
    0x7F800000 ≤ magnitude mant exp ↔ beyond * 2 ^ (-149 - unit).toNat ≤ mant * 2 ^ (exp - unit).toNat := by
  have hlow : -149 ≤ lastPlace mant exp := neg149_le_lastPlace
  have hle : roundTo mant exp (lastPlace mant exp) ≤ 2 ^ 24 := roundTo_lastPlace_le
  have hge := le_roundTo_lastPlace (exp := exp) hm
  have hupper := lt_lastPlace (mant := mant) he
  have hlower := lastPlace_le (mant := mant) hm he hu
  have htop := le_roundTo_iff (mant := mant) (N := 2 ^ 24) he (Int.le_trans hu hlow) (by decide) (by decide)
  have hpow : 2 ^ (lastPlace mant exp - unit).toNat = 2 ^ (lastPlace mant exp + 149).toNat * 2 ^ (-149 - unit).toNat := by
    rw [two_pow_between hu hlow, Int.sub_neg]
  simp only [hpow, ← Nat.mul_assoc] at hupper hlower htop
  obtain hbig | htie | hsmall : 254 ≤ (lastPlace mant exp + 149).toNat ∨ (lastPlace mant exp + 149).toNat = 253 ∨
    (lastPlace mant exp + 149).toNat ≤ 252 := by omega
  · have hpow254 : 2 ^ 254 ≤ 2 ^ (lastPlace mant exp + 149).toNat := Nat.pow_le_pow_right (by decide) hbig
    have hvalue : 2 ^ 23 * 2 ^ 254 * 2 ^ (-149 - unit).toNat ≤ mant * 2 ^ (exp - unit).toNat :=
      Nat.le_trans (Nat.mul_le_mul_right _ (Nat.mul_le_mul_left _ hpow254)) (hlower (by omega))
    have hbeyond : beyond * 2 ^ (-149 - unit).toNat ≤ 2 ^ 23 * 2 ^ 254 * 2 ^ (-149 - unit).toNat :=
      Nat.mul_le_mul_right _ (by rw [beyond_eq]; decide)
    exact iff_of_true (by unfold magnitude; omega) (Nat.le_trans hbeyond hvalue)
  · have hbeyond : (2 * 2 ^ 24 - 1) * 2 ^ 253 * 2 ^ (-149 - unit).toNat = 2 * (beyond * 2 ^ (-149 - unit).toNat) := by
      rw [beyond_eq, show 2 ^ 253 = 2 * 2 ^ 252 from Nat.pow_succ', ← Nat.mul_assoc,
        ← Nat.mul_assoc, Nat.mul_left_comm, ← Nat.mul_assoc]
    rw [htie, hbeyond, Nat.mul_assoc 2 mant, Nat.mul_le_mul_left_iff (by decide)] at htop
    rw [← htop, magnitude, htie]
    omega
  · have hpow252 : 2 ^ (lastPlace mant exp + 149).toNat ≤ 2 ^ 252 := Nat.pow_le_pow_right (by decide) hsmall
    have hvalue : mant * 2 ^ (exp - unit).toNat < 2 ^ 24 * 2 ^ 252 * 2 ^ (-149 - unit).toNat :=
      Nat.lt_of_lt_of_le hupper (Nat.mul_le_mul_right _ (Nat.mul_le_mul_left _ hpow252))
    have hbeyond : 2 ^ 24 * 2 ^ 252 * 2 ^ (-149 - unit).toNat ≤ beyond * 2 ^ (-149 - unit).toNat :=
      Nat.mul_le_mul_right _ (by rw [beyond_eq]; decide)
    exact iff_of_false (by unfold magnitude; omega) (by omega)

/-- R161, R163: a finite value beyond the range gives OVERFLOW and its result, with the value's sign. -/
theorem toF32_of_beyond (ci : Bool) {neg : Bool} (he : unit ≤ exp) (hu : unit ≤ -149)
    (h : beyond * 2 ^ (-149 - unit).toNat ≤ (scaled unit neg mant exp).natAbs) :
    toF32 ci (.fin neg mant exp) = (pastRange ci (decide (scaled unit neg mant exp < 0)), fOverflow) := by
  rw [natAbs_scaled] at h
  have hm : mant ≠ 0 := by
    rintro rfl
    have hpos : 0 < beyond * 2 ^ (-149 - unit).toNat := Nat.mul_pos (by rw [beyond_eq]; decide) (Nat.two_pow_pos _)
    omega
  have hover := (magnitude_overflows_iff hm he hu).2 h
  rw [scaled_neg_iff hm, toF32, fencode_fin ci neg hm, if_neg (by omega)]
  simp only [pastRange_eq]

@[simp] theorem toF32_zero (ci neg : Bool) (exp : Int) : toF32 ci (.fin neg 0 exp) = (if neg then 0x80000000 else 0, 0) := by
  cases neg <;> rfl

/-- R161: a finite value that does not round beyond the range sets no flag. -/
theorem toF32_of_not_beyond (ci : Bool) {neg : Bool} (he : unit ≤ exp) (hu : unit ≤ -149)
    (h : ¬ beyond * 2 ^ (-149 - unit).toNat ≤ (scaled unit neg mant exp).natAbs) : (toF32 ci (.fin neg mant exp)).2 = 0 := by
  by_cases hm : mant = 0
  · rw [hm, toF32_zero]
  rw [natAbs_scaled, ← magnitude_overflows_iff hm he hu, Nat.not_le] at h
  simp only [toF32, fencode_fin ci neg hm, if_pos h]

/-- The result of a finite value has its sign, and of the flags at most OVERFLOW. -/
theorem toF32_fin_sgn_flag (ci neg : Bool) (mant : Nat) (exp : Int) : sgn (toF32 ci (.fin neg mant exp)).1 = neg ∧
    ((toF32 ci (.fin neg mant exp)).2 = 0 ∨ (toF32 ci (.fin neg mant exp)).2 = fOverflow) := by
  by_cases hm : mant = 0
  · subst hm
    rw [toF32_zero]
    exact ⟨by cases neg <;> decide, .inl rfl⟩
  rw [toF32, fencode_fin ci neg hm]
  by_cases hmag : magnitude mant exp < 0x7F800000
  · rw [if_pos hmag]
    exact ⟨sgn_ofNat neg (Nat.lt_trans hmag (by decide)), .inl rfl⟩
  · rw [if_neg hmag]
    refine ⟨?_, .inr rfl⟩
    change sgn (BitVec.ofNat 32 (if ci then finf (ffmt 0) neg else fmax (ffmt 0) neg)) = neg
    rw [pastRange_eq, sgn_pastRange]

end

/-! ## The encoding of an infinity and of a NaN -/

@[simp] theorem toF32_nan (ci : Bool) : toF32 ci .nan = (0x7FC00000, 0) := rfl

@[simp] theorem toF32_inf (ci neg : Bool) : toF32 ci (.inf neg) = (infinity neg, 0) := by cases neg <;> rfl

end Sys2Proof.Proofs
end

section
/-!
PROOFS. FP32 arithmetic: exact sums and products (R167), the order of operands, and maximum (R168).
-/

namespace Sys2Proof.Proofs

open Sys2Proof.Machine Sys2Proof.Claims

/-! ## Exact sums and products -/

/-- The exact sum of two finite values, in a unit no greater than theirs. -/
theorem exists_finAdd_eq {unit e1 e2 : Int} (h0 : unit ≤ 0) (h1 : unit ≤ e1) (h2 : unit ≤ e2) (n1 n2 : Bool) (m1 m2 : Nat) :
    ∃ n m e, finAdd n1 m1 e1 n2 m2 e2 = .fin n m e ∧ unit ≤ e ∧
      scaled unit n m e = scaled unit n1 m1 e1 + scaled unit n2 m2 e2 := by
  have hmin : unit ≤ min e1 e2 := Int.le_min.2 ⟨h1, h2⟩
  have hsum : scaled unit n1 m1 e1 + scaled unit n2 m2 e2 =
      (scaled (min e1 e2) n1 m1 e1 + scaled (min e1 e2) n2 m2 e2) * ((2 ^ (min e1 e2 - unit).toNat : Nat) : Int) := by
    rw [scaled_of_unit_le hmin (Int.min_le_left e1 e2), scaled_of_unit_le hmin (Int.min_le_right e1 e2), Int.add_mul]
  have hdef : finAdd n1 m1 e1 n2 m2 e2 =
      if scaled (min e1 e2) n1 m1 e1 + scaled (min e1 e2) n2 m2 e2 = 0 then .fin (n1 && n2 && decide (m1 = 0) && decide (m2 = 0)) 0 0
      else .fin (decide (scaled (min e1 e2) n1 m1 e1 + scaled (min e1 e2) n2 m2 e2 < 0))
        (scaled (min e1 e2) n1 m1 e1 + scaled (min e1 e2) n2 m2 e2).natAbs (min e1 e2) := rfl
  rw [hsum, hdef]
  generalize scaled (min e1 e2) n1 m1 e1 + scaled (min e1 e2) n2 m2 e2 = v
  by_cases hv : v = 0
  · refine ⟨_, _, _, if_pos hv, h0, ?_⟩
    rw [scaled, hv, Nat.zero_mul, Int.zero_mul]
    exact Int.mul_zero _
  · refine ⟨_, _, _, if_neg hv, hmin, ?_⟩
    have hsign : (if decide (v < 0) = true then -1 else 1) * (v.natAbs : Int) = v := by
      by_cases hneg : v < 0
      · rw [if_pos (decide_eq_true hneg)]; omega
      · rw [if_neg (by simpa only [decide_eq_true_eq] using hneg)]; omega
    rw [scaled, Int.natCast_mul, ← Int.mul_assoc, hsign]

/-- The exact product of two finite words in units of 2 ^ -298. -/
theorem scaled_mul (a b : W32) : scaled (-298) (sgn a != sgn b) (significand a * significand b)
    ((shiftOf a : Int) - 149 + ((shiftOf b : Int) - 149)) = exactly a * exactly b := by
  have hexp (n : Nat) : ((n : Int) - 149 - -149).toNat = n := by omega
  have hexp2 (m n : Nat) : ((m : Int) - 149 + ((n : Int) - 149) - -298).toNat = m + n := by omega
  have hsign (s t : Bool) : (if (s != t) = true then -1 else 1 : Int) = (if s = true then -1 else 1) * (if t = true then -1 else 1) := by
    revert s t; decide
  rw [exactly_eq_scaled, exactly_eq_scaled, scaled, scaled, scaled, hexp, hexp, hexp2, hsign, Nat.pow_add, Nat.mul_mul_mul_comm,
    Int.natCast_mul, Int.mul_assoc, Int.mul_assoc]
  exact congrArg _ (Int.mul_left_comm _ _ _)

/-- A finite word's value in units of 2 ^ -298. -/
theorem scaled_word (a : W32) :
    scaled (-298) (sgn a) (significand a) ((shiftOf a : Int) - 149) = exactly a * 2 ^ 149 := by
  rw [scaled_of_unit_le (by decide : (-298 : Int) ≤ -149) (by omega), ← exactly_eq_scaled]
  rfl

/-! ## NaN operands and the infinities of a sum and a product -/

@[simp] theorem fsum_nan_left (x : FVal) : fsum .nan x = (.nan, 0) := rfl

@[simp] theorem fsum_nan_right (x : FVal) : fsum x .nan = (.nan, 0) := by cases x <;> rfl

@[simp] theorem fprod_nan_left (x : FVal) : fprod .nan x = (.nan, 0) := rfl

@[simp] theorem fprod_nan_right (x : FVal) : fprod x .nan = (.nan, 0) := by cases x <;> rfl

theorem nanFlag_of_mem {vs : List FVal} (h : FVal.nan ∈ vs) : nanFlag vs = fNanIn := by simp [nanFlag, h]

theorem nanFlag_of_not_mem {vs : List FVal} (h : FVal.nan ∉ vs) : nanFlag vs = 0 := by simp [nanFlag, h]

theorem finAdd_comm (n1 n2 : Bool) (m1 m2 : Nat) (e1 e2 : Int) : finAdd n1 m1 e1 n2 m2 e2 = finAdd n2 m2 e2 n1 m1 e1 := by
  have hzero : (n1 && n2 && decide (m1 = 0) && decide (m2 = 0)) = (n2 && n1 && decide (m2 = 0) && decide (m1 = 0)) := by
    rw [Bool.and_comm n1, Bool.and_assoc, Bool.and_comm (decide (m1 = 0)), ← Bool.and_assoc]
  simp only [finAdd, Int.min_comm e1, Int.add_comm, hzero]

theorem fsum_comm (x y : FVal) : fsum x y = fsum y x := by
  cases x with
  | nan => rw [fsum_nan_left, fsum_nan_right]
  | inf s =>
    cases y with
    | nan => rfl
    | inf t => cases s <;> cases t <;> rfl
    | fin => rfl
  | fin n m e =>
    cases y with
    | nan => rfl
    | inf => rfl
    | fin n' m' e' => exact congrArg (·, 0) (finAdd_comm n n' m m' e e')

theorem fprod_comm (x y : FVal) : fprod x y = fprod y x := by
  have hsign (s t : Bool) : (s != t) = (t != s) := bne_comm
  cases x with
  | nan => rw [fprod_nan_left, fprod_nan_right]
  | inf s => cases y <;> simp only [fprod, hsign s]
  | fin s m e => cases y <;> simp only [fprod, hsign s, Nat.mul_comm m, Int.add_comm e]

theorem fadd_comm (ci : Bool) (a b : W32) : fadd ci a b = fadd ci b a := by
  have hnan : nanFlag [f32 a, f32 b] = nanFlag [f32 b, f32 a] := by simp [nanFlag, Bool.or_comm]
  simp only [fadd, fsum_comm (f32 a), hnan]

theorem fmul_comm (ci : Bool) (a b : W32) : fmul ci a b = fmul ci b a := by
  have hnan : nanFlag [f32 a, f32 b] = nanFlag [f32 b, f32 a] := by simp [nanFlag, Bool.or_comm]
  simp only [fmul, fprod_comm (f32 a), hnan]

theorem ffma_comm (ci : Bool) (a b c : W32) : ffma ci a b c = ffma ci b a c := by
  have hnan : nanFlag [f32 a, f32 b, f32 c] = nanFlag [f32 b, f32 a, f32 c] := by simp [nanFlag, Bool.or_left_comm]
  simp only [ffma, fprod_comm (f32 a), hnan]

/-! ## Maximum -/

theorem fless_fin {a b : W32} (ha : isFin a = true) (hb : isFin b = true) :
    fless (f32 a) (f32 b) = decide (exactly a < exactly b) := by
  rw [f32_of_isFin ha, f32_of_isFin hb, exactly_eq_scaled, exactly_eq_scaled]
  generalize hea : (shiftOf a : Int) - 149 = ea
  generalize heb : (shiftOf b : Int) - 149 = eb
  have hmin : -149 ≤ min ea eb := by omega
  rw [scaled_of_unit_le hmin (Int.min_le_left ea eb), scaled_of_unit_le hmin (Int.min_le_right ea eb),
    decide_eq_decide.2 (Int.mul_lt_mul_right (Int.natCast_pos.2 (Nat.two_pow_pos _)))]
  rfl

/-- The magnitude of a finite word grows with its exponent field. -/
theorem magnitude_lt_of_expField_lt {a b : W32} (h : expField a < expField b) :
    significand a * 2 ^ shiftOf a < significand b * 2 ^ shiftOf b := by
  have hfrac : fracField a < 2 ^ 23 := Nat.mod_lt _ (by decide)
  have hupper : significand a * 2 ^ shiftOf a < 2 ^ 23 * 2 ^ expField a := by
    by_cases he : expField a = 0
    · simpa [significand, shiftOf, he] using hfrac
    · have hexp : expField a = shiftOf a + 1 := by unfold shiftOf; omega
      have hsig : significand a < 2 ^ 23 * 2 := by simp only [significand, he, if_false]; omega
      rw [hexp, Nat.pow_succ' (n := shiftOf a), ← Nat.mul_assoc]
      exact Nat.mul_lt_mul_of_pos_right hsig (Nat.two_pow_pos _)
  have hlower : 2 ^ 23 ≤ significand b := by simp only [significand]; split <;> omega
  have hshift : expField a ≤ shiftOf b := by unfold shiftOf; omega
  calc significand a * 2 ^ shiftOf a < 2 ^ 23 * 2 ^ expField a := hupper
    _ ≤ 2 ^ 23 * 2 ^ shiftOf b := Nat.mul_le_mul_left _ (Nat.pow_le_pow_right (by decide) hshift)
    _ ≤ significand b * 2 ^ shiftOf b := Nat.mul_le_mul_right _ hlower

/-- Two words of one value are the same word or zeros of either sign. -/
theorem eq_or_isZero_of_exactly_eq {a b : W32} (h : exactly a = exactly b) : a = b ∨ isZero a = true ∧ isZero b = true := by
  have hexp (n : Nat) : ((n : Int) - 149 - -149).toNat = n := by omega
  have hmag : significand a * 2 ^ shiftOf a = significand b * 2 ^ shiftOf b := by
    simpa [exactly_eq_scaled, natAbs_scaled, hexp] using congrArg Int.natAbs h
  have hfield : expField a = expField b := by
    obtain hlt | heq | hgt := Nat.lt_trichotomy (expField a) (expField b)
    · exact absurd hmag (Nat.ne_of_lt (magnitude_lt_of_expField_lt hlt))
    · exact heq
    · exact absurd hmag (Nat.ne_of_gt (magnitude_lt_of_expField_lt hgt))
  have hsig : significand a = significand b := by
    rw [shiftOf, shiftOf, hfield] at hmag
    exact Nat.eq_of_mul_eq_mul_right (Nat.two_pow_pos _) hmag
  by_cases hzero : significand a = 0
  · exact .inr ⟨isZero_iff.2 hzero, isZero_iff.2 (hsig ▸ hzero)⟩
  · refine .inl (word_ext ?_ hfield ?_)
    · rw [exactly_eq_scaled, exactly_eq_scaled] at h
      rw [← scaled_neg_iff (unit := -149) (exp := (shiftOf a : Int) - 149) (neg := sgn a) hzero, h, scaled_neg_iff (hsig ▸ hzero)]
    · simp only [significand, hfield] at hsig
      split at hsig <;> omega

theorem fmaximum_of_isNaN {a b : W32} (h : isNaN a = true ∨ isNaN b = true) : fmaximum a b = (0x7FC00000, fNanIn) :=
  if_pos (by simpa only [isNaN_iff] using h)

theorem fmaximum_comm_of_zeros {a b : W32} (ha : isZero a = true) (hb : isZero b = true) : fmaximum a b = fmaximum b a := by
  have hor (x : W32) (hx : isZero x = true) : x = 0 ∨ x = 0x80000000 := by simpa [isZero] using hx
  obtain rfl | rfl := hor a ha <;> obtain rfl | rfl := hor b hb <;> decide

/-- The maximum is the greater operand, whichever comes first. -/
theorem fmaximum_of_less {a b : W32} (ha : isNaN a = false) (hb : isNaN b = false) (h : fless (f32 a) (f32 b) = true)
    (h' : fless (f32 b) (f32 a) = false) : fmaximum a b = (b, 0) ∧ fmaximum b a = (b, 0) := by
  have hna : f32 a ≠ .nan := fun hn => by simp [isNaN_iff.2 hn] at ha
  have hnb : f32 b ≠ .nan := fun hn => by simp [isNaN_iff.2 hn] at hb
  simp [fmaximum, hna, hnb, h, h']

/-- R168: an infinity is at one end of the order. -/
theorem fmaximum_of_isInf {a b : W32} (ha : isInf a = true) (hb : isNaN b = false) :
    fmaximum a b = (if sgn a then b else a, 0) ∧ fmaximum b a = (if sgn a then b else a, 0) := by
  obtain hb | hb : isInf b = true ∨ isFin b = true := by simpa [hb] using word_cases b
  · have hbit (neg : Bool) : (infinity neg).getLsbD 31 = neg := sgn_infinity neg
    rw [isInf_iff.1 ha, isInf_iff.1 hb]
    cases sgn a <;> cases sgn b <;> simp [fmaximum, fless, hbit]
  · rw [fmaximum, fmaximum, f32_of_isInf ha, f32_of_isFin hb]
    cases sgn a <;> simp [fless]

theorem fmaximum_comm (a b : W32) : fmaximum a b = fmaximum b a := by
  by_cases hnan : isNaN a = true ∨ isNaN b = true
  · rw [fmaximum_of_isNaN hnan, fmaximum_of_isNaN hnan.symm]
  obtain ⟨hna, hnb⟩ : isNaN a = false ∧ isNaN b = false := by simpa using hnan
  obtain ha | ha : isInf a = true ∨ isFin a = true := by simpa [hna] using word_cases a
  · rw [(fmaximum_of_isInf ha hnb).1, (fmaximum_of_isInf ha hnb).2]
  obtain hb | hb : isInf b = true ∨ isFin b = true := by simpa [hnb] using word_cases b
  · rw [(fmaximum_of_isInf hb hna).1, (fmaximum_of_isInf hb hna).2]
  obtain hlt | heq | hgt := Int.lt_trichotomy (exactly a) (exactly b)
  · have hless := fmaximum_of_less hna hnb ((fless_fin ha hb).trans (decide_eq_true hlt))
      ((fless_fin hb ha).trans (decide_eq_false (Int.not_lt.2 (Int.le_of_lt hlt))))
    rw [hless.1, hless.2]
  · obtain rfl | ⟨hza, hzb⟩ := eq_or_isZero_of_exactly_eq heq
    · rfl
    · exact fmaximum_comm_of_zeros hza hzb
  · have hless := fmaximum_of_less hnb hna ((fless_fin hb ha).trans (decide_eq_true hgt))
      ((fless_fin ha hb).trans (decide_eq_false (Int.not_lt.2 (Int.le_of_lt hgt))))
    rw [hless.1, hless.2]

end Sys2Proof.Proofs
end

section
/-!
PROOFS. FP32 arithmetic on special values, row by row of Table 6.6, and the overflow of finite operands (R163, R168).
-/

namespace Sys2Proof.Proofs

open Sys2Proof.Machine Sys2Proof.Claims

section
variable {ci : Bool} {a b c : W32}

/-! ## NaN operands -/

theorem fadd_of_isNaN (h : isNaN a = true ∨ isNaN b = true) : fadd ci a b = (0x7FC00000, fNanIn) := by
  obtain h | h := h <;> rw [isNaN_iff] at h <;> simp [fadd, h, nanFlag_of_mem]

theorem fmul_of_isNaN (h : isNaN a = true ∨ isNaN b = true) : fmul ci a b = (0x7FC00000, fNanIn) := by
  obtain h | h := h <;> rw [isNaN_iff] at h <;> simp [fmul, h, nanFlag_of_mem]

theorem ffma_of_isNaN (h : isNaN a = true ∨ isNaN b = true) : ffma ci a b c = (0x7FC00000, fNanIn) := by
  obtain h | h := h <;> rw [isNaN_iff] at h <;> simp [ffma, h, nanFlag_of_mem]

/-! ## The exact result decides the rounded one -/

theorem nanFlag_of_not_isNaN {vs : List W32} (h : ∀ x ∈ vs, ¬ isNaN x = true) : nanFlag (vs.map f32) = 0 :=
  nanFlag_of_not_mem fun hmem => by
    obtain ⟨x, hx, hnan⟩ := List.mem_map.1 hmem
    exact h x hx (isNaN_iff.2 hnan)

/-- Without a NaN operand the flags of a sum are those of the exact sum and of its rounding. -/
theorem fadd_of_fsum {v : FVal} {f : Fl} (ha : ¬ isNaN a = true) (hb : ¬ isNaN b = true) (hv : fsum (f32 a) (f32 b) = (v, f)) :
    fadd ci a b = ((toF32 ci v).1, f ||| (toF32 ci v).2) := by
  have hflag : nanFlag [f32 a, f32 b] = 0 := nanFlag_of_not_isNaN (vs := [a, b]) (by simp [ha, hb])
  simp [fadd, hv, hflag]

theorem fmul_of_fprod {p : FVal} {f : Fl} (ha : ¬ isNaN a = true) (hb : ¬ isNaN b = true) (hp : fprod (f32 a) (f32 b) = (p, f)) :
    fmul ci a b = ((toF32 ci p).1, f ||| (toF32 ci p).2) := by
  have hflag : nanFlag [f32 a, f32 b] = 0 := nanFlag_of_not_isNaN (vs := [a, b]) (by simp [ha, hb])
  simp [fmul, hp, hflag]

theorem ffma_of_fprod_fsum {p v : FVal} {f g : Fl} (ha : ¬ isNaN a = true) (hb : ¬ isNaN b = true) (hc : ¬ isNaN c = true)
    (hp : fprod (f32 a) (f32 b) = (p, f)) (hv : fsum p (f32 c) = (v, g)) :
    ffma ci a b c = ((toF32 ci v).1, f ||| g ||| (toF32 ci v).2) := by
  have hflag : nanFlag [f32 a, f32 b, f32 c] = 0 := nanFlag_of_not_isNaN (vs := [a, b, c]) (by simp [ha, hb, hc])
  simp [ffma, hp, hv, hflag]

/-! ## Exact products and sums by the kinds of the operands -/

theorem fprod_zero_inf (ha : isZero a = true) (hb : isInf b = true) : fprod (f32 a) (f32 b) = (.nan, fInvalid) := by
  rw [f32_of_isFin (isFin_of_isZero ha), f32_of_isInf hb, isZero_iff.1 ha]
  rfl

theorem fprod_inf (ha : isInf a = true) (hb : ¬ isNaN b = true) (hz : ¬ isZero b = true) :
    fprod (f32 a) (f32 b) = (.inf (sgn a != sgn b), 0) := by
  obtain hinf | hfin : isInf b = true ∨ isFin b = true := by simpa [hb] using word_cases b
  · rw [f32_of_isInf ha, f32_of_isInf hinf]
    rfl
  · rw [f32_of_isInf ha, f32_of_isFin hfin]
    exact if_neg (mt isZero_iff.2 hz)

theorem fprod_fin (ha : isFin a = true) (hb : isFin b = true) : fprod (f32 a) (f32 b) =
    (.fin (sgn a != sgn b) (significand a * significand b) ((shiftOf a : Int) - 149 + ((shiftOf b : Int) - 149)), 0) := by
  rw [f32_of_isFin ha, f32_of_isFin hb]
  rfl

/-- A product is INVALID exactly for a zero and an infinity. -/
theorem fprod_flag (a b : W32) : (fprod (f32 a) (f32 b)).2 =
    if (isZero a && isInf b) || (isInf a && isZero b) then fInvalid else 0 := by
  by_cases hzi : isZero a = true ∧ isInf b = true
  · simp [fprod_zero_inf hzi.1 hzi.2, hzi]
  by_cases hiz : isInf a = true ∧ isZero b = true
  · simp [fprod_comm (f32 a), fprod_zero_inf hiz.2 hiz.1, hiz]
  have hrest : ((isZero a && isInf b) || (isInf a && isZero b)) = false := by
    rw [Bool.eq_false_iff]
    simp only [ne_eq, Bool.or_eq_true, Bool.and_eq_true]
    exact not_or.2 ⟨hzi, hiz⟩
  simp only [hrest, Bool.false_eq_true, if_false]
  obtain hna | hia | hfa := word_cases a
  · simp [isNaN_iff.1 hna]
  · by_cases hnb : isNaN b = true
    · simp [isNaN_iff.1 hnb]
    · rw [fprod_inf hia hnb fun hz => hiz ⟨hia, hz⟩]
  · obtain hnb | hib | hfb := word_cases b
    · simp [isNaN_iff.1 hnb]
    · rw [fprod_comm, fprod_inf hib (not_isNaN_of_isFin hfa) fun hz => hzi ⟨hz, hib⟩]
    · rw [fprod_fin hfa hfb]

theorem fsum_inf {neg : Bool} (h : isFin b = true ∨ b = infinity neg) : fsum (.inf neg) (f32 b) = (.inf neg, 0) := by
  obtain hfin | rfl := h
  · rw [f32_of_isFin hfin]
    rfl
  · simp [fsum]

/-! ## The rows of Table 6.6 -/

theorem fmul_zero_inf (ha : isZero a = true) (hb : isInf b = true) : fmul ci a b = (0x7FC00000, fInvalid) := by
  simp [fmul_of_fprod (not_isNaN_of_isZero ha) (not_isNaN_of_isInf hb) (fprod_zero_inf ha hb)]

theorem ffma_zero_inf (ha : isZero a = true) (hb : isInf b = true) (hc : ¬ isNaN c = true) :
    ffma ci a b c = (0x7FC00000, fInvalid) := by
  simp [ffma_of_fprod_fsum (not_isNaN_of_isZero ha) (not_isNaN_of_isInf hb) hc (fprod_zero_inf ha hb) (fsum_nan_left _)]

@[simp] theorem isInf_infinity (neg : Bool) : isInf (infinity neg) = true := by simp [isInf_iff]

theorem fadd_opposite_infinities (ci : Bool) : fadd ci (infinity false) (infinity true) = (0x7FC00000, fInvalid) := by
  have hsum : fsum (f32 (infinity false)) (f32 (infinity true)) = (.nan, fInvalid) := by simp [fsum]
  simp [fadd_of_fsum (not_isNaN_of_isInf (isInf_infinity _)) (not_isNaN_of_isInf (isInf_infinity _)) hsum]

theorem ffma_opposite_infinities (ha : isInf a = true) (hb : ¬ isNaN b = true) (hz : ¬ isZero b = true) :
    ffma ci a b (infinity (!(sgn a != sgn b))) = (0x7FC00000, fInvalid) := by
  have hsum : fsum (.inf (sgn a != sgn b)) (f32 (infinity (!(sgn a != sgn b)))) = (.nan, fInvalid) := by simp [fsum]
  simp [ffma_of_fprod_fsum (not_isNaN_of_isInf ha) hb (not_isNaN_of_isInf (isInf_infinity _)) (fprod_inf ha hb hz) hsum]

theorem ffma_addend_isNaN (h : isNaN c = true) : ffma ci a b c =
    (0x7FC00000, if (isZero a && isInf b) || (isInf a && isZero b) then fNanIn ||| fInvalid else fNanIn) := by
  have hvalue : ffma ci a b c = (0x7FC00000, (fprod (f32 a) (f32 b)).2 ||| fNanIn) := by
    simp [ffma, isNaN_iff.1 h, nanFlag_of_mem]
  rw [hvalue, fprod_flag, BitVec.or_comm]
  split <;> simp

theorem fadd_inf (ha : isInf a = true) (hb : ¬ isNaN b = true) (hsame : isInf b = true → a = b) : fadd ci a b = (a, 0) := by
  have hkind : isFin b = true ∨ b = infinity (sgn a) := by
    obtain hinf | hfin : isInf b = true ∨ isFin b = true := by simpa [hb] using word_cases b
    · exact .inr (hsame hinf ▸ isInf_iff.1 ha)
    · exact .inl hfin
  have hsum : fsum (f32 a) (f32 b) = (.inf (sgn a), 0) := by rw [f32_of_isInf ha, fsum_inf hkind]
  simp [fadd_of_fsum (not_isNaN_of_isInf ha) hb hsum, ← isInf_iff.1 ha]

theorem fmul_inf (ha : isInf a = true) (hb : ¬ isNaN b = true) (hz : ¬ isZero b = true) :
    fmul ci a b = (infinity (sgn a != sgn b), 0) := by
  simp [fmul_of_fprod (not_isNaN_of_isInf ha) hb (fprod_inf ha hb hz)]

theorem ffma_inf (ha : isInf a = true) (hb : ¬ isNaN b = true) (hz : ¬ isZero b = true)
    (hc : isFin c = true ∨ c = infinity (sgn a != sgn b)) : ffma ci a b c = (infinity (sgn a != sgn b), 0) := by
  have hnan : ¬ isNaN c = true := by
    obtain hfin | rfl := hc
    · exact not_isNaN_of_isFin hfin
    · exact not_isNaN_of_isInf (isInf_infinity _)
  simp [ffma_of_fprod_fsum (not_isNaN_of_isInf ha) hb hnan (fprod_inf ha hb hz) (fsum_inf hc)]

theorem ffma_addend_inf (ha : isFin a = true) (hb : isFin b = true) (hc : isInf c = true) : ffma ci a b c = (c, 0) := by
  have hsum (n : Bool) (m : Nat) (e : Int) : fsum (.fin n m e) (f32 c) = (.inf (sgn c), 0) := by rw [f32_of_isInf hc]; rfl
  simp [ffma_of_fprod_fsum (not_isNaN_of_isFin ha) (not_isNaN_of_isFin hb) (not_isNaN_of_isInf hc)
    (fprod_fin ha hb) (hsum _ _ _), ← isInf_iff.1 hc]

/-! ## Sums of finite words -/

/-- The sum of two finite words is their exact sum, rounded. -/
theorem fadd_fin (ha : isFin a = true) (hb : isFin b = true) : fadd ci a b = toF32 ci
    (finAdd (sgn a) (significand a) ((shiftOf a : Int) - 149) (sgn b) (significand b) ((shiftOf b : Int) - 149)) := by
  rw [fadd_of_fsum (v := finAdd _ _ _ _ _ _) (f := 0) (not_isNaN_of_isFin ha) (not_isNaN_of_isFin hb)
    (by rw [f32_of_isFin ha, f32_of_isFin hb]; rfl)]
  simp

/-- The fields of the word of the opposite sign. -/
theorem fields_flip (a : W32) : sgn (a ^^^ 0x80000000) = !sgn a ∧ expField (a ^^^ 0x80000000) = expField a ∧
    fracField (a ^^^ 0x80000000) = fracField a := by
  refine ⟨?_, ?_, ?_⟩
  · simp [sgn]
  · simp [expField, BitVec.toNat_xor, Nat.xor_div_two_pow (n := 23), Nat.xor_mod_two_pow (n := 8)]
  · simp [fracField, BitVec.toNat_xor, Nat.xor_mod_two_pow (n := 23)]

theorem finAdd_opposite (neg : Bool) (mant : Nat) (exp : Int) : finAdd neg mant exp (!neg) mant exp = .fin false 0 0 := by
  have hsum (p : Nat) : (if neg = true then -1 else 1 : Int) * p + (if (!neg) = true then -1 else 1) * p = 0 := by
    cases neg
    · change 1 * (p : Int) + -1 * p = 0; omega
    · change -1 * (p : Int) + 1 * p = 0; omega
  have hsign : (neg && !neg && decide (mant = 0) && decide (mant = 0)) = false := by rw [Bool.and_not_self]; rfl
  exact (if_pos (hsum _)).trans (by rw [hsign])

theorem fadd_opposite (ha : isFin a = true) : fadd ci a (a ^^^ 0x80000000) = (0, 0) := by
  obtain ⟨hsgn, hexp, hfrac⟩ := fields_flip a
  have hfin : isFin (a ^^^ 0x80000000) = true := isFin_iff.2 (hexp ▸ isFin_iff.1 ha)
  rw [fadd_fin ha hfin]
  simp only [hsgn, significand, shiftOf, hexp, hfrac, finAdd_opposite]
  rfl

/-- A sum of two zeros is −0 only when both are. -/
theorem fadd_zeros (ha : isZero a = true) (hb : isZero b = true) :
    fadd ci a b = (if sgn a && sgn b then 0x80000000 else 0, 0) := by
  rw [fadd_fin (isFin_of_isZero ha) (isFin_of_isZero hb), isZero_iff.1 ha, isZero_iff.1 hb]
  simp [finAdd]

/-! ## Overflow of finite operands -/

/-- R163: a result of the exact value `v` is past the range, with OVERFLOW and the sign of `v`, from `limit` on; below it sets no
flag. -/
def OverflowsFrom (ci : Bool) (limit : Nat) (v : Int) (r : W32 × Fl) : Prop :=
  if limit ≤ v.natAbs then r = (pastRange ci (decide (v < 0)), fOverflow) else r.2 = 0

theorem overflowsFrom_toF32 {unit exp : Int} (ci neg : Bool) (mant : Nat) (he : unit ≤ exp) (hu : unit ≤ -149) :
    OverflowsFrom ci (beyond * 2 ^ (-149 - unit).toNat) (scaled unit neg mant exp) (toF32 ci (.fin neg mant exp)) := by
  by_cases h : beyond * 2 ^ (-149 - unit).toNat ≤ (scaled unit neg mant exp).natAbs
  · rw [OverflowsFrom, if_pos h]
    exact toF32_of_beyond ci he hu h
  · rw [OverflowsFrom, if_neg h]
    exact toF32_of_not_beyond ci he hu h

theorem fadd_overflowsFrom (ha : isFin a = true) (hb : isFin b = true) :
    OverflowsFrom ci beyond (exactly a + exactly b) (fadd ci a b) := by
  obtain ⟨n, m, e, hadd, he, hval⟩ := exists_finAdd_eq (unit := -149) (e1 := (shiftOf a : Int) - 149) (e2 := (shiftOf b : Int) - 149)
    (by omega) (by omega) (by omega) (sgn a) (sgn b) (significand a) (significand b)
  rw [fadd_fin ha hb, hadd, exactly_eq_scaled, exactly_eq_scaled, ← hval]
  simpa using overflowsFrom_toF32 ci n m he (Int.le_refl _)

/-- The product of two finite words is their exact product, rounded. -/
theorem fmul_fin (ha : isFin a = true) (hb : isFin b = true) : fmul ci a b = toF32 ci
    (.fin (sgn a != sgn b) (significand a * significand b) ((shiftOf a : Int) - 149 + ((shiftOf b : Int) - 149))) := by
  rw [fmul_of_fprod (not_isNaN_of_isFin ha) (not_isNaN_of_isFin hb) (fprod_fin ha hb)]
  simp

theorem fmul_overflowsFrom (ha : isFin a = true) (hb : isFin b = true) :
    OverflowsFrom ci (beyond * 2 ^ 149) (exactly a * exactly b) (fmul ci a b) := by
  have hunit : -298 ≤ (shiftOf a : Int) - 149 + ((shiftOf b : Int) - 149) := by omega
  rw [fmul_fin ha hb, ← scaled_mul]
  exact overflowsFrom_toF32 ci _ _ hunit (by decide)

theorem ffma_overflowsFrom (ha : isFin a = true) (hb : isFin b = true) (hc : isFin c = true) :
    OverflowsFrom ci (beyond * 2 ^ 149) (exactly a * exactly b + exactly c * 2 ^ 149) (ffma ci a b c) := by
  obtain ⟨n, m, e, hadd, he, hval⟩ := exists_finAdd_eq (unit := -298)
    (e1 := (shiftOf a : Int) - 149 + ((shiftOf b : Int) - 149)) (e2 := (shiftOf c : Int) - 149)
    (by omega) (by omega) (by omega) (sgn a != sgn b) (sgn c) (significand a * significand b) (significand c)
  have hsum : fsum (.fin (sgn a != sgn b) (significand a * significand b) ((shiftOf a : Int) - 149 + ((shiftOf b : Int) - 149)))
      (f32 c) = (.fin n m e, 0) := by rw [f32_of_isFin hc, ← hadd]; rfl
  have hround : ffma ci a b c = toF32 ci (.fin n m e) := by
    rw [ffma_of_fprod_fsum (not_isNaN_of_isFin ha) (not_isNaN_of_isFin hb) (not_isNaN_of_isFin hc)
      (fprod_fin ha hb) hsum]
    simp
  rw [hround, ← scaled_mul, ← scaled_word, ← hval]
  exact overflowsFrom_toF32 ci n m he (by decide)

end

/-! ## The statement -/

/-- Between the ends of the range the nearest INT32 value is the value itself. -/
theorem nearest_word_eq_iff (v : Int) : nearest 7 v = v ↔ -2147483648 ≤ v ∧ v ≤ 2147483647 := by
  simp only [nearest, intLo, intHi, reduceIte, Nat.reduceEqDiff]
  omega

/-- Settles O54: each clause is a row of Table 6.6, and the overflow of finite operands is that of their exact result. -/
theorem specialValuesFollowTheTable : Obligations.SpecialValuesFollowTheTable := by
  intro ci a b c
  refine ⟨⟨fadd_comm ci a b, fmul_comm ci a b, ffma_comm ci a b c, fmaximum_comm a b, iadd_comm a b⟩,
    fmul_zero_inf, ffma_zero_inf, fadd_opposite_infinities ci, ffma_opposite_infinities,
    fun h => ⟨fadd_of_isNaN h, fmul_of_isNaN h⟩, ffma_of_isNaN, ffma_addend_isNaN,
    fadd_inf, fmul_inf, ffma_inf, ffma_addend_inf, fun ha _ => fadd_opposite ha, ⟨?_, ?_⟩, ?_,
    fmaximum_of_isNaN, ⟨?_, ?_⟩, fadd_overflowsFrom, fmul_overflowsFrom, ffma_overflowsFrom, toInt_iadd a b, ?_⟩
  · exact fadd_zeros (by decide) (by decide)
  · exact fadd_zeros (by decide) (by decide)
  · intro ha hb
    rw [fmul_fin ha hb]
    exact toF32_fin_sgn_flag _ _ _ _
  · decide
  · intro hb
    exact (fmaximum_of_isInf (isInf_infinity false) hb).1
  · rw [iadd_flag]
    simp only [nearest_word_eq_iff]

end Sys2Proof.Proofs
end

section
/-!
PROOFS. What keeps a state sound (O60): the rules for choices, folds and record updates, and those for the operations whose
changes are stated once (the laws of the operations).
-/

namespace Sys2Proof.Machine

theorem Sound.ite {c : Prop} [Decidable c] {x y : State} (hx : Sound x) (hy : Sound y) :
    Sound (if c then x else y) := by
  split
  · exact hx
  · exact hy

theorem Sound.pair {α : Type} {c : Prop} [Decidable c] {x y : α × State} (hx : Sound x.2) (hy : Sound y.2) :
    Sound (if c then x else y).2 := by
  split
  · exact hx
  · exact hy

theorem Sound.triple {α β : Type} {c : Prop} [Decidable c] {x y : α × β × State} (hx : Sound x.2.2)
    (hy : Sound y.2.2) :
    Sound (if c then x else y).2.2 := by
  split
  · exact hx
  · exact hy

/-- The state of an answer that is known. -/
theorem Sound.of_eq {α : Type} {x : α × State} {a : α} {t : State} (e : x = (a, t)) (h : Sound x.2) : Sound t := by
  rw [e] at h; exact h

theorem Sound.of_eq₃ {α β : Type} {x : α × β × State} {a : α} {b : β} {t : State} (e : x = (a, b, t))
    (h : Sound x.2.2) : Sound t := by
  rw [e] at h; exact h

/-- A property that every step of a fold keeps holds at its end. -/
theorem foldl_invariant {α σ : Type} {P : σ → Prop} {f : σ → α → σ} (hf : ∀ t x, P t → P (f t x)) {l : List α} {s : σ}
    (h : P s) : P (l.foldl f s) := by
  induction l generalizing s with
  | nil => exact h
  | cons x l ih => exact ih (hf s x h)

theorem foldl_sound {α : Type} {f : State → α → State} {l : List α} {s : State} (hf : ∀ t x, Sound t → Sound (f t x))
    (h : Sound s) : Sound (l.foldl f s) := foldl_invariant hf h

theorem foldl_sound_snd {α β : Type} {f : β × State → α → β × State} {l : List α} {x : β × State}
    (hf : ∀ t a, Sound t.2 → Sound (f t a).2) (h : Sound x.2) : Sound (l.foldl f x).2 :=
  foldl_invariant (P := fun x : β × State => Sound x.2) hf h

theorem foldl_sound_snd_snd {α β γ : Type} {f : β × γ × State → α → β × γ × State} {l : List α} {x : β × γ × State}
    (hf : ∀ t a, Sound t.2.2 → Sound (f t a).2.2) (h : Sound x.2.2) :
    Sound (l.foldl f x).2.2 :=
  foldl_invariant (P := fun x : β × γ × State => Sound x.2.2) hf h

theorem Sound.fields {s : State} (h : Sound s) : Memory.wf 0 s.mem = true ∧ Memory.wf 0xFF s.flash = true ∧
    tabSorted s.csr = true ∧ s.hep.ports.length = 2 ∧ s.hep.sessions.length = 4 := h

theorem Sound.mem {s : State} (h : Sound s) : Memory.wf 0 s.mem = true := h.1

theorem Sound.flash {s : State} (h : Sound s) : Memory.wf 0xFF s.flash = true := h.2.1

theorem Sound.csr {s : State} (h : Sound s) : tabSorted s.csr = true := h.2.2.1

theorem Sound.hep {s : State} (h : Sound s) : s.hep.ports.length = 2 ∧ s.hep.sessions.length = 4 := h.2.2.2

theorem Sound.of_fields {s : State} (h : Memory.wf 0 s.mem = true ∧ Memory.wf 0xFF s.flash = true ∧
    tabSorted s.csr = true ∧ s.hep.ports.length = 2 ∧ s.hep.sessions.length = 4) : Sound s := h

/-- Sound rests on four fields alone. -/
theorem Sound.keep {s t : State} (h : Sound s) (hm : t.mem = s.mem) (hf : t.flash = s.flash) (hc : t.csr = s.csr)
    (hh : t.hep = s.hep) : Sound t := by
  unfold Sound
  rw [hm, hf, hc, hh]
  exact h

/-! ## From what an operation may change -/

theorem Sound.regs {s t : State} (h : Sound s) (k : OnlyRegs s t) : Sound t := by
  obtain ⟨hm, hf, hc, hp, hq⟩ := h
  obtain ⟨_, _, _, _, rfl, hk⟩ := k
  exact ⟨hm, hf, hk hc, hp, hq⟩

theorem Sound.scans {s t : State} (h : Sound s) (k : OnlyScans s t) : Sound t := by
  obtain ⟨hm, hf, hc, hp, hq⟩ := h
  obtain ⟨_, _, _, _, _, _, _, _, _, rfl, hk⟩ := k
  exact ⟨hm, hf, hk hc, hp, hq⟩

theorem Sound.raises {s t : State} (h : Sound s) (k : OnlyRaises s t) : Sound t := h.scans k.scans

theorem Sound.store {s t : State} (h : Sound s) (k : OnlyStore s t) : Sound t := by
  obtain ⟨hm, hf, hc, hp, hq⟩ := h
  obtain ⟨_, _, _, _, _, _, _, _, _, _, rfl, hk, hw⟩ := k
  exact ⟨hw hm, hf, hk hc, hp, hq⟩

theorem Sound.sends {s t : State} (h : Sound s) (k : OnlySends s t) : Sound t := by
  obtain ⟨hm, hf, hc, hp, hq⟩ := h
  obtain ⟨_, _, _, _, _, _, _, _, _, _, _, _, rfl, hk⟩ := k
  exact ⟨hm, hf, hk hc, hp, hq⟩

theorem Sound.messages {s t : State} (h : Sound s) (k : OnlyMessages s t) : Sound t := by
  obtain ⟨hm, hf, hc, hp, hq⟩ := h
  obtain ⟨_, _, _, _, _, _, _, _, _, _, rfl, hk⟩ := k
  exact ⟨hm, hf, hk hc, hp, hq⟩

end Sys2Proof.Machine
end

section
/-!
PROOFS. Every function of the model that answers a state keeps it sound (O60): one lemma per function, each from the lemmas
of the functions it calls, in the order in which the model builds them up.
-/

namespace Sys2Proof.Machine
open Sys2Proof Host

theorem count_sound {src n : Nat} {port tc grp : Option Nat} {s : State} (h : Sound s) :
    Sound (count src n port tc grp s) :=
  h.regs (count_only _ _ _ _ _ _)

theorem issueStalls_sound {a : Nat} {s : State} (h : Sound s) : Sound (issueStalls a s) := by
  unfold issueStalls
  exact foldl_sound (fun _ _ h1 => .ite h1 (count_sound h1)) h

theorem stagingStalls_sound {f : Nat} {s : State} (h : Sound s) : Sound (stagingStalls f s) := by
  unfold stagingStalls
  exact foldl_sound (fun _ _ h1 => .ite h1 (count_sound h1)) h

theorem windowStalls_sound {f : Nat} {s : State} (h : Sound s) : Sound (windowStalls f s) := by
  unfold windowStalls
  dsimp only
  exact foldl_sound (fun _ _ h1 => count_sound h1) h

theorem creditStalls_sound {f : Nat} {s : State} (h : Sound s) : Sound (creditStalls f s) := by
  unfold creditStalls
  dsimp only
  exact foldl_sound (fun _ _ h1 => foldl_sound (fun _ _ h2 => count_sound h2) h1) h

theorem stallCounts_sound {s : State} (h : Sound s) : Sound (stallCounts s) := by
  unfold stallCounts
  dsimp only
  exact .ite h (issueStalls_sound (stagingStalls_sound (windowStalls_sound (creditStalls_sound h))))

theorem clockEdges_sound {s : State} (h : Sound s) : Sound (clockEdges s) := by
  unfold clockEdges
  dsimp only
  exact .ite (count_sound h) (by
      have hb : Sound (count 3
        (keptEdges (s.field 184549376 3 2) 2 (count 1 1 none none none s).now) none none
        none
        (count 2
          (keptEdges (s.field 184549376 3 2) 4 (count 1 1 none none none s).now) none none
          none (count 1 1 none none none s))) := count_sound (count_sound (count_sound h))
      generalize count 3
        (keptEdges (s.field 184549376 3 2) 2 (count 1 1 none none none s).now) none none
        none
        (count 2
          (keptEdges (s.field 184549376 3 2) 4 (count 1 1 none none none s).now) none none
          none (count 1 1 none none none s)) = u at hb ⊢
      exact .of_fields hb.fields)

theorem nextCycle_sound {s : State} (h : Sound s) : Sound (nextCycle s) := by
  unfold nextCycle
  exact h

theorem ecbEndCycle_sound {s : State} (h : Sound s) : Sound (ecbEndCycle s) := by
  obtain ⟨hm, hf, hc, hp⟩ := h
  exact ⟨hm, hf, foldl_invariant (P := fun c => tabSorted c = true) (fun _ _ hk => ecbAddAll_sorted _ _ hk) hc, hp⟩

theorem setReg_sound {a : Nat} {v : W64} {s : State} (h : Sound s) : Sound (s.setReg a v) := h.regs (setReg_only _ _ _)

theorem writesLast_sound {s : State} (h : Sound s) : Sound (writesLast s) := by
  unfold writesLast
  exact foldl_sound (fun _ _ h1 => setReg_sound h1) h

theorem setRegN_sound {a v : Nat} {s : State} (h : Sound s) : Sound (s.setRegN a v) := h.regs (setRegN_only _ _ _)

theorem setPort_sound {s : State} {n : Nat} {p : Port} (h : Sound s) : Sound (State.setPort s n p) := by
  unfold State.setPort
  exact h

theorem modPort_sound {n : Nat} {f : Port → Port} {s : State} (h : Sound s) : Sound (s.modPort n f) :=
  h.sends (modPort_only _ _ _)

theorem sendLinkLocal_sound {n typ ver : Nat} {own : List (Nat × Nat × Nat)} {s : State} (h : Sound s) :
    Sound (sendLinkLocal n typ ver own s) := by
  unfold sendLinkLocal
  extract_lets p t
  have ht : Sound t := modPort_sound h
  clear_value t
  exact .of_fields ht.fields

theorem sendStops_sound {origin wave : Nat} {but : Option Nat} {s : State} (h : Sound s) :
    Sound (sendStops origin wave but s) := by
  unfold sendStops
  exact foldl_sound (fun _ _ h1 => sendLinkLocal_sound h1) h

theorem flushEgress_sound {s : State} (h : Sound s) : Sound (flushEgress s) := by
  unfold flushEgress
  dsimp only
  exact foldl_sound (fun _ _ h1 => .ite h1 (foldl_sound (fun _ _ h2 => count_sound h2) (setPort_sound h1))) h

theorem setField_sound {a hi lo x : Nat} {s : State} (h : Sound s) : Sound (s.setField a hi lo x) :=
  h.regs (setField_only _ _ _ _ _)

theorem halt_sound {origin wave : Nat} {s : State} (h : Sound s) : Sound (halt origin wave s) := by
  unfold halt
  dsimp only
  exact flushEgress_sound (setField_sound (setField_sound (setRegN_sound h)))

theorem stopWave_sound {s : State} (h : Sound s) : Sound (stopWave s) := by
  unfold stopWave
  dsimp only
  exact .ite h (.ite h (sendStops_sound (halt_sound (setRegN_sound h))))

theorem countReg_sound {a n : Nat} {s : State} (h : Sound s) : Sound (s.countReg a n) := h.regs (countReg_only _ _ _)

theorem queueEvent_sound {s : State} {cls block : Nat} {data : W64} (h : Sound s) :
    Sound (queueEvent s cls block data) := by
  have h1 : Sound (if decide (s.hep.events.length ≥ 256) then s.countReg 0x9000410 1 else s) := .ite
    (countReg_sound h) h
  obtain ⟨hm, hf, hc, hp⟩ := h1
  exact ⟨hm, hf, hc, hp⟩

theorem setHost_sound {s : State} {n : Nat} {x : HostPort} (h : Sound s) : Sound (s.setHost n x) := by
  obtain ⟨hm, hf, hc, hp, hq⟩ := h
  exact ⟨hm, hf, hc, by rw [← hp]; exact List.length_set, hq⟩

theorem hostSend_sound {s : State} {n : Nat} {o : HostOut} (h : Sound s) : Sound (State.hostSend s n o) := by
  unfold State.hostSend
  dsimp only
  exact setHost_sound h

theorem sendEvent_sound {s : State} {p : Nat} {d : HostDest} {e : Event} (h : Sound s) : Sound (sendEvent s p d e) := by
  unfold sendEvent
  extract_lets k e' bytes t
  have ht : Sound t := hostSend_sound h
  obtain ⟨hm, hf, hc, hp, hq⟩ := ht
  exact ⟨hm, hf, hc, hp, hq⟩

theorem sendEvents_sound {s : State} {es : List Event} (h : Sound s) : Sound (sendEvents s es) := by
  unfold sendEvents
  split
  · exact h
  · split
    · exact h
    · exact foldl_sound (fun _ _ h1 => sendEvent_sound h1) h

theorem pushEvent_sound {s : State} {cls block : Nat} {data : W64} (h : Sound s) :
    Sound (pushEvent s cls block data) := by
  unfold pushEvent
  dsimp only
  exact sendEvents_sound (queueEvent_sound h)

theorem reactEvents_sound {cls b : Nat} {r : List (Blk × Nat)} {s : State} (h : Sound s) :
    Sound (reactEvents cls b r s) := by
  unfold reactEvents
  dsimp only
  exact .ite h (.ite (pushEvent_sound h) (foldl_sound (fun _ _ h1 => pushEvent_sound h1) h))

theorem setSticky_sound {a : Nat} {m : W64} {s : State} (h : Sound s) : Sound (s.setSticky a m) :=
  h.regs (setSticky_only _ _ _)

theorem setDisc_sound {n : Nat} {d : Disc} {s : State} (h : Sound s) : Sound (setDisc n d s) := by
  unfold setDisc
  dsimp only
  exact .ite h (.ite (pushEvent_sound (setSticky_sound (modPort_sound h))) (setSticky_sound (modPort_sound h)))

theorem requeue_sound {n : Nat} {l : List QPkt} {s : State} (h : Sound s) : Sound (requeue n l s) := by
  unfold requeue
  exact .ite (foldl_sound (fun _ _ h1 => count_sound h1) h) (modPort_sound h)

theorem enterDetect_sound {n : Nat} {s : State} (h : Sound s) : Sound (enterDetect n s) := by
  unfold enterDetect
  dsimp only
  exact setRegN_sound (modPort_sound (.ite (requeue_sound h) h))

theorem beginTraining_sound {n : Nat} {s : State} (h : Sound s) : Sound (beginTraining n s) := by
  unfold beginTraining
  exact setDisc_sound (enterDetect_sound h)

theorem linkRetrain_sound {n : Nat} {s : State} (h : Sound s) : Sound (linkRetrain n s) := by
  unfold linkRetrain
  exact .ite h (beginTraining_sound (modPort_sound h))

theorem countPkt_sound {src n : Nat} {p : Packet} {s : State} (h : Sound s) : Sound (countPkt src n p s) :=
  h.regs (countPkt_only _ _ _ _)

theorem discardQueues_sound {n : Nat} {s : State} (h : Sound s) : Sound (discardQueues n s) := by
  unfold discardQueues
  exact foldl_sound (fun _ _ h1 => countPkt_sound h1) (modPort_sound h)

theorem stopsLeaveAt_sound {ns : List Nat} {s : State} (h : Sound s) : Sound (stopsLeaveAt ns s) := by
  refine foldl_sound (fun t n ht => .ite ht ?_) h
  have hu : Sound (t.modPort n (fun q => { q with linkLocal := q.linkLocal.filter (fun p => p.typ != tStop) })) :=
    modPort_sound ht
  generalize t.modPort n (fun q => { q with linkLocal := q.linkLocal.filter (fun p => p.typ != tStop) }) = u at hu ⊢
  exact .of_fields hu.fields

theorem endRunsOf_sound {mine : RunOrigin → Bool} {s : State} (h : Sound s) : Sound (endRunsOf mine s) := by
  unfold endRunsOf
  exact foldl_sound (fun _ _ h1 => count_sound h1) h

theorem endCollRuns_sound {g : Nat} {cseq : W32} {s : State} (h : Sound s) : Sound (endCollRuns g cseq s) := by
  unfold endCollRuns
  exact endRunsOf_sound h

theorem advanceH_sound {fuel g : Nat} {s : State} (h : Sound s) : Sound (advanceH fuel g s) := by
  induction fuel generalizing s with
  | zero => exact h
  | succ f ih =>
    have h1 : Sound (s.setReg (0x401001C + g * 0x20) ((grpH s g + 1).setWidth 64)) := setReg_sound h
    exact .ite (ih (.of_fields h1.fields)) h

theorem closeCseq_sound {g : Nat} {cseq : W32} {s : State} (h : Sound s) : Sound (closeCseq g cseq s) := by
  unfold closeCseq
  exact advanceH_sound h

theorem collEnd_sound {g : Nat} {cseq : W32} {s : State} (h : Sound s) : Sound (collEnd g cseq s) := by
  unfold collEnd
  dsimp only
  exact closeCseq_sound (by
      have hb : Sound (endCollRuns g cseq s) := endCollRuns_sound h
      generalize endCollRuns g cseq s = u at hb ⊢
      exact .of_fields hb.fields)

theorem newMsgId_sound {s : State} (h : Sound s) : Sound (newMsgId s).2 := by
  unfold newMsgId
  exact h

theorem countCorrected_sound {b : Blk} {s : State} (h : Sound s) : Sound (countCorrected b s) := by
  unfold countCorrected
  exact h

theorem raise_sound {b : Blk} {src : Nat} {s : State} (h : Sound s) : Sound (raise b src s) :=
  h.raises (raise_only _ _ _)

theorem raiseIf_sound {c : Bool} {b : Blk} {src : Nat} {s : State} (h : Sound s) : Sound (raiseIf c b src s) :=
  h.raises (raiseIf_only _ _ _ _)

theorem memScan_sound {b : Blk} {sel : GMem → Bool} {s : State} (h : Sound s) : Sound (memScan b sel s).2.2 :=
  h.scans (memScan_only _ _ _)

theorem stageRead_sound {b : Blk} {st : Stage} {n : Nat} {p : Packet} {s : State} (h : Sound s) :
    Sound (stageRead b st n p s).2 :=
  h.sends (stageRead_only _ _ _ _ _)

theorem cross_sound {f t n : Nat} {s : State} (h : Sound s) : Sound (cross f t n s) := h.regs (cross_only _ _ _ _)

theorem carry_sound {hq mq n : Nat} {p : Packet} {s : State} (h : Sound s) : Sound (carry hq mq n p s) :=
  h.regs (carry_only _ _ _ _ _)

theorem egressPush_sound {n : Nat} {p : Packet} {g : Option Nat} {hop : Nat} {i : Option Nat}
    {s : State} (h : Sound s) : Sound (egressPush n p g hop i s) :=
  h.sends (egressPush_only _ _ _ _ _ _)

theorem wordsXor_sound {a : Nat} {m : BitVec 128} {s : State} (h : Sound s) : Sound (wordsXor a m s) :=
  h.regs (wordsXor_only _ _ _)

theorem tableRead_sound {b : Blk} {a n : Nat} {s : State} (h : Sound s) : Sound (tableRead b a n s).2 :=
  h.scans (tableRead_only _ _ _ _)

theorem contractRead_sound {c : Nat} {s : State} (h : Sound s) : Sound (contractRead c s).2 := by
  unfold contractRead
  exact tableRead_sound h

theorem egressGreen_sound {n : Nat} {p : Packet} {hop : Nat} {i : Option Nat} {s : State} (h : Sound s) :
    Sound (egressGreen n p hop i s) :=
  h.sends (egressGreen_only _ _ _ _ _)

theorem egress_sound {n : Nat} {p : Packet} {dl hop : Nat} {i : Option Nat} {s : State} (h : Sound s) :
    Sound (egress n p dl hop i s) :=
  h.sends (egress_only _ _ _ _ _ _)

theorem throughRte_sound {n hq mq dl hop : Nat} {i : Option Nat} {p : Packet} {s : State} (h : Sound s) :
    Sound (throughRte n hq mq dl hop i p s) :=
  h.sends (throughRte_only _ _ _ _ _ _ _ _)

theorem toEndpoint_sound {i : Option Nat} {quad mq hop : Nat} {p : Packet} {s : State} (h : Sound s) :
    Sound (toEndpoint i quad mq hop p s) :=
  h.sends (toEndpoint_only _ _ _ _ _ _)

theorem toTrunk_sound {n hq mq : Nat} {i : Option Nat} {hop : Nat} {p : Packet} {s : State} (h : Sound s) :
    Sound (toTrunk n hq mq i hop p s) :=
  h.sends (toTrunk_only _ _ _ _ _ _ _)

theorem noRoute_sound {n : Option Nat} {p : Packet} {s : State} (h : Sound s) : Sound (noRoute n p s) :=
  h.sends (noRoute_only _ _ _)

theorem spreadChoose_sound {quad axis : Nat} {ps : List Nat} {s : State} (h : Sound s) :
    Sound (spreadChoose quad axis ps s).2 :=
  h.sends (spreadChoose_only _ _ _ _)

theorem route_sound {i : Option Nat} {quad mq hop : Nat} {p : Packet} {s : State} (h : Sound s) :
    Sound (route i quad mq hop p s) :=
  h.sends (route_only _ _ _ _ _ _)

theorem sendOn_sound {quad mq hop : Nat} {p : Packet} {s : State} (h : Sound s) : Sound (sendOn quad mq hop p s) :=
  h.sends (sendOn_only _ _ _ _ _)

theorem originateFrom_sound {quad mq : Nat} {p : Packet} {s : State} (h : Sound s) :
    Sound (originateFrom quad mq p s) :=
  h.sends (originateFrom_only _ _ _ _)

theorem collSend_sound {g mq : Nat} {p : Packet} {s : State} (h : Sound s) : Sound (collSend g mq p s) := by
  unfold collSend
  exact .ite h (originateFrom_sound h)

theorem sendControl_sound {g : Nat} {cseq digest : W32} {tc dst step : Nat} {pay : List Byte}
    {s : State} (h : Sound s) : Sound (sendControl g cseq digest tc dst step pay s) := by
  unfold sendControl
  dsimp only
  exact collSend_sound (newMsgId_sound h)

theorem sendRecord_sound {typ g : Nat} {cseq digest : W32} {tc dst code : Nat} {fl : Fl} {first : W32} {seg : Nat}
    {s : State} (h : Sound s) : Sound (sendRecord typ g cseq digest tc dst code fl first seg s) := by
  unfold sendRecord
  dsimp only
  exact collSend_sound (newMsgId_sound h)

theorem collAbort_sound {g : Nat} {cseq digest : W32} {tc port code : Nat} {skip : Option Nat}
    {s : State} (h : Sound s) : Sound (collAbort g cseq digest tc port code skip s) := by
  unfold collAbort
  dsimp only
  exact foldl_sound (fun _ _ h1 => sendRecord_sound h1) (foldl_sound (fun _ _ h1 => sendControl_sound h1)
    (count_sound (collEnd_sound h)))

theorem collFail_sound {c : Coll} {code : Nat} {s : State} (h : Sound s) : Sound (collFail c code s) := by
  unfold collFail
  exact collAbort_sound h

theorem failColls_sound {q : Coll → Bool} {code : Nat} {s : State} (h : Sound s) : Sound (failColls q code s) := by
  unfold failColls
  exact foldl_sound (fun _ _ h1 => collFail_sound h1) h

theorem setEngine_sound {s : State} {n : Nat} {e : Engine} (h : Sound s) : Sound (State.setEngine s n e) := by
  unfold State.setEngine
  exact h

theorem modEngine_sound {s : State} {n : Nat} {f : Engine → Engine} (h : Sound s) : Sound (State.modEngine s n f) := by
  unfold State.modEngine
  exact setEngine_sound h

theorem endRuns_sound {e : Nat} {s : State} (h : Sound s) : Sound (endRuns e s) := by
  unfold endRuns
  dsimp only
  exact count_sound (modEngine_sound h)

theorem engineReset_sound {e : Nat} {s : State} (h : Sound s) : Sound (engineReset e s) := by
  unfold engineReset
  exact failColls_sound (setField_sound (endRuns_sound h))

theorem advanceXH_sound {fuel t : Nat} {s : State} (h : Sound s) : Sound (advanceXH fuel t s) := by
  induction fuel generalizing s with
  | zero => exact h
  | succ f ih =>
    have h1 : Sound (s.setReg (xBase t + 0x2C) ((xH s t + 1).setWidth 64)) := setReg_sound h
    exact .ite (ih (.of_fields h1.fields)) h

theorem closeStep_sound {t : Nat} {cseq : W32} {s : State} (h : Sound s) : Sound (closeStep t cseq s) := by
  unfold closeStep
  exact advanceXH_sound h

theorem finishStep_sound {t : Nat} {cseq : W32} {s : State} (h : Sound s) : Sound (finishStep t cseq s) := by
  unfold finishStep
  dsimp only
  split
  · exact h
  · exact .ite (closeStep_sound (count_sound h)) h

theorem dropComb_sound {c : Comb} {s : State} (h : Sound s) : Sound (dropComb c s) := by
  unfold dropComb
  dsimp only
  have hb : Sound (endRunsOf (ofComb c) s) := endRunsOf_sound h
  generalize endRunsOf (ofComb c) s = u at hb ⊢
  exact .of_fields hb.fields

theorem closeComb_sound {c : Comb} {s : State} (h : Sound s) : Sound (closeComb c s) := by
  unfold closeComb
  exact finishStep_sound (dropComb_sound h)

theorem dropExperts_sound {qs : XStep → Bool} {qc : Comb → Bool} {s : State} (h : Sound s) :
    Sound (dropExperts qs qc s) := by
  unfold dropExperts
  dsimp only
  exact foldl_sound (fun _ _ h1 => closeStep_sound h1) (foldl_sound (fun _ _ h1 => closeComb_sound h1) h)

theorem endGrant_sound {b : Buf} {s : State} (h : Sound s) : Sound (endGrant b s) := by
  unfold endGrant
  split
  · exact h
  · exact modPort_sound h

theorem freeBuf_sound {b : Buf} {s : State} (h : Sound s) : Sound (freeBuf b s) := by
  unfold freeBuf
  dsimp only
  exact endGrant_sound h

theorem bpmReturnAll_sound {s : State} (h : Sound s) : Sound (bpmReturnAll s) := by
  unfold bpmReturnAll
  exact foldl_sound (fun _ _ h1 => freeBuf_sound h1) h

theorem msuClear_sound {s : State} (h : Sound s) : Sound (msuClear s) := by
  unfold msuClear
  dsimp only
  exact h

/-- A table whose values change in place keeps its keys. -/
theorem tabSorted_map {α : Type} {f : Nat × α → Nat × α} (hf : ∀ e, (f e).1 = e.1)
    {t : Tab α} (h : tabSorted t = true) :
    tabSorted (t.map f) = true := by
  induction t with
  | nil => rfl
  | cons e r ih =>
    obtain ⟨ha, hs⟩ := (tabSorted_cons e r).1 h
    refine (tabSorted_cons _ _).2 ⟨?_, ih hs⟩
    intro x hx
    obtain ⟨y, hy, rfl⟩ := List.mem_map.1 hx
    rw [hf, hf]
    exact ha y hy

theorem mapMeters_sound {sel : Nat → Bool} {f : State → Nat → Nat} {s : State} (h : Sound s) :
    Sound (mapMeters sel f s) := by
  obtain ⟨hm, hf, hc, hp⟩ := h
  refine ⟨hm, hf, tabSorted_map (fun e => ?_) hc, hp⟩
  split <;> rfl

theorem refillMeters_sound {s : State} (h : Sound s) : Sound (refillMeters s) := by
  unfold refillMeters
  exact mapMeters_sound h

theorem blockReset_sound {b : Blk} {s : State} (h : Sound s) : Sound (blockReset b s) := by
  cases b with
  | pu n => exact linkRetrain_sound (discardQueues_sound (stopsLeaveAt_sound h))
  | j n => exact engineReset_sound h
  | csq => exact dropExperts_sound (failColls_sound h)
  | bpm => exact bpmReturnAll_sound h
  | msu => exact msuClear_sound h
  | tcu => exact refillMeters_sound h
  | _ => exact h

theorem reactBlocks_sound {r : List (Blk × Nat)} {s : State} (h : Sound s) : Sound (reactBlocks r s) := by
  unfold reactBlocks
  exact foldl_sound (fun _ _ h1 => blockReset_sound h1) h

theorem fltInject_sound {b : Blk} {v : Nat} {s : State} (h : Sound s) : Sound (fltInject b v s) := by
  unfold fltInject
  exact foldl_sound (fun _ _ h1 => raise_sound h1) h

theorem noteWrite_sound {a : Nat} {rw v : W64} {s : State} (h : Sound s) : Sound (noteWrite a rw v s) := by
  unfold noteWrite
  exact .ite h h

theorem plainWrite_sound {a : Nat} {row : RegRow} {v : W64} {s : State} (h : Sound s) :
    Sound (plainWrite a row v s) := by
  unfold plainWrite
  dsimp only
  exact noteWrite_sound (.ite h (setReg_sound h))

theorem fltClear_sound {b : Blk} {a : Nat} {row : RegRow} {v : W64} {s : State} (h : Sound s) :
    Sound (fltClear b a row v s) := by
  unfold fltClear
  dsimp only
  exact plainWrite_sound h

theorem startGate_sound {on : Bool} {s : State} (h : Sound s) : Sound (startGate on s) := by
  unfold startGate
  dsimp only
  exact .ite (foldl_sound (fun _ _ h1 => sendLinkLocal_sound h1) (noteWrite_sound (setField_sound h)))
    (noteWrite_sound (setField_sound h))

theorem restartResult_sound {result reason : Nat} {s : State} (h : Sound s) :
    Sound (restartResult result reason s) := by
  unfold restartResult
  exact setField_sound (setField_sound h)

theorem restartMsgs_sound {s : State} (h : Sound s) : Sound (restartMsgs s) := by
  unfold restartMsgs
  dsimp only
  exact .keep (foldl_sound (fun _ _ h1 => count_sound h1) h) rfl rfl rfl rfl

theorem restartEngines_sound {s : State} (h : Sound s) : Sound (restartEngines s) := by
  unfold restartEngines
  dsimp only
  have hb : Sound (List.foldl
    (fun s e =>
      if present s e = true then
        (endRuns e s).setField (jBase e + 36) 2 0 0
      else s)
    s (List.range 64)) := foldl_sound (fun _ _ h1 => .ite (setField_sound (endRuns_sound h1)) h1) h
  generalize List.foldl
    (fun s e =>
      if present s e = true then
        (endRuns e s).setField (jBase e + 36) 2 0 0
      else s)
    s (List.range 64) = u at hb ⊢
  exact .of_fields hb.fields

theorem restartEpochs_sound {s : State} (h : Sound s) : Sound (restartEpochs s) := by
  obtain ⟨hm, hf, hc, hp⟩ := h
  exact foldl_sound (fun _ _ h1 => setRegN_sound h1) ⟨hm, hf, tabSorted_filter _ _ hc, hp⟩

theorem originate_sound {quad : Nat} {p : Packet} {s : State} (h : Sound s) : Sound (originate quad p s) :=
  h.sends (originate_only _ _ _)

theorem restartAborts_sound {s : State} (h : Sound s) : Sound (restartAborts s) := by
  unfold restartAborts
  dsimp only
  exact setField_sound (foldl_sound (fun _ _ h1 => foldl_sound (fun _ _ h2 => originate_sound (newMsgId_sound h2))
    (count_sound h1)) (setField_sound h))

theorem restartCsq_sound {s : State} (h : Sound s) : Sound (restartCsq s) := by
  unfold restartCsq
  dsimp only
  exact setField_sound (by
      have hb : Sound (restartEpochs (restartAborts s)) := restartEpochs_sound (restartAborts_sound h)
      generalize restartEpochs (restartAborts s) = u at hb ⊢
      exact .of_fields hb.fields)

theorem restartPorts_sound {s : State} (h : Sound s) : Sound (restartPorts s) := by
  unfold restartPorts
  dsimp only
  have hb : Sound (List.foldl (fun s n => List.foldl (fun s e => countPkt 42 n e.pkt s) s (s.port n).rxq) s
    allPorts) := foldl_sound (fun _ _ h1 => foldl_sound (fun _ _ h2 => countPkt_sound h2) h1) h
  generalize List.foldl (fun s n => List.foldl (fun s e => countPkt 42 n e.pkt s) s (s.port n).rxq) s
    allPorts = u at hb ⊢
  exact .of_fields hb.fields

theorem wipeStart_sound {cause : Nat} {s : State} (h : Sound s) : Sound (wipeStart cause s) := by
  unfold wipeStart
  dsimp only
  exact .keep (setRegN_sound h) rfl rfl rfl rfl

theorem wipeRange_sound {lo hi : Nat} {s : State} (h : Sound s) : Sound (wipeRange lo hi s) :=
  h.store (wipeRange_only _ _ _)

theorem restartWipe_sound {s : State} (h : Sound s) : Sound (restartWipe s) := by
  unfold restartWipe
  exact wipeStart_sound (wipeRange_sound (wipeRange_sound h))

theorem restartGo_sound {wipe : Bool} {s : State} (h : Sound s) : Sound (restartGo wipe s) := by
  unfold restartGo
  extract_lets w t u v
  have ht : Sound t := restartResult_sound (setField_sound h)
  clear_value t
  have hu : Sound u := refillMeters_sound (bpmReturnAll_sound (msuClear_sound (restartMsgs_sound (restartEngines_sound
    (restartCsq_sound (restartPorts_sound ht))))))
  clear_value u
  have hv : ∀ r, Sound { u.setField 0x30 0 0 0 with seqCtr := 0, rack := r } := by
    have h1 : Sound (u.setField 0x30 0 0 0) := setField_sound hu
    generalize u.setField 0x30 0 0 0 = x at h1 ⊢
    exact fun _ => .of_fields h1.fields
  exact .ite h (.ite (restartResult_sound h) (.ite (restartResult_sound h) (.ite (restartResult_sound h)
    (.ite (restartWipe_sound (hv _)) (hv _)))))

theorem restartHalt_sound {s : State} (h : Sound s) : Sound (restartHalt s) := by
  unfold restartHalt
  exact .ite (stopWave_sound h) h

theorem restartWrite_sound {v : Nat} {s : State} (h : Sound s) : Sound (restartWrite v s) := by
  unfold restartWrite
  exact .ite (.ite (restartResult_sound h) h) (.ite (restartGo_sound h) (.ite (restartHalt_sound h) h))

/-- The state of the host block after a reset: fresh ports, as many as there were, and fresh sessions. -/
theorem hep_reset_lengths {s : State} (h : Sound s) :
    (s.hep.ports.map
      (fun x : HostPort => { HostPort.reset with out := x.out })).length = 2 ∧ Hep.reset.sessions.length = 4 := by
  obtain ⟨_, _, _, hp, _⟩ := h
  exact ⟨by rw [List.length_map, hp], by decide⟩

theorem resetState_sound {cause : Nat} {fault : Option (Nat × Nat × Bool)} {s : State} (h : Sound s) :
    Sound (resetState cause fault s) := by
  have hh := hep_reset_lengths h
  obtain ⟨hm, hf, hc, hp⟩ := h
  exact setRegN_sound (setReg_sound ⟨rfl, hf, rfl, hh⟩)

theorem bootStart_sound {s : State} (h : Sound s) : Sound (bootStart s) := by
  unfold bootStart
  dsimp only
  exact wipeStart_sound (setField_sound (setRegN_sound (setRegN_sound (setRegN_sound h))))

theorem chipReset_sound {cause : Nat} {fault : Option (Nat × Nat × Bool)} {s : State} (h : Sound s) :
    Sound (chipReset cause fault s) := by
  unfold chipReset
  dsimp only
  exact .ite (resetState_sound h) (bootStart_sound (resetState_sound h))

theorem reboot_sound {s : State} (h : Sound s) : Sound (reboot s) := by
  unfold reboot
  exact .ite h (chipReset_sound h)

theorem lateGo_sound {s : State} (h : Sound s) : Sound (lateGo s) := by
  unfold lateGo
  dsimp only
  exact .ite h (.keep (setField_sound h) rfl rfl rfl rfl)

theorem sapRequest_sound {req : Nat} {s : State} (h : Sound s) : Sound (sapRequest req s) := by
  unfold sapRequest
  dsimp only
  exact .ite h (.keep (setRegN_sound h) rfl rfl rfl rfl)

theorem glbWrite_sound {a : Nat} {row : RegRow} {v : W64} {s : State} (h : Sound s) : Sound (glbWrite a row v s) := by
  unfold glbWrite
  exact .ite (startGate_sound h) (.ite (restartWrite_sound h) (.ite (.ite (reboot_sound h) (.ite
    (lateGo_sound h) h)) (.ite (sapRequest_sound h) (plainWrite_sound h))))

theorem fcoClear_sound {v : W64} {s : State} (h : Sound s) : Sound (fcoClear v s) := by
  unfold fcoClear
  dsimp only
  exact setReg_sound h

theorem tabSorted_puts {α β : Type} {f : β → Nat} {g : β → α} {l : List β} {t : Tab α} (h : tabSorted t = true) :
    tabSorted (l.foldl (fun t e => tabSet t (f e) (g e)) t) = true :=
  foldl_invariant (P := fun t => tabSorted t = true) (fun _ _ hk => tabSorted_tabSet _ _ _ hk) h

theorem ecbFull_sorted {s : State} (h : Sound s) : tabSorted (ecbFull s) = true := by
  obtain ⟨_, _, hc, _⟩ := h
  exact foldl_invariant (P := fun c => tabSorted c = true) (fun _ _ hk => ecbAddAll_sorted _ _ hk) hc

theorem snapshotTo_sound {bank seq : Nat} {manual : Bool} {epoch : W64} {s : State} (h : Sound s) :
    Sound (snapshotTo bank seq manual epoch s) := by
  have h1 : Sound { s with
      csr := copyBank s.csr (ecbFull s) (0x303000 + bank * 0x800)
      rack := { s.rack with snapAt := some s.now } } := by
    obtain ⟨hm, hf, hc, hp⟩ := h
    exact ⟨hm, hf, tabSorted_puts (tabSorted_filter _ _ hc), hp⟩
  unfold snapshotTo
  extract_lets r t u v
  have hv : Sound v := setReg_sound (setRegN_sound h1)
  refine .ite ?_ hv
  have hs := ecbFull_sorted hv
  obtain ⟨hm, hf, hc, hp⟩ := hv
  exact ⟨hm, hf, tabSorted_filter _ _ hs, hp⟩

theorem snapshot_sound {manual : Bool} {epoch : W64} {s : State} (h : Sound s) : Sound (snapshot manual epoch s) := by
  unfold snapshot
  dsimp only
  exact .ite h (.ite (snapshotTo_sound h) (snapshotTo_sound h))

theorem snapshotNow_sound {s : State} (h : Sound s) : Sound (snapshotNow s) := by
  unfold snapshotNow
  exact .ite h (snapshot_sound h)

theorem ecbCntWrite_sound {a : Nat} {row : RegRow} {v : W64} {s : State} (h : Sound s) :
    Sound (ecbCntWrite a row v s) := by
  obtain ⟨hm, hf, hc, hp⟩ := h
  refine plainWrite_sound ⟨hm, hf, foldl_invariant (P := fun c => tabSorted c = true) (fun c e hk => ?_) hc, hp⟩
  split
  · exact ecbAdd_sorted _ _ _ hk
  · exact hk

theorem cvuInit_sound {n : Nat} {s : State} (h : Sound s) : Sound (cvuInit n s) := by
  unfold cvuInit
  exact .ite h (setReg_sound h)

theorem cvuConfig_sound {n v : Nat} {s : State} (h : Sound s) : Sound (cvuConfig n v s) := by
  unfold cvuConfig
  exact .ite h (cvuInit_sound (setRegN_sound h))

theorem cvuVal_sound {n : Nat} {v : W64} {s : State} (h : Sound s) : Sound (cvuVal n v s) := by
  unfold cvuVal
  exact .ite h (setReg_sound h)

theorem cvuFeed_sound {n : Nat} {bs : List Byte} {s : State} (h : Sound s) : Sound (cvuFeed n bs s) := by
  unfold cvuFeed
  exact .ite h (setReg_sound h)

theorem cvuWrite_sound {n off : Nat} {v : W64} {s : State} (h : Sound s) : Sound (cvuWrite n off v s) := by
  unfold cvuWrite
  exact .ite (cvuConfig_sound h) (.ite (.ite (cvuInit_sound h) h) (.ite (cvuVal_sound h) (.ite (cvuFeed_sound h)
    (.ite (cvuFeed_sound h) (.ite (cvuFeed_sound h) h)))))

theorem linkDisable_sound {n : Nat} {s : State} (h : Sound s) : Sound (linkDisable n s) := by
  unfold linkDisable
  dsimp only
  exact .ite (setField_sound h) (raiseIf_sound (modPort_sound (discardQueues_sound (setField_sound h))))

theorem linkEnable_sound {n : Nat} {s : State} (h : Sound s) : Sound (linkEnable n s) := by
  unfold linkEnable
  dsimp only
  exact .ite (beginTraining_sound (setField_sound h)) (setField_sound h)

theorem keptBack_sound {n : Nat} {a : Option (BitVec 8)} {s : State} (h : Sound s) : Sound (keptBack n a s) := by
  unfold keptBack
  dsimp only
  exact requeue_sound (setPort_sound h)

theorem freshCredits_sound {n : Nat} {s : State} (h : Sound s) : Sound (freshCredits n s) := by
  unfold freshCredits
  dsimp only
  exact modPort_sound h

theorem checkedAt_sound {n w : Nat} {is : List Nat} {s : State} (h : Sound s) : Sound (checkedAt n w is s) := by
  unfold checkedAt
  exact modPort_sound h

theorem yellowQueued_sound {c : Nat} {s : State} (h : Sound s) : Sound (yellowQueued c s) := by
  unfold yellowQueued
  dsimp only
  have hb : Sound (List.foldl
    (fun s n =>
      List.foldl (fun s e => countPkt 69 n e.pkt s) s
        (List.filter (fun e => e.green == some c) (s.port n).egress))
    s allPorts) := foldl_sound (fun _ _ h1 => foldl_sound (fun _ _ h2 => countPkt_sound h2) h1) h
  generalize List.foldl
    (fun s n =>
      List.foldl (fun s e => countPkt 69 n e.pkt s) s
        (List.filter (fun e => e.green == some c) (s.port n).egress))
    s allPorts = u at hb ⊢
  exact .of_fields hb.fields

theorem setBroken_sound {c : Nat} {on : Bool} {s : State} (h : Sound s) : Sound (setBroken c on s) := by
  unfold setBroken
  exact setField_sound h

theorem setConState_sound {c v : Nat} {s : State} (h : Sound s) : Sound (setConState c v s) := by
  unfold setConState
  exact setRegN_sound h

theorem breakContract_sound {c : Nat} {s : State} (h : Sound s) : Sound (breakContract c s) := by
  unfold breakContract
  exact yellowQueued_sound (setBroken_sound (setConState_sound h))

theorem recheckSlots_sound {n : Nat} {s : State} (h : Sound s) : Sound (recheckSlots n s) := by
  unfold recheckSlots
  dsimp only
  exact .ite h (raiseIf_sound (foldl_sound (fun _ _ h1 => breakContract_sound h1) (checkedAt_sound h)))

theorem plainOnly_sound {n : Nat} {s : State} (h : Sound s) : Sound (plainOnly n s) := by
  unfold plainOnly
  dsimp only
  exact foldl_sound (fun _ _ h1 => raise_sound (countPkt_sound h1)) (setPort_sound h)

theorem comeUp_sound {n : Nat} {s : State} (h : Sound s) : Sound (comeUp n s) := by
  unfold comeUp
  dsimp only
  exact recheckSlots_sound (.ite (plainOnly_sound (.ite (freshCredits_sound (modPort_sound (keptBack_sound h)))
    (modPort_sound (keptBack_sound h)))) (.ite (freshCredits_sound (modPort_sound (keptBack_sound h)))
    (modPort_sound (keptBack_sound h))))

theorem linkAccept_sound {n : Nat} {s : State} (h : Sound s) : Sound (linkAccept n s) := by
  unfold linkAccept
  dsimp only
  exact .ite (comeUp_sound h) h

theorem linkCtrl_sound {n v : Nat} {s : State} (h : Sound s) : Sound (linkCtrl n v s) := by
  unfold linkCtrl
  dsimp only
  exact .ite (linkAccept_sound (.ite (linkRetrain_sound (.ite (linkDisable_sound h) (linkEnable_sound h))) (.ite
    (linkDisable_sound h) (linkEnable_sound h)))) (.ite (linkRetrain_sound (.ite (linkDisable_sound h)
    (linkEnable_sound h))) (.ite (linkDisable_sound h) (linkEnable_sound h)))

theorem gateSwapApply_sound {n : Nat} {s : State} (h : Sound s) : Sound (gateSwapApply n s) := by
  unfold gateSwapApply
  dsimp only
  exact .ite h (.ite (setRegN_sound h) (foldl_sound (fun _ _ h1 => .ite h1 (setReg_sound h1)) (checkedAt_sound
    (setRegN_sound (setReg_sound h)))))

theorem gateSwap_sound {n : Nat} {s : State} (h : Sound s) : Sound (gateSwap n s) := by
  unfold gateSwap
  exact setField_sound h

theorem gateCtrl_sound {n v : Nat} {s : State} (h : Sound s) : Sound (gateCtrl n v s) := by
  unfold gateCtrl
  exact .ite h (.ite (gateSwapApply_sound (gateSwap_sound h)) (gateSwap_sound h))

theorem puWrite_sound {n a : Nat} {row : RegRow} {v : W64} {s : State} (h : Sound s) : Sound (puWrite n a row v s) := by
  unfold puWrite
  dsimp only
  exact .ite (linkCtrl_sound h) (.ite (gateCtrl_sound h) (plainWrite_sound h))

theorem collRelease_sound {s : State} (h : Sound s) : Sound (collRelease s) := by
  unfold collRelease
  exact .ite h (foldl_sound (fun _ _ h1 => originateFrom_sound h1) h)

theorem rteHold_sound {value : Nat} {s : State} (h : Sound s) : Sound (rteHold value s) := by
  unfold rteHold
  exact collRelease_sound (setRegN_sound (setRegN_sound h))

theorem wordsClean_sound {a n : Nat} {s : State} (h : Sound s) : Sound (wordsClean a n s) := by
  unfold wordsClean
  exact h

theorem copyTable_sound {act shd len : Nat} {s : State} (h : Sound s) : Sound (copyTable act shd len s) := by
  have h1 : Sound (tableRead .rte shd len (wordsClean act len s)).2 := tableRead_sound (wordsClean_sound h)
  obtain ⟨hm, hf, hc, hp⟩ := h1
  exact ⟨hm, hf, tabSorted_puts (tabSorted_filter _ _ hc), hp⟩

theorem rteSwap_sound {sign cpath : Bool} {s : State} (h : Sound s) : Sound (rteSwap sign cpath s) := by
  unfold rteSwap
  dsimp only
  exact .ite h (.ite (setField_sound h) (.ite (setField_sound (setField_sound h)) (setField_sound (setField_sound
    (.ite (.keep (copyTable_sound (.ite (copyTable_sound h) h)) rfl rfl rfl rfl) (.ite (copyTable_sound h) h))))))

theorem pmemRead_sound {e i : Nat} {s : State} (h : Sound s) : Sound (pmemRead e i s).2 := by
  unfold pmemRead
  dsimp only
  exact foldl_sound (fun _ _ h1 => wordsXor_sound h1) (memScan_sound h)

theorem msRead_sound {m : Nat} {s : State} (h : Sound s) : Sound (msRead m s).2 := by
  unfold msRead
  dsimp only
  exact foldl_sound (fun _ _ h1 => h1) (memScan_sound h)

theorem wordRead_sound {a : Nat} {s : State} (h : Sound s) : Sound (wordRead a s).2 := by
  unfold wordRead
  exact .pair (tableRead_sound h) (.pair (tableRead_sound h) (.pair (tableRead_sound h) (.pair (tableRead_sound h)
    (.pair (pmemRead_sound h) (.pair (msRead_sound h) h)))))

theorem partWrite_sound {a : Nat} {f : State → State}
    {s : State} (hf : ∀ t, Sound t → Sound (f t)) (h : Sound s) : Sound (partWrite a f s) := by
  unfold partWrite
  dsimp only
  exact .ite (wordRead_sound h) (hf _ (wordRead_sound h))

theorem cpathWrite_sound {c value : Nat} {s : State} (h : Sound s) : Sound (cpathWrite c value s) := by
  unfold cpathWrite
  dsimp only
  exact .keep (setRegN_sound h) rfl rfl rfl rfl

theorem rteWrite_sound {a : Nat} {row : RegRow} {v : W64} {s : State} (h : Sound s) : Sound (rteWrite a row v s) := by
  unfold rteWrite
  exact .ite (rteHold_sound h) (.ite (rteSwap_sound h) (.ite (partWrite_sound (fun _ h1 => cpathWrite_sound h1) h)
    (.ite (partWrite_sound (fun _ h1 => plainWrite_sound h1) h) (plainWrite_sound h))))

theorem ctcMaskWrite_sound {value : Nat} {s : State} (h : Sound s) : Sound (ctcMaskWrite value s) := by
  unfold ctcMaskWrite
  dsimp only
  exact setRegN_sound h

theorem unbindMeter_sound {c : Nat} {s : State} (h : Sound s) : Sound (unbindMeter c s) := by
  unfold unbindMeter
  dsimp only
  split
  · exact .ite (setRegN_sound h) h
  · exact h

theorem commitStatus_sound {result reason : Nat} {a b : Nat} {s : State} (h : Sound s) :
    Sound (commitStatus result reason a b s) := by
  unfold commitStatus
  dsimp only
  exact setRegN_sound h

theorem contractDelete_sound {c : Nat} {s : State} (h : Sound s) : Sound (contractDelete c s) := by
  unfold contractDelete
  dsimp only
  exact commitStatus_sound (yellowQueued_sound (setRegN_sound (setRegN_sound (setRegN_sound (wordsClean_sound
    (setBroken_sound (setConState_sound (unbindMeter_sound h))))))))

theorem bindMeter_sound {c : Nat} {s : State} (h : Sound s) : Sound (bindMeter c s) := by
  unfold bindMeter
  split
  · exact setRegN_sound h
  · exact h

theorem contractWrite_sound {c : Nat} {s : State} (h : Sound s) : Sound (contractWrite c s) := by
  unfold contractWrite
  dsimp only
  exact .ite (commitStatus_sound h) (commitStatus_sound (.ite (bindMeter_sound (setBroken_sound (setConState_sound
    (setRegN_sound (setRegN_sound (setRegN_sound (wordsClean_sound (unbindMeter_sound h)))))))) (checkedAt_sound
    (bindMeter_sound (setBroken_sound (setConState_sound (setRegN_sound (setRegN_sound (setRegN_sound
    (wordsClean_sound (unbindMeter_sound h)))))))))))

theorem tcuWrite_sound {a : Nat} {row : RegRow} {v : W64} {s : State} (h : Sound s) : Sound (tcuWrite a row v s) := by
  unfold tcuWrite
  exact .ite (ctcMaskWrite_sound h) (.ite (.ite (contractDelete_sound h) (contractWrite_sound h)) (plainWrite_sound h))

theorem commitDone_sound {a reason : Nat} {s : State} (h : Sound s) : Sound (commitDone a reason s) := by
  unfold commitDone
  exact setRegN_sound h

theorem groupClear_sound {g : Nat} {s : State} (h : Sound s) : Sound (groupClear g s) := by
  have h1 : Sound (wordsClean (0x4010000 + g * 0x20) 0x20 s) := wordsClean_sound h
  obtain ⟨hm, hf, hc, hp⟩ := h1
  exact ⟨hm, hf, tabSorted_filter _ _ hc, hp⟩

theorem groupPut_sound {g a b c d : Nat} {s : State} (h : Sound s) : Sound (groupPut g a b c d s) := by
  unfold groupPut
  extract_lets w t u v
  have hu : Sound u := setRegN_sound (setRegN_sound (setRegN_sound (setRegN_sound (wordsClean_sound h))))
  clear_value u
  have hv : Sound v := setRegN_sound (setRegN_sound hu)
  clear_value v
  exact .of_fields hv.fields

theorem groupWriteNow_sound {g : Nat} {s : State} (h : Sound s) : Sound (groupWriteNow g s) := by
  unfold groupWriteNow
  dsimp only
  exact .ite (commitDone_sound h) (.ite (commitDone_sound h) (.ite (commitDone_sound (groupPut_sound h)) (.keep
    (setRegN_sound h) rfl rfl rfl rfl)))

theorem gcommit_sound {v : W64} {s : State} (h : Sound s) : Sound (gcommit v s) := by
  unfold gcommit
  dsimp only
  exact .ite (.ite (commitDone_sound h) (commitDone_sound (groupClear_sound h))) (groupWriteNow_sound h)

theorem granuleClean_sound {g : GMem} {s : State} (h : Sound s) : Sound (granuleClean g s) :=
  h.scans (granuleClean_only _ _)

theorem descRemove_sound {s : State} (h : Sound s) : Sound (descRemove s) := by
  unfold descRemove
  dsimp only
  exact .ite (commitDone_sound h) (.ite (commitDone_sound h) (commitDone_sound (granuleClean_sound h)))

theorem segRead_sound {d : BitVec 128} {s : State} (h : Sound s) : Sound (segRead d s).2 := by
  unfold segRead
  exact .pair (tableRead_sound h) h

/-- The registration of a descriptor, as an equation of functions: on a state the kernel would evaluate the staged
  descriptor. -/
theorem descRegister_eq : descRegister = fun s =>
    let d := stagedDesc s
    let st := 0x4000054
    let (bad, s) := segRead d s
    if descField s d || bad then commitDone st 1 s
    else if s.descs.contains d then commitDone st 0 s
    else if s.descs.any (fun e => dDigest e == dDigest d) then commitDone st 3 s
    else if s.descs.length ≥ 8192 then commitDone st 2 s
    else commitDone st 0 (granuleClean (.descriptor d) { s with descs := s.descs ++ [d] }) := rfl

theorem descRegister_sound {s : State} (h : Sound s) : Sound (descRegister s) := by
  rw [descRegister_eq]
  beta_reduce
  extract_lets d st
  have h1 : Sound (segRead d s).2 := segRead_sound h
  generalize segRead d s = x at h1 ⊢
  obtain ⟨bad, t⟩ := x
  exact .ite (commitDone_sound h1) (.ite (commitDone_sound h1) (.ite (commitDone_sound h1) (.ite (commitDone_sound h1)
    (commitDone_sound (granuleClean_sound (.of_fields h1.fields))))))

theorem parkStatus_sound {state result reason : Nat} {s : State} (h : Sound s) :
    Sound (parkStatus state result reason s) := by
  unfold parkStatus
  exact setRegN_sound h

theorem park_sound {s : State} (h : Sound s) : Sound (park s) := by
  unfold park
  dsimp only
  exact .ite h (.ite (parkStatus_sound h) (.ite (parkStatus_sound h) (parkStatus_sound h)))

theorem flawRead_sound {b : Blk} {g : Nat} {e : Flaw} {s : State} (h : Sound s) : Sound (flawRead b g e s) :=
  h.store (flawRead_only _ _ _ _)

theorem rowFill_sound {b : Blk} {gs : List Nat} {r : Nat} {s : State} (h : Sound s) : Sound (rowFill b gs r s) :=
  h.store (rowFill_only _ _ _ _)

theorem rowRead_sound {b : Blk} {gs : List Nat} {r : Nat} {s : State} (h : Sound s) : Sound (rowRead b gs r s) :=
  h.store (rowRead_only _ _ _ _)

theorem granulesRead_sound {b : Blk} {gs : List Nat} {s : State} (h : Sound s) : Sound (granulesRead b gs s).2 :=
  h.store (granulesRead_only _ _ _)

theorem storeRead_sound {b : Blk} {a n : Nat} {s : State} (h : Sound s) : Sound (storeRead b a n s).2.2 :=
  h.store (storeRead_only _ _ _ _)

theorem saveBytes_sound {s : State} (h : Sound s) : Sound (saveBytes s).2 := by
  unfold saveBytes
  dsimp only
  exact .pair (count_sound (raiseIf_sound (count_sound (foldl_sound (fun _ _ h1 => rowRead_sound h1) h)))) (.pair
    (storeRead_sound (count_sound (raiseIf_sound (count_sound (foldl_sound (fun _ _ h1 => rowRead_sound h1) h)))))
    (storeRead_sound (count_sound (raiseIf_sound (count_sound (foldl_sound (fun _ _ h1 => rowRead_sound h1) h))))))

theorem readSave_sound {s : State} (h : Sound s) : Sound (readSave s).2.2 := by
  unfold readSave
  split
  · next e =>
      exact .of_eq e (saveBytes_sound h)
  · next e =>
      exact .triple (.of_eq e (saveBytes_sound h)) (by
          split
          · exact .of_eq e (saveBytes_sound h)
          · exact .triple (.of_eq e (saveBytes_sound h)) (.of_eq e (saveBytes_sound h)))

theorem resume_sound {s : State} (h : Sound s) : Sound (resume s) := by
  unfold resume
  dsimp only
  exact .ite (parkStatus_sound h) (.ite (parkStatus_sound h) (.ite (parkStatus_sound h) (by
      split
      · next e =>
          exact parkStatus_sound (.of_eq₃ e (readSave_sound h))
      · next e =>
          exact parkStatus_sound (.of_fields (Sound.of_eq₃ e (readSave_sound h)).fields))))

theorem tableClear_sound {t : Nat} {s : State} (h : Sound s) : Sound (tableClear t s) := by
  have h1 : Sound (wordsClean (xBase t) 0x40 s) := wordsClean_sound h
  obtain ⟨hm, hf, hc, hp⟩ := h1
  exact ⟨hm, hf, tabSorted_filter _ _ hc, hp⟩

theorem xcommit_sound {v : W64} {s : State} (h : Sound s) : Sound (xcommit v s) := by
  unfold xcommit
  dsimp only
  exact .ite (commitDone_sound h) (.ite (commitDone_sound (tableClear_sound h)) (.ite (commitDone_sound h) (.keep
    (setRegN_sound h) rfl rfl rfl rfl)))

theorem endPark_sound {s : State} (h : Sound s) : Sound (endPark s) := by
  unfold endPark
  dsimp only
  exact .ite (parkStatus_sound h) (.ite (parkStatus_sound h) h)

theorem emptyResult_sound {t : Nat} {cseq : W32} {token : Nat} {toksrc : W32} {tc port : Nat}
    {s : State} (h : Sound s) : Sound (emptyResult t cseq token toksrc tc port s) := by
  unfold emptyResult
  dsimp only
  exact originate_sound (count_sound (newMsgId_sound h))

theorem forceCombs_sound {q : Comb → Bool} {s : State} (h : Sound s) : Sound (forceCombs q s) := by
  unfold forceCombs
  exact foldl_sound (fun _ _ h1 => closeComb_sound (emptyResult_sound h1)) h

theorem setSlice_sound {q : Nat} {d : DisState} {s : State} (h : Sound s) : Sound (setSlice q d s) := by
  unfold setSlice
  exact h

theorem sliceForce_sound {mask : Nat} {s : State} (h : Sound s) : Sound (sliceForce mask s) := by
  unfold sliceForce
  dsimp only
  exact .ite h (raiseIf_sound (foldl_sound (fun _ _ h1 => .ite (setSlice_sound h1) h1) (dropExperts_sound
    (forceCombs_sound (failColls_sound (endPark_sound (setRegN_sound h)))))))

theorem sliceWrite_sound {mask : Nat} {s : State} (h : Sound s) : Sound (sliceWrite mask s) := by
  unfold sliceWrite
  exact .ite h (foldl_sound (fun _ _ h1 => .ite (setSlice_sound h1) (.ite (setSlice_sound h1) h1)) (setRegN_sound h))

theorem csqDisCtrl_sound {v : Nat} {s : State} (h : Sound s) : Sound (csqDisCtrl v s) := by
  unfold csqDisCtrl
  exact .ite (sliceForce_sound h) (sliceWrite_sound h)

theorem csqWrite_sound {a : Nat} {row : RegRow} {v : W64} {s : State} (h : Sound s) : Sound (csqWrite a row v s) := by
  unfold csqWrite
  exact .ite (gcommit_sound h) (.ite (.ite (descRemove_sound h) (descRegister_sound h)) (.ite (.ite (park_sound h)
    (.ite (resume_sound h) h)) (.ite (xcommit_sound h) (.ite (csqDisCtrl_sound h) (.ite (.ite h (partWrite_sound
    (fun _ h1 => plainWrite_sound h1) h)) (plainWrite_sound h))))))

theorem pcommit_sound {e : Nat} {v : W64} {s : State} (h : Sound s) : Sound (pcommit e v s) := by
  unfold pcommit
  dsimp only
  exact .ite h (.ite (.ite (commitDone_sound h) (.ite (commitDone_sound h) (commitDone_sound (setRegN_sound h))))
    (.ite (commitDone_sound h) (modEngine_sound (setRegN_sound h))))

theorem runStatus_sound {e st : Nat} {fl exc pc : Nat} {s : State} (h : Sound s) :
    Sound (runStatus e st fl exc pc s) := by
  unfold runStatus
  exact setRegN_sound h

theorem enqueue_sound {e : Nat} {q : QRun} {s : State} (h : Sound s) : Sound (enqueue e q s) := by
  unfold enqueue
  exact modEngine_sound h

theorem runCtrl_sound {e value : Nat} {s : State} (h : Sound s) : Sound (runCtrl e value s) := by
  unfold runCtrl
  dsimp only
  exact .ite h (.ite (setRegN_sound h) (.ite (setSticky_sound (setRegN_sound h)) (.ite (raise_sound (runStatus_sound
    (setRegN_sound (setRegN_sound h)))) (runStatus_sound (enqueue_sound (setRegN_sound (setRegN_sound h)))))))

theorem excClr_sound {base value : Nat} {s : State} (h : Sound s) : Sound (excClr base value s) := by
  unfold excClr
  exact foldl_sound (fun _ _ h1 => .ite (setRegN_sound h1) h1) h

theorem engineForce_sound {e : Nat} {s : State} (h : Sound s) : Sound (engineForce e s) := by
  unfold engineForce
  dsimp only
  exact .ite h (raiseIf_sound (modEngine_sound (forceCombs_sound (failColls_sound (.ite (runStatus_sound
    (endRuns_sound (setRegN_sound h))) (endRuns_sound (setRegN_sound h)))))))

theorem engineDisable_sound {e : Nat} {s : State} (h : Sound s) : Sound (engineDisable e s) := by
  unfold engineDisable
  exact .ite h (modEngine_sound (setRegN_sound h))

theorem engineEnable_sound {e : Nat} {s : State} (h : Sound s) : Sound (engineEnable e s) := by
  unfold engineEnable
  exact .ite h (modEngine_sound (setRegN_sound h))

theorem jDisCtrl_sound {n v : Nat} {s : State} (h : Sound s) : Sound (jDisCtrl n v s) := by
  unfold jDisCtrl
  exact .ite (.ite (engineForce_sound h) h) (.ite (engineDisable_sound h) (engineEnable_sound h))

theorem pmemWrite_sound {n i a : Nat} {row : RegRow} {v : W64} {s : State} (h : Sound s) :
    Sound (pmemWrite n i a row v s) := by
  unfold pmemWrite
  exact .ite h (partWrite_sound (fun _ h1 => plainWrite_sound h1) h)

theorem jWrite_sound {n a : Nat} {row : RegRow} {v : W64} {s : State} (h : Sound s) : Sound (jWrite n a row v s) := by
  unfold jWrite
  dsimp only
  exact .ite h (.ite (pcommit_sound h) (.ite (runCtrl_sound h) (.ite (excClr_sound h) (.ite (jDisCtrl_sound h) (.ite
    (pmemWrite_sound h) (plainWrite_sound h))))))

theorem bpmResult_sound {result reason : Nat} {s : State} (h : Sound s) : Sound (bpmResult result reason s) := by
  unfold bpmResult
  exact setRegN_sound h

theorem Sound.with_bpm {b : Bpm} {s : State} (h : Sound s) : Sound { s with bpm := b } := h

theorem bpmApply_sound {s : State} (h : Sound s) : Sound (bpmApply s) := h.with_bpm

theorem reconf_sound {s : State} (h : Sound s) : Sound (reconf s) := by
  unfold reconf
  exact .ite (bpmResult_sound h) (.ite (bpmResult_sound h) (bpmResult_sound (bpmApply_sound h)))

theorem putBuf_sound {b b' : Buf} {s : State} (h : Sound s) : Sound (putBuf b b' s) := by
  unfold putBuf
  dsimp only
  exact h

theorem readRecord_sound {b : Buf} {s : State} (h : Sound s) : Sound (readRecord b s).2 := by
  unfold readRecord
  extract_lets k r t u r'
  have ht : Sound t := h
  clear_value t
  have hu : Sound u := freeBuf_sound ht
  clear_value u
  split
  · exact h
  · split
    · exact ht
    · exact countCorrected_sound ht
    · exact countCorrected_sound (putBuf_sound ht)
    · exact raise_sound (countReg_sound (.of_fields hu.fields))

theorem forceFree_sound {h : W32} {s : State} (hs : Sound s) : Sound (forceFree h s) := by
  unfold forceFree
  split
  · exact bpmResult_sound hs
  · next e =>
      split
      · next e' =>
          exact bpmResult_sound (.of_eq e' (readRecord_sound hs))
      · next e' =>
          exact bpmResult_sound (count_sound (freeBuf_sound (.of_eq e' (readRecord_sound hs))))

theorem bpmWrite_sound {a : Nat} {row : RegRow} {v : W64} {s : State} (h : Sound s) : Sound (bpmWrite a row v s) := by
  unfold bpmWrite
  exact .ite (.ite (reconf_sound h) h) (.ite (forceFree_sound h) (plainWrite_sound h))

theorem msuValWrite_sound {m : Nat} {v : W64} {s : State} (h : Sound s) : Sound (msuValWrite m v s) := by
  unfold msuValWrite
  exact .ite h h

theorem hepConfig_sound {v : Nat} {s : State} (h : Sound s) : Sound (hepConfig v s) := by
  unfold hepConfig
  dsimp only
  exact .ite h (foldl_sound (fun _ _ h1 => setHost_sound h1) (setRegN_sound h))

theorem setSession_sound {s : State} {n : Nat} {x : Session} (h : Sound s) : Sound (s.setSession n x) := by
  obtain ⟨hm, hf, hc, hp, hq⟩ := h
  exact ⟨hm, hf, hc, hp, by rw [← hq]; exact List.length_set⟩

theorem sessOpen_sound {slot : Nat} {auth : Bool} {s : State} (h : Sound s) : Sound (sessOpen slot auth s) := by
  refine .ite h ?_
  extract_lets t x u
  have ht : Sound t := foldl_sound (fun _ _ h1 => setReg_sound h1) h
  clear_value t
  have hu : Sound u := setSession_sound ht
  clear_value u
  exact .of_fields hu.fields

theorem sessConfirm_sound {slot : Nat} {auth : Bool} {s : State} (h : Sound s) : Sound (sessConfirm slot auth s) := by
  unfold sessConfirm
  dsimp only
  exact .ite h (by
      split
      · exact .ite (setSession_sound h) (countReg_sound (setSession_sound h))
      · exact countReg_sound (setSession_sound h))

theorem sessClose_sound {slot : Nat} {auth : Bool} {s : State} (h : Sound s) : Sound (sessClose slot auth s) := by
  unfold sessClose
  dsimp only
  exact .ite h (setSession_sound h)

theorem sessCtrl_sound {v : Nat} {auth : Bool} {s : State} (h : Sound s) : Sound (sessCtrl v auth s) := by
  unfold sessCtrl
  dsimp only
  exact .ite (sessOpen_sound h) (.ite (sessConfirm_sound h) (.ite (sessClose_sound h) h))

theorem attest_sound {s : State} (h : Sound s) : Sound (attest s) := by
  refine .ite h ?_
  have h1 : Sound (s.setRegN 0x9000224 4) := setRegN_sound h
  obtain ⟨hm, hf, hc, hp⟩ := h1
  exact ⟨hm, hf, hc, hp⟩

theorem hepWrite_sound {a : Nat} {row : RegRow} {v : W64} {auth : Bool} {s : State} (h : Sound s) :
    Sound (hepWrite a row v auth s) := by
  unfold hepWrite
  exact .ite (hepConfig_sound h) (.ite (sessCtrl_sound h) (.ite (.ite (attest_sound h) h) (plainWrite_sound h)))

theorem nvmCommand_sound {op : Nat} {s : State} (h : Sound s) : Sound (nvmCommand op s) := by
  unfold nvmCommand
  dsimp only
  exact .ite h (.ite (setRegN_sound h) (.keep (setRegN_sound h) rfl rfl rfl rfl))

theorem regWrite_sound {a : Nat} {row : RegRow} {v : W64} {auth : Bool} {s : State} (h : Sound s) :
    Sound (regWrite a row v auth s) := by
  unfold regWrite
  split
  · exact .ite h (.ite (fltInject_sound h) (fltClear_sound h))
  · exact .ite (glbWrite_sound h) (.ite h (.ite (fcoClear_sound h) (.ite (.ite (snapshotNow_sound h) h) (.ite
      (ecbCntWrite_sound h) (.ite (cvuWrite_sound h) (.ite (puWrite_sound h) (.ite (rteWrite_sound h) (.ite
      (tcuWrite_sound h) (.ite (csqWrite_sound h) (.ite (jWrite_sound h) (.ite (excClr_sound h) (.ite
      (bpmWrite_sound h) (.ite (msuValWrite_sound h) (.ite (hepWrite_sound h) (.ite (nvmCommand_sound h)
      (plainWrite_sound h))))))))))))))))

theorem ympReads_sound {w : Nat} {l : List Nat} {s : State} (h : Sound s) : Sound (ympReads w l s).2.2 := by
  induction l generalizing s with
  | nil => exact h
  | cons a r ih =>
    unfold ympReads
    exact .triple h (.triple h (.triple (wordRead_sound h) (ih (wordRead_sound h))))

theorem draw_sound {s : State} (h : Sound s) : Sound (State.draw s) := by
  unfold State.draw
  exact h

theorem ympAnswer_sound {h typ : Nat} {status seq sess : Nat} {d : HostDest} {pay : List Byte}
    {key : Option (List Byte)} {s : State} (hs : Sound s) : Sound (ympAnswer h typ status seq sess d pay key s) := by
  unfold ympAnswer
  dsimp only
  exact .ite hs (draw_sound (hostSend_sound hs))

theorem ympReadGo_sound {h : Nat} {m : YmpFrame} {key : Option (List Byte)} {done : Nat} {vals : List W64}
    {s : State} (hs : Sound s) :
    Sound (ympReadGo h m key done vals s) := by
  have h1 : Sound (if ympWaiting s then (([] : List W64), yHeld, s) else
      ympReads (rwWidth m) ((List.range (rwCount m - done)).map (fun i => rwAt m (done + i))) s).2.2 :=
    .triple hs (ympReads_sound hs)
  unfold ympReadGo
  simp only
  generalize (if ympWaiting s then (([] : List W64), yHeld, s) else
      ympReads (rwWidth m) ((List.range (rwCount m - done)).map (fun i => rwAt m (done + i))) s) = x at h1 ⊢
  exact .ite (.of_fields h1.fields) (ympAnswer_sound h1)

theorem busWrite_sound {a w : Nat} {v : W64} {auth : Bool} {s : State} (h : Sound s) :
    Sound (busWrite a w v auth s) := by
  unfold busWrite
  dsimp only
  exact .ite h (by
      split
      · exact .ite h (regWrite_sound h)
      · exact h)

theorem ympWrites_sound {w : Nat} {auth : Bool} {l : List (Nat × W64)} {s : State} (h : Sound s) :
    Sound (ympWrites w auth l s).2.2 := by
  induction l generalizing s with
  | nil => exact h
  | cons e r ih =>
    obtain ⟨a, v⟩ := e
    unfold ympWrites
    exact .triple h (.triple h (.triple h (.triple (busWrite_sound h) (ih (busWrite_sound h)))))

theorem ympWriteGo_sound {h : Nat} {m : YmpFrame} {key : Option (List Byte)} {done : Nat} {s : State} (hs : Sound s) :
    Sound (ympWriteGo h m key done s) := by
  have h1 : Sound (if ympWaiting s then (yHeld, 0, s) else ympWrites (rwWidth m) (YmpFrame.auth m)
    ((rwWrites m).drop done) s).2.2 :=
    .triple hs (ympWrites_sound hs)
  unfold ympWriteGo
  simp only
  generalize (if ympWaiting s then (yHeld, 0, s)
    else ympWrites (rwWidth m) (YmpFrame.auth m) ((rwWrites m).drop done) s) = x at h1 ⊢
  exact .ite (.of_fields h1.fields) (ympAnswer_sound h1)

theorem busRetry_sound {b : BusOp} {s : State} (h : Sound s) : Sound (busRetry b s) := by
  unfold busRetry
  split
  · next x =>
      exact .ite h (by
          split
          · exact .ite h (regWrite_sound h)
          · exact h)
  · exact .ite (ympReadGo_sound h) (ympWriteGo_sound h)

theorem busRetries_sound {l : List BusOp} {s : State} (h : Sound s) : Sound (busRetries l s) := by
  induction l generalizing s with
  | nil => exact h
  | cons b r ih =>
    unfold busRetries
    exact .ite (busRetry_sound h) (ih (busRetry_sound h))

theorem busReplay_sound {s : State} (h : Sound s) : Sound (busReplay s) := by
  unfold busReplay
  exact .ite h (busRetries_sound h)

theorem latchHalt_sound {src blk : Nat} {s : State} (h : Sound s) : Sound (latchHalt src blk s) := by
  have h1 : Sound (s.setRegN 0x200018 (1 + src * 2 ^ 8 + blk * 2 ^ 16)) := setRegN_sound h
  obtain ⟨_, hf, hc, hp⟩ := h1
  exact ⟨rfl, hf, hc, hp⟩

theorem stopsLeave_sound {s : State} (h : Sound s) : Sound (stopsLeave s) := by
  unfold stopsLeave
  exact stopsLeaveAt_sound h

theorem react_sound {r : List (Blk × Nat)} {s : State} (h : Sound s) : Sound (react r s) := by
  unfold react
  dsimp only
  exact .ite (reactBlocks_sound (reactEvents_sound (reactEvents_sound (.ite (stopWave_sound h) h)))) (.ite
    (busReplay_sound (latchHalt_sound (stopsLeave_sound (reactEvents_sound (reactEvents_sound (.ite
    (stopWave_sound h) h)))))) (.ite (chipReset_sound (stopsLeave_sound (reactEvents_sound (reactEvents_sound (.ite
    (stopWave_sound h) h))))) (reactBlocks_sound (reactEvents_sound (reactEvents_sound (.ite (stopWave_sound h) h))))))

theorem settleN_sound {fuel : Nat} {s : State} (h : Sound s) : Sound (settleN fuel s) := by
  induction fuel generalizing s with
  | zero => exact h
  | succ f ih =>
    unfold settleN
    have h1 : Sound { s with raised := [] } := h
    exact .ite h (ih (react_sound h1))

theorem settle_sound {s : State} (h : Sound s) : Sound (settle s) := by
  unfold settle
  exact settleN_sound h

theorem recordRead_sound {α : Type} [Inhabited α] {b : Blk} {g : GMem} {keep : α → α} {put : α → State → State}
    {x : α} {s : State} (hput : ∀ x0 t, Sound t → Sound (put x0 t)) (h : Sound s) : Sound
    (recordRead b g keep put x s).2.2 := by
  unfold recordRead
  dsimp only
  split
  · next e =>
      exact .of_eq₃ e (memScan_sound h)
  · next e =>
      exact hput _ _ (.of_eq₃ e (memScan_sound h))

theorem waitRead_sound {w : FWait} {s : State} (h : Sound s) : Sound (waitRead w s) := by
  unfold waitRead
  split
  · next e =>
      exact .of_fields (Sound.of_eq₃ e (recordRead_sound (fun _ _ h1 => h1) h)).fields
  · next e =>
      exact .of_eq₃ e (recordRead_sound (fun _ _ h1 => h1) h)

theorem waitsRead_sound {m : Nat} {s : State} (h : Sound s) : Sound (waitsRead m s) := by
  unfold waitsRead
  exact foldl_sound (fun _ _ h1 => waitRead_sound h1) h

theorem meetRuns_sound {m : Nat} {v : W64} {s : State} (h : Sound s) : Sound (meetRuns m v s) := by
  unfold meetRuns
  exact h

theorem notify_sound {m op : Nat} {value : W64} {dst tag : W32} {tc port : Nat} {s : State} (h : Sound s) :
    Sound (notify m op value dst tag tc port s) := by
  unfold notify
  dsimp only
  exact originate_sound (count_sound (newMsgId_sound h))

theorem meetWaits_sound {m : Nat} {v : W64} {s : State} (h : Sound s) : Sound (meetWaits m v s) := by
  unfold meetWaits
  dsimp only
  exact meetRuns_sound (foldl_sound (fun _ _ h1 => notify_sound h1) (.keep (waitsRead_sound h) rfl rfl rfl rfl))

theorem msuOp_sound {m : Nat} {v : W64} {answer : State → State}
    {s : State} (hanswer : ∀ t, Sound t → Sound (answer t)) (h : Sound s) : Sound (msuOp m v answer s) := by
  unfold msuOp
  dsimp only
  exact meetWaits_sound (hanswer _ (countReg_sound h))

theorem msuWriteGo_sound {w : Nat × W64} {s : State} (h : Sound s) : Sound (msuWriteGo w s) := by
  unfold msuWriteGo
  dsimp only
  exact .ite (.keep (msRead_sound h) rfl rfl rfl rfl) (msuOp_sound (fun _ h1 => h1) (msRead_sound h))

theorem msuWrites_sound {s : State} (h : Sound s) : Sound (msuWrites s) := by
  unfold msuWrites
  exact foldl_sound (fun _ _ h1 => msuWriteGo_sound h1) h

theorem applyLevel_sound {s : State} (h : Sound s) : Sound (applyLevel s) := by
  unfold applyLevel
  dsimp only
  exact .ite h (raiseIf_sound (count_sound (setField_sound h)))

theorem tick_sound {s : State} (h : Sound s) : Sound (tick s) := by
  unfold tick
  dsimp only
  exact .ite h (nextCycle_sound (ecbEndCycle_sound (writesLast_sound (settle_sound (msuWrites_sound (.ite
    (applyLevel_sound (stallCounts_sound (clockEdges_sound h))) (stallCounts_sound (clockEdges_sound h))))))))

theorem rstNAssert_sound {s : State} (h : Sound s) : Sound (rstNAssert s) := by
  unfold rstNAssert
  dsimp only
  exact .ite h (chipReset_sound h)

theorem rstNRelease_sound {straps : Straps} {s : State} (h : Sound s) : Sound (rstNRelease straps s) := by
  unfold rstNRelease
  dsimp only
  exact .ite h (bootStart_sound h)

theorem testEnAssert_sound {s : State} (h : Sound s) : Sound (testEnAssert s) := by
  unfold testEnAssert
  dsimp only
  exact .ite h (chipReset_sound h)

theorem undervoltage_sound {s : State} (h : Sound s) : Sound (undervoltage s) := by
  unfold undervoltage
  dsimp only
  exact resetState_sound h

theorem refclkLoss_sound {s : State} (h : Sound s) : Sound (refclkLoss s) := by
  unfold refclkLoss
  exact .ite h (raise_sound (setSticky_sound (setField_sound h)))

theorem refclkReturn_sound {s : State} (h : Sound s) : Sound (refclkReturn s) := by
  unfold refclkReturn
  exact .ite h (setField_sound h)

theorem bulkRsp_sound {h status : Nat} {seq sess : Nat} {d : HostDest} {xid : Nat} {first missing : Option Nat}
    {key : Option (List Byte)} {s : State} (hs : Sound s) : Sound
    (bulkRsp h status seq sess d xid first missing key s) := by
  unfold bulkRsp
  exact draw_sound (draw_sound (ympAnswer_sound hs))

theorem ympRefuse_sound {h status : Nat} {m : YmpFrame} {key : Option (List Byte)} {s : State} (hs : Sound s) :
    Sound (ympRefuse h status m key s) := by
  unfold ympRefuse
  dsimp only
  exact .ite (ympAnswer_sound hs) (.ite (ympAnswer_sound hs) (.ite hs (bulkRsp_sound hs)))

theorem dropBulk_sound {sess : Nat} {xid : W32} {s : State} (h : Sound s) : Sound (dropBulk sess xid s) := h

theorem granuleWrite_sound {a : Nat} {bs : List Byte} {s : State} (h : Sound s) : Sound (granuleWrite a bs s) :=
  h.store (granuleWrite_only _ _ _)

theorem storeWriteLoop_sound {fuel a : Nat} {bs : List Byte} {s : State} (h : Sound s) :
    Sound (storeWriteLoop fuel a bs s) :=
  h.store (storeWriteLoop_only fuel a bs s)

theorem countBursts_sound {a n : Nat} {s : State} (h : Sound s) : Sound (countBursts a n s) :=
  h.regs (countBursts_only _ _ _)

theorem storeWrite_sound {a : Nat} {bs : List Byte} {s : State} (h : Sound s) : Sound (storeWrite a bs s) :=
  h.store (storeWrite_only _ _ _)

theorem bulkAnswer_sound {status : Nat} {b : BulkCtx} {s : State} (h : Sound s) : Sound (bulkAnswer status b s) := by
  unfold bulkAnswer
  dsimp only
  exact bulkRsp_sound h

/-- A BULK context that is added to those open changes nothing that Sound speaks of. -/
theorem bulkWrBody_sound {h : Nat} {m : YmpFrame} {key : Option (List Byte)} {s : State} (hs : Sound s) :
    Sound (bulkWrBody h m key s) := by
  have hd : ∀ i x, Sound (dropBulk i x (count 0x0B0 (((YmpFrame.pay m).drop 24).length / 16) none none none
      (storeWrite ((bulkCtx h m s).addr + bkChunk m * (bulkCtx h m s).chunk) ((YmpFrame.pay m).drop 24) s))) :=
    fun i x => dropBulk_sound (count_sound (storeWrite_sound hs))
  unfold bulkWrBody
  simp only
  split
  · exact ympRefuse_sound hs
  · split
    · have h1 : Sound (dropBulk (bulkCtx h m s).session (bulkCtx h m s).xid s) := dropBulk_sound hs
      obtain ⟨hm, hf, hc, hp⟩ := h1
      exact ⟨hm, hf, hc, hp⟩
    · split
      · exact bulkAnswer_sound (hd _ _)
      · obtain ⟨hm, hf, hc, hp⟩ := hd (bulkCtx h m s).session (bulkCtx h m s).xid
        exact ⟨hm, hf, hc, hp⟩

theorem bulkChunks_sound {h : Nat} {m : YmpFrame} {key : Option (List Byte)} {c i n : Nat} {s : State} (hs : Sound s) :
    Sound (bulkChunks h m key c i n s) := by
  induction n generalizing i s with
  | zero => exact bulkRsp_sound hs
  | succ k ih =>
    unfold bulkChunks
    exact .ite (bulkRsp_sound (storeRead_sound hs)) (ih (ympAnswer_sound (count_sound (storeRead_sound hs))))

theorem bulkRdBody_sound {h : Nat} {m : YmpFrame} {key : Option (List Byte)} {c : Nat}
    {s : State} (hs : Sound s) : Sound (bulkRdBody h m key c s) := by
  unfold bulkRdBody
  exact .ite (ympRefuse_sound hs) (.ite hs (bulkChunks_sound hs))

theorem bulkResume_sound {s : State} (h : Sound s) : Sound (bulkResume s) := by
  unfold bulkResume
  dsimp only
  exact .ite h (foldl_sound (fun _ _ h1 => .ite (bulkWrBody_sound h1) (bulkRdBody_sound h1)) h)

theorem setBoot_sound {st : Nat} {s : State} (h : Sound s) : Sound (setBoot st s) := by
  unfold setBoot
  exact setField_sound h

theorem enterRecovery_sound {s : State} (h : Sound s) : Sound (enterRecovery s) := by
  unfold enterRecovery
  dsimp only
  exact pushEvent_sound (.keep (setBoot_sound h) rfl rfl rfl rfl)

theorem tryCopy_sound {s : State} (h : Sound s) : Sound (tryCopy s) := by
  unfold tryCopy
  dsimp only
  exact .ite (enterRecovery_sound h) (setBoot_sound h)

theorem wipeComplete_sound {s : State} (h : Sound s) : Sound (wipeComplete s) := by
  unfold wipeComplete
  dsimp only
  exact .ite h (.ite (tryCopy_sound (.keep (setField_sound h) rfl rfl rfl rfl)) (.keep
    (setField_sound h) rfl rfl rfl rfl))

theorem setFail_sound {why : Nat} {s : State} (h : Sound s) : Sound (setFail why s) := by
  unfold setFail
  dsimp only
  exact setField_sound h

theorem failCopy_sound {why : Nat} {s : State} (h : Sound s) : Sound (failCopy why s) := by
  unfold failCopy
  dsimp only
  exact tryCopy_sound (.keep (setFail_sound h) rfl rfl rfl rfl)

theorem imageHeaderRead_sound {ok : Bool} {s : State} (h : Sound s) : Sound (imageHeaderRead ok s) := by
  unfold imageHeaderRead
  dsimp only
  exact .ite h (.ite (failCopy_sound h) h)

theorem sectionTableRead_sound {ok : Bool} {s : State} (h : Sound s) : Sound (sectionTableRead ok s) := by
  unfold sectionTableRead
  dsimp only
  exact .ite h (.ite (failCopy_sound h) (.ite (failCopy_sound h) h))

theorem placeSwitch_sound {plan : List (Nat × W32 × List W32)} {s : State} (h : Sound s) :
    Sound (placeSwitch plan s) := by
  unfold placeSwitch
  dsimp only
  exact .ite (by
      split
      · exact setField_sound (setField_sound h)
      · exact setField_sound h) (.ite (setField_sound h) (setField_sound (setField_sound h)))

theorem collectLines_sound {s : State} (h : Sound s) : Sound (collectLines s) := by
  unfold collectLines
  exact .ite h (foldl_sound (fun _ _ h1 => .ite h1 (setReg_sound h1)) h)

theorem applyLayout_sound {b : List Byte} {s : State} (h : Sound s) : Sound (applyLayout b s) := by
  unfold applyLayout
  dsimp only
  exact foldl_sound (fun _ _ h1 => .ite (setSlice_sound h1) h1) (setRegN_sound (foldl_sound
    (fun _ _ h1 => modEngine_sound (setRegN_sound h1)) (collectLines_sound (setRegN_sound (foldl_sound
    (fun _ _ h1 => setRegN_sound h1) (setRegN_sound (setRegN_sound (setRegN_sound h))))))))

theorem applySapset_sound {b : List Byte} {s : State} (h : Sound s) : Sound (applySapset b s) := by
  unfold applySapset
  dsimp only
  exact setRegN_sound (setRegN_sound (setRegN_sound (setRegN_sound (foldl_sound (fun _ _ h1 => setRegN_sound h1) h))))

/-- A state whose firmware, start-up and host key are replaced. -/
theorem Sound.applied {u t : State} (h : Sound u) (ht : Sound t) {fw : List Byte} {x : Boot} {k : Option (List Byte)} :
    Sound { u with mgcSram := fw, mgcOn := true, boot := x, hep := { t.hep with hostKey := k } } :=
  .of_fields ⟨h.mem, h.flash, h.csr, ht.hep⟩

theorem applyImage_sound {s : State} (h : Sound s) : Sound (applyImage s) := by
  have ht : Sound (placeSwitch (planEntries ((sectBytes s 4).getD [])) (applyLayout ((sectBytes s 2).getD [])
      (applySapset ((sectBytes s 1).getD []) s))) := placeSwitch_sound (applyLayout_sound (applySapset_sound h))
  exact setBoot_sound ((setRegN_sound ht).applied ht)

theorem imageReadComplete_sound {ok : Bool} {s : State} (h : Sound s) : Sound (imageReadComplete ok s) := by
  have ht : ∀ bs, Sound (setBoot 3 { s with mem := cellWrite 0 s.mem stagingBase bs }) := by
    obtain ⟨hm, hf, hc, hp⟩ := h
    exact fun bs => setBoot_sound ⟨cellWf_write _ _ _ _ hm, hf, hc, hp⟩
  unfold imageReadComplete
  exact .ite h (.ite (failCopy_sound h) (.ite (failCopy_sound (ht _)) (.ite (failCopy_sound (ht _)) (.ite
    (failCopy_sound (ht _))
    (.ite (failCopy_sound (ht _)) (.ite (failCopy_sound (ht _)) (applyImage_sound (ht _))))))))

theorem lateDone_sound {s : State} (h : Sound s) : Sound (lateDone s) := by
  unfold lateDone
  dsimp only
  exact .keep (setRegN_sound h) rfl rfl rfl rfl

theorem recordPass_sound {s : State} (h : Sound s) : Sound (recordPass s) := by
  unfold recordPass
  dsimp only
  exact .ite (lateDone_sound h) h

theorem failApply_sound {why idx rr : Nat} {s : State} (h : Sound s) : Sound (failApply why idx rr s) := by
  have h1 : Sound (((setFail why s).setField 0xA0 39 16 idx).setField 0xA0 43 40 rr) := setField_sound
    (setField_sound (setFail_sound h))
  exact wipeStart_sound (setBoot_sound (setRegN_sound
    (.of_fields ⟨rfl, h1.flash, tabSorted_filter _ _ h1.csr, hep_reset_lengths h1⟩)))

theorem recordFail_sound {why rr : Nat} {s : State} (h : Sound s) : Sound (recordFail why rr s) := by
  unfold recordFail
  dsimp only
  split
  · exact failApply_sound h
  · have hb : Sound (s.setRegN 172 (2 + why * 2 ^ 4 + s.boot.idx % 2 ^ 16 * 2 ^ 8 + rr * 2 ^ 24)) := setRegN_sound h
    generalize s.setRegN 172 (2 + why * 2 ^ 4 + s.boot.idx % 2 ^ 16 * 2 ^ 8 + rr * 2 ^ 24) = u at hb ⊢
    exact .of_fields hb.fields
  · exact h

theorem recordPoll_sound {r : RegRec} {s : State} (h : Sound s) : Sound (recordPoll r s) := by
  have h1 : Sound (wordRead (r.addr + 4) s).2 := wordRead_sound h
  unfold recordPoll
  simp only
  generalize wordRead (r.addr + 4) s = x at h1 ⊢
  exact .ite h1 (.ite (recordPass_sound h1) (recordFail_sound h1))

theorem mgcRead_sound {s : State} (h : Sound s) : Sound (mgcRead s).2 := by
  unfold mgcRead
  dsimp only
  exact memScan_sound h

theorem recordWrite_sound {r : RegRec} {s : State} (h : Sound s) : Sound (recordWrite r s) := by
  unfold recordWrite
  dsimp only
  exact .ite (busWrite_sound h) (.ite (recordPoll_sound (busWrite_sound h)) (recordPass_sound (busWrite_sound h)))

theorem regsRecord_sound {s : State} (h : Sound s) : Sound (regsRecord s) := by
  unfold regsRecord
  dsimp only
  exact .ite h (by
      split
      · exact .ite (lateDone_sound h) h
      · exact .ite (recordPoll_sound h) (.ite h (.ite (recordFail_sound (mgcRead_sound h)) (.ite (recordFail_sound
          (mgcRead_sound h)) (recordWrite_sound (mgcRead_sound h))))))

theorem commitBusyTimeout_sound {s : State} (h : Sound s) : Sound (commitBusyTimeout s) := by
  unfold commitBusyTimeout
  exact .ite h (by
      split
      · exact h
      · exact .ite (recordFail_sound h) h)

theorem autoFill_sound {s : State} (h : Sound s) : Sound (autoFill s) := by
  unfold autoFill
  dsimp only
  exact foldl_sound (fun _ _ h1 => foldl_sound (fun _ _ h2 => setRegN_sound (setRegN_sound h2)) h1) h

theorem takeRole_sound {n : Nat} {s : State} (h : Sound s) : Sound (takeRole n s) := by
  unfold takeRole
  dsimp only
  exact modPort_sound h

theorem trainAll_sound {s : State} (h : Sound s) : Sound (trainAll s) := by
  unfold trainAll
  exact foldl_sound (fun _ _ h1 => .ite (takeRole_sound h1) (beginTraining_sound h1)) h

theorem finalChecks_sound {s : State} (h : Sound s) : Sound (finalChecks s) := by
  refine .ite h (.ite (failApply_sound h) ?_)
  extract_lets t u x v
  have ht : Sound t := setBoot_sound (setField_sound (bpmApply_sound h))
  clear_value t
  have hu : Sound u := wipeStart_sound (wipeRange_sound (.ite (autoFill_sound ht) ht))
  clear_value u
  have hv : Sound v := .of_fields hu.fields
  clear_value v
  exact .ite (trainAll_sound hv) hv

theorem nowReady_sound {s : State} (h : Sound s) : Sound (nowReady s) := by
  unfold nowReady
  dsimp only
  exact pushEvent_sound (setBoot_sound (setField_sound h))

theorem fabricReady_sound {s : State} (h : Sound s) : Sound (fabricReady s) := by
  unfold fabricReady
  exact .ite h (nowReady_sound h)

theorem closePort_sound {n : Nat} {s : State} (h : Sound s) : Sound (closePort n s) := by
  unfold closePort
  dsimp only
  exact .ite h (.ite (setDisc_sound (modPort_sound h)) (.ite (modPort_sound h) h))

theorem discoveryWindowClose_sound {s : State} (h : Sound s) : Sound (discoveryWindowClose s) := by
  unfold discoveryWindowClose
  dsimp only
  exact .ite h (fabricReady_sound (foldl_sound (fun _ _ h1 => closePort_sound h1) h))

theorem laneLock_sound {n lane farLane : Nat} {inverted : Bool} {s : State} (h : Sound s) :
    Sound (laneLock n lane farLane inverted s) := by
  unfold laneLock
  dsimp only
  exact .ite h (setPort_sound h)

theorem equaliseEnd_sound {n : Nat} {s : State} (h : Sound s) : Sound (equaliseEnd n s) := by
  unfold equaliseEnd
  dsimp only
  exact .ite (enterDetect_sound (modPort_sound h)) (modPort_sound h)

theorem equaliseCheck_sound {n : Nat} {s : State} (h : Sound s) : Sound (equaliseCheck n s) := by
  unfold equaliseCheck
  dsimp only
  exact .ite (equaliseEnd_sound h) h

theorem equaliseRequest_sound {n lane : Nat} {ctrl status : W64} {s : State} (h : Sound s) :
    Sound (equaliseRequest n lane ctrl status s) := by
  unfold equaliseRequest
  dsimp only
  exact .ite h (equaliseCheck_sound (setPort_sound (.ite h (draw_sound h))))

theorem equaliseTimeout_sound {n : Nat} {s : State} (h : Sound s) : Sound (equaliseTimeout n s) := by
  unfold equaliseTimeout
  exact .ite (equaliseEnd_sound h) h

theorem startDelay_sound {n : Nat} {s : State} (h : Sound s) : Sound (startDelay n s) := by
  unfold startDelay
  dsimp only
  exact .ite (modPort_sound (foldl_sound (fun _ _ h1 => sendLinkLocal_sound h1) h)) h

theorem sendHello_sound {n sub : Nat} {ok : BitVec 8} {s : State} (h : Sound s) : Sound (sendHello n sub ok s) := by
  unfold sendHello
  dsimp only
  exact sendLinkLocal_sound h

theorem dataStart_sound {n : Nat} {farOk : BitVec 8} {farMaxw : BitVec 2} {s : State} (h : Sound s) :
    Sound (dataStart n farOk farMaxw s) := by
  unfold dataStart
  dsimp only
  exact .ite h (.ite (enterDetect_sound h) (modPort_sound (startDelay_sound (sendHello_sound (setPort_sound h)))))

theorem received_sound {n : Nat} {p : Packet} {s : State} (h : Sound s) : Sound (received n p s) :=
  h.regs (received_only _ _ _)

theorem cameIn_sound {n : Nat} {p : Packet} {s : State} (h : Sound s) : Sound (cameIn n p s) := by
  unfold cameIn
  exact received_sound (count_sound h)

theorem takeIn_sound {n : Nat} {p : Packet} {s : State} (h : Sound s) : Sound (takeIn n p s).2 :=
  h.sends (takeIn_only _ _ _)

theorem linkLocalIn_sound {n typ : Nat} {p : Packet} {s : State} (h : Sound s) : Sound (linkLocalIn n typ p s).2 := by
  unfold linkLocalIn
  dsimp only
  exact .pair h (.pair (raise_sound (countPkt_sound (takeIn_sound h))) (.pair (raise_sound (countPkt_sound
    (takeIn_sound h))) (takeIn_sound h)))

theorem linkCtrlIn_sound {n sub : Nat} {p : Packet} {s : State} (h : Sound s) : Sound (linkCtrlIn n sub p s).2 := by
  unfold linkCtrlIn
  dsimp only
  split
  · next e =>
      exact .of_eq e (linkLocalIn_sound h)
  · next e =>
      exact .pair (.of_eq e (linkLocalIn_sound h)) (.pair h (.of_eq e (linkLocalIn_sound h)))

theorem rowState_sound {m : Nat} {up : Bool} {s : State} (h : Sound s) : Sound (rowState m up s) := by
  unfold rowState
  dsimp only
  exact .ite (modPort_sound h) (.ite (.ite h (comeUp_sound h)) (modPort_sound h))

theorem reswap_sound {n : Nat} {h : HelloInfo} {s : State} (hs : Sound s) : Sound (reswap n h s) := by
  unfold reswap
  dsimp only
  exact foldl_sound (fun _ _ h1 => .ite (setDisc_sound (rowState_sound (modPort_sound h1))) h1) hs

theorem takeStatus_sound {n peer : Nat} {d : Disc} {up : Bool} {s : State} (h : Sound s) :
    Sound (takeStatus n peer d up s) := by
  unfold takeStatus
  dsimp only
  exact setDisc_sound (.ite (comeUp_sound (modPort_sound h)) (modPort_sound h))

theorem exchangeEnd_sound {n : Nat} {h : HelloInfo} {s : State} (hs : Sound s) : Sound (exchangeEnd n h s) := by
  unfold exchangeEnd
  dsimp only
  exact reswap_sound (takeStatus_sound (setReg_sound (setPort_sound hs)))

theorem exchangeCheck_sound {n : Nat} {s : State} (h : Sound s) : Sound (exchangeCheck n s) := by
  unfold exchangeCheck
  dsimp only
  split
  · exact .ite (exchangeEnd_sound h) h
  · exact h

theorem farHeard_sound {n : Nat} {h : HelloInfo} {s : State} (hs : Sound s) : Sound (farHeard n h s) := by
  unfold farHeard
  dsimp only
  exact .ite (enterDetect_sound hs) (exchangeCheck_sound (setPort_sound hs))

theorem beginRetrain_sound {n : Nat} {s : State} (h : Sound s) : Sound (beginRetrain n s) := by
  unfold beginRetrain
  dsimp only
  exact .ite (raise_sound (beginTraining_sound (foldl_sound (fun _ _ h1 => countPkt_sound h1) (setPort_sound h))))
    (sendHello_sound (setPort_sound h))

theorem hello_sound {n : Nat} {p : Packet} {s : State} (h : Sound s) : Sound (hello n p s) := by
  unfold hello
  dsimp only
  split
  · next e =>
      exact .of_eq e (linkCtrlIn_sound h)
  · next e =>
      exact .ite (farHeard_sound (sendHello_sound (.of_eq e (linkCtrlIn_sound h)))) (.ite (beginRetrain_sound
        (.of_eq e (linkCtrlIn_sound h))) (.of_eq e (linkCtrlIn_sound h)))

theorem helloAck_sound {n : Nat} {p : Packet} {s : State} (h : Sound s) : Sound (helloAck n p s) := by
  unfold helloAck
  split
  · next e =>
      exact .of_eq e (linkCtrlIn_sound h)
  · next e =>
      exact .ite (farHeard_sound (.of_eq e (linkCtrlIn_sound h))) (.of_eq e (linkCtrlIn_sound h))

theorem delayReq_sound {n : Nat} {p : Packet} {t2 t3 : Nat} {s : State} (h : Sound s) :
    Sound (delayReq n p t2 t3 s) := by
  unfold delayReq
  split
  · next e =>
      exact .of_eq e (linkCtrlIn_sound h)
  · next e =>
      exact sendLinkLocal_sound (.of_eq e (linkCtrlIn_sound h))

theorem delayResp_sound {n : Nat} {p : Packet} {t1 t4 : Nat} {s : State} (h : Sound s) :
    Sound (delayResp n p t1 t4 s) := by
  unfold delayResp
  dsimp only
  split
  · next e =>
      exact .of_eq e (linkCtrlIn_sound h)
  · next e =>
      exact .ite (.of_eq e (linkCtrlIn_sound h)) (.ite (modPort_sound (.of_eq e (linkCtrlIn_sound h)))
        (exchangeCheck_sound (setField_sound (modPort_sound (.of_eq e (linkCtrlIn_sound h))))))

theorem delayExchange_sound {n t1 : Nat} {s : State} (h : Sound s) : Sound (delayExchange n t1 s) := by
  unfold delayExchange
  dsimp only
  exact .ite (sendLinkLocal_sound h) h

theorem heldDown_sound {n : Nat} {s : State} (h : Sound s) : Sound (heldDown n s) := by
  unfold heldDown
  dsimp only
  exact raise_sound (count_sound (setSticky_sound (modPort_sound (discardQueues_sound h))))

theorem laneFail_sound {n lane : Nat} {s : State} (h : Sound s) : Sound (laneFail n lane s) := by
  unfold laneFail
  dsimp only
  exact .ite h (by
      split
      · exact enterDetect_sound (setPort_sound h)
      · exact enterDetect_sound (setPort_sound h)
      · exact enterDetect_sound (setPort_sound h)
      · exact .ite (setPort_sound h) (.ite (beginRetrain_sound (setPort_sound h)) (.ite (heldDown_sound
          (setPort_sound h)) (beginRetrain_sound (setPort_sound h))))
      · exact .ite (setPort_sound h) (.ite (beginRetrain_sound (setPort_sound h)) (.ite (heldDown_sound
          (setPort_sound h)) (beginRetrain_sound (setPort_sound h))))
      · exact .ite (heldDown_sound (setPort_sound h)) (.ite (setPort_sound h) (modPort_sound (setPort_sound h)))
      · exact h)

theorem laneSymbols_sound {n : Nat} {symbols : List Nat} {s : State} (h : Sound s) :
    Sound (laneSymbols n symbols s) := by
  unfold laneSymbols
  dsimp only
  exact foldl_sound (fun _ _ h1 => laneFail_sound h1) (setPort_sound h)

theorem ownNakLimit_sound {n : Nat} {s : State} (h : Sound s) : Sound (ownNakLimit n s) := by
  unfold ownNakLimit
  dsimp only
  exact .ite h (laneFail_sound (setSticky_sound (modPort_sound h)))

theorem frameLost_sound {n : Nat} {seq : Option (BitVec 8)} {s : State} (h : Sound s) : Sound (frameLost n seq s) := by
  unfold frameLost
  dsimp only
  exact ownNakLimit_sound (.ite (count_sound (modPort_sound (count_sound h))) (modPort_sound (count_sound h)))

theorem nakLimit_sound {n : Nat} {s : State} (h : Sound s) : Sound (nakLimit n s) := by
  unfold nakLimit
  dsimp only
  exact .ite h (by
      split
      · exact enterDetect_sound (setSticky_sound (modPort_sound h))
      · exact beginRetrain_sound (setSticky_sound (modPort_sound h))
      · exact beginRetrain_sound (setSticky_sound (modPort_sound h))
      · exact setSticky_sound (modPort_sound h))

theorem testAcked_sound {n : Nat} {acked : List SentFrame} {s : State} (h : Sound s) : Sound (testAcked n acked s) := by
  unfold testAcked
  split
  · exact .ite (setField_sound (modPort_sound h)) h
  · exact h

theorem takeAck_sound {n : Nat} {t : BitVec 64} {s : State} (h : Sound s) : Sound (takeAck n t s) := by
  unfold takeAck
  dsimp only
  exact .ite (count_sound (countReg_sound (modPort_sound (testAcked_sound h)))) (modPort_sound (testAcked_sound h))

theorem receivePacket_sound {n at_ : Nat} {p : Packet} {s : State} (h : Sound s) : Sound (receivePacket n at_ p s) := by
  unfold receivePacket
  dsimp only
  exact .ite (setPort_sound (received_sound h)) (.ite (setPort_sound (received_sound h)) (.ite (setPort_sound
    (received_sound h)) (.ite (.ite (setPort_sound (received_sound h)) (countPkt_sound (countReg_sound
    (setPort_sound (received_sound h))))) (setPort_sound (received_sound h)))))

theorem receiveFlit_sound {n : Nat} {x : BitVec 512} {s : State} (h : Sound s) : Sound (receiveFlit n x s) := by
  unfold receiveFlit
  dsimp only
  exact .ite (receivePacket_sound (setPort_sound (count_sound h))) (setPort_sound (count_sound h))

theorem takeCredit_sound {n : Nat} {t : BitVec 64} {s : State} (h : Sound s) : Sound (takeCredit n t s) := by
  unfold takeCredit
  exact .ite h (modPort_sound h)

theorem takeTrailer_sound {n : Nat} {t : BitVec 64} {s : State} (h : Sound s) : Sound (takeTrailer n t s) := by
  unfold takeTrailer
  dsimp only
  exact .ite (keptBack_sound (takeCredit_sound h)) (takeAck_sound (takeCredit_sound h))

theorem frameIn_sound {n : Nat} {f : LinkFrame} {unc : Nat} {s : State} (h : Sound s) : Sound (frameIn n f unc s) := by
  unfold frameIn
  dsimp only
  exact .ite (frameLost_sound h) (.ite (nakLimit_sound (takeAck_sound (receivePacket_sound (count_sound h)))) (.ite
    (frameLost_sound (nakLimit_sound (takeAck_sound h))) (exchangeCheck_sound (nakLimit_sound (modPort_sound
    (takeTrailer_sound (foldl_sound (fun _ _ h1 => receiveFlit_sound h1) (modPort_sound h))))))))

theorem linkFrame_sound {n : Nat} {f : LinkFrame} {corr unc : Nat} {symbols : List Nat}
    {s : State} (h : Sound s) : Sound (linkFrame n f corr unc symbols s) := by
  unfold linkFrame
  dsimp only
  exact .ite h (laneSymbols_sound (.ite (count_sound (countReg_sound (count_sound (countReg_sound h))))
    (frameIn_sound (count_sound (countReg_sound (count_sound (countReg_sound h)))))))

theorem fastRetrainEnd_sound {n : Nat} {ok : Bool} {farOk : BitVec 8} {farMaxw : BitVec 2}
    {s : State} (h : Sound s) : Sound (fastRetrainEnd n ok farOk farMaxw s) := by
  unfold fastRetrainEnd
  dsimp only
  exact .ite h (.ite (.ite (heldDown_sound h) (setPort_sound h)) (.ite (heldDown_sound h) (.ite (comeUp_sound (.ite
    (raise_sound (count_sound (setSticky_sound (count_sound (setPort_sound h))))) (count_sound (setPort_sound h))))
    (.ite (raise_sound (count_sound (setSticky_sound (count_sound (setPort_sound h))))) (count_sound
    (setPort_sound h))))))

theorem farRetrainDetect_sound {n : Nat} {s : State} (h : Sound s) : Sound (farRetrainDetect n s) := by
  unfold farRetrainDetect
  dsimp only
  exact .ite (beginTraining_sound h) h

theorem live_sound {f : State → State} {s : State} (hf : ∀ t, Sound t → Sound (f t)) (h : Sound s) :
    Sound (live f s) := by
  unfold live
  exact .ite h (hf _ h)

theorem numberBoundary_sound {s : State} (h : Sound s) : Sound (numberBoundary s) := by
  unfold numberBoundary
  dsimp only
  exact .ite (setReg_sound h) (.ite (.keep (setField_sound h) rfl rfl rfl rfl) h)

theorem gateCycleStart_sound {n : Nat} {s : State} (h : Sound s) : Sound (gateCycleStart n s) := by
  unfold gateCycleStart
  exact modPort_sound (mapMeters_sound h)

theorem sendEpochs_sound {s : State} (h : Sound s) : Sound (sendEpochs s) := by
  unfold sendEpochs
  exact foldl_sound (fun _ _ h1 => sendLinkLocal_sound h1) h

theorem boundarySnapshot_sound {s : State} (h : Sound s) : Sound (boundarySnapshot s) := by
  unfold boundarySnapshot
  exact .ite (snapshot_sound h) h

theorem boundary_sound {t : Nat} {s : State} (h : Sound s) : Sound (boundary t s) := by
  unfold boundary
  dsimp only
  exact sendEpochs_sound (boundarySnapshot_sound (foldl_sound (fun _ _ h1 => gateCycleStart_sound
    (gateSwapApply_sound h1)) (count_sound (setRegN_sound (.keep (numberBoundary_sound h) rfl rfl rfl rfl)))))

theorem epochBoundary_sound {t : Nat} {s : State} (h : Sound s) : Sound (epochBoundary t s) := by
  unfold epochBoundary
  dsimp only
  exact .ite h (boundary_sound (.ite (setField_sound h) h))

theorem followEpoch_sound {n : Nat} {no : W64} {tTx tRx : Nat} {s : State} (h : Sound s) :
    Sound (followEpoch n no tTx tRx s) := by
  unfold followEpoch
  dsimp only
  exact .ite h (by
      split
      · exact .ite (setField_sound h) h
      · next x3 e =>
          exact raiseIf_sound (.keep (setField_sound (.ite (setField_sound h) h)) rfl rfl rfl rfl))

theorem adoptEpoch_sound {no : W64} {s : State} (h : Sound s) : Sound (adoptEpoch no s) := by
  unfold adoptEpoch
  dsimp only
  exact .ite h (.ite (.keep (setField_sound (setReg_sound h)) rfl rfl rfl rfl) (.ite (raise_sound (.keep
    (setReg_sound h) rfl rfl rfl rfl)) h))

theorem epochPacket_sound {n : Nat} {p : Packet} {tRx : Nat} {s : State} (h : Sound s) :
    Sound (epochPacket n p tRx s) := by
  unfold epochPacket
  dsimp only
  split
  · next e =>
      exact .of_eq e (linkLocalIn_sound h)
  · next e =>
      exact .ite (countPkt_sound (.of_eq e (linkLocalIn_sound h))) (.ite (.of_eq e (linkLocalIn_sound h))
        (followEpoch_sound (adoptEpoch_sound (.of_eq e (linkLocalIn_sound h)))))

theorem epochHoldover_sound {s : State} (h : Sound s) : Sound (epochHoldover s) := by
  unfold epochHoldover
  dsimp only
  exact .ite h (.ite (boundary_sound (.ite h (raise_sound (setField_sound h)))) (.ite h (raise_sound
    (setField_sound h))))

theorem stopPacket_sound {n : Nat} {p : Packet} {s : State} (h : Sound s) : Sound (stopPacket n p s) := by
  unfold stopPacket
  dsimp only
  split
  · next e =>
      exact .of_eq e (linkLocalIn_sound h)
  · next e =>
      exact .ite (.of_eq e (linkLocalIn_sound h)) (.ite (countPkt_sound (.of_eq e (linkLocalIn_sound h)))
        (raise_sound (sendStops_sound (halt_sound (.of_eq e (linkLocalIn_sound h))))))

theorem dropIn_sound {n src : Nat} {f : Option Nat} {p : Packet} {s : State} (h : Sound s) :
    Sound (dropIn n src f p s).2 :=
  h.sends (dropIn_only _ _ _ _ _)

theorem meterColour_sound {n m : Nat} {s : State} (h : Sound s) : Sound (meterColour n m s).2 :=
  h.regs (meterColour_only _ _ _)

theorem endpointIn_sound {n : Nat} {past : Bool} {p : Packet} {s : State} (h : Sound s) :
    Sound (endpointIn n past p s).2 :=
  h.sends (endpointIn_only _ _ _ _)

theorem trunkIn_sound {n : Nat} {p : Packet} {s : State} (h : Sound s) : Sound (trunkIn n p s).2 :=
  h.sends (trunkIn_only _ _ _)

theorem checkHere_sound {n hop : Nat} {p : Packet} {s : State} (h : Sound s) : Sound (checkHere n hop p s).2 :=
  h.sends (checkHere_only _ _ _ _)

theorem checks_sound {n hop : Nat} {past : Bool} {p : Packet} {s : State} (h : Sound s) :
    Sound (checks n hop past p s).2 :=
  h.sends (checks_only _ _ _ _ _)

theorem ingress_sound {n : Nat} {p : Packet} {s : State} (h : Sound s) : Sound (ingress n p s).2 :=
  h.sends (ingress_only _ _ _)

theorem packetForward_sound {n : Nat} {p : Packet} {s : State} (h : Sound s) : Sound (packetForward n p s) := by
  unfold packetForward
  exact .ite h (by
      split
      · next e =>
          exact .of_eq e (ingress_sound h)
      · next e =>
          exact route_sound (.of_eq e (ingress_sound h))
      · exact h)

theorem endpointDelivery_sound {n : Nat} {p : Packet} {s : State} (h : Sound s) : Sound (endpointDelivery n p s) := by
  unfold endpointDelivery
  exact .ite h (by
      split
      · next e =>
          exact .of_eq e (ingress_sound h)
      · next e =>
          exact toEndpoint_sound (.of_eq e (ingress_sound h))
      · exact h)

theorem dropMsg_sound {src msgId : W32} {s : State} (h : Sound s) : Sound (dropMsg src msgId s) := by
  unfold dropMsg
  exact h

theorem abandonStep_sound {t : Nat} {cseq : W32} {s : State} (h : Sound s) : Sound (abandonStep t cseq s) := by
  unfold abandonStep
  exact closeStep_sound (foldl_sound (fun _ _ h1 => dropComb_sound h1) h)

theorem dropResp_sound {src msgId : W32} {s : State} (h : Sound s) : Sound (dropResp src msgId s) := by
  unfold dropResp
  exact h

theorem abandonMsg_sound {c : MsgCtx} {s : State} (h : Sound s) : Sound (abandonMsg c s) := by
  unfold abandonMsg
  dsimp only
  exact .ite (by
      split
      · exact collFail_sound h
      · exact h) (.ite (.ite (by
      split
      · exact .ite (closeComb_sound h) h
      · exact h) (by
      split
      · exact abandonStep_sound h
      · exact h)) (.ite (by
      split
      · exact .ite (closeComb_sound h) h
      · exact h) (.ite (dropResp_sound h) h)))

theorem msgTimeout_sound {src msgId : W32} {s : State} (h : Sound s) : Sound (msgTimeout src msgId s) := by
  unfold msgTimeout
  dsimp only
  split
  · exact h
  · exact .ite h (abandonMsg_sound (raise_sound (count_sound (dropMsg_sound h))))

theorem waitAt_sound {n : Nat} {p : Packet} {s : State} (h : Sound s) : Sound (waitAt n p s) := by
  unfold waitAt
  exact .ite h (modPort_sound (cameIn_sound h))

theorem sinkOverrun_sound {b : Blk} {n hop : Nat} {p : Packet} {s : State} (h : Sound s) :
    Sound (sinkOverrun b n hop p s) :=
  h.sends (sinkOverrun_only _ _ _ _ _)

theorem serveOrWait_sound {n : Nat} {p : Packet} {mine : State → Packet → Bool} {f : Packet → State → Option State}
    {s : State}
    (hf : ∀ q t u, Sound t → f q t = some u → Sound u) (h : Sound s) : Sound (serveOrWait n p mine f s) := by
  have h0 : Sound (ingress n p s).2 := ingress_sound h
  have hw : Sound (waitAt n p s) := waitAt_sound h
  unfold serveOrWait
  refine .ite h ?_
  split
  · next t e => exact .of_eq e h0
  · next q hop t e =>
    have ht : Sound t := .of_eq e h0
    refine .ite h (.ite hw ?_)
    have h1 : Sound (stageRead .rte .crossbar n q (cross (quadOf n) (serviceQuad q) 1 t)).2 := stageRead_sound
      (cross_sound ht)
    split
    · next u e => exact .of_eq e h1
    · next q' u e =>
      have hu : Sound u := .of_eq e h1
      refine .ite (raise_sound (countPkt_sound hu)) ?_
      cases hr : f (known q') (sinkOverrun (serviceBlk q.typ) n hop q' u) with
      | none => exact hw
      | some v => exact hf _ _ _ (sinkOverrun_sound hu) hr
  · exact h

theorem serve_sound {n : Nat} {p : Packet} {mine : State → Packet → Bool} {f : Packet → State → State} {s : State}
    (hf : ∀ q t, Sound t → Sound (f q t)) (h : Sound s) : Sound (serve n p mine f s) :=
  serveOrWait_sound (fun _ _ _ ht e => Option.some.inj e ▸ hf _ _ ht) h

theorem putMsg_sound {c : MsgCtx} {s : State} (h : Sound s) : Sound (putMsg c s) := by
  unfold putMsg
  exact h

theorem msgRead_sound {b : Blk} {c : MsgCtx} {s : State} (h : Sound s) : Sound (msgRead b c s).2.2 :=
  h.messages (msgRead_only _ _ _)

theorem msgArrive_sound {b : Blk} {port : Nat} {p : Packet} {s : State} (h : Sound s) :
    Sound (msgArrive b port p s).2 :=
  h.messages (msgArrive_only _ _ _ _)

theorem rowFail_sound {row n : Nat} {p : Packet} {s : State} (h : Sound s) : Sound (rowFail row n p s) := by
  unfold rowFail
  dsimp only
  exact raise_sound (countPkt_sound (countReg_sound h))

theorem countExc_sound {a n : Nat} {s : State} (h : Sound s) : Sound (countExc a n s) := h.regs (countExc_only _ _ _)

theorem countFlags_sound {base : Nat} {fs : List Fl} {s : State} (h : Sound s) : Sound (countFlags base fs s) :=
  h.regs (countFlags_only _ _ _)

theorem tscFlags_sound {fs : List Fl} {s : State} (h : Sound s) : Sound (tscFlags fs s) := h.regs (tscFlags_only _ _)

theorem tscConvert_sound {a b : Nat} {convInf : Bool} {bs : List Byte} {s : State} (h : Sound s) :
    Sound (tscConvert a b convInf bs s).2 := by
  unfold tscConvert
  dsimp only
  exact tscFlags_sound h

theorem writeSpans_sound {sp : List (Nat × Nat)} {bs : List Byte} {s : State} (h : Sound s) :
    Sound (writeSpans sp bs s) := by
  unfold writeSpans
  exact foldl_sound_snd (fun _ _ h1 => storeWrite_sound h1) h

theorem crossRows_sound {f w m : Nat} {sp : List (Nat × Nat)} {s : State} (h : Sound s) :
    Sound (crossRows f w m sp s) := by
  unfold crossRows
  exact foldl_sound (fun _ _ h1 => cross_sound h1) h

theorem addRelease_sound {port : Nat} {req : Packet} {stage : RelStage} {s : State} (h : Sound s) :
    Sound (addRelease port req stage s) := by
  unfold addRelease
  exact .ite h h

theorem storeWriteIn_sound {n : Nat} {p : Packet} {s : State} (h : Sound s) : Sound (storeWriteIn n p s) := by
  unfold storeWriteIn
  dsimp only
  split
  · next e =>
      exact .of_eq e (msgArrive_sound h)
  · next e =>
      exact .ite (putMsg_sound (.ite (rowFail_sound (.ite (countPkt_sound (.of_eq e (msgArrive_sound h))) (.of_eq e
        (msgArrive_sound h)))) (writeSpans_sound (crossRows_sound (tscConvert_sound (.ite (countPkt_sound (.of_eq e
        (msgArrive_sound h))) (.of_eq e (msgArrive_sound h)))))))) (.ite (.ite (rowFail_sound (.ite (countPkt_sound
        (.of_eq e (msgArrive_sound h))) (.of_eq e (msgArrive_sound h)))) (writeSpans_sound (crossRows_sound
        (tscConvert_sound (.ite (countPkt_sound (.of_eq e (msgArrive_sound h))) (.of_eq e (msgArrive_sound h)))))))
        (addRelease_sound (.ite (rowFail_sound (.ite (countPkt_sound (.of_eq e (msgArrive_sound h))) (.of_eq e
        (msgArrive_sound h)))) (writeSpans_sound (crossRows_sound (tscConvert_sound (.ite (countPkt_sound (.of_eq e
        (msgArrive_sound h))) (.of_eq e (msgArrive_sound h)))))))))

theorem moveRelease_sound {src msgId : W32} {a b : RelStage} {s : State} (h : Sound s) :
    Sound (moveRelease src msgId a b s) := by
  unfold moveRelease
  exact h

theorem storeWriteEnd_sound {src msgId : W32} {s : State} (h : Sound s) : Sound (storeWriteEnd src msgId s) := by
  unfold storeWriteEnd
  exact .ite (moveRelease_sound h) h

theorem sendStatus_sound {req : Packet} {status off : Nat} {s : State} (h : Sound s) :
    Sound (sendStatus req status off s) := by
  unfold sendStatus
  dsimp only
  exact originate_sound (newMsgId_sound h)

theorem readEntry_sound {r : Resp} {i a : Nat} {s : State} (h : Sound s) : Sound (readEntry r i a s).2 := by
  unfold readEntry
  dsimp only
  exact .pair (storeRead_sound h) (.pair (storeRead_sound h) (tscFlags_sound (storeRead_sound h)))

theorem readSpans_sound {b : Blk} {sp : List (Nat × Nat)} {s : State} (h : Sound s) : Sound (readSpans b sp s).2.2 := by
  unfold readSpans
  dsimp only
  exact foldl_sound_snd_snd (fun _ _ h1 => storeRead_sound h1) h

theorem respPayload_sound {r : Resp} {k : Nat} {s : State} (h : Sound s) : Sound (respPayload r k s).2 := by
  unfold respPayload
  dsimp only
  exact .pair (tscConvert_sound h) (.pair (tscFlags_sound h) (.pair (tscConvert_sound (foldl_sound_snd_snd
    (fun _ _ h1 => storeRead_sound h1) h)) (foldl_sound_snd_snd (fun _ _ h1 => storeRead_sound h1) h)))

theorem runResp_sound {fuel : Nat} {r : Resp} {s : State} (h : Sound s) : Sound (runResp fuel r s).2 := by
  induction fuel generalizing r s with
  | zero => exact h
  | succ f ih =>
    have hp := respPayload_sound (r := r) (k := min (perPacket (scW r.req)) (r.total - r.sent)) h
    unfold runResp
    refine .pair (addRelease_sound h) (.pair h ?_)
    split
    · next t e => exact sendStatus_sound (.of_eq e hp)
    · next q pay t e =>
      have ht : Sound t := .of_eq e hp
      refine ih (originateFrom_sound ?_)
      split
      · exact ht
      · exact newMsgId_sound ht

theorem goOn_sound {r : Resp} {s : State} (h : Sound s) : Sound (goOn r s).2 := by
  unfold goOn
  refine foldl_sound_snd (fun t a ht => ?_) (runResp_sound h)
  split
  · exact ht
  · next x t =>
    have he : Sound (readEntry x a.1 a.2 t).2 := readEntry_sound ht
    split
    · next u e => exact sendStatus_sound (.of_eq e he)
    · next y u e => exact runResp_sound (.of_eq e he)

theorem stopList_sound {src msgId : W32} {s : State} (h : Sound s) : Sound (stopList src msgId s) := by
  unfold stopList
  split
  · exact putMsg_sound h
  · exact h

theorem pushResp_sound {r : Resp} {s : State} (h : Sound s) : Sound (pushResp r s) := by
  unfold pushResp
  split
  · next e =>
      exact stopList_sound (.of_eq e (goOn_sound h))
  · next e =>
      exact .of_fields (Sound.of_eq e (goOn_sound h)).fields

theorem storeReadIn_sound {n : Nat} {p : Packet} {s : State} (h : Sound s) : Sound (storeReadIn n p s) := by
  unfold storeReadIn
  dsimp only
  split
  · next e =>
      exact .of_eq e (msgArrive_sound h)
  · next e =>
      exact .ite (sendStatus_sound (rowFail_sound (countPkt_sound (.of_eq e (msgArrive_sound h))))) (pushResp_sound
        (countPkt_sound (.of_eq e (msgArrive_sound h))))

theorem readResponseHanded_sound {src msgId : W32} {s : State} (h : Sound s) :
    Sound (readResponseHanded src msgId s) := by
  unfold readResponseHanded
  exact .ite (moveRelease_sound h) h

theorem addRows_sound {fuel : Nat} {r : Resp} {s : State} (h : Sound s) : Sound (addRows fuel r s).2 := by
  induction fuel generalizing r s with
  | zero => exact h
  | succ f ih =>
    unfold addRows
    split
    · exact h
    · exact .pair (ih h) (ih (tscFlags_sound h))

theorem takeEntries_sound {r : Resp} {es : List (Nat × Nat)} {s : State} (h : Sound s) :
    Sound (takeEntries r es s).2 := by
  unfold takeEntries
  refine .pair h ?_
  have hf : Sound (es.foldl (fun (acc : Option Resp × State) e =>
      match acc with
      | (some r, s) => readEntry r e.1 e.2 s
      | (none, s) => (none, s)) (some { r with entries := joinEntries r.entries es }, s)).2 := by
    refine foldl_sound_snd (fun t a ht => ?_) h
    split
    · exact readEntry_sound ht
    · exact ht
  split
  · next t e => exact .of_eq e hf
  · next x t e => exact addRows_sound (.of_eq e hf)

theorem listPacket_sound {r : Resp} {n : Nat} {p : Packet} {complete : Bool} {s : State} (h : Sound s) :
    Sound (listPacket r n p complete s).2 := by
  unfold listPacket
  dsimp only
  exact .pair (sendStatus_sound (rowFail_sound h)) (by
      split
      · next e =>
          exact sendStatus_sound (.of_eq e (takeEntries_sound h))
      · next e =>
          split
          · next e' =>
              exact .of_eq e' (goOn_sound (.of_eq e (takeEntries_sound h)))
          · next e' =>
              exact .of_fields (Sound.of_eq e' (goOn_sound (.of_eq e (takeEntries_sound h)))).fields)

theorem gatherIn_sound {n : Nat} {p : Packet} {s : State} (h : Sound s) : Sound (gatherIn n p s) := by
  have h0 : Sound (msgArrive .tsc n p s).2 := msgArrive_sound h
  unfold gatherIn
  split
  · next t e => exact .of_eq e h0
  · next c first complete t e =>
    extract_lets t1 req r t2
    have h1 : Sound t1 := .ite (countPkt_sound (.of_eq e h0)) (.of_eq e h0)
    have h2 : Sound t2 := cross_sound h1
    have h3 : Sound (listPacket r n p complete (dropResp c.src c.msgId t2)).2 := listPacket_sound (dropResp_sound h2)
    exact .ite h1 (.ite h3 (putMsg_sound h3))

theorem milestoneUpdate_sound {src msgId : W32} {s : State} (h : Sound s) : Sound (milestoneUpdate src msgId s) := by
  unfold milestoneUpdate
  dsimp only
  split
  · exact h
  · exact .ite h (.ite (msRead_sound h) (.ite (msuOp_sound (fun _ h1 => .ite (notify_sound h1) h1) (msRead_sound h))
      (notify_sound (msRead_sound h))))

theorem opAnswer_sound {n : Nat} {p : Packet} {v : W64} {s : State} (h : Sound s) : Sound (opAnswer n p v s) := by
  unfold opAnswer
  exact .ite (notify_sound h) h

theorem waitOp_sound {n : Nat} {p : Packet} {s : State} (h : Sound s) : Sound (waitOp n p s) := by
  unfold waitOp
  dsimp only
  exact .ite (notify_sound (countReg_sound h)) (.ite (raise_sound (countPkt_sound (countReg_sound h)))
    (countPkt_sound (granuleClean_sound (.keep (countReg_sound h) rfl rfl rfl rfl))))

theorem packetOp_sound {n : Nat} {p : Packet} {s : State} (h : Sound s) : Sound (packetOp n p s) := by
  unfold packetOp
  dsimp only
  exact .ite (msuOp_sound (fun _ h1 => opAnswer_sound h1) h) (.ite (msuOp_sound (fun _ h1 => opAnswer_sound h1) h)
    (waitOp_sound h))

theorem milestoneOpIn_sound {n : Nat} {p : Packet} {s : State} (h : Sound s) : Sound (milestoneOpIn n p s) := by
  unfold milestoneOpIn
  dsimp only
  split
  · next e =>
      exact .of_eq e (msgArrive_sound h)
  · next e =>
      exact .ite (raise_sound (countPkt_sound (.of_eq e (msgArrive_sound h)))) (.ite (countPkt_sound (msRead_sound
        (.of_eq e (msgArrive_sound h)))) (packetOp_sound (countPkt_sound (msRead_sound (.of_eq e
        (msgArrive_sound h))))))

theorem poolDropped_sound {n : Nat} {p : Packet} {s : State} (h : Sound s) : Sound (poolDropped n p s) := by
  unfold poolDropped
  exact raise_sound (countPkt_sound h)

theorem poolResp_sound {p : Packet} {status : Nat} {handle : W32} {pool addr : Nat} {s : State} (h : Sound s) :
    Sound (poolResp p status handle pool addr s) := by
  unfold poolResp
  dsimp only
  exact originate_sound (newMsgId_sound h)

theorem poolDeny_sound {n : Nat} {p : Packet} {status pool : Nat} {s : State} (h : Sound s) :
    Sound (poolDeny n p status pool s) := by
  unfold poolDeny
  dsimp only
  exact poolResp_sound (.ite (countPkt_sound (countReg_sound h)) (countPkt_sound (countReg_sound h)))

theorem takeBuf_sound {p q i : Nat} {owners : List W32} {final : W32} {grant : Option (Nat × Nat × Nat)}
    {s : State} (h : Sound s) :
    Sound (takeBuf p q i owners final grant s).2 := by
  unfold takeBuf
  extract_lets g g' b t
  have ht : Sound t := by
    simp only [t]
    split
    · exact h
    · exact modPort_sound h
  clear_value t
  exact .of_fields ht.fields

theorem poolAlloc_sound {n : Nat} {p : Packet} {s : State} (h : Sound s) : Sound (poolAlloc n p s) := by
  unfold poolAlloc
  refine .ite (poolDropped_sound h) (.ite (poolDeny_sound h) ?_)
  split
  · exact poolDeny_sound h
  · extract_lets fin here q
    split
    · exact poolDeny_sound h
    · exact poolResp_sound (countPkt_sound (countReg_sound (takeBuf_sound h)))

theorem poolAllocIn_sound {n : Nat} {p : Packet} {s : State} (h : Sound s) : Sound (poolAllocIn n p s) := by
  unfold poolAllocIn
  split
  · next e =>
      exact .of_eq e (msgArrive_sound h)
  · next e =>
      exact poolAlloc_sound (.of_eq e (msgArrive_sound h))

theorem poolReturn_sound {n : Nat} {p : Packet} {b : Buf} {src : W32} {s : State} (h : Sound s) :
    Sound (poolReturn n p b src s) := by
  unfold poolReturn
  exact .ite (poolDeny_sound h) (poolResp_sound (countPkt_sound (freeBuf_sound h)))

theorem poolChange_sound {n : Nat} {p : Packet} {b : Buf} {s : State} (h : Sound s) : Sound (poolChange n p b s) := by
  unfold poolChange
  dsimp only
  exact .ite (.ite (poolResp_sound h) (.ite (poolDeny_sound h) (poolResp_sound (putBuf_sound h)))) (.ite
    (poolResp_sound (putBuf_sound h)) (poolReturn_sound h))

theorem poolHandle_sound {n : Nat} {p : Packet} {s : State} (h : Sound s) : Sound (poolHandle n p s) := by
  unfold poolHandle
  exact .ite (poolDropped_sound h) (by
      split
      · exact poolDeny_sound h
      · next e =>
          split
          · next e' =>
              exact poolDeny_sound (.of_eq e' (readRecord_sound h))
          · next e' =>
              exact .ite (poolDeny_sound (.of_eq e' (readRecord_sound h))) (poolChange_sound (.of_eq e'
                (readRecord_sound h))))

theorem poolHandleIn_sound {n : Nat} {p : Packet} {s : State} (h : Sound s) : Sound (poolHandleIn n p s) := by
  unfold poolHandleIn
  split
  · next e =>
      exact .of_eq e (msgArrive_sound h)
  · next e =>
      exact poolHandle_sound (.of_eq e (msgArrive_sound h))

theorem putStep_sound {x : XStep} {s : State} (h : Sound s) : Sound (putStep x s) := by
  unfold putStep
  exact h

theorem withStep_sound {t : Nat} {cseq : W32} {f : XStep → State → State}
    {s : State} (hf : ∀ x0 t, Sound t → Sound (f x0 t)) (h : Sound s) : Sound (withStep t cseq f s) := by
  unfold withStep
  split
  · exact h
  · next e =>
      split
      · next e' =>
          exact abandonStep_sound (.of_eq₃ e' (recordRead_sound (fun _ _ h2 => putStep_sound h2) h))
      · next e' =>
          exact hf _ _ (.of_eq₃ e' (recordRead_sound (fun _ _ h2 => putStep_sound h2) h))

theorem ownersRead_sound {t : Nat} {es : List Nat} {s : State} (h : Sound s) : Sound (ownersRead t es s).2 := by
  unfold ownersRead
  dsimp only
  exact foldl_sound_snd (fun _ _ h1 => storeRead_sound h1) h

theorem xRead_sound {t : Nat} {s : State} (h : Sound s) : Sound (xRead t s).2 := by
  unfold xRead
  exact tableRead_sound h

theorem putComb_sound {c : Comb} {s : State} (h : Sound s) : Sound (putComb c s) := by
  unfold putComb
  exact h

theorem withComb_sound {t : Nat} {cseq : W32} {token : Nat} {f : Comb → State → State}
    {s : State} (hf : ∀ x0 t, Sound t → Sound (f x0 t)) (h : Sound s) : Sound (withComb t cseq token f s) := by
  unfold withComb
  split
  · exact h
  · next e =>
      split
      · next e' =>
          exact closeComb_sound (.of_eq₃ e' (recordRead_sound (fun _ _ h2 => putComb_sound h2) h))
      · next e' =>
          exact hf _ _ (.of_eq₃ e' (recordRead_sound (fun _ _ h2 => putComb_sound h2) h))

theorem stageOut_sound {n : Nat} {c : Comb} {p : Packet} {s : State} (h : Sound s) : Sound (stageOut n c p s) := by
  unfold stageOut
  dsimp only
  exact storeWrite_sound (crossRows_sound h)

theorem expertOutIn_sound {n : Nat} {p : Packet} {s : State} (h : Sound s) : Sound (expertOutIn n p s) := by
  have h1 : Sound (xRead (xTable p) s).2 := xRead_sound h
  have h2 : Sound (if xActive (xRead (xTable p) s).2 (xTable p) && p.expert 0 < xNexp (xRead (xTable p) s).2
    (xTable p) then
      ownersRead (xTable p) [p.expert 0] (xRead (xTable p) s).2 else (false, (xRead (xTable p) s).2)).2 :=
    .pair (ownersRead_sound h1) h1
  unfold expertOutIn
  simp only
  generalize (if xActive (xRead (xTable p) s).2 (xTable p) && p.expert 0 < xNexp (xRead (xTable p) s).2 (xTable p) then
      ownersRead (xTable p) [p.expert 0] (xRead (xTable p) s).2 else (false, (xRead (xTable p) s).2)) = x at h2 ⊢
  refine .ite (count_sound h2) ?_
  have h3 : Sound (withComb (xTable p) (xStepNo x.2 (xTable p) p) (xToken p) (fun _ s => s) x.2) := withComb_sound
    (fun _ _ ht => ht) h2
  generalize withComb (xTable p) (xStepNo x.2 (xTable p) p) (xToken p) (fun _ s => s) x.2 = y at h3 ⊢
  split
  · exact raise_sound h3
  · exact count_sound (countReg_sound h3)
  · next c _ =>
    have h4 : Sound (msgArrive .csq n p y).2 := msgArrive_sound h3
    split
    · next t e => exact .of_eq e h4
    · next t e =>
      have ht : Sound t := .of_eq e h4
      exact .ite (putComb_sound ht) (.ite (putComb_sound (stageOut_sound ht)) (stageOut_sound ht))

theorem refuseRow_sound {x : XStep} {e : Nat} {row : Row} {s : State} (h : Sound s) : Sound (refuseRow x e row s) := by
  unfold refuseRow
  dsimp only
  exact .ite (expertOutIn_sound (count_sound (countReg_sound h))) (originate_sound (count_sound (countReg_sound h)))

theorem writeRow_sound {t : Nat} {b : Batch} {row : Row} {s : State} (h : Sound s) : Sound (writeRow t b row s) := by
  unfold writeRow
  dsimp only
  exact foldl_sound (fun _ _ h1 => storeWrite_sound (crossRows_sound h1)) h

theorem passOn_sound {quad mq : Nat} {p : Packet} {s : State} (h : Sound s) : Sound (passOn quad mq p s) := by
  unfold passOn
  exact sendOn_sound h

theorem pushPacket_sound {t : Nat} {b : Batch} {row : Row} {n : Nat} {p : Packet} {s : State} (h : Sound s) :
    Sound (pushPacket t b row n p s) := by
  unfold pushPacket
  dsimp only
  exact .ite (passOn_sound (count_sound (raiseIf_sound (count_sound (foldl_sound
    (fun _ _ h1 => rowRead_sound h1) h))))) (count_sound (raiseIf_sound (count_sound (foldl_sound
    (fun _ _ h1 => rowRead_sound h1) h))))

theorem pushRow_sound {t : Nat} {b : Batch} {row : Row} {s : State} (h : Sound s) : Sound (pushRow t b row s) := by
  unfold pushRow
  exact foldl_sound (fun _ _ h1 => pushPacket_sound h1) h

theorem putRow_sound {x : XStep} {b : Batch} {row : Row} {s : State} (h : Sound s) : Sound (putRow x b row s).2 := by
  unfold putRow
  dsimp only
  exact .pair (.ite (writeRow_sound h) (.ite (pushRow_sound (count_sound (writeRow_sound h))) (count_sound
    (writeRow_sound h)))) (.pair (refuseRow_sound h) (by
      split
      · exact .pair (refuseRow_sound h) (refuseRow_sound (writeRow_sound h))
      · exact refuseRow_sound h))

theorem putRows_sound {x : XStep} {b : Batch} {rows : List Row} {s : State} (h : Sound s) :
    Sound (putRows x b rows s).2 := by
  unfold putRows
  exact foldl_sound_snd (fun _ _ h1 => putRow_sound h1) h

theorem batchAlloc_sound {t : Nat} {cseq : W32} {e : Nat} {s : State} (h : Sound s) :
    Sound (batchAlloc t cseq e s) := by
  unfold batchAlloc
  refine .ite h (withStep_sound (fun x u hu => ?_) h)
  dsimp only
  split
  · exact hu
  · refine .ite hu ?_
    have hr : Sound (ownersRead t [e] u).2 := ownersRead_sound hu
    split
    · next v he => exact abandonStep_sound (.of_eq he hr)
    · next v he =>
      have hv : Sound v := .of_eq he hr
      split
      · exact foldl_sound (fun _ _ hw => refuseRow_sound hw) (putStep_sound (raiseIf_sound (count_sound (countReg_sound
          (count_sound (countReg_sound hv))))))
      · exact putStep_sound (putRows_sound (takeBuf_sound (count_sound (countReg_sound hv))))

theorem memberRead_sound {g i : Nat} {s : State} (h : Sound s) : Sound (memberRead g i s).2 := by
  unfold memberRead
  dsimp only
  exact .pair h (storeRead_sound h)

theorem abortIn_sound {n : Nat} {p : Packet} {g dir : Nat} {s : State} (h : Sound s) : Sound (abortIn n p g dir s) := by
  unfold abortIn
  split
  · next e =>
      exact .ite (by
          split
          · next e' =>
              exact .of_eq e' (msgArrive_sound h)
          · next e' =>
              split
              · exact collAbort_sound (.of_eq e' (msgArrive_sound h))
              · exact collAbort_sound (.of_eq e' (msgArrive_sound h))) (raise_sound (count_sound h))
  · exact raise_sound (count_sound h)

theorem putColl_sound {c : Coll} {s : State} (h : Sound s) : Sound (putColl c s) := by
  unfold putColl
  exact h

theorem collRead_sound {c : Coll} {s : State} (h : Sound s) : Sound (collRead c s).2.2 := by
  unfold collRead
  exact recordRead_sound (fun _ _ h1 => putColl_sound h1) h

theorem collMismatch_sound {c : Coll} {s : State} (h : Sound s) : Sound (collMismatch c s) := by
  unfold collMismatch
  exact collFail_sound (raise_sound h)

theorem descRead_sound {d : BitVec 128} {s : State} (h : Sound s) : Sound (descRead d s).2.2 := by
  unfold descRead
  dsimp only
  split
  · next e =>
      exact .of_eq₃ e (memScan_sound h)
  · next e =>
      exact .of_fields (Sound.of_eq₃ e (memScan_sound h)).fields

theorem readPerm_sound {g : Nat} {d : BitVec 128} {s : State} (h : Sound s) : Sound (readPerm g d s).2 := by
  unfold readPerm
  dsimp only
  exact .pair (count_sound (raiseIf_sound (count_sound (foldl_sound (fun _ _ h1 => rowRead_sound h1) h)))) (.pair
    (count_sound (raiseIf_sound (count_sound (foldl_sound (fun _ _ h1 => rowRead_sound h1) h)))) (raise_sound
    (count_sound (raiseIf_sound (count_sound (foldl_sound (fun _ _ h1 => rowRead_sound h1) h))))))

theorem startRuns_sound {c : Coll} {s : State} (h : Sound s) : Sound (startRuns c s) := by
  unfold startRuns
  exact foldl_sound (fun _ _ h1 => foldl_sound (fun _ _ h2 => enqueue_sound h2) h1) h

theorem openColl_sound {port : Nat} {p : Packet} {g : Nat} {cseq : W32} {d : BitVec 128} {s : State} (h : Sound s) :
    Sound (openColl port p g cseq d s).2 := by
  unfold openColl
  extract_lets es c s1
  have h1 : Sound s1 := granuleClean_sound (h)
  have h2 : Sound (segRead d (count 0x060 1 (some port) (some p.tc) (some g) s1)).2 := segRead_sound (count_sound h1)
  simp only
  generalize segRead d (count 0x060 1 (some port) (some p.tc) (some g) s1) = x at h2 ⊢
  split
  · exact collFail_sound (raise_sound h2)
  · refine .pair (collFail_sound h2) ?_
    have h3 : Sound (readPerm g d x.2).2 := readPerm_sound h2
    split
    · split
      · next t e => exact collFail_sound (.of_eq e h3)
      · next l t e => exact putColl_sound (.of_eq e h3)
    · exact startRuns_sound h2

theorem collFor_sound {n : Nat} {p : Packet} {g : Nat} {s : State} (h : Sound s) : Sound (collFor n p g s).2 := by
  unfold collFor
  dsimp only
  split
  · next e =>
      split
      · next e' =>
          exact collFail_sound (.of_eq₃ e' (collRead_sound h))
      · next e' =>
          exact .pair (collMismatch_sound (.of_eq₃ e' (collRead_sound h))) (.of_eq₃ e' (collRead_sound h))
  · next e =>
      split
      · exact raise_sound (count_sound h)
      · next e' =>
          split
          · next e'' =>
              exact count_sound (.of_eq₃ e'' (descRead_sound h))
          · next e'' =>
              exact .pair (raise_sound (count_sound (.of_eq₃ e'' (descRead_sound h)))) (.pair (raise_sound
                (count_sound (.of_eq₃ e'' (descRead_sound h)))) (openColl_sound (.of_eq₃ e'' (descRead_sound h))))

theorem payCross_sound {c : Coll} {n : Nat} {p : Packet} {es : List (Nat × Nat)} {s : State} (h : Sound s) :
    Sound (payCross c n p es s) := by
  unfold payCross
  exact .ite (foldl_sound (fun _ _ h1 => cross_sound h1) h) (cross_sound h)

theorem engFlags_sound {e : Nat} {fs : List Fl} {s : State} (h : Sound s) : Sound (engFlags e fs s) :=
  h.regs (engFlags_only _ _ _)

theorem feed_sound {n : Nat} {c : Coll} {step : Nat} {key : CKey} {complete : Bool} {p : Packet}
    {s : State} (h : Sound s) : Sound (feed n c step key complete p s) := by
  unfold feed
  dsimp only
  exact .ite (putColl_sound h) (by
      split
      · exact .ite (foldl_sound (fun _ _ h1 => engFlags_sound h1) (putColl_sound (payCross_sound h))) (putColl_sound
          (payCross_sound h))
      · exact putColl_sound (payCross_sound h))

theorem countStep_sound {n g step : Nat} {p : Packet} {s : State} (h : Sound s) : Sound (countStep n g step p s) := by
  unfold countStep
  dsimp only
  exact .ite (count_sound h) h

theorem takeControl_sound {c : Coll} {step dir : Nat} {p : Packet} {s : State} (h : Sound s) :
    Sound (takeControl c step dir p s) := by
  unfold takeControl
  split
  · exact .ite (putColl_sound h) (putColl_sound h)
  · exact h

theorem stepIn_sound {n : Nat} {p : Packet} {g step dir : Nat} {c : Coll} {s u : State} (h : Sound s)
    (e : stepIn n p g step dir c s = some u) : Sound u := by
  have h0 : Sound (msgArrive .csq n p s).2 := msgArrive_sound h
  have hbad : ∀ k, Sound (raise .csq 2 (count 0x073 1 (some n) (some p.tc) k s)) := fun _ => raise_sound (count_sound h)
  have hfeed : ∀ (c' : Coll) complete t, Sound t →
      (if waitsForPlace s c' step (cbKey step dir p) p then none
        else some (feed n c' step (cbKey step dir p) complete p (countStep n g step p t))) = some u → Sound u := by
    intro c' complete t ht e'
    split at e'
    · cases e'
    · obtain rfl := Option.some.inj e'
      exact feed_sound (countStep_sound ht)
  unfold stepIn at e
  simp only at e
  split at e
  · obtain rfl := Option.some.inj e
    exact collMismatch_sound h
  · split at e
    · split at e
      · obtain rfl := Option.some.inj e
        exact hbad _
      · split at e
        · next t he =>
          obtain rfl := Option.some.inj e
          exact .of_eq he h0
        · next t he =>
          exact hfeed _ _ _ (.of_eq he h0) e
    · split at e
      · obtain rfl := Option.some.inj e
        exact hbad _
      · split at e
        · next t he =>
          obtain rfl := Option.some.inj e
          exact .of_eq he h0
        · next t he =>
          obtain rfl := Option.some.inj e
          exact takeControl_sound (.of_eq he h0)

theorem contributeIn_sound {n : Nat} {p : Packet}
    {s u : State} (h : Sound s) (e : contributeIn n p s = some u) : Sound u := by
  have h1 : Sound (tableRead .csq (0x4010000 + cbGroup p * 0x20) 0x20 s).2 := tableRead_sound h
  unfold contributeIn at e
  simp only at e
  generalize tableRead .csq (0x4010000 + cbGroup p * 0x20) 0x20 s = x at h1 e
  have h2 : Sound (if readsMember x.2 (cbGroup p) p then memberRead (cbGroup p) (cbMember p) x.2 else (false, x.2)).2 :=
    .pair (memberRead_sound h1) h1
  split at e
  · obtain rfl := Option.some.inj e
    exact count_sound h1
  · split at e
    · exact absurd e (by simp)
    · generalize (if readsMember x.2 (cbGroup p) p then memberRead (cbGroup p) (cbMember p) x.2 else
        (false, x.2)) = y at h2 e
      split at e
      · obtain rfl := Option.some.inj e
        exact count_sound h2
      · split at e
        · obtain rfl := Option.some.inj e
          split
          · exact raise_sound (count_sound h2)
          · exact count_sound h2
        · split at e
          · obtain rfl := Option.some.inj e
            exact abortIn_sound h2
          · have h3 : Sound (collFor n p (cbGroup p) y.2).2 := collFor_sound h2
            split at e
            · next t he =>
              obtain rfl := Option.some.inj e
              exact .of_eq he h3
            · next c t he => exact stepIn_sound (.of_eq he h3) e

theorem contribute_sound {step n : Nat} {p : Packet} {s : State} (h : Sound s) : Sound (contribute step n p s) :=
  serveOrWait_sound (fun _ _ _ ht e => contributeIn_sound ht e) h

theorem stagedRead_sound {c : Coll} {s : State} (h : Sound s) : Sound (stagedRead c s).2.2 :=
  memScan_sound (collRead_sound h)

theorem formStripe_sound {ks : List CKey} {part : Nat × Nat} {k : Nat} {c : Coll} {s : State} (h : Sound s) :
    Sound (formStripe ks part k c s).2 := by
  unfold formStripe
  dsimp only
  exact .pair h (by
      split
      · exact h
      · exact foldl_sound (fun _ _ h1 => engFlags_sound h1) h)

theorem formParts_sound {c : Coll} {s : State} (h : Sound s) : Sound (formParts c s).2 := by
  unfold formParts
  exact .pair h (by
      split
      · exact h
      · exact .pair h (foldl_sound_snd (fun _ _ h1 => foldl_sound_snd (fun _ _ h2 => formStripe_sound h2) h1) h))

theorem sendOwed_sound {k : OKey} {c : Coll} {s : State} (h : Sound s) : Sound (sendOwed k c s).2 := by
  unfold sendOwed
  dsimp only
  exact .pair h (foldl_sound (fun _ _ h1 => collSend_sound (.ite (count_sound h1) h1)) (by
      split
      · exact h
      · exact newMsgId_sound h))

theorem summary_sound {c : Coll} {s : State} (h : Sound s) : Sound (summary c s).2 := by
  unfold summary
  dsimp only
  exact h

theorem sendReady_sound {c : Coll} {s : State} (h : Sound s) : Sound (sendReady c s) := by
  unfold sendReady
  dsimp only
  exact .ite (putColl_sound (formParts_sound h)) (.ite (collFail_sound (foldl_sound_snd
    (fun _ _ h1 => memberRead_sound h1) (formParts_sound h))) (.ite (putColl_sound (sendControl_sound (summary_sound
    (.ite (endCollRuns_sound (foldl_sound_snd (fun _ _ h1 => sendOwed_sound h1) (foldl_sound_snd
    (fun _ _ h1 => memberRead_sound h1) (formParts_sound h)))) (foldl_sound_snd (fun _ _ h1 => sendOwed_sound h1)
    (foldl_sound_snd (fun _ _ h1 => memberRead_sound h1) (formParts_sound h))))))) (putColl_sound (.ite
    (endCollRuns_sound (foldl_sound_snd (fun _ _ h1 => sendOwed_sound h1) (foldl_sound_snd
    (fun _ _ h1 => memberRead_sound h1) (formParts_sound h)))) (foldl_sound_snd (fun _ _ h1 => sendOwed_sound h1)
    (foldl_sound_snd (fun _ _ h1 => memberRead_sound h1) (formParts_sound h)))))))

theorem upTraffic_sound {g : Nat} {cseq : W32} {s : State} (h : Sound s) : Sound (upTraffic g cseq s) := by
  unfold upTraffic
  split
  · exact h
  · next e =>
      exact .ite h (by
          split
          · next e' =>
              exact collFail_sound (.of_eq₃ e' (stagedRead_sound h))
          · next e' =>
              exact sendReady_sound (.of_eq₃ e' (stagedRead_sound h)))

theorem completions_sound {c : Coll} {fl : Fl} {first : W32} {recs : List SegRec} {s : State} (h : Sound s) :
    Sound (completions c fl first recs s) := by
  unfold completions
  dsimp only
  exact foldl_sound (fun _ _ h1 => foldl_sound (fun _ _ h2 => sendRecord_sound h2) h1) h

theorem finishGo_sound {c : Coll} {s : State} (h : Sound s) : Sound (finishGo c s) := by
  unfold finishGo
  simp only
  exact collEnd_sound (count_sound (completions_sound (foldl_sound (fun _ _ h1 => sendControl_sound h1)
    (.pair (summary_sound h) h))))

theorem collFinish_sound {g : Nat} {cseq : W32} {s : State} (h : Sound s) : Sound (collFinish g cseq s) := by
  unfold collFinish
  split
  · exact h
  · next e =>
      exact .ite h (by
          split
          · next e' =>
              exact collFail_sound (.of_eq₃ e' (collRead_sound h))
          · next e' =>
              exact .ite (finishGo_sound (.of_eq₃ e' (collRead_sound h))) (.of_eq₃ e' (collRead_sound h)))

theorem collTimeout_sound {g : Nat} {cseq : W32} {s : State} (h : Sound s) : Sound (collTimeout g cseq s) := by
  unfold collTimeout
  split
  · exact h
  · exact .ite h (collFail_sound (raise_sound h))

theorem refuseStep_sound {n : Nat} {p : Packet} {t : Nat} {cseq : W32} {s : State} (h : Sound s) :
    Sound (refuseStep n p t cseq s) := by
  unfold refuseStep
  dsimp only
  exact .ite (by
      split
      · next e =>
          exact emptyResult_sound (.of_eq e (msgArrive_sound (raise_sound h)))
      · next e =>
          exact (.of_eq e (msgArrive_sound (raise_sound h)))) (raise_sound h)

theorem sealIn_sound {n : Nat} {p : Packet} {x : XStep} {s : State} (h : Sound s) : Sound (sealIn n p x s) := by
  unfold sealIn
  dsimp only
  split
  · next e =>
      exact .of_eq e (msgArrive_sound h)
  · next e =>
      exact putStep_sound (.of_eq e (msgArrive_sound h))

theorem rowIn_sound {t : Nat} {cseq : W32} {e : Nat} {row : Row} {s : State} (h : Sound s) :
    Sound (rowIn t cseq e row s) := by
  unfold rowIn
  dsimp only
  split
  · exact h
  · split
    · exact putStep_sound h
    · exact .ite (putStep_sound h) (.ite (refuseRow_sound h) (putStep_sound (putRow_sound h)))

theorem rowsIn_sound {t : Nat} {cseq : W32} {pkts : List (Nat × Packet)} {ranks : List Nat}
    {s : State} (h : Sound s) : Sound (rowsIn t cseq pkts ranks s) := by
  unfold rowsIn
  split
  · exact h
  · exact foldl_sound (fun _ _ h1 => rowIn_sound h1) h

theorem serveLocal_sound {c : Comb} {s : State} (h : Sound s) : Sound (serveLocal c s) := by
  unfold serveLocal
  exact .ite (rowsIn_sound h) h

theorem sendCopies_sound {c : Comb} {pkts : List (Nat × Packet)} {s : State} (h : Sound s) :
    Sound (sendCopies c pkts s) := by
  unfold sendCopies
  dsimp only
  exact foldl_sound (fun _ _ h1 => foldl_sound (fun _ _ h2 => passOn_sound h2) h1) h

theorem tokenPacket_sound {n : Nat} {p : Packet} {x : XStep} {complete : Bool} {s : State} (h : Sound s) :
    Sound (tokenPacket n p x complete s) := by
  unfold tokenPacket
  dsimp only
  exact .ite (by
      split
      · exact putStep_sound (withComb_sound (fun _ _ h1 => .ite (serveLocal_sound (.ite (sendCopies_sound
          (putComb_sound h1)) (putComb_sound h1))) h1) h)
      · exact withComb_sound (fun _ _ h1 => .ite (serveLocal_sound (.ite (sendCopies_sound (putComb_sound h1))
          (putComb_sound h1))) h1) h) (withComb_sound (fun _ _ h1 => .ite (serveLocal_sound (.ite (sendCopies_sound
          (putComb_sound h1)) (putComb_sound h1))) h1) h)

theorem openComb_sound {n : Nat} {p : Packet} {x : XStep} {ctx : Nat} {s : State} (h : Sound s) :
    Sound (openComb n p x ctx s) := by
  unfold openComb
  dsimp only
  exact .ite (emptyResult_sound (raise_sound (count_sound h))) (granuleClean_sound (by
      have hb : Sound (count 130 1 (some n) (some p.tc) (some x.table) s) := count_sound h
      generalize count 130 1 (some n) (some p.tc) (some x.table) s = u at hb ⊢
      exact .of_fields hb.fields))

theorem tokenIn_sound {n : Nat} {p : Packet} {x : XStep} {s : State} (h : Sound s) : Sound (tokenIn n p x s) := by
  unfold tokenIn
  dsimp only
  exact .ite (raise_sound (count_sound h)) (by
      split
      · exact raise_sound (count_sound h)
      · next e =>
          split
          · next e =>
              exact .of_eq e (msgArrive_sound h)
          · next e =>
              exact tokenPacket_sound (.ite (openComb_sound (.of_eq e (msgArrive_sound h))) (.of_eq e
                (msgArrive_sound h))))

theorem copyIn_sound {n : Nat} {p : Packet} {x : XStep} {s : State} (h : Sound s) : Sound (copyIn n p x s) := by
  unfold copyIn
  dsimp only
  split
  · next e =>
      exact .of_eq e (msgArrive_sound h)
  · next e =>
      exact .ite (putMsg_sound (.of_eq e (msgArrive_sound h))) (rowsIn_sound (count_sound (putStep_sound (.of_eq e
        (msgArrive_sound h)))))

theorem dispatchIn_sound {n : Nat} {p : Packet} {s : State} (h : Sound s) : Sound (dispatchIn n p s) := by
  unfold dispatchIn
  extract_lets t
  have h1 : Sound (xRead t s).2 := xRead_sound h
  simp only
  generalize xRead t s = x at h1 ⊢
  generalize hl : (if isEndpoint x.2 n || p.ssvc || !xActive x.2 t then [] else
    ((bitsSet 8 (xServe p)).map p.expert).filter (· < xNexp x.2 t)) = l
  have h2 : Sound (ownersRead t l x.2).2 := ownersRead_sound h1
  generalize ownersRead t l x.2 = y at h2 ⊢
  have hd : ∀ {k}, Sound (count k 1 (some n) (some p.tc) (some t) y.2) := count_sound h2
  refine .ite hd (.ite hd (.ite (raise_sound hd) (.ite (raise_sound hd) (.ite hd (.ite (raise_sound hd) (.ite hd
    (.ite (refuseStep_sound h2) ?_)))))))
  have h3 : ∀ xs, Sound (if (findStep y.2 t (xStepNo y.2 t p)).isSome then y.2 else
      granuleClean (.step t (xStepNo y.2 t p)) (count 0x080 1 (some n) (some p.tc)
        (some t) { y.2 with xsteps := xs })) :=
    fun xs => .ite h2 (granuleClean_sound (count_sound (.of_fields h2.fields)))
  exact .ite (raise_sound (count_sound (h3 _))) (withStep_sound (fun _ _ ht =>
    .ite (sealIn_sound ht) (.ite (tokenIn_sound ht) (copyIn_sound ht))) (h3 _))

theorem gateWeights_sound {t : Nat} {cseq : W32} {token : Nat} {s : State} (h : Sound s) :
    Sound (gateWeights t cseq token s) := by
  unfold gateWeights
  dsimp only
  exact .ite h (withComb_sound (fun _ _ h1 => .ite h1 (.ite (closeComb_sound h1) (.ite (closeComb_sound
    (foldl_sound_snd (fun _ _ h2 => storeRead_sound h2) (storeRead_sound h1))) (serveLocal_sound (sendCopies_sound
    (putComb_sound (by
      split
      · exact putStep_sound (count_sound (count_sound (foldl_sound_snd (fun _ _ h2 => storeRead_sound h2)
          (storeRead_sound h1))))
      · exact count_sound (count_sound (foldl_sound_snd (fun _ _ h2 => storeRead_sound h2)
          (storeRead_sound h1)))))))))) h)

theorem switchSealsSend_sound {t : Nat} {cseq : W32} {s : State} (h : Sound s) : Sound (switchSealsSend t cseq s) := by
  unfold switchSealsSend
  dsimp only
  exact .ite h (withStep_sound (fun _ _ h1 => .ite h1 (by
      split
      · next e =>
          exact abandonStep_sound (.of_eq e (ownersRead_sound h1))
      · next e =>
          exact finishStep_sound (putStep_sound (foldl_sound (fun _ _ h2 => originate_sound (newMsgId_sound h2))
            (.of_eq e (ownersRead_sound h1)))))) h)

theorem closeExpert_sound {x : XStep} {e : Nat} {s : State} (h : Sound s) : Sound (closeExpert x e s) := by
  unfold closeExpert
  extract_lets t b s1 s2
  have h1 : Sound s1 := .ite h (storeWrite_sound h)
  clear_value s1
  have h2 : Sound s2 := .ite (foldl_sound (fun _ _ hu => count_sound hu) h1) h1
  clear_value s2
  exact originate_sound (newMsgId_sound h2)

theorem dispatchClose_sound {t : Nat} {cseq : W32} {s : State} (h : Sound s) : Sound (dispatchClose t cseq s) := by
  unfold dispatchClose
  dsimp only
  exact .ite h (withStep_sound (fun _ _ h1 => .ite h1 (by
      split
      · next e =>
          exact abandonStep_sound (.of_eq e (ownersRead_sound h1))
      · next e =>
          exact finishStep_sound (putStep_sound (.ite (foldl_sound (fun _ _ h2 => by
          split
          · exact foldl_sound (fun _ _ h3 => pushRow_sound h3) h2
          · exact h2) (foldl_sound (fun _ _ h2 => closeExpert_sound h2) (.of_eq e (ownersRead_sound h1))))
              (foldl_sound (fun _ _ h2 => closeExpert_sound h2) (.of_eq e (ownersRead_sound h1))))))) h)

theorem combineRun_sound {t : Nat} {cseq : W32} {token : Nat} {s : State} (h : Sound s) :
    Sound (combineRun t cseq token s) := by
  unfold combineRun
  exact .ite h (withComb_sound (fun _ _ h1 => .ite h1 (count_sound (enqueue_sound (putComb_sound h1)))) h)

theorem readOutputs_sound {e : Nat} {c : Comb} {s : State} (h : Sound s) : Sound (readOutputs e c s).2.2 := by
  unfold readOutputs
  dsimp only
  exact foldl_sound_snd_snd (fun _ _ h1 => storeRead_sound h1) h

theorem excLast_sound {e code : Nat} {slot pid pc : Nat} {s : State} (h : Sound s) :
    Sound (excLast e code slot pid pc s) := by
  unfold excLast
  exact setRegN_sound h

theorem endRun_sound {e slot : Nat} {s : State} (h : Sound s) : Sound (endRun e slot s) := by
  unfold endRun
  exact count_sound (modEngine_sound h)

theorem progExc_sound {e code : Nat} {r : Run} {s : State} (h : Sound s) : Sound (progExc e code r s) := by
  unfold progExc
  dsimp only
  split
  · exact runStatus_sound (raise_sound (count_sound (excLast_sound (endRun_sound h))))
  · split
    · exact collFail_sound (raise_sound (count_sound (excLast_sound (endRun_sound h))))
    · exact raise_sound (count_sound (excLast_sound (endRun_sound h)))
  · exact raise_sound (count_sound (excLast_sound (endRun_sound h)))

theorem pushSending_sound {fuel : Nat} {r : Sending} {s : State} (h : Sound s) : Sound (pushSending fuel r s) := by
  fun_induction pushSending fuel r s with
  | case1 => exact h
  | case2 => exact h
  | case3 _ _ _ _ _ _ _ ih => exact ih (originateFrom_sound h)
  | case4 => exact h

theorem sendResult_sound {c : Comb} {row : List (Nat × List Fl)} {used : Nat} {s : State} (h : Sound s) :
    Sound (sendResult c row used s) := by
  unfold sendResult
  extract_lets t ovr fl off first s1 fmt per n
  have h1 : Sound s1 := h
  clear_value s1
  exact pushSending_sound (newMsgId_sound h1)

theorem combineDone_sound {t : Nat} {cseq : W32} {token : Nat} {s : State} (h : Sound s) :
    Sound (combineDone t cseq token s) := by
  unfold combineDone
  dsimp only
  exact .ite h (withComb_sound (fun _ _ h1 => by
  split
  · exact h1
  · exact .ite (closeComb_sound (progExc_sound (readOutputs_sound h1))) (closeComb_sound (sendResult_sound
      (endRun_sound (engFlags_sound (readOutputs_sound h1)))))) h)

theorem stepTimeout_sound {t : Nat} {cseq : W32} {s : State} (h : Sound s) : Sound (stepTimeout t cseq s) := by
  unfold stepTimeout
  split
  · exact h
  · exact .ite h (abandonStep_sound (raise_sound (count_sound h)))

theorem combineTimeout_sound {t : Nat} {cseq : W32} {token : Nat} {s : State} (h : Sound s) :
    Sound (combineTimeout t cseq token s) := by
  unfold combineTimeout
  split
  · exact h
  · exact .ite h (closeComb_sound (raise_sound (count_sound h)))

theorem runBegin_sound {e : Nat} {s : State} (h : Sound s) : Sound (runBegin e s) := by
  unfold runBegin
  dsimp only
  exact .ite h (by
      split
      · exact .ite (.ite (progExc_sound (.ite (setField_sound (modEngine_sound h)) (modEngine_sound h))) (.ite
          (setField_sound (modEngine_sound h)) (modEngine_sound h))) (.ite (.ite (setField_sound
          (modEngine_sound h)) (modEngine_sound h)) (progExc_sound (.ite (setField_sound (modEngine_sound h))
          (modEngine_sound h))))
      · exact h)

theorem noteIssue_sound {e : Nat} {w : W64} {r : Run} {s : State} (h : Sound s) : Sound (noteIssue e w r s) := by
  unfold noteIssue
  exact .ite h h

theorem instr_sound {e slot opc : Nat} {body : W64 → Run → State → State}
    {s : State} (hbody : ∀ x0 x1 t, Sound t → Sound (body x0 x1 t)) (h : Sound s) : Sound
    (instr e slot opc body s) := by
  unfold instr
  dsimp only
  exact .ite h (by
      split
      · exact h
      · exact .ite h (.ite (progExc_sound h) (.ite (progExc_sound (pmemRead_sound h)) (.ite (progExc_sound
          (pmemRead_sound h)) (.ite (pmemRead_sound h) (.ite (progExc_sound (pmemRead_sound h)) (noteIssue_sound
          (hbody _ _ _ (pmemRead_sound h)))))))))

theorem putRun_sound {e : Nat} {r : Run} {s : State} (h : Sound s) : Sound (putRun e r s) := by
  unfold putRun
  exact modEngine_sound h

theorem haltRun_sound {e : Nat} {r : Run} {s : State} (h : Sound s) : Sound (haltRun e r s) := by
  unfold haltRun
  dsimp only
  split
  · exact modEngine_sound (endRun_sound (setReg_sound (runStatus_sound (foldl_sound
      (fun _ _ h1 => setReg_sound h1) h))))
  · exact endRun_sound h

theorem haltBody_sound {e : Nat} {w0 : W64} {r : Run} {s : State} (h : Sound s) : Sound (haltBody e w0 r s) := by
  unfold haltBody
  dsimp only
  exact .ite (progExc_sound h) (.ite h (haltRun_sound h))

theorem branch_sound {e : Nat} {w : W64} {r old : Run} {s : State} (h : Sound s) : Sound (branch e w r old s) := by
  unfold branch
  dsimp only
  exact .ite (progExc_sound h) (putRun_sound h)

theorem brBody_sound {e : Nat} {w : W64} {r : Run} {s : State} (h : Sound s) : Sound (brBody e w r s) := by
  unfold brBody
  exact .ite (branch_sound h) (putRun_sound h)

theorem loopBody_sound {e : Nat} {w : W64} {r : Run} {s : State} (h : Sound s) : Sound (loopBody e w r s) := by
  unfold loopBody
  dsimp only
  exact .ite (branch_sound h) (putRun_sound h)

theorem waitmBody_sound {e : Nat} {w : W64} {r : Run} {s : State} (h : Sound s) : Sound (waitmBody e w r s) :=
  countReg_sound (putRun_sound (count_sound (msRead_sound h)))

theorem waitmResume_sound {e slot : Nat} {s : State} (h : Sound s) : Sound (waitmResume e slot s) := by
  unfold waitmResume
  dsimp only
  split
  · exact h
  · exact .ite (putRun_sound h) h

theorem sprBody_sound {e : Nat} {w : W64} {r : Run} {s : State} (h : Sound s) : Sound (sprBody e w r s) := by
  unfold sprBody
  dsimp only
  exact .ite (.ite (progExc_sound h) (putRun_sound h)) (.ite (.ite (progExc_sound h) (putRun_sound h)) (.ite
    (putRun_sound h) (.ite (putRun_sound h) (progExc_sound h))))

theorem moviBody_sound {e : Nat} {w : W64} {r : Run} {s : State} (h : Sound s) : Sound (moviBody e w r s) := by
  unfold moviBody
  dsimp only
  exact putRun_sound h

theorem tileScan_sound {e : Nat} {gs : List Nat} {l : TLine} {s : State} (h : Sound s) :
    Sound (tileScan e gs l s).2 := by
  refine foldl_sound_snd (fun _ _ h1 => ?_) h
  split
  · exact h1
  · exact countCorrected_sound h1
  · exact countCorrected_sound h1
  · exact raise_sound h1

theorem tileReadRow_sound {e : Nat} {fresh : Bool} {a n : Nat} {s : State} (h : Sound s) :
    Sound (tileReadRow e fresh a n s).2 := by
  unfold tileReadRow
  dsimp only
  split
  · exact .pair (count_sound (modEngine_sound (tileScan_sound (raiseIf_sound h))))
      (count_sound (modEngine_sound (tileScan_sound (raiseIf_sound h))))
  · exact modEngine_sound (storeRead_sound (.ite h (count_sound h)))

theorem tileRead_sound {fuel e : Nat} {fresh : Bool} {a n : Nat} {s : State} (h : Sound s) :
    Sound (tileRead fuel e fresh a n s).2 := by
  induction fuel generalizing a n s with
  | zero => exact h
  | succ f ih =>
    have h1 : Sound (tileReadRow e fresh a (min n (512 - a % 512)) s).2 := tileReadRow_sound h
    unfold tileRead
    dsimp only
    refine .pair h ?_
    split
    · next t he => exact .of_eq he h1
    · next bs t he =>
      have h2 := ih (a := a + min n (512 - a % 512)) (n := n - min n (512 - a % 512)) (Sound.of_eq he h1)
      split
      · next u hu => exact .of_eq hu h2
      · next r u hu => exact .of_eq hu h2

theorem localScan_sound {e : Nat} {gs : List Nat} {s : State} (h : Sound s) : Sound (localScan e gs s).2 := by
  unfold localScan
  dsimp only
  exact foldl_sound (fun _ _ h1 => by
  split
  · exact modEngine_sound h1
  · exact h1) (memScan_sound h)

theorem localRead_sound {e off n : Nat} {s : State} (h : Sound s) : Sound (localRead e off n s).2 := by
  unfold localRead
  dsimp only
  exact .pair (localScan_sound h) (localScan_sound h)

theorem engRead_sound {e : Nat} {fresh : Bool} {sp : Space} {n : Nat} {s : State} (h : Sound s) :
    Sound (engRead e fresh sp n s).2 := by
  unfold engRead
  split
  · exact tileRead_sound h
  · exact localRead_sound h
  · exact h

theorem issueM_sound {e : Nat} {s : State} (h : Sound s) : Sound (issueM e s) := by
  unfold issueM
  exact count_sound h

theorem ldsBody_sound {e : Nat} {w : W64} {r : Run} {s : State} (h : Sound s) : Sound (ldsBody e w r s) := by
  unfold ldsBody
  dsimp only
  exact .ite (progExc_sound h) (.ite h (by
      split
      · next e =>
          exact progExc_sound (.of_eq e (engRead_sound (issueM_sound h)))
      · next e =>
          exact .ite (putRun_sound (.of_eq e (engRead_sound (issueM_sound h)))) (putRun_sound (engFlags_sound
            (.of_eq e (engRead_sound (issueM_sound h)))))))

theorem ldvBody_sound {fresh : Bool} {e : Nat} {w : W64} {r : Run} {s : State} (h : Sound s) :
    Sound (ldvBody fresh e w r s) := by
  unfold ldvBody
  dsimp only
  exact .ite (progExc_sound h) (.ite h (by
      split
      · next e =>
          exact progExc_sound (.of_eq e (engRead_sound (issueM_sound h)))
      · next e =>
          exact putRun_sound (engFlags_sound (.of_eq e (engRead_sound (issueM_sound h))))))

theorem tileTake_sound {e a n : Nat} {l : TLine} {s : State} (h : Sound s) : Sound (tileTake e a n l s).2 := by
  unfold tileTake
  dsimp only
  refine .pair ?_ h
  dsimp only
  exact tileScan_sound h

theorem tileUpdate_sound {e a n : Nat} {s : State} (h : Sound s) : Sound (tileUpdate e a n s) := by
  unfold tileUpdate
  dsimp only
  exact modEngine_sound (foldl_sound_snd (fun _ _ h1 => tileTake_sound h1) h)

theorem localWrite_sound {e off : Nat} {bs : List Byte} {s : State} (h : Sound s) : Sound (localWrite e off bs s) := by
  unfold localWrite
  extract_lets full
  have h1 : Sound (localScan e ((granules off bs.length).filter (fun g => !full g)) s).2 := localScan_sound h
  generalize localScan e ((granules off bs.length).filter (fun g => !full g)) s = x at h1 ⊢
  dsimp only
  have h2 : Sound (x.2.modEngine e (fun y => { y with loc := cellWrite 0 y.loc off bs })) := modEngine_sound h1
  generalize x.2.modEngine e (fun y => { y with loc := cellWrite 0 y.loc off bs }) = u at h2 ⊢
  exact .of_fields h2.fields

theorem engWrite_sound {e : Nat} {sp : Space} {bs : List Byte} {s : State} (h : Sound s) :
    Sound (engWrite e sp bs s) := by
  unfold engWrite
  split
  · exact tileUpdate_sound (storeWrite_sound h)
  · exact localWrite_sound h
  · exact h

theorem stvBody_sound {e : Nat} {w : W64} {r : Run} {s : State} (h : Sound s) : Sound (stvBody e w r s) := by
  unfold stvBody
  dsimp only
  exact .ite (progExc_sound h) (.ite h (putRun_sound (engWrite_sound (engFlags_sound (issueM_sound h)))))

theorem dmaBody_sound {e : Nat} {w : W64} {r : Run} {s : State} (h : Sound s) : Sound (dmaBody e w r s) := by
  unfold dmaBody
  dsimp only
  exact .ite (progExc_sound h) (.ite h (by
      split
      · next e =>
          exact progExc_sound (.of_eq e (engRead_sound (issueM_sound h)))
      · next e =>
          exact putRun_sound (engWrite_sound (.of_eq e (engRead_sound (issueM_sound h))))))

theorem dmaComplete_sound {e slot : Nat} {s : State} (h : Sound s) : Sound (dmaComplete e slot s) := by
  unfold dmaComplete
  split
  · exact h
  · exact .ite (putRun_sound h) h

theorem dwaitBody_sound {e : Nat} {w : W64} {r : Run} {s : State} (h : Sound s) : Sound (dwaitBody e w r s) := by
  unfold dwaitBody
  exact .ite h (putRun_sound h)

theorem recvBody_sound {e : Nat} {w : W64} {r : Run} {s : State} (h : Sound s) : Sound (recvBody e w r s) := by
  unfold recvBody
  dsimp only
  split
  · exact progExc_sound h
  · exact h
  · exact putRun_sound h

theorem sendRec_sound {e o : Nat} {tag : W64} {a : Acc} {r : Run} {s : State} (h : Sound s) :
    Sound (sendRec e o tag a r s).2 := by
  unfold sendRec
  dsimp only
  split
  · exact .pair h (by
        split
        · exact h
        · exact putColl_sound h)
  · exact h

theorem finishSend_sound {e o : Nat} {tag : W64} {a : Acc} {r old : Run}
    {s0 s : State} (hs0 : Sound s0) (hs : Sound s) : Sound (finishSend e o tag a r old s0 s) := by
  unfold finishSend
  split
  · exact progExc_sound hs0
  · next e =>
      exact putRun_sound (.of_eq e (sendRec_sound hs))

theorem sendBody_sound {e : Nat} {w : W64} {r : Run} {s : State} (h : Sound s) : Sound (sendBody e w r s) := by
  unfold sendBody
  exact finishSend_sound h h

theorem laneMap_sound {e : Nat} {r : Run} {ops : List Acc} {f : Nat → W32 × Fl} {s : State} (h : Sound s) :
    Sound (laneMap e r ops f s).2 := by
  unfold laneMap
  dsimp only
  exact engFlags_sound h

theorem issueV_sound {e : Nat} {s : State} (h : Sound s) : Sound (issueV e s) := by
  unfold issueV
  exact count_sound h

theorem raddBody_sound {e : Nat} {w : W64} {r : Run} {s : State} (h : Sound s) : Sound (raddBody e w r s) := by
  unfold raddBody
  dsimp only
  split
  · exact progExc_sound h
  · exact h
  · exact .ite (progExc_sound h) (.ite (finishSend_sound h (engFlags_sound (issueV_sound h))) (putRun_sound
      (engFlags_sound (issueV_sound h))))

theorem gfmaBody_sound {e : Nat} {w : W64} {r : Run} {s : State} (h : Sound s) : Sound (gfmaBody e w r s) := by
  unfold gfmaBody
  dsimp only
  exact .ite (progExc_sound h) (.ite (finishSend_sound h (.pair (laneMap_sound (issueV_sound h)) (laneMap_sound
    (issueV_sound h)))) (putRun_sound (.pair (laneMap_sound (issueV_sound h)) (laneMap_sound (issueV_sound h)))))

theorem vecOp_sound {e : Nat} {w : W64} {r : Run} {srcs : List Nat} {ok : Bool} {f : Nat → W32 × Fl}
    {s : State} (h : Sound s) : Sound (vecOp e w r srcs ok f s) := by
  unfold vecOp
  dsimp only
  exact .ite (progExc_sound h) (putRun_sound (laneMap_sound (issueV_sound h)))

theorem vaddBody_sound {e : Nat} {w : W64} {r : Run} {s : State} (h : Sound s) : Sound (vaddBody e w r s) := by
  unfold vaddBody
  dsimp only
  exact vecOp_sound h

theorem vmulBody_sound {e : Nat} {w : W64} {r : Run} {s : State} (h : Sound s) : Sound (vmulBody e w r s) := by
  unfold vmulBody
  dsimp only
  exact .ite (vecOp_sound h) (vecOp_sound h)

theorem vfmaBody_sound {e : Nat} {w : W64} {r : Run} {s : State} (h : Sound s) : Sound (vfmaBody e w r s) := by
  unfold vfmaBody
  dsimp only
  exact .ite (vecOp_sound h) (vecOp_sound h)

theorem vscaleVector_sound {e : Nat} {w : W64} {r : Run} {s : State} (h : Sound s) : Sound (vscaleVector e w r s) := by
  unfold vscaleVector
  dsimp only
  exact .ite (progExc_sound h) (.ite h (by
      split
      · next e =>
          exact progExc_sound ((.of_eq e (engRead_sound (issueV_sound (issueM_sound h)))))
      · next e =>
          exact putRun_sound (engFlags_sound (engFlags_sound ((.of_eq e (engRead_sound (issueV_sound
            (issueM_sound h)))))))))

theorem vscaleBody_sound {e : Nat} {w : W64} {r : Run} {s : State} (h : Sound s) : Sound (vscaleBody e w r s) := by
  unfold vscaleBody
  dsimp only
  exact .ite (progExc_sound h) (.ite (vscaleVector_sound h) (vecOp_sound h))

theorem vmaxBody_sound {e : Nat} {w : W64} {r : Run} {s : State} (h : Sound s) : Sound (vmaxBody e w r s) := by
  unfold vmaxBody
  dsimp only
  exact vecOp_sound h

theorem vmovBody_sound {e : Nat} {w : W64} {r : Run} {s : State} (h : Sound s) : Sound (vmovBody e w r s) := by
  unfold vmovBody
  dsimp only
  exact .ite (putRun_sound (issueV_sound h)) (.ite (progExc_sound h) (putRun_sound (issueV_sound h)))

theorem bmskBody_sound {e : Nat} {w : W64} {r : Run} {s : State} (h : Sound s) : Sound (bmskBody e w r s) := by
  unfold bmskBody
  dsimp only
  exact .ite (putRun_sound (issueV_sound h)) (putRun_sound (issueV_sound h))

theorem saddBody_sound {e : Nat} {w : W64} {r : Run} {s : State} (h : Sound s) : Sound (saddBody e w r s) := by
  unfold saddBody
  dsimp only
  exact .ite (progExc_sound h) (putRun_sound (engFlags_sound (issueV_sound h)))

theorem fenceAcqBody_sound {e : Nat} {w0 : W64} {r : Run} {s : State} (h : Sound s) :
    Sound (fenceAcqBody e w0 r s) := by
  unfold fenceAcqBody
  exact .ite h (putRun_sound (modEngine_sound (count_sound h)))

theorem fenceRelBody_sound {e : Nat} {w0 : W64} {r : Run} {s : State} (h : Sound s) :
    Sound (fenceRelBody e w0 r s) := by
  unfold fenceRelBody
  exact .ite h (putRun_sound h)

theorem msuAdd_sound {m : Nat} {d : W64} {s : State} (h : Sound s) : Sound (msuAdd m d s) := by
  unfold msuAdd
  dsimp only
  exact .ite (msRead_sound h) (msuOp_sound (fun _ h1 => h1) (msRead_sound h))

theorem maddBody_sound {e : Nat} {w : W64} {r : Run} {s : State} (h : Sound s) : Sound (maddBody e w r s) := by
  unfold maddBody
  dsimp only
  exact .ite h (msuAdd_sound (count_sound (putRun_sound h)))

theorem vcrcBody_sound {e : Nat} {w : W64} {r : Run} {s : State} (h : Sound s) : Sound (vcrcBody e w r s) := by
  unfold vcrcBody
  dsimp only
  exact putRun_sound h

theorem runDone_sound {e : Nat} {s : State} (h : Sound s) : Sound (runDone e s) := by
  unfold runDone
  dsimp only
  exact .ite h (.ite (msuAdd_sound (setField_sound (modEngine_sound h))) (setField_sound (modEngine_sound h)))

theorem runWatchdog_sound {e slot : Nat} {s : State} (h : Sound s) : Sound (runWatchdog e slot s) := by
  unfold runWatchdog
  split
  · exact h
  · exact .ite (progExc_sound h) h

theorem onBus_sound {a : Nat} {v : W64} {f : State → State}
    {s : State} (hf : ∀ t, Sound t → Sound (f t)) (h : Sound s) : Sound (onBus a v f s) := by
  unfold onBus
  exact .ite h (.ite h (hf _ h))

theorem unitDrained_sound {u : DisUnit} {s : State} (h : Sound s) : Sound (unitDrained u s) := by
  unfold unitDrained
  exact .ite h (by
      split
      · exact .ite (modEngine_sound h) h
      · exact .ite (setSlice_sound h) h)

theorem shadowCopyEnd_sound {s : State} (h : Sound s) : Sound (shadowCopyEnd s) := by
  unfold shadowCopyEnd
  exact .ite (setField_sound h) h

theorem restartEnd_sound {s : State} (h : Sound s) : Sound (restartEnd s) := by
  unfold restartEnd
  dsimp only
  exact .ite h (.ite (stopWave_sound (pushEvent_sound (by
      have hb : Sound (restartResult 1 0 ((s.setField 88 48 48 0).setField 148 1 0 0)) := restartResult_sound
        (setField_sound (setField_sound h))
      generalize restartResult 1 0 ((s.setField 88 48 48 0).setField 148 1 0 0) = u at hb ⊢
      exact .of_fields hb.fields))) (pushEvent_sound (by
      have hb : Sound (restartResult 1 0 ((s.setField 88 48 48 0).setField 148 1 0 0)) := restartResult_sound
        (setField_sound (setField_sound h))
      generalize restartResult 1 0 ((s.setField 88 48 48 0).setField 148 1 0 0) = u at hb ⊢
      exact .of_fields hb.fields)))

theorem thermalReading_sound {temps : List (BitVec 16)} {s : State} (h : Sound s) : Sound (thermalReading temps s) := by
  unfold thermalReading
  dsimp only
  exact .ite h (raiseIf_sound (raiseIf_sound (setField_sound (setField_sound (foldl_sound
    (fun _ _ h1 => setRegN_sound h1) h)))))

theorem powerWindowEnd_sound {watts : Nat} {s : State} (h : Sound s) : Sound (powerWindowEnd watts s) := by
  unfold powerWindowEnd
  dsimp only
  exact .ite h (.ite (.ite (setField_sound (setField_sound h)) (raise_sound (setField_sound h))) (.ite
    (setField_sound (setField_sound h)) (setField_sound h)))

theorem struckBy_sound {es : List (GMem × Flaw)} {s : State} (h : Sound s) : Sound (struckBy es s) := by
  unfold struckBy
  dsimp only
  exact foldl_sound (fun _ _ h1 => by
  split
  · exact h1
  · exact modEngine_sound h1
  · exact h1) h

theorem scrubRows_sound {first cnt : Nat} {s : State} (h : Sound s) : Sound (scrubRows first cnt s) := by
  unfold scrubRows
  exact .ite h (foldl_sound (fun _ _ h1 => rowRead_sound h1) h)

theorem scrubStep_sound {first cnt : Nat} {found : List (Nat × Flaw)} {struck : List (GMem × Flaw)}
    {s : State} (h : Sound s) : Sound (scrubStep first cnt found struck s) := by
  unfold scrubStep
  dsimp only
  exact .ite (struckBy_sound h) (.ite (setRegN_sound (scrubRows_sound (foldl_sound (fun _ _ h1 => flawRead_sound h1)
    (count_sound (.keep (struckBy_sound h) rfl rfl rfl rfl))))) (setField_sound (scrubRows_sound (foldl_sound
    (fun _ _ h1 => flawRead_sound h1) (count_sound (.keep (struckBy_sound h) rfl rfl rfl rfl))))))

theorem refresh_sound {c : Nat} {s : State} (h : Sound s) : Sound (refresh c s) := by
  unfold refresh
  exact .ite (count_sound h) h

theorem hostCodewords_sound {n : Nat} {f : HostFec} {s : State} (h : Sound s) : Sound (hostCodewords n f s) := by
  unfold hostCodewords
  exact .ite h (countReg_sound (countReg_sound h))

theorem ctrAccept_sound {m : YmpFrame} {s : State} (h : Sound s) : Sound (ctrAccept m s) := by
  unfold ctrAccept
  dsimp only
  exact setSession_sound h

theorem acceptedFrom_sound {h : Nat} {m : YmpFrame} {s : State} (hs : Sound s) : Sound (acceptedFrom h m s) := by
  unfold acceptedFrom
  dsimp only
  exact .ite hs (sendEvents_sound (setHost_sound hs))

theorem ympIn_sound {h typ : Nat} {m : YmpFrame} {body : Option (List Byte) → State → State}
    {s : State} (hbody : ∀ x0 t, Sound t → Sound (body x0 t)) (hs : Sound s) : Sound (ympIn h typ m body s) := by
  unfold ympIn
  dsimp only
  exact .ite (hostCodewords_sound hs) (.ite (countReg_sound (hostCodewords_sound hs)) (.ite (hostCodewords_sound hs)
    (.ite (ympRefuse_sound (hostCodewords_sound hs)) (.ite (ympRefuse_sound (countReg_sound
    (hostCodewords_sound hs))) (.ite (countReg_sound (hostCodewords_sound hs)) (hbody _ _ (acceptedFrom_sound (.ite
    (ctrAccept_sound (hostCodewords_sound hs)) (hostCodewords_sound hs)))))))))

theorem ympReadBody_sound {h : Nat} {m : YmpFrame} {key : Option (List Byte)} {s : State} (hs : Sound s) :
    Sound (ympReadBody h m key s) := by
  unfold ympReadBody
  exact .ite (ympRefuse_sound hs) (ympReadGo_sound hs)

theorem ympWriteBody_sound {h : Nat} {m : YmpFrame} {key : Option (List Byte)} {s : State} (hs : Sound s) :
    Sound (ympWriteBody h m key s) := by
  unfold ympWriteBody
  exact .ite (ympRefuse_sound hs) (ympWriteGo_sound hs)

theorem mgcWrite_sound {a w : Nat} {v : W64} {s : State} (h : Sound s) : Sound (mgcWrite a w v s) := by
  unfold mgcWrite
  exact .ite h (busWrite_sound h)

theorem eventAckBody_sound {m : YmpFrame} {s : State} (h : Sound s) : Sound (eventAckBody m s) := by
  refine .ite h ?_
  exact h

theorem eventRetry_sound {s : State} (h : Sound s) : Sound (eventRetry s) := by
  unfold eventRetry
  dsimp only
  exact .ite h (sendEvents_sound h)

theorem bulkIdle_sound {sess : Nat} {xid : W32} {s : State} (h : Sound s) : Sound (bulkIdle sess xid s) := by
  unfold bulkIdle
  split
  · exact .ite h (bulkAnswer_sound h)
  · exact h

theorem bulkTimeout_sound {sess : Nat} {xid : W32} {s : State} (h : Sound s) : Sound (bulkTimeout sess xid s) := by
  unfold bulkTimeout
  split
  · exact .ite h (bulkAnswer_sound (dropBulk_sound h))
  · exact h

theorem neighborSolicitation_sound {n : Nat} {eth : EthHeader} {srcIp target : BitVec 128}
    {s : State} (h : Sound s) : Sound (neighborSolicitation n eth srcIp target s) := by
  unfold neighborSolicitation
  dsimp only
  exact .ite (hostSend_sound (hostCodewords_sound h)) (hostCodewords_sound h)

theorem echoRequest_sound {n : Nat} {eth : EthHeader} {srcIp dstIp : BitVec 128} {data : List Byte}
    {s : State} (h : Sound s) : Sound (echoRequest n eth srcIp dstIp data s) := by
  unfold echoRequest
  dsimp only
  exact .ite (hostSend_sound (hostCodewords_sound h)) (hostCodewords_sound h)

theorem ptpMessage_sound {n : Nat} {m : PtpMsg} {s : State} (h : Sound s) : Sound (ptpMessage n m s) := by
  cases m with
  | sync eth t1 t2 =>
    have h1 : Sound (hostCodewords n eth.fec s) := hostCodewords_sound h
    refine .ite ?_ h1
    obtain ⟨hm, hf, hc, hp⟩ := h1
    exact ⟨hm, hf, hc, hp⟩
  | delayReq t3 => exact .ite h h
  | delayResp eth _ =>
    have h1 : Sound (hostCodewords n eth.fec s) := hostCodewords_sound h
    refine .ite ?_ h1
    obtain ⟨hm, hf, hc, hp⟩ := h1
    exact ⟨hm, hf, hc, hp⟩

theorem auiTryTimeout_sound {n : Nat} {s : State} (h : Sound s) : Sound (auiTryTimeout n s) := by
  unfold auiTryTimeout
  dsimp only
  exact .ite h (setHost_sound h)

theorem pumpResps_sound {s : State} (h : Sound s) : Sound (pumpResps s) := by
  unfold pumpResps
  dsimp only
  exact foldl_sound (fun _ _ h1 => pushSending_sound h1) (foldl_sound (fun _ _ h1 => pushResp_sound h1) h)

theorem retrainFrame_sound {n : Nat} {s : State} (h : Sound s) : Sound (retrainFrame n s) := by
  unfold retrainFrame
  dsimp only
  split
  · exact .ite h (sendLinkLocal_sound h)
  · exact countPkt_sound (count_sound (setPort_sound (.ite h (sendLinkLocal_sound h))))

theorem idleFrame_sound {n used : Nat} {s : State} (h : Sound s) : Sound (idleFrame n used s) := by
  unfold idleFrame
  exact .ite (count_sound h) h

theorem overrun_sound {n : Nat} {e : QPkt} {s : State} (h : Sound s) : Sound (overrun n e s) := by
  unfold overrun
  dsimp only
  exact .ite h (raise_sound (countPkt_sound (countReg_sound (modPort_sound h))))

theorem sentAgain_sound {n k : Nat} {l : List QPkt} {s : State} (h : Sound s) : Sound (sentAgain n k l s) := by
  unfold sentAgain
  exact foldl_sound (fun _ _ h1 => .ite (overrun_sound h1) h1) h

theorem resendFrame_sound {n : Nat} {s : State} (h : Sound s) : Sound (resendFrame n s) := by
  unfold resendFrame
  dsimp only
  split
  · exact h
  · exact sentAgain_sound (idleFrame_sound (setPort_sound h))

theorem sentPacket_sound {n : Nat} {e : QPkt} {s : State} (h : Sound s) : Sound (sentPacket n e s) := by
  unfold sentPacket
  dsimp only
  exact .ite (overrun_sound (.ite (countPkt_sound (countPkt_sound h)) (countPkt_sound h))) (.ite (countPkt_sound
    (countPkt_sound h)) (countPkt_sound h))

theorem startPacket_sound {n lap t : Nat} {s : State} (h : Sound s) : Sound (startPacket n lap t s).2 := by
  unfold startPacket
  dsimp only
  split
  · exact setPort_sound h
  · exact .pair h (by
        split
        · exact h
        · exact setPort_sound h)

theorem leaveRead_sound {n : Nat} {green : Bool} {p : Packet} {s : State} (h : Sound s) :
    Sound (leaveRead n green p s).2 := by
  unfold leaveRead
  split
  · next e =>
      exact .of_eq e (.pair (stageRead_sound h) h)
  · next e =>
      exact stageRead_sound (.of_eq e (.pair (stageRead_sound h) h))

theorem fillFrame_sound {fuel n t : Nat} {slots : List (BitVec 512)} {cargo : List QPkt} {s : State} (h : Sound s) :
    Sound (fillFrame fuel n t slots cargo s).2.2 := by
  induction fuel generalizing slots cargo s with
  | zero => exact h
  | succ f ih =>
    unfold fillFrame
    dsimp only
    refine .triple h ?_
    split
    · exact .triple (ih (modPort_sound (sentPacket_sound (count_sound h)))) (setPort_sound (count_sound h))
    · have h1 : ∀ a b, Sound (startPacket n a b s).2 := fun a b => startPacket_sound h
      split
      · next u e => exact .of_eq e (h1 _ _)
      · next q u e =>
        have h2 : Sound (leaveRead n q.green.isSome q.pkt u).2 := leaveRead_sound (.of_eq e (h1 _ _))
        split
        · next v e => exact ih (.of_eq e h2)
        · next p v e => exact ih (modPort_sound (.of_eq e h2))

theorem creditReturn_sound {n : Nat} {s : State} (h : Sound s) : Sound (creditReturn n s).2.2 := by
  unfold creditReturn
  refine .triple h ?_
  extract_lets q t held owing
  have ht : Sound t := setPort_sound h
  split
  · exact ht
  · exact setPort_sound ht

theorem newFrame_sound {n t : Nat} {s : State} (h : Sound s) : Sound (newFrame n t s) := by
  unfold newFrame
  dsimp only
  refine sentAgain_sound (setPort_sound ?_)
  exact idleFrame_sound (creditReturn_sound (fillFrame_sound h))

theorem linkFrameTransmit_sound {n t : Nat} {s : State} (h : Sound s) : Sound (linkFrameTransmit n t s) := by
  unfold linkFrameTransmit
  dsimp only
  exact .ite h (.ite (retrainFrame_sound h) (.ite (setPort_sound h) (.ite h (.ite (resendFrame_sound h) (.ite h
    (exchangeCheck_sound (newFrame_sound h)))))))

theorem laneUnlock_sound {n lane : Nat} {s : State} (h : Sound s) : Sound (laneUnlock n lane s) := by
  unfold laneUnlock
  dsimp only
  exact .ite h (equaliseCheck_sound (setPort_sound h))

theorem rxReady_sound {n lane : Nat} {r : Bool} {s : State} (h : Sound s) : Sound (rxReady n lane r s) := by
  unfold rxReady
  dsimp only
  exact .ite h (equaliseCheck_sound (setPort_sound h))

theorem railsAbove_sound {s : State} (h : Sound s) : Sound (railsAbove s) := by
  unfold railsAbove
  dsimp only
  exact .ite h (bootStart_sound h)

theorem testEnRelease_sound {s : State} (h : Sound s) : Sound (testEnRelease s) := by
  unfold testEnRelease
  dsimp only
  exact .ite h (bootStart_sound h)

theorem serdesLock_sound {s : State} (h : Sound s) : Sound (serdesLock s) := by
  unfold serdesLock
  exact .ite (setField_sound h) h

theorem hostPcsLock_sound {n : Nat} {s : State} (h : Sound s) : Sound (hostPcsLock n s) := by
  unfold hostPcsLock
  dsimp only
  exact .ite h (sendEvents_sound (setHost_sound h))

theorem hostLinkLoss_sound {n : Nat} {s : State} (h : Sound s) : Sound (hostLinkLoss n s) := by
  unfold hostLinkLoss
  dsimp only
  exact .ite h (sendEvents_sound (setHost_sound h))

theorem groupList_sound {b c : Nat} {s : State} (h : Sound s) : Sound (groupList b c s).2.2 := by
  unfold groupList
  dsimp only
  exact count_sound (raiseIf_sound (count_sound (foldl_sound (fun _ _ h1 => rowRead_sound h1) h)))

theorem groupCommitEnd_sound {s : State} (h : Sound s) : Sound (groupCommitEnd s) := by
  unfold groupCommitEnd
  split
  · exact h
  · next p _ =>
    refine .ite h ?_
    extract_lets w
    have h0 : Sound { s with grpCommit := none } := h
    have h1 : Sound (groupList (w 1) (w 2) { s with grpCommit := none }).2.2 := groupList_sound h0
    generalize groupList (w 1) (w 2) { s with grpCommit := none } = x at h1 ⊢
    obtain ⟨bad, cws, t⟩ := x
    exact .ite (commitDone_sound h1) (.ite (commitDone_sound h1) (commitDone_sound (groupPut_sound
      (.of_fields h1.fields))))

theorem tableList_sound {n addr : Nat} {s : State} (h : Sound s) : Sound (tableList n addr s).2.2 := by
  unfold tableList
  dsimp only
  exact storeRead_sound h

theorem tablePut_sound {t : Nat} {w : List W64} {s : State} (h : Sound s) : Sound (tablePut t w s) := by
  unfold tablePut
  dsimp only
  exact .keep (setRegN_sound (setRegN_sound (foldl_sound (fun _ _ h1 => setReg_sound h1)
    (wordsClean_sound h)))) rfl rfl rfl rfl

theorem tableCommitEnd_sound {s : State} (h : Sound s) : Sound (tableCommitEnd s) := by
  unfold tableCommitEnd
  split
  · exact h
  · next p _ =>
    refine .ite h ?_
    extract_lets f
    have h0 : Sound { s with tabCommit := none } := h
    have h1 : Sound (tableList (bits (f 0) 10 0) (f 3) { s with tabCommit := none }).2.2 := tableList_sound h0
    generalize tableList (bits (f 0) 10 0) (f 3) { s with tabCommit := none } = x at h1 ⊢
    obtain ⟨bad, cws, t⟩ := x
    exact .ite (commitDone_sound h1) (commitDone_sound (tablePut_sound (.of_fields h1.fields)))

theorem programLoadEnd_sound {e : Nat} {s : State} (h : Sound s) : Sound (programLoadEnd e s) := by
  unfold programLoadEnd
  dsimp only
  split
  · exact h
  · exact .ite h (.ite (commitDone_sound (foldl_sound_snd (fun _ _ h1 => pmemRead_sound h1) (modEngine_sound h)))
      (commitDone_sound (setRegN_sound (foldl_sound_snd (fun _ _ h1 => pmemRead_sound h1) (modEngine_sound h)))))

theorem parkRead_sound {s : State} (h : Sound s) : Sound (parkRead s) := by
  unfold parkRead
  exact foldl_sound (fun _ _ h1 => by
  split
  · next e =>
      exact putColl_sound (.of_eq₃ e (stagedRead_sound h1))
  · next e =>
      exact collFail_sound (.of_eq₃ e (stagedRead_sound h1))) h

theorem parkComplete_sound {s : State} (h : Sound s) : Sound (parkComplete s) := by
  refine .ite h ?_
  extract_lets t body t1 keys t2 t3 t4
  have ht : Sound t := parkRead_sound h
  clear_value t
  refine .ite (parkStatus_sound ht) ?_
  have h3 : Sound t3 := foldl_sound (fun _ _ hu => count_sound hu) (foldl_sound (fun _ _ hu => endCollRuns_sound hu)
    (storeWrite_sound ht))
  clear_value t3
  have h4 : Sound t4 := setRegN_sound h3
  clear_value t4
  exact parkStatus_sound (.of_fields h4.fields)

theorem reopen_sound {s : State} {c : Coll} (h : Sound s) : Sound (reopen s c) := by
  unfold reopen
  split
  · exact collFail_sound (raise_sound h)
  · exact startRuns_sound h

theorem resumeComplete_sound {s : State} (h : Sound s) : Sound (resumeComplete s) := by
  refine .ite h ?_
  extract_lets t t1 cs t2
  have ht : Sound t := by
    refine foldl_sound (fun u e hu => .ite ?_ (.ite (setReg_sound hu) hu)) h
    have hv : Sound (u.setReg (0x401001C + e.1 * 0x20) e.2) := setReg_sound hu
    generalize u.setReg (0x401001C + e.1 * 0x20) e.2 = v at hv ⊢
    exact .of_fields hv.fields
  clear_value t
  have h1 : Sound t1 := .of_fields ht.fields
  clear_value t1
  have h2 : Sound t2 := .of_fields h1.fields
  clear_value t2
  exact parkStatus_sound (foldl_sound (fun _ _ hu => reopen_sound hu) h2)

theorem setRegBytes_sound {base : Nat} {bs : List Byte} {s : State} (h : Sound s) : Sound (setRegBytes base bs s) := by
  unfold setRegBytes
  dsimp only
  exact foldl_sound (fun _ _ h1 => setRegN_sound h1) h

theorem attestationDone_sound {s : State} (h : Sound s) : Sound (attestationDone s) := by
  unfold attestationDone
  split
  · exact h
  · have h1 : Sound { s with hep := { s.hep with att := none }, fresh := s.fresh + 1 } := h
    exact .ite h (setRegN_sound (setRegBytes_sound h1))

theorem sapReset_sound {s : State} (h : Sound s) : Sound (sapReset s) := by
  unfold sapReset
  exact .ite h (chipReset_sound h)

theorem sapEffect_sound {req : Nat} {args : List Byte} {s : State} (h : Sound s) : Sound (sapEffect req args s) := by
  unfold sapEffect
  have h1 : Sound (s.setRegN 0x104 1) := setRegN_sound h
  generalize s.setRegN 0x104 1 = u at h1
  have h2 := h1.fields
  refine .ite (sapReset_sound (.of_fields h2)) (.ite (.of_fields h2) (.ite (.of_fields h2) (.ite (sapReset_sound
    (.of_fields h2))
    (.ite (sapReset_sound (.of_fields h2)) (.ite (.of_fields h2) ?_)))))
  split
  · exact setRegN_sound h1
  · exact h1

theorem sapRequestDone_sound {s : State} (h : Sound s) : Sound (sapRequestDone s) := by
  unfold sapRequestDone
  split
  · exact h
  · next req buf _ =>
    refine .ite h ?_
    extract_lets boot t args sign why drawn u
    have ht : Sound t := h
    have hd : Sound drawn := setReg_sound ht
    clear_value drawn
    have hu : Sound u := .ite (.of_fields hd.fields) ht
    exact .ite (setRegN_sound hu) (sapEffect_sound hu)

theorem nvmDone_sound {ok : Bool} {s : State} (h : Sound s) : Sound (nvmDone ok s) := by
  unfold nvmDone
  split
  · exact h
  · refine .ite h ?_
    extract_lets boot t u
    have ht : Sound t := h
    have hu : Sound u := setRegN_sound ht
    refine .ite (setRegN_sound ht) (.ite (setRegBytes_sound hu) ?_)
    obtain ⟨hm, hf, hc, hp⟩ := hu
    exact .ite ⟨hm, cellWf_clear _ _ _ _ hf, hc, hp⟩ ⟨hm, cellWf_write _ _ _ _ hf, hc, hp⟩

end Sys2Proof.Machine
end

section
/-!
PROOFS. Every command keeps the state sound, and so does every step (O60).
-/

namespace Sys2Proof.Proofs
open Sys2Proof.Machine Sys2Proof.Claims

theorem sound_of_next {t u : State} (h : Sound t) (e : (.next t : Out) = .next u) : Sound u := by
  cases e
  exact h

theorem exec_sound {i : Instr} {s u : State} (h : Sound s) (e : exec i s = .next u) : Sound u := by
  cases i with
  | rstNAssert => exact sound_of_next (rstNAssert_sound h) e
  | rstNRelease => exact sound_of_next (rstNRelease_sound h) e
  | testEnAssert => exact sound_of_next (testEnAssert_sound h) e
  | undervoltage => exact sound_of_next (undervoltage_sound h) e
  | refclkLoss => exact sound_of_next (refclkLoss_sound h) e
  | refclkReturn => exact sound_of_next (refclkReturn_sound h) e
  | wipeComplete => exact sound_of_next (busReplay_sound (bulkResume_sound (wipeComplete_sound h))) e
  | imageHeaderRead => exact sound_of_next (imageHeaderRead_sound h) e
  | sectionTableRead => exact sound_of_next (sectionTableRead_sound h) e
  | imageReadComplete => exact sound_of_next (imageReadComplete_sound h) e
  | regsRecord => exact sound_of_next (regsRecord_sound h) e
  | commitBusyTimeout => exact sound_of_next (commitBusyTimeout_sound h) e
  | finalChecks => exact sound_of_next (finalChecks_sound h) e
  | discoveryWindowClose => exact sound_of_next (discoveryWindowClose_sound h) e
  | fabricReady => exact sound_of_next (fabricReady_sound h) e
  | lateGo => exact sound_of_next (lateGo_sound h) e
  | reboot => exact sound_of_next (reboot_sound h) e
  | laneLock => exact sound_of_next (laneLock_sound h) e
  | equaliseRequest => exact sound_of_next (equaliseRequest_sound h) e
  | equaliseTimeout => exact sound_of_next (equaliseTimeout_sound h) e
  | dataStart => exact sound_of_next (dataStart_sound h) e
  | hello => exact sound_of_next (hello_sound h) e
  | helloAck => exact sound_of_next (helloAck_sound h) e
  | delayReq => exact sound_of_next (delayReq_sound h) e
  | delayResp => exact sound_of_next (delayResp_sound h) e
  | delayExchange => exact sound_of_next (delayExchange_sound h) e
  | linkFrame => exact sound_of_next (linkFrame_sound h) e
  | laneFail => exact sound_of_next (laneFail_sound h) e
  | fastRetrainEnd => exact sound_of_next (fastRetrainEnd_sound h) e
  | farRetrainDetect => exact sound_of_next (farRetrainDetect_sound h) e
  | linkRetrain => exact sound_of_next (live_sound (fun _ ht => linkRetrain_sound ht) h) e
  | linkAccept => exact sound_of_next (live_sound (fun _ ht => linkAccept_sound ht) h) e
  | linkDisable => exact sound_of_next (live_sound (fun _ ht => linkDisable_sound ht) h) e
  | linkEnable => exact sound_of_next (live_sound (fun _ ht => linkEnable_sound ht) h) e
  | epochBoundary => exact sound_of_next (epochBoundary_sound h) e
  | epoch => exact sound_of_next (epochPacket_sound h) e
  | epochHoldover => exact sound_of_next (epochHoldover_sound h) e
  | stop => exact sound_of_next (stopPacket_sound h) e
  | packetForward => exact sound_of_next (packetForward_sound h) e
  | endpointDelivery => exact sound_of_next (endpointDelivery_sound h) e
  | gateCycleStart => exact sound_of_next (Sound.ite (gateCycleStart_sound h) h) e
  | msgTimeout => exact sound_of_next (msgTimeout_sound h) e
  | storeWrite => exact sound_of_next (serve_sound (fun _ _ ht => storeWriteIn_sound ht) h) e
  | storeWriteEnd => exact sound_of_next (storeWriteEnd_sound h) e
  | storeRead => exact sound_of_next (serve_sound (fun _ _ ht => storeReadIn_sound ht) h) e
  | readResponseHanded => exact sound_of_next (readResponseHanded_sound h) e
  | gather => exact sound_of_next (serve_sound (fun _ _ ht => gatherIn_sound ht) h) e
  | gatherSum => exact sound_of_next (serve_sound (fun _ _ ht => gatherIn_sound ht) h) e
  | milestoneUpdate => exact sound_of_next (milestoneUpdate_sound h) e
  | milestoneAdd => exact sound_of_next (serve_sound (fun _ _ ht => milestoneOpIn_sound ht) h) e
  | milestoneSet => exact sound_of_next (serve_sound (fun _ _ ht => milestoneOpIn_sound ht) h) e
  | milestoneWait => exact sound_of_next (serve_sound (fun _ _ ht => milestoneOpIn_sound ht) h) e
  | msuValWrite => exact sound_of_next (live_sound (fun _ ht => msuValWrite_sound ht) h) e
  | poolAlloc => exact sound_of_next (serve_sound (fun _ _ ht => poolAllocIn_sound ht) h) e
  | poolShare => exact sound_of_next (serve_sound (fun _ _ ht => poolHandleIn_sound ht) h) e
  | poolDrop => exact sound_of_next (serve_sound (fun _ _ ht => poolHandleIn_sound ht) h) e
  | poolFree => exact sound_of_next (serve_sound (fun _ _ ht => poolHandleIn_sound ht) h) e
  | batchAlloc => exact sound_of_next (batchAlloc_sound h) e
  | contributeMember => exact sound_of_next (contribute_sound h) e
  | stepUp => exact sound_of_next (contribute_sound h) e
  | stepDown => exact sound_of_next (contribute_sound h) e
  | stepDone => exact sound_of_next (contribute_sound h) e
  | stepFin => exact sound_of_next (contribute_sound h) e
  | stepAbort => exact sound_of_next (contribute_sound h) e
  | upTraffic => exact sound_of_next (upTraffic_sound h) e
  | collFinish => exact sound_of_next (collFinish_sound h) e
  | collTimeout => exact sound_of_next (collTimeout_sound h) e
  | tokenDispatch => exact sound_of_next (serve_sound (fun _ _ ht => dispatchIn_sound ht) h) e
  | gateWeightsReturn => exact sound_of_next (gateWeights_sound h) e
  | sourceSeal => exact sound_of_next (serve_sound (fun _ _ ht => dispatchIn_sound ht) h) e
  | switchSealsSend => exact sound_of_next (switchSealsSend_sound h) e
  | switchCopy => exact sound_of_next (serve_sound (fun _ _ ht => dispatchIn_sound ht) h) e
  | switchSeal => exact sound_of_next (serve_sound (fun _ _ ht => dispatchIn_sound ht) h) e
  | dispatchClose => exact sound_of_next (dispatchClose_sound h) e
  | expertOutput => exact sound_of_next (serve_sound (fun _ _ ht => expertOutIn_sound ht) h) e
  | overcapNotice => exact sound_of_next (serve_sound (fun _ _ ht => expertOutIn_sound ht) h) e
  | combineRun => exact sound_of_next (combineRun_sound h) e
  | combineDone => exact sound_of_next (combineDone_sound h) e
  | stepTimeout => exact sound_of_next (stepTimeout_sound h) e
  | combineTimeout => exact sound_of_next (combineTimeout_sound h) e
  | runBegin => exact sound_of_next (runBegin_sound h) e
  | nop => exact sound_of_next (instr_sound (fun _ _ _ ht => putRun_sound ht) h) e
  | halt => exact sound_of_next (instr_sound (fun _ _ _ ht => haltBody_sound ht) h) e
  | jmp => exact sound_of_next (instr_sound (fun _ _ _ ht => branch_sound ht) h) e
  | br => exact sound_of_next (instr_sound (fun _ _ _ ht => brBody_sound ht) h) e
  | loop => exact sound_of_next (instr_sound (fun _ _ _ ht => loopBody_sound ht) h) e
  | waitm => exact sound_of_next (instr_sound (fun _ _ _ ht => waitmBody_sound ht) h) e
  | waitmResume => exact sound_of_next (waitmResume_sound h) e
  | spr => exact sound_of_next (instr_sound (fun _ _ _ ht => sprBody_sound ht) h) e
  | movi => exact sound_of_next (instr_sound (fun _ _ _ ht => moviBody_sound ht) h) e
  | salu => exact sound_of_next (instr_sound (fun _ _ _ ht => putRun_sound ht) h) e
  | salui => exact sound_of_next (instr_sound (fun _ _ _ ht => putRun_sound ht) h) e
  | lds => exact sound_of_next (instr_sound (fun _ _ _ ht => ldsBody_sound ht) h) e
  | ldv => exact sound_of_next (instr_sound (fun _ _ _ ht => ldvBody_sound ht) h) e
  | ldvF => exact sound_of_next (instr_sound (fun _ _ _ ht => ldvBody_sound ht) h) e
  | stv => exact sound_of_next (instr_sound (fun _ _ _ ht => stvBody_sound ht) h) e
  | dma => exact sound_of_next (instr_sound (fun _ _ _ ht => dmaBody_sound ht) h) e
  | dmaComplete => exact sound_of_next (dmaComplete_sound h) e
  | dwait => exact sound_of_next (instr_sound (fun _ _ _ ht => dwaitBody_sound ht) h) e
  | recv => exact sound_of_next (instr_sound (fun _ _ _ ht => recvBody_sound ht) h) e
  | send => exact sound_of_next (instr_sound (fun _ _ _ ht => sendBody_sound ht) h) e
  | raddFwd => exact sound_of_next (instr_sound (fun _ _ _ ht => raddBody_sound ht) h) e
  | gfmaSend => exact sound_of_next (instr_sound (fun _ _ _ ht => gfmaBody_sound ht) h) e
  | vadd => exact sound_of_next (instr_sound (fun _ _ _ ht => vaddBody_sound ht) h) e
  | vmul => exact sound_of_next (instr_sound (fun _ _ _ ht => vmulBody_sound ht) h) e
  | vfma => exact sound_of_next (instr_sound (fun _ _ _ ht => vfmaBody_sound ht) h) e
  | vscale => exact sound_of_next (instr_sound (fun _ _ _ ht => vscaleBody_sound ht) h) e
  | vmax => exact sound_of_next (instr_sound (fun _ _ _ ht => vmaxBody_sound ht) h) e
  | vmov => exact sound_of_next (instr_sound (fun _ _ _ ht => vmovBody_sound ht) h) e
  | bmsk => exact sound_of_next (instr_sound (fun _ _ _ ht => bmskBody_sound ht) h) e
  | sadd => exact sound_of_next (instr_sound (fun _ _ _ ht => saddBody_sound ht) h) e
  | fenceAcq => exact sound_of_next (instr_sound (fun _ _ _ ht => fenceAcqBody_sound ht) h) e
  | fenceRel => exact sound_of_next (instr_sound (fun _ _ _ ht => fenceRelBody_sound ht) h) e
  | madd => exact sound_of_next (instr_sound (fun _ _ _ ht => maddBody_sound ht) h) e
  | vcrc => exact sound_of_next (instr_sound (fun _ _ _ ht => vcrcBody_sound ht) h) e
  | runDone => exact sound_of_next (runDone_sound h) e
  | runWatchdog => exact sound_of_next (runWatchdog_sound h) e
  | runStart => exact sound_of_next (onBus_sound (fun _ ht => runCtrl_sound ht) h) e
  | programLoad => exact sound_of_next (onBus_sound (fun _ ht => pcommit_sound ht) h) e
  | programUnload => exact sound_of_next (onBus_sound (fun _ ht => pcommit_sound ht) h) e
  | jExcClr => exact sound_of_next (onBus_sound (fun _ ht => .ite (excClr_sound ht) ht) h) e
  | tscExcClr => exact sound_of_next (live_sound (fun _ ht => excClr_sound ht) h) e
  | engineDisable => exact sound_of_next (onBus_sound (fun _ ht => engineDisable_sound ht) h) e
  | engineForce => exact sound_of_next (onBus_sound (fun _ ht => engineForce_sound ht) h) e
  | engineEnable => exact sound_of_next (onBus_sound (fun _ ht => engineEnable_sound ht) h) e
  | sliceDisable => exact sound_of_next (onBus_sound (fun _ ht => sliceWrite_sound ht) h) e
  | sliceForce => exact sound_of_next (onBus_sound (fun _ ht => sliceForce_sound ht) h) e
  | sliceEnable => exact sound_of_next (onBus_sound (fun _ ht => sliceWrite_sound ht) h) e
  | unitDrained => exact sound_of_next (unitDrained_sound h) e
  | gateSwap => exact sound_of_next (live_sound (fun _ ht => gateCtrl_sound ht) h) e
  | rteHold => exact sound_of_next (onBus_sound (fun _ ht => rteHold_sound ht) h) e
  | swapSign => exact sound_of_next (onBus_sound (fun _ ht => rteSwap_sound ht) h) e
  | swapCpath => exact sound_of_next (onBus_sound (fun _ ht => rteSwap_sound ht) h) e
  | shadowCopyEnd => exact sound_of_next (busReplay_sound (shadowCopyEnd_sound h)) e
  | contractWrite => exact sound_of_next (live_sound (fun _ ht => contractWrite_sound ht) h) e
  | contractDelete => exact sound_of_next (live_sound (fun _ ht => contractDelete_sound ht) h) e
  | ctcMaskWrite => exact sound_of_next (live_sound (fun _ ht => ctcMaskWrite_sound ht) h) e
  | groupWrite => exact sound_of_next (onBus_sound (fun _ ht => gcommit_sound ht) h) e
  | groupDelete => exact sound_of_next (onBus_sound (fun _ ht => gcommit_sound ht) h) e
  | descRegister => exact sound_of_next (onBus_sound (f := descRegister) (fun _ ht => descRegister_sound ht) h) e
  | descRemove => exact sound_of_next (onBus_sound (fun _ ht => descRemove_sound ht) h) e
  | tableWrite => exact sound_of_next (onBus_sound (fun _ ht => xcommit_sound ht) h) e
  | tableDelete => exact sound_of_next (onBus_sound (fun _ ht => xcommit_sound ht) h) e
  | park => exact sound_of_next (onBus_sound (fun _ ht => park_sound ht) h) e
  | resume => exact sound_of_next (onBus_sound (fun _ ht => resume_sound ht) h) e
  | reconf => exact sound_of_next (live_sound (fun _ ht => reconf_sound ht) h) e
  | forceFree => exact sound_of_next (live_sound (fun _ ht => forceFree_sound ht) h) e
  | startGateOpen => exact sound_of_next (live_sound (fun _ ht => startGate_sound ht) h) e
  | blockFltInject => exact sound_of_next (onBus_sound (fun _ ht => .ite ht (fltInject_sound ht)) h) e
  | mgcWatchdog => exact sound_of_next (live_sound (fun _ ht => raise_sound ht) h) e
  | restartGo => exact sound_of_next (live_sound (fun _ ht => restartGo_sound ht) h) e
  | restartHalt => exact sound_of_next (live_sound (fun _ ht => restartHalt_sound ht) h) e
  | restartEnd => exact sound_of_next (restartEnd_sound h) e
  | thermalReading => exact sound_of_next (thermalReading_sound h) e
  | powerWindowEnd => exact sound_of_next (powerWindowEnd_sound h) e
  | scrubStep => exact sound_of_next (scrubStep_sound h) e
  | refresh => exact sound_of_next (refresh_sound h) e
  | provision => exact sound_of_next (sapRequest_sound h) e
  | addKey => exact sound_of_next (sapRequest_sound h) e
  | revokeKey => exact sound_of_next (sapRequest_sound h) e
  | deploy => exact sound_of_next (sapRequest_sound h) e
  | retire => exact sound_of_next (sapRequest_sound h) e
  | raiseSvn => exact sound_of_next (sapRequest_sound h) e
  | sapSet => exact sound_of_next (sapRequest_sound h) e
  | nvmRead => exact sound_of_next (nvmCommand_sound h) e
  | nvmErase => exact sound_of_next (nvmCommand_sound h) e
  | nvmProgram => exact sound_of_next (nvmCommand_sound h) e
  | snapshotNow => exact sound_of_next (snapshotNow_sound h) e
  | cvuCfgWrite => exact sound_of_next (cvuConfig_sound h) e
  | cvuInit => exact sound_of_next (cvuInit_sound h) e
  | cvuFeedB => exact sound_of_next (cvuFeed_sound h) e
  | cvuFeedH => exact sound_of_next (cvuFeed_sound h) e
  | cvuFeedW => exact sound_of_next (cvuFeed_sound h) e
  | cvuValWrite => exact sound_of_next (cvuVal_sound h) e
  | ympRead => exact sound_of_next (ympIn_sound (fun _ _ ht => ympReadBody_sound ht) h) e
  | ympWrite => exact sound_of_next (ympIn_sound (fun _ _ ht => ympWriteBody_sound ht) h) e
  | registerWrite => exact sound_of_next (mgcWrite_sound h) e
  | eventAck => exact sound_of_next (ympIn_sound (fun _ _ ht => eventAckBody_sound ht) h) e
  | eventRetry => exact sound_of_next (eventRetry_sound h) e
  | bulkWr => exact sound_of_next (ympIn_sound (fun _ _ ht => bulkWrBody_sound ht) h) e
  | bulkRd => exact sound_of_next (ympIn_sound (fun _ _ ht => bulkRdBody_sound ht) h) e
  | bulkIdle => exact sound_of_next (bulkIdle_sound h) e
  | bulkTimeout => exact sound_of_next (bulkTimeout_sound h) e
  | sessionOpen => exact sound_of_next (sessOpen_sound h) e
  | sessionConfirm => exact sound_of_next (sessConfirm_sound h) e
  | sessionClose => exact sound_of_next (sessClose_sound h) e
  | attest => exact sound_of_next (attest_sound h) e
  | neighborSolicitation => exact sound_of_next (neighborSolicitation_sound h) e
  | echoRequest => exact sound_of_next (echoRequest_sound h) e
  | ptpMessage => exact sound_of_next (ptpMessage_sound h) e
  | auiSelect => exact sound_of_next (hepConfig_sound h) e
  | auiTryTimeout => exact sound_of_next (auiTryTimeout_sound h) e
  | linkFrameTransmit => exact sound_of_next (pumpResps_sound (linkFrameTransmit_sound h)) e
  | laneUnlock => exact sound_of_next (laneUnlock_sound h) e
  | rxReady => exact sound_of_next (rxReady_sound h) e
  | railsAboveThreshold => exact sound_of_next (railsAbove_sound h) e
  | testEnRelease => exact sound_of_next (testEnRelease_sound h) e
  | serdesPllLock => exact sound_of_next (serdesLock_sound h) e
  | hostPcsLock => exact sound_of_next (hostPcsLock_sound h) e
  | hostLinkLoss => exact sound_of_next (hostLinkLoss_sound h) e
  | groupCommitEnd => exact sound_of_next (busReplay_sound (groupCommitEnd_sound h)) e
  | tableCommitEnd => exact sound_of_next (busReplay_sound (tableCommitEnd_sound h)) e
  | programLoadEnd => exact sound_of_next (busReplay_sound (programLoadEnd_sound h)) e
  | parkComplete => exact sound_of_next (parkComplete_sound h) e
  | resumeComplete => exact sound_of_next (resumeComplete_sound h) e
  | attestationDone => exact sound_of_next (attestationDone_sound h) e
  | sapRequestDone => exact sound_of_next (sapRequestDone_sound h) e
  | nvmOperationDone => exact sound_of_next (nvmDone_sound h) e

/-- Settles O60: a step is one command, or one cycle when none waits, and each keeps the four fields a sound state rests
on. -/
theorem everyStepKeepsTheStateSound : Obligations.EveryStepKeepsTheStateSound := by
  intro s u h e
  unfold step at e
  split at e
  · exact sound_of_next (tick_sound h) e
  · next c rest _ =>
    have ht : Sound { s with pending := rest } := h
    exact exec_sound ht e

end Sys2Proof.Proofs
end

section
/-!
PROOFS. The scalar and control instructions of the engines (O1, O2).
-/

namespace Sys2Proof.Proofs
open Sys2Proof Sys2Proof.Machine Sys2Proof.Claims

set_option Elab.async false

variable {e : Fin 64} {k : Fin 16} {s : State} {r : Run} {w : W64} {opc : Nat}

/-! ## The next instruction of a run -/

/-- What an instruction does to a run that is ready for it: its body, and the issue is noted. -/
theorem instr_of_ready (body : W64 → Run → State → State) (h : Ready s e k opc r w) :
    instr e.val k.val opc body s = noteIssue e.val w r (body w r s) := by
  obtain ⟨hon, ⟨hg, hq⟩, hp, hr, hu, hw, hpc, hword, hl, ho⟩ := h
  exact instr_ready body hon hp hr hu hw hpc hword hl ho hg hq

/-- An instruction whose body puts a run moves that run. -/
theorem moves_of_body {c : Instr} {r' : Run} (body : W64 → Run → State → State)
    (hc : exec c s = .next (instr e.val k.val opc body s)) (h : Ready s e k opc r w)
    (hb : body w r s = putRun e.val r' s) : Moves c s e r' := by
  rw [instr_of_ready body h, hb] at hc
  exact ⟨_, hc, noteIssue_shape _ _ _ _⟩

theorem findRun_slot {slot : Nat} (h : findRun s e.val slot = some r) : r.slot = slot := by
  unfold findRun at h
  simpa using List.find?_some h

/-- A run that stays where it is, and waits for nothing, has issued nothing: no issue is noted. -/
theorem noteIssue_stays (h : Ready s e k opc r w) (hj : [0x02, 0x03, 0x04].contains opc = false) :
    noteIssue e.val w r s = s := by
  obtain ⟨-, -, -, hr, -, hw, -, -, -, ho⟩ := h
  have hs := findRun_slot hr
  unfold noteIssue
  rw [ho, hs, hr, hj]
  simp [hw]

/-- An instruction whose body leaves the state leaves it altogether. -/
theorem exec_stays {c : Instr} (body : W64 → Run → State → State)
    (hc : exec c s = .next (instr e.val k.val opc body s)) (h : Ready s e k opc r w)
    (hj : [0x02, 0x03, 0x04].contains opc = false) (hb : body w r s = s) : exec c s = .next s := by
  rw [hc, instr_of_ready body h, hb, noteIssue_stays h hj]

/-! ## Where the control instructions take their run (Table 10.5, class C) -/

theorem branch_inside {r' old : Run} (hp : iImm w % 2 ^ 13 < progLen s e.val r'.pid) :
    branch e.val w r' old s = putRun e.val { r' with pc := iImm w % 2 ^ 13 } s := by
  have ht : bits (iImm w) 12 0 = iImm w % 2 ^ 13 := by simp [bits]
  unfold branch
  rw [ht]
  exact if_neg (by omega)

theorem brTaken_eq (w v : W64) : brTaken w v = brHolds w v := by
  have hn : bits (iImm w) 18 13 = iImm w / 2 ^ 13 % 64 := by simp [bits]
  have hb : bit v.toNat (iImm w / 2 ^ 13 % 64) = v.getLsbD (iImm w / 2 ^ 13 % 64) := BitVec.testBit_toNat v
  unfold brTaken brHolds
  rw [hn, hb]
  cases v.getLsbD (iImm w / 2 ^ 13 % 64) <;> rfl

theorem dwait_limit (w : W64) : min 8 (bits (iImm w) 3 0) = min 8 (iImm w % 16) := by simp [bits]

/-- Settles O1: each instruction's body puts the run the row of Table 10.5 names, or leaves the state. -/
theorem controlInstructionsMoveTheirRun : Obligations.ControlInstructionsMoveTheirRun := by
  intro e k s r w
  refine ⟨fun h => ?_, fun h hp => ?_, fun h ht hp => ?_, fun h ht => ?_, fun h hv hp => ?_, fun h hv => ?_,
    fun h hd => ?_, fun h hd => ?_, fun h hd => ?_⟩
  · exact moves_of_body _ rfl h rfl
  · exact moves_of_body _ rfl h (branch_inside hp)
  · refine moves_of_body (brBody e.val) rfl h ?_
    rw [brBody, brTaken_eq, if_pos ht, branch_inside hp]
  · refine moves_of_body (brBody e.val) rfl h ?_
    rw [brBody, brTaken_eq, if_neg (by simp [ht])]
    rfl
  · refine moves_of_body (loopBody e.val) rfl h ?_
    have hne : (r.sreg (iRa w) - 1 != 0) = true := by
      simpa [BitVec.sub_eq_iff_eq_add] using hv
    simp only [loopBody, hne, if_true]
    exact branch_inside hp
  · refine moves_of_body (loopBody e.val) rfl h ?_
    have he : r.sreg (iRa w) - 1 = 0 := by rw [hv]; rfl
    simp only [loopBody, he]
    rfl
  · refine moves_of_body (dwaitBody e.val) rfl h ?_
    rw [dwaitBody, dwait_limit, if_neg (by omega)]
    rfl
  · refine exec_stays (dwaitBody e.val) rfl h (by decide) ?_
    rw [dwaitBody, dwait_limit, if_pos hd]
  · refine moves_of_body (fenceRelBody e.val) rfl h ?_
    simp [fenceRelBody, hd, Run.next]

/-! ## What the scalar instructions write (Table 10.5, class X; Table 10.3) -/

theorem salu_eq (op : Nat) (a b : W64) : salu op a b = aluResult op a b := by
  unfold salu aluResult
  split
  · bv_omega
  · bv_omega
  · rfl
  · rfl
  · rfl
  · apply BitVec.eq_of_toNat_eq
    simp [Nat.shiftLeft_eq]
  · apply BitVec.eq_of_toNat_eq
    rw [BitVec.toNat_ushiftRight, Nat.shiftRight_eq_div_pow, BitVec.toNat_ofNat,
      Nat.mod_eq_of_lt (Nat.lt_of_le_of_lt (Nat.div_le_self _ _) a.isLt)]
  · apply BitVec.eq_of_toNat_eq
    simp
  · split <;> bv_omega
  · split <;> bv_omega

theorem sprNumber_eq (w : W64) : bits (iImm w) 7 0 = iImm w % 256 := by simp [bits]

/-- Table 10.3 as a table of nine and as a function of the number. -/
theorem sprRead_of_sprValue {aclk n : Nat} {v : W64} (h : sprValue e r aclk n = some v) :
    n ≤ 8 ∧ sprRead e.val n aclk r = v := by
  unfold sprValue at h
  have hn : n < 9 := by
    by_contra hn
    rw [List.getElem?_eq_none (by simpa using hn)] at h
    cases h
  refine ⟨by omega, ?_⟩
  interval_cases n <;> exact Option.some.inj h

/-- Settles O2: each instruction's body writes the register its row names and goes on. -/
theorem scalarInstructionsWriteTheirResult : Obligations.ScalarInstructionsWriteTheirResult := by
  intro e k s r w
  refine ⟨fun h => ?_, fun h => ?_, fun h => ?_, fun v h hm hv => ?_, fun h hm hn h1 h2 => ?_, fun h hm hn => ?_,
    fun h hm hn => ?_⟩
  · exact moves_of_body (moviBody e.val) rfl h rfl
  · refine moves_of_body _ rfl h ?_
    rw [← salu_eq]
    rfl
  · refine moves_of_body _ rfl h ?_
    rw [← salu_eq]
    rfl
  · refine moves_of_body (sprBody e.val) rfl h ?_
    obtain ⟨hle, hr⟩ := sprRead_of_sprValue hv
    have hn : ¬ iImm w % 256 > 8 := by omega
    simp only [sprBody, hm, sprNumber_eq, hr, hn]
    rfl
  · refine moves_of_body (sprBody e.val) rfl h ?_
    have hv : ¬ ((r.sreg (iRa w)).toNat = 0 ∨ 512 < (r.sreg (iRa w)).toNat) := by omega
    simp only [sprBody, hm, sprNumber_eq, hn, hv]
    rfl
  · refine moves_of_body (sprBody e.val) rfl h ?_
    simp [sprBody, hm, sprNumber_eq, hn, Run.next]
  · refine moves_of_body (sprBody e.val) rfl h ?_
    simp [sprBody, hm, sprNumber_eq, hn, Run.next]

end Sys2Proof.Proofs
end

section
/-!
PROOFS. What only counts: registers that count, and the records of the cycle's events, exceptions and issues.
-/

namespace Sys2Proof.Proofs
open Sys2Proof Sys2Proof.Machine Sys2Proof.Claims

set_option Elab.async false

theorem sameRegs_refl (c : Tab W64) : SameRegs c c := fun _ _ => rfl

theorem sameRegs_trans {c c' c'' : Tab W64} (h : SameRegs c c') (k : SameRegs c' c'') : SameRegs c c'' :=
  fun a ha => (k a ha).trans (h a ha)

/-- A write of a register that counts. -/
theorem sameRegs_tabSet {c : Tab W64} {a : Nat} {v : W64} (ha : counts a = true) : SameRegs c (tabSet c a v) := by
  intro b hb
  rw [tabGet_tabSet, if_neg]
  rintro rfl
  rw [ha] at hb
  cases hb

theorem countsOnly_refl (s : State) : CountsOnly s s := ⟨s.csr, s.evts, s.excNow, s.issued, rfl, sameRegs_refl _⟩

theorem countsOnly_trans {s t u : State} (h : CountsOnly s t) (k : CountsOnly t u) : CountsOnly s u := by
  obtain ⟨_, _, _, _, rfl, hr⟩ := h
  obtain ⟨_, _, _, _, rfl, hk⟩ := k
  exact ⟨_, _, _, _, rfl, sameRegs_trans hr hk⟩

theorem sameRegs_of_countsOnly {s u : State} (h : CountsOnly s u) : SameRegs s.csr u.csr := by
  obtain ⟨_, _, _, _, rfl, hr⟩ := h
  exact hr

theorem countsOnly_of_noted {s u : State} (h : Noted s u) : CountsOnly s u := by
  obtain ⟨i, rfl⟩ := h
  exact ⟨_, _, _, i, rfl, sameRegs_refl _⟩

theorem count_countsOnly (src n : Nat) (port tc grp : Option Nat) (s : State)
    : CountsOnly s (count src n port tc grp s) :=
  ⟨_, _, _, _, rfl, sameRegs_refl _⟩

theorem countReg_countsOnly {a : Nat} (n : Nat) (s : State) (ha : counts a = true) : CountsOnly s (s.countReg a n) := by
  unfold State.countReg
  split
  · exact countsOnly_refl s
  · exact ⟨_, _, _, _, rfl, sameRegs_tabSet ha⟩

theorem countExc_countsOnly {a : Nat} (n : Nat) (s : State) (ha : counts a = true) : CountsOnly s (countExc a n s) := by
  unfold countExc
  split
  · exact countsOnly_refl s
  · obtain ⟨_, _, _, _, he, hr⟩ := countReg_countsOnly n s ha
    rw [he]
    exact ⟨_, _, _, _, rfl, hr⟩

/-- The exception counters of an engine count (Table 10.9). -/
theorem counts_engine (e : Fin 64) {i : Nat} (hi : i < 0x18) : counts (jBase e.val + 0x3F00 + i) = true := by
  have he := e.isLt
  have h : 0x5000000 ≤ jBase e.val + 0x3F00 + i ∧ jBase e.val + 0x3F00 + i < 0x6000000 ∧
      0x3F00 ≤ (jBase e.val + 0x3F00 + i) % 0x40000 ∧ (jBase e.val + 0x3F00 + i) % 0x40000 < 0x3F18 := by
    unfold jBase
    omega
  simp [counts, h]

theorem engFlags_countsOnly (e : Fin 64) (fs : List Fl) (s : State) : CountsOnly s (engFlags e.val fs s) :=
  countsOnly_trans (countsOnly_trans (countExc_countsOnly _ s (counts_engine e (i := 0) (by omega)))
    (countExc_countsOnly _ _ (counts_engine e (i := 8) (by omega))))
    (countExc_countsOnly _ _ (counts_engine e (i := 16) (by omega)))

end Sys2Proof.Proofs
end

section
/-!
PROOFS. The vector instructions of the engines (O3).
-/

namespace Sys2Proof.Proofs
open Sys2Proof Sys2Proof.Machine Sys2Proof.Claims

variable {e : Fin 64} {k : Fin 16} {s : State} {r : Run} {w : W64} {opc : Nat}

/-! ## Lanes written over the old ones -/

theorem overlay_getD_new {α : Type} {l v : List α} {i : Nat} (d : α) (hv : i < v.length) (hl : i < l.length) :
    (overlay l 0 v).getD i d = v.getD i d := by
  simp [overlay, List.getD_eq_getElem?_getD, List.getElem?_append, hl, hv]

theorem overlay_getD_old {α : Type} {l v : List α} {i : Nat} (d : α) (hv : v.length ≤ i) :
    (overlay l 0 v).getD i d = l.getD i d := by
  simp only [overlay, List.getD_eq_getElem?_getD]
  congr 1
  by_cases hl : v.length ≤ l.length
  · rw [List.getElem?_append_right (by simp [hl, hv])]
    simp [hl]
    congr 1
    omega
  · rw [List.getElem?_eq_none (by simp; omega), List.getElem?_eq_none (by omega)]

/-! ## The command -/

/-- The issue of an instruction is noted beside the run it puts. -/
theorem noteIssue_putRun (r' : Run) (t : State) :
    ∃ u, noteIssue e.val w r (putRun e.val r' t) = putRun e.val r' u ∧ Noted t u := by
  obtain ⟨i, hi⟩ := noteIssue_shape e.val w r (putRun e.val r' t)
  exact ⟨{ t with issued := i }, hi, i, rfl⟩

theorem movesCounting_of_body {c : Instr} {r' : Run} {t : State} (body : W64 → Run → State → State)
    (hc : exec c s = .next (instr e.val k.val opc body s)) (h : Ready s e k opc r w)
    (hb : body w r s = putRun e.val r' t) (ht : CountsOnly s t) : MovesCounting c s e r' := by
  obtain ⟨u, hu, hn⟩ := noteIssue_putRun (e := e) (w := w) (r := r) r' t
  rw [instr_of_ready body h, hb, hu] at hc
  exact ⟨u, hc, countsOnly_trans ht (countsOnly_of_noted hn)⟩

/-- An instruction whose body writes a value in each lane below VL writes its lanes. -/
theorem writesLanes_of_body {c : Instr} {t : State} {kind : Kind} {mask : BitVec 8} {g f : Nat → W32 × Fl}
    (body : W64 → Run → State → State)
    (hc : exec c s = .next (instr e.val k.val opc body s)) (h : Ready s e k opc r w)
    (hb : body w r s = putRun e.val
      (r.setA (iRd w) (writeLanes (r.acc (iRd w)) kind mask ((List.range r.vl).map g))).next t)
    (ht : CountsOnly s t) (hg : ∀ i, g i = f i) : WritesLanes c s e r w kind mask f := by
  obtain ⟨u, hu, hn⟩ := movesCounting_of_body body hc h hb ht
  obtain rfl : g = f := funext hg
  refine ⟨u, _, hu, hn, rfl, rfl, fun i hi hl => ?_, fun i hi hl => ?_, fun i hi => ?_⟩
  · rw [writeLanes, overlay_getD_new _ (by simpa using hi) hl]
    simp [List.getD_eq_getElem?_getD, hi]
  · rw [writeLanes, overlay_getD_new _ (by simpa using hi) hl]
    simp [List.getD_eq_getElem?_getD, hi]
  · unfold writeLanes Acc.lane
    rw [overlay_getD_old _ (by simpa using hi), overlay_getD_old _ (by simpa using hi)]

/-- A vector operation, in each lane. -/
theorem writesLanes_of_vecOp {c : Instr} {kind : Kind} {srcs : List Nat} {ok : Bool} {g f : Nat → W32 × Fl}
    (body : W64 → Run → State → State)
    (hc : exec c s = .next (instr e.val k.val opc body s)) (h : Ready s e k opc r w)
    (hb : body w r s = vecOp e.val w r srcs ok g s) (hok : ok = true) (hk : kindOf (iFmt w) = kind)
    (hg : ∀ i, ((g i).1, (g i).2 ||| orFlags ((srcs.map r.acc).map (fun a => a.flags.getD i 0))) = f i) :
    WritesLanes c s e r w kind 0xFF f := by
  subst hk
  subst hok
  refine writesLanes_of_body (t := engFlags e.val ((List.range r.vl).map (fun i => (g i).2)) (issueV e.val s))
      body hc h ?_
    (countsOnly_trans (count_countsOnly _ _ _ _ _ _) (engFlags_countsOnly _ _ _)) hg
  rw [hb]
  simp [vecOp, laneMap, Function.comp_def]

/-! ## The operations by format -/

theorem fmtFloat_zero : fmtFloat 0 = true := rfl

theorem fmtFloat_seven : fmtFloat 7 = false := rfl

theorem kindOk_float {a : Acc} (h : a.kind = .f) : kindOk 0 a = true := by simp [kindOk, fmtFloat_zero, h]

theorem kindOk_int {a : Acc} (h : a.kind ≠ .f) : kindOk 7 a = true := by simp [kindOk, fmtFloat_seven, h]

theorem orFlags_one (a : Fl) : orFlags [a] = a := by simp [orFlags]

theorem orFlags_two (a b : Fl) : orFlags [a, b] = a ||| b := by simp [orFlags]

theorem orFlags_three (a b c : Fl) : orFlags [a, b, c] = a ||| b ||| c := by simp [orFlags]

/-- SADD in a lane, of two sources that the masks may leave out. -/
theorem saddLane_fst (fmt : Nat) (ci : Bool) (a b : Acc) (i : Nat) : (saddLane fmt ci a b i).1 =
    if a.mask.getLsbD (i / 64) then
      (if b.mask.getLsbD (i / 64) then united (accAdd (fmtFloat fmt) ci (a.lane i).1 (b.lane i).1)
        (a.lane i).2 (b.lane i).2
        else a.lane i)
    else if b.mask.getLsbD (i / 64) then b.lane i else (0, 0) := by
  unfold saddLane
  cases a.mask.getLsbD (i / 64) <;> cases b.mask.getLsbD (i / 64) <;> simp [laneAdd, united, BitVec.or_assoc]

theorem saddBody_lanes {a b : Acc} (ha : r.acc (iRa w) = a) (hb : r.acc (iRb w) = b)
    (hok : (kindOk (iFmt w) a && kindOk (iFmt w) b) = true) :
    ∃ t, saddBody e.val w r s = putRun e.val (r.setA (iRd w) (writeLanes (r.acc (iRd w)) (kindOf (iFmt w))
      (a.mask ||| b.mask)
      ((List.range r.vl).map (fun i => (saddLane (iFmt w) r.convInf a b i).1)))).next t ∧ CountsOnly s t := by
  refine ⟨_, ?_, countsOnly_trans (count_countsOnly (0x200 + 8 * e.val) 1 none none none s) (engFlags_countsOnly e
    ((List.range r.vl).map (fun i => (saddLane (iFmt w) r.convInf a b i).2)) _)⟩
  simp only [saddBody, ha, hb, hok, List.map_map]
  rfl

/-- The format of a legal word is one of its row's. -/
theorem fmt_of_legal {row : OpRow} (hl : legalWord w = true) (hrow : opRow w = some row) : iFmt w ∈ row.fmt := by
  unfold legalWord at hl
  rw [hrow] at hl
  simp only [Bool.and_eq_true, List.contains_iff_mem] at hl
  exact hl.1.2

theorem fmt_of_vscale (h : Ready s e k 0x43 r w) (hm : iM0 w = false) : iFmt w = 0 := by
  obtain ⟨-, -, -, -, -, -, -, -, hl, ho⟩ := h
  have hf := fmt_of_legal hl (row := ⟨.a, .a, .s, .none, 3, true, fmtNone⟩) (by unfold opRow; simp [ho, hm])
  simpa [fmtNone] using hf

theorem fmt_of_vmov (h : Ready s e k 0x45 r w) : iFmt w = 0 ∨ iFmt w = 7 := by
  obtain ⟨-, -, -, -, -, -, -, -, hl, ho⟩ := h
  have hf := fmt_of_legal hl (row := ⟨.a, if iM0 w then .none else .a, .none, .none, 1, true, fmtWord⟩)
    (by unfold opRow; simp [ho])
  simpa [fmtWord] using hf

/-- Settles O3: each instruction is an operation in each lane below VL, by the row of its format. -/
theorem vectorInstructionsWriteTheirLanes : Obligations.VectorInstructionsWriteTheirLanes := by
  intro e k s r w a b c
  have hissue : CountsOnly s (issueV e.val s) := count_countsOnly _ _ _ _ _ _
  refine ⟨fun h hf ha hb => ?_, fun h hf ha hb => ?_, fun h hf ha hb => ?_, fun h hf ha hb => ?_, fun h hf ha hb hc => ?_,
    fun h hf ha hb hc => ?_, fun h hm ha => ?_, fun h hf ha hb => ?_, fun h hf ha hb => ?_, fun h hm => ?_,
    fun h hm ha => ?_, fun h hm => ?_, fun h hm => ?_, fun h hf ha hb => ?_, fun h hf ha hb => ?_, fun h => ?_⟩
  · exact writesLanes_of_vecOp (vaddBody e.val) rfl h rfl (by rw [hf, kindOk_float ha, kindOk_float hb]; rfl)
      (by rw [hf]; rfl)
      (fun i => by simp only [hf, List.map, orFlags_two]; rfl)
  · exact writesLanes_of_vecOp (vaddBody e.val) rfl h rfl (by rw [hf, kindOk_int ha, kindOk_int hb]; rfl)
      (by rw [hf]; rfl)
      (fun i => by simp only [hf, List.map, orFlags_two]; rfl)
  · refine writesLanes_of_vecOp (vmulBody e.val) rfl h (by rw [vmulBody, hf, fmtFloat_zero, if_pos rfl])
      ?_ (by rw [hf]; rfl)
      (fun i => by simp only [List.map, orFlags_two]; rfl)
    rw [ha, hb]; rfl
  · refine writesLanes_of_vecOp (vmulBody e.val) rfl h (by rw [vmulBody, hf, fmtFloat_seven, if_neg (by decide)]) ?_
      (by rw [hf]; rfl) (fun i => by simp only [List.map, orFlags_two]; rfl)
    rw [ha, hb]; rfl
  · refine writesLanes_of_vecOp (vfmaBody e.val) rfl h (by rw [vfmaBody, hf, fmtFloat_zero, if_pos rfl])
      ?_ (by rw [hf]; rfl)
      (fun i => by simp only [List.map, orFlags_three]; rfl)
    rw [ha, hb, hc]; rfl
  · refine writesLanes_of_vecOp (vfmaBody e.val) rfl h (by rw [vfmaBody, hf, fmtFloat_seven, if_neg (by decide)]) ?_
      (by rw [hf]; rfl) (fun i => by simp only [List.map, orFlags_three]; rfl)
    rw [ha, hb]; simpa using hc
  · have hf := fmt_of_vscale h hm
    exact writesLanes_of_vecOp (vscaleBody e.val) rfl h (by simp only [vscaleBody, a, ha, hm]; rfl) rfl (by rw [hf]; rfl)
      (fun i => by simp only [List.map, orFlags_one]; simp [united, a, Acc.lane])
  · exact writesLanes_of_vecOp (vmaxBody e.val) rfl h rfl (by rw [hf, kindOk_float ha, kindOk_float hb]; rfl)
      (by rw [hf]; rfl)
      (fun i => by simp only [hf, List.map, orFlags_two]; rfl)
  · exact writesLanes_of_vecOp (vmaxBody e.val) rfl h rfl (by rw [hf, kindOk_int ha, kindOk_int hb]; rfl)
      (by rw [hf]; rfl)
      (fun i => by simp only [hf, List.map, orFlags_two]; rfl)
  · have hf := fmt_of_vmov h
    have hk : kindOf (iFmt w) = if iFmt w = 0 then .f else .i32 := by
      obtain hf | hf := hf <;> rw [hf] <;> rfl
    refine writesLanes_of_body (g := fun _ => (BitVec.ofNat 32 (iImm w), 0)) (vmovBody e.val)
        rfl h ?_ hissue (fun i => rfl)
    simp only [vmovBody, hm, hk, List.map_const', List.length_range]
    rfl
  · have hok : kindOk (iFmt w) (r.acc (iRa w)) = true := by
      obtain hf | hf := fmt_of_vmov h
      · rw [hf]; exact kindOk_float (ha.1 hf)
      · rw [hf]; exact kindOk_int (fun hk => by have := ha.2 hk; omega)
    refine writesLanes_of_body (vmovBody e.val) rfl h ?_ hissue (fun i => rfl)
    simp only [vmovBody, hm, hok]
    rfl
  · refine writesLanes_of_body (bmskBody e.val) rfl h ?_ hissue (g := fun i =>
      if ((r.sreg (iRb w)).setWidth 8 : BitVec 8).getLsbD (i / 64) then a.lane i else (0, 0)) (fun i => ?_)
    · simp only [bmskBody, hm]
      rfl
    · simp [BitVec.getLsbD_setWidth, and_comm]
  · refine movesCounting_of_body (bmskBody e.val) rfl h ?_ hissue
    simp only [bmskBody, hm]
    rfl
  · obtain ⟨t, hb', ht⟩ := saddBody_lanes (e := e) (s := s) (r := r) (w := w) rfl rfl
      (by rw [hf, kindOk_float ha, kindOk_float hb]; rfl)
    rw [hf] at hb'
    exact writesLanes_of_body (saddBody e.val) rfl h hb' ht (fun i => by rw [saddLane_fst]; rfl)
  · obtain ⟨t, hb', ht⟩ := saddBody_lanes (e := e) (s := s) (r := r) (w := w) rfl rfl
      (by rw [hf, kindOk_int ha, kindOk_int hb]; rfl)
    rw [hf] at hb'
    exact writesLanes_of_body (saddBody e.val) rfl h hb' ht (fun i => by rw [saddLane_fst]; rfl)
  · exact moves_of_body (vcrcBody e.val) rfl h rfl

end Sys2Proof.Proofs
end

section
/-!
PROOFS. The tensor store where it holds no error: what a read answers and leaves, and what a write leaves.
-/

namespace Sys2Proof.Proofs
open Sys2Proof Sys2Proof.Machine Sys2Proof.Claims

set_option Elab.async false

/-! ## Bytes of a memory -/

theorem cellRead_append (d : Byte) (m : List Host.Cell) (a k n : Nat) :
    cellRead d m a k ++ cellRead d m (a + k) n = cellRead d m a (k + n) := by
  simp only [cellRead, List.range_add, List.map_append, List.map_map]
  congr 1
  exact List.map_congr_left (fun i _ => by simp [Nat.add_assoc])

theorem cellRead_length (d : Byte) (m : List Host.Cell) (a n : Nat) : (cellRead d m a n).length = n := by simp [cellRead]

theorem cellWrite_append (d : Byte) (bs cs : List Byte) : ∀ (m : List Host.Cell) (a : Nat),
    cellWrite d (cellWrite d m a bs) (a + bs.length) cs = cellWrite d m a (bs ++ cs) := by
  induction bs with
  | nil => intro m a; rfl
  | cons b bs ih =>
    intro m a
    have := ih (cellPut d m a b) (a + 1)
    rw [List.cons_append, cellWrite, cellWrite, ← this, List.length_cons]
    congr 1
    omega

/-! ## Granules -/

theorem mem_granules {a n g : Nat} : g ∈ granules a n ↔ 0 < n ∧ a / 16 ≤ g ∧ g ≤ (a + n - 1) / 16 := by
  unfold granules
  split
  · next h => simp [h]
  · simp only [List.mem_map, List.mem_range]
    constructor
    · rintro ⟨i, hi, rfl⟩
      omega
    · rintro ⟨hn, h1, h2⟩
      exact ⟨g - a / 16, by omega, by omega⟩

/-- No granule of the bytes is poisoned. -/
def Unpoisoned (s : State) (a n : Nat) : Prop := (granules a n).all (fun g => !s.poison.contains g) = true

theorem unpoisoned_iff {s : State} {a n : Nat} : Unpoisoned s a n ↔ ∀ g ∈ granules a n, g ∉ s.poison := by
  simp [Unpoisoned]

theorem unpoisoned_part {s : State} {a n b k : Nat} (h : Unpoisoned s a n) (ha : a ≤ b) (hb : b + k ≤ a + n) :
    Unpoisoned s b k := by
  rw [unpoisoned_iff] at h ⊢
  intro g hg
  refine h g ?_
  rw [mem_granules] at hg ⊢
  obtain ⟨hk, h1, h2⟩ := hg
  refine ⟨by omega, ?_, ?_⟩
  · exact (Nat.div_le_div_right ha).trans h1
  · exact h2.trans (Nat.div_le_div_right (by omega))

/-! ## What a read leaves -/

/-- The row buffers have been used, and the accesses have counted; nothing else has changed. -/
def RowsUsed (s t : State) : Prop :=
  ∃ csr ev rc, t = { s with csr := csr, evts := ev, rowCache := rc } ∧ SameRegs s.csr csr

theorem rowsUsed_refl (s : State) : RowsUsed s s := ⟨s.csr, s.evts, s.rowCache, rfl, sameRegs_refl _⟩

theorem rowsUsed_trans {s t u : State} (h : RowsUsed s t) (k : RowsUsed t u) : RowsUsed s u := by
  obtain ⟨_, _, _, rfl, hr⟩ := h
  obtain ⟨_, _, _, rfl, hk⟩ := k
  exact ⟨_, _, _, rfl, sameRegs_trans hr hk⟩

theorem rowsUsed_count (src n : Nat) (port tc grp : Option Nat) (s : State) : RowsUsed s (count src n port tc grp s) :=
  ⟨_, _, _, rfl, sameRegs_refl _⟩

theorem rowsUsed_countReg {a : Nat} (n : Nat) (s : State) (ha : counts a = true) : RowsUsed s (s.countReg a n) := by
  unfold State.countReg
  split
  · exact rowsUsed_refl s
  · exact ⟨_, _, _, rfl, sameRegs_tabSet ha⟩

theorem rowsUsed_flaws {s t : State} (h : RowsUsed s t) : t.flaws = s.flaws := by
  obtain ⟨_, _, _, rfl, -⟩ := h
  rfl

theorem rowsUsed_poison {s t : State} (h : RowsUsed s t) : t.poison = s.poison := by
  obtain ⟨_, _, _, rfl, -⟩ := h
  rfl

theorem rowsUsed_mem {s t : State} (h : RowsUsed s t) : t.mem = s.mem := by
  obtain ⟨_, _, _, rfl, -⟩ := h
  rfl

theorem rowFill_clean (b : Blk) (gs : List Nat) (r : Nat) {s : State} (hf : s.flaws = [])
    : RowsUsed s (rowFill b gs r s) := by
  have hnone : s.flaws.filter (fun e => e.1 / 32 == r) = [] := by rw [hf]; rfl
  simp only [rowFill, hnone, List.foldl_nil]
  split
  · exact ⟨_, _, _, rfl, sameRegs_refl _⟩
  · exact rowsUsed_refl s

theorem rowRead_clean (b : Blk) (gs : List Nat) (r : Nat) {s : State} (hf : s.flaws = [])
    : RowsUsed s (rowRead b gs r s) := by
  unfold rowRead
  split
  · have h1 : RowsUsed s { s with rowCache := rowTouch s.rowCache r } := ⟨_, _, _, rfl, sameRegs_refl _⟩
    exact rowsUsed_trans (rowsUsed_trans h1 (rowsUsed_countReg 1 _ (by decide))) (rowsUsed_count _ _ _ _ _ _)
  · have h1 : RowsUsed s (count (0x0D0 + 4 * stackOf r) 8 none none none
        (count 0x0A7 1 none none none (s.countReg 0x6000130 1))) :=
      rowsUsed_trans (rowsUsed_trans (rowsUsed_countReg 1 s (by decide)) (rowsUsed_count _ _ _ _ _ _))
        (rowsUsed_count _ _ _ _ _ _)
    exact rowsUsed_trans h1 (rowFill_clean b gs r ((rowsUsed_flaws h1).trans hf))

theorem rowReads_clean (b : Blk) (gs rs : List Nat) {s : State} (hf : s.flaws = []) :
    RowsUsed s (rs.foldl (fun s r => rowRead b gs r s) s) := by
  induction rs generalizing s with
  | nil => exact rowsUsed_refl s
  | cons r rs ih =>
    have h1 := rowRead_clean b gs r hf
    exact rowsUsed_trans h1 (ih ((rowsUsed_flaws h1).trans hf))

/-- Where the store holds no error and no granule read is poisoned, a read finds nothing bad (R286). -/
theorem granulesRead_clean (b : Blk) {gs : List Nat} {s : State} (hf : s.flaws = []) (hp : ∀ g ∈ gs, g ∉ s.poison) :
    (granulesRead b gs s).1 = [] ∧ RowsUsed s (granulesRead b gs s).2 := by
  have h1 := rowReads_clean b gs (rowsOf gs) hf
  have hold : gs.filter s.poison.contains = [] := by simpa using hp
  simp only [granulesRead, hold]
  generalize (rowsOf gs).foldl (fun s r => rowRead b gs r s) s = t at h1 ⊢
  refine ⟨?_, rowsUsed_trans h1 (rowsUsed_trans (rowsUsed_count _ _ _ _ _ _) (rowsUsed_count _ _ _ _ _ _))⟩
  have := rowsUsed_poison h1
  simpa [raiseIf, count, this] using hp

theorem storeRead_clean (b : Blk) {a n : Nat} {s : State} (hf : s.flaws = []) (hp : Unpoisoned s a n) :
    ∃ t, storeRead b a n s = ([], cellRead 0 s.mem a n, t) ∧ RowsUsed s t := by
  obtain ⟨hbad, hu⟩ := granulesRead_clean b hf (unpoisoned_iff.1 hp)
  refine ⟨(granulesRead b (granules a n) s).2, ?_, hu⟩
  simp only [storeRead, hbad, rowsUsed_mem hu]

/-! ## What a write leaves -/

theorem tabDel_nil {α : Type} (k : Nat) : tabDel ([] : Tab α) k = [] := rfl

theorem clean_part {s : State} {a n b k : Nat} (h : Clean s a n) (ha : a ≤ b) (hb : b + k ≤ a + n) : Clean s b k := by
  intro g hg
  refine h g ?_
  rw [mem_granules] at hg ⊢
  obtain ⟨hk, h1, h2⟩ := hg
  exact ⟨by omega, (Nat.div_le_div_right ha).trans h1, h2.trans (Nat.div_le_div_right (by omega))⟩

/-- A write of part of a granule, or of a whole one, that holds no error. -/
theorem granuleWrite_clean {a : Nat} (bs : List Byte) {s : State} (hf : tabGet s.flaws (a / 16) = none) (hp : a / 16 ∉ s.poison) :
    (granuleWrite a bs s).mem = cellWrite 0 s.mem a bs ∧
      (∀ g, tabGet s.flaws g = none → tabGet (granuleWrite a bs s).flaws g = none) ∧
      ∀ g, g ∈ (granuleWrite a bs s).poison → g ∈ s.poison := by
  unfold granuleWrite
  simp only [count, hf]
  split
  · exact ⟨rfl, fun g hg => by rw [tabGet_tabDel]; split <;> trivial, fun g hg => (List.mem_filter.1 hg).1⟩
  · simp [hp]

theorem clean_granuleWrite {a b n : Nat} {bs : List Byte} {s : State} (h : Clean s b n) (hf : tabGet s.flaws (a / 16) = none)
    (hp : a / 16 ∉ s.poison) : Clean (granuleWrite a bs s) b n := by
  obtain ⟨-, hfl, hpo⟩ := granuleWrite_clean bs hf hp
  intro g hg
  obtain ⟨hgp, hgf⟩ := h g hg
  simp only [List.contains_eq_mem, decide_eq_false_iff_not] at hgp ⊢
  exact ⟨fun hq => hgp (hpo g hq), hfl g hgf⟩

theorem storeWriteLoop_clean {fuel a : Nat} {bs : List Byte} {s : State} (hfuel : bs.length < fuel)
    (h : Clean s a bs.length) : (storeWriteLoop fuel a bs s).mem = cellWrite 0 s.mem a bs := by
  induction fuel generalizing a bs s with
  | zero => omega
  | succ f ih =>
    unfold storeWriteLoop
    split
    · next h => rw [List.isEmpty_iff.1 h]; rfl
    · next hbs =>
      have hne : 0 < bs.length := List.length_pos_iff.2 (by simpa using hbs)
      obtain ⟨hgp, hgf⟩ := h (a / 16) (mem_granules.2 ⟨hne, le_rfl, Nat.div_le_div_right (by omega)⟩)
      have hg : a / 16 ∉ s.poison := by simpa using hgp
      obtain ⟨hm, -⟩ := granuleWrite_clean (bs.take (16 - a % 16)) hgf hg
      have hrest : Clean s (a + (16 - a % 16)) (bs.drop (16 - a % 16)).length := by
        by_cases hk : 16 - a % 16 ≤ bs.length
        · exact clean_part h (by omega) (by rw [List.length_drop]; omega)
        · have hz : (bs.drop (16 - a % 16)).length = 0 := by rw [List.length_drop]; omega
          rw [hz]
          exact fun g hg => absurd (mem_granules.1 hg).1 (by omega)
      rw [ih (by rw [List.length_drop]; omega) (clean_granuleWrite hrest hgf hg), hm]
      by_cases hk : 16 - a % 16 ≤ bs.length
      · have hl : (bs.take (16 - a % 16)).length = 16 - a % 16 := by rw [List.length_take]; omega
        have := cellWrite_append 0 (bs.take (16 - a % 16)) (bs.drop (16 - a % 16)) s.mem a
        rwa [hl, List.take_append_drop] at this
      · rw [List.drop_eq_nil_of_le (by omega), List.take_of_length_le (by omega)]
        rfl

theorem storeWrite_clean {a : Nat} {bs : List Byte} {s : State} (h : Clean s a bs.length) :
    (storeWrite a bs s).mem = cellWrite 0 s.mem a bs := by
  obtain ⟨_, _, _, _, he, -⟩ := countBursts_only a bs.length s
  unfold storeWrite
  rw [he]
  exact storeWriteLoop_clean (by omega) h

theorem clean_of_unpoisoned {s : State} {a n : Nat} (hf : s.flaws = []) (hp : Unpoisoned s a n) : Clean s a n := fun g hg =>
  ⟨by simpa using unpoisoned_iff.1 hp g hg, by rw [hf]; rfl⟩

end Sys2Proof.Proofs
end

section
/-!
PROOFS. The memory of an engine: local space, the store and the tile cache (O4).
-/

namespace Sys2Proof.Proofs
open Sys2Proof Sys2Proof.Machine Sys2Proof.Claims

set_option Elab.async false

variable {e : Fin 64} {k : Fin 16} {s : State} {r : Run} {w : W64} {opc : Nat}

/-! ## Reads and writes -/

theorem localScan_clean (gs : List Nat) (h : Whole s) : localScan e.val gs s = ([], s) := by
  obtain ⟨hg, hp⟩ := h
  unfold localScan
  rw [memScan_clean _ _ _ hg hp]
  rfl

theorem engRead_local (h : Whole s) (fresh : Bool) (off n : Nat) :
    engRead e.val fresh (.loc off) n s = (some (cellRead 0 (s.engine e.val).loc off n), s) := by
  simp only [engRead, localRead, localScan_clean _ h]
  rfl

/-- The store stands as it did, nothing is raised, and registers have only counted. -/
def StoreKept (s t : State) : Prop :=
  t.mem = s.mem ∧ t.poison = s.poison ∧ t.flaws = s.flaws ∧ t.raised = s.raised ∧ SameRegs s.csr t.csr

theorem storeKept_refl (s : State) : StoreKept s s := ⟨rfl, rfl, rfl, rfl, sameRegs_refl _⟩

theorem storeKept_trans {s t u : State} (h : StoreKept s t) (k : StoreKept t u) : StoreKept s u := by
  obtain ⟨hm, hp, hf, hr, hc⟩ := h
  obtain ⟨km, kp, kf, kr, kc⟩ := k
  exact ⟨km.trans hm, kp.trans hp, kf.trans hf, kr.trans hr, sameRegs_trans hc kc⟩

theorem storeKept_of_rowsUsed {s t : State} (h : RowsUsed s t) : StoreKept s t := by
  obtain ⟨_, _, _, rfl, hr⟩ := h
  exact ⟨rfl, rfl, rfl, rfl, hr⟩

theorem storeKept_modEngine {s t : State} (n : Nat) (f : Engine → Engine) (h : StoreKept s t)
    : StoreKept s (t.modEngine n f) := h

/-- A fresh read of a row free of errors (R253). -/
theorem tileReadRow_fresh {a n : Nat} (hf : s.flaws = []) (hp : Unpoisoned s a n) :
    ∃ t, tileReadRow e.val true a n s = (some (cellRead 0 s.mem a n), t) ∧ StoreKept s t := by
  obtain ⟨t, ht, hu⟩ := storeRead_clean (jBlk e.val) hf hp
  unfold tileReadRow
  simp only [if_true, ht]
  split
  · next h => cases h
  · exact ⟨_, rfl, storeKept_modEngine _ _ (storeKept_of_rowsUsed hu)⟩

theorem tileRead_fresh {fuel a n : Nat} (hn : n < fuel) (hf : s.flaws = []) (hp : Unpoisoned s a n) :
    ∃ t, tileRead fuel e.val true a n s = (some (cellRead 0 s.mem a n), t) ∧ StoreKept s t := by
  induction fuel generalizing a n s with
  | zero => omega
  | succ f ih =>
    unfold tileRead
    split
    · next h => exact ⟨s, by rw [h]; rfl, storeKept_refl s⟩
    · next h =>
      have hk : min n (512 - a % 512) ≤ n := Nat.min_le_left _ _
      have hk0 : 0 < min n (512 - a % 512) := by omega
      obtain ⟨t, ht, hs⟩ := tileReadRow_fresh (e := e) hf (unpoisoned_part hp le_rfl (by omega : a + min n (512 - a %
          512) ≤ a + n))
      have hs' := hs
      obtain ⟨hm, hpo, hfl, -, -⟩ := hs'
      have hp' : Unpoisoned t (a + min n (512 - a % 512)) (n - min n (512 - a % 512)) := by
        unfold Unpoisoned
        rw [hpo]
        exact unpoisoned_part hp (by omega) (by omega)
      obtain ⟨u, hu, hsu⟩ := ih (s := t) (by omega) (hfl.trans hf) hp'
      refine ⟨u, ?_, storeKept_trans hs hsu⟩
      simp only [ht, hu, hm, cellRead_append]
      rw [Nat.add_sub_cancel' hk]

theorem tileScan_clean {gs : List Nat} {l : TLine} (hl : l.flaws = []) : tileScan e.val gs l s = (l, s) := by
  obtain ⟨row, bytes, bad, flaws⟩ := l
  simp only at hl
  subst hl
  rfl

/-- A read of bytes of one row that a line of the tile cache holds, free of errors (R253). -/
theorem tileRead_cached {a n : Nat} {l : TLine} (hl : (s.engine e.val).tcache.find? (fun l => l.row == a / 512) = some l)
    (hn : 0 < n) (hr : a % 512 + n ≤ 512) (hbad : (granules (a % 512) n).any l.bad.contains = false) (hf : l.flaws = []) :
    ∃ t, tileRead (n + 1) e.val false a n s = (some (slice l.bytes (a % 512) n), t) ∧ t.mem = s.mem ∧ t.raised =
      s.raised := by
  have hk : min n (512 - a % 512) = n := by omega
  have hrow : ∃ t, tileReadRow e.val false a n s = (some (slice l.bytes (a % 512) n), t) ∧ t.mem = s.mem ∧ t.raised =
      s.raised := by
    unfold tileReadRow
    simp only [hl, hbad, raiseIf, tileScan_clean hf]
    exact ⟨_, rfl, rfl, rfl⟩
  obtain ⟨t, ht, hm, hra⟩ := hrow
  refine ⟨t, ?_, hm, hra⟩
  unfold tileRead
  rw [if_neg (by omega)]
  simp only [hk, ht, Nat.sub_self]
  obtain ⟨m, rfl⟩ : ∃ m, n = m + 1 := ⟨n - 1, by omega⟩
  simp [tileRead]

theorem tileScan_mem (gs : List Nat) (l : TLine) (s : State) : (tileScan e.val gs l s).2.mem = s.mem := by
  unfold tileScan
  refine foldl_keeps (R := fun x y : TLine × State => y.2.mem = x.2.mem) (fun _ => rfl) (fun h k => k.trans h)
      (fun x a => ?_) _ _
  split
  · rfl
  · rfl
  · rfl
  · obtain ⟨_, _, _, _, _, _, he, -⟩ := raise_only (jBlk e.val) 0 x.2
    show (raise (jBlk e.val) 0 x.2).mem = x.2.mem
    rw [he]

theorem tileTake_mem (a n : Nat) (l : TLine) (s : State) : (tileTake e.val a n l s).2.mem = s.mem := by
  unfold tileTake
  dsimp only
  split
  · dsimp only
    exact tileScan_mem _ _ _
  · rfl

/-- The lines that an engine holds follow a write to the store; the store does not change with them. -/
theorem tileUpdate_mem (a n : Nat) (s : State) : (tileUpdate e.val a n s).mem = s.mem := by
  unfold tileUpdate
  exact foldl_keeps (R := fun x y : List TLine × State => y.2.mem = x.2.mem) (fun _ => rfl) (fun h k => k.trans h)
    (fun x l => tileTake_mem a n l x.2) _ _

theorem engWrite_local (h : Whole s) (off : Nat) (bs : List Byte) (x : Nat) :
    cellGet 0 ((engWrite e.val (.loc off) bs s).engine e.val).loc x =
      if off ≤ x ∧ x < off + bs.length then bs.getD (x - off) 0 else cellGet 0 (s.engine e.val).loc x := by
  have hl : ((engWrite e.val (.loc off) bs s).engine e.val).loc = cellWrite 0 (s.engine e.val).loc off bs := by
    simp only [engWrite, localWrite, localScan_clean _ h]
    exact congrArg Engine.loc (engine_setEngine_same s e.val _)
  rw [hl, cellGet_cellWrite]

end Sys2Proof.Proofs
end

section
/-!
PROOFS. The instructions that reach memory: loads, stores, DMA and VSCALE by a vector (O4).
-/

namespace Sys2Proof.Proofs
open Sys2Proof Sys2Proof.Machine Sys2Proof.Claims

set_option Elab.async false

variable {e : Fin 64} {k : Fin 16} {s : State} {r : Run} {w : W64} {opc : Nat}

/-! ## The record of issues stands beside all that a write to memory does -/

/-- The state with another record of the cycle's issues. -/
def issuedAs (i : Tab Nat) (s : State) : State := { s with issued := i }

theorem raise_issuedAs (i : Tab Nat) (b : Blk) (src : Nat) (s : State) :
    raise b src (issuedAs i s) = issuedAs i (raise b src s) := by
  have ho : (issuedAs i s).regN (blkFlt b) = s.regN (blkFlt b) := rfl
  have hc : collected ((issuedAs i s).setSticky (blkFlt b) (BitVec.ofNat 64 (2 ^ src))) =
    collected (s.setSticky (blkFlt b) (BitVec.ofNat 64 (2 ^ src))) := rfl
  simp only [raise, ho, hc]
  split
  · rfl
  · split <;> rfl

theorem count_issuedAs (i : Tab Nat) (src n : Nat) (port tc grp : Option Nat) (s : State) :
    count src n port tc grp (issuedAs i s) = issuedAs i (count src n port tc grp s) := rfl

theorem countReg_issuedAs (i : Tab Nat) (a n : Nat) (s : State) : (issuedAs i s).countReg a n =
    issuedAs i (s.countReg a n) := by
  unfold State.countReg
  split <;> rfl

theorem flawRead_issuedAs (i : Tab Nat) (b : Blk) (g : Nat) (x : Flaw) (s : State) :
    flawRead b g x (issuedAs i s) = issuedAs i (flawRead b g x s) := by
  unfold flawRead
  split
  · rfl
  · rfl
  · rfl
  · rw [← raise_issuedAs, ← raise_issuedAs]
    rfl

/-- A latent error that a write of part of a granule meets. -/
def flawMet (g : Nat) (s : State) : State :=
  match tabGet s.flaws g with
  | some e => if s.rowCache.contains (g / 32) then { s with flaws := tabDel s.flaws g } else flawRead .tsc g e s
  | none => s

/-- A write of part of a granule whose latent error has been met. -/
def partWritten (a : Nat) (bs : List Byte) (s : State) : State :=
  if s.poison.contains (a / 16) then raise .tsc 0 (count 0x0AB 1 none none none (s.countReg 0x6000110 1))
  else { s with mem := cellWrite 0 s.mem a bs }

theorem granuleWrite_eq (a : Nat) (bs : List Byte) (s : State) : granuleWrite a bs s =
    if bs.length = 16 then { count 0x0A4 1 none none none s with
      mem := cellWrite 0 s.mem a bs, poison := s.poison.filter (· != a / 16), flaws := tabDel s.flaws (a / 16) }
    else partWritten a bs (flawMet (a / 16) (count 0x0A4 1 none none none s)) := rfl

theorem flawMet_issuedAs (i : Tab Nat) (g : Nat) (s : State) : flawMet g (issuedAs i s) = issuedAs i (flawMet g s) := by
  have hf : (issuedAs i s).flaws = s.flaws := rfl
  have hr : (issuedAs i s).rowCache = s.rowCache := rfl
  unfold flawMet
  rw [hf, hr]
  split
  · split
    · rfl
    · exact flawRead_issuedAs _ _ _ _ _
  · rfl

theorem partWritten_issuedAs (i : Tab Nat) (a : Nat) (bs : List Byte) (s : State) :
    partWritten a bs (issuedAs i s) = issuedAs i (partWritten a bs s) := by
  have hp : (issuedAs i s).poison = s.poison := rfl
  unfold partWritten
  rw [hp]
  split
  · rw [countReg_issuedAs, count_issuedAs, raise_issuedAs]
  · rfl

theorem granuleWrite_issuedAs (i : Tab Nat) (a : Nat) (bs : List Byte) (s : State) :
    granuleWrite a bs (issuedAs i s) = issuedAs i (granuleWrite a bs s) := by
  rw [granuleWrite_eq, granuleWrite_eq]
  split
  · rfl
  · rw [count_issuedAs, flawMet_issuedAs, partWritten_issuedAs]

theorem foldl_issuedAs {α : Type} {f : State → α → State} (i : Tab Nat) (hf : ∀ s x, f (issuedAs i s) x =
    issuedAs i (f s x))
    (l : List α) (s : State) : l.foldl f (issuedAs i s) = issuedAs i (l.foldl f s) := by
  induction l generalizing s with
  | nil => rfl
  | cons x l ih => rw [List.foldl_cons, List.foldl_cons, hf, ih]

theorem storeWriteLoop_issuedAs (i : Tab Nat) (fuel a : Nat) (bs : List Byte) (s : State) :
    storeWriteLoop fuel a bs (issuedAs i s) = issuedAs i (storeWriteLoop fuel a bs s) := by
  induction fuel generalizing a bs s with
  | zero => rfl
  | succ f ih =>
    unfold storeWriteLoop
    split
    · rfl
    · simp only [granuleWrite_issuedAs, ih]

theorem storeWrite_issuedAs (i : Tab Nat) (a : Nat) (bs : List Byte) (s : State) :
    storeWrite a bs (issuedAs i s) = issuedAs i (storeWrite a bs s) := by
  have hb : countBursts a bs.length (issuedAs i s) = issuedAs i (countBursts a bs.length s) := by
    unfold countBursts
    split
    · rfl
    · exact foldl_issuedAs i (fun _ _ => rfl) _ _
  simp only [storeWrite, hb, storeWriteLoop_issuedAs]

/-- As `foldl_issuedAs`, beside a value that a fold carries. -/
theorem foldl_snd_issuedAs {α β : Type} {f : β × State → α → β × State} (i : Tab Nat)
    (hf : ∀ b s x, f (b, issuedAs i s) x = ((f (b, s) x).1, issuedAs i (f (b, s) x).2)) (l : List α) (b : β) (s : State) :
    l.foldl f (b, issuedAs i s) = ((l.foldl f (b, s)).1, issuedAs i (l.foldl f (b, s)).2) := by
  induction l generalizing b s with
  | nil => rfl
  | cons x l ih => rw [List.foldl_cons, List.foldl_cons, hf, ih]

theorem tileScan_issuedAs (i : Tab Nat) (gs : List Nat) (l : TLine) (s : State) :
    tileScan e.val gs l (issuedAs i s) = ((tileScan e.val gs l s).1, issuedAs i (tileScan e.val gs l s).2) := by
  refine foldl_snd_issuedAs i (fun b t x => ?_) _ _ _
  cases flawClass x.2 with
  | clean => rfl
  | corrected => rfl
  | missed r => rfl
  | detected => exact congrArg (Prod.mk _) (raise_issuedAs i _ _ _)

theorem tileTake_issuedAs (i : Tab Nat) (a n : Nat) (l : TLine) (s : State) :
    tileTake e.val a n l (issuedAs i s) = ((tileTake e.val a n l s).1, issuedAs i (tileTake e.val a n l s).2) := by
  unfold tileTake
  dsimp only
  split
  · simp only [tileScan_issuedAs]
    rfl
  · rfl

theorem tileUpdate_issuedAs (i : Tab Nat) (a n : Nat) (s : State) :
    tileUpdate e.val a n (issuedAs i s) = issuedAs i (tileUpdate e.val a n s) := by
  unfold tileUpdate
  rw [foldl_snd_issuedAs i (fun b t l => by simp only [tileTake_issuedAs])]
  rfl

theorem localWrite_issuedAs (h : Whole s) (i : Tab Nat) (off : Nat) (bs : List Byte) :
    localWrite e.val off bs (issuedAs i s) = issuedAs i (localWrite e.val off bs s) := by
  have hi : Whole (issuedAs i s) := h
  simp only [localWrite, localScan_clean _ h, localScan_clean _ hi]
  rfl

theorem engWrite_issuedAs (h : Whole s) (i : Tab Nat) (sp : Space) (bs : List Byte) :
    engWrite e.val sp bs (issuedAs i s) = issuedAs i (engWrite e.val sp bs s) := by
  cases sp with
  | store a => simp only [engWrite, storeWrite_issuedAs, tileUpdate_issuedAs]
  | loc off => exact localWrite_issuedAs h i off bs
  | bad => rfl

/-! ## The instructions of class M -/

theorem ea_eq (w : W64) (r : Run) : ea w r = eaOf w r := by
  simp [ea, eaOf]

theorem accessExc_none {a n align : Nat} (hb : eaSpace a n ≠ .bad) (ha : a % align = 0) : accessExc a n align = 0 := by
  simp [accessExc, hb, ha]

theorem scalarLoad_fst (fmt x : Nat) : (scalarLoad fmt x).1 = loadedScalar fmt x := by
  unfold scalarLoad loadedScalar
  by_cases h : fmt < 5 <;> simp [fmtFloat, h]

theorem kindLoad_eq (fmt : Nat) : kindLoad fmt = loadKind fmt := by
  unfold kindLoad loadKind
  simp [fmtFloat]

/-- An instruction whose body puts a run in a state it reaches. -/
theorem does_of_body {c : Instr} {r' : Run} {t : State} (body : W64 → Run → State → State)
    (hc : exec c s = .next (instr e.val k.val opc body s)) (h : Ready s e k opc r w)
    (hb : body w r s = putRun e.val r' t) : Does c s (Noted (putRun e.val r' t)) := by
  rw [instr_of_ready body h, hb] at hc
  exact ⟨_, hc, noteIssue_shape _ _ _ _⟩

/-- As `does_of_body`, where what the body has reached has only counted. -/
theorem puts_of_body {c : Instr} {r' : Run} {t u : State} (body : W64 → Run → State → State)
    (hc : exec c s = .next (instr e.val k.val opc body s)) (h : Ready s e k opc r w)
    (hb : body w r s = putRun e.val r' u) (hu : CountsOnly t u) :
    ∃ v, exec c s = .next (putRun e.val r' v) ∧ CountsOnly t v := by
  obtain ⟨v, hv, hn⟩ := noteIssue_putRun (e := e) (w := w) (r := r) r' u
  rw [instr_of_ready body h, hb, hv] at hc
  exact ⟨v, hc, countsOnly_trans hu (countsOnly_of_noted hn)⟩

/-- The lanes of an accumulator over which a list of values is written. -/
theorem writeLanes_getD_new {d : Acc} {kind : Kind} {mask : BitVec 8} {vs : List (W32 × Fl)} {i : Nat} (hv : i <
    vs.length)
    (hl : i < d.lanes.length) : (writeLanes d kind mask vs).lanes.getD i 0 = (vs.getD i (0, 0)).1 := by
  rw [writeLanes, overlay_getD_new _ (by simpa using hv) hl]
  simp [List.getD_eq_getElem?_getD, hv]

theorem writeLanes_getD_old {d : Acc} {kind : Kind} {mask : BitVec 8} {vs : List (W32 × Fl)} {i : Nat} (hv : vs.length
    ≤ i) :
    (writeLanes d kind mask vs).lanes.getD i 0 = d.lanes.getD i 0 := by
  rw [writeLanes, overlay_getD_old _ (by simpa using hv)]

theorem ldsBody_word {bs : List Byte} {t : State} (hm : iM1 w = true) (hb : eaSpace (eaOf w r) 8 ≠ .bad)
    (ha : eaOf w r % 8 = 0)
    (hw : storeWait s (eaOf w r) = false) (hr : engRead e.val (iM0 w) (eaSpace (eaOf w r) 8) 8 (issueM e.val s) =
      (some bs, t)) :
    ldsBody e.val w r s = putRun e.val { r with pc := r.pc + 1, s := r.s.set (iRd w) (BitVec.ofNat 64 (leNat bs))
      } t := by
  simp only [ldsBody, ea_eq, hm, if_true, accessExc_none hb ha, hw, hr]
  rfl

theorem ldsBody_elem {bs : List Byte} {t : State} (hm : iM1 w = false) (hb : eaSpace (eaOf w r) (fmtSize (iFmt w)) ≠ .bad)
    (ha : eaOf w r % fmtSize (iFmt w) = 0) (hw : storeWait s (eaOf w r) = false)
    (hr : engRead e.val (iM0 w) (eaSpace (eaOf w r) (fmtSize (iFmt w))) (fmtSize (iFmt w)) (issueM e.val s) = (some bs,
      t)) :
    ldsBody e.val w r s = putRun e.val { r with pc := r.pc + 1, s := r.s.set (iRd w) (loadedScalar (iFmt w) (leNat bs)) }
      (engFlags e.val [(scalarLoad (iFmt w) (leNat bs)).2] t) := by
  simp only [ldsBody, ea_eq, hm, Bool.false_eq_true, if_false, accessExc_none hb ha, hw, hr, scalarLoad_fst]
  rfl

theorem ldvBody_eq {fresh : Bool} {bs : List Byte} {t : State} (hb : eaSpace (eaOf w r) (r.vl * fmtSize (iFmt w)) ≠ .bad)
    (ha : eaOf w r % 16 = 0) (hw : storeWait s (eaOf w r) = false)
    (hr : engRead e.val fresh (eaSpace (eaOf w r) (r.vl * fmtSize (iFmt w))) (r.vl * fmtSize (iFmt w)) (issueM e.val s)
      = (some bs, t)) :
    ldvBody fresh e.val w r s = putRun e.val { r with pc := r.pc + 1, a := r.a.set (iRd w) (writeLanes (r.acc (iRd w))
        (loadKind (iFmt w)) 0xFF ((elemsOf (iFmt w) bs).map (fmtWiden (iFmt w)))) }
      (engFlags e.val (((elemsOf (iFmt w) bs).map (fmtWiden (iFmt w))).map Prod.snd) t) := by
  simp only [ldvBody, ea_eq, accessExc_none hb ha, hw, hr, kindLoad_eq]
  rfl

theorem load_lanes {d : Acc} {kind : Kind} {fmt : Nat} {xs : List Nat} :
    (∀ i, i < xs.length → i < d.lanes.length →
      (writeLanes d kind 0xFF (xs.map (fmtWiden fmt))).lanes.getD i 0 = (fmtWiden fmt (xs.getD i 0)).1) ∧
    (∀ i, xs.length ≤ i → (writeLanes d kind 0xFF (xs.map (fmtWiden fmt))).lanes.getD i 0 = d.lanes.getD i 0) := by
  refine ⟨fun i hi hl => ?_, fun i hi => writeLanes_getD_old (by simpa using hi)⟩
  rw [writeLanes_getD_new (by simpa using hi) hl]
  simp [List.getD_eq_getElem?_getD, hi]

theorem ldv_lanes {fresh : Bool} {c : Instr} {bs : List Byte} {t : State}
    (hc : exec c s = .next (instr e.val k.val opc (ldvBody fresh e.val) s)) (h : Ready s e k opc r w)
    (hb : eaSpace (eaOf w r) (r.vl * fmtSize (iFmt w)) ≠ .bad) (ha : eaOf w r % 16 = 0) (hw : storeWait s (eaOf w r) =
      false)
    (hr : engRead e.val fresh (eaSpace (eaOf w r) (r.vl * fmtSize (iFmt w))) (r.vl * fmtSize (iFmt w)) (issueM e.val s)
      = (some bs, t)) :
    ∃ u acc, exec c s = .next (putRun e.val { r with pc := r.pc + 1, a := r.a.set (iRd w) acc } u) ∧
      CountsOnly t u ∧ acc.kind = loadKind (iFmt w) ∧ acc.mask = 0xFF ∧
      (∀ i, i < (elemsOf (iFmt w) bs).length → i < (r.acc (iRd w)).lanes.length →
        acc.lanes.getD i 0 = (fmtWiden (iFmt w) ((elemsOf (iFmt w) bs).getD i 0)).1) ∧
      (∀ i, (elemsOf (iFmt w) bs).length ≤ i → acc.lanes.getD i 0 = (r.acc (iRd w)).lanes.getD i 0) := by
  obtain ⟨v, hv, hn⟩ := puts_of_body _ hc h (ldvBody_eq hb ha hw hr) (engFlags_countsOnly e _ t)
  exact ⟨v, _, hv, hn, rfl, rfl, load_lanes⟩

/-- What STV leaves of its run but for the place it goes on at. -/
theorem noteOut_shape (r : Run) (fls : List Fl) :
    (noteOut r fls).next = { r with pc := r.pc + 1, flags := (noteOut r fls).flags, first := (noteOut r fls).first } :=
      rfl

theorem stvBody_eq (hk : kindOk (iFmt w) (r.acc (iRb w)) = true) (hb : eaSpace (eaOf w r) (r.vl * fmtSize (iFmt w))
    ≠ .bad)
    (ha : eaOf w r % 16 = 0) (hw : storeWait s (eaOf w r) = false) :
    ∃ fls fs, stvBody e.val w r s = putRun e.val (noteOut r fls).next (engWrite e.val (eaSpace (eaOf w r)
      (r.vl * fmtSize (iFmt w)))
      ((List.range r.vl).flatMap (fun i => leBytes (fmtSize (iFmt w)) (fmtNarrow (iFmt w)
        r.convInf ((r.acc (iRb w)).lane i).1).1))
      (engFlags e.val fs (issueM e.val s))) := by
  simp only [stvBody, ea_eq, hk, accessExc_none hb ha, hw, List.flatMap_map]
  exact ⟨_, _, rfl⟩

theorem stvBody_waits (hk : kindOk (iFmt w) (r.acc (iRb w)) = true) (hb : eaSpace (eaOf w r) (r.vl * fmtSize (iFmt w))
    ≠ .bad)
    (ha : eaOf w r % 16 = 0) (hw : storeWait s (eaOf w r) = true) : stvBody e.val w r s = s := by
  simp only [stvBody, ea_eq, hk, accessExc_none hb ha, hw]
  rfl

theorem whole_of_countsOnly {t : State} (h : Whole s) (hc : CountsOnly s t) : Whole t := by
  obtain ⟨_, _, _, _, rfl, -⟩ := hc
  exact h

/-- An instruction whose body writes to memory and puts its run. -/
theorem writes_of_body {c : Instr} {r' : Run} {t : State} {sp : Space} {bs : List Byte} (body : W64 → Run → State → State)
    (hc : exec c s = .next (instr e.val k.val opc body s)) (h : Ready s e k opc r w)
    (hb : body w r s = putRun e.val r' (engWrite e.val sp bs t)) (ht : CountsOnly s t) :
    ∃ u, exec c s = .next (putRun e.val r' (engWrite e.val sp bs u)) ∧ CountsOnly s u := by
  have hwhole : Whole s := h.2.1
  obtain ⟨i, hi⟩ := noteIssue_shape e.val w r (putRun e.val r' (engWrite e.val sp bs t))
  refine ⟨issuedAs i t, ?_, countsOnly_trans ht (countsOnly_of_noted ⟨i, rfl⟩)⟩
  rw [hc, instr_of_ready body h, hb, hi, engWrite_issuedAs (whole_of_countsOnly hwhole ht)]
  rfl

theorem dmaBody_eq {bs : List Byte} {t : State} (h1 : 1 ≤ (r.sreg (iRc w)).toNat) (h2 : (r.sreg (iRc w)).toNat ≤ 1048576)
    (h3 : (r.sreg (iRc w)).toNat % 16 = 0)
    (hp : dmaPair (eaSpace (r.sreg (iRa w)).toNat (r.sreg (iRc w)).toNat)
      (eaSpace (r.sreg (iRb w)).toNat (r.sreg (iRc w)).toNat) = true)
    (hs : (r.sreg (iRa w)).toNat % 16 = 0) (hd : (r.sreg (iRb w)).toNat % 16 = 0) (hq : r.dmas.length < 8)
      (hw : s.wiping = false)
    (hr : engRead e.val true (eaSpace (r.sreg (iRa w)).toNat (r.sreg (iRc w)).toNat)
      (r.sreg (iRc w)).toNat (issueM e.val s) = (some bs, t)) :
    dmaBody e.val w r s = putRun e.val { r with
        pc := r.pc + 1, dmas := r.dmas ++ [⟨(r.sreg (iRa w)).toNat, (r.sreg (iRb w)).toNat, (r.sreg (iRc w)).toNat⟩] }
      (engWrite e.val (eaSpace (r.sreg (iRb w)).toNat (r.sreg (iRc w)).toNat) bs t) := by
  have hn : ¬ ((r.sreg (iRc w)).toNat = 0 ∨ 1048576 < (r.sreg (iRc w)).toNat ∨ (r.sreg (iRc w)).toNat % 16 ≠ 0) :=
      by omega
  have ha : ¬ ((r.sreg (iRa w)).toNat % 16 ≠ 0 ∨ (r.sreg (iRb w)).toNat % 16 ≠ 0) := by omega
  have hq' : ¬ 8 ≤ r.dmas.length := by omega
  simp only [dmaBody, if_neg hn, hp, if_neg ha, hq', hw, hr]
  rfl

theorem scale_address (w : W64) (r : Run) :
    (r.sreg (iRb w) + BitVec.ofNat 64 (iImm w)).toNat = ((r.sreg (iRb w)).toNat + iImm w) % 2 ^ 64 := by simp

theorem vscaleBody_vector {bs : List Byte} {t : State} {f : Nat} (hm : iM0 w = true) (hk : (r.acc (iRa w)).kind = .f)
    (hf : f = ((r.sreg (iRb w)).toNat + iImm w) % 2 ^ 64) (hb : eaSpace f (r.vl * fmtSize (iFmt w)) ≠ .bad)
      (ha : f % 16 = 0)
    (hw : storeWait s f = false)
    (hr : engRead e.val (iM1 w) (eaSpace f (r.vl * fmtSize (iFmt w))) (r.vl * fmtSize (iFmt w))
      (issueV e.val (issueM e.val s)) = (some bs, t)) :
    ∃ (fl : Nat → Fl) (u : State), vscaleBody e.val w r s = putRun e.val { r with
        pc := r.pc + 1
        a := r.a.set (iRd w) (writeLanes (r.acc (iRd w)) .f 0xFF ((List.range r.vl).map (fun i =>
          ((fmul r.convInf ((r.acc (iRa w)).lane i).1 ((((elemsOf (iFmt w)
            bs).map (fmtWiden (iFmt w))).map Prod.fst).getD i 0)).1,
            fl i)))) } u ∧ CountsOnly t u := by
  have hbody : vscaleBody e.val w r s = vscaleVector e.val w r s := by simp [vscaleBody, hk, hm]
  have hx : (if eaSpace f (r.vl * fmtSize (iFmt w)) = .bad then 3 else if f % 16 ≠ 0 then 4 else 0) = 0 := by simp [hb,
      ha]
  rw [hbody]
  simp only [vscaleVector, scale_address, ← hf, hx, hw, hr, laneMap, List.map_map]
  exact ⟨_, _, rfl, countsOnly_trans (engFlags_countsOnly e _ t) (engFlags_countsOnly e _ _)⟩

/-- Settles O4: the reads and writes by the space they name, the instructions by what they read and write there. -/
theorem engineMemoryIsReadAndWritten : Obligations.EngineMemoryIsReadAndWritten := by
  refine ⟨fun e s off a n bs => ⟨fun h fresh => engRead_local h fresh off n, fun hf hp => ?_, fun l hl hn hr hbad hf =>
    tileRead_cached hl hn hr hbad hf, fun h x => engWrite_local h off bs x, fun hf hp x => ?_⟩, ?_⟩
  · obtain ⟨t, ht, hm, hpo, -, hra, hc⟩ := tileRead_fresh (e := e) (Nat.lt_succ_self n) hf hp
    exact ⟨t, ht, hm, hpo, hra, hc⟩
  · show cellGet 0 (tileUpdate e.val a bs.length (storeWrite a bs s)).mem x = _
    rw [tileUpdate_mem, storeWrite_clean (clean_of_unpoisoned hf hp), cellGet_cellWrite]
  · intro e k s r w a fmt size count
    refine ⟨fun bs t h hm hb ha hw hr => ?_, fun bs t h hm hb ha hw hr => ?_, fun fresh bs t h hb ha hw hr => ?_,
      fun h hk hb ha hw => ?_, fun bs t h h1 h2 h3 hp hs hd hq hw hr => ?_, fun h hk hb ha hw => ?_,
      fun bs t h hm hk hb ha hw hr => ?_⟩
    · exact does_of_body (ldsBody e.val) rfl h (ldsBody_word hm hb ha hw hr)
    · exact puts_of_body (ldsBody e.val) rfl h (ldsBody_elem hm hb ha hw hr) (engFlags_countsOnly e _ t)
    · cases fresh
      · exact ldv_lanes (fresh := false) rfl h hb ha hw hr
      · exact ldv_lanes (fresh := true) rfl h hb ha hw hr
    · obtain ⟨fls, fs, hbody⟩ := stvBody_eq (e := e) (s := s) hk hb ha hw
      obtain ⟨u, hu, hn⟩ := writes_of_body (c := .stv e k) (stvBody e.val) rfl h hbody
        (countsOnly_trans (count_countsOnly _ _ _ _ _ _) (engFlags_countsOnly e fs _))
      exact ⟨u, _, hu, hn, rfl, noteOut_shape r fls⟩
    · exact does_of_body (dmaBody e.val) rfl h (dmaBody_eq h1 h2 h3 hp hs hd hq hw hr)
    · exact exec_stays (stvBody e.val) rfl h (by decide) (stvBody_waits hk hb ha hw)
    · obtain ⟨fl, u, hbody, hu⟩ := vscaleBody_vector hm hk rfl hb ha hw hr
      obtain ⟨v, hv, hn⟩ := puts_of_body (c := .vscale e k) (vscaleBody e.val) rfl h hbody hu
      refine ⟨v, _, hv, hn, rfl, rfl, fun i hi hx hl => ?_⟩
      have hx' : i < (elemsOf (iFmt w) bs).length := hx
      rw [writeLanes_getD_new (by simpa using hi) hl]
      simp [List.getD_eq_getElem?_getD, hi, hx', fmt]

end Sys2Proof.Proofs
end

section
/-!
PROOFS. The stream instructions of a reduction run (O5).
-/

namespace Sys2Proof.Proofs
open Sys2Proof Sys2Proof.Machine Sys2Proof.Claims

set_option Elab.async false

variable {e : Fin 64} {k : Fin 16} {s : State} {r : Run} {w : W64} {opc : Nat}

theorem map_padded (f : W32 × Fl → α) [OfNat α 0] (hf : f (0, 0) = 0) (l : List (W32 × Fl)) :
    (l ++ List.replicate (512 - l.length) (0, 0)).map f = padded (l.map f) := by
  rw [List.map_append, List.map_replicate, hf, padded, List.length_map]

theorem recvBody_got {x : Rec} {node : Nat} {c : Coll} (h : takeRec s e.val (iRc w) r = .got x node c) :
    recvBody e.val w r s = putRun e.val { taken r x node with
      pc := r.pc + 1
      s := r.s.set (iRb w) x.tag
      a := r.a.set (iRd w) ⟨if x.int then .i32 else .f, x.mask, padded (x.vals.map Prod.fst),
        padded (x.vals.map Prod.snd)⟩ } s := by
  simp only [recvBody, h, map_padded Prod.fst rfl, map_padded Prod.snd rfl]
  rfl

theorem recvBody_wait (h : takeRec s e.val (iRc w) r = .wait) : recvBody e.val w r s = s := by
  simp only [recvBody, h]

theorem sendBody_eq {g idx node lanes : Nat} {q elem : W32} {rest : List (Nat × W32 × Nat)} {c : Coll}
    (ho : r.origin = .reduction g q idx) (hu : r.unans = (node, elem, lanes) :: rest) (h0 : iRc w = 0)
    (he : (r.sreg (iRb w)).toNat % 2 ^ 32 = elem.toNat) (hl : (r.sreg (iRb w)).toNat / 2 ^ 32 % 2 ^ 9 + 1 = lanes)
    (hv : r.vl = lanes) (hc : findColl s g q = some c) :
    sendBody e.val w r s = putRun e.val { noteOut r ((r.acc (iRa w)).flags.take r.vl) with unans := rest, pc := r.pc + 1 }
      (putColl { c with sums := c.sums ++
        [⟨e.val, elem.toNat, node, (r.acc (iRa w)).lanes.take r.vl, (r.acc (iRa w)).flags.take r.vl,
          (r.acc (iRa w)).mask⟩] } s) := by
  have hb : ¬ (iRc w ≠ 0 ∨ bits (r.sreg (iRb w)).toNat 31 0 ≠ elem.toNat ∨ bits (r.sreg (iRb w)).toNat 40 32 + 1 ≠ lanes ∨
      r.vl ≠ lanes) := by
    have h1 : bits (r.sreg (iRb w)).toNat 31 0 = (r.sreg (iRb w)).toNat % 2 ^ 32 := by simp [bits]
    have h2 : bits (r.sreg (iRb w)).toNat 40 32 = (r.sreg (iRb w)).toNat / 2 ^ 32 % 2 ^ 9 := by simp [bits]
    rw [h1, h2]
    omega
  simp only [sendBody, finishSend, sendRec, ho, hu, if_neg hb, hc]
  rfl

theorem fmt_of_raddFwd (h : Ready s e k 0x32 r w) : iFmt w = 0 ∨ iFmt w = 7 := by
  obtain ⟨-, -, -, -, -, -, -, -, hl, ho⟩ := h
  have hf := fmt_of_legal hl (row := ⟨.a, .a, .i, .o, 3, true, fmtWord⟩) (by unfold opRow; simp [ho])
  simpa [fmtWord] using hf

/-- RADD.FWD without forwarding. -/
theorem raddBody_eq {x : Rec} {node : Nat} {c : Coll} (h : takeRec s e.val (iRb w) r = .got x node c)
    (hk : kindOk (iFmt w) (r.acc (iRa w)) = true) (hi : (x.int == fmtFloat (iFmt w)) = false)
    (hn : (iM0 w && x.ends && !(iM1 w && x.final)) = false) :
    ∃ (fl : Nat → Fl) (t : State), raddBody e.val w r s = putRun e.val { taken r x node with
        pc := r.pc + 1
        s := r.s.set (iImm w % 16) x.tag
        a := r.a.set (iRd w) (writeLanes (r.acc (iRd w)) (kindOf (iFmt w)) 0xFF ((List.range x.lanes).map (fun i =>
          ((accAdd (fmtFloat (iFmt w)) r.convInf ((r.acc (iRa w)).lane i).1 ((x.vals.map Prod.fst).getD i 0)).1,
            fl i)))) } t ∧
      CountsOnly s t := by
  have hb : bits (iImm w) 3 0 = iImm w % 16 := by simp [bits]
  simp only [raddBody, h, hk, hi, hn, hb, laneMap, List.map_map]
  exact ⟨_, _, rfl, countsOnly_trans (count_countsOnly _ _ _ _ _ _) (engFlags_countsOnly e _ _)⟩

theorem gfmaBody_eq (hm : iM0 w = false) (ha : (r.acc (iRa w)).kind = .f) (hd : (r.acc (iRd w)).kind = .f)
    {srcs : List Acc}
    {f : Nat → W32 × Fl} (hf : (if iM1 w then laneMap e.val r [r.acc (iRa w)] (fun i => fmul r.convInf ((r.sreg (iRb
      w)).setWidth 32)
        ((r.acc (iRa w)).lane i).1) (issueV e.val s)
      else laneMap e.val r [r.acc (iRa w), r.acc (iRd w)] (fun i => ffma r.convInf ((r.sreg (iRb w)).setWidth 32)
        ((r.acc (iRa w)).lane i).1 ((r.acc (iRd w)).lane i).1) (issueV e.val s)) =
          laneMap e.val r srcs f (issueV e.val s)) :
    gfmaBody e.val w r s = putRun e.val (r.setA (iRd w) (writeLanes (r.acc (iRd w))
      .f 0xFF ((List.range r.vl).map (fun i =>
        ((f i).1, (f i).2 ||| orFlags (srcs.map (fun a => a.flags.getD i 0))))))).next
      (engFlags e.val ((List.range r.vl).map (fun i => (f i).2)) (issueV e.val s)) := by
  simp only [gfmaBody, ha, hd, hm, hf]
  simp [laneMap, Function.comp_def]

/-- Settles O5: the records that the streams give and take, by the body of each instruction. -/
theorem streamInstructionsTakeAndSendRecords : Obligations.StreamInstructionsTakeAndSendRecords := by
  intro e k s r w
  have hissue : ∀ fs, CountsOnly s (engFlags e.val fs (issueV e.val s)) := fun fs =>
    countsOnly_trans (count_countsOnly _ _ _ _ _ _) (engFlags_countsOnly e fs _)
  refine ⟨fun x node c h hx => ?_, fun h hx => ?_, fun g q idx node elem lanes rest c h ho hu h0 he hl hv hc => ?_,
    fun x node c h hx ha hi hn => ?_, fun h hm hm1 ha hd => ?_, fun h hm hm1 ha hd => ?_⟩
  · exact moves_of_body (recvBody e.val) rfl h (recvBody_got hx)
  · exact exec_stays (recvBody e.val) rfl h (by decide) (recvBody_wait hx)
  · obtain ⟨u, hu', hn⟩ := does_of_body (c := .send e k) (sendBody e.val) rfl h (sendBody_eq ho hu h0 he hl hv hc)
    exact ⟨_, u, hu', hn, rfl⟩
  · have hfmt := fmt_of_raddFwd h
    have hk : kindOk (iFmt w) (r.acc (iRa w)) = true := by
      obtain hf | hf := hfmt
      · rw [hf]; exact kindOk_float (ha.1 hf)
      · rw [hf]; exact kindOk_int (fun hk => by have := ha.2 hk; omega)
    have hint : (x.int == fmtFloat (iFmt w)) = false := by
      obtain hf | hf := hfmt
      · rw [hf, hi.2 hf]; rfl
      · have : x.int ≠ false := fun hx => by have := hi.1 hx; omega
        rw [hf, Bool.eq_true_of_not_eq_false this]; rfl
    have hfl : fmtFloat (iFmt w) = (iFmt w == 0) ∧ kindOf (iFmt w) = if iFmt w = 0 then .f else .i32 := by
      obtain hf | hf := hfmt <;> rw [hf] <;> exact ⟨rfl, rfl⟩
    obtain ⟨fl, t, hbody, ht⟩ := raddBody_eq hx hk hint hn
    obtain ⟨v, hv, hc⟩ := puts_of_body (c := .raddFwd e k) (raddBody e.val) rfl h hbody ht
    refine ⟨v, _, hv, hc, hfl.2, rfl, fun i hi hl => ?_⟩
    rw [writeLanes_getD_new (by simpa using hi) hl, ← hfl.1]
    simp [List.getD_eq_getElem?_getD, hi]
  · exact writesLanes_of_body (c := .gfmaSend e k) (gfmaBody e.val) rfl h (gfmaBody_eq hm ha hd (by rw [if_pos hm1]))
      (hissue _)
      (fun i => by simp [orFlags_one, united, Acc.lane])
  · exact writesLanes_of_body (c := .gfmaSend e k) (gfmaBody e.val) rfl h (gfmaBody_eq hm ha hd (by rw [if_neg (by simp
      [hm1])]))
      (hissue _) (fun i => by simp [orFlags_two, united, Acc.lane])

end Sys2Proof.Proofs
end

section
/-!
PROOFS. Widening to the accumulation format is exact, and narrowing gives the value back (O56).
-/

namespace Sys2Proof.Proofs
open Sys2Proof Sys2Proof.Machine Sys2Proof.Claims

set_option Elab.async false

theorem log2_mul_two_pow {q : Nat} (hq : q ≠ 0) (k : Nat) : (q * 2 ^ k).log2 = q.log2 + k := by
  induction k with
  | zero => simp
  | succ k ih =>
    rw [Nat.pow_succ, ← Nat.mul_assoc, Nat.mul_comm, Nat.log2_two_mul (Nat.mul_ne_zero hq (Nat.two_pow_pos k).ne'), ih]
    rfl

/-! ## The normal form of a finite value in a format -/

/-- The exponent of a format's subnormal numbers. -/
def leastExp (f : FFmt) : Int := 1 - (f.bias : Int) - f.m

/-- `q × 2 ^ t` as a format's fields spell it: a normal significand, or one of the subnormal exponent. -/
def Spelled (f : FFmt) (q : Nat) (t : Int) : Prop :=
  q < 2 ^ (f.m + 1) ∧ leastExp f ≤ t ∧ (t = leastExp f ∨ 2 ^ f.m ≤ q)

/-- The exponent and fraction fields of a spelled value, as one number. -/
def fieldsOf (f : FFmt) (q : Nat) (t : Int) : Nat :=
  if q < 2 ^ f.m then q else ((t - leastExp f).toNat + 1) * 2 ^ f.m + (q - 2 ^ f.m)

/-- The greatest fields of a finite value. -/
def topFields (f : FFmt) : Nat := if f.inf then (2 ^ f.e - 1) * 2 ^ f.m - 1 else 2 ^ (f.m + f.e) - 2

/-- The exponent at which the encoder rounds. -/
theorem roundExp_of_spelled {f : FFmt} {q : Nat} {t : Int} (hq : q ≠ 0) (h : Spelled f q t) :
    max (t + (Nat.log2 q : Int) - f.m) (leastExp f) = t := by
  obtain ⟨hlt, hge, hor⟩ := h
  have hle : q.log2 ≤ f.m := Nat.lt_succ_iff.1 ((Nat.log2_lt hq).2 hlt)
  obtain rfl | hnormal := hor
  · omega
  · have : f.m ≤ q.log2 := (Nat.le_log2 hq).2 hnormal
    omega

theorem shiftRne_exact (q k : Nat) : shiftRne (q * 2 ^ k) k = q := by
  have hp : 0 < 2 ^ k := Nat.two_pow_pos k
  unfold shiftRne
  simp only [Nat.mul_div_cancel _ hp, Nat.mul_mod_left]
  by_cases hk : k = 0
  · simp [hk]
  · rw [if_neg hk, if_neg (by omega)]

/-- R161: the encoder, by the exponent at which it rounds and what it rounds to. -/
theorem fencode_of_rounded {f : FFmt} {ci neg : Bool} {mant q : Nat} {exp t : Int} (hm : mant ≠ 0)
    (ht : max (exp + (Nat.log2 mant : Int) - f.m) (leastExp f) = t)
    (hq : (if t ≤ exp then mant * 2 ^ (exp - t).toNat else shiftRne mant (t - exp).toNat) = q)
    (h : Spelled f q t) (htop : fieldsOf f q t ≤ topFields f) :
    fencode f ci (.fin neg mant exp) = (b2n neg * 2 ^ (f.m + f.e) + fieldsOf f q t, 0) := by
  have hne : q ≠ 2 ^ (f.m + 1) := Nat.ne_of_lt h.1
  unfold leastExp at ht
  unfold fieldsOf topFields leastExp at htop
  simp only [fencode, if_neg hm, ht, hq, if_neg hne, fieldsOf, leastExp, if_pos htop]

/-- A value that is spelled in the format is encoded by its fields, with no flag. -/
theorem fencode_spelled {f : FFmt} {ci neg : Bool} {q : Nat} {t : Int} (hq : q ≠ 0) (h : Spelled f q t)
    (htop : fieldsOf f q t ≤ topFields f) :
    fencode f ci (.fin neg q t) = (b2n neg * 2 ^ (f.m + f.e) + fieldsOf f q t, 0) :=
  fencode_of_rounded hq (roundExp_of_spelled hq h) (by simp) h htop

/-- … also when its significand is given with more places … -/
theorem fencode_spelled_finer {f : FFmt} {ci neg : Bool} {q k : Nat} {t : Int} (hq : q ≠ 0) (h : Spelled f q t)
    (htop : fieldsOf f q t ≤ topFields f) :
    fencode f ci (.fin neg (q * 2 ^ k) (t - k)) = (b2n neg * 2 ^ (f.m + f.e) + fieldsOf f q t, 0) := by
  have hlog : ((q * 2 ^ k).log2 : Int) = q.log2 + k := by rw [log2_mul_two_pow hq]; rfl
  refine fencode_of_rounded (Nat.mul_ne_zero hq (Nat.two_pow_pos k).ne') ?_ ?_ h htop
  · rw [show t - (k : Int) + ((q * 2 ^ k).log2 : Int) - f.m = t + (q.log2 : Int) - f.m by omega, roundExp_of_spelled hq h]
  · by_cases hk : k = 0
    · subst hk; simp
    · rw [if_neg (by omega), show (t - (t - (k : Int))).toNat = k by omega, shiftRne_exact]

/-- … or with fewer. -/
theorem fencode_spelled_coarser {f : FFmt} {ci neg : Bool} {q k : Nat} {t : Int} (hq : q ≠ 0)
    (h : Spelled f (q * 2 ^ k) (t - k)) (htop : fieldsOf f (q * 2 ^ k) (t - k) ≤ topFields f) :
    fencode f ci (.fin neg q t) = (b2n neg * 2 ^ (f.m + f.e) + fieldsOf f (q * 2 ^ k) (t - k), 0) := by
  have hlog : ((q * 2 ^ k).log2 : Int) = q.log2 + k := by rw [log2_mul_two_pow hq]; rfl
  have hne : q * 2 ^ k ≠ 0 := Nat.mul_ne_zero hq (Nat.two_pow_pos k).ne'
  refine fencode_of_rounded hq ?_ ?_ h htop
  · rw [show t + (q.log2 : Int) - f.m = t - (k : Int) + ((q * 2 ^ k).log2 : Int) - f.m by omega,
      roundExp_of_spelled hne h]
  · rw [if_pos (by omega), show (t - (t - (k : Int))).toNat = k by omega]

/-! ## The formats -/

/-- An element by its fields, and the value they stand for (R156). -/
theorem fdecode_by_fields {f : FFmt} {x : Nat} (hm : 0 < f.m) (he : 0 < f.e) (hx : x < 2 ^ (f.m + f.e + 1)) :
    ∃ neg ex fr, ex < 2 ^ f.e ∧ fr < 2 ^ f.m ∧ x = b2n neg * 2 ^ (f.m + f.e) + (ex * 2 ^ f.m + fr) ∧
      fdecode f x = (if ex = 2 ^ f.e - 1 ∧ f.inf then (if fr = 0 then .inf neg else .nan)
        else if ex = 2 ^ f.e - 1 ∧ fr = 2 ^ f.m - 1 then .nan
        else if ex = 0 then .fin neg fr (leastExp f) else .fin neg (2 ^ f.m + fr) ((ex : Int) - f.bias - f.m)) := by
  have hfrac : bits x (f.m - 1) 0 = x % 2 ^ f.m := by
    rw [bits, Nat.pow_zero, Nat.div_one, show f.m - 1 + 1 - 0 = f.m by omega]
  have hexp : bits x (f.m + f.e - 1) f.m = x / 2 ^ f.m % 2 ^ f.e := by
    rw [bits, show f.m + f.e - 1 + 1 - f.m = f.e by omega]
  have hsign : x / 2 ^ f.m / 2 ^ f.e = b2n (bit x (f.m + f.e)) := by
    have hlt : x / 2 ^ (f.m + f.e) < 2 := by
      rw [Nat.div_lt_iff_lt_mul (Nat.two_pow_pos _), ← Nat.pow_succ']
      exact hx
    rw [Nat.div_div_eq_div_mul, ← Nat.pow_add, bit, Nat.testBit_eq_decide_div_mod_eq, Nat.mod_eq_of_lt hlt]
    generalize x / 2 ^ (f.m + f.e) = y at hlt
    obtain rfl | rfl : y = 0 ∨ y = 1 := by omega
    all_goals rfl
  refine ⟨bit x (f.m + f.e), x / 2 ^ f.m % 2 ^ f.e, x % 2 ^ f.m, Nat.mod_lt _ (Nat.two_pow_pos _),
      Nat.mod_lt _ (Nat.two_pow_pos _), ?_, ?_⟩
  · have hlow := Nat.div_add_mod x (2 ^ f.m)
    have hhigh := Nat.div_add_mod (x / 2 ^ f.m) (2 ^ f.e)
    rw [hsign] at hhigh
    calc x = 2 ^ f.m * (x / 2 ^ f.m) + x % 2 ^ f.m := hlow.symm
      _ = 2 ^ f.m * (2 ^ f.e * b2n (bit x (f.m + f.e)) + x / 2 ^ f.m % 2 ^ f.e) + x % 2 ^ f.m := by rw [hhigh]
      _ = _ := by rw [Nat.pow_add]; ring
  · simp only [fdecode, hfrac, hexp, leastExp]

/-- R156: an infinity has the fields the encoder gives it. -/
theorem inf_of_fdecode {f : FFmt} {x : Nat} {neg : Bool} (hm : 0 < f.m) (he : 0 < f.e) (hx : x < 2 ^ (f.m + f.e + 1))
    (hd : fdecode f x = .inf neg) : f.inf = true ∧ x = finf f neg := by
  obtain ⟨neg', ex, fr, -, -, hxe, hdec⟩ := fdecode_by_fields hm he hx
  rw [hdec] at hd
  split at hd
  · next h =>
    obtain ⟨hex, hinf⟩ := h
    split at hd
    · next hfr =>
      injection hd with hneg
      subst hneg hfr hex
      exact ⟨hinf, by simp [finf, hinf, hxe]⟩
    · simp at hd
  · split at hd
    · simp at hd
    · split at hd <;> simp at hd

/-- R156: a finite element is spelled by its value. -/
theorem spelled_of_fdecode {f : FFmt} {x q : Nat} {t : Int} {neg : Bool} (hm : 0 < f.m) (he : 0 < f.e)
    (hx : x < 2 ^ (f.m + f.e + 1))
    (hd : fdecode f x = .fin neg q t) : Spelled f q t ∧ fieldsOf f q t ≤ topFields f ∧
      x = b2n neg * 2 ^ (f.m + f.e) + fieldsOf f q t := by
  obtain ⟨neg', ex, fr, hex, hfr, hsplit, hdec⟩ := fdecode_by_fields hm he hx
  rw [hdec] at hd
  have hpow : 2 ^ (f.m + 1) = 2 ^ f.m + 2 ^ f.m := by rw [Nat.pow_succ]; omega
  have htop : (2 ^ f.e - 1) * 2 ^ f.m = 2 ^ (f.m + f.e) - 2 ^ f.m := by rw [Nat.sub_mul, Nat.pow_add,
      Nat.mul_comm (2 ^ f.e), Nat.one_mul]
  split at hd
  · split at hd <;> simp at hd
  next hinf =>
  split at hd
  · simp at hd
  next hnan =>
  have hin : ex * 2 ^ f.m + fr ≤ topFields f := by
    unfold topFields
    by_cases hlast : ex = 2 ^ f.e - 1
    · have hno : f.inf = false := by simpa [hlast] using hinf
      have hne : fr ≠ 2 ^ f.m - 1 := by simpa [hlast] using hnan
      have : 2 ^ f.m ≤ 2 ^ (f.m + f.e) := Nat.pow_le_pow_right (by decide) (by omega)
      rw [hlast, htop, hno]
      simp
      omega
    · have h1 : ex + 1 ≤ 2 ^ f.e - 1 := by omega
      have h2 : (ex + 1) * 2 ^ f.m ≤ (2 ^ f.e - 1) * 2 ^ f.m := Nat.mul_le_mul_right _ h1
      have h3 : (2 ^ f.e - 1) * 2 ^ f.m + 2 ^ f.m = 2 ^ (f.m + f.e) := by
        rw [htop]
        exact Nat.sub_add_cancel (Nat.pow_le_pow_right (by decide) (Nat.le_add_right f.m f.e))
      have h4 : 2 ^ 1 ≤ 2 ^ f.m := Nat.pow_le_pow_right (by decide) hm
      rw [Nat.add_mul, Nat.one_mul] at h2
      split <;> omega
  split at hd
  · next hzero =>
    injection hd with h1 h2 h3
    subst h1 h2 h3
    have hfields : fieldsOf f fr (leastExp f) = ex * 2 ^ f.m + fr := by simp [fieldsOf, hfr, hzero]
    exact ⟨⟨by omega, Int.le_refl _, .inl rfl⟩, hfields ▸ hin, hfields ▸ hsplit⟩
  · next hpos =>
    injection hd with h1 h2 h3
    subst h1 h2 h3
    have hfields : fieldsOf f (2 ^ f.m + fr) ((ex : Int) - f.bias - f.m) = ex * 2 ^ f.m + fr := by
      have : ((ex : Int) - f.bias - f.m - leastExp f).toNat + 1 = ex := by unfold leastExp; omega
      rw [fieldsOf, if_neg (by omega), this]
      omega
    exact ⟨⟨by omega, by unfold leastExp; omega, .inr (by omega)⟩, hfields ▸ hin, hfields ▸ hsplit⟩

/-- The FP32 word with a sign and fields. -/
theorem f32_of_spelled {q : Nat} {t : Int} (neg : Bool) (h : Spelled (ffmt 0) q t) (htop : fieldsOf (ffmt 0)
    q t ≤ topFields (ffmt 0)) :
    f32 (BitVec.ofNat 32 (b2n neg * 2 ^ 31 + fieldsOf (ffmt 0) q t)) = .fin neg q t := by
  obtain ⟨hlt, hge, hor⟩ := h
  simp only [ffmt, leastExp, fieldsOf, topFields, reduceIte, Nat.reduceAdd, Nat.reducePow, Nat.reduceSub,
  Nat.reduceMul] at *
  generalize hmag : (if q < 8388608 then q else ((t - (1 - ((127 : Nat) : Int) - ((23 : Nat) : Int))).toNat + 1)
    * 8388608 + (q - 8388608)) = mag at *
  have hs : sgn (BitVec.ofNat 32 (b2n neg * 2147483648 + mag)) = neg := sgn_ofNat neg (by omega)
  have hb : b2n neg ≤ 1 := by cases neg <;> decide
  have hword : (BitVec.ofNat 32 (b2n neg * 2147483648 + mag)).toNat = b2n neg * 2147483648 + mag := by
    rw [BitVec.toNat_ofNat]; exact Nat.mod_eq_of_lt (by omega)
  have he : expField (BitVec.ofNat 32 (b2n neg * 2147483648 + mag)) = mag / 2 ^ 23 :=
      by unfold expField; rw [hword]; omega
  have hf : fracField (BitVec.ofNat 32 (b2n neg * 2147483648 + mag)) = mag % 2 ^ 23 :=
      by unfold fracField; rw [hword]; omega
  rw [f32_eq_fields, significand, shiftOf, hs, he, hf, if_neg (by omega)]
  split at hmag
  · subst hmag
    rw [if_pos (by omega), show q / 2 ^ 23 = 0 by omega, show q % 2 ^ 23 = q by omega]
    simp only [FVal.fin.injEq, true_and]
    omega
  · have hexp : mag / 2 ^ 23 = (t + 150).toNat := by omega
    have hfrac : 2 ^ 23 + mag % 2 ^ 23 = q := by omega
    rw [if_neg (by omega), hfrac, hexp]
    simp only [FVal.fin.injEq, true_and]
    omega

/-- The floating formats, each with a fraction, and no wider than FP32 in any of its fields. -/
theorem ffmt_within {fmt : Nat} (h : fmt < 5) : let f := ffmt fmt
    0 < f.m ∧ f.m ≤ 23 ∧ 0 < f.e ∧ -149 ≤ leastExp f ∧ 8 * fmtSize fmt = f.m + f.e + 1 ∧
      (∀ q t, Spelled f q t → fieldsOf f q t ≤ topFields f → t + f.m ≤ 127) := by
  obtain rfl | rfl | rfl | rfl | rfl : fmt = 0 ∨ fmt = 1 ∨ fmt = 2 ∨ fmt = 3 ∨ fmt = 4 := by omega
  all_goals
    refine ⟨by decide, by decide, by decide, by decide, by decide, ?_⟩
    rintro q t ⟨hlt, hge, hor⟩ hin
    simp only [ffmt, leastExp, fieldsOf, topFields, reduceIte, Nat.reduceAdd, Nat.reducePow, Nat.reduceSub, Nat.reduceMul,
      Nat.reduceEqDiff, Bool.false_eq_true] at *
    split at hin <;> omega

/-- A value spelled in a narrower format is spelled in FP32, with as many more places as FP32 has. -/
theorem spelled_widened {fmt q : Nat} {t : Int} (hf : fmt < 5) (hq : q ≠ 0) (h : Spelled (ffmt fmt) q t)
    (htop : fieldsOf (ffmt fmt) q t ≤ topFields (ffmt fmt)) : ∃ k : Nat, Spelled (ffmt 0) (q * 2 ^ k) (t - k) ∧
      fieldsOf (ffmt 0) (q * 2 ^ k) (t - k) ≤ topFields (ffmt 0) := by
  obtain ⟨-, hm, -, hleast, -, hbound⟩ := ffmt_within hf
  have ht := hbound q t h htop
  obtain ⟨hlt, hge, hor⟩ := h
  have hle : q.log2 ≤ (ffmt fmt).m := Nat.lt_succ_iff.1 ((Nat.log2_lt hq).2 hlt)
  obtain ⟨k, hk⟩ : ∃ k : Nat, k = min (23 - q.log2) (t + 149).toNat := ⟨_, rfl⟩
  have hne : q * 2 ^ k ≠ 0 := Nat.mul_ne_zero hq (Nat.two_pow_pos k).ne'
  have hlog : (q * 2 ^ k).log2 = q.log2 + k := log2_mul_two_pow hq k
  have hlt' : q * 2 ^ k < 2 ^ 24 := (Nat.log2_lt hne).1 (by omega)
  have hor' : t - (k : Int) = -149 ∨ 2 ^ 23 ≤ q * 2 ^ k := by
    by_cases hn : t - (k : Int) = -149
    · exact .inl hn
    · exact .inr ((Nat.le_log2 hne).1 (by omega))
  refine ⟨k, ⟨hlt', ?_, hor'⟩, ?_⟩
  · change (1 - 127 - 23 : Int) ≤ t - k
    omega
  · change (if q * 2 ^ k < 2 ^ 23 then q * 2 ^ k else ((t - (k : Int) - (1 - 127 - 23)).toNat + 1)
      * 2 ^ 23 + (q * 2 ^ k - 2 ^ 23)) ≤
      (2 ^ 8 - 1) * 2 ^ 23 - 1
    generalize q * 2 ^ k = y at *
    split <;> omega

/-! ## Widening -/

theorem fdecode_zero_word (x : Nat) (hx : x < 2 ^ 32) : f32 (BitVec.ofNat 32 x) = fdecode (ffmt 0) x := by
  rw [f32, BitVec.toNat_ofNat, Nat.mod_eq_of_lt hx]

/-- R160: a finite value goes to the FP32 word of the same value and back. -/
theorem widen_narrow_fin {fmt x q : Nat} {t : Int} {neg : Bool} (h0 : 0 < fmt) (hf : fmt < 5)
    (hx : x < 2 ^ (8 * fmtSize fmt))
    (hd : fdecode (ffmt fmt) x = .fin neg q t) (ci : Bool) :
    (fmtWiden fmt x).2 = 0 ∧ fmtNarrow fmt ci (fmtWiden fmt x).1 = (x, 0) := by
  obtain ⟨hm, -, he, -, hsize, -⟩ := ffmt_within hf
  obtain ⟨hsp, htop, hxe⟩ := spelled_of_fdecode hm he (hsize ▸ hx) hd
  have hfloat : fmtFloat fmt = true := by simpa [fmtFloat] using hf
  have hacc : accFmt fmt = 0 := by simp [accFmt, hfloat]
  have hw : ∀ (z : Nat × Fl), fencode (ffmt 0) false (.fin neg q t) = z → fmtWiden fmt x = (BitVec.ofNat 32 z.1, z.2)
      := by
    rintro z rfl
    simp [fmtWiden, hacc, fmtConv, h0.ne', hfloat, hd]
  have hn : ∀ (w : W32) (q' : Nat) (t' : Int), f32 w = .fin neg q' t' →
      fmtNarrow fmt ci w = fencode (ffmt fmt) ci (.fin neg q' t') := by
    intro w q' t' hw
    rw [f32] at hw
    simp [fmtNarrow, hacc, fmtConv, h0.ne, hw, fmtFloat]
  by_cases hq : q = 0
  · subst hq
    have hz : f32 (BitVec.ofNat 32 (b2n neg * 2 ^ 31)) = .fin neg 0 (-149) := by cases neg <;> decide
    have hfields : fieldsOf (ffmt fmt) 0 t = 0 := by simp [fieldsOf]
    rw [hw (b2n neg * 2 ^ 31, 0) rfl, hn _ _ _ hz, hxe, hfields]
    exact ⟨rfl, rfl⟩
  · obtain ⟨k, hsp', htop'⟩ := spelled_widened hf hq hsp htop
    rw [hw _ (fencode_spelled_coarser hq hsp' htop')]
    refine ⟨rfl, (hn _ _ _ (f32_of_spelled neg hsp' htop')).trans ?_⟩
    rw [fencode_spelled_finer hq hsp htop, hxe]

/-- R160: an infinity goes to that of FP32 and back. -/
theorem widen_narrow_inf {fmt x : Nat} {neg : Bool} (h0 : 0 < fmt) (hf : fmt < 5) (hx : x < 2 ^ (8 * fmtSize fmt))
    (hd : fdecode (ffmt fmt) x = .inf neg) (ci : Bool) :
    (fmtWiden fmt x).2 = 0 ∧ fmtNarrow fmt ci (fmtWiden fmt x).1 = (x, 0) := by
  obtain ⟨hm, -, he, -, hsize, -⟩ := ffmt_within hf
  obtain ⟨hinf, hxe⟩ := inf_of_fdecode hm he (hsize ▸ hx) hd
  have hfloat : fmtFloat fmt = true := by simpa [fmtFloat] using hf
  have hacc : accFmt fmt = 0 := by simp [accFmt, hfloat]
  have hwide : fmtWiden fmt x = (infinity neg, 0) := by
    simp only [fmtWiden, hacc, fmtConv, if_neg h0.ne', hfloat, if_true, hd]
    cases neg <;> rfl
  have hword : fdecode (ffmt 0) (infinity neg).toNat = .inf neg := f32_infinity neg
  rw [hwide]
  refine ⟨rfl, ?_⟩
  simp only [fmtNarrow, hacc, fmtConv, if_neg h0.ne, hword, fencode, hinf, hxe, fmtFloat]
  rfl

/-- R160: an element that is no NaN, widened and narrowed. -/
theorem widen_narrow_float {fmt x : Nat} (h0 : 0 < fmt) (hf : fmt < 5) (hx : x < 2 ^ (8 * fmtSize fmt))
    (hd : fdecode (ffmt fmt) x ≠ .nan) (ci : Bool) :
    (fmtWiden fmt x).2 = 0 ∧ fmtNarrow fmt ci (fmtWiden fmt x).1 = (x, 0) := by
  cases h : fdecode (ffmt fmt) x with
  | nan => exact absurd h hd
  | inf neg => exact widen_narrow_inf h0 hf hx h ci
  | fin neg q t => exact widen_narrow_fin h0 hf hx h ci

/-- R160: an integer element widened to INT32 and narrowed. -/
theorem widen_narrow_int {fmt x : Nat} (h5 : 5 ≤ fmt) (h7 : fmt < 7) (hx : x < 2 ^ (8 * fmtSize fmt)) (ci : Bool) :
    (fmtWiden fmt x).2 = 0 ∧ fmtNarrow fmt ci (fmtWiden fmt x).1 = (x, 0) := by
  have hint : fmtFloat fmt = false := by simpa [fmtFloat] using h5
  have hacc : accFmt fmt = 7 := by simp [accFmt, hint]
  have hwide : fmtWiden fmt x = (BitVec.ofNat 32 (intEncode 7 (intVal fmt x)).1, (intEncode 7 (intVal fmt x)).2) := by
    rw [fmtWiden, hacc, fmtConv_int h5 (by omega)]
  have hflag : nearest 7 (intVal fmt x) = intVal fmt x := by
    obtain rfl | rfl : fmt = 5 ∨ fmt = 6 := by omega
    all_goals simp only [nearest, intLo, intHi, intVal, signed, reduceIte, Nat.reduceEqDiff]; omega
  have hlt := intEncode_lt 7 (intVal fmt x)
  have hword : (BitVec.ofNat 32 (intEncode 7 (intVal fmt x)).1).toNat = (intEncode 7 (intVal fmt x)).1 := by
    rw [BitVec.toNat_ofNat, Nat.mod_eq_of_lt (by simpa [fmtSize] using hlt)]
  rw [hwide, fmtNarrow, hacc, fmtConv_int (by decide) (by omega), hword, intVal_intEncode (by decide) (by decide),
      hflag, intEncode_flag,
    if_pos hflag]
  refine ⟨rfl, Prod.ext ?_ ?_⟩
  · obtain rfl | rfl : fmt = 5 ∨ fmt = 6 := by omega
    all_goals
      simp only [fmtSize, intEncode, intLo, intHi, intVal, signed, reduceIte, Nat.reduceEqDiff, or_self, or_true,
      Nat.reduceMul] at *
      omega
  · rw [intEncode_flag, if_pos (nearest_intVal h5 (by omega) x)]

/-- Settles O56: the fields of a narrow format's value fit those of FP32, an integer's range that of INT32. -/
theorem wideningIsExact : Obligations.WideningIsExact := by
  intro fmt x ci
  refine ⟨fun h8 hx hnan => ?_, fun h0 h5 hd => ?_, if_pos rfl⟩
  · by_cases hacc : fmt = accFmt fmt
    · have hsize : 8 * fmtSize fmt = 32 := by
        rw [hacc]; unfold accFmt; split <;> rfl
      have hword : (BitVec.ofNat 32 x).toNat = x := by rw [BitVec.toNat_ofNat, Nat.mod_eq_of_lt (hsize ▸ hx)]
      simp [fmtWiden, fmtNarrow, fmtConv, ← hacc, hword, -BitVec.toNat_ofNat]
    · by_cases h5 : fmt < 5
      · refine widen_narrow_float (Nat.pos_of_ne_zero fun h0 => hacc ?_) h5 hx (hnan h5) ci
        subst h0; rfl
      · refine widen_narrow_int (by omega) (Nat.lt_of_le_of_ne (by omega) fun h7 => hacc ?_) hx ci
        subst h7; rfl
  · have hfloat : fmtFloat fmt = true := by simpa [fmtFloat] using h5
    have hacc : accFmt fmt = 0 := by simp [accFmt, hfloat]
    simp only [fmtWiden, hacc, fmtConv, if_neg h0.ne', hfloat, if_true, hd]
    rfl

end Sys2Proof.Proofs
end

section
/-!
PROOFS. One cycle of CCLK with nothing to do (O58), and what a chip reset leaves (O59).
-/

namespace Sys2Proof.Proofs
open Sys2Proof Sys2Proof.Machine Sys2Proof.Claims

set_option Elab.async false

/-! ## What the end of a cycle leaves -/

/-- `t` is `s` but for the cycle's events and the count of ACLK edges. -/
def Stalled (s t : State) : Prop := ∃ ev a, t = { s with evts := ev, aclk := a }

theorem stalled_refl (s : State) : Stalled s s := ⟨s.evts, s.aclk, rfl⟩

theorem stalled_trans {s t u : State} (h : Stalled s t) (k : Stalled t u) : Stalled s u := by
  obtain ⟨ev, a, rfl⟩ := h
  obtain ⟨ev', a', rfl⟩ := k
  exact ⟨ev', a', rfl⟩

theorem count_stalled (src n : Nat) (port tc grp : Option Nat) (s : State) : Stalled s (count src n port tc grp s) :=
    ⟨_, s.aclk, rfl⟩

theorem foldl_stalled {α : Type} {f : State → α → State} (hf : ∀ t x, Stalled t (f t x)) (l : List α) (s : State) :
    Stalled s (l.foldl f s) :=
  foldl_invariant (P := Stalled s) (fun t x h => stalled_trans h (hf t x)) (stalled_refl s)

theorem ite_stalled {c : Prop} [Decidable c] {s x y : State} (hx : Stalled s x) (hy : Stalled s y)
    : Stalled s (if c then x else y) := by
  split
  · exact hx
  · exact hy

theorem clockEdges_stalled (s : State) : Stalled s (clockEdges s) := by
  have hedge : ∀ a t, Stalled t { t with aclk := t.aclk + a } := fun a t => ⟨t.evts, _, rfl⟩
  unfold clockEdges
  refine ite_stalled (count_stalled _ _ _ _ _ _) (stalled_trans (count_stalled 0x001 1 none none none s) ?_)
  exact ⟨_, _, rfl⟩

theorem stallCounts_stalled (s : State) : Stalled s (stallCounts s) := by
  unfold stallCounts
  refine ite_stalled (stalled_refl s) ?_
  refine stalled_trans ?_ (foldl_stalled (fun t e => ite_stalled (stalled_refl t) (count_stalled _ _ _ _ _ t)) _ _)
  refine stalled_trans ?_ (foldl_stalled (fun t q => ite_stalled (stalled_refl t) (count_stalled _ _ _ _ _ t)) _ _)
  refine stalled_trans ?_ (foldl_stalled (fun t n => count_stalled _ _ _ _ _ t) _ _)
  exact foldl_stalled (fun t n => foldl_stalled (fun t _ => count_stalled _ _ _ _ _ t) _ _) _ _

theorem edges_stalled (s : State) : Stalled s (stallCounts (clockEdges s)) :=
  stalled_trans (clockEdges_stalled s) (stallCounts_stalled _)

/-! ## The counters of the ECB -/

theorem counts_ecb {k : Nat} (hk : k < 256) : counts (0x302000 + 8 * k) = true ∧ counts (0x300040 + k / 64 * 8) =
    true := by
  unfold counts
  have h1 : decide (0x302000 ≤ 0x302000 + 8 * k) = true := by simp
  have h2 : decide (0x302000 + 8 * k < 0x302800) = true := by simp; omega
  have h3 : decide (0x300040 ≤ 0x300040 + k / 64 * 8) = true := by simp
  have h4 : decide (0x300040 + k / 64 * 8 < 0x300060) = true := by simp; omega
  exact ⟨by rw [h1, h2]; rfl, by rw [h3, h4]; simp⟩

theorem ecbAdd_sameRegs (c : Tab W64) {k : Nat} (n : Nat) (hk : k < 256) : SameRegs c (ecbAdd c k n) := by
  obtain ⟨hcnt, hovf⟩ := counts_ecb hk
  unfold ecbAdd
  dsimp only
  split
  · exact sameRegs_tabSet hcnt
  · exact sameRegs_trans (sameRegs_tabSet hcnt) (sameRegs_tabSet hovf)

theorem ecbAddAll_sameRegs (c : Tab W64) (t : Tab Nat) (h : ∀ x ∈ t, x.1 < 256) : SameRegs c (ecbAddAll c t) := by
  induction t generalizing c with
  | nil => exact sameRegs_refl c
  | cons x t ih =>
    exact sameRegs_trans (ecbAdd_sameRegs c x.2 (h x (by simp))) (ih _ fun y hy => h y (by simp [hy]))

/-- R383: at the end of a cycle the ECB adds to its counters only. -/
theorem ecbEndCycle_sameRegs (s : State) (h : ∀ e ∈ s.ecbPend, ∀ x ∈ e.2, x.1 < 256)
    : SameRegs s.csr (ecbEndCycle s).csr := by
  have hfold : ∀ (l : List (Nat × Tab Nat)) (c : Tab W64), (∀ e ∈ l, ∀ x ∈ e.2, x.1 < 256) →
      SameRegs c (l.foldl (fun c e => ecbAddAll c e.2) c) := by
    intro l
    induction l with
    | nil => exact fun c _ => sameRegs_refl c
    | cons e l ih =>
      intro c hl
      exact sameRegs_trans (ecbAddAll_sameRegs c e.2 (hl e (by simp))) (ih _ fun y hy => hl y (by simp [hy]))
  refine hfold _ _ fun e he => ?_
  obtain ⟨hmem, hdue⟩ := List.mem_filter.1 he
  split at hmem
  · exact h e hmem
  · obtain hold | hnew := List.mem_append.1 hmem
    · exact h e hold
    · simp only [List.mem_singleton] at hnew
      subst hnew
      simp at hdue

/-! ## The tick -/

/-- R303, R417: what is written last in a cycle goes into registers and milestones. -/
theorem writesLast_shape (s : State) : ∃ c, writesLast s =
    { s with wrote := [], msuLast := [], csr := c,
             milestones := s.msuLast.foldl (fun t w => tabSet t w.1 w.2) s.milestones } := by
  unfold writesLast
  generalize s.msuLast.foldl (fun t w => tabSet t w.1 w.2) s.milestones = m
  refine foldl_invariant (P := fun t => ∃ c, t = { s with wrote := [], msuLast := [], csr := c, milestones := m })
      ?_ ⟨s.csr, rfl⟩
  rintro t x ⟨c, rfl⟩
  exact ⟨_, rfl⟩

theorem cycleEnd_leaves {u : State} (hr : u.raised = []) : (nextCycle (ecbEndCycle (writesLast u))).raised = [] ∧
    (nextCycle (ecbEndCycle (writesLast u))).msuLast = [] ∧ (nextCycle (ecbEndCycle (writesLast u))).wrote = [] := by
  obtain ⟨c, hc⟩ := writesLast_shape u
  rw [hc]
  exact ⟨hr, rfl, rfl⟩

/-- What is left raised and to be written at the end of a cycle. -/
theorem tick_leaves {s : State} (h : held s = false) : (tick s).raised = [] ∧ (tick s).msuLast = [] ∧ (tick s).wrote =
    [] := by
  unfold tick
  rw [if_neg (by simp [h])]
  exact cycleEnd_leaves (settle_raised _)

/-- A cycle at whose start nothing is raised and no milestone is to be written. -/
theorem tick_idle {s : State} (h : held s = false) (hnow : s.now % 2 = 0) (hr : s.raised = []) (hm : s.msuLast = []) :
    ∃ t, Stalled s t ∧ tick s = nextCycle (ecbEndCycle (writesLast t)) := by
  have hst := edges_stalled s
  refine ⟨_, hst, ?_⟩
  unfold tick
  rw [if_neg (by simp [h])]
  generalize stallCounts (clockEdges s) = t at hst ⊢
  have ht : t.raised = [] ∧ t.msuLast = [] ∧ patternEnds t = false := by
    obtain ⟨ev, a, rfl⟩ := hst
    exact ⟨hr, hm, by simp [patternEnds, hnow]⟩
  obtain ⟨hraised, hlast, hpat⟩ := ht
  have hmsu : msuWrites t = t := by simp [msuWrites, hlast]
  dsimp only
  rw [hpat, if_neg (by decide), hmsu, settle_none t hraised]

/-- Every command completes. -/
theorem exec_completes (c : Instr) (s : State) : ∃ u, exec c s = .next u := by
  cases c <;> exact ⟨_, rfl⟩

/-- Settles O58. -/
theorem stepRunsTheFrontCommand : Obligations.StepRunsTheFrontCommand := by
  intro s c rest
  refine ⟨rfl, exec_completes c s, ?_, ?_, ?_⟩
  · intro hp hh
    simp [step, hp, tick, hh]
  · intro hp hh hnow hr hm hecb hsorted
    obtain ⟨_, ⟨ev, a, rfl⟩, ht⟩ := tick_idle hh hnow hr hm
    obtain ⟨c, hc⟩ := writesLast_shape { s with evts := ev, aclk := a }
    have hsame := ecbEndCycle_sameRegs (writesLast { s with evts := ev, aclk := a }) (by rw [hc]; exact hecb)
    refine ⟨tick s, by rw [step, hp], ?_⟩
    have hcsr : (tick s).csr = (ecbEndCycle (writesLast { s with evts := ev, aclk := a })).csr := by rw [ht]; rfl
    have hfields : (tick s).now = s.now + 1 ∧ (tick s).time7 = s.time7 + 20 ∧ (tick s).mem = s.mem ∧ (tick s).ports =
        s.ports ∧
        (tick s).hep = s.hep ∧ (tick s).raised = [] ∧ (tick s).wrote = [] ∧ (tick s).w1cSet = [] ∧ (tick s).evts = [] ∧
        (tick s).fuses = s.fuses := by
      rw [ht, hc]
      exact ⟨rfl, rfl, rfl, rfl, rfl, hr, rfl, rfl, rfl, rfl⟩
    obtain ⟨h1, h2, h3, h4, h5, h6, h7, h8, h9, hfuses⟩ := hfields
    refine ⟨h1, h2, h3, h4, h5, h6, h7, h8, h9, ?_, ?_⟩
    · intro hwrote
      have : (writesLast { s with evts := ev, aclk := a }).csr = s.csr := by simp [writesLast, hwrote]
      rw [this] at hsame
      rwa [hcsr]
    · intro x k v hwrote hx
      have hreg : (writesLast { s with evts := ev, aclk := a }).csr = (s.setReg x ((s.reg x &&& ~~~k) ||| v)).csr := by
        simp only [writesLast, hwrote, List.foldl_cons, List.foldl_nil]
        rfl
      rw [State.reg, hcsr, hsame x hx, hreg, hfuses]
      exact reg_setReg_same s x _
  · intro hp hh
    refine ⟨by rw [step, hp], tick_leaves hh⟩

/-! ## Reset -/

theorem regPlace_csq {a : Nat} (h0 : 0x4010000 ≤ a) (h1 : a < 0x4030000) : regPlace a = (0x4000000, csqRows) := by
  unfold regPlace
  dsimp only
  repeat rw [if_neg (by omega)]
  rw [if_pos (by omega)]

/-- Of the CSQ's registers only the first has a reset value other than zero. -/
theorem csqRows_reset : ∀ r ∈ csqRows, r.reset ≠ 0 → r.off = 0 ∧ r.stride = 8 ∧ r.cnt = 1 := by decide

/-- The tables of the CSQ read zero after reset. -/
theorem regReset_csq (f : Fuses) {a : Nat} (h0 : 0x4010000 ≤ a) (h1 : a < 0x4030000) : regReset f a = 0 := by
  have hrow : ∀ b r i, regAt a = some (b, r, i) → r.reset = 0 := by
    intro b r i h
    unfold regAt at h
    simp only [regPlace_csq h0 h1] at h
    split at h
    · simp at h
    · next r' hf =>
      simp only [Option.some.injEq, Prod.mk.injEq] at h
      obtain ⟨-, rfl, -⟩ := h
      have hsat := List.find?_some hf
      by_contra hne
      obtain ⟨hoff, hstride, hcnt⟩ := csqRows_reset _ (List.mem_of_find?_eq_some hf) hne
      simp [hoff, hstride, hcnt] at hsat
      omega
  unfold regReset
  repeat rw [if_neg (by omega)]
  split
  · next b r i h => rw [hrow b r i h]; rfl
  · rfl

/-- Settles O59: each value of the register map is read off the reset state. -/
theorem resetLeavesTheSpecsValues : Obligations.ResetLeavesTheSpecsValues := by
  refine ⟨⟨rfl, rfl, rfl, rfl, rfl⟩, by decide, rfl, rfl, rfl, rfl, rfl, fun n => ?_, fun n => ?_, by decide, ?_, ?_⟩
  · simp [State.reset, State.port, Port.reset]
  · simp [State.reset, State.engine, Engine.reset]
  · intro n hn
    have hreg : State.reset.reg (0x100100 + 4 * n) = BitVec.ofNat 64 (frtDefault n) := by
      have h4 : (0x100100 + 4 * n - 0x100100) / 4 = n := by omega
      simp only [State.reg, State.reset, tabGet, Option.getD_none]
      unfold regReset
      rw [if_neg (by omega), if_neg (by omega), if_neg (by omega), if_neg (by omega), if_pos (by omega), h4]
    rw [hreg]
    interval_cases n <;> rfl
  · exact fun f a => regReset_csq f

end Sys2Proof.Proofs
end

section
/-!
PROOFS. Registering and removing a reduction descriptor (O25).
-/

namespace Sys2Proof.Proofs
open Sys2Proof Sys2Proof.Machine Sys2Proof.Claims

set_option Elab.async false

theorem held_of_idle {s : State} (h : coreOn s = true) : held s = false := by
  unfold coreOn at h
  cases hh : held s <;> simp_all

/-- R23: a write that the management bus does not hold is performed. -/
theorem onBus_free {s : State} {a : Nat} {v : W64} {f : State → State} (h : held s = false) (hb : BusFree s a) :
    onBus a v f s = f s := by
  rw [onBus, if_neg (by simp [h]), if_neg (by simp [hb])]

theorem commitDone_reg (a reason : Nat) (s : State) : (commitDone a reason s).reg a = statusOf reason := by
  rw [commitDone, reg_setRegN, if_pos rfl, statusOf, Nat.mul_comm]

theorem segRead_clean (d : BitVec 128) {s : State} (h : Whole s) : segRead d s = (false, s) := by
  unfold segRead
  split
  · exact tableRead_clean _ _ _ s h.1 h.2
  · rfl

/-- What a registration does with the descriptor staged: the reason of a refusal,
or the descriptor in the table (R184). -/
def registration (d : BitVec 128) (s : State) : State :=
  if descField s d then commitDone 0x4000054 1 s
  else if s.descs.contains d then commitDone 0x4000054 0 s
  else if s.descs.any (fun e => dDigest e == dDigest d) then commitDone 0x4000054 3 s
  else if s.descs.length ≥ 8192 then commitDone 0x4000054 2 s
  else commitDone 0x4000054 0 (granuleClean (.descriptor d) { s with descs := s.descs ++ [d] })

theorem descRegister_clean {s : State} {d : BitVec 128} (hw : Whole s) (hd : stagedDesc s = d) :
    descRegister s = registration d s := by
  rw [descRegister_eq]
  beta_reduce
  extract_lets d' st
  have hread : segRead d' s = (false, s) := segRead_clean _ hw
  have hdesc : d' = d := hd
  have hst : st = 0x4000054 := rfl
  clear_value d' st
  subst hdesc hst
  rw [hread]
  simp only [Bool.or_false, registration]

/-- What a removal does with the descriptor staged: the reason of a refusal, or the table without it (R184). -/
def removal (d : BitVec 128) (s : State) : State :=
  if !s.descs.contains d then commitDone 0x4000054 4 s
  else if s.colls.any (fun c => c.desc == d) then commitDone 0x4000054 5 s
  else commitDone 0x4000054 0 (granuleClean (.descriptor d) { s with descs := s.descs.erase d })

theorem descRemove_eq : descRemove = fun s => removal (stagedDesc s) s := rfl

/-- A command of the CSQ that ends with a status. -/
theorem completes_of_commit {c : Instr} {s t : State} {a reason : Nat} (h : exec c s = .next (commitDone a reason t)) :
    ∃ u, exec c s = .next u ∧ u.descs = t.descs ∧ u.reg a = statusOf reason :=
  ⟨_, h, rfl, commitDone_reg a reason t⟩

/-- Settles O25: each outcome of Table 7.4 is one branch of the registration or of the removal. -/
theorem descriptorsRegisterAndRemove : Obligations.DescriptorsRegisterAndRemove := by
  intro s d hidle hbus hw
  have hd : stagedDesc s = d := rfl
  have hreg : exec .descRegister s = .next (registration d s) := congrArg Host.Outcome.next
    ((onBus_free (v := 0) (f := descRegister) (held_of_idle hidle) hbus).trans (descRegister_clean hw hd))
  have hrem : exec .descRemove s = .next (removal d s) := congrArg Host.Outcome.next
    ((onBus_free (v := 1) (f := descRemove) (held_of_idle hidle) hbus).trans (by rw [descRemove_eq]))
  clear_value d
  refine ⟨fun h1 h2 h3 h4 => ?_, fun h1 => ?_, fun h1 h2 h3 => ?_, fun h1 h2 => ?_, fun h1 h2 h3 h4 => ?_,
      fun h1 h2 => ?_,
    fun h1 h2 => ?_, fun h1 => ?_⟩
  · rw [registration, h1, h2, h3, if_neg (by decide), if_neg (by decide), if_neg (by decide), if_neg (by omega)] at hreg
    exact completes_of_commit hreg
  · rw [registration, if_pos h1] at hreg
    exact completes_of_commit hreg
  · rw [registration, h1, h2, if_neg (by decide), if_neg (by decide), if_pos h3] at hreg
    exact completes_of_commit hreg
  · rw [registration, h1, if_neg (by decide), if_pos h2] at hreg
    exact completes_of_commit hreg
  · rw [registration, h1, h2, h3, if_neg (by decide), if_neg (by decide), if_neg (by decide), if_pos h4] at hreg
    exact completes_of_commit hreg
  · rw [removal, h1, h2, if_neg (by decide), if_neg (by decide)] at hrem
    exact completes_of_commit hrem
  · rw [removal, h1, if_neg (by decide), if_pos h2] at hrem
    exact completes_of_commit hrem
  · rw [removal, h1, if_pos (by decide)] at hrem
    exact completes_of_commit hrem

end Sys2Proof.Proofs
end

section
/-!
PROOFS. What sending packets and closing work leaves as it is: everything but the queues,
  the contexts and the counts they are
about, and of the registers all but those that such work counts in, raises a source in, or keeps a table in.
-/

namespace Sys2Proof.Proofs
open Sys2Proof Sys2Proof.Machine Sys2Proof.Claims

set_option Elab.async false

/-- The state without what sending packets and closing work may change. -/
def calmPart (s : State) : State :=
  { s with csr := [], engines := Vector.replicate 64 Engine.reset, evts := [], excNow := [], raised := [], again := [],
           w1cSet := [], corrected := [], gerr := [], gpoison := [], ports := Vector.replicate 64 Port.reset, spread :=
             [],
           seqCtr := 0, msgCtr := 0, msgs := [], resps := [], results := [], releases := [], colls := [], closed := [],
           locals := [], collWait := [], parked := [], parkMsgs := [], parkMeta := [], parkWait := [], combs := [],
           xclosed := [], xsteps := [], fresh := 0, hep := Hep.reset }

/-- The registers that sending packets and closing work may write: counters, fault registers, those of ports,
routing and contracts,
and the tables of the CSQ. -/
def loud (a : Nat) : Bool :=
  counts a || (decide (0x1000000 ≤ a) && decide (a < 0x4000000)) || a == 0x200008 || a % 0x10000 == 0xF000 ||
    (decide (0x4010000 ≤ a) && (decide (a < 0x4061000) || a % 0x20 == 0x1C || a % 0x40 == 0x2C)) || a == 0x9000410

/-- The engine has no more to do than before, and is else as it was. -/
def Dwindled (x y : Engine) : Prop :=
  (y.dis = x.dis ∧ y.tcache = x.tcache ∧ y.loc = x.loc ∧ y.doneWait = x.doneWait ∧ y.loading = x.loading) ∧
    (∀ r ∈ y.runs, r ∈ x.runs) ∧ ∀ q ∈ y.queue ++ y.heldRuns, q ∈ x.queue ++ x.heldRuns

theorem Dwindled.refl (x : Engine) : Dwindled x x := ⟨⟨rfl, rfl, rfl, rfl, rfl⟩, fun _ h => h, fun _ h => h⟩

theorem Dwindled.trans {x y z : Engine} (h : Dwindled x y) (k : Dwindled y z) : Dwindled x z := by
  obtain ⟨⟨a, b, c, d, e⟩, hr, hq⟩ := h
  obtain ⟨⟨a', b', c', d', e'⟩, hr', hq'⟩ := k
  exact ⟨⟨a'.trans a, b'.trans b, c'.trans c, d'.trans d, e'.trans e⟩, fun r hx => hr r (hr' r hx),
      fun q hx => hq q (hq' q hx)⟩

/-- `t` is `s` after packets have been sent and work has been closed. -/
structure Beside (s t : State) : Prop where
  calm    : calmPart t = calmPart s
  regs    : ∀ a, loud a = false → t.reg a = s.reg a
  faults  : ∀ b i, (s.reg (blkFlt b)).getLsbD i = true → (t.reg (blkFlt b)).getLsbD i = true
  engines : ∀ n, Dwindled (s.engine n) (t.engine n)

theorem Beside.refl (s : State) : Beside s s := ⟨rfl, fun _ _ => rfl, fun _ _ h => h, fun _ => Dwindled.refl _⟩

theorem Beside.trans {s t u : State} (h : Beside s t) (k : Beside t u) : Beside s u :=
  ⟨k.calm.trans h.calm, fun a ha => (k.regs a ha).trans (h.regs a ha), fun b i hb => k.faults b i (h.faults b i hb),
    fun n => (h.engines n).trans (k.engines n)⟩

/-- An update that leaves registers and engines. -/
theorem Beside.keep {s t u : State} (h : Beside s t) (hs : calmPart u = calmPart t) (hc : u.csr = t.csr)
    (he : u.engines = t.engines) : Beside s u := by
  have hf : (calmPart u).fuses = (calmPart t).fuses := congrArg State.fuses hs
  have hreg : ∀ a, u.reg a = t.reg a := fun a => by rw [State.reg, State.reg, hc, show u.fuses = t.fuses from hf]
  have heng : ∀ n, u.engine n = t.engine n := fun n => by rw [State.engine, State.engine, he]
  exact ⟨hs.trans h.calm, fun a ha => (hreg a).trans (h.regs a ha), fun b i hb => (hreg _).symm ▸ h.faults b i hb,
    fun n => (heng n).symm ▸ h.engines n⟩

theorem Beside.setReg {s t : State} (h : Beside s t) {a : Nat} (v : W64) (hl : loud a = true) (hf : ∀ b, a ≠ blkFlt b) :
    Beside s (t.setReg a v) := by
  refine ⟨h.calm, fun b hb => ?_, fun b i hb => ?_, h.engines⟩
  · rw [reg_setReg, if_neg (by rintro rfl; simp [hl] at hb)]
    exact h.regs b hb
  · rw [reg_setReg, if_neg (Ne.symm (hf b))]
    exact h.faults b i hb

theorem blkFlt_mod (b : Blk) : blkFlt b % 0x10000 = 0xF000 := by
  cases b <;> simp only [blkFlt, blkBase] <;> omega

theorem ne_blkFlt {a : Nat} (h : a % 0x10000 ≠ 0xF000) (b : Blk) : a ≠ blkFlt b := fun e => h (e ▸ blkFlt_mod b)

theorem loud_blkFlt (b : Blk) : loud (blkFlt b) = true := by simp [loud, blkFlt_mod]

/-- A sticky register: bits come, none goes. -/
theorem Beside.setSticky {s t : State} (h : Beside s t) {a : Nat} (m : W64) (hl : loud a = true)
    : Beside s (t.setSticky a m) := by
  have hreg : ∀ x, (t.setSticky a m).reg x = if x = a then t.reg a ||| m else t.reg x := fun x => reg_setReg t a x _
  refine ⟨h.calm, fun b hb => ?_, fun b i hb => ?_, h.engines⟩
  · rw [hreg, if_neg (by rintro rfl; simp [hl] at hb)]
    exact h.regs b hb
  · rw [hreg]
    have := h.faults b i hb
    split
    · next e => rw [BitVec.getLsbD_or, ← e, this]; rfl
    · exact this

end Sys2Proof.Proofs
end

section
/-!
PROOFS. Counting, raising, reading other memories, and sending packets: each leaves the rest of the state as it was
  (R33, R108 to R119).
-/

namespace Sys2Proof.Proofs
open Sys2Proof Sys2Proof.Machine Sys2Proof.Claims

set_option Elab.async false

variable {s₀ s : State}

/-! ## Choices and folds -/

theorem Beside.ite {c : Prop} [Decidable c] {x y : State} (hx : Beside s₀ x) (hy : Beside s₀ y)
    : Beside s₀ (if c then x else y) := by
  split
  · exact hx
  · exact hy

theorem Beside.pair {α : Type} {c : Prop} [Decidable c] {x y : α × State} (hx : Beside s₀ x.2) (hy : Beside s₀ y.2) :
    Beside s₀ (if c then x else y).2 := by
  split
  · exact hx
  · exact hy

theorem Beside.triple {α β : Type} {c : Prop} [Decidable c] {x y : α × β × State} (hx : Beside s₀ x.2.2)
    (hy : Beside s₀ y.2.2) :
    Beside s₀ (if c then x else y).2.2 := by
  split
  · exact hx
  · exact hy

/-- The state of an answer that is known. -/
theorem Beside.of_eq {α : Type} {x : α × State} {a : α} {t : State} (e : x = (a, t)) (h : Beside s₀ x.2)
    : Beside s₀ t := by
  rw [e] at h; exact h

theorem Beside.of_eq₃ {α β : Type} {x : α × β × State} {a : α} {b : β} {t : State} (e : x = (a, b, t))
    (h : Beside s₀ x.2.2) :
    Beside s₀ t := by
  rw [e] at h; exact h

theorem foldl_beside {α : Type} {f : State → α → State} {l : List α} {s : State}
    (hf : ∀ t x, Beside s₀ t → Beside s₀ (f t x)) (h : Beside s₀ s) : Beside s₀ (l.foldl f s) := foldl_invariant hf h

/-- … of which each element may have what it takes. -/
theorem foldl_beside_mem {α : Type} {f : State → α → State} {l : List α} {s : State}
    (hf : ∀ t, ∀ x ∈ l, Beside s₀ t → Beside s₀ (f t x)) (h : Beside s₀ s) : Beside s₀ (l.foldl f s) := by
  induction l generalizing s with
  | nil => exact h
  | cons x l ih => exact ih (fun t y hy => hf t y (List.mem_cons_of_mem x hy)) (hf s x List.mem_cons_self h)

theorem foldl_beside_snd {α β : Type} {f : β × State → α → β × State} {l : List α} {x : β × State}
    (hf : ∀ t a, Beside s₀ t.2 → Beside s₀ (f t a).2) (h : Beside s₀ x.2) : Beside s₀ (l.foldl f x).2 :=
  foldl_invariant (P := fun x : β × State => Beside s₀ x.2) hf h

theorem foldl_beside_snd_snd {α β γ : Type} {f : β × γ × State → α → β × γ × State} {l : List α} {x : β × γ × State}
    (hf : ∀ t a, Beside s₀ t.2.2 → Beside s₀ (f t a).2.2) (h : Beside s₀ x.2.2) : Beside s₀ (l.foldl f x).2.2 :=
  foldl_invariant (P := fun x : β × γ × State => Beside s₀ x.2.2) hf h

/-! ## Counting and raising -/

theorem count_beside {src n : Nat} {port tc grp : Option Nat} (h : Beside s₀ s) : Beside s₀ (count src n port tc grp s) :=
  h.keep rfl rfl rfl

theorem countPkt_beside {src n : Nat} {p : Packet} (h : Beside s₀ s) : Beside s₀ (countPkt src n p s) := count_beside h

theorem Beside.countReg {a n : Nat} (h : Beside s₀ s) (hl : loud a = true) (hf : a % 0x10000 ≠ 0xF000) :
    Beside s₀ (s.countReg a n) := by
  unfold State.countReg
  exact .ite h (h.setReg _ hl (ne_blkFlt hf))

/-- The registers in which a port unit counts, and its meters. -/
theorem loud_puBase {n i : Nat} (hn : n < 64) (hi : i < 0x10000) : loud (puBase n + i) = true := by
  have h1 : decide (0x1000000 ≤ puBase n + i) = true := decide_eq_true (by unfold puBase; omega)
  have h2 : decide (puBase n + i < 0x4000000) = true := decide_eq_true (by unfold puBase; omega)
  simp [loud, h1, h2]

theorem puBase_mod (n : Nat) {i : Nat} (hi : i < 0x10000) : (puBase n + i) % 0x10000 = i := by
  unfold puBase; omega

theorem Beside.countPort {n i k : Nat} (h : Beside s₀ s) (hn : n < 64) (hi : i < 0x10000) (hf : i ≠ 0xF000) :
    Beside s₀ (s.countReg (puBase n + i) k) :=
  h.countReg (loud_puBase hn hi) (by rw [puBase_mod n hi]; exact hf)

theorem raise_beside {b : Blk} {src : Nat} (h : Beside s₀ s) : Beside s₀ (raise b src s) := by
  have hs := h.setSticky (a := blkFlt b) (BitVec.ofNat 64 (2 ^ src)) (loud_blkFlt b)
  have hc : Beside s₀ (if collected (s.setSticky (blkFlt b) (BitVec.ofNat 64 (2 ^ src))) then
      (s.setSticky (blkFlt b) (BitVec.ofNat 64 (2 ^ src))).setSticky 0x200008 (BitVec.ofNat 64 (2 ^ blkFaultBlock b))
      else s.setSticky (blkFlt b) (BitVec.ofNat 64 (2 ^ src))) := .ite (hs.setSticky _ (by decide)) hs
  unfold raise
  exact .ite (hs.keep rfl rfl rfl) (hc.keep rfl rfl rfl)

theorem raiseIf_beside {c : Bool} {b : Blk} {src : Nat} (h : Beside s₀ s) : Beside s₀ (raiseIf c b src s) := by
  unfold raiseIf
  exact .ite (raise_beside h) h

/-! ## Other memories -/

theorem scanOne_beside {b : Blk} {x : List GMem × List (GMem × BitVec 128)
    × State} {e : GMem × Flaw} (h : Beside s₀ x.2.2) :
    Beside s₀ (scanOne b x e).2.2 := by
  unfold scanOne
  split
  · exact h
  · exact h.keep rfl rfl rfl
  · exact h.keep rfl rfl rfl
  · exact raise_beside (h.keep rfl rfl rfl)

theorem memScan_beside {b : Blk} {sel : GMem → Bool} (h : Beside s₀ s) : Beside s₀ (memScan b sel s).2.2 := by
  unfold memScan
  exact foldl_beside_snd_snd (fun _ _ k => scanOne_beside k) (raiseIf_beside (h.keep rfl rfl rfl))

/-- What a read finds wrong it has looked for. -/
theorem memScan_wrong {b : Blk} {sel : GMem → Bool} {e : GMem × BitVec 128} (he : e ∈ (memScan b sel s).2.1)
    : sel e.1 = true := by
  have fold : ∀ (l : List (GMem × Flaw)) (x : List GMem × List (GMem × BitVec 128) × State), (∀ y ∈ l, sel y.1 = true) →
      (∀ y ∈ x.2.1, sel y.1 = true) → ∀ y ∈ (l.foldl (scanOne b) x).2.1, sel y.1 = true := by
    intro l
    induction l with
    | nil => exact fun _ _ hx => hx
    | cons z l ih =>
      intro x hl hx
      refine ih _ (fun y hy => hl y (by simp [hy])) ?_
      unfold scanOne
      split
      · exact hx
      · exact hx
      · intro y hy
        obtain hy | hy := List.mem_append.1 hy
        · exact hx y hy
        · rw [List.mem_singleton.1 hy]
          exact hl z (by simp)
      · exact hx
  exact fold _ _ (fun y hy => (List.mem_filter.1 hy).2) (by simp) e he

theorem wordsXor_beside {a : Nat} {m : BitVec 128} (hl : ∀ i, i < 16 → loud (a + i) = true ∧ ∀ b, a + i ≠ blkFlt b)
    (h : Beside s₀ s) : Beside s₀ (wordsXor a m s) := by
  refine foldl_beside_mem (fun t i hi ht => ?_) h
  obtain ⟨h1, h2⟩ := hl i (by fin_cases hi <;> decide)
  split
  · split
    · next e => subst e; exact ht.setReg _ h1 h2
    · exact ht
  · exact ht

/-- A read of a table whose words, those that follow it in a granule with them, are loud. -/
theorem Beside.tableRead {b : Blk} {a n : Nat} (h : Beside s₀ s)
    (hl : ∀ x, a / 16 * 16 ≤ x → x < a + n + 16 → loud x = true ∧ ∀ b, x ≠ blkFlt b)
      : Beside s₀ (tableRead b a n s).2 := by
  unfold Machine.tableRead
  refine foldl_beside_mem (fun t e he ht => ?_) (memScan_beside h)
  split
  · next x hx =>
    have hsel := memScan_wrong he
    simp only [hx, Bool.and_eq_true, decide_eq_true_eq] at hsel
    exact wordsXor_beside (fun i hi => hl (x + i) (by omega) (by omega)) ht
  · exact ht

end Sys2Proof.Proofs
end

section
/-!
PROOFS. A packet on its way out of the switch: what its routing and its egress leave as it was (R108 to R119).
-/

namespace Sys2Proof.Proofs
open Sys2Proof Sys2Proof.Machine Sys2Proof.Claims

set_option Elab.async false

variable {s₀ s : State}

/-! ## Tables of routing, contracts and the CSQ -/

theorem loud_table {x : Nat} (h1 : 0x2000000 ≤ x) (h2 : x < 0x4000000) (h3 : x ≠ 0x200F000) (h4 : x ≠ 0x300F000) :
    loud x = true ∧ ∀ b, x ≠ blkFlt b := by
  refine ⟨?_, fun b => ?_⟩
  · have h5 : decide (0x1000000 ≤ x) = true := decide_eq_true (by omega)
    have h6 : decide (x < 0x4000000) = true := decide_eq_true h2
    simp [loud, h5, h6]
  · cases b <;> simp only [blkFlt, blkBase] <;> omega

theorem loud_csqTable {x : Nat} (h1 : 0x4010000 ≤ x) (h2 : x < 0x4061000) : loud x = true ∧ ∀ b, x ≠ blkFlt b := by
  refine ⟨?_, fun b => ?_⟩
  · have h5 : decide (0x4010000 ≤ x) = true := decide_eq_true h1
    have h6 : decide (x < 0x4061000) = true := decide_eq_true h2
    simp [loud, h5, h6]
  · cases b <;> simp only [blkFlt, blkBase] <;> omega

theorem contract_lt (p : Packet) : p.contract < 4096 := Nat.mod_lt _ (by decide)

theorem contractRead_beside {c : Nat} (hc : c < 4096) (h : Beside s₀ s) : Beside s₀ (contractRead c s).2 :=
  h.tableRead fun x h1 h2 => loud_table (by omega) (by omega) (by omega) (by omega)

theorem cwAxis_lt (cw a : Nat) : cwAxis cw a < 64 := by
  unfold cwAxis bits
  exact Nat.lt_of_lt_of_le (Nat.mod_lt _ (Nat.two_pow_pos _)) (Nat.pow_le_pow_right (by decide)
      (show 6 * a + 5 + 1 - 6 * a ≤ 6 by omega))

theorem signpostRead_beside {axis dst : Nat} (ha : axis < 3) (h : Beside s₀ s) :
    Beside s₀ (tableRead .rte (0x2001000 + axis * 0x100 + cwAxis dst axis * 4) 4 s).2 := by
  have := cwAxis_lt dst axis
  exact h.tableRead fun x h1 h2 => loud_table (by omega) (by omega) (by omega) (by omega)

theorem pathRead_beside {c : Nat} (hc : c < 4096) (h : Beside s₀ s) : Beside s₀ (tableRead .rte (0x2010000 + c * 4)
    4 s).2 :=
  h.tableRead fun x h1 h2 => loud_table (by omega) (by omega) (by omega) (by omega)

/-! ## Crossbar and egress -/

theorem cross_beside {f t n : Nat} (h : Beside s₀ s) : Beside s₀ (cross f t n s) := by
  unfold cross
  exact .ite h (count_beside h)

theorem carry_beside {hq mq n : Nat} {p : Packet} (h : Beside s₀ s) : Beside s₀ (carry hq mq n p s) :=
    cross_beside (cross_beside h)

theorem stageRead_beside {b : Blk} {st : Stage} {n : Nat} {p : Packet} (h : Beside s₀ s)
    : Beside s₀ (stageRead b st n p s).2 := by
  unfold stageRead
  exact .pair ((memScan_beside h).keep rfl rfl rfl) (memScan_beside h)

theorem modPort_beside {n : Nat} {f : Port → Port} (h : Beside s₀ s) : Beside s₀ (s.modPort n f) := h.keep rfl rfl rfl

theorem egressPush_beside {n hop : Nat} {p : Packet} {g i : Option Nat} (h : Beside s₀ s)
    : Beside s₀ (egressPush n p g hop i s) :=
  modPort_beside h

theorem egressGreen_beside {n hop : Nat} {p : Packet} {i : Option Nat} (hn : n < 64) (h : Beside s₀ s) :
    Beside s₀ (egressGreen n p hop i s) := by
  have h0 := contractRead_beside (contract_lt p) h
  unfold egressGreen
  exact .ite h0 (.ite (.ite (raise_beside (countPkt_beside (h0.countPort hn (by decide) (by decide))))
      (egressPush_beside h0))
    (egressPush_beside (raiseIf_beside (countPkt_beside h0))))

theorem egress_beside {n dl hop : Nat} {p : Packet} {i : Option Nat} (hn : n < 64) (h : Beside s₀ s) :
    Beside s₀ (egress n p dl hop i s) := by
  unfold egress
  exact .ite (count_beside h) (.ite (.ite (egressPush_beside h) (raise_beside (countPkt_beside h)))
    (.ite (egressGreen_beside hn h) (egressPush_beside h)))

theorem throughRte_beside {n hq mq dl hop : Nat} {i : Option Nat} {p : Packet} (hn : n < 64) (h : Beside s₀ s) :
    Beside s₀ (throughRte n hq mq dl hop i p s) := by
  have h1 : Beside s₀ (stageRead .rte .crossbar n p (carry hq mq n p s)).2 := stageRead_beside (carry_beside h)
  unfold throughRte
  split
  · next e => exact .of_eq e h1
  · next e => exact egress_beside hn (.of_eq e h1)

theorem toTrunk_beside {n hq mq hop : Nat} {i : Option Nat} {p : Packet} (hn : n < 64) (h : Beside s₀ s) :
    Beside s₀ (toTrunk n hq mq i hop p s) := throughRte_beside hn h

/-! ## Routing -/

theorem noRoute_beside {n : Option Nat} {p : Packet} (h : Beside s₀ s) : Beside s₀ (noRoute n p s) :=
    raise_beside (count_beside h)

theorem spreadChoose_beside {quad axis : Nat} {ps : List Nat} (h : Beside s₀ s)
    : Beside s₀ (spreadChoose quad axis ps s).2 := by
  unfold spreadChoose
  dsimp only
  split
  · exact h
  · exact h.keep rfl rfl rfl

theorem foldl_choice_mem {α : Type} (f : α → α → Bool) (l : List α) (x : α) :
    l.foldl (fun best q => if f best q then best else q) x ∈ x :: l := by
  induction l generalizing x with
  | nil => simp
  | cons y l ih =>
    rw [List.foldl_cons]
    obtain h | h := List.mem_cons.1 (ih (if f x y then x else y))
    · rw [h]
      split <;> simp
    · exact List.mem_cons_of_mem x (List.mem_cons_of_mem y h)

theorem mem_of_fromPointer {ptr n : Nat} {ps : List Nat} (h : n ∈ fromPointer ptr ps) : n ∈ ps := by
  simp only [fromPointer, List.mem_append, List.mem_filter] at h
  tauto

/-- The egress that spreading chooses is one of those it is given (R114). -/
theorem spreadChoose_mem {quad axis n : Nat} {ps : List Nat} {t : State} (h : spreadChoose quad axis ps s = (some n,
    t)) : n ∈ ps := by
  unfold spreadChoose at h
  dsimp only at h
  split at h
  · simp at h
  · next hpick =>
    simp only [Prod.mk.injEq, Option.some.injEq] at h
    obtain ⟨rfl, -⟩ := h
    split at hpick
    · simp at hpick
    · next p r horder =>
      simp only [Option.some.injEq] at hpick
      refine mem_of_fromPointer (ptr := tabOr s.spread (quad * 3 + axis) 0) ?_
      rw [horder, ← hpick]
      split
      · exact List.mem_cons_self
      · exact foldl_choice_mem _ r p

theorem detourSet_lt {axis dst n : Nat} (h : n ∈ detourSet s axis dst) : n < 64 := by
  unfold detourSet at h
  exact List.mem_range.1 (List.mem_filter.1 h).1

theorem routeAxis_lt {dst axis : Nat} (h : routeAxis s dst = some axis) : axis < 3 := by
  have hmem := List.mem_of_find?_eq_some h
  simp only [List.mem_cons, List.not_mem_nil, or_false] at hmem
  omega

theorem route_beside {i : Option Nat} {quad mq hop : Nat} {p : Packet} (h : Beside s₀ s)
    : Beside s₀ (route i quad mq hop p s) := by
  unfold route
  split
  · exact h
  · next axis haxis =>
    have h1 := pathRead_beside (contract_lt p) h
    have h2 : Beside s₀ (if cwAxis p.dst axis < dimAxis s axis then
        tableRead .rte (0x2001000 + axis * 0x100 + cwAxis p.dst axis * 4) 4 s else (false, s)).2 :=
      .pair (signpostRead_beside (routeAxis_lt haxis) h) h
    refine .ite ?_ ?_
    · dsimp only
      exact .ite (count_beside h1) (.ite (countPkt_beside (toTrunk_beside (Nat.mod_lt _ (by decide)) h1))
          (noRoute_beside h1))
    · dsimp only
      generalize (if cwAxis p.dst axis < dimAxis s axis then
        tableRead .rte (0x2001000 + axis * 0x100 + cwAxis p.dst axis * 4) 4 s else (false, s)) = x at h2 ⊢
      refine .ite (count_beside h2) ?_
      have h3 : Beside s₀ (spreadChoose quad axis (detourSet x.2 axis p.dst) x.2).2 := spreadChoose_beside h2
      split
      · next e => exact noRoute_beside (.of_eq e h3)
      · next e => exact countPkt_beside (toTrunk_beside (detourSet_lt (spreadChoose_mem e)) (.of_eq e h3))

theorem cwP_lt (cw : Nat) : cwP cw < 64 := Nat.mod_lt _ (by decide)

theorem toEndpoint_beside {i : Option Nat} {quad mq hop : Nat} {p : Packet} (h : Beside s₀ s) :
    Beside s₀ (toEndpoint i quad mq hop p s) := by
  unfold toEndpoint
  exact .ite (throughRte_beside (cwP_lt _) h) (raise_beside (countPkt_beside h))

theorem sendOn_beside {quad mq hop : Nat} {p : Packet} (h : Beside s₀ s) : Beside s₀ (sendOn quad mq hop p s) := by
  unfold sendOn
  exact .ite (toEndpoint_beside h) (route_beside h)

/-- A packet that the switch originates (R38, R43). -/
theorem originateFrom_beside {quad mq : Nat} {p : Packet} (h : Beside s₀ s) : Beside s₀ (originateFrom quad mq p s) := by
  unfold originateFrom
  exact .ite (count_beside h) (sendOn_beside (h.keep rfl rfl rfl))

theorem originate_beside {quad : Nat} {p : Packet} (h : Beside s₀ s) : Beside s₀ (originate quad p s) :=
    originateFrom_beside h

end Sys2Proof.Proofs
end

section
/-!
PROOFS. Runs that end, and contexts that close: what that leaves as it was (R185, R192, R229, R266).
-/

namespace Sys2Proof.Proofs
open Sys2Proof Sys2Proof.Machine Sys2Proof.Claims

set_option Elab.async false

variable {s₀ s : State}

theorem Beside.setRegN {a v : Nat} (h : Beside s₀ s) (hl : loud a = true) (hf : a % 0x10000 ≠ 0xF000) :
    Beside s₀ (s.setRegN a v) := h.setReg _ hl (ne_blkFlt hf)

theorem Beside.setField {a hi lo v : Nat} (h : Beside s₀ s) (hl : loud a = true) (hf : a % 0x10000 ≠ 0xF000) :
    Beside s₀ (s.setField a hi lo v) := h.setRegN hl hf

/-! ## Runs -/

theorem Dwindled.refill (x : Engine) : Dwindled x (Engine.refill x) := by
  refine ⟨⟨rfl, rfl, rfl, rfl, rfl⟩, fun _ h => h, fun q hq => ?_⟩
  simp only [Engine.refill, List.append_assoc, List.take_append_drop] at hq
  exact hq

theorem Dwindled.dropRuns (mine : RunOrigin → Bool) (x : Engine) : Dwindled x (Engine.dropRuns mine x) := by
  refine Dwindled.trans (y := { x with
    queue := x.queue.filter (fun q => !mine q.origin)
    heldRuns := x.heldRuns.filter (fun q => !mine q.origin)
    runs := x.runs.filter (fun r => !mine r.origin) }) ⟨⟨rfl, rfl, rfl, rfl, rfl⟩, fun r hr => ?_, fun q hq => ?_⟩
      (Dwindled.refill _)
  · exact (List.mem_filter.1 hr).1
  · obtain hq | hq := List.mem_append.1 hq
    · exact List.mem_append_left _ (List.mem_filter.1 hq).1
    · exact List.mem_append_right _ (List.mem_filter.1 hq).1

theorem engine_mapEngines (f : Engine → Engine) (n : Nat) :
    State.engine { s with engines := s.engines.map f } n = f (s.engine n) := by
  simp [State.engine, get_eq]

theorem endRunsOf_beside {mine : RunOrigin → Bool} (h : Beside s₀ s) : Beside s₀ (endRunsOf mine s) := by
  have h1 : Beside s { s with engines := s.engines.map (Engine.dropRuns mine) } :=
    ⟨rfl, fun _ _ => rfl, fun _ _ hb => hb, fun n => (engine_mapEngines _ n).symm ▸ Dwindled.dropRuns mine _⟩
  unfold endRunsOf
  exact foldl_beside (fun t n ht => count_beside ht) (h.trans h1)

/-! ## Horizons -/

theorem horizon_loud (g : Nat) : loud (0x401001C + g * 0x20) = true ∧ (0x401001C + g * 0x20) % 0x10000 ≠ 0xF000 := by
  have h1 : decide (0x4010000 ≤ 0x401001C + g * 0x20) = true := decide_eq_true (by omega)
  have h2 : (0x401001C + g * 0x20) % 0x20 = 0x1C := by omega
  exact ⟨by simp [loud, h1, h2], by omega⟩

theorem tableHorizon_loud (t : Nat) : loud (xBase t + 0x2C) = true ∧ (xBase t + 0x2C) % 0x10000 ≠ 0xF000 := by
  obtain ⟨a, ha⟩ : ∃ a, a = xBase t + 0x2C := ⟨_, rfl⟩
  have hbase : a = 0x4060000 + t * 0x40 + 0x2C := ha
  have h1 : decide (0x4010000 ≤ a) = true := decide_eq_true (by omega)
  have h2 : a % 0x40 = 0x2C := by omega
  rw [← ha]
  exact ⟨by simp [loud, h1, h2], by omega⟩

theorem advanceH_beside {fuel g : Nat} (h : Beside s₀ s) : Beside s₀ (advanceH fuel g s) := by
  induction fuel generalizing s with
  | zero => exact h
  | succ f ih =>
    have h1 := h.setReg ((grpH s g + 1).setWidth 64) (horizon_loud g).1 (ne_blkFlt (horizon_loud g).2)
    unfold advanceH
    exact .ite (ih (h1.keep rfl rfl rfl)) h

theorem advanceXH_beside {fuel t : Nat} (h : Beside s₀ s) : Beside s₀ (advanceXH fuel t s) := by
  induction fuel generalizing s with
  | zero => exact h
  | succ f ih =>
    have h1 := h.setReg ((xH s t + 1).setWidth 64) (tableHorizon_loud t).1 (ne_blkFlt (tableHorizon_loud t).2)
    unfold advanceXH
    exact .ite (ih (h1.keep rfl rfl rfl)) h

end Sys2Proof.Proofs
end

section
/-!
PROOFS. A field of the state that an operation leaves: the rules for choices and folds.
-/

namespace Sys2Proof.Proofs
open Sys2Proof Sys2Proof.Machine Sys2Proof.Claims

set_option Elab.async false

/-- The field `f` of the state is `v`. -/
def Having {β : Type} (f : State → β) (v : β) (t : State) : Prop := f t = v

variable {β : Type} {f : State → β} {v : β} {s t : State}

theorem Having.ite {c : Prop} [Decidable c] {x y : State} (hx : Having f v x) (hy : Having f v y)
    : Having f v (if c then x else y) := by
  split
  · exact hx
  · exact hy

theorem Having.pair {α : Type} {c : Prop} [Decidable c] {x y : α × State} (hx : Having f v x.2) (hy : Having f v y.2) :
    Having f v (if c then x else y).2 := by
  split
  · exact hx
  · exact hy

theorem Having.triple {α γ : Type} {c : Prop} [Decidable c] {x y : α × γ × State} (hx : Having f v x.2.2)
    (hy : Having f v y.2.2) :
    Having f v (if c then x else y).2.2 := by
  split
  · exact hx
  · exact hy

theorem Having.of_eq {α : Type} {x : α × State} {a : α} {t : State} (e : x = (a, t)) (h : Having f v x.2)
    : Having f v t := by
  rw [e] at h; exact h

theorem Having.of_eq₃ {α γ : Type} {x : α × γ × State} {a : α} {b : γ} {t : State} (e : x = (a, b, t))
    (h : Having f v x.2.2) :
    Having f v t := by
  rw [e] at h; exact h

theorem foldl_having {α : Type} {g : State → α → State} {l : List α} {s : State}
    (hg : ∀ t x, Having f v t → Having f v (g t x)) (h : Having f v s) : Having f v (l.foldl g s) := foldl_invariant hg h

theorem foldl_having_snd {α γ : Type} {g : γ × State → α → γ × State} {l : List α} {x : γ × State}
    (hg : ∀ t a, Having f v t.2 → Having f v (g t a).2) (h : Having f v x.2) : Having f v (l.foldl g x).2 :=
  foldl_invariant (P := fun x : γ × State => Having f v x.2) hg h

theorem foldl_having_snd_snd {α γ δ : Type} {g : γ × δ × State → α → γ × δ × State} {l : List α} {x : γ × δ × State}
    (hg : ∀ t a, Having f v t.2.2 → Having f v (g t a).2.2) (h : Having f v x.2.2) : Having f v (l.foldl g x).2.2 :=
  foldl_invariant (P := fun x : γ × δ × State => Having f v x.2.2) hg h

theorem Having.keep (h : Having f v s) (e : f t = f s) : Having f v t := e.trans h

/-! ## From what an operation may change -/

theorem Having.regs (h : Having f v s) (k : OnlyRegs s t)
    (e : ∀ csr w ev ex, f { s with
        csr := csr, w1cSet := w, evts := ev, excNow := ex } = f s := by intros; rfl) : Having f v t := by
  obtain ⟨_, _, _, _, rfl, _⟩ := k
  exact h.keep (e _ _ _ _)

theorem Having.raises (h : Having f v s) (k : OnlyRaises s t)
    (e : ∀ csr w ev ex r ag, f { s with
        csr := csr, w1cSet := w, evts := ev, excNow := ex, raised := r, again := ag } = f s := by
      intros; rfl) : Having f v t := by
  obtain ⟨_, _, _, _, _, _, rfl, _⟩ := k
  exact h.keep (e _ _ _ _ _ _)

theorem Having.scans (h : Having f v s) (k : OnlyScans s t)
    (e : ∀ csr w ev ex r ag ge gp co, f { s with
        csr := csr, w1cSet := w, evts := ev, excNow := ex, raised := r, again := ag, gerr := ge, gpoison := gp,
          corrected := co } = f s := by intros; rfl) : Having f v t := by
  obtain ⟨_, _, _, _, _, _, _, _, _, rfl, _⟩ := k
  exact h.keep (e _ _ _ _ _ _ _ _ _)

theorem Having.store (h : Having f v s) (k : OnlyStore s t)
    (e : ∀ csr w ev ex r ag rc fl po m, f { s with
        csr := csr, w1cSet := w, evts := ev, excNow := ex, raised := r, again := ag, rowCache := rc, flaws := fl,
          poison := po, mem := m } = f s := by intros; rfl) : Having f v t := by
  obtain ⟨_, _, _, _, _, _, _, _, _, _, rfl, _⟩ := k
  exact h.keep (e _ _ _ _ _ _ _ _ _ _)

theorem Having.sends (h : Having f v s) (k : OnlySends s t)
    (e : ∀ csr w ev ex r ag ge gp co ps sp q, f { s with
        csr := csr, w1cSet := w, evts := ev, excNow := ex, raised := r, again := ag, gerr := ge, gpoison := gp,
          corrected := co, ports := ps, spread := sp, seqCtr := q } = f s := by intros; rfl) :
    Having f v t := by
  obtain ⟨_, _, _, _, _, _, _, _, _, _, _, _, rfl, _⟩ := k
  exact h.keep (e _ _ _ _ _ _ _ _ _ _ _ _)

theorem Having.messages (h : Having f v s) (k : OnlyMessages s t)
    (e : ∀ csr w ev ex r ag ge gp co ms, f { s with
        csr := csr, w1cSet := w, evts := ev, excNow := ex, raised := r, again := ag, gerr := ge, gpoison := gp,
          corrected := co, msgs := ms } = f s := by intros; rfl) : Having f v t := by
  obtain ⟨_, _, _, _, _, _, _, _, _, _, rfl, _⟩ := k
  exact h.keep (e _ _ _ _ _ _ _ _ _ _)

end Sys2Proof.Proofs
end

section
/-!
PROOFS. Collectives, combine contexts and expert steps that end: what that leaves as it was,
  and that of the collectives it leaves
all others (R192, R229, R241).
-/

namespace Sys2Proof.Proofs
open Sys2Proof Sys2Proof.Machine Sys2Proof.Claims

set_option Elab.async false

variable {s₀ s : State} {cs : List Coll}

theorem endCollRuns_beside {g : Nat} {cseq : W32} (h : Beside s₀ s) : Beside s₀ (endCollRuns g cseq s) := by
  unfold endCollRuns
  exact endRunsOf_beside h

theorem closeCseq_beside {g : Nat} {cseq : W32} (h : Beside s₀ s) : Beside s₀ (closeCseq g cseq s) := by
  unfold closeCseq
  exact advanceH_beside (h.keep rfl rfl rfl)

theorem collEnd_beside {g : Nat} {cseq : W32} (h : Beside s₀ s) : Beside s₀ (collEnd g cseq s) := by
  unfold collEnd
  dsimp only
  exact closeCseq_beside (by
      have hb : Beside s₀ (endCollRuns g cseq s) := (endCollRuns_beside h)
      generalize endCollRuns g cseq s = u at hb ⊢
      exact hb.keep rfl rfl rfl)

theorem newMsgId_beside (h : Beside s₀ s) : Beside s₀ (newMsgId s).2 := by
  unfold newMsgId
  exact h.keep rfl rfl rfl

theorem collSend_beside {g mq : Nat} {p : Packet} (h : Beside s₀ s) : Beside s₀ (collSend g mq p s) := by
  unfold collSend
  exact .ite (h.keep rfl rfl rfl) (originateFrom_beside h)

theorem sendControl_beside {g : Nat} {cseq digest : W32} {tc dst step : Nat} {pay : List Byte} (h : Beside s₀ s) :
    Beside s₀ (sendControl g cseq digest tc dst step pay s) := by
  unfold sendControl
  dsimp only
  exact collSend_beside (newMsgId_beside h)

theorem sendRecord_beside {typ g : Nat} {cseq digest : W32} {tc dst code : Nat} {fl : Fl} {first : W32} {seg : Nat}
    (h : Beside s₀ s) : Beside s₀ (sendRecord typ g cseq digest tc dst code fl first seg s) := by
  unfold sendRecord
  dsimp only
  exact collSend_beside (newMsgId_beside h)

theorem collAbort_beside {g : Nat} {cseq digest : W32} {tc port code : Nat} {skip : Option Nat} (h : Beside s₀ s) :
    Beside s₀ (collAbort g cseq digest tc port code skip s) := by
  unfold collAbort
  dsimp only
  exact foldl_beside (fun _ _ h1 => sendRecord_beside h1) (foldl_beside (fun _ _ h1 => sendControl_beside h1)
      (count_beside (collEnd_beside h)))

theorem collFail_beside {c : Coll} {code : Nat} (h : Beside s₀ s) : Beside s₀ (collFail c code s) := by
  unfold collFail
  exact collAbort_beside h

theorem failColls_beside {q : Coll → Bool} {code : Nat} (h : Beside s₀ s) : Beside s₀ (failColls q code s) := by
  unfold failColls
  exact foldl_beside (fun _ _ h1 => collFail_beside h1) h

theorem closeStep_beside {t : Nat} {cseq : W32} (h : Beside s₀ s) : Beside s₀ (closeStep t cseq s) := by
  unfold closeStep
  exact advanceXH_beside (h.keep rfl rfl rfl)

theorem finishStep_beside {t : Nat} {cseq : W32} (h : Beside s₀ s) : Beside s₀ (finishStep t cseq s) := by
  unfold finishStep
  dsimp only
  split
  · exact h
  · next e =>
      exact .ite (closeStep_beside (count_beside h)) h

theorem dropComb_beside {c : Comb} (h : Beside s₀ s) : Beside s₀ (dropComb c s) := by
  unfold dropComb
  dsimp only
  have hb : Beside s₀ (endRunsOf (ofComb c) s) := (endRunsOf_beside h)
  generalize endRunsOf (ofComb c) s = u at hb ⊢
  exact hb.keep rfl rfl rfl

theorem closeComb_beside {c : Comb} (h : Beside s₀ s) : Beside s₀ (closeComb c s) := by
  unfold closeComb
  exact finishStep_beside (dropComb_beside h)

theorem dropExperts_beside {qs : XStep → Bool} {qc : Comb → Bool} (h : Beside s₀ s) :
    Beside s₀ (dropExperts qs qc s) := by
  unfold dropExperts
  dsimp only
  exact foldl_beside (fun _ _ h1 => closeStep_beside h1) (foldl_beside (fun _ _ h1 => closeComb_beside h1) h)

theorem emptyResult_beside {t : Nat} {cseq : W32} {token : Nat} {toksrc : W32} {tc port : Nat} (h : Beside s₀ s) :
    Beside s₀ (emptyResult t cseq token toksrc tc port s) := by
  unfold emptyResult
  dsimp only
  exact originate_beside (count_beside (newMsgId_beside h))

theorem forceCombs_beside {q : Comb → Bool} (h : Beside s₀ s) : Beside s₀ (forceCombs q s) := by
  unfold forceCombs
  exact foldl_beside (fun _ _ h1 => closeComb_beside (emptyResult_beside h1)) h

theorem notify_beside {m op : Nat} {value : W64} {dst tag : W32} {tc port : Nat} (h : Beside s₀ s) :
    Beside s₀ (notify m op value dst tag tc port s) := by
  unfold notify
  dsimp only
  exact originate_beside (count_beside (newMsgId_beside h))


/-! ## The collectives -/

theorem count_colls {src n : Nat} {port tc grp : Option Nat} (h : Having State.colls cs s) :
    Having State.colls cs (count src n port tc grp s) :=
  h.regs (count_only _ _ _ _ _ _)

theorem endRunsOf_colls {mine : RunOrigin → Bool} (h : Having State.colls cs s) :
    Having State.colls cs (endRunsOf mine s) := by
  unfold endRunsOf
  exact foldl_having (fun _ _ h1 => count_colls h1) (h.keep rfl)

theorem endCollRuns_colls {g : Nat} {cseq : W32} (h : Having State.colls cs s) :
    Having State.colls cs (endCollRuns g cseq s) := by
  unfold endCollRuns
  exact endRunsOf_colls h

theorem newMsgId_colls (h : Having State.colls cs s) : Having State.colls cs (newMsgId s).2 := by
  unfold newMsgId
  exact h.keep rfl

theorem originateFrom_colls {quad mq : Nat} {p : Packet} (h : Having State.colls cs s) :
    Having State.colls cs (originateFrom quad mq p s) :=
  h.sends (originateFrom_only _ _ _ _)

theorem collSend_colls {g mq : Nat} {p : Packet} (h : Having State.colls cs s) :
    Having State.colls cs (collSend g mq p s) := by
  unfold collSend
  exact .ite (h.keep rfl) (originateFrom_colls h)

theorem sendControl_colls {g : Nat} {cseq digest : W32} {tc dst step : Nat} {pay : List Byte}
    (h : Having State.colls cs s) : Having State.colls cs (sendControl g cseq digest tc dst step pay s) := by
  unfold sendControl
  dsimp only
  exact collSend_colls (newMsgId_colls h)

theorem sendRecord_colls {typ g : Nat} {cseq digest : W32} {tc dst code : Nat} {fl : Fl} {first : W32} {seg : Nat}
    (h : Having State.colls cs s) : Having State.colls cs (sendRecord typ g cseq digest tc dst code fl first seg s) :=
    by
  unfold sendRecord
  dsimp only
  exact collSend_colls (newMsgId_colls h)

theorem dropComb_colls {c : Comb} (h : Having State.colls cs s) : Having State.colls cs (dropComb c s) := by
  unfold dropComb
  dsimp only
  have hb : Having State.colls cs (endRunsOf (ofComb c) s) := (endRunsOf_colls h)
  generalize endRunsOf (ofComb c) s = u at hb ⊢
  exact hb.keep rfl

theorem originate_colls {quad : Nat} {p : Packet} (h : Having State.colls cs s) :
    Having State.colls cs (originate quad p s) :=
  h.sends (originate_only _ _ _)

theorem emptyResult_colls {t : Nat} {cseq : W32} {token : Nat} {toksrc : W32} {tc port : Nat}
    (h : Having State.colls cs s) : Having State.colls cs (emptyResult t cseq token toksrc tc port s) := by
  unfold emptyResult
  dsimp only
  exact originate_colls (count_colls (newMsgId_colls h))


theorem advanceH_colls {fuel g : Nat} (h : Having State.colls cs s) : Having State.colls cs (advanceH fuel g s) := by
  induction fuel generalizing s with
  | zero => exact h
  | succ f ih =>
    unfold advanceH
    exact .ite (ih h) h

theorem advanceXH_colls {fuel t : Nat} (h : Having State.colls cs s) : Having State.colls cs (advanceXH fuel t s) := by
  induction fuel generalizing s with
  | zero => exact h
  | succ f ih =>
    unfold advanceXH
    exact .ite (ih h) h

theorem closeStep_colls {t : Nat} {cseq : W32} (h : Having State.colls cs s)
    : Having State.colls cs (closeStep t cseq s) :=
  advanceXH_colls h

theorem closeComb_colls {c : Comb} (h : Having State.colls cs s) : Having State.colls cs (closeComb c s) := by
  have h1 : Having State.colls cs (dropComb c s) := dropComb_colls h
  unfold closeComb finishStep
  dsimp only
  split
  · exact h1
  · exact .ite (closeStep_colls (count_colls h1)) h1

theorem forceCombs_colls {q : Comb → Bool} (h : Having State.colls cs s) : Having State.colls cs (forceCombs q s) :=
  foldl_having (fun _ _ h1 => closeComb_colls (emptyResult_colls h1)) h

theorem dropExperts_colls {qs : XStep → Bool} {qc : Comb → Bool} (h : Having State.colls cs s) :
    Having State.colls cs (dropExperts qs qc s) :=
  foldl_having (fun _ _ h1 => closeStep_colls h1) (foldl_having (fun _ _ h1 => closeComb_colls h1) h)

/-- A collective that ends is no longer open, and every other is as it was (R192). -/
theorem collEnd_colls (g : Nat) (cseq : W32) (s : State) :
    (collEnd g cseq s).colls = s.colls.filter (fun c => !(c.group == g && c.cseq == cseq)) := by
  have h : Having State.colls s.colls (endCollRuns g cseq s) := endCollRuns_colls rfl
  unfold collEnd
  dsimp only
  generalize endCollRuns g cseq s = t at h ⊢
  have ht : t.colls = s.colls := h
  rw [ht]
  exact advanceH_colls rfl

theorem collFail_colls (c : Coll) (code : Nat) (s : State) :
    (collFail c code s).colls = s.colls.filter (fun d => !(d.group == c.group && d.cseq == c.cseq)) :=
  foldl_having (f := State.colls) (fun _ _ h => sendRecord_colls h)
    (foldl_having (fun _ _ h => sendControl_colls h) (count_colls (collEnd_colls c.group c.cseq s)))

/-- Of the collectives that are to end none stays open, and no other comes. -/
theorem failColls_colls {q : Coll → Bool} {code : Nat} {d : Coll} (h : d ∈ (failColls q code s).colls) :
    d ∈ s.colls ∧ q d = false := by
  have fold : ∀ (l : List Coll) (t : State), d ∈ (l.foldl (fun s c => collFail c code s) t).colls → d ∈ t.colls ∧
      d ∉ l := by
    intro l
    induction l with
    | nil => exact fun t ht => ⟨ht, List.not_mem_nil⟩
    | cons c l ih =>
      intro t ht
      obtain ⟨h1, h2⟩ := ih _ ht
      rw [collFail_colls] at h1
      obtain ⟨hmem, hkey⟩ := List.mem_filter.1 h1
      refine ⟨hmem, fun hd => ?_⟩
      obtain rfl | hd := List.mem_cons.1 hd
      · simp at hkey
      · exact h2 hd
  obtain ⟨hmem, hnot⟩ := fold _ s h
  refine ⟨hmem, ?_⟩
  cases hq : q d
  · rfl
  · exact absurd (List.mem_filter.2 ⟨hmem, hq⟩) hnot

end Sys2Proof.Proofs
end

section
/-!
PROOFS. Fields of registers: what one reads after the register or another field of it is written.
-/

namespace Sys2Proof.Proofs
open Sys2Proof Sys2Proof.Machine Sys2Proof.Claims

set_option Elab.async false

/-! ## Fields of a number -/

/-- A number by a field, what stands above it and what below. -/
theorem split_field (v lo w : Nat) : v = 2 ^ lo * (2 ^ w * (v / 2 ^ lo / 2 ^ w) + v / 2 ^ lo % 2 ^ w) + v % 2 ^ lo := by
  rw [Nat.div_add_mod, Nat.div_add_mod]

theorem setBits_eq (v hi lo x : Nat) : setBits v hi lo x =
    2 ^ lo * (2 ^ (hi + 1 - lo) * (v / 2 ^ lo / 2 ^ (hi + 1 - lo)) + x % 2 ^ (hi + 1 - lo)) + v % 2 ^ lo := by
  have hv := split_field v lo (hi + 1 - lo)
  unfold setBits bits
  generalize v / 2 ^ lo % 2 ^ (hi + 1 - lo) = b at *
  generalize v / 2 ^ lo / 2 ^ (hi + 1 - lo) = a at *
  generalize v % 2 ^ lo = c at *
  subst hv
  rw [Nat.mul_add, Nat.mul_add, Nat.mul_comm b, Nat.mul_comm (x % _) (2 ^ lo)]
  omega

@[simp] theorem bits_setBits_same (v hi lo x : Nat) : bits (setBits v hi lo x) hi lo = x % 2 ^ (hi + 1 - lo) := by
  rw [setBits_eq, bits, Nat.mul_add_div (Nat.two_pow_pos lo), Nat.div_eq_of_lt (Nat.mod_lt _ (Nat.two_pow_pos lo)),
      Nat.add_zero,
    Nat.mul_add_mod, Nat.mod_mod]

/-- A field above the one written. -/
theorem bits_setBits_above (v : Nat) {hi lo hi' lo' : Nat} (x : Nat) (h : hi < lo') (hlo : lo ≤ hi) :
    bits (setBits v hi lo x) hi' lo' = bits v hi' lo' := by
  obtain ⟨d, hd⟩ : ∃ d, lo' = lo + (hi + 1 - lo) + d := ⟨lo' - (hi + 1), by omega⟩
  have hw : 0 < 2 ^ (hi + 1 - lo) := Nat.two_pow_pos _
  unfold bits
  rw [hd, Nat.pow_add, Nat.pow_add, ← Nat.div_div_eq_div_mul, ← Nat.div_div_eq_div_mul, ← Nat.div_div_eq_div_mul,
    ← Nat.div_div_eq_div_mul, setBits_eq, Nat.mul_add_div (Nat.two_pow_pos lo),
    Nat.div_eq_of_lt (Nat.mod_lt _ (Nat.two_pow_pos lo)), Nat.add_zero, Nat.mul_add_div hw,
    Nat.div_eq_of_lt (Nat.mod_lt _ hw), Nat.add_zero]

/-- A field depends on the bits below its end. -/
theorem bits_mod (v : Nat) {hi lo n : Nat} (h : hi < n) (hlo : lo ≤ hi) : bits (v % 2 ^ n) hi lo = bits v hi lo := by
  obtain ⟨d, hd⟩ : ∃ d, n = lo + (hi + 1 - lo) + d := ⟨n - (hi + 1), by omega⟩
  unfold bits
  rw [← Nat.mod_mul_right_div_self, ← Nat.mod_mul_right_div_self, ← Nat.pow_add, hd,
    Nat.mod_mod_of_dvd _ (Nat.pow_dvd_pow 2 (Nat.le_add_right _ d))]

/-- A field below the one written. -/
theorem bits_setBits_below (v : Nat) {hi lo hi' lo' : Nat} (x : Nat) (h : hi' < lo) (hlo : lo' ≤ hi') :
    bits (setBits v hi lo x) hi' lo' = bits v hi' lo' := by
  rw [← bits_mod _ h hlo, ← bits_mod v h hlo, setBits_eq, Nat.mul_add_mod, Nat.mod_mod]

theorem setBits_lt {v hi lo n : Nat} (x : Nat) (hv : v < 2 ^ n) (hn : hi < n) (hlo : lo ≤ hi)
    : setBits v hi lo x < 2 ^ n := by
  obtain ⟨d, hd⟩ : ∃ d, n = lo + (hi + 1 - lo) + d := ⟨n - (hi + 1), by omega⟩
  have hw : x % 2 ^ (hi + 1 - lo) < 2 ^ (hi + 1 - lo) := Nat.mod_lt _ (Nat.two_pow_pos _)
  have ha : v / 2 ^ lo / 2 ^ (hi + 1 - lo) < 2 ^ d := by
    rw [Nat.div_div_eq_div_mul, ← Nat.pow_add, Nat.div_lt_iff_lt_mul (Nat.two_pow_pos _), ← Nat.pow_add,
        Nat.add_comm d, ← hd]
    exact hv
  have hc : v % 2 ^ lo < 2 ^ lo := Nat.mod_lt _ (Nat.two_pow_pos _)
  rw [setBits_eq, hd, Nat.pow_add, Nat.pow_add]
  generalize v / 2 ^ lo / 2 ^ (hi + 1 - lo) = a at *
  generalize x % 2 ^ (hi + 1 - lo) = b at *
  have h1 : 2 ^ (hi + 1 - lo) * a + b < 2 ^ (hi + 1 - lo) * 2 ^ d := by
    calc 2 ^ (hi + 1 - lo) * a + b < 2 ^ (hi + 1 - lo) * (a + 1) := by rw [Nat.mul_add]; omega
      _ ≤ 2 ^ (hi + 1 - lo) * 2 ^ d := Nat.mul_le_mul_left _ ha
  generalize 2 ^ (hi + 1 - lo) * a + b = m at h1 ⊢
  calc 2 ^ lo * m + v % 2 ^ lo < 2 ^ lo * (m + 1) := by rw [Nat.mul_add]; omega
    _ ≤ 2 ^ lo * (2 ^ (hi + 1 - lo) * 2 ^ d) := Nat.mul_le_mul_left _ h1
    _ = _ := by ring

/-! ## Fields of registers -/

theorem regN_lt (s : State) (a : Nat) : s.regN a < 2 ^ 64 := (s.reg a).isLt

theorem regN_setRegN (s : State) (a b v : Nat) : (s.setRegN a v).regN b = if b = a then v % 2 ^ 64 else s.regN b := by
  rw [State.regN, reg_setRegN]
  split
  · exact BitVec.toNat_ofNat _ _
  · rfl

theorem field_setRegN_ne {s : State} {a b v hi lo : Nat} (h : b ≠ a) : (s.setRegN a v).field b hi lo =
    s.field b hi lo := by
  rw [State.field, regN_setRegN, if_neg h]; rfl

theorem field_setRegN_same {s : State} {a v hi lo : Nat} (hhi : hi < 64) (hlo : lo ≤ hi) :
    (s.setRegN a v).field a hi lo = bits v hi lo := by
  rw [State.field, regN_setRegN, if_pos rfl, bits_mod _ hhi hlo]

theorem regN_setField (s : State) (a hi lo x b : Nat) (hhi : hi < 64) (hlo : lo ≤ hi) :
    (s.setField a hi lo x).regN b = if b = a then setBits (s.regN a) hi lo x else s.regN b := by
  rw [State.setField, regN_setRegN, Nat.mod_eq_of_lt (setBits_lt x (regN_lt s a) hhi hlo)]

theorem reg_setField_ne {s : State} {a hi lo x b : Nat} (h : b ≠ a) : (s.setField a hi lo x).reg b = s.reg b := by
  rw [State.setField, reg_setRegN, if_neg h]

theorem field_setField_ne {s : State} {a b hi lo hi' lo' x : Nat} (h : b ≠ a) :
    (s.setField a hi lo x).field b hi' lo' = s.field b hi' lo' := field_setRegN_ne h

theorem field_setField_same {s : State} {a hi lo x : Nat} (hhi : hi < 64) (hlo : lo ≤ hi) :
    (s.setField a hi lo x).field a hi lo = x % 2 ^ (hi + 1 - lo) := by
  rw [State.setField, field_setRegN_same hhi hlo, bits_setBits_same]

theorem field_setField_above {s : State} {a hi lo hi' lo' x : Nat} (hhi : hi' < 64) (hlo' : lo' ≤ hi') (hlo : lo ≤ hi)
    (h : hi < lo') :
    (s.setField a hi lo x).field a hi' lo' = s.field a hi' lo' := by
  rw [State.setField, field_setRegN_same hhi hlo', bits_setBits_above _ _ h hlo]; rfl

theorem field_setField_below {s : State} {a hi lo hi' lo' x : Nat} (hhi : hi' < 64) (hlo' : lo' ≤ hi') (h : hi' < lo) :
    (s.setField a hi lo x).field a hi' lo' = s.field a hi' lo' := by
  rw [State.setField, field_setRegN_same hhi hlo', bits_setBits_below _ _ h hlo']; rfl

/-- A register below 2 ^ (hi + 1) holds nothing outside the field. -/
theorem field_of_reg {s : State} {a v hi : Nat} (h : s.reg a = BitVec.ofNat 64 v) (hv : v < 2 ^ (hi + 1))
    (hhi : hi < 64) :
    s.field a hi 0 = v := by
  have h64 : 2 ^ (hi + 1) ≤ 2 ^ 64 := Nat.pow_le_pow_right (by decide) hhi
  rw [State.field, State.regN, h, BitVec.toNat_ofNat, Nat.mod_eq_of_lt (by omega), bits, Nat.pow_zero, Nat.div_one]
  exact Nat.mod_eq_of_lt hv

end Sys2Proof.Proofs
end

section
/-!
PROOFS. Units that drain, are disabled and return (O22).
-/

namespace Sys2Proof.Proofs
open Sys2Proof Sys2Proof.Machine Sys2Proof.Claims

set_option Elab.async false

/-! ## Raising a source -/

theorem reg_raise_of_quiet {s : State} {b : Blk} {src a : Nat} (h : loud a = false) : (raise b src s).reg a = s.reg a :=
  (raise_beside (Beside.refl s)).regs a h

theorem getLsbD_two_pow {i : Nat} (h : i < 64) : (BitVec.ofNat 64 (2 ^ i)).getLsbD i = true := by
  rw [BitVec.getLsbD_ofNat, decide_eq_true h, Nat.testBit_two_pow_self]; rfl

theorem setSticky_sets {a i : Nat} (hi : i < 64) (s : State) :
    ((s.setSticky a (BitVec.ofNat 64 (2 ^ i))).reg a).getLsbD i = true := by
  have hreg : (s.setSticky a (BitVec.ofNat 64 (2 ^ i))).reg a = s.reg a ||| BitVec.ofNat 64 (2 ^ i) :=
      reg_setReg_same s a _
  rw [hreg, BitVec.getLsbD_or, getLsbD_two_pow hi, Bool.or_true]

/-- R322: a source that is raised stands in its register. -/
theorem raise_sets (b : Blk) {src : Nat} (hs : src < 64) (s : State) : ((raise b src s).reg (blkFlt b)).getLsbD src =
    true := by
  have hset : ∀ t : State, ((t.setSticky 0x200008 (BitVec.ofNat 64 (2 ^ blkFaultBlock b))).reg (blkFlt b)) =
      t.reg (blkFlt b) := fun t => by
    have hne : blkFlt b ≠ 0x200008 := (ne_blkFlt (by decide) b).symm
    exact (reg_setReg t 0x200008 (blkFlt b) _).trans (if_neg hne)
  have h := setSticky_sets (a := blkFlt b) hs s
  unfold raise
  dsimp only
  split
  · exact h
  · split
    · exact (congrArg (BitVec.getLsbD · src) (hset _)).trans h
    · exact h

theorem raiseIf_sets {c : Bool} {b : Blk} (hc : c = true) {src : Nat} (hs : src < 64) (s : State) :
    ((raiseIf c b src s).reg (blkFlt b)).getLsbD src = true := by
  rw [raiseIf, if_pos hc]
  exact raise_sets b hs s

/-! ## Slices -/

theorem sliceState_setSlice_same (q : Nat) (d : DisState) (s : State) : sliceState (setSlice q d s) q = d := by
  simp [sliceState, setSlice, get_eq]

theorem sliceState_setSlice_ne {p q : Nat} (d : DisState) (s : State) (h : q % 4 ≠ p % 4) :
    sliceState (setSlice q d s) p = sliceState s p := by
  simp [sliceState, setSlice, get_eq, h]

/-- A pass over the four slices does to each what it does to it. -/
theorem sliceState_foldl {g : State → Nat → State} {f : Nat → DisState → DisState}
    (hown : ∀ s q, sliceState (g s q) q = f q (sliceState s q))
    (hother : ∀ s p q, q % 4 ≠ p % 4 → sliceState (g s q) p = sliceState s p) (q : Fin 4) (s : State) :
    sliceState ((List.range 4).foldl g s) q.val = f q.val (sliceState s q.val) := by
  have hfold : (List.range 4).foldl g s = g (g (g (g s 0) 1) 2) 3 := rfl
  rw [hfold]
  fin_cases q
  · rw [hother _ 0 3 (by decide), hother _ 0 2 (by decide), hother _ 0 1 (by decide), hown]
  · rw [hother _ 1 3 (by decide), hother _ 1 2 (by decide), hown, hother _ 1 0 (by decide)]
  · rw [hother _ 2 3 (by decide), hown, hother _ 2 1 (by decide), hother _ 2 0 (by decide)]
  · rw [hown, hother _ 3 2 (by decide), hother _ 3 1 (by decide), hother _ 3 0 (by decide)]

/-- What a write of the DIS register does to a slice in each state (R333, R334). -/
def sliceWritten (mask q : Nat) (d : DisState) : DisState :=
  if !bit mask q then .enabled else if d == .enabled then .draining else d

theorem foldl_setSlice_fields {g : State → Nat → State} (hg : ∀ s q, ∃ v, g s q = { s with slices := v })
    (l : List Nat) (s : State) :
    ∃ v, l.foldl g s = { s with slices := v } := by
  refine foldl_invariant (P := fun t : State => ∃ v, t = { s with slices := v }) ?_ ⟨s.slices, rfl⟩
  rintro t q ⟨v, rfl⟩
  obtain ⟨w, hw⟩ := hg { s with slices := v } q
  exact ⟨w, hw⟩

/-- R333, R334: the DIS register of the slices takes what is written, and each slice goes with its bit. -/
theorem sliceWrite_writes {s : State} (hidle : Idle s) {mask : Nat} (hm : mask < 16) : ∃ v, sliceWrite mask s =
    ({ s.setRegN 0x400F010 mask with slices := v } : State) ∧
      ∀ q : Fin 4, sliceState (sliceWrite mask s) q.val = sliceWritten mask q.val (sliceState s q.val) := by
  have hcore : coreOn s = true := hidle
  unfold sliceWrite
  rw [hcore, Nat.mod_eq_of_lt hm]
  obtain ⟨v, hv⟩ := foldl_setSlice_fields (g := fun s q => if !bit mask q then setSlice q .enabled s
    else if sliceState s q == .enabled then setSlice q .draining s else s) (fun t q => by
      split
      · exact ⟨_, rfl⟩
      · split
        · exact ⟨_, rfl⟩
        · exact ⟨t.slices, rfl⟩) (List.range 4) (s.setRegN 0x400F010 mask)
  refine ⟨v, hv, fun q => ?_⟩
  refine sliceState_foldl (f := sliceWritten mask) (fun t q => ?_) (fun t p q h => ?_) q _
  · unfold sliceWritten
    split
    · exact sliceState_setSlice_same _ _ _
    · split
      · exact sliceState_setSlice_same _ _ _
      · rfl
  · split
    · exact sliceState_setSlice_ne _ _ h
    · split
      · exact sliceState_setSlice_ne _ _ h
      · rfl

/-! ## Engines -/

/-- The DIS register of an engine is none in which work is counted or raised. -/
theorem quiet_engine {e i : Nat} (he : e < 64) (hi : i < 0x10000) (h1 : i < 0x3F00 ∨ 0x3F18 ≤ i) (h2 : i ≠ 0xF000)
    (h3 : i % 0x20 ≠ 0x1C) (h4 : i % 0x40 ≠ 0x2C) : loud (jBase e + i) = false := by
  obtain ⟨a, ha⟩ : ∃ a, a = jBase e + i := ⟨_, rfl⟩
  have hval : a = 0x5000000 + e * 0x40000 + i := ha
  rw [← ha]
  simp only [loud, counts, Bool.or_eq_false_iff, Bool.and_eq_false_iff, decide_eq_false_iff_not, beq_eq_false_iff_ne]
  omega

@[simp] theorem engine_modEngine_same (s : State) (n : Nat) (f : Engine → Engine) : (s.modEngine n f).engine n =
  f (s.engine n) :=
  engine_setEngine_same s n _

/-- The engine has nothing queued and no run. -/
def Emptied (x : Engine) : Prop := x.queue = [] ∧ x.heldRuns = [] ∧ x.runs = []

theorem Emptied.of_dwindled {x y : Engine} (h : Emptied x) (k : Dwindled x y) : Emptied y := by
  obtain ⟨hq, hh, hr⟩ := h
  obtain ⟨-, hruns, hqueue⟩ := k
  rw [hq, hh] at hqueue
  rw [hr] at hruns
  refine ⟨List.eq_nil_iff_forall_not_mem.2 fun q hq => ?_, List.eq_nil_iff_forall_not_mem.2 fun q hq => ?_,
    List.eq_nil_iff_forall_not_mem.2 fun r hr => ?_⟩
  · exact List.not_mem_nil (hqueue q (List.mem_append_left _ hq))
  · exact List.not_mem_nil (hqueue q (List.mem_append_right _ hq))
  · exact List.not_mem_nil (hruns r hr)

theorem endRuns_empties (e : Nat) (s : State) : Emptied ((endRuns e s).engine e) := by
  change Emptied ((s.modEngine e (fun x => { x with queue := [], heldRuns := [], runs := [], doneWait :=
    false })).engine e)
  rw [engine_modEngine_same]
  exact ⟨rfl, rfl, rfl⟩

theorem engine_setRegN (s : State) (a v n : Nat) : (s.setRegN a v).engine n = s.engine n := rfl

theorem endRuns_reg (e a : Nat) (s : State) : (endRuns e s).reg a = s.reg a := rfl

/-- R335: FORCE ends an engine's runs and disables it. -/
theorem engineForce_leaves {s : State} (e : Fin 64) (hidle : Idle s) (hp : present s e.val = true) :
    (engineForce e.val s).reg (jBase e.val + 0xF010) = 1 ∧ ((engineForce e.val s).engine e.val).dis = .disabled ∧
      Emptied ((engineForce e.val s).engine e.val) ∧
      (engineBusy s e.val = true → ((engineForce e.val s).reg (blkFlt (jBlk e.val))).getLsbD 38 = true) := by
  have hcore : coreOn s = true := hidle
  have hquiet := quiet_engine (i := 0xF010) e.isLt (by decide) (by decide) (by decide) (by decide) (by decide)
  unfold engineForce
  rw [hcore, hp]
  simp only [Bool.not_true, Bool.or_false, Bool.false_eq_true, if_false]
  generalize engineBusy s e.val = busy
  generalize (((s.engine e.val).runs.find? (fun r => r.origin == .register)).map (·.pc)).getD 0 = pc
  have hreg : (endRuns e.val (s.setRegN (jBase e.val + 0xF010) 1)).reg (jBase e.val + 0xF010) = 1 :=
    (endRuns_reg _ _ _).trans (reg_setReg_same s _ _)
  have hempty := endRuns_empties e.val (s.setRegN (jBase e.val + 0xF010) 1)
  generalize endRuns e.val (s.setRegN (jBase e.val + 0xF010) 1) = t at hreg hempty ⊢
  have hstatus : (if regRun s e.val then runStatus e.val 4 0 11 pc t else t).reg (jBase e.val + 0xF010) = 1 ∧
      Emptied ((if regRun s e.val then runStatus e.val 4 0 11 pc t else t).engine e.val) := by
    split
    · refine ⟨?_, ?_⟩
      · rw [runStatus, reg_setRegN, if_neg (by omega)]
        exact hreg
      · rw [runStatus, engine_setRegN]
        exact hempty
    · exact ⟨hreg, hempty⟩
  generalize (if regRun s e.val then runStatus e.val 4 0 11 pc t else t) = v at hstatus ⊢
  obtain ⟨hvreg, hvempty⟩ := hstatus
  have hclose : Beside v (forceCombs (combOn v e.val) (failColls (fun c => c.engines.contains e.val) 2 v)) :=
    forceCombs_beside (failColls_beside (Beside.refl v))
  generalize forceCombs (combOn v e.val) (failColls (fun c => c.engines.contains e.val) 2 v) = w at hclose ⊢
  have hraise := raiseIf_beside (c := busy) (b := jBlk e.val) (src := 38)
    (Beside.refl (w.modEngine e.val (fun x => { x with dis := .disabled })))
  have hengine := hraise.engines e.val
  rw [engine_modEngine_same] at hengine
  obtain ⟨hq, hh, hr⟩ := hvempty.of_dwindled (hclose.engines e.val)
  have hwempty : Emptied { w.engine e.val with dis := .disabled } := ⟨hq, hh, hr⟩
  refine ⟨?_, hengine.1.1, hwempty.of_dwindled hengine, fun hb => raiseIf_sets hb (by decide) _⟩
  exact (hraise.regs _ hquiet).trans ((hclose.regs _ hquiet).trans hvreg)

/-! ## FORCE of slices -/

theorem sliceForce_leaves {s : State} (hidle : Idle s) {m : BitVec 4} (hm : m ≠ 0) :
    (∀ q : Fin 4, m.getLsbD q.val = true → sliceState (sliceForce m.toNat s) q.val = .disabled) ∧
    (∀ c ∈ (sliceForce m.toNat s).colls, m.getLsbD (c.group % 4) = false) ∧
    (slicesBusy s m.toNat = true → ((sliceForce m.toNat s).reg (blkFlt .csq)).getLsbD 38 = true) := by
  have hcore : coreOn s = true := hidle
  have hmod : ¬ m.toNat % 16 = 0 := by
    have hlt := m.isLt
    rw [Nat.mod_eq_of_lt hlt]
    exact fun h0 => hm (BitVec.eq_of_toNat_eq h0)
  unfold sliceForce
  rw [if_neg (by simp [hcore, hmod])]
  dsimp only
  generalize slicesBusy s m.toNat = busy
  generalize endPark (s.setRegN 0x400F010 (s.field 0x400F010 3 0 ||| m.toNat % 16)) = t
  have hcolls : ∀ c ∈ (failColls (fun c => inMask m.toNat c.group) 2 t).colls, m.getLsbD (c.group % 4) = false :=
    fun c hc => (failColls_colls hc).2
  generalize failColls (fun c => inMask m.toNat c.group) 2 t = v at hcolls ⊢
  have hw : Having State.colls v.colls (dropExperts (fun x => inMask m.toNat x.table) (fun _ => false)
      (forceCombs (fun c => inMask m.toNat c.table) v)) := dropExperts_colls (forceCombs_colls rfl)
  generalize dropExperts (fun x => inMask m.toNat x.table) (fun _ => false)
    (forceCombs (fun c => inMask m.toNat c.table) v) = w at hw ⊢
  obtain ⟨x, hx⟩ := foldl_setSlice_fields (g := fun s q => if bit m.toNat q then setSlice q .disabled s else s)
      (fun t q => by
    split
    · exact ⟨_, rfl⟩
    · exact ⟨t.slices, rfl⟩) (List.range 4) w
  have hstate : ∀ q : Fin 4, m.getLsbD q.val = true →
      sliceState ((List.range 4).foldl (fun s q => if bit m.toNat q then setSlice q .disabled s else s) w) q.val =
        .disabled := by
    intro q hq
    refine (sliceState_foldl (f := fun q d => if bit m.toNat q then .disabled else d) (fun t q => ?_)
        (fun t p q h => ?_) q w).trans (if_pos hq)
    · split
      · exact sliceState_setSlice_same _ _ _
      · rfl
    · split
      · exact sliceState_setSlice_ne _ _ h
      · rfl
  generalize (List.range 4).foldl (fun s q => if bit m.toNat q then setSlice q .disabled s else s) w = y at hx hstate ⊢
  have hslices : ∀ q, sliceState (raiseIf busy .csq 38 y) q = sliceState y q := fun q =>
    congrArg (fun v : Vector DisState 4 => v.get (Fin.ofNat 4 q)) (raiseIf_slices y busy .csq 38)
  have hraised : (raiseIf busy .csq 38 y).colls = v.colls := (raiseIf_colls y busy .csq 38).trans (by rw [hx]; exact hw)
  refine ⟨fun q hq => (hslices q).trans (hstate q hq), fun c hc => hcolls c (hraised ▸ hc), fun hb => ?_⟩
  exact raiseIf_sets (b := .csq) (src := 38) hb (by decide) y

theorem field_lt (s : State) (a hi lo : Nat) : s.field a hi lo < 2 ^ (hi + 1 - lo) := Nat.mod_lt _ (Nat.two_pow_pos _)

/-- A write of the DIS register of the slices, through the bus. -/
theorem sliceWrite_completes {s : State} {c : Instr} {mask : Nat} (hidle : Idle s) (hm : mask < 16)
    (hexec : exec c s = .next (sliceWrite mask s)) (q : Fin 4) : ∃ u, exec c s = .next u ∧ u.field 0x400F010 3 0 = mask ∧
      sliceState u q.val = sliceWritten mask q.val (sliceState s q.val) ∧ u.colls = s.colls := by
  obtain ⟨v, hv, hstate⟩ := sliceWrite_writes hidle hm
  refine ⟨_, hexec, ?_, hstate q, by rw [hv]; rfl⟩
  rw [hv]
  refine (field_setRegN_same (s := s) (by decide) (by decide)).trans ?_
  rw [bits, Nat.pow_zero, Nat.div_one]
  exact Nat.mod_eq_of_lt hm

theorem sliceWritten_drains {mask q : Nat} {d : DisState} (hbit : bit mask q = true) (hd : d = .enabled) :
    sliceWritten mask q d = .draining := by
  simp [sliceWritten, hbit, hd]

theorem sliceWritten_enables {mask q : Nat} {d : DisState} (hbit : bit mask q = false) : sliceWritten mask q d =
    .enabled := by
  simp [sliceWritten, hbit]

/-- Settles O22. -/
theorem unitsDrainDisableAndReturn : Obligations.UnitsDrainDisableAndReturn := by
  intro s e m q hidle hbus hbusq
  have hcore : coreOn s = true := hidle
  have hon : ∀ {a v f}, BusFree s a → onBus a v f s = f s := fun h => onBus_free (held_of_idle hidle) h
  have hfield : s.field 0x400F010 3 0 < 16 := field_lt s _ _ _
  refine ⟨fun hp => ?_, fun hp => ?_, fun hp => ?_, fun hd hb => ?_, fun hb => ?_, ?_, ?_, fun hm => ?_, fun hd hb => ?_⟩
  · refine ⟨_, congrArg Host.Outcome.next (hon hbus), ?_⟩
    simp only [engineDisable, hcore, hp, Bool.not_true, Bool.or_false, Bool.false_eq_true, if_false,
    engine_modEngine_same,
      beq_iff_eq]
    exact ⟨reg_setReg_same s _ _, rfl, rfl⟩
  · refine ⟨_, congrArg Host.Outcome.next (hon hbus), ?_⟩
    simp only [engineEnable, hcore, hp, Bool.not_true, Bool.or_false, Bool.false_eq_true, if_false, engine_modEngine_same]
    exact ⟨reg_setReg_same s _ _, rfl, rfl⟩
  · obtain ⟨hreg, hdis, ⟨hq, hh, hr⟩, hfault⟩ := engineForce_leaves e hidle hp
    exact ⟨_, congrArg Host.Outcome.next (hon hbus), hreg, hdis, hq, hh, hr, hfault⟩
  · refine ⟨_, rfl, ?_⟩
    simp only [unitDrained, hcore, hd, hb, Bool.not_true, Bool.false_eq_true, if_false]
    exact ⟨by simp, rfl⟩
  · have hsame : unitDrained (.engine e) s = s := by simp [unitDrained, hb]
    exact congrArg Host.Outcome.next hsame
  · have hv : s.field 0x400F010 3 0 ||| m.toNat < 16 := Nat.or_lt_two_pow (n := 4) hfield m.isLt
    obtain ⟨u, hu, hreg, hstate, hcolls⟩ := sliceWrite_completes hidle hv (c := .sliceDisable m)
        (congrArg Host.Outcome.next (hon hbusq)) q
    refine ⟨u, hu, hreg, fun hq hen => hstate.trans (sliceWritten_drains ?_ hen), hcolls⟩
    rw [bit, Nat.testBit_or]
    exact Bool.or_eq_true_iff.2 (.inr hq)
  · have hv : s.field 0x400F010 3 0 &&& (~~~ m).toNat < 16 := Nat.and_lt_two_pow (n := 4) _ (~~~ m).isLt
    obtain ⟨u, hu, hreg, hstate, hcolls⟩ := sliceWrite_completes hidle hv (c := .sliceEnable m)
        (congrArg Host.Outcome.next (hon hbusq)) q
    refine ⟨u, hu, hreg, fun hq => hstate.trans (sliceWritten_enables ?_), hcolls⟩
    have hnot : (~~~ m).getLsbD q.val = false := by simp [hq]
    rw [bit, Nat.testBit_and]
    exact Bool.and_eq_false_iff.2 (.inr hnot)
  · obtain ⟨h1, h2, h3⟩ := sliceForce_leaves hidle hm
    exact ⟨_, congrArg Host.Outcome.next (hon hbusq), h1 q, h2, h3⟩
  · refine ⟨_, rfl, ?_⟩
    simp only [unitDrained, hcore, hd, hb, Bool.not_true, Bool.false_eq_true, if_false]
    exact ⟨sliceState_setSlice_same _ _ _, rfl⟩

end Sys2Proof.Proofs
end

section
/-!
PROOFS. Contracts: WRITE, DELETE, and the classes of the committed ones (O24).
-/

namespace Sys2Proof.Proofs
open Sys2Proof Sys2Proof.Machine Sys2Proof.Claims

set_option Elab.async false

variable {s : State}

theorem live_of_idle {f : State → State} (h : Idle s) : live f s = f s := by
  rw [live, held_of_idle h]; rfl

/-! ## What leaves the contract table -/

theorem meterPort_lt {a n : Nat} (h : meterPort a = some n) : n < 64 := by
  have hlt : ∀ hi lo, hi + 1 - lo = 6 → bits a hi lo < 64 := fun hi lo hw => by
    rw [bits, hw]; exact Nat.mod_lt _ (by decide)
  unfold meterPort at h
  split at h
  · exact Option.some.inj h ▸ hlt 11 6 rfl
  · split at h
    · exact Option.some.inj h ▸ hlt 26 21 rfl
    · simp at h

theorem meterAddr_lt {a n : Nat} (h : n < 64) : meterAddr n (aMeter a) < 0x1400000 := by
  have hm : aMeter a < 256 := Nat.mod_lt _ (by decide)
  unfold meterAddr puBase
  omega

section
variable {x : Nat} (hx : 0x3010000 ≤ x)
include hx

theorem unbindMeter_regN (c : Nat) : (unbindMeter c s).regN x = s.regN x := by
  unfold unbindMeter
  split
  · next n hn =>
    have hlt := meterAddr_lt (a := conA s c) (meterPort_lt hn)
    dsimp only
    split
    · rw [regN_setRegN, if_neg (by omega)]
    · rfl
  · rfl

theorem bindMeter_regN (c : Nat) : (bindMeter c s).regN x = s.regN x := by
  unfold bindMeter
  split
  · next n hn =>
    have hlt := meterAddr_lt (a := conA s c) (meterPort_lt hn)
    rw [regN_setRegN, if_neg (by omega)]
  · rfl

theorem setBroken_regN {c : Nat} (hc : c < 4096) (on : Bool) : (setBroken c on s).regN x = s.regN x := by
  have hbit : c % 32 < 64 := by omega
  rw [setBroken, regN_setField _ _ _ _ _ _ hbit (Nat.le_refl _), if_neg (by omega)]

theorem commitStatus_regN (result reason a b : Nat) : (commitStatus result reason a b s).regN x = s.regN x := by
  rw [commitStatus, regN_setRegN, if_neg (by omega)]

end

/-- The ports but for the widths their slots were checked at. -/
def SlotsChecked (s u : State) : Prop := ∀ m, m < 64 → u.port m = { s.port m with slotWidth := (u.port m).slotWidth }

theorem checkedAt_ports {n w : Nat} {is : List Nat} (hn : n < 64) : SlotsChecked s (checkedAt n w is s) := by
  intro m hm
  unfold checkedAt State.modPort
  by_cases h : n = m
  · subst h
    rw [port_setPort_same]
  · rw [port_setPort_ne _ _ _ _ (by omega)]

/-! ## The status of a commit -/

theorem commitReason_le (s : State) (c a b cc : Nat) : commitReason s c a b cc ≤ 7 := by
  unfold commitReason
  extract_lets
  repeat' split
  all_goals decide

theorem commitStatus_result {result reason a b : Nat} (h1 : result < 4) (h2 : reason < 16) :
    (commitStatus result reason a b s).field 0x3000024 1 0 = result ∧ (commitStatus result reason a b s).field
      0x3000024 7 4 = reason := by
  unfold commitStatus
  dsimp only
  generalize (if aSink a then 0 else slotCap s (aEgress a) (bSlot b) - slotUsed s (aEgress a) (bSlot b)) = free
  rw [field_setRegN_same (by decide) (by decide), field_setRegN_same (by decide) (by decide)]
  simp only [bits, Nat.reducePow, Nat.reduceAdd, Nat.reduceSub]
  omega

/-! ## WRITE -/

/-- The words of entry `c` are `a`, `b`, `cc` and `st`, and those of the other entries as they were. -/
def EntryWritten (s u : State) (c a b cc st : Nat) : Prop := ∀ x, 0x3010000 ≤ x → u.regN x =
  if x = 0x301000C + c * 16 then st else if x = 0x3010008 + c * 16 then cc else if x = 0x3010004 + c * 16 then b
  else if x = 0x3010000 + c * 16 then a else s.regN x

theorem EntryWritten.entry {u : State} {c a b cc st : Nat} (h : EntryWritten s u c a b cc st) (hst : st < 4) :
    ContractIs u c a b cc st := by
  refine ⟨?_, ?_, ?_, ?_⟩
  · rw [conA, h _ (by omega), if_neg (by omega), if_neg (by omega), if_neg (by omega), if_pos rfl]
  · rw [conB, h _ (by omega), if_neg (by omega), if_neg (by omega), if_pos rfl]
  · rw [conC, h _ (by omega), if_neg (by omega), if_pos rfl]
  · rw [conState, State.field, h _ (by omega), if_pos rfl]
    simp only [bits, Nat.pow_zero, Nat.div_one]
    exact Nat.mod_eq_of_lt hst

theorem EntryWritten.others {u : State} {c a b cc st d : Nat} (h : EntryWritten s u c a b cc st) (hd : d ≠ c) :
    ContractIs u d (conA s d) (conB s d) (conC s d) (conState s d) := by
  refine ⟨?_, ?_, ?_, ?_⟩
  · rw [conA, h _ (by omega), if_neg (by omega), if_neg (by omega), if_neg (by omega), if_neg (by omega)]; rfl
  · rw [conB, h _ (by omega), if_neg (by omega), if_neg (by omega), if_neg (by omega), if_neg (by omega)]; rfl
  · rw [conC, h _ (by omega), if_neg (by omega), if_neg (by omega), if_neg (by omega), if_neg (by omega)]; rfl
  · rw [conState, State.field, h _ (by omega), if_neg (by omega), if_neg (by omega), if_neg (by omega),
      if_neg (by omega)]; rfl

/-- The state with the words of an entry written, its meter rebound. -/
def entryBound (c a b cc : Nat) (s : State) : State :=
  let s := wordsClean (0x3010000 + c * 16) 16 (unbindMeter c s)
  let s := ((s.setRegN (0x3010000 + c * 16) a).setRegN (0x3010004 + c * 16) b).setRegN (0x3010008 + c * 16) cc
  bindMeter c (setBroken c false (setConState c 1 s))

theorem contractWrite_eq (c : Nat) (s : State) : contractWrite c s =
    let a := s.regN 0x3000010
    let b := s.regN 0x3000014
    let cc := s.regN 0x3000018
    let why := commitReason s c a b cc
    if why ≠ 0 then commitStatus 2 why a b s
    else commitStatus 1 0 a b (if aSink a then entryBound c a b cc s
      else checkedAt (aEgress a) (slotLanes (entryBound c a b cc s) (aEgress a)) [bSlot b] (entryBound c a b cc s)) := rfl

theorem entryBound_written {c a b cc : Nat} (hc : c < 4096) (ha : a < 2 ^ 64) (hb : b < 2 ^ 64) (hcc : cc < 2 ^ 64) :
    EntryWritten s (entryBound c a b cc s) c a b cc 1 := by
  intro x hx
  unfold entryBound
  dsimp only
  rw [bindMeter_regN hx, setBroken_regN hx hc, setConState, regN_setRegN, regN_setRegN, regN_setRegN, regN_setRegN,
    Nat.mod_eq_of_lt ha, Nat.mod_eq_of_lt hb, Nat.mod_eq_of_lt hcc]
  have hclean : (wordsClean (0x3010000 + c * 16) 16 (unbindMeter c s)).regN x = s.regN x := unbindMeter_regN hx c
  rw [hclean]
  rfl

theorem entryBound_ports (c a b cc : Nat) (s : State) : (entryBound c a b cc s).ports = s.ports := by
  have hunbind : (unbindMeter c s).ports = s.ports := by
    unfold unbindMeter
    split
    · dsimp only
      split <;> rfl
    · rfl
  have hbind : ∀ t : State, (bindMeter c t).ports = t.ports := fun t => by
    unfold bindMeter
    split <;> rfl
  unfold entryBound
  rw [hbind]
  simp only [setBroken, setConState, wordsClean, State.setField_ports, State.setRegN_ports, hunbind]

theorem aEgress_lt (a : Nat) : aEgress a < 64 := Nat.mod_lt _ (by decide)

/-- R129, R140: a WRITE that passes Table 5.3. -/
theorem contractWrite_passes {c : Nat} (hc : c < 4096)
    (h : commitReason s c (s.regN 0x3000010) (s.regN 0x3000014) (s.regN 0x3000018) = 0) :
    EntryWritten s (contractWrite c s) c (s.regN 0x3000010) (s.regN 0x3000014) (s.regN 0x3000018) 1 ∧
      (contractWrite c s).field 0x3000024 1 0 = 1 ∧ SlotsChecked s (contractWrite c s) := by
  have hwritten := entryBound_written (s := s) hc (regN_lt s 0x3000010) (regN_lt s 0x3000014) (regN_lt s 0x3000018)
  have hports := entryBound_ports c (s.regN 0x3000010) (s.regN 0x3000014) (s.regN 0x3000018) s
  rw [contractWrite_eq]
  extract_lets a b cc why
  rw [if_neg (not_not.2 h)]
  have hfold : entryBound c (s.regN 0x3000010) (s.regN 0x3000014) (s.regN 0x3000018) s = entryBound c a b cc s := rfl
  rw [hfold] at hwritten hports
  generalize entryBound c a b cc s = t at hwritten hports ⊢
  refine ⟨fun x hx => ?_, (commitStatus_result (by decide) (by decide)).1, ?_⟩
  · rw [commitStatus_regN hx, ← hwritten x hx]
    split <;> rfl
  · have hport : ∀ m, t.port m = s.port m := fun m => by rw [State.port, State.port, hports]
    have hsame : ∀ u : State, SlotsChecked t u → SlotsChecked s (commitStatus 1 0 a b u) := fun u hu m hm =>
      (hu m hm).trans (by rw [hport]; rfl)
    split
    · exact hsame t (fun _ _ => rfl)
    · exact hsame _ (checkedAt_ports (aEgress_lt a))

/-- R140: a WRITE that fails a row of Table 5.3. -/
theorem contractWrite_fails {c why : Nat} (h : commitReason s c (s.regN 0x3000010) (s.regN 0x3000014)
    (s.regN 0x3000018) = why)
    (hwhy : why ≠ 0) : contractWrite c s = commitStatus 2 why (s.regN 0x3000010) (s.regN 0x3000014) s := by
  rw [contractWrite_eq]
  extract_lets a b cc why'
  have : why' = why := h
  rw [this, if_pos hwhy]

/-! ## DELETE -/

theorem foldl_countPkt_shape (l : List QPkt) (n : Nat) (s : State) :
    ∃ ev, l.foldl (fun s e => countPkt 0x045 n e.pkt s) s = { s with evts := ev } := by
  refine foldl_invariant (P := fun t : State => ∃ ev, t = { s with evts := ev }) ?_ ⟨s.evts, rfl⟩
  rintro t e ⟨ev, rfl⟩
  exact ⟨_, rfl⟩

theorem yellowQueued_shape (c : Nat) (s : State) :
    ∃ ev, yellowQueued c s = { s with
      evts := ev
      ports := s.ports.map (fun q => { q with
        egress := q.egress.map (QPkt.yellow c)
        txPartOf := q.txPartOf.map (QPkt.yellow c)
        replay := q.replay.map (SentFrame.yellow c)
        kept := q.kept.map (SentFrame.yellow c) }) } := by
  have hfold : ∃ ev, allPorts.foldl (fun s n =>
      ((s.port n).egress.filter (fun e => e.green == some c)).foldl (fun s e => countPkt 0x045 n e.pkt s) s) s =
        { s with evts := ev } := by
    refine foldl_invariant (P := fun t : State => ∃ ev, t = { s with evts := ev }) ?_ ⟨s.evts, rfl⟩
    rintro t n ⟨ev, rfl⟩
    obtain ⟨ev', h⟩ := foldl_countPkt_shape
      ((State.port { s with evts := ev } n).egress.filter (fun e => e.green == some c)) n
      { s with evts := ev }
    exact ⟨ev', h⟩
  obtain ⟨ev, h⟩ := hfold
  unfold yellowQueued
  rw [h]
  exact ⟨ev, rfl⟩

theorem yellow_not_green (c : Nat) (e : QPkt) : (QPkt.yellow c e).green ≠ some c := by
  unfold QPkt.yellow
  split
  · simp
  · next h => simpa using h

/-- The state with an entry's words cleared, its meter unbound. -/
def entryCleared (c : Nat) (s : State) : State :=
  let s := wordsClean (0x3010000 + c * 16) 16 (setBroken c false (setConState c 0 (unbindMeter c s)))
  ((s.setRegN (0x3010000 + c * 16) 0).setRegN (0x3010004 + c * 16) 0).setRegN (0x3010008 + c * 16) 0

theorem contractDelete_eq (c : Nat) (s : State) :
    contractDelete c s = commitStatus 1 0 (conA s c) (conB s c) (yellowQueued c (entryCleared c s)) := rfl

theorem entryCleared_written {c : Nat} (hc : c < 4096) : EntryWritten s (entryCleared c s) c 0 0 0 0 := by
  intro x hx
  have hclean : ∀ t : State, (wordsClean (0x3010000 + c * 16) 16 t).regN x = t.regN x := fun _ => rfl
  unfold entryCleared
  dsimp only
  rw [regN_setRegN, regN_setRegN, regN_setRegN, hclean, setBroken_regN hx hc, setConState, regN_setRegN,
  unbindMeter_regN hx,
    Nat.zero_mod]
  repeat' split
  all_goals rfl

theorem entryCleared_mem (c : Nat) (s : State) : (entryCleared c s).mem = s.mem := by
  have hunbind : (unbindMeter c s).mem = s.mem := by
    unfold unbindMeter
    split
    · dsimp only
      split <;> rfl
    · rfl
  unfold entryCleared
  simp only [setBroken, setConState, wordsClean, State.setField_mem, State.setRegN_mem, hunbind]

/-- R141: a DELETE frees the entry, and its green packets go yellow. -/
theorem contractDelete_frees {c : Nat} (hc : c < 4096) : EntryWritten s (contractDelete c s) c 0 0 0 0 ∧
    (contractDelete c s).field 0x3000024 1 0 = 1 ∧ (contractDelete c s).mem = s.mem ∧
    ∀ m, m < 64 → ∀ x ∈ ((contractDelete c s).port m).egress, x.green ≠ some c := by
  have hwritten := entryCleared_written (s := s) hc
  have hmem := entryCleared_mem c s
  rw [contractDelete_eq]
  generalize entryCleared c s = t at hwritten hmem ⊢
  obtain ⟨ev, hy⟩ := yellowQueued_shape c t
  have hports := congrArg State.ports hy
  generalize yellowQueued c t = u at hy hports ⊢
  have hregs : ∀ x, u.regN x = t.regN x := fun x => by rw [hy]; rfl
  have hmem' : u.mem = t.mem := by rw [hy]
  refine ⟨fun x hx => ?_, (commitStatus_result (by decide) (by decide)).1, hmem'.trans hmem, fun m hm x hxm => ?_⟩
  · rw [commitStatus_regN hx, ← hwritten x hx, hregs]
  · change x ∈ (u.ports.get (Fin.ofNat 64 m)).egress at hxm
    rw [hports] at hxm
    simp only [get_eq, Vector.getElem_map, List.mem_map] at hxm
    obtain ⟨e, -, rfl⟩ := hxm
    exact yellow_not_green c e

/-! ## The contract classes -/

theorem testBit_foldl_or (l : List Nat) (m i : Nat) :
    (l.foldl (fun m t => m ||| 2 ^ t) m).testBit i = (m.testBit i || l.contains i) := by
  induction l generalizing m with
  | nil => simp
  | cons t l ih =>
    rw [List.foldl_cons, ih, Nat.testBit_or, Nat.testBit_two_pow]
    simp [Bool.or_assoc, eq_comm]

/-- A bit below another field. -/
theorem testBit_add_field (m k : Nat) {n t : Nat} (h : t < n) : (m + k * 2 ^ n).testBit t = m.testBit t := by
  have hmod : ∀ y : Nat, y.testBit t = (y % 2 ^ n).testBit t := fun y => by
    rw [Nat.testBit_mod_two_pow, decide_eq_true h, Bool.true_and]
  rw [hmod, hmod m, Nat.add_mul_mod_self_right]

theorem ctcMaskWrite_reg {v : W32} {t : Nat} (ht : t < 8) : ((ctcMaskWrite v.toNat s).reg 0x3000000).getLsbD t =
    (v.getLsbD t || ((committed s).any (fun c => aTc (conA s c) == t) && (s.reg 0x3000000).getLsbD t)) := by
  unfold ctcMaskWrite
  dsimp only
  rw [reg_setRegN, if_pos rfl, BitVec.getLsbD_ofNat, testBit_add_field _ _ ht, testBit_foldl_or]
  have h64 : decide (t < 64) = true := decide_eq_true (by omega)
  have hv : (bits v.toNat 7 0).testBit t = v.getLsbD t := by
    rw [bits, Nat.pow_zero, Nat.div_one, Nat.testBit_mod_two_pow, decide_eq_true (show t < 7 + 1 - 0 by omega)]
    rfl
  have hkeep : ((List.range 8).filter (fun t => (committed s).any (fun c => aTc (conA s c) == t)
      && bit (s.regN 0x3000000) t)).contains t =
      ((committed s).any (fun c => aTc (conA s c) == t) && bit (s.regN 0x3000000) t) := by
    rw [Bool.eq_iff_iff, List.contains_iff_mem, List.mem_filter]
    exact ⟨fun h => h.2, fun h => ⟨List.mem_range.2 ht, h⟩⟩
  rw [h64, hv, hkeep, Bool.true_and]
  rfl

/-- Settles O24. -/
theorem contractsCommitAndDelete : Obligations.ContractsCommitAndDelete := by
  intro s c v n why hidle
  have hn : n < 4096 := c.isLt
  have hlive : ∀ f, live f s = f s := fun f => live_of_idle hidle
  refine ⟨fun hwhy => ?_, fun hwhy => ?_, ?_, ?_⟩
  · obtain ⟨hentry, hstatus, hports⟩ := contractWrite_passes hn hwhy
    exact ⟨_, congrArg Host.Outcome.next (hlive _), hentry.entry (by decide), hstatus, hports,
        fun d _ hd => hentry.others hd⟩
  · have hfail : contractWrite n s = _ := contractWrite_fails (why := why) rfl hwhy
    have hle : why ≤ 7 := commitReason_le s n _ _ _
    obtain ⟨h1, h2⟩ := commitStatus_result (s := s) (result := 2) (reason := why) (a := s.regN 0x3000010) (b :=
        s.regN 0x3000014)
      (by decide) (by omega)
    refine ⟨_, congrArg Host.Outcome.next ((hlive _).trans hfail), h1, h2, fun a ha => ?_, rfl⟩
    rw [commitStatus, reg_setRegN, if_neg ha]
  · obtain ⟨hentry, hstatus, hmem, hgreen⟩ := contractDelete_frees hn
    exact ⟨_, congrArg Host.Outcome.next (hlive _), hentry.entry (by decide), hstatus, hmem, hgreen,
        fun d _ hd => hentry.others hd⟩
  · refine ⟨_, congrArg Host.Outcome.next (hlive _), fun a ha => ?_, rfl, fun t ht => ctcMaskWrite_reg ht⟩
    rw [ctcMaskWrite, reg_setRegN, if_neg ha]

end Sys2Proof.Proofs
end

section
/-!
PROOFS. Temperature, power and the clock's level (O43).
-/

namespace Sys2Proof.Proofs
open Sys2Proof Sys2Proof.Machine Sys2Proof.Claims

set_option Elab.async false

/-! ## Raising and other fields -/

theorem raiseIf_mem (c : Bool) (b : Blk) (src : Nat) (s : State) : (raiseIf c b src s).mem = s.mem := by
  unfold raiseIf
  split
  · exact raise_mem _ _ _
  · rfl

theorem raiseIf_ports (c : Bool) (b : Blk) (src : Nat) (s : State) : (raiseIf c b src s).ports = s.ports := by
  unfold raiseIf
  split
  · exact raise_ports _ _ _
  · rfl

/-- A register in which nothing is counted or raised keeps its fields through a `Beside` change. -/
theorem Beside.field {s t : State} (h : Beside s t) {a : Nat} (ha : loud a = false) (hi lo : Nat) :
    t.field a hi lo = s.field a hi lo := by
  rw [State.field, State.field, State.regN, State.regN, h.regs a ha]

/-! ## A reading of the sensors -/

/-- The registers of the sensors take what is read. -/
theorem sensors_written (temps : List (BitVec 16)) (hlen : temps.length = 28) (s : State) :
    let t := (temps.zip (List.range 28)).foldl (fun s x => s.setRegN (0x200 + 4 * x.2) x.1.toNat) s
    (∃ c, t = { s with csr := c }) ∧ (∀ k, k < 28 → t.reg (0x200 + 4 * k) = (temps.getD k 0).setWidth 64) ∧
      ∀ a, (∀ k, k < 28 → a ≠ 0x200 + 4 * k) → t.reg a = s.reg a := by
  have hshape : ∀ (l : List (BitVec 16 × Nat)) (t : State), ∃ c,
      l.foldl (fun s x => s.setRegN (0x200 + 4 * x.2) x.1.toNat) t = { t with csr := c } := fun l t =>
    foldl_invariant (P := fun u : State => ∃ c, u = { t with csr := c })
      (by rintro u x ⟨c, rfl⟩; exact ⟨_, rfl⟩) ⟨t.csr, rfl⟩
  have hother : ∀ (l : List (BitVec 16 × Nat)) (t : State) (a : Nat), (∀ x ∈ l, a ≠ 0x200 + 4 * x.2) →
      (l.foldl (fun s x => s.setRegN (0x200 + 4 * x.2) x.1.toNat) t).reg a = t.reg a := by
    intro l
    induction l with
    | nil => exact fun _ _ _ => rfl
    | cons x l ih =>
      intro t a ha
      rw [List.foldl_cons, ih _ _ fun y hy => ha y (List.mem_cons_of_mem _ hy), reg_setRegN,
        if_neg (ha x List.mem_cons_self)]
  have hown : ∀ (l : List (BitVec 16)) (b : Nat) (t : State) (k : Nat), k < l.length →
      ((l.zip (List.range' b l.length)).foldl (fun s x => s.setRegN (0x200 + 4 * x.2) x.1.toNat) t).reg
        (0x200 + 4 * (b + k)) = (l.getD k 0).setWidth 64 := by
    intro l
    induction l with
    | nil => exact fun _ _ k hk => absurd hk (Nat.not_lt_zero k)
    | cons x l ih =>
      intro b t k hk
      rw [List.length_cons, List.range'_succ, List.zip_cons_cons, List.foldl_cons]
      cases k with
      | zero =>
        rw [hother _ _ _ fun y hy => ?_, reg_setRegN]
        · rw [Nat.add_zero, if_pos rfl]
          exact BitVec.eq_of_toNat_eq (by simp)
        · have := (List.mem_range'_1.1 (List.of_mem_zip hy).2).1
          omega
      | succ k =>
        have := ih (b + 1) (t.setRegN (0x200 + 4 * b) x.toNat) k (by simpa using hk)
        rw [show b + (k + 1) = b + 1 + k by omega, this]
        rfl
  refine ⟨hshape _ _, fun k hk => ?_, fun a ha => hother _ _ _ fun x hx => ?_⟩
  · have := hown temps 0 s k (by omega)
    rwa [hlen, ← List.range_eq_range', Nat.zero_add] at this
  · exact ha _ (List.mem_range.1 (List.of_mem_zip hx).2)

/-! ## The thermal level -/

theorem enterAt_succ (s : State) (n : Nat) : enterAt s (n + 1) ≤ enterAt s (n + 2) := by
  unfold enterAt
  omega

/-- Levels to rise to. -/
theorem riseTo_eq (p : Nat → Prop) [DecidablePred p] : ([1, 2, 3].filter (fun n => decide (p n))).foldl max 0 =
    if p 3 then 3 else if p 2 then 2 else if p 1 then 1 else 0 := by
  by_cases h1 : p 1 <;> by_cases h2 : p 2 <;> by_cases h3 : p 3 <;> simp [h1, h2, h3]

/-- Levels to fall by. -/
theorem fallBy_eq (p : Nat → Bool) : ([1, 2, 3].filter p).length = b2n (p 1) + b2n (p 2) + b2n (p 3) := by
  cases h1 : p 1 <;> cases h2 : p 2 <;> cases h3 : p 3 <;> simp [h1, h2, h3, b2n]

theorem thermalLevel_eq (s : State) (tj : Int) : thermalLevel s tj =
    let cur := s.field 0xC0 17 16
    let left := fun n => b2n (decide (n ≤ cur) &&
      decide (tj < enterAt s n - ((s.field 0x100200 15 8 * 16 : Nat) : Int)))
    let up := if tj ≥ enterAt s 3 then 3 else if tj ≥ enterAt s 2 then 2 else if tj ≥ enterAt s 1 then 1 else 0
    if cur < up then up else cur - (left 1 + left 2 + left 3) := by
  unfold thermalLevel
  dsimp only
  rw [riseTo_eq (fun n => tj ≥ enterAt s n), fallBy_eq]

theorem b2n_eq (p : Prop) [Decidable p] : b2n (decide p) = if p then 1 else 0 := by
  unfold b2n
  simp

theorem thermalLevel_lt (s : State) (tj : Int) : thermalLevel s tj < 4 := by
  have hcur : s.field 0xC0 17 16 < 4 := field_lt _ _ _ _
  have hup : (if tj ≥ enterAt s 3 then 3 else if tj ≥ enterAt s 2 then 2 else if tj ≥ enterAt s 1 then 1 else 0) < 4 := by
    split
    · decide
    · split
      · decide
      · split <;> decide
  rw [thermalLevel_eq]
  dsimp only
  generalize (if tj ≥ enterAt s 3 then 3 else if tj ≥ enterAt s 2 then 2 else if tj ≥ enterAt s 1 then 1 else 0) = up
    at hup ⊢
  split <;> omega

/-- R412: at the third threshold and above the level is 3. -/
theorem thermalLevel_top {s : State} {tj : Int} (h : enterAt s 3 ≤ tj) : thermalLevel s tj = 3 := by
  have hcur : s.field 0xC0 17 16 < 4 := field_lt _ _ _ _
  have h12 : enterAt s 1 ≤ enterAt s 2 := enterAt_succ s 0
  have h23 : enterAt s 2 ≤ enterAt s 3 := enterAt_succ s 1
  have hleft : ∀ n, enterAt s n ≤ tj →
      (b2n (decide (n ≤ s.field 0xC0 17 16) && decide (tj < enterAt s n - ((s.field 0x100200 15 8 * 16 : Nat) : Int)))) =
        0 := by
    intro n hn
    rw [decide_eq_false (p := tj < _) (by omega), Bool.and_false]
    rfl
  rw [thermalLevel_eq]
  dsimp only
  rw [if_pos h, hleft 1 (by omega), hleft 2 (by omega), hleft 3 h]
  split <;> omega

/-- R412: below the thresholds of the levels above, the level falls by one for each level left. -/
theorem thermalLevel_falls {s : State} {tj : Int} {m : Nat} (hm : m ≤ s.field 0xC0 17 16)
    (habove : ∀ k, s.field 0xC0 17 16 < k → k ≤ 3 → tj < enterAt s k)
    (hkept : ∀ k, 1 ≤ k → k ≤ m → enterAt s k - ((s.field 0x100200 15 8 * 16 : Nat) : Int) ≤ tj)
    (hleft : ∀ k, m < k → k ≤ s.field 0xC0 17 16 → tj < enterAt s k - ((s.field 0x100200 15 8 * 16 : Nat) : Int)) :
    thermalLevel s tj = m := by
  have hcur : s.field 0xC0 17 16 < 4 := field_lt _ _ _ _
  have hone : ∀ n, 1 ≤ n →
      (b2n (decide (n ≤ s.field 0xC0 17 16) && decide (tj < enterAt s n - ((s.field 0x100200 15 8 * 16 : Nat) : Int)))) =
        if m < n ∧ n ≤ s.field 0xC0 17 16 then 1 else 0 := by
    intro n hn
    have hiff : (n ≤ s.field 0xC0 17 16 ∧ tj < enterAt s n - ((s.field 0x100200 15 8 * 16 : Nat) : Int)) ↔
        (m < n ∧ n ≤ s.field 0xC0 17 16) := by
      refine ⟨fun ⟨hle, hlt⟩ => ⟨?_, hle⟩, fun ⟨hmn, hle⟩ => ⟨hle, hleft n hmn hle⟩⟩
      by_contra hnm
      have := hkept n hn (by omega)
      omega
    rw [← Bool.decide_and, b2n_eq]
    simp only [hiff]
  have hup : ∀ n, n ≤ 3 → tj ≥ enterAt s n → n ≤ s.field 0xC0 17 16 := by
    intro n hn hge
    by_contra hlt
    have := habove n (by omega) hn
    omega
  rw [thermalLevel_eq]
  dsimp only
  rw [hone 1 (by decide), hone 2 (by decide), hone 3 (by decide), if_neg]
  · generalize s.field 0xC0 17 16 = cur at hm hcur ⊢
    interval_cases cur <;> interval_cases m <;> rfl
  · split
    · have := hup 3 (by decide) ‹_›
      omega
    · split
      · have := hup 2 (by decide) ‹_›
        omega
      · split
        · have := hup 1 (by decide) ‹_›
          omega
        · omega

theorem quiet_sensor {k : Nat} (hk : k < 28) : loud (0x200 + 4 * k) = false := by
  simp only [loud, counts, Bool.or_eq_false_iff, Bool.and_eq_false_iff, decide_eq_false_iff_not, beq_eq_false_iff_ne]
  omega

/-- R411: what a reading of the sensors leaves. -/
theorem thermalReading_reads {s : State} {temps : List (BitVec 16)} (h : held s = false) (hlen : temps.length = 28) :
    let tj := (temps.map (fun t => t.toInt)).foldl max (-32768)
    let u := thermalReading temps s
    (∀ k, k < 28 → u.reg (0x200 + 4 * k) = (temps.getD k 0).setWidth 64) ∧ u.field 0xC0 15 0 = (tj % 65536).toNat ∧
    u.field 0xC0 17 16 = thermalLevel s tj ∧ u.field 0xC0 19 18 = s.field 0xC0 19 18 ∧
    u.field 0xB000000 3 2 = s.field 0xB000000 3 2 ∧
    (s.field 0xC0 17 16 = 0 → thermalLevel s tj ≠ 0 → (u.reg 0xF000).getLsbD 40 = true) ∧
    (((s.field 0x100200 23 16 * 16 : Nat) : Int) ≤ tj → (u.reg 0xF000).getLsbD 41 = true) ∧ u.mem = s.mem ∧
      u.ports = s.ports := by
  intro tj u
  obtain ⟨⟨c, hc⟩, hread, hother⟩ := sensors_written temps hlen s
  unfold u thermalReading
  rw [if_neg (by simp [h])]
  generalize (temps.zip (List.range 28)).foldl (fun s x => s.setRegN (0x200 + 4 * x.2) x.1.toNat) s = t at *
  have hfield : ∀ a hi lo, (∀ k, k < 28 → a ≠ 0x200 + 4 * k) → t.field a hi lo = s.field a hi lo := fun a hi lo ha => by
    rw [State.field, State.field, State.regN, State.regN, hother a ha]
  have hlevel : thermalLevel t tj = thermalLevel s tj := by
    have hc0 := hfield 0xC0 17 16 (fun k hk => by omega)
    have henter : ∀ n, enterAt t n = enterAt s n := fun n => by
      rw [enterAt, enterAt, hfield 0x100200 7 0 fun k hk => by omega]
    unfold thermalLevel
    rw [hc0, hfield 0x100200 15 8 fun k hk => by omega]
    simp only [henter]
  have hlt := thermalLevel_lt s tj
  have htj : (temps.map (fun t => t.toInt)).foldl max (-32768) = tj := rfl
  clear_value tj
  dsimp only
  rw [htj, hlevel, hfield 0xC0 17 16 fun k hk => by omega]
  have hset : ∀ a, a ≠ 0xC0 → ((t.setField 0xC0 15 0 (tj % 65536).toNat).setField 0xC0 17 16 (thermalLevel s tj)).reg a =
      t.reg a := fun a ha => (reg_setField_ne ha).trans (reg_setField_ne ha)
  have hlow : ((t.setField 0xC0 15 0 (tj % 65536).toNat).setField 0xC0 17 16 (thermalLevel s tj)).field 0xC0 15 0 =
      (tj % 65536).toNat := by
    rw [field_setField_below (by decide) (by decide) (by decide), field_setField_same (by decide) (by decide)]
    omega
  have hmid : ((t.setField 0xC0 15 0 (tj % 65536).toNat).setField 0xC0 17 16 (thermalLevel s tj)).field 0xC0 17 16 =
      thermalLevel s tj := by
    rw [field_setField_same (by decide) (by decide)]
    exact Nat.mod_eq_of_lt hlt
  have hhigh : ((t.setField 0xC0 15 0 (tj % 65536).toNat).setField 0xC0 17 16 (thermalLevel s tj)).field 0xC0 19 18 =
      s.field 0xC0 19 18 := by
    rw [field_setField_above (by decide) (by decide) (by decide) (by decide),
      field_setField_above (by decide) (by decide) (by decide) (by decide), hfield 0xC0 19 18 fun k hk => by omega]
  have hmem : ((t.setField 0xC0 15 0 (tj % 65536).toNat).setField 0xC0 17 16 (thermalLevel s tj)).mem = s.mem ∧
      ((t.setField 0xC0 15 0 (tj % 65536).toNat).setField 0xC0 17 16 (thermalLevel s tj)).ports = s.ports := by
    rw [hc]
    exact ⟨rfl, rfl⟩
  generalize (t.setField 0xC0 15 0 (tj % 65536).toNat).setField 0xC0 17 16 (thermalLevel s tj) = v at *
  obtain ⟨hvmem, hvports⟩ := hmem
  have hfirst : ∀ c, Beside v (raiseIf c .glb 40 v) := fun c => raiseIf_beside (Beside.refl v)
  have hcrit : v.field 0x100200 23 16 = s.field 0x100200 23 16 := by
    rw [State.field, State.regN, hset _ (by decide)]
    exact hfield 0x100200 23 16 fun k hk => by omega
  have hclk : v.field 0xB000000 3 2 = s.field 0xB000000 3 2 := by
    rw [State.field, State.regN, hset _ (by decide)]
    exact hfield 0xB000000 3 2 fun k hk => by omega
  have hglb : ∀ c, c = true → ((raiseIf c .glb 40 v).reg 0xF000).getLsbD 40 = true := fun c hc' =>
    raiseIf_sets (b := .glb) (src := 40) hc' (by decide) v
  rw [(hfirst _).field (by decide) 23 16, hcrit]
  have hfirstmem := raiseIf_mem (s.field 0xC0 17 16 == 0 && thermalLevel s tj != 0) .glb 40 v
  have hfirstports := raiseIf_ports (s.field 0xC0 17 16 == 0 && thermalLevel s tj != 0) .glb 40 v
  have hw := hfirst (s.field 0xC0 17 16 == 0 && thermalLevel s tj != 0)
  have hglb' := hglb (s.field 0xC0 17 16 == 0 && thermalLevel s tj != 0)
  generalize raiseIf (s.field 0xC0 17 16 == 0 && thermalLevel s tj != 0) .glb 40 v = w at *
  have hx : Beside w (raiseIf (decide (tj ≥ ((s.field 0x100200 23 16 * 16 : Nat) : Int))) .glb 41 w) :=
    raiseIf_beside (Beside.refl w)
  have hall := hw.trans hx
  refine ⟨fun k hk => ?_, ?_, ?_, ?_, ?_, fun h0 h1 => ?_, fun hge => ?_, ?_, ?_⟩
  · rw [hall.regs _ (quiet_sensor hk), hset _ (by omega), hread k hk]
  · rw [hall.field (by decide), hlow]
  · rw [hall.field (by decide), hmid]
  · rw [hall.field (by decide), hhigh]
  · rw [hall.field (by decide), hclk]
  · exact hx.faults .glb 40 (hglb' (by simp [h0, h1]))
  · exact raiseIf_sets (b := .glb) (src := 41) (decide_eq_true hge) (by decide) w
  · rw [raiseIf_mem, hfirstmem, hvmem]
  · rw [raiseIf_ports, hfirstports, hvports]

/-- The power and the power level after a window, of which nothing else is left. -/
def PowerLevel (s u : State) (watts x : Nat) : Prop :=
  u.field 0xC0 42 32 = min watts 2047 ∧ u.field 0xC0 17 16 = s.field 0xC0 17 16 ∧ u.field 0xC0 19 18 = x ∧
    u.field 0xB000000 3 2 = s.field 0xB000000 3 2 ∧ u.mem = s.mem ∧ u.ports = s.ports

/-- R413: what the end of a power window leaves. -/
theorem powerWindowEnd_leaves {s : State} (h : held s = false) (watts : Nat) :
    let pow := s.field 0xC0 19 18
    let lim := s.field 0x100208 10 0
    PowerLevel s (powerWindowEnd watts s) watts
      (if lim < watts then min 3 (pow + 1) else if 100 * watts < 95 * lim then pow - 1 else pow) ∧
    (lim < watts → pow = 3 → ((powerWindowEnd watts s).reg 0xF000).getLsbD 42 = true) := by
  intro pow lim
  have hpow : pow < 4 := field_lt _ _ _ _
  have hwatts : (s.setField 0xC0 42 32 (min watts 2047)).field 0xC0 42 32 = min watts 2047 := by
    rw [field_setField_same (by decide) (by decide)]
    omega
  have hcur : (s.setField 0xC0 42 32 (min watts 2047)).field 0xC0 17 16 = s.field 0xC0 17 16 :=
    field_setField_below (by decide) (by decide) (by decide)
  have hold : (s.setField 0xC0 42 32 (min watts 2047)).field 0xC0 19 18 = pow :=
    field_setField_below (by decide) (by decide) (by decide)
  have hclk : (s.setField 0xC0 42 32 (min watts 2047)).field 0xB000000 3 2 = s.field 0xB000000 3 2 :=
    field_setField_ne (by decide)
  have hset : ∀ x, x < 4 → PowerLevel s ((s.setField 0xC0 42 32 (min watts 2047)).setField 0xC0 19 18 x) watts x :=
      fun x hx => by
    refine ⟨?_, ?_, ?_, ?_, rfl, rfl⟩
    · rw [field_setField_above (by decide) (by decide) (by decide) (by decide), hwatts]
    · rw [field_setField_below (by decide) (by decide) (by decide), hcur]
    · rw [field_setField_same (by decide) (by decide)]
      exact Nat.mod_eq_of_lt hx
    · rw [field_setField_ne (by decide), hclk]
  unfold powerWindowEnd
  rw [if_neg (by simp [h])]
  dsimp only
  rw [show s.field 0x100208 10 0 = lim from rfl, show s.field 0xC0 19 18 = pow from rfl]
  clear_value pow lim
  by_cases hover : lim < watts
  · rw [if_pos hover, if_pos hover]
    by_cases hlow : pow < 3
    · rw [if_pos hlow, show min 3 (pow + 1) = pow + 1 by omega]
      exact ⟨hset _ (by omega), fun _ h3 => absurd h3 (by omega)⟩
    · rw [if_neg hlow, show min 3 (pow + 1) = pow by omega]
      have hkeep : (s.setField 0xC0 42 32 (min watts 2047)).mem = s.mem ∧
          (s.setField 0xC0 42 32 (min watts 2047)).ports = s.ports := ⟨rfl, rfl⟩
      generalize s.setField 0xC0 42 32 (min watts 2047) = t at *
      obtain ⟨hmem, hports⟩ := hkeep
      have hbeside : Beside t (raise .glb 42 t) := raise_beside (Beside.refl _)
      refine ⟨⟨?_, ?_, ?_, ?_, (raise_mem _ _ _).trans hmem, (raise_ports _ _ _).trans hports⟩, fun _ _ => raise_sets .glb (by decide) _⟩
      · rw [hbeside.field (by decide), hwatts]
      · rw [hbeside.field (by decide), hcur]
      · rw [hbeside.field (by decide), hold]
      · rw [hbeside.field (by decide), hclk]
  · rw [if_neg hover, if_neg hover]
    refine ⟨?_, fun hlt => absurd hlt hover⟩
    split
    · exact hset _ (by omega)
    · exact ⟨hwatts, hcur, hold, hclk, rfl, rfl⟩

/-! ## The clock's level -/

theorem bit_zero (i : Nat) : bit 0 i = false := by
  simp [bit]

/-- Sources with an empty reaction set leave the state as it is. -/
theorem react_of_noReaction {s : State} {r : List (Blk × Nat)} (h : ∀ x ∈ r, reactSet s x.2 = 0)
    (hglb : ∀ x ∈ r, x.1 ≠ .glb) : react r s = s := by
  have hnone : ∀ b, raisesWith s r b = [] := fun b => List.filter_eq_nil_iff.2 fun x hx => by
    rw [h x hx, bit_zero]
    decide
  have hreacts : ∀ b, reacts s r b = false := fun b => List.any_eq_false.2 fun x hx => by
    rw [h x hx, bit_zero]
    decide
  have hevents : ∀ cls b, reactEvents cls b r s = s := fun cls b => by
    unfold reactEvents
    rw [hnone b]
    rfl
  have hblocks : reactBlocks r s = s := by
    unfold reactBlocks
    rw [hnone 2]
    rfl
  have hnoglb : r.filter (fun x => x.1 == .glb) = [] := List.filter_eq_nil_iff.2 fun x hx => by
    simpa using hglb x hx
  unfold react
  dsimp only
  simp only [hreacts, hevents, hblocks, hnoglb, Bool.false_and, Bool.false_eq_true, if_false]
  split <;> rfl

theorem settle_of_noReaction {s : State} (h : ∀ x ∈ s.raised, reactSet s x.2 = 0 ∧ x.1 ≠ .glb) :
    settle s = { s with raised := [] } := by
  have hreact : react s.raised { s with raised := [] } = { s with raised := [] } :=
    react_of_noReaction (fun x hx => (h x hx).1) fun x hx => (h x hx).2
  unfold settle settleN
  rw [hreact, settleN_none _ _ rfl]
  split
  · exact congrArg (fun r => ({ s with raised := r } : State)) (List.isEmpty_iff.1 ‹_›)
  · rfl

theorem raised_raise (b : Blk) (src : Nat) (s : State) : ∀ x ∈ (raise b src s).raised, x ∈ s.raised ∨ x = (b, src) := by
  unfold raise
  dsimp only
  split
  · exact fun x hx => .inl hx
  · split
    · exact fun x hx => by simpa using hx
    · exact fun x hx => by simpa using hx

/-- R412, R413: the clock takes the higher level; nothing is raised but the source of a level. -/
theorem applyLevel_sets (s : State) :
    (applyLevel s).field 0xB000000 3 2 = max (s.field 0xC0 17 16) (s.field 0xC0 19 18) ∧
      (∀ x ∈ (applyLevel s).raised, x ∈ s.raised ∨ x = (.tcu, 19)) ∧
      (∀ a, loud a = false → a ≠ 0xB000000 → (applyLevel s).reg a = s.reg a) ∧
      (applyLevel s).msuLast = s.msuLast ∧ (applyLevel s).wrote = s.wrote ∧ (applyLevel s).ecbPend = s.ecbPend := by
  have hnew : max (s.field 0xC0 17 16) (s.field 0xC0 19 18) < 4 :=
    Nat.max_lt.2 ⟨field_lt _ _ _ _, field_lt _ _ _ _⟩
  unfold applyLevel
  dsimp only
  generalize max (s.field 0xC0 17 16) (s.field 0xC0 19 18) = new at *
  split
  · exact ⟨Eq.symm ‹_›, fun x hx => .inl hx, fun _ _ _ => rfl, rfl, rfl, rfl⟩
  · generalize (decide (s.field 0xB000000 3 2 < new) && (decide (new > min 2 (State.field (count 0x005 1 none none none
        (s.setField 0xB000000 3 2 new)) 0x3000000 9 8)) || new == 3)) = c
    have hfield : (s.setField 0xB000000 3 2 new).field 0xB000000 3 2 = new := by
      rw [field_setField_same (by decide) (by decide)]
      exact Nat.mod_eq_of_lt hnew
    have hreg : ∀ a, a ≠ 0xB000000 → (s.setField 0xB000000 3 2 new).reg a = s.reg a := fun a => reg_setField_ne
    have hraised : (count 0x005 1 none none none (s.setField 0xB000000 3 2 new)).raised = s.raised := rfl
    have hrest : (count 0x005 1 none none none (s.setField 0xB000000 3 2 new)).msuLast = s.msuLast ∧
        (count 0x005 1 none none none (s.setField 0xB000000 3 2 new)).wrote = s.wrote ∧
        (count 0x005 1 none none none (s.setField 0xB000000 3 2 new)).ecbPend = s.ecbPend := ⟨rfl, rfl, rfl⟩
    have hcount : Beside (s.setField 0xB000000 3 2 new) (count 0x005 1 none none none (s.setField 0xB000000 3 2 new)) :=
      count_beside (Beside.refl _)
    generalize s.setField 0xB000000 3 2 new = t at *
    generalize count 0x005 1 none none none t = v at *
    have hall : Beside t (raiseIf c .tcu 19 v) := raiseIf_beside hcount
    obtain ⟨hl, hw, hp⟩ := hrest
    refine ⟨(hall.field (by decide) 3 2).trans hfield, ?_, fun a ha hne => (hall.regs a ha).trans (hreg a hne), ?_, ?_, ?_⟩
    · unfold raiseIf
      split
      · exact fun x hx => hraised ▸ raised_raise _ _ _ x hx
      · exact fun x hx => .inl (hraised ▸ hx)
    all_goals
      unfold raiseIf
      split
    · rw [raise_msuLast, hl]
    · exact hl
    · rw [raise_wrote, hw]
    · exact hw
    · rw [raise_ecbPend, hp]
    · exact hp

theorem tick_takes_level {s : State} (h : held s = false) (hr : s.raised = []) (hw : s.wrote = []) (hm : s.msuLast = [])
    (hp : s.ecbPend = []) (h19 : reactSet s 19 = 0) :
    (tick s).field 0xB000000 3 2 =
      if s.now % 2 = 1 then max (s.field 0xC0 17 16) (s.field 0xC0 19 18) else s.field 0xB000000 3 2 := by
  have hst := edges_stalled s
  unfold tick
  rw [if_neg (by simp [h])]
  generalize stallCounts (clockEdges s) = t at hst ⊢
  obtain ⟨ev, a, rfl⟩ := hst
  dsimp only
  have hend : ∀ u : State, u.raised = [] ∨ (∀ x ∈ u.raised, reactSet u x.2 = 0 ∧ x.1 ≠ .glb) → u.msuLast = [] →
      u.wrote = [] → u.ecbPend = [] →
      (nextCycle (ecbEndCycle (writesLast (settle (msuWrites u))))).field 0xB000000 3 2 = u.field 0xB000000 3 2 := by
    intro u hur hul huw hup
    have hquiet : ∀ x ∈ u.raised, reactSet u x.2 = 0 ∧ x.1 ≠ .glb := by
      rcases hur with hnil | hq
      · rw [hnil]
        exact fun x hx => absurd hx List.not_mem_nil
      · exact hq
    have hmsu : msuWrites u = u := by rw [msuWrites, hul]; rfl
    rw [hmsu, settle_of_noReaction hquiet]
    have hlast : (writesLast { u with raised := [] }).csr = u.csr ∧ (writesLast { u with raised := [] }).fuses = u.fuses ∧
        (writesLast { u with raised := [] }).ecbPend = [] := by
      unfold writesLast
      rw [show ({ u with raised := [] } : State).wrote = [] from huw]
      exact ⟨rfl, rfl, hup⟩
    generalize writesLast { u with raised := [] } = v at hlast ⊢
    obtain ⟨hcsr, hfuses, hpend⟩ := hlast
    have hsame := ecbEndCycle_sameRegs v (by rw [hpend]; exact fun e he => absurd he List.not_mem_nil)
    have hkeep : (ecbEndCycle v).fuses = v.fuses := rfl
    have hreg : (nextCycle (ecbEndCycle v)).reg 0xB000000 = u.reg 0xB000000 := by
      change (ecbEndCycle v).reg 0xB000000 = _
      rw [State.reg, State.reg, hkeep, hfuses, hsame _ (by decide), hcsr]
    rw [State.field, State.field, State.regN, State.regN, hreg]
  have hnow : patternEnds { s with evts := ev, aclk := a } = decide (s.now % 2 = 1) := rfl
  rw [hnow]
  by_cases hodd : s.now % 2 = 1
  · obtain ⟨hlevel, hraised, hregs, hlast, hwrote, hpend⟩ := applyLevel_sets { s with evts := ev, aclk := a }
    have h19' : reactSet (applyLevel { s with evts := ev, aclk := a }) 19 = 0 := by
      rw [← h19, reactSet, reactSet, State.field, State.field, State.regN, State.regN,
        hregs _ (by decide) (by decide)]
      rfl
    simp only [hodd, decide_true, if_true]
    rw [hend _ (.inr fun x hx => ?_) (hlast.trans hm) (hwrote.trans hw) (hpend.trans hp), hlevel]
    · rfl
    · obtain hx | rfl := hraised x hx
      · exact absurd (hr ▸ hx) List.not_mem_nil
      · exact ⟨h19', by decide⟩
  · simp only [hodd, decide_false, if_false, Bool.false_eq_true]
    exact hend { s with evts := ev, aclk := a } (.inl hr) hm hw hp

/-- Settles O43. -/
theorem temperatureAndPowerThrottle : Obligations.TemperatureAndPowerThrottle := by
  unfold Obligations.TemperatureAndPowerThrottle
  intro s temps watts tj cur pow lim h
  refine ⟨fun hlen => ⟨_, rfl, thermalReading_reads h hlen⟩, fun h0 hbelow => ?_, thermalLevel_top,
    fun m => thermalLevel_falls, ⟨_, rfl, ?_⟩, fun hr hw hm hp _ h19 => tick_takes_level h hr hw hm hp h19⟩
  · have hcur : s.field 0xC0 17 16 = 0 := h0
    exact thermalLevel_falls (Nat.zero_le _) (fun k hk => hbelow k (by omega)) (fun k hk hk0 => by omega)
      (fun k hk hk0 => by omega)
  · obtain ⟨⟨hwatts, hlow, hhigh, hclk, hmem, hports⟩, hraise⟩ := powerWindowEnd_leaves h watts
    exact ⟨hwatts, hlow, hhigh, hclk, hraise, hmem, hports⟩

end Sys2Proof.Proofs
end

section
/-!
PROOFS. What a chip reset and the start-up after it leave.
-/

namespace Sys2Proof.Proofs
open Sys2Proof Sys2Proof.Machine Sys2Proof.Claims

set_option Elab.async false

/-! ## The reset -/

/-- Registers after a reset hold what the register map gives, but for the challenge and the cause of reset. -/
theorem reg_resetState_ne {c : Nat} {fault : Option (Nat × Nat × Bool)} {s : State} {a : Nat} (h1 : a ≠ 0x100008)
    (h2 : a ≠ 0x200010) : (resetState c fault s).reg a = regReset s.fuses a := by
  unfold resetState
  dsimp only
  rw [reg_setRegN, if_neg h2, reg_setReg, if_neg h1]
  rfl

theorem held_resetState (c : Nat) (fault : Option (Nat × Nat × Bool)) (s : State) :
    held (resetState c fault s) = !(s.pins.railsOk && s.pins.rstN && !s.pins.testEn) := by
  have hreg : regReset s.fuses 0x200018 = 0 := rfl
  have hlatched : latched (resetState c fault s) = false := by
    rw [latched, State.regN, reg_resetState_ne (by decide) (by decide), hreg]
    decide
  have hpins : (resetState c fault s).pins = s.pins := rfl
  rw [held, hlatched, hpins]
  cases s.pins.railsOk <;> cases s.pins.rstN <;> cases s.pins.testEn <;> rfl

theorem bits_of_lt {c hi : Nat} (hc : c < 2 ^ (hi + 1)) : bits c hi 0 = c := by
  rw [bits, Nat.pow_zero, Nat.div_one]
  exact Nat.mod_eq_of_lt hc

theorem reset_cause {c : Nat} (hc : c < 4) (s : State) : (resetState c none s).field 0x200010 1 0 = c := by
  unfold resetState
  dsimp only
  rw [field_setRegN_same (by decide) (by decide)]
  unfold resetCause
  dsimp only
  split
  · exact bits_of_lt hc
  · rw [bits_setBits_same]
    exact Nat.mod_eq_of_lt hc

/-! ## Start-up begins -/

theorem reg_wipeStart (c a : Nat) (s : State) :
    (wipeStart c s).reg a = if a = 0x6000020 then BitVec.ofNat 64 (1 + c * 2) else s.reg a :=
  reg_setRegN s _ _ _

theorem bits_two_pow_mul (b : Bool) (n : Nat) : bits (b2n b * 2 ^ n) n n = b2n b := by
  rw [bits, Nat.mul_div_cancel _ (Nat.two_pow_pos n), Nat.add_sub_cancel_left]
  exact Nat.mod_eq_of_lt (by cases b <;> decide)

/-- Table 15.2: start-up begins. -/
theorem bootStart_begins (s : State) : Begins (bootStart s) s.pins.straps := by
  unfold bootStart
  dsimp only
  generalize (if State.field _ 0x200010 1 0 = 3 then 2 else 1) = c
  have hne : ∀ (a : Nat), a ≠ 0x6000020 → a ≠ 0xB000000 → ∀ t : State,
      (wipeStart c (t.setField 0xB000000 0 0 1)).reg a = t.reg a := fun a h1 h2 t => by
    rw [reg_wipeStart, if_neg h1, reg_setField_ne h2]
  refine ⟨?_, rfl, ?_, ?_, ?_, ?_, ?_⟩
  · rw [bootState, State.field, State.regN, hne _ (by decide) (by decide)]
    change State.field _ 0xA0 3 0 = 1
    rw [field_setRegN_same (by decide) (by decide)]
    cases s.pins.straps.nvmQspi <;> rfl
  · rw [hne _ (by decide) (by decide), reg_setRegN, if_neg (by decide), reg_setRegN, if_neg (by decide), reg_setRegN,
      if_pos rfl]
    rfl
  · rw [State.field, State.regN, hne _ (by decide) (by decide)]
    change State.field _ 0x20 18 18 = _
    rw [field_setRegN_ne (by decide), field_setRegN_same (by decide) (by decide), bits_two_pow_mul]
  · rw [State.field, State.regN, hne _ (by decide) (by decide)]
    change State.field _ 0xA0 5 5 = _
    rw [field_setRegN_same (by decide) (by decide)]
    cases s.pins.straps.nvmQspi <;> rfl
  · rw [State.field, State.regN, reg_wipeStart, if_neg (by decide)]
    exact field_setField_same (by decide) (by decide)
  · rw [State.field, State.regN, reg_wipeStart, if_pos rfl, BitVec.toNat_ofNat, bits]
    omega

theorem chipReset_held {c : Nat} {fault : Option (Nat × Nat × Bool)} {s : State}
    (h : (s.pins.railsOk && s.pins.rstN && !s.pins.testEn) = false) : chipReset c fault s = resetState c fault s := by
  unfold chipReset
  dsimp only
  rw [held_resetState, h]
  rfl

theorem chipReset_starts {c : Nat} {fault : Option (Nat × Nat × Bool)} {s : State}
    (h : (s.pins.railsOk && s.pins.rstN && !s.pins.testEn) = true) :
    chipReset c fault s = bootStart (resetState c fault s) := by
  unfold chipReset
  dsimp only
  rw [held_resetState, h]
  rfl

/-- The chip runs and no halt is latched: the pins let it. -/
theorem pins_of_running {s : State} (h : held s = false) (hl : latched s = false) :
    (s.pins.railsOk && s.pins.rstN && !s.pins.testEn) = true := by
  unfold held at h
  rw [hl] at h
  revert h
  cases s.pins.railsOk <;> cases s.pins.rstN <;> cases s.pins.testEn <;> decide

/-- R341, R342: what a reset leaves when start-up follows at once. -/
theorem chipReset_afresh {c : Nat} (hc : c < 4) {s : State}
    (h : (s.pins.railsOk && s.pins.rstN && !s.pins.testEn) = true) : StartsAfresh s (chipReset c none s) c := by
  rw [chipReset_starts h]
  obtain ⟨hboot, hwipe, -⟩ := bootStart_begins (resetState c none s)
  refine ⟨hboot, hwipe, ?_, rfl, rfl, rfl, rfl, rfl, rfl, rfl, rfl, rfl, rfl⟩
  have hcause := reset_cause hc s
  generalize resetState c none s = t at hcause ⊢
  unfold bootStart
  dsimp only
  rw [State.field, State.regN, reg_wipeStart, if_neg (by decide), reg_setField_ne (by decide), reg_setRegN,
    if_neg (by decide), reg_setRegN, if_neg (by decide), reg_setRegN, if_neg (by decide)]
  exact hcause

end Sys2Proof.Proofs
end

section
/-!
PROOFS. Requests of the safety partition's mailbox (O44).
-/

namespace Sys2Proof.Proofs
open Sys2Proof Sys2Proof.Machine Sys2Proof.Claims

set_option Elab.async false

theorem next_congr {s t : State} (h : s = t) : (.next s : Out) = .next t := h ▸ rfl

/-- R357: a request is taken with the buffer as it stands. -/
theorem submits_of_free {s : State} (h : held s = false) (hfree : s.boot.sapReq = none) {c : Instr} {req : Nat}
    (h1 : 1 ≤ req) (h7 : req ≤ 7) (hc : exec c s = .next (sapRequest req s)) : Submits s c req := by
  have hgo : sapRequest req s =
      { s.setRegN 0x104 4 with boot := { s.boot with sapReq := some (req, regBytes s 0x2000 5136) } } := by
    unfold sapRequest
    rw [if_neg]
    simp only [h, hfree, Option.isSome_none, Bool.false_or, Bool.or_eq_true, beq_iff_eq, decide_eq_true_eq]
    omega
  rw [hgo] at hc
  exact ⟨_, hc, reg_setReg_same s 0x104 _, rfl, rfl, rfl, fun x hx => (reg_setRegN s 0x104 x 4).trans (if_neg hx)⟩

theorem sapRequest_busy {s : State} (hbusy : s.boot.sapReq ≠ none) (req : Nat) : sapRequest req s = s := by
  unfold sapRequest
  rw [if_pos]
  simp [Option.isSome_iff_ne_none.2 hbusy]

/-- The state at the end of a request, its challenge renewed when it was signed. -/
def challenged (req : Nat) (s : State) : State :=
  if signed15 req then
    { ({ s with boot := { s.boot with sapReq := none } } : State).setReg 0x100008 (Config.entropy s.fresh) with
      fresh := s.fresh + 1 }
  else { s with boot := { s.boot with sapReq := none } }

theorem sapRequestDone_eq {s : State} {req : Nat} {buf : List Byte} (h : held s = false)
    (hreq : s.boot.sapReq = some (req, buf)) :
    let why := sapWhy req buf { s with boot := { s.boot with sapReq := none } }
    sapRequestDone s = if why ≠ 0 then (challenged req s).setRegN 0x104 (2 + 16 * why)
      else sapEffect req (sapArgs req buf) (challenged req s) := by
  intro why
  have hwhy : why = if stateReason req { s with boot := { s.boot with sapReq := none } } then 1
      else if (if signed15 req then signReason req buf { s with boot := { s.boot with sapReq := none } } else 0) ≠ 0 then
        (if signed15 req then signReason req buf { s with boot := { s.boot with sapReq := none } } else 0)
      else argReason req (sapArgs req buf) { s with boot := { s.boot with sapReq := none } } := by
    unfold why sapWhy
    cases hs : signed15 req <;> simp
  unfold sapRequestDone
  rw [hreq]
  dsimp only
  rw [if_neg (by simp [h])]
  change (if (if stateReason req { s with boot := { s.boot with sapReq := none } } then 1
      else if (if signed15 req then signReason req buf { s with boot := { s.boot with sapReq := none } } else 0) ≠ 0 then
        (if signed15 req then signReason req buf { s with boot := { s.boot with sapReq := none } } else 0)
      else argReason req (sapArgs req buf) { s with boot := { s.boot with sapReq := none } }) ≠ 0 then
    (challenged req s).setRegN 0x104 (2 + _ * 16) else sapEffect req (sapArgs req buf) (challenged req s)) = _
  rw [← hwhy, Nat.mul_comm]
  exact if_congr Iff.rfl (by rw [hwhy]; rfl) rfl

theorem challenged_keeps (req : Nat) (s : State) : (challenged req s).boot = { s.boot with sapReq := none } ∧
    (challenged req s).fuses = s.fuses ∧ (challenged req s).mem = s.mem ∧ (challenged req s).pins = s.pins ∧
    ∀ a, a ≠ 0x100008 → (challenged req s).reg a = s.reg a := by
  unfold challenged
  split
  · exact ⟨rfl, rfl, rfl, rfl, fun a ha => (reg_setReg s 0x100008 a _).trans (if_neg ha)⟩
  · exact ⟨rfl, rfl, rfl, rfl, fun _ _ => rfl⟩

theorem latched_challenged (req : Nat) (s : State) : latched (challenged req s) = latched s := by
  obtain ⟨-, -, -, -, hreg⟩ := challenged_keeps req s
  rw [latched, latched, State.regN, State.regN, hreg _ (by decide)]

theorem sapRefused {s : State} {req : Nat} {buf : List Byte} (h : held s = false)
    (hreq : s.boot.sapReq = some (req, buf))
    (hwhy : sapWhy req buf { s with boot := { s.boot with sapReq := none } } ≠ 0) :
    SapRefused s (sapRequestDone s) (sapWhy req buf { s with boot := { s.boot with sapReq := none } }) := by
  rw [sapRequestDone_eq h hreq, if_pos hwhy]
  generalize sapWhy req buf { s with boot := { s.boot with sapReq := none } } = why
  obtain ⟨hboot, hfuses, hmem, -, hreg⟩ := challenged_keeps req s
  generalize challenged req s = t at *
  exact ⟨reg_setReg_same t 0x104 _, hfuses, congrArg Boot.sapReq hboot, hmem, fun a ha ha' =>
    (reg_setRegN t 0x104 a _).trans ((if_neg ha).trans (hreg a ha'))⟩

/-- A reset that ends a request: fuses stay, start-up begins. -/
theorem sapReset_starts {s : State} (h : (s.pins.railsOk && s.pins.rstN && !s.pins.testEn) = true)
    (hl : latched s = false) : (sapReset s).fuses = s.fuses ∧ bootState (sapReset s) = 1 := by
  obtain ⟨hboot, -, -, -, -, -, -, -, -, -, hfuses, -, -⟩ := chipReset_afresh (c := 3) (by decide) h
  unfold sapReset
  rw [if_neg (by simp [hl])]
  exact ⟨hfuses, hboot⟩

theorem sapReset_free {s : State} (h : s.boot.sapReq = none) : (sapReset s).boot.sapReq = none := by
  unfold sapReset chipReset
  dsimp only
  split
  · exact h
  · split <;> rfl

theorem sapEffect_free {s : State} (h : s.boot.sapReq = none) (req : Nat) (args : List Byte) :
    (sapEffect req args s).boot.sapReq = none := by
  unfold sapEffect
  dsimp only
  generalize hd : s.setRegN 0x104 1 = done
  have hdone : done.boot.sapReq = none := by rw [← hd]; exact h
  split
  · exact sapReset_free (s := { done with fuses := _ }) hdone
  split
  · exact hdone
  split
  · exact hdone
  split
  · exact sapReset_free (s := { done with fuses := _ }) hdone
  split
  · exact sapReset_free (s := { done with fuses := _ }) hdone
  split
  · exact hdone
  · split
    · exact hdone
    · exact hdone

/-- A request that is done is no longer in hand. -/
theorem sapRequestDone_free {s : State} (h : held s = false) : (sapRequestDone s).boot.sapReq = none := by
  cases hreq : s.boot.sapReq with
  | none =>
    unfold sapRequestDone
    rw [hreq]
    exact hreq
  | some r =>
    obtain ⟨req, buf⟩ := r
    obtain ⟨hboot, -⟩ := challenged_keeps req s
    have hfree := congrArg Boot.sapReq hboot
    rw [sapRequestDone_eq h hreq]
    generalize challenged req s = t at hfree ⊢
    split
    · exact hfree
    · exact sapEffect_free hfree _ _

/-- The slot a key goes into: the first that is not programmed. -/
theorem firstFree_spec {f : Fuses} (h : f.prog ≠ 15) :
    let k := ((List.range 4).find? (fun k => !f.prog.getLsbD k)).getD 0
    k < 4 ∧ f.prog.getLsbD k = false ∧ ∀ i, i < k → f.prog.getLsbD i = true := by
  generalize f.prog = p at h ⊢
  revert p
  decide

theorem argReason_none {s : State} {req : Nat} {buf : List Byte}
    (hwhy : sapWhy req buf { s with boot := { s.boot with sapReq := none } } = 0) :
    argReason req (sapArgs req buf) s = 0 := by
  have hkeep : argReason req (sapArgs req buf) { s with boot := { s.boot with sapReq := none } } =
      argReason req (sapArgs req buf) s := rfl
  rw [← hkeep]
  unfold sapWhy at hwhy
  split at hwhy
  · cases hwhy
  · split at hwhy
    · next hs => exact absurd hwhy hs.2
    · exact hwhy

theorem latched_withFuses (s : State) (f : Fuses) : latched ({ s.setRegN 0x104 1 with fuses := f } : State) = latched s := by
  have hzero : ∀ g, regReset g 0x200018 = 0 := fun g => rfl
  have hdef : regReset f 0x200018 = regReset s.fuses 0x200018 := (hzero f).trans (hzero s.fuses).symm
  have hreg : ({ s.setRegN 0x104 1 with fuses := f } : State).reg 0x200018 = s.reg 0x200018 := by
    refine Eq.trans ?_ ((reg_setRegN s 0x104 0x200018 1).trans (if_neg (by decide)))
    rw [State.reg, State.reg]
    exact congrArg _ hdef
  rw [latched, latched, State.regN, State.regN, hreg]

theorem reg_done_withFuses (s : State) (f : Fuses) : ({ s.setRegN 0x104 1 with fuses := f } : State).reg 0x104 = 1 := by
  change (tabGet (tabSet s.csr 0x104 1) 0x104).getD _ = _
  rw [tabGet_tabSet, if_pos rfl]
  rfl

/-- Requests that end in a reset. -/
theorem sapEffect_resets {s : State} (f : Fuses) (hpins : (s.pins.railsOk && s.pins.rstN && !s.pins.testEn) = true)
    (hl : latched s = false) :
    (sapReset { s.setRegN 0x104 1 with fuses := f }).fuses = f ∧ bootState (sapReset { s.setRegN 0x104 1 with fuses := f }) = 1 := by
  have hl' := (latched_withFuses s f).trans hl
  exact sapReset_starts hpins hl'

theorem setTarget_ge {what idx v x : Nat} (h : setTarget what idx v = some x) : 0x100100 ≤ x := by
  unfold setTarget at h
  split at h
  · split at h
    · simp only [Option.some.injEq] at h
      omega
    · cases h
  split at h
  · split at h
    · simp only [Option.some.injEq] at h
      omega
    · cases h
  split at h
  · split at h
    · simp only [Option.some.injEq] at h
      omega
    · cases h
  split at h
  · split at h
    · simp only [Option.some.injEq] at h
      omega
    · cases h
  · cases h

/-- R360: SET writes the register its arguments name. -/
theorem sapEffect_set {s : State} {args : List Byte} (h : argReason 7 args s = 0) (t : State) :
    ∃ x, setTarget (leNat (args.take 1)) (leNat (slice args 4 4)) (leNat (slice args 8 4)) = some x ∧
      sapEffect 7 args t = (t.setRegN 0x104 1).setRegN x (leNat (slice args 8 4)) := by
  have hsome : (setTarget (leNat (args.take 1)) (leNat (slice args 4 4)) (leNat (slice args 8 4))).isNone = false := by
    cases hn : (setTarget (leNat (args.take 1)) (leNat (slice args 4 4)) (leNat (slice args 8 4))).isNone with
    | false => rfl
    | true =>
      have h7 : argReason 7 args s = if (setTarget (leNat (args.take 1)) (leNat (slice args 4 4))
        (leNat (slice args 8 4))).isNone then 4 else 0 := rfl
      rw [h7, hn] at h
      cases h
  obtain ⟨x, hx⟩ := Option.isSome_iff_exists.1 (by simpa using hsome)
  refine ⟨x, hx, ?_⟩
  have heff : sapEffect 7 args t = match setTarget (leNat (args.take 1)) (leNat (slice args 4 4)) (leNat (slice args 8 4))
    with
    | some a => (t.setRegN 0x104 1).setRegN a (leNat (slice args 8 4))
    | none => t.setRegN 0x104 1 := rfl
  rw [heff, hx]

/-- Settles O44. -/
theorem sapRequestsChangeTheFuses : Obligations.SapRequestsChangeTheFuses := by
  unfold Obligations.SapRequestsChangeTheFuses
  intro s buf k req args a s0 why hash runs h
  have hrun : runs → sapRequestDone s = sapEffect req args (challenged req s) := fun hr => by
    rw [sapRequestDone_eq h hr.1, if_neg (not_not.2 hr.2)]
  have hgo : runs → exec .sapRequestDone s = .next (sapEffect req args (challenged req s)) := fun hr =>
    next_congr (hrun hr)
  obtain ⟨hboot, hfuses, hmem, hpins, hreg⟩ := challenged_keeps req s
  have hlat := latched_challenged req s
  refine ⟨fun hfree => ?_, fun hbusy => ⟨⟨_, rfl, ?_⟩, ?_⟩, fun hreq hwhy => ⟨_, rfl, sapRefused h hreq hwhy⟩, ?_, ?_, ?_, ?_, ?_, ?_, ?_⟩
  · exact ⟨submits_of_free h hfree (by decide) (by decide) rfl, submits_of_free h hfree (by decide) (by decide) rfl,
      submits_of_free h hfree (by decide) (by decide) rfl, submits_of_free h hfree (by decide) (by decide) rfl,
      submits_of_free h hfree (by decide) (by decide) rfl, submits_of_free h hfree (by decide) (by decide) rfl,
      submits_of_free h hfree (by decide) (by decide) rfl⟩
  · exact sapRequestDone_free h
  · intro c hc
    simp only [List.mem_cons, List.not_mem_nil, or_false] at hc
    rcases hc with rfl | rfl | rfl | rfl | rfl | rfl | rfl <;> exact next_congr (sapRequest_busy hbusy _)
  · rintro hr rfl hl
    refine ⟨_, hgo hr, ?_⟩
    rw [← hfuses]
    generalize challenged req s = t at *
    exact sapEffect_resets _ (hpins ▸ pins_of_running h hl) (hlat.trans hl)
  · rintro hr rfl
    have hfull : s.fuses.prog ≠ 15 := fun hfull => by
      have hnone : argReason 2 args s = 0 := argReason_none hr.2
      rw [argReason, if_pos rfl, if_pos hfull] at hnone
      cases hnone
    obtain ⟨hlt, hfree, hused⟩ := firstFree_spec hfull
    refine ⟨_, _, hgo hr, hlt, hfree, hused, ?_⟩
    rw [← hfuses]
    generalize challenged req s = t at *
    exact ⟨reg_done_withFuses t _, rfl⟩
  · rintro hr rfl
    refine ⟨_, hgo hr, ?_⟩
    rw [← hfuses]
    generalize challenged req s = t at *
    exact ⟨reg_done_withFuses t _, rfl⟩
  · rintro hr rfl hl
    refine ⟨_, hgo hr, ?_⟩
    rw [← hfuses]
    generalize challenged req s = t at *
    exact sapEffect_resets _ (hpins ▸ pins_of_running h hl) (hlat.trans hl)
  · rintro hr rfl hl
    refine ⟨_, hgo hr, ?_⟩
    rw [← hfuses]
    generalize challenged req s = t at *
    exact sapEffect_resets _ (hpins ▸ pins_of_running h hl) (hlat.trans hl)
  · rintro hr rfl
    refine ⟨_, hgo hr, ?_⟩
    rw [← hfuses]
    generalize challenged req s = t at *
    exact ⟨reg_done_withFuses t _, rfl⟩
  · rintro hr rfl
    obtain ⟨x, hx, heff⟩ := sapEffect_set (s := s) (args := args) (argReason_none hr.2) (challenged req s)
    have hge := setTarget_ge hx
    refine ⟨_, x, (hgo hr).trans (next_congr heff), ?_⟩
    generalize challenged req s = t at *
    refine ⟨?_, hfuses, hx, reg_setReg_same _ x _⟩
    rw [reg_setRegN, if_neg (by omega)]
    exact reg_setReg_same t 0x104 _

end Sys2Proof.Proofs
end

section
/-!
PROOFS. Flash, event counters, snapshots and check values (O45).
-/

namespace Sys2Proof.Proofs
open Sys2Proof Sys2Proof.Machine Sys2Proof.Claims

set_option Elab.async false

/-! ## Registers of the ECB after reset -/

theorem regPlace_ecb {a : Nat} (h0 : 0x300000 ≤ a) (h1 : a < 0x400000) : regPlace a = (0x300000, ecbRows) := by
  unfold regPlace
  dsimp only
  repeat rw [if_neg (by omega)]
  rw [if_pos (by omega)]

/-- The reset value of the row that covers an address (R415). -/
def rowReset (a : Nat) : W64 := match regAt a with
  | some (_, r, _) => BitVec.ofNat 64 r.reset
  | none => 0

/-- The reset value of a register of the ECB is that of one of its rows. -/
theorem regReset_ecb (f : Fuses) {a : Nat} (h0 : 0x300000 ≤ a) (h1 : a < 0x400000) : regReset f a = 0 ∨
    ∃ r ∈ ecbRows, regReset f a = BitVec.ofNat 64 r.reset ∧ r.off ≤ a - 0x300000 ∧
      (a - 0x300000 - r.off) / r.stride < r.cnt := by
  have hplain : regReset f a = rowReset a := by
    unfold regReset
    repeat rw [if_neg (by omega)]
    rfl
  rw [hplain]
  unfold rowReset regAt
  simp only [regPlace_ecb h0 h1]
  cases hf : ecbRows.find? (fun r => decide (r.off ≤ a - 0x300000) && decide ((a - 0x300000 - r.off) / r.stride < r.cnt) &&
      decide ((a - 0x300000 - r.off) % r.stride < r.w)) with
  | none => exact .inl rfl
  | some r =>
    have hsat := List.find?_some hf
    simp only [Bool.and_eq_true, decide_eq_true_eq] at hsat
    exact .inr ⟨r, List.mem_of_find?_eq_some hf, rfl, hsat.1.1, hsat.1.2⟩

theorem ecbRows_select : ∀ r ∈ ecbRows, r.reset.testBit 10 = false := by decide

theorem ecbRows_counters : ∀ r ∈ ecbRows, r.reset ≠ 0 → r.stride ≠ 0 ∧ r.off + r.stride * r.cnt ≤ 0x2000 := by decide

theorem bit_ofNat {n i : Nat} (hi : i < 64) : bit (BitVec.ofNat 64 n).toNat i = n.testBit i := by
  rw [bit, BitVec.toNat_ofNat, Nat.testBit_mod_two_pow]
  simp [hi]

/-- A select register starts disabled (R382). -/
theorem regReset_select (f : Fuses) {k : Nat} (hk : k < 256) : bit (regReset f (0x301000 + 8 * k)).toNat 10 = false := by
  obtain h | ⟨r, hr, h, -⟩ := regReset_ecb f (a := 0x301000 + 8 * k) (by omega) (by omega)
  · rw [h]
    rfl
  · rw [h, bit_ofNat (by decide)]
    exact ecbRows_select r hr

/-- A counter starts at 0. -/
theorem regReset_counter (f : Fuses) {k : Nat} (hk : k < 256) : regReset f (0x302000 + 8 * k) = 0 := by
  obtain h | ⟨r, hr, h, hoff, hcnt⟩ := regReset_ecb f (a := 0x302000 + 8 * k) (by omega) (by omega)
  · exact h
  · by_cases hz : r.reset = 0
    · rw [h, hz]
      rfl
    · obtain ⟨hstride, hend⟩ := ecbRows_counters r hr hz
      rw [Nat.div_lt_iff_lt_mul (Nat.pos_of_ne_zero hstride)] at hcnt
      have hcomm := Nat.mul_comm r.stride r.cnt
      omega

theorem regN_counter (s : State) {k : Nat} (hk : k < 256) : s.regN (0x302000 + 8 * k) =
    (tabOr s.csr (0x302000 + 8 * k) 0).toNat := by
  rw [State.regN, State.reg, regReset_counter _ hk]
  rfl

/-! ## Counting events -/

theorem tabOr_tabAdd (t : Tab Nat) (j k n : Nat) : tabOr (tabAdd t j n) k 0 = tabOr t k 0 + if k = j then n else 0 := by
  rw [tabAdd, tabOr, tabGet_tabSet]
  split
  · next h => rw [h]; rfl
  · rfl

/-- One increment for each select register listed. -/
theorem tabOr_foldl_tabAdd (n k : Nat) : ∀ (l : Tab W64) (t : Tab Nat), tabSorted l = true →
    (∀ e ∈ l, 0x301000 ≤ e.1 ∧ e.1 % 8 = 0) →
    tabOr (l.foldl (fun t e => tabAdd t ((e.1 - 0x301000) / 8) n) t) k 0 =
      tabOr t k 0 + if (tabGet l (0x301000 + 8 * k)).isSome then n else 0
  | [], t, _, _ => by simp [tabGet]
  | e :: l, t, hs, h => by
    obtain ⟨ha, hs⟩ := (tabSorted_cons e l).1 hs
    obtain ⟨hge, hmod⟩ := h e List.mem_cons_self
    rw [List.foldl_cons, tabOr_foldl_tabAdd n k l _ hs fun x hx => h x (List.mem_cons_of_mem e hx), tabOr_tabAdd]
    by_cases hk : e.1 = 0x301000 + 8 * k
    · have hnone : tabGet l (0x301000 + 8 * k) = none := tabGet_below _ l (hk ▸ ha)
      have hsome : tabGet (e :: l) (0x301000 + 8 * k) = some e.2 := by rw [← hk]; simp [tabGet]
      rw [hnone, hsome, if_pos (by omega)]
      rfl
    · have hsame : tabGet (e :: l) (0x301000 + 8 * k) = tabGet l (0x301000 + 8 * k) := by simp [tabGet, hk]
      rw [hsame, if_neg (by omega), Nat.add_zero]

/-- R382: what one event adds to counter `k`. -/
theorem tabOr_ecbStep (s : State) (hs : tabSorted s.csr = true) (t : Tab Nat) (o : Occ) {k : Nat} (hk : k < 256) :
    tabOr (ecbStep s.csr t o) k 0 =
      tabOr t k 0 + if ecbMatch (s.regN (0x301000 + 8 * k)) o.src o.port o.tc o.grp then o.n else 0 := by
  unfold ecbStep
  rw [tabOr_foldl_tabAdd _ _ _ _ (tabSorted_filter _ _ hs), tabGet_filterE _ _ _ hs]
  · have hiff : ((tabGet s.csr (0x301000 + 8 * k)).filter (fun v => decide (0x301000 ≤ 0x301000 + 8 * k) &&
        decide (0x301000 + 8 * k < 0x301800) && (0x301000 + 8 * k) % 8 == 0 && ecbMatch v.toNat o.src o.port o.tc o.grp)).isSome =
        ecbMatch (s.regN (0x301000 + 8 * k)) o.src o.port o.tc o.grp := by
      have h1 : decide (0x301000 ≤ 0x301000 + 8 * k) = true := by simp
      have h2 : decide (0x301000 + 8 * k < 0x301800) = true := decide_eq_true (by omega)
      have h3 : ((0x301000 + 8 * k) % 8 == 0) = true := beq_iff_eq.2 (by omega)
      rw [State.regN, State.reg]
      simp only [h1, h2, h3, Bool.true_and]
      cases tabGet s.csr (0x301000 + 8 * k) with
      | none =>
        unfold ecbMatch
        rw [Option.getD_none, regReset_select _ hk]
        rfl
      | some v => cases hm : ecbMatch v.toNat o.src o.port o.tc o.grp <;> simp [Option.filter, hm]
    rw [hiff]
  · intro e he
    simp only [List.mem_filter, Bool.and_eq_true, decide_eq_true_eq, beq_iff_eq] at he
    omega

theorem tabOr_ecbSteps (s : State) (hs : tabSorted s.csr = true) {k : Nat} (hk : k < 256) : ∀ (l : List Occ) (t : Tab Nat),
    tabOr (l.foldl (ecbStep s.csr) t) k 0 = tabOr t k 0 + ((l.filter (fun o =>
      ecbMatch (s.regN (0x301000 + 8 * k)) o.src o.port o.tc o.grp)).map (fun o => o.n)).sum
  | [], t => by simp
  | o :: l, t => by
    rw [List.foldl_cons, tabOr_ecbSteps s hs hk l, tabOr_ecbStep s hs t o hk, List.filter_cons]
    cases ecbMatch (s.regN (0x301000 + 8 * k)) o.src o.port o.tc o.grp
    · simp
    · simp [Nat.add_assoc]

theorem tabGet_of_not_mem {α : Type} {k : Nat} : ∀ {t : Tab α}, k ∉ t.map Prod.fst → tabGet t k = none
  | [], _ => rfl
  | e :: t, h => by
    simp only [List.map_cons, List.mem_cons, not_or] at h
    simp [tabGet, Ne.symm h.1, tabGet_of_not_mem h.2]

/-- R382: what a cycle's increments, one a counter, do to counter `k`. -/
theorem ecbAddAll_counter_of_nodup {k : Nat} (hk : k < 256) : ∀ (t : Tab Nat) (c : Tab W64), (t.map Prod.fst).Nodup →
    (∀ e ∈ t, e.1 < 256) →
    tabOr (ecbAddAll c t) (0x302000 + 8 * k) 0 = tabOr c (0x302000 + 8 * k) 0 + BitVec.ofNat 64 (tabOr t k 0)
  | [], c, _, _ => by simp [ecbAddAll, tabOr, tabGet]
  | e :: t, c, hs, h => by
    obtain ⟨hnot, hs⟩ := List.nodup_cons.1 hs
    have hrest := ecbAddAll_counter_of_nodup hk t (ecbAdd c e.1 e.2) hs fun x hx => h x (List.mem_cons_of_mem e hx)
    have hcons : ecbAddAll c (e :: t) = ecbAddAll (ecbAdd c e.1 e.2) t := rfl
    rw [hcons, hrest, ecbAdd_counter c e.1 e.2 k (h e List.mem_cons_self) hk]
    by_cases he : e.1 = k
    · have hnone : tabGet t k = none := tabGet_of_not_mem (he ▸ hnot)
      simp [tabOr, tabGet, he, hnone]
    · simp [tabOr, tabGet, he]

/-- R383: increments of 16 cycles ago reach their counters. -/
theorem ecbEndCycle_adds {s : State} {t : Tab Nat} {old : Nat} (hp : s.ecbPend = (old, t) :: []) (hnow : old + 16 = s.now)
    (hnone : ecbSteps s.csr s.evts = []) (ht : ∀ x ∈ t, x.1 < 256) (hnd : (t.map Prod.fst).Nodup) :
    (ecbEndCycle s).evts = [] ∧ (ecbEndCycle s).ecbPend = [] ∧ ∀ k, k < 256 →
      (ecbEndCycle s).regN (0x302000 + 8 * k) = (s.regN (0x302000 + 8 * k) + tabOr t k 0) % 2 ^ 64 := by
  have hcsr : (ecbEndCycle s).csr = ecbAddAll s.csr t := by
    unfold ecbEndCycle
    simp [hnone, hp, hnow]
  refine ⟨rfl, ?_, fun k hk => ?_⟩
  · unfold ecbEndCycle
    simp [hnone, hp, hnow]
  · rw [regN_counter _ hk, regN_counter _ hk, hcsr, ecbAddAll_counter_of_nodup hk _ _ hnd ht, BitVec.toNat_add,
      BitVec.toNat_ofNat, Nat.add_mod_mod]

/-! ## Snapshots -/

/-- The entries of a counter bank, written at their shifted addresses. -/
theorem tabGet_foldl_shift (base x : Nat) : ∀ (l keep : Tab W64), tabSorted l = true → (∀ e ∈ l, 0x302000 ≤ e.1) →
    tabGet ((l.map (fun e => (e.1 - 0x302000 + base, e.2))).foldl (fun t e => tabSet t e.1 e.2) keep) (x + base) =
      (tabGet l (0x302000 + x)).or (tabGet keep (x + base))
  | [], keep, _, _ => rfl
  | e :: l, keep, hs, h => by
    obtain ⟨ha, hs⟩ := (tabSorted_cons e l).1 hs
    have hge := h e List.mem_cons_self
    rw [List.map_cons, List.foldl_cons, tabGet_foldl_shift base x l _ hs fun y hy => h y (List.mem_cons_of_mem e hy),
      tabGet_tabSet]
    by_cases hk : e.1 = 0x302000 + x
    · have hnone : tabGet l (0x302000 + x) = none := tabGet_below _ l (hk ▸ ha)
      have hsome : tabGet (e :: l) (0x302000 + x) = some e.2 := by rw [← hk]; simp [tabGet]
      rw [hnone, hsome, if_pos (by omega)]
      rfl
    · have hsame : tabGet (e :: l) (0x302000 + x) = tabGet l (0x302000 + x) := by simp [tabGet, hk]
      rw [hsame, if_neg (by omega)]

theorem tabGet_foldl_tabSet_ne {α : Type} (a : Nat) : ∀ (l keep : Tab α), (∀ e ∈ l, e.1 ≠ a) →
    tabGet (l.foldl (fun t e => tabSet t e.1 e.2) keep) a = tabGet keep a
  | [], _, _ => rfl
  | e :: l, keep, h => by
    rw [List.foldl_cons, tabGet_foldl_tabSet_ne a l _ fun y hy => h y (List.mem_cons_of_mem e hy), tabGet_tabSet,
      if_neg (h e List.mem_cons_self).symm]

theorem tabGet_copyBank {c : Tab W64} (hs : tabSorted c = true) (base : Nat) {k : Nat} (hk : k < 256) :
    tabGet (copyBank c c base) (base + 8 * k) = tabGet c (0x302000 + 8 * k) := by
  unfold copyBank
  dsimp only
  rw [Nat.add_comm base (8 * k), tabGet_foldl_shift _ _ _ _ (tabSorted_filter _ _ hs) fun e he => ?_, tabGet_filterE _ _ _ hs,
    tabGet_filterE _ _ _ hs]
  · have hout : (tabGet c (8 * k + base)).filter (fun _ => !(decide (base ≤ 8 * k + base) &&
        decide (8 * k + base < base + 0x800))) = none := by
      have h1 : decide (base ≤ 8 * k + base) = true := decide_eq_true (by omega)
      have h2 : decide (8 * k + base < base + 0x800) = true := decide_eq_true (by omega)
      rw [h1, h2]
      cases tabGet c (8 * k + base) <;> rfl
    have hin : (tabGet c (0x302000 + 8 * k)).filter (fun _ => decide (0x302000 ≤ 0x302000 + 8 * k) &&
        decide (0x302000 + 8 * k < 0x302800)) = tabGet c (0x302000 + 8 * k) := by
      have h1 : decide (0x302000 ≤ 0x302000 + 8 * k) = true := decide_eq_true (by omega)
      have h2 : decide (0x302000 + 8 * k < 0x302800) = true := decide_eq_true (by omega)
      rw [h1, h2]
      cases tabGet c (0x302000 + 8 * k) <;> rfl
    rw [hout, hin, Option.or_none]
  · simp only [List.mem_filter, Bool.and_eq_true, decide_eq_true_eq] at he
    exact he.2.1

theorem tabGet_copyBank_ne {c : Tab W64} (hs : tabSorted c = true) {base a : Nat} (ha : a < base ∨ base + 0x800 ≤ a) :
    tabGet (copyBank c c base) a = tabGet c a := by
  unfold copyBank
  dsimp only
  rw [tabGet_foldl_tabSet_ne, tabGet_filterE _ _ _ hs]
  · have hkeep : (!(decide (base ≤ a) && decide (a < base + 0x800))) = true := by simp; omega
    simp only [hkeep]
    cases tabGet c a <;> rfl
  · intro e he
    simp only [List.mem_map, List.mem_filter, Bool.and_eq_true, decide_eq_true_eq] at he
    obtain ⟨x, ⟨-, hge, hlt⟩, rfl⟩ := he
    dsimp only
    omega

/-- R386: what a snapshot leaves. -/
theorem snapshotNow_copies {s : State} (h : held s = false) (hs : tabSorted s.csr = true) (hp : s.ecbPend = [])
    (hnow : s.rack.snapAt ≠ some s.now) :
    let bank := 1 - s.field 0x300010 0 0
    let u := snapshotNow s
    u.field 0x300010 0 0 = bank ∧ u.field 0x300010 1 1 = 1 ∧
    u.field 0x300010 31 16 = (s.field 0x300010 31 16 + 1) % 65536 ∧ u.reg (0x300018 + 8 * bank) = s.reg 0x48 ∧
    ∀ k, k < 256 → tabGet u.csr (0x303000 + bank * 0x800 + 8 * k) = tabGet s.csr (0x302000 + 8 * k) ∧
      tabGet u.csr (0x302000 + 8 * k) = tabGet s.csr (0x302000 + 8 * k) := by
  intro bank u
  have hbank : bank < 2 := by omega
  have hu : u = (({ s with csr := copyBank s.csr s.csr (0x303000 + bank * 0x800)
                           rack := { s.rack with snapAt := some s.now } } : State).setRegN 0x300010
      (bank + 2 + (s.field 0x300010 31 16 + 1) % 2 ^ 16 * 2 ^ 16)).setReg (0x300018 + bank * 8) (s.reg 0x48) := by
    have hfalse : (s.rack.snapAt == some s.now) = false := by simpa using hnow
    have hfull : ecbFull s = s.csr := by unfold ecbFull; rw [hp]; rfl
    unfold u snapshotNow snapshot
    rw [if_neg (by simp [h]), hfalse]
    simp only [Bool.and_false, Bool.false_and, Bool.false_eq_true, if_false]
    unfold snapshotTo
    rw [hfull]
    rfl
  have hfield : ∀ hi lo, hi < 64 → lo ≤ hi → u.field 0x300010 hi lo =
      bits (bank + 2 + (s.field 0x300010 31 16 + 1) % 2 ^ 16 * 2 ^ 16) hi lo := fun hi lo hhi hlo => by
    rw [hu, State.field, State.regN, reg_setReg, if_neg (by omega)]
    exact field_setRegN_same hhi hlo
  have hcsr : ∀ a, a ≠ 0x300010 → a ≠ 0x300018 + bank * 8 → tabGet u.csr a =
      tabGet (copyBank s.csr s.csr (0x303000 + bank * 0x800)) a := fun a h1 h2 => by
    rw [hu, State.setReg, tabGet_tabSet, if_neg h2, State.setRegN, State.setReg, tabGet_tabSet, if_neg h1]
  refine ⟨?_, ?_, ?_, ?_, fun k hk => ⟨?_, ?_⟩⟩
  · rw [hfield 0 0 (by decide) (by decide), bits]
    omega
  · rw [hfield 1 1 (by decide) (by decide), bits]
    omega
  · rw [hfield 31 16 (by decide) (by decide), bits]
    omega
  · rw [hu, Nat.mul_comm 8 bank]
    exact reg_setReg_same _ _ _
  · rw [hcsr _ (by omega) (by omega)]
    exact tabGet_copyBank hs _ hk
  · rw [hcsr _ (by omega) (by omega)]
    exact tabGet_copyBank_ne hs (by omega)

/-! ## Flash -/

section
variable {s : State} {op a len : Nat} {data : List Byte}

theorem nvmCommand_taken (h : held s = false) (hop : op ≤ 2) (hwhy : nvmReason op s = 0) :
    (nvmCommand op s).reg 0xA000010 = 4 ∧ (nvmCommand op s).boot.nvmOp = some (op, s.regN 0xA000008, s.regN 0xA00000C,
      if op = 2 then regBytes s 0xA001000 (s.regN 0xA00000C) else []) ∧ (nvmCommand op s).flash = s.flash := by
  unfold nvmCommand
  rw [if_neg (by simp [h, hop]), hwhy]
  exact ⟨reg_setReg_same s 0xA000010 _, rfl, rfl⟩

theorem nvmCommand_refused (h : held s = false) (hop : op ≤ 2) (hwhy : nvmReason op s ≠ 0) :
    (nvmCommand op s).reg 0xA000010 =
      BitVec.ofNat 64 (2 + (if s.boot.nvmOp.isSome then 4 else 0) + 16 * nvmReason op s) ∧
    (nvmCommand op s).boot = s.boot ∧ (nvmCommand op s).flash = s.flash := by
  unfold nvmCommand
  rw [if_neg (by simp [h, hop])]
  dsimp only
  rw [if_pos hwhy]
  refine ⟨(reg_setReg_same s 0xA000010 _).trans ?_, rfl, rfl⟩
  rw [Nat.mul_comm 16]
  cases s.boot.nvmOp.isSome <;> rfl

theorem nvmDone_eq (h : held s = false) (hop : s.boot.nvmOp = some (op, a, len, data)) (ok : Bool) :
    nvmDone ok s =
      let t := { s with boot := { s.boot with nvmOp := none } }
      if !ok then t.setRegN 0xA000010 (2 + 4 * 16)
      else if op = 0 then setRegBytes 0xA001000 (cellRead 0xFF s.flash a len) (t.setRegN 0xA000010 1)
      else if op = 1 then { t.setRegN 0xA000010 1 with flash := cellClear s.flash (a / 65536 * 65536) 65536 }
      else { t.setRegN 0xA000010 1 with flash := cellWrite 0xFF s.flash a data } := by
  unfold nvmDone
  rw [hop]
  dsimp only
  rw [if_neg (by simp [h])]
  rfl

end

/-- Word `i` of a buffer into which `bs` is put, over the word `old`. -/
def bufWord (bs : List Byte) (i old : Nat) : List Byte :=
  slice bs (8 * i) 8 ++ (leBytes 8 old).drop (slice bs (8 * i) 8).length

theorem leBytes_length (n v : Nat) : (leBytes n v).length = n := by
  induction n generalizing v with
  | zero => rfl
  | succ n ih => simp [leBytes, ih]

theorem leBytes_leNat : ∀ bs : List Byte, leBytes bs.length (leNat bs) = bs
  | [] => rfl
  | b :: bs => by
    have hb := b.isLt
    have hdiv : (b.toNat + 256 * leNat bs) / 256 = leNat bs := by omega
    rw [List.length_cons, leBytes, leNat, hdiv, leBytes_leNat bs]
    congr 1
    exact BitVec.eq_of_toNat_eq (by rw [BitVec.toNat_ofNat]; omega)

theorem leNat_lt : ∀ bs : List Byte, leNat bs < 256 ^ bs.length
  | [] => by simp [leNat]
  | b :: bs => by
    have hb := b.isLt
    have := leNat_lt bs
    rw [List.length_cons, leNat, Nat.pow_succ]
    omega

theorem bufWord_length (bs : List Byte) (i old : Nat) : (bufWord bs i old).length = 8 := by
  have hle : (slice bs (8 * i) 8).length ≤ 8 := by simp [slice]
  rw [bufWord, List.length_append, List.length_drop, leBytes_length]
  omega

theorem regN_setRegBytes (base : Nat) (bs : List Byte) (s : State) {i : Nat} (hi : i < ceilDiv bs.length 8) :
    (setRegBytes base bs s).regN (base + 8 * i) = leNat (bufWord bs i (s.regN (base + 8 * i))) := by
  have hfold : ∀ m i, ((List.range m).foldl (fun s i => s.setRegN (base + 8 * i)
      (leNat (slice bs (8 * i) 8 ++ (leBytes 8 (s.regN (base + 8 * i))).drop (slice bs (8 * i) 8).length))) s).regN
        (base + 8 * i) = if i < m then leNat (bufWord bs i (s.regN (base + 8 * i))) else s.regN (base + 8 * i) := by
    intro m
    induction m with
    | zero => exact fun _ => rfl
    | succ m ih =>
      intro i
      have hlt := leNat_lt (bufWord bs m (s.regN (base + 8 * m)))
      rw [bufWord_length] at hlt
      rw [List.range_succ, List.foldl_append, List.foldl_cons, List.foldl_nil, regN_setRegN, ih, ih]
      by_cases him : i = m
      · subst him
        rw [if_pos rfl, if_neg (Nat.lt_irrefl i), if_pos (Nat.lt_succ_self i)]
        exact Nat.mod_eq_of_lt hlt
      · rw [if_neg (by omega)]
        by_cases hlt : i < m
        · rw [if_pos hlt, if_pos (by omega)]
        · rw [if_neg hlt, if_neg (by omega)]
  exact (hfold _ i).trans (if_pos hi)

/-- The words of a buffer begin with the bytes put into it. -/
theorem flatMap_bufWord (bs : List Byte) (old : Nat → Nat) : ∀ j, 8 * j < bs.length + 8 →
    ∃ rest, (List.range j).flatMap (fun i => bufWord bs i (old i)) = bs.take (8 * j) ++ rest ∧
      (8 * j ≤ bs.length → rest = [])
  | 0, _ => ⟨[], rfl, fun _ => rfl⟩
  | j + 1, hj => by
    obtain ⟨rest, heq, hrest⟩ := flatMap_bufWord bs old j (by omega)
    obtain rfl := hrest (by omega)
    refine ⟨(leBytes 8 (old j)).drop (slice bs (8 * j) 8).length, ?_, fun hle => ?_⟩
    · rw [List.range_succ, List.flatMap_append, heq, List.flatMap_singleton, bufWord, List.append_nil, slice,
        ← List.append_assoc, ← List.take_add]
      rfl
    · have hlen : (slice bs (8 * j) 8).length = 8 := by
        rw [slice, List.length_take, List.length_drop]
        omega
      rw [hlen, List.drop_eq_nil_of_le (Nat.le_of_eq (leBytes_length 8 _))]

/-- The registers of a buffer hold the bytes put there. -/
theorem regBytes_setRegBytes (base : Nat) (bs : List Byte) (s : State) :
    regBytes (setRegBytes base bs s) base bs.length = bs := by
  obtain ⟨m, hm⟩ : ∃ m, m = ceilDiv bs.length 8 := ⟨_, rfl⟩
  have hend : bs.length ≤ 8 * m ∧ 8 * m < bs.length + 8 := by
    rw [ceilDiv] at hm
    omega
  have hwords : (List.range m).flatMap (fun i => leBytes 8 ((setRegBytes base bs s).regN (base + 8 * i))) =
      (List.range m).flatMap (fun i => bufWord bs i (s.regN (base + 8 * i))) := by
    refine List.flatMap_congr fun i hi => ?_
    rw [regN_setRegBytes _ _ _ (hm ▸ List.mem_range.1 hi)]
    have h8 := leBytes_leNat (bufWord bs i (s.regN (base + 8 * i)))
    rwa [bufWord_length] at h8
  obtain ⟨rest, heq, -⟩ := flatMap_bufWord bs (fun i => s.regN (base + 8 * i)) m hend.2
  rw [regBytes, ← hm, hwords, heq, List.take_of_length_le hend.1, List.take_left']
  rfl

/-! ## Check values -/

theorem cvu_ne (n : Fin 8) : cvuBase n.val ≠ cvuBase n.val + 0x10 := by omega

theorem onlyReg_setReg (s : State) (a : Nat) (v : W64) : OnlyReg s (s.setReg a v) a v :=
  ⟨reg_setReg_same s a v, fun b hb => (reg_setReg s a b v).trans (if_neg hb)⟩

theorem leBytes_byte (b : BitVec 8) : leBytes 1 b.toNat = [b] := by
  simp [leBytes]

theorem leBytes_two (h : BitVec 16) : leBytes 2 h.toNat = [h.setWidth 8, (h >>> 8).setWidth 8] := by
  simp only [leBytes, List.cons.injEq, and_true]
  refine ⟨BitVec.eq_of_toNat_eq (by simp), BitVec.eq_of_toNat_eq ?_⟩
  simp [Nat.shiftRight_eq_div_pow]

theorem leBytes_four (v : W32) : leBytes 4 v.toNat =
    [v.setWidth 8, (v >>> 8).setWidth 8, (v >>> 16).setWidth 8, (v >>> 24).setWidth 8] := by
  simp only [leBytes, List.cons.injEq, and_true]
  refine ⟨BitVec.eq_of_toNat_eq (by simp), BitVec.eq_of_toNat_eq ?_, BitVec.eq_of_toNat_eq ?_, BitVec.eq_of_toNat_eq ?_⟩
  · simp [Nat.shiftRight_eq_div_pow]
  · simp [Nat.shiftRight_eq_div_pow, Nat.div_div_eq_div_mul]
  · simp [Nat.shiftRight_eq_div_pow, Nat.div_div_eq_div_mul]

theorem setRegBytes_shape (base : Nat) (bs : List Byte) (s : State) : ∃ c, setRegBytes base bs s = { s with csr := c } :=
  foldl_invariant (P := fun t : State => ∃ c, t = { s with csr := c }) (by rintro t x ⟨c, rfl⟩; exact ⟨_, rfl⟩)
    ⟨s.csr, rfl⟩

theorem nvmDone_read {s : State} {a len : Nat} {data : List Byte} (h : held s = false)
    (hop : s.boot.nvmOp = some (0, a, len, data)) : (nvmDone true s).flash = s.flash ∧ (nvmDone true s).boot.nvmOp = none ∧
      regBytes (nvmDone true s) 0xA001000 len = cellRead 0xFF s.flash a len := by
  have hlen : (cellRead 0xFF s.flash a len).length = len := cellRead_length _ _ _ _
  rw [nvmDone_eq h hop]
  simp only [Bool.not_true, Bool.false_eq_true, if_false, if_true]
  generalize hbs : cellRead 0xFF s.flash a len = bs at *
  generalize ht : ({ s with boot := { s.boot with nvmOp := none } } : State).setRegN 0xA000010 1 = t
  have hkeep : t.flash = s.flash ∧ t.boot.nvmOp = none := by rw [← ht]; exact ⟨rfl, rfl⟩
  obtain ⟨c, hc⟩ := setRegBytes_shape 0xA001000 bs t
  refine ⟨?_, ?_, ?_⟩
  · rw [hc]; exact hkeep.1
  · rw [hc]; exact hkeep.2
  · rw [← hlen]
    exact regBytes_setRegBytes _ _ _

theorem snapshotNow_again {s : State} (hnow : s.rack.snapAt = some s.now) (hlast : s.field 0x300010 1 1 = 0) :
    snapshotNow s = s := by
  have hbit : bit (s.regN 0x300010) 1 = false := by
    rw [State.field, bits] at hlast
    rw [bit, Nat.testBit_eq_decide_div_mod_eq]
    exact decide_eq_false (by omega)
  unfold snapshotNow snapshot
  split
  · rfl
  · dsimp only
    rw [hnow, hbit]
    simp

theorem cvu_unchanged {s : State} {n : Nat} {v : W64} (h : held s = false) :
    OnlyReg s (cvuVal n v s) (cvuBase n + 0x10) (v &&& cvuMask (s.field (cvuBase n) 1 0)) := by
  unfold cvuVal
  rw [if_neg (by simp [h])]
  exact onlyReg_setReg _ _ _

theorem cvuFeed_feeds {s : State} {n : Nat} (bs : List Byte) (h : held s = false) : OnlyReg s (cvuFeed n bs s)
    (cvuBase n + 0x10) (bs.foldl (cvuByte (s.field (cvuBase n) 1 0)) (s.reg (cvuBase n + 0x10))) := by
  unfold cvuFeed
  rw [if_neg (by simp [h])]
  exact onlyReg_setReg _ _ _

theorem cvuInit_sets {s : State} {n : Nat} (h : held s = false) : OnlyReg s (cvuInit n s) (cvuBase n + 0x10)
    (cvuInitial (s.field (cvuBase n) 1 0)) := by
  unfold cvuInit
  rw [if_neg (by simp [h])]
  exact onlyReg_setReg _ _ _

theorem held_setRegN {s : State} {a v : Nat} (ha : 0x200018 ≠ a) : held (s.setRegN a v) = held s := by
  have hreg : (s.setRegN a v).regN 0x200018 = s.regN 0x200018 := (regN_setRegN s a 0x200018 v).trans (if_neg ha)
  rw [held, held, latched, latched, hreg]
  rfl

theorem cvuConfig_sets {s : State} {n : Nat} (v : Nat) (h : held s = false) :
    let u := cvuConfig n v s
    u.reg (cvuBase n) = BitVec.ofNat 64 (v % 4) ∧ u.reg (cvuBase n + 0x10) = cvuInitial (v % 4) ∧
      ∀ x, x ≠ cvuBase n → x ≠ cvuBase n + 0x10 → u.reg x = s.reg x := by
  intro u
  have hcfg : (s.setRegN (cvuBase n) (v % 4)).reg (cvuBase n) = BitVec.ofNat 64 (v % 4) := reg_setReg_same s _ _
  have hpoly : (s.setRegN (cvuBase n) (v % 4)).field (cvuBase n) 1 0 = v % 4 :=
    field_of_reg hcfg (Nat.mod_lt _ (by decide)) (by decide)
  have hne : 0x200018 ≠ cvuBase n := by rw [cvuBase]; omega
  obtain ⟨hval, hother⟩ := cvuInit_sets (n := n) ((held_setRegN (v := v % 4) hne).trans h)
  rw [hpoly] at hval
  unfold u cvuConfig
  rw [if_neg (by simp [h])]
  refine ⟨(hother _ (by omega)).trans hcfg, hval, fun x h1 h2 => ?_⟩
  rw [hother x h2, reg_setRegN, if_neg h1]

/-- Settles O45. -/
theorem flashSnapshotsAndCheckValues : Obligations.FlashSnapshotsAndCheckValues := by
  unfold Obligations.FlashSnapshotsAndCheckValues
  intro s op a len data n v w b h val poly feed bank hheld
  have hcmd : ∀ c, [Instr.nvmRead, .nvmErase, .nvmProgram][op]? = some c →
      op ≤ 2 ∧ exec c s = .next (nvmCommand op s) := by
    intro c hc
    have hlt : op < 3 := (List.getElem?_eq_some_iff.1 hc).1
    interval_cases op <;> cases hc <;> exact ⟨by decide, rfl⟩
  refine ⟨?_, ?_, ?_, ?_, ?_, ?_, ?_, ?_, ?_, ?_, ?_, ?_, ?_, ?_, ?_, ?_, ?_⟩
  · intro c hc hwhy
    obtain ⟨hop, hexec⟩ := hcmd c hc
    exact ⟨_, hexec, nvmCommand_taken hheld hop hwhy⟩
  · intro c hc hwhy
    obtain ⟨hop, hexec⟩ := hcmd c hc
    exact ⟨_, hexec, nvmCommand_refused hheld hop hwhy⟩
  · intro hop
    refine ⟨_, rfl, ?_⟩
    rw [nvmDone_eq hheld hop]
    exact ⟨reg_setReg_same _ 0xA000010 _, rfl, rfl⟩
  · exact fun hop => ⟨_, rfl, nvmDone_read hheld hop⟩
  · intro hop
    refine ⟨_, rfl, ?_⟩
    rw [nvmDone_eq hheld hop]
    refine ⟨reg_setReg_same _ 0xA000010 _, fun x => ?_⟩
    change cellGet 0xFF (cellClear s.flash _ _) x = _
    rw [cellGet_cellClear]
    refine if_congr ⟨fun hx => ?_, fun hx => ?_⟩ rfl rfl <;> omega
  · intro hop
    refine ⟨_, rfl, ?_⟩
    rw [nvmDone_eq hheld hop]
    exact ⟨reg_setReg_same _ 0xA000010 _, fun x => cellGet_cellWrite 0xFF data s.flash a x⟩
  · exact fun hs hp hnow => ⟨_, rfl, snapshotNow_copies hheld hs hp hnow⟩
  · exact fun hnow hlast => next_congr (snapshotNow_again hnow hlast)
  · intro hs k hk
    rw [ecbSteps]
    split
    · exact (tabOr_ecbSteps s hs hk s.evts []).trans (Nat.zero_add _)
    · rfl
  · exact fun t old _ hp hnow hnone ht hnd => ecbEndCycle_adds hp hnow hnone ht hnd
  · intro hp hsteps
    have hempty : (ecbSteps s.csr s.evts).isEmpty = false := by simpa using hsteps
    unfold ecbEndCycle
    simp [hempty, hp]
  · exact ⟨_, rfl, cvuInit_sets hheld⟩
  · exact ⟨_, rfl, cvuConfig_sets v.toNat hheld⟩
  · exact ⟨_, rfl, leBytes_byte b ▸ cvuFeed_feeds (leBytes 1 b.toNat) hheld⟩
  · exact ⟨_, rfl, leBytes_two h ▸ cvuFeed_feeds (leBytes 2 h.toNat) hheld⟩
  · exact ⟨_, rfl, leBytes_four v ▸ cvuFeed_feeds (leBytes 4 v.toNat) hheld⟩
  · exact ⟨_, rfl, cvu_unchanged hheld⟩

end Sys2Proof.Proofs
end

section
/-!
PROOFS. Pins, supplies and clocks (O47).
-/

namespace Sys2Proof.Proofs
open Sys2Proof Sys2Proof.Machine Sys2Proof.Claims

set_option Elab.async false

/-! ## What pins do to the hold -/

theorem resetState_heldEmpty {c : Nat} (hc : c < 4) {s : State}
    (h : (s.pins.railsOk && s.pins.rstN && !s.pins.testEn) = false) : HeldEmpty s (resetState c none s) c := by
  have hzero : ∀ f, regReset f 0xA0 = 0 := fun f => rfl
  refine ⟨?_, reset_cause hc s, ?_, rfl, rfl, rfl, rfl, rfl, rfl, rfl⟩
  · rw [held_resetState, h]
    rfl
  · rw [bootState, State.field, State.regN, reg_resetState_ne (by decide) (by decide), hzero]
    rfl

theorem chipReset_heldEmpty {c : Nat} (hc : c < 4) {s : State}
    (h : (s.pins.railsOk && s.pins.rstN && !s.pins.testEn) = false) :
    HeldEmpty s (chipReset c none s) c ∧ (chipReset c none s).pins = s.pins := by
  rw [chipReset_held h]
  exact ⟨resetState_heldEmpty hc h, rfl⟩

theorem pins_chipReset (c : Nat) (fault : Option (Nat × Nat × Bool)) (s : State) : (chipReset c fault s).pins = s.pins := by
  unfold chipReset
  dsimp only
  split <;> rfl

theorem held_of_pins {s : State} (h : (s.pins.railsOk && s.pins.rstN && !s.pins.testEn) = true) : held s = false := by
  unfold held
  revert h
  cases s.pins.railsOk <;> cases s.pins.rstN <;> cases s.pins.testEn <;> simp

theorem rstNAssert_pins (s : State) : (rstNAssert s).pins = { s.pins with rstN := false } := by
  unfold rstNAssert
  dsimp only
  split
  · rfl
  · exact pins_chipReset _ _ _

theorem testEnAssert_pins (s : State) : (testEnAssert s).pins = { s.pins with testEn := true } := by
  unfold testEnAssert
  dsimp only
  split
  · rfl
  · exact pins_chipReset _ _ _

theorem rstNRelease_pins (straps : Straps) (s : State) :
    (rstNRelease straps s).pins = { s.pins with rstN := true, straps := straps } := by
  unfold rstNRelease
  dsimp only
  split <;> rfl

theorem testEnRelease_pins (s : State) : (testEnRelease s).pins = { s.pins with testEn := false } := by
  unfold testEnRelease
  dsimp only
  split <;> rfl

theorem railsAbove_pins (s : State) : (railsAbove s).pins = { s.pins with railsOk := true } := by
  unfold railsAbove
  dsimp only
  split <;> rfl

/-! ## Clocks -/

/-- A field of one bit. -/
theorem bits_bit (v n : Nat) : bits v n n = b2n (bit v n) := by
  rw [bits, bit, Nat.testBit_eq_decide_div_mod_eq, Nat.add_sub_cancel_left, b2n_eq]
  split
  · assumption
  · omega

/-- R27: the loss of the reference clock stands in the clock's status and is raised. -/
theorem refclkLoss_leaves {s : State} (h : held s = false) : ((refclkLoss s).reg (blkFlt .clk)).getLsbD 13 = true ∧
    (refclkLoss s).field 0xB000000 0 0 = 0 ∧ (refclkLoss s).field 0xB000000 8 8 = 1 ∧ (refclkLoss s).mem = s.mem ∧
    (refclkLoss s).ports = s.ports := by
  have hset : (s.setField 0xB000000 0 0 0).field 0xB000000 0 0 = 0 := field_setField_same (by decide) (by decide)
  have hsticky : ((s.setField 0xB000000 0 0 0).setSticky 0xB000000 0x100).regN 0xB000000 =
      (s.setField 0xB000000 0 0 0).regN 0xB000000 ||| 0x100 := by
    have hreg : ((s.setField 0xB000000 0 0 0).setSticky 0xB000000 0x100).reg 0xB000000 =
        (s.setField 0xB000000 0 0 0).reg 0xB000000 ||| 0x100 := reg_setReg_same _ 0xB000000 _
    rw [State.regN, hreg, BitVec.toNat_or]
    rfl
  unfold refclkLoss
  rw [if_neg (by simp [h])]
  have hkeep : ((s.setField 0xB000000 0 0 0).setSticky 0xB000000 0x100).mem = s.mem ∧
      ((s.setField 0xB000000 0 0 0).setSticky 0xB000000 0x100).ports = s.ports := ⟨rfl, rfl⟩
  rw [State.field] at hset
  generalize (s.setField 0xB000000 0 0 0).regN 0xB000000 = v at hset hsticky
  generalize (s.setField 0xB000000 0 0 0).setSticky 0xB000000 0x100 = t at hsticky hkeep ⊢
  have hraise : Beside t (raise .clk 13 t) := raise_beside (Beside.refl t)
  refine ⟨raise_sets .clk (by decide) t, ?_, ?_, (raise_mem _ _ _).trans hkeep.1, (raise_ports _ _ _).trans hkeep.2⟩
  · rw [hraise.field (by decide), State.field, hsticky]
    rw [bits_bit, bit] at hset ⊢
    rw [Nat.testBit_or, show Nat.testBit 0x100 0 = false by decide, Bool.or_false]
    exact hset
  · rw [hraise.field (by decide), State.field, hsticky, bits_bit, bit, Nat.testBit_or, show Nat.testBit 0x100 8 = true by decide,
      Bool.or_true]
    rfl

/-- Settles O47. -/
theorem pinsHoldAndStartTheChip : Obligations.PinsHoldAndStartTheChip := by
  unfold Obligations.PinsHoldAndStartTheChip
  intro s straps
  refine ⟨⟨⟨_, rfl, ?_⟩, ⟨_, rfl, ?_⟩, ⟨_, rfl, ?_⟩, ⟨_, rfl, ?_⟩, ⟨_, rfl, rfl⟩, ⟨_, rfl, ?_⟩⟩, fun h => ?_, fun hl hr => ⟨⟨_, rfl, ?_⟩, ⟨_, rfl, ?_⟩⟩,
    fun hl => ⟨?_, ?_⟩, fun hl hr hrst hte => ⟨_, rfl, ?_⟩, fun hl hr hrst hte => ⟨_, rfl, ?_⟩, ⟨_, rfl, ?_⟩,
    fun hr hrst hte hl => ⟨_, rfl, ?_⟩, fun hc => ⟨_, rfl, ?_⟩, fun hl => ?_, fun h => ⟨_, rfl, ?_⟩, fun h => ⟨_, rfl, ?_⟩, fun h => ⟨_, rfl, ?_⟩⟩
  · rw [rstNAssert_pins]
  · rw [rstNRelease_pins]
    exact ⟨rfl, rfl⟩
  · rw [testEnAssert_pins]
  · rw [testEnRelease_pins]
  · rw [railsAbove_pins]
  · have hgate : gateEpoch s = none := by unfold gateEpoch; rw [if_pos (by simp [h])]
    exact ⟨hgate, by unfold nvmResetN; rw [h]; rfl⟩
  · unfold rstNAssert
    dsimp only
    rw [if_neg (by simp [hl, hr])]
    exact ⟨(chipReset_heldEmpty (c := 1) (by decide) (s := { s with pins := { s.pins with rstN := false } }) (by simp)).1,
      by rw [pins_chipReset]⟩
  · unfold testEnAssert
    dsimp only
    rw [if_neg (by simp [hl, hr])]
    exact ⟨(chipReset_heldEmpty (c := 1) (by decide) (s := { s with pins := { s.pins with testEn := true } }) (by simp)).1,
      by rw [pins_chipReset]⟩
  · exact next_congr (by unfold rstNAssert; rw [hl]; rfl)
  · exact next_congr (by unfold testEnAssert; rw [hl]; rfl)
  · have hfree : held { s with pins := { s.pins with rstN := true, straps := straps } } = false :=
      held_of_pins (by simp [hr, hte])
    unfold rstNRelease
    dsimp only
    rw [if_neg (by simp [hl, hrst, hfree])]
    exact ⟨bootStart_begins _, rfl, rfl⟩
  · have hfree : held { s with pins := { s.pins with testEn := false } } = false := held_of_pins (by simp [hr, hrst])
    unfold testEnRelease
    dsimp only
    rw [if_neg (by simp [hl, hte, hfree])]
    exact ⟨bootStart_begins _, rfl⟩
  · exact ⟨resetState_heldEmpty (by decide) (by simp), rfl⟩
  · have hfree : held { s with pins := { s.pins with railsOk := true } } = false := held_of_pins (by simp [hrst, hte])
    unfold railsAbove
    dsimp only
    rw [if_neg (by simp [hr, hfree])]
    exact ⟨bootStart_begins _, rfl⟩
  · simp only [coreOn, Bool.and_eq_true, Bool.not_eq_true'] at hc
    obtain ⟨hheld, hl⟩ := hc
    unfold reboot
    rw [if_neg (by simp [hheld, hl])]
    exact chipReset_afresh (by decide) (pins_of_running hheld hl)
  · exact next_congr (by unfold reboot; rw [if_pos (by simp [hl])])
  · exact refclkLoss_leaves h
  · unfold refclkReturn
    rw [if_neg (by simp [h])]
    exact ⟨field_setField_same (by decide) (by decide), fun a ha => reg_setField_ne ha⟩
  · unfold serdesLock
    rw [if_pos h]
    exact ⟨field_setField_same (by decide) (by decide), fun a ha => reg_setField_ne ha⟩

end Sys2Proof.Proofs
end

section
/-!
PROOFS. Sessions (O50).
-/

namespace Sys2Proof.Proofs
open Sys2Proof Sys2Proof.Machine Sys2Proof.Claims

set_option Elab.async false

theorem session_setSession_ne {j k : Fin 4} (h : j ≠ k) (x : Session) (s : State) :
    (s.setSession k.val x).session j.val = s.session j.val := by
  have hne : k.val ≠ j.val := fun e => h (Fin.ext e.symm)
  simp [State.session, State.setSession, List.getD_eq_getElem?_getD, List.getElem?_set_ne hne]

theorem session_setSession_same (k : Fin 4) (x : Session) {s : State} (hs : HostShape s) :
    (s.setSession k.val x).session k.val = x := by
  have hk : k.val < s.hep.sessions.length := by rw [hs.2]; exact k.isLt
  simp [State.session, State.setSession, List.getD_eq_getElem?_getD, List.getElem?_set_self hk]

theorem session_of_hep {s t : State} (h : t.hep = s.hep) (n : Nat) : t.session n = s.session n := by
  rw [State.session, State.session, h]

/-- R370: who is heeded. -/
theorem sessDenied_iff (s : State) (k : Nat) (auth : Bool) : sessDenied s k auth = true ↔
    ((s.session k).st = .active ∧ auth = false) ∨ bootState s = 7 ∨ latched s = true := by
  unfold sessDenied
  simp only [Bool.or_eq_true, Bool.and_eq_true, beq_iff_eq, Bool.not_eq_true']
  tauto

/-- R370: OPEN makes the slot PENDING. -/
theorem sessOpen_opens {s : State} (hs : HostShape s) (h : held s = false) {k : Fin 4} {auth : Bool}
    (hd : sessDenied s k.val auth = false) : ((sessOpen k.val auth s).session k.val).st = .pending ∧
      (∀ j : Fin 4, j ≠ k → (sessOpen k.val auth s).session j.val = s.session j.val) ∧ (sessOpen k.val auth s).mem = s.mem := by
  have hshape : ∃ c, (List.range 4).foldl (fun t w => t.setReg (0x9000130 + 8 * w) (Config.entropy (t.fresh + w))) s =
      { s with csr := c } :=
    foldl_invariant (P := fun t : State => ∃ c, t = { s with csr := c }) (by rintro t x ⟨c, rfl⟩; exact ⟨_, rfl⟩)
      ⟨s.csr, rfl⟩
  unfold sessOpen
  rw [if_neg (by simp [h, hd])]
  dsimp only
  generalize (List.range 4).foldl _ s = t at hshape ⊢
  obtain ⟨c, rfl⟩ := hshape
  refine ⟨?_, fun j hj => ?_, rfl⟩
  · exact congrArg Session.st (session_setSession_same k _ (s := { s with csr := c }) hs)
  · exact session_setSession_ne hj _ { s with csr := c }

/-- R370: a CONFIRM that fails leaves the slot FAILED and is counted. -/
theorem sessFail_fails {s : State} (hs : HostShape s) (k : Fin 4) :
    let u := (s.setSession k.val { s.session k.val with st := .failed }).countReg 0x9000408 1
    (u.session k.val).st = .failed ∧ (∀ j : Fin 4, j ≠ k → u.session j.val = s.session j.val) ∧
      u.reg 0x9000408 = satAdd64 (s.reg 0x9000408) 1 := by
  refine ⟨?_, fun j hj => ?_, ?_⟩
  · exact congrArg Session.st (session_setSession_same k _ hs)
  · exact session_setSession_ne hj _ s
  · exact reg_setReg_same (s.setSession k.val { s.session k.val with st := .failed }) 0x9000408 _

/-- Settles O50. -/
theorem sessionsOpenConfirmAndClose : Obligations.SessionsOpenConfirmAndClose := by
  unfold Obligations.SessionsOpenConfirmAndClose
  intro s k auth key x others hs h
  refine ⟨fun hauth hrec hl => ?_, fun hd => ?_⟩
  · have hd : sessDenied s k.val auth = false := by
      rw [← Bool.not_eq_true, sessDenied_iff]
      rintro (⟨ha, hf⟩ | hb | hl')
      · obtain hna | ht := hauth
        · exact hna ha
        · rw [hf] at ht
          cases ht
      · exact hrec hb
      · rw [hl] at hl'
        cases hl'
    refine ⟨⟨_, rfl, sessOpen_opens hs h hd⟩, ⟨_, rfl, ?_⟩, fun hkey hst htag => ⟨_, rfl, ?_⟩, fun hbad => ⟨_, rfl, ?_⟩⟩
    · unfold sessClose
      rw [if_neg (by simp [h, hd])]
      exact ⟨congrArg Session.st (session_setSession_same k _ hs), fun j hj => session_setSession_ne hj _ s, rfl⟩
    · unfold sessConfirm
      rw [if_neg (by simp [h, hd]), hkey, hst]
      dsimp only
      rw [if_pos htag]
      exact ⟨session_setSession_same k _ hs, fun j hj => session_setSession_ne hj _ s, rfl⟩
    · unfold sessConfirm
      rw [if_neg (by simp [h, hd])]
      dsimp only
      split
      · next hkey hst =>
        rw [if_neg]
        · exact sessFail_fails hs k
        · intro htag
          obtain hnone | hnp | ⟨hsome, hne⟩ := hbad
          · rw [hkey] at hnone
            cases hnone
          · exact hnp hst
          · rw [hkey] at hsome
            cases hsome
            exact hne htag
      · exact sessFail_fails hs k
  · have hdenied := (sessDenied_iff s k.val auth).2 hd
    refine ⟨next_congr ?_, next_congr ?_, next_congr ?_⟩
    · unfold sessOpen
      rw [if_pos (by simp [hdenied])]
    · unfold sessConfirm
      rw [if_pos (by simp [hdenied])]
    · unfold sessClose
      rw [if_pos (by simp [hdenied])]

end Sys2Proof.Proofs
end

section
/-!
PROOFS. Milestones: the value they take, the waits it meets and the notifies it sends.
-/

namespace Sys2Proof.Proofs
open Sys2Proof Sys2Proof.Machine Sys2Proof.Claims

set_option Elab.async false

/-! ## Notifies -/

/-- A notify sends a packet and takes a message number: what sending does not touch stays. -/
theorem notify_having {β : Type} {f : State → β} (m op : Nat) (value : W64) (dst tag : W32) (tc port : Nat) (s : State)
    (e : ∀ (t : State) csr w ev ex r ag ge gp co ps sp q mc, f { t with
        csr := csr, w1cSet := w, evts := ev, excNow := ex, raised := r, again := ag, gerr := ge, gpoison := gp,
          corrected := co, ports := ps, spread := sp, seqCtr := q, msgCtr := mc } = f t := by intros; rfl) :
    f (notify m op value dst tag tc port s) = f s := by
  unfold notify
  obtain ⟨_, _, _, _, _, _, _, _, _, _, _, _, h, -⟩ := originate_only (msHome m)
    (mkPacket tMilestoneNotify tc dst.toNat false (newMsgId s).1 0 1 []
      [(8 * 32, 16, m), (8 * 34, 8, op), (8 * 36, 64, value.toNat), (8 * 48, 32, tag.toNat)])
    (count 0x0C1 1 (some port) (some tc) none (newMsgId s).2)
  dsimp only
  rw [h]
  exact e s _ _ _ _ _ _ _ _ _ _ _ _ _

theorem notify_msgCtr (m op : Nat) (value : W64) (dst tag : W32) (tc port : Nat) (s : State) :
    (notify m op value dst tag tc port s).msgCtr = s.msgCtr + 1 := by
  unfold notify
  obtain ⟨_, _, _, _, _, _, _, _, _, _, _, _, h, -⟩ := originate_only (msHome m)
    (mkPacket tMilestoneNotify tc dst.toNat false (newMsgId s).1 0 1 []
      [(8 * 32, 16, m), (8 * 34, 8, op), (8 * 36, 64, value.toNat), (8 * 48, 32, tag.toNat)])
    (count 0x0C1 1 (some port) (some tc) none (newMsgId s).2)
  dsimp only
  rw [h]
  rfl

/-! ## The waits a value meets -/

theorem waitRead_clean (w : FWait) {s : State} (h : Whole s) : waitRead w s = s := by
  unfold waitRead
  rw [recordRead_clean _ _ _ _ _ _ h.1 h.2]

theorem waitsRead_clean (m : Nat) {s : State} (h : Whole s) : waitsRead m s = s :=
  foldl_invariant (P := fun t : State => t = s) (by rintro t - rfl; exact waitRead_clean _ h) rfl

/-- Notifying each of a list of waits. -/
def answered (m : Nat) (v : W64) (l : List FWait) (s : State) : State :=
  l.foldl (fun s w => notify m 2 v w.src w.tag w.tc w.port s) s

theorem answered_having {β : Type} {f : State → β} (m : Nat) (v : W64) (l : List FWait) (s : State)
    (e : ∀ (t : State) csr w ev ex r ag ge gp co ps sp q mc, f { t with
        csr := csr, w1cSet := w, evts := ev, excNow := ex, raised := r, again := ag, gerr := ge, gpoison := gp,
          corrected := co, ports := ps, spread := sp, seqCtr := q, msgCtr := mc } = f t := by intros; rfl) :
    f (answered m v l s) = f s :=
  foldl_invariant (P := fun t => f t = f s) (fun t _ h => (notify_having _ _ _ _ _ _ _ t e).trans h) rfl

theorem answered_msgCtr (m : Nat) (v : W64) : ∀ (l : List FWait) (s : State),
    (answered m v l s).msgCtr = s.msgCtr + BitVec.ofNat 32 l.length
  | [], s => by simp [answered]
  | w :: l, s => by
    have hrest := answered_msgCtr m v l (notify m 2 v w.src w.tag w.tc w.port s)
    rw [notify_msgCtr] at hrest
    rw [List.length_cons, Nat.add_comm, BitVec.ofNat_add, ← BitVec.add_assoc]
    exact hrest

end Sys2Proof.Proofs
end

section
/-!
PROOFS. Memories without errors stay so.
-/

namespace Sys2Proof.Proofs
open Sys2Proof Sys2Proof.Machine Sys2Proof.Claims

set_option Elab.async false

/-- The errors and the poison of the memories other than the store. -/
def errors (s : State) : List (GMem × Flaw) × List GMem := (s.gerr, s.gpoison)

theorem having_errors {s : State} : Having errors ([], []) s ↔ Whole s := by
  unfold Having errors
  rw [Prod.mk.injEq]

/-- A scan that meets no error leaves none. -/
theorem memScan_errors {b : Blk} {sel : GMem → Bool} {s : State} (h : Having errors ([], []) s) :
    Having errors ([], []) (memScan b sel s).2.2 := by
  obtain ⟨he, hp⟩ := having_errors.1 h
  rw [memScan_clean b sel s he hp]
  exact h

/-- A packet whose granules hold no error is read whole. -/
theorem stageRead_clean (b : Blk) (st : Stage) (n : Nat) (p : Packet) {s : State} (h : Whole s) :
    stageRead b st n p s = (some p, s) := by
  unfold stageRead
  rw [memScan_clean b _ s h.1 h.2]
  rfl

theorem stageRead_errors {b : Blk} {st : Stage} {n : Nat} {p : Packet} {s : State} (h : Having errors ([], []) s) :
    Having errors ([], []) (stageRead b st n p s).2 := by
  rw [stageRead_clean b st n p (having_errors.1 h)]
  exact h

theorem sendLinkLocal_errors {n typ ver : Nat} {own : List (Nat × Nat × Nat)} {s : State} (h : Having errors ([], []) s) :
    Having errors ([], []) (sendLinkLocal n typ ver own s) := h.keep rfl

theorem advanceH_errors {fuel g : Nat} {s : State} (h : Having errors ([], []) s) :
    Having errors ([], []) (advanceH fuel g s) := by
  induction fuel generalizing s with
  | zero => exact h
  | succ f ih =>
    unfold advanceH
    exact .ite (ih (h.keep rfl)) h

theorem advanceXH_errors {fuel t : Nat} {s : State} (h : Having errors ([], []) s) :
    Having errors ([], []) (advanceXH fuel t s) := by
  induction fuel generalizing s with
  | zero => exact h
  | succ f ih =>
    unfold advanceXH
    exact .ite (ih (h.keep rfl)) h

theorem sendEvent_errors {s : State} {p : Nat} {d : HostDest} {e : Event} (h : Having errors ([], []) s) :
    Having errors ([], []) (sendEvent s p d e) := h.keep rfl

theorem recordRead_errors {α : Type} [Inhabited α] {b : Blk} {g : GMem} {keep : α → α} {put : α → State → State} {x : α}
    {s : State} (h : Having errors ([], []) s) : Having errors ([], []) (recordRead b g keep put x s).2.2 := by
  obtain ⟨he, hp⟩ := having_errors.1 h
  rw [recordRead_clean b g keep put x s he hp]
  exact h

end Sys2Proof.Proofs
end

section
/-!
PROOFS. Fields of packets: what one reads after another is set.
-/

namespace Sys2Proof.Proofs
open Sys2Proof Sys2Proof.Machine Sys2Proof.Claims

set_option Elab.async false

theorem f_eq_bits (p : Packet) (lo : Nat) {w : Nat} (hw : 0 < w) : p.f lo w = bits p.hdr.toNat (lo + w - 1) lo := by
  rw [Packet.f, bits, show lo + w - 1 + 1 - lo = w by omega]

theorem hdr_set (p : Packet) (lo v : Nat) {w : Nat} (hw : 0 < w) (h : lo + w ≤ 512) :
    (p.set lo w v).hdr.toNat = setBits p.hdr.toNat (lo + w - 1) lo v := by
  have hset : p.hdr.toNat - p.f lo w * 2 ^ lo + v % 2 ^ w * 2 ^ lo = setBits p.hdr.toNat (lo + w - 1) lo v := by
    rw [setBits, f_eq_bits p lo hw, show lo + w - 1 + 1 - lo = w by omega]
  have hlt : setBits p.hdr.toNat (lo + w - 1) lo v < 2 ^ 512 := setBits_lt v p.hdr.isLt (by omega) (by omega)
  change (BitVec.ofNat 512 _).toNat = _
  rw [hset, BitVec.toNat_ofNat, Nat.mod_eq_of_lt hlt]

/-- A field apart from the one that is set. -/
theorem f_set_ne (p : Packet) (v : Nat) {lo w lo' w' : Nat} (h : lo + w ≤ lo' ∨ lo' + w' ≤ lo) (hw : 0 < w) (hw' : 0 < w')
    (hlo : lo + w ≤ 512) : (p.set lo w v).f lo' w' = p.f lo' w' := by
  rw [f_eq_bits _ _ hw', f_eq_bits _ _ hw', hdr_set p lo v hw hlo]
  rcases h with h | h
  · exact bits_setBits_above _ _ (by omega) (by omega)
  · exact bits_setBits_below _ _ (by omega) (by omega)

theorem f_set_same (p : Packet) (v : Nat) {lo w : Nat} (hw : 0 < w) (hlo : lo + w ≤ 512) :
    (p.set lo w v).f lo w = v % 2 ^ w := by
  rw [f_eq_bits _ _ hw, hdr_set p lo v hw hlo, bits_setBits_same, show lo + w - 1 + 1 - lo = w by omega]

theorem known_cases (p : Packet) : known p = p.set 88 8 0 ∨ known p = (p.set 88 8 0).set (8 * 44) 8 0 ∨
    known p = (p.set 88 8 0).set (8 * 43 + 6) 2 0 := by
  unfold known
  generalize p.set 88 8 0 = q
  dsimp only
  split
  · exact .inr (.inl rfl)
  · split
    · exact .inr (.inr rfl)
    · exact .inl rfl

/-- The fields that a service block does not heed (R48) are those of three places. -/
theorem f_known (p : Packet) {lo w : Nat} (hw : 0 < w) (h1 : 96 ≤ lo ∨ lo + w ≤ 88) (h2 : 360 ≤ lo ∨ lo + w ≤ 350) :
    (known p).f lo w = p.f lo w := by
  have h0 : (p.set 88 8 0).f lo w = p.f lo w := f_set_ne _ _ (by omega) (by decide) hw (by decide)
  obtain h | h | h := known_cases p
  · rw [h, h0]
  · rw [h, f_set_ne _ _ (by omega) (by decide) hw (by decide), h0]
  · rw [h, f_set_ne _ _ (by omega) (by decide) hw (by decide), h0]

theorem pay_set (p : Packet) (lo w v : Nat) : (p.set lo w v).pay = p.pay := rfl

theorem pay_known (p : Packet) : (known p).pay = p.pay := by
  obtain h | h | h := known_cases p
  · rw [h, pay_set]
  · rw [h, pay_set, pay_set]
  · rw [h, pay_set, pay_set]

theorem typ_known (p : Packet) : (known p).typ = p.typ :=
  f_known p (lo := 8) (w := 8) (by decide) (by decide) (by decide)

end Sys2Proof.Proofs
end

section
/-!
PROOFS. What sending, checking and counting packets leave: memories without errors stay so.
-/

namespace Sys2Proof.Proofs
open Sys2Proof Sys2Proof.Machine Sys2Proof.Claims

set_option Elab.async false

variable {s : State}

theorem count_errors {src n : Nat} {port tc grp : Option Nat} (h : Having errors ([], []) s) :
    Having errors ([], []) (count src n port tc grp s) :=
  h.regs (count_only _ _ _ _ _ _)

theorem setPort_errors {n : Nat} {p : Port} (h : Having errors ([], []) s) :
    Having errors ([], []) (State.setPort s n p) := by
  unfold State.setPort
  exact h.keep rfl

theorem modPort_errors {n : Nat} {f : Port → Port} (h : Having errors ([], []) s) :
    Having errors ([], []) (State.modPort s n f) := by
  unfold State.modPort
  exact setPort_errors h

theorem countReg_errors {a n : Nat} (h : Having errors ([], []) s) :
    Having errors ([], []) (s.countReg a n) := h.regs (countReg_only _ _ _)

theorem countPkt_errors {src n : Nat} {p : Packet} (h : Having errors ([], []) s) :
    Having errors ([], []) (countPkt src n p s) :=
  h.regs (countPkt_only _ _ _ _)

theorem newMsgId_errors (h : Having errors ([], []) s) : Having errors ([], []) (newMsgId s).2 := by
  unfold newMsgId
  exact h.keep rfl

theorem raise_errors {b : Blk} {src : Nat} (h : Having errors ([], []) s) : Having errors ([], []) (raise b src s) :=
  h.raises (raise_only _ _ _)

theorem raiseIf_errors {c : Bool} {b : Blk} {src : Nat} (h : Having errors ([], []) s) :
    Having errors ([], []) (raiseIf c b src s) :=
  h.raises (raiseIf_only _ _ _ _)

theorem cross_errors {f t n : Nat} (h : Having errors ([], []) s) :
    Having errors ([], []) (cross f t n s) := h.regs (cross_only _ _ _ _)

theorem carry_errors {hq mq n : Nat} {p : Packet} (h : Having errors ([], []) s) :
    Having errors ([], []) (carry hq mq n p s) :=
  h.regs (carry_only _ _ _ _ _)

theorem egressPush_errors {n : Nat} {p : Packet} {green : Option Nat} {hop : Nat} {ing : Option Nat}
    (h : Having errors ([], []) s) : Having errors ([], []) (egressPush n p green hop ing s) := by
  unfold egressPush
  exact modPort_errors h

theorem wordsXor_errors {a : Nat} {m : BitVec 128} (h : Having errors ([], []) s) :
    Having errors ([], []) (wordsXor a m s) :=
  h.regs (wordsXor_only _ _ _)

theorem tableRead_errors {b : Blk} {a n : Nat} (h : Having errors ([], []) s) :
    Having errors ([], []) (tableRead b a n s).2 := by
  unfold tableRead
  dsimp only
  refine foldl_having (fun _ _ h1 => ?_) (memScan_errors h)
  split
  · exact wordsXor_errors h1
  · exact h1

theorem contractRead_errors {c : Nat} (h : Having errors ([], []) s) : Having errors ([], []) (contractRead c s).2 := by
  unfold contractRead
  exact tableRead_errors h

theorem egressGreen_errors {n : Nat} {p : Packet} {hop : Nat} {ing : Option Nat} (h : Having errors ([], []) s) :
    Having errors ([], []) (egressGreen n p hop ing s) := by
  unfold egressGreen
  dsimp only
  exact .ite (contractRead_errors h) (.ite (.ite (raise_errors (countPkt_errors (countReg_errors
      (contractRead_errors h)))) (egressPush_errors (contractRead_errors h))) (egressPush_errors (raiseIf_errors
      (countPkt_errors (contractRead_errors h)))))

theorem egress_errors {n : Nat} {p : Packet} {dl hop : Nat} {ing : Option Nat} (h : Having errors ([], []) s) :
    Having errors ([], []) (egress n p dl hop ing s) := by
  unfold egress
  dsimp only
  exact .ite (count_errors h) (.ite (.ite (egressPush_errors h) (raise_errors (countPkt_errors h))) (.ite
      (egressGreen_errors h) (egressPush_errors h)))

theorem throughRte_errors {n hq mq dl hop : Nat} {inPort : Option Nat} {p : Packet} (h : Having errors ([], []) s) :
    Having errors ([], []) (throughRte n hq mq dl hop inPort p s) := by
  unfold throughRte
  split
  · next e =>
      exact (.of_eq e (stageRead_errors (carry_errors h)))
  · next e =>
      exact egress_errors ((.of_eq e (stageRead_errors (carry_errors h))))

theorem toEndpoint_errors {inPort : Option Nat} {quad mq hop : Nat} {p : Packet} (h : Having errors ([], []) s) :
    Having errors ([], []) (toEndpoint inPort quad mq hop p s) := by
  unfold toEndpoint
  dsimp only
  exact .ite (throughRte_errors h) (raise_errors (countPkt_errors h))

theorem toTrunk_errors {n hq mq : Nat} {inPort : Option Nat} {hop : Nat} {p : Packet} (h : Having errors ([], []) s) :
    Having errors ([], []) (toTrunk n hq mq inPort hop p s) := by
  unfold toTrunk
  exact throughRte_errors h

theorem noRoute_errors {n : Option Nat} {p : Packet} (h : Having errors ([], []) s) :
    Having errors ([], []) (noRoute n p s) := by
  unfold noRoute
  exact raise_errors (count_errors h)

theorem spreadChoose_errors {quad axis : Nat} {ps : List Nat} (h : Having errors ([], []) s) :
    Having errors ([], []) (spreadChoose quad axis ps s).2 := by
  unfold spreadChoose
  dsimp only
  split
  · exact h
  · next e =>
      exact h.keep rfl

theorem route_errors {inPort : Option Nat} {quad mq hop : Nat} {p : Packet} (h : Having errors ([], []) s) :
    Having errors ([], []) (route inPort quad mq hop p s) := by
  unfold route
  dsimp only
  split
  · exact h
  · next e =>
      exact .ite (.ite (count_errors (tableRead_errors h)) (.ite (countPkt_errors (toTrunk_errors
          (tableRead_errors h))) (noRoute_errors (tableRead_errors h)))) (.ite (count_errors (.pair
          (tableRead_errors h) h)) (by
          split
          · next e' =>
              exact noRoute_errors ((.of_eq e' (spreadChoose_errors (.pair (tableRead_errors h) h))))
          · next e' =>
              exact countPkt_errors (toTrunk_errors ((.of_eq e' (spreadChoose_errors (.pair
                  (tableRead_errors h) h)))))))

theorem sendOn_errors {quad mq hop : Nat} {p : Packet} (h : Having errors ([], []) s) :
    Having errors ([], []) (sendOn quad mq hop p s) := by
  unfold sendOn
  exact .ite (toEndpoint_errors h) (route_errors h)

theorem originateFrom_errors {quad mq : Nat} {p : Packet} (h : Having errors ([], []) s) :
    Having errors ([], []) (originateFrom quad mq p s) := by
  unfold originateFrom
  dsimp only
  exact .ite (count_errors h) (sendOn_errors (h.keep rfl))

theorem originate_errors {quad : Nat} {p : Packet} (h : Having errors ([], []) s) :
    Having errors ([], []) (originate quad p s) := by
  unfold originate
  exact originateFrom_errors h

theorem notify_errors {m op : Nat} {value : W64} {dst tag : W32} {tc port : Nat} (h : Having errors ([], []) s) :
    Having errors ([], []) (notify m op value dst tag tc port s) := by
  unfold notify
  dsimp only
  exact originate_errors (count_errors (newMsgId_errors h))

theorem sinkOverrun_errors {b : Blk} {n hop : Nat} {p : Packet} (h : Having errors ([], []) s) :
    Having errors ([], []) (sinkOverrun b n hop p s) := by
  unfold sinkOverrun
  exact .ite (raise_errors (countPkt_errors (countReg_errors h))) h

theorem granuleClean_errors {g : GMem} (h : Having errors ([], []) s) : Having errors ([], []) (granuleClean g s) := by
  obtain ⟨he, hp⟩ := having_errors.1 h
  refine having_errors.2 ⟨?_, ?_⟩
  · change s.gerr.filter _ = []
    rw [he]
    rfl
  · change s.gpoison.filter _ = []
    rw [hp]
    rfl

/-! ## Packets that come in -/

theorem received_errors {n : Nat} {p : Packet} (h : Having errors ([], []) s) :
    Having errors ([], []) (received n p s) := h.regs (received_only _ _ _)

theorem takeIn_errors {n : Nat} {p : Packet} (h : Having errors ([], []) s) : Having errors ([], []) (takeIn n p s).2 := by
  unfold takeIn
  dsimp only
  split
  · exact received_errors (count_errors h)
  · exact h.keep rfl

theorem dropIn_errors {n src : Nat} {f : Option Nat} {p : Packet} (h : Having errors ([], []) s) :
    Having errors ([], []) (dropIn n src f p s).2 := by
  unfold dropIn
  dsimp only
  split
  · exact countPkt_errors h
  · exact raise_errors (countPkt_errors h)

theorem checkHere_errors {n hop : Nat} {p : Packet} (h : Having errors ([], []) s) :
    Having errors ([], []) (checkHere n hop p s).2 := by
  unfold checkHere
  dsimp only
  split
  · exact dropIn_errors h
  · exact dropIn_errors h
  · exact .pair (dropIn_errors h) (.pair h (.pair (dropIn_errors h) h))

theorem trunkIn_errors {n : Nat} {p : Packet} (h : Having errors ([], []) s) : Having errors ([], []) (trunkIn n p s).2 := by
  unfold trunkIn
  dsimp only
  exact .ite (countPkt_errors (h.keep rfl)) h

theorem meterColour_errors {n m : Nat} (h : Having errors ([], []) s) : Having errors ([], []) (meterColour n m s).2 :=
  h.regs (meterColour_only _ _ _)

theorem endpointIn_errors {n : Nat} {past : Bool} {p : Packet} (h : Having errors ([], []) s) :
    Having errors ([], []) (endpointIn n past p s).2 := by
  have hdrop : ∀ q src f t, Having errors ([], []) t → Having errors ([], []) (raise (puBlk n) f (countPkt src n q t)) :=
    fun _ _ _ _ ht => raise_errors (countPkt_errors ht)
  unfold endpointIn
  extract_lets q drop
  have hd : ∀ src f t, Having errors ([], []) t → Having errors ([], []) (drop src f t).2 := fun src f t => hdrop q src f t
  clear_value q drop
  refine .pair (hd _ _ _ h) (.pair (.pair (hd _ _ _ h) h) ?_)
  have h1 : Having errors ([], []) (contractRead q.contract s).2 := contractRead_errors h
  generalize contractRead q.contract s = c at h1 ⊢
  obtain ⟨bad, t⟩ := c
  dsimp only at h1 ⊢
  have h2 : Having errors ([], []) (tableRead .tcu (meterAddr n (aMeter (conA t q.contract))) 8 t).2 := tableRead_errors h1
  generalize tableRead .tcu (meterAddr n (aMeter (conA t q.contract))) 8 t = d at h2 ⊢
  obtain ⟨bad', u⟩ := d
  dsimp only at h2 ⊢
  have h3 : Having errors ([], []) (meterColour n (aMeter (conA t q.contract)) u).2 := meterColour_errors h2
  generalize meterColour n (aMeter (conA t q.contract)) u = m at h3 ⊢
  obtain ⟨colour, v⟩ := m
  exact .pair (countPkt_errors h2) (.pair (.pair (countPkt_errors (countReg_errors h3))
    (.pair (countPkt_errors (countReg_errors (countPkt_errors h3))) (countPkt_errors h3))) (hd _ _ _ h2))

theorem checks_errors {n hop : Nat} {past : Bool} {p : Packet} (h : Having errors ([], []) s) :
    Having errors ([], []) (checks n hop past p s).2 := by
  unfold checks
  split
  · exact dropIn_errors h
  · have h1 := trunkIn_errors (n := n) (p := p) h
    generalize trunkIn n p s = x at h1 ⊢
    obtain ⟨p1, t1⟩ := x
    have h2 : Having errors ([], []) (if isEndpoint s n then endpointIn n past p s else (some p1, t1)).2 :=
      .pair (endpointIn_errors h) h1
    change Having errors ([], []) (match if isEndpoint s n then endpointIn n past p s else (some p1, t1) with
      | (o, s) => match o with
        | none => (Ing.gone, s)
        | some p => if cwSw p.dst = ownSw s then checkHere n hop p s else (Ing.forward p hop, s)).2
    generalize (if isEndpoint s n then endpointIn n past p s else (some p1, t1)) = x at h2 ⊢
    obtain ⟨_ | q, t⟩ := x
    · exact h2
    · exact .pair (checkHere_errors h2) h2

/-- R39 to R51: the checks meet no error where there is none. -/
theorem ingress_errors {n : Nat} {p : Packet} (h : Having errors ([], []) s) :
    Having errors ([], []) (ingress n p s).2 := by
  have h1 := takeIn_errors (n := n) (p := p) h
  unfold ingress
  generalize takeIn n p s = x at h1 ⊢
  obtain ⟨e, t⟩ := x
  dsimp only at h1 ⊢
  rw [stageRead_clean _ _ _ _ (having_errors.1 h1)]
  exact checks_errors h1

/-! ## Messages -/

theorem msgRead_errors {b : Blk} {c : MsgCtx} (h : Having errors ([], []) s) :
    Having errors ([], []) (msgRead b c s).2.2 := recordRead_errors h

theorem msgArrive_errors {b : Blk} {port : Nat} {p : Packet} (h : Having errors ([], []) s) :
    Having errors ([], []) (msgArrive b port p s).2 := by
  unfold msgArrive
  split
  · next c _ =>
    have h1 : Having errors ([], []) (msgRead b c s).2.2 := msgRead_errors h
    split
    · next e => rw [e] at h1; exact h1
    · next e =>
      rw [e] at h1
      exact .pair (raise_errors (countPkt_errors h1)) (.pair (count_errors (h1.keep rfl)) (h1.keep rfl))
  · exact .pair h (.pair (raise_errors (countPkt_errors h)) (countPkt_errors (granuleClean_errors (h.keep rfl))))

end Sys2Proof.Proofs
end

section
/-!
PROOFS. A packet that passes its checks reaches its service block, with nothing changed but what receiving counts.
-/

namespace Sys2Proof.Proofs
open Sys2Proof Sys2Proof.Machine Sys2Proof.Claims

set_option Elab.async false

variable {s t : State} {n : Fin 64} {p q : Packet}

/-- The state a packet finds at its service block holds no error. -/
theorem taken_whole (h : Taken s n p q t) : Whole t := by
  obtain ⟨-, hw, q0, hop, t0, hin, -, -, -, rfl⟩ := h
  have h0 := ingress_errors (n := n.val) (p := p) (having_errors.2 hw)
  rw [hin] at h0
  exact having_errors.1 (sinkOverrun_errors (cross_errors h0))

theorem taken_coreOn (h : Taken s n p q t) : coreOn s = true := by
  obtain ⟨hc, -⟩ := h
  simp only [canArrive, Bool.and_eq_true] at hc
  exact hc.1.1.1

/-- What receiving does not touch is as it was. -/
theorem taken_having {β : Type} {f : State → β} (h : Taken s n p q t)
    (e : ∀ (t : State) csr w ev ex r ag ge gp co ps sp q, f { t with
        csr := csr, w1cSet := w, evts := ev, excNow := ex, raised := r, again := ag, gerr := ge, gpoison := gp,
          corrected := co, ports := ps, spread := sp, seqCtr := q } = f t := by intros; rfl) : f t = f s := by
  obtain ⟨-, -, q0, hop, t0, hin, -, -, -, rfl⟩ := h
  have h0 : Having f (f s) (ingress n.val p s).2 := Having.sends rfl (ingress_only _ _ _) (e s)
  rw [hin] at h0
  have h1 : Having f (f s) (cross (quadOf n.val) (serviceQuad q0) 1 t0) :=
    h0.sends (cross_only _ _ _ _).raises.sends (e t0)
  exact h1.sends (sinkOverrun_only _ _ _ _ _) (e _)

/-- R49 to R51: the service block does its command, or the packet waits where the command must. -/
theorem serveOrWait_taken (ht : Taken s n p q t) {mine : State → Packet → Bool} {h : Packet → State → Option State}
    (hm : ∀ q0 hop t0, q = known q0 → ingress n.val p s = (.service q0 hop, t0) → mine t0 q0 = true) :
    serveOrWait n.val p mine h s = (h q t).getD (waitAt n.val p s) := by
  obtain ⟨hc, hw, q0, hop, t0, hin, hcheck, hwipe, rfl, rfl⟩ := ht
  have hmine := hm q0 hop t0 rfl hin
  have herr := ingress_errors (n := n.val) (p := p) (having_errors.2 hw)
  rw [hin] at herr
  have hcross : Having errors ([], []) (cross (quadOf n.val) (serviceQuad q0) 1 t0) := cross_errors herr
  have hnowait : (s.wiping && usesStore q0) = false := by
    cases hwp : s.wiping
    · rfl
    · exact hwipe hwp
  unfold serveOrWait
  rw [if_neg (by simp [hc]), hin]
  dsimp only
  rw [if_neg (by simp [hmine]), hnowait, if_neg (by decide), stageRead_clean _ _ _ _ (having_errors.1 hcross)]
  dsimp only
  rw [if_neg (by simp [hcheck])]

theorem serve_taken (ht : Taken s n p q t) {mine : State → Packet → Bool} {h : Packet → State → State}
    (hm : ∀ q0 hop t0, q = known q0 → ingress n.val p s = (.service q0 hop, t0) → mine t0 q0 = true) :
    serve n.val p mine h s = h q t :=
  serveOrWait_taken ht hm

/-- A command known by its packet's type. -/
theorem serve_typ (ht : Taken s n p q t) {typ : Nat} (htyp : q.typ = typ) {h : Packet → State → State} :
    serve n.val p (isType typ) h s = h q t := by
  refine serve_taken ht ?_
  rintro q0 - - rfl -
  rw [typ_known] at htyp
  exact beq_iff_eq.2 htyp

end Sys2Proof.Proofs
end

section
/-!
PROOFS. Milestones take their values (O9).
-/

namespace Sys2Proof.Proofs
open Sys2Proof Sys2Proof.Machine Sys2Proof.Claims

set_option Elab.async false

/-- The waits that a value meets are answered, and the runs that wait for it go on. -/
theorem meetWaits_clean (m : Nat) (v : W64) {s : State} (h : Whole s) :
    meetWaits m v s = meetRuns m v (answered m v (s.waits.filter (fun w => w.ms == m && decide (w.thr ≤ v)))
      { s with waits := unmet s m v }) := by
  unfold meetWaits
  rw [waitsRead_clean m h]
  rfl

/-- R303: what meeting the waits of a milestone leaves. -/
theorem meetWaits_leaves (m : Nat) (v : W64) {s : State} (h : Whole s) :
    (meetWaits m v s).milestones = s.milestones ∧ (meetWaits m v s).waits = unmet s m v ∧
      (meetWaits m v s).msgCtr = s.msgCtr + BitVec.ofNat 32 (metCount s m v) ∧
      (meetWaits m v s).mem = s.mem ∧ (meetWaits m v s).poison = s.poison := by
  have hctr := answered_msgCtr m v (s.waits.filter (fun w => w.ms == m && decide (w.thr ≤ v)))
    { s with waits := unmet s m v }
  have hmil := answered_having (f := State.milestones) m v (s.waits.filter (fun w => w.ms == m && decide (w.thr ≤ v)))
    { s with waits := unmet s m v }
  have hwaits := answered_having (f := State.waits) m v (s.waits.filter (fun w => w.ms == m && decide (w.thr ≤ v)))
    { s with waits := unmet s m v }
  have hmem := answered_having (f := State.mem) m v (s.waits.filter (fun w => w.ms == m && decide (w.thr ≤ v)))
    { s with waits := unmet s m v }
  have hpoison := answered_having (f := State.poison) m v (s.waits.filter (fun w => w.ms == m && decide (w.thr ≤ v)))
    { s with waits := unmet s m v }
  rw [meetWaits_clean m v h]
  generalize answered m v (s.waits.filter (fun w => w.ms == m && decide (w.thr ≤ v))) { s with waits := unmet s m v } = t
    at *
  exact ⟨hmil, hwaits, hctr, hmem, hpoison⟩

/-- An answer of `own` notifies. -/
def Answers (own : Nat) (answer : State → State) : Prop := ∀ t, Whole t → Whole (answer t) ∧
  (answer t).milestones = t.milestones ∧ (answer t).waits = t.waits ∧ (answer t).msgCtr = t.msgCtr + BitVec.ofNat 32 own ∧
    (answer t).mem = t.mem ∧ (answer t).poison = t.poison

theorem answers_id : Answers 0 id := fun t h => ⟨h, rfl, rfl, (BitVec.add_zero t.msgCtr).symm, rfl, rfl⟩

theorem answers_notify (m op : Nat) (value : W64) (dst tag : W32) (tc port : Nat) :
    Answers 1 (notify m op value dst tag tc port) := fun t h =>
  ⟨having_errors.1 (notify_errors (having_errors.2 h)), notify_having (f := State.milestones) _ _ _ _ _ _ _ t,
    notify_having (f := State.waits) _ _ _ _ _ _ _ t, notify_msgCtr _ _ _ _ _ _ _ t,
    notify_having (f := State.mem) _ _ _ _ _ _ _ t, notify_having (f := State.poison) _ _ _ _ _ _ _ t⟩

/-- An answer where one is asked for. -/
theorem answers_if (c : Bool) {f : State → State} (h : Answers 1 f) : Answers (b2n c) (fun s => if c then f s else s) := by
  cases c
  · exact answers_id
  · exact h

/-- R302, R303: a milestone takes a value. -/
theorem msuOp_takes (m : Nat) (v : W64) {own : Nat} {answer : State → State} (ha : Answers own answer) {s : State}
    (h : Whole s) : TakesValue s (msuOp m v answer s) m v own := by
  obtain ⟨hw, hmil, hwaits, hctr, hmem, hpoison⟩ := ha
    (({ s with milestones := tabSet s.milestones m v } : State).countReg 0x8080020 1) h
  unfold msuOp
  dsimp only
  generalize answer (({ s with milestones := tabSet s.milestones m v } : State).countReg 0x8080020 1) = t at *
  have hunmet : unmet t m v = unmet s m v := by rw [unmet, unmet, hwaits]; rfl
  have hmet : metCount t m v = metCount s m v := by rw [metCount, metCount, hwaits]; rfl
  obtain ⟨hmil', hwaits', hctr', hmem', hpoison'⟩ := meetWaits_leaves m v hw
  refine ⟨fun j => ?_, hwaits'.trans hunmet, ?_, hmem'.trans hmem, hpoison'.trans hpoison⟩
  · rw [msValue, hmil', hmil]
    change (tabGet (tabSet s.milestones m v) j).getD 0 = _
    rw [tabGet_tabSet]
    split <;> rfl
  · rw [hctr', hctr, hmet, BitVec.ofNat_add, ← BitVec.add_assoc]
    rfl

theorem msuOp_releases (m : Nat) (v : W64) {own : Nat} {answer : State → State} (ha : Answers own answer)
    (hr : ∀ t, (answer t).releases = t.releases) {s : State} (h : Whole s) :
    (msuOp m v answer s).releases = s.releases := by
  obtain ⟨hw, -⟩ := ha (({ s with milestones := tabSet s.milestones m v } : State).countReg 0x8080020 1) h
  have hrel := hr (({ s with milestones := tabSet s.milestones m v } : State).countReg 0x8080020 1)
  unfold msuOp
  dsimp only
  generalize answer (({ s with milestones := tabSet s.milestones m v } : State).countReg 0x8080020 1) = t at *
  rw [meetWaits_clean m v hw]
  refine Eq.trans (answered_having (f := State.releases) m v _ _) ?_
  exact hrel

/-- `TakesValue` is about milestones, waits, the message counter and the store. -/
theorem takesValue_congr {s s' u : State} {m own : Nat} {v : W64} (h : TakesValue s u m v own)
    (hmil : s.milestones = s'.milestones) (hwaits : s.waits = s'.waits) (hctr : s.msgCtr = s'.msgCtr) (hmem : s.mem = s'.mem)
    (hpoison : s.poison = s'.poison) : TakesValue s' u m v own := by
  obtain ⟨h1, h2, h3, h4, h5⟩ := h
  refine ⟨fun j => (h1 j).trans ?_, h2.trans ?_, h3.trans ?_, h4.trans hmem, h5.trans hpoison⟩
  · rw [msValue, msValue, hmil]
  · rw [unmet, unmet, hwaits]
  · rw [metCount, metCount, hwaits, hctr]

section
variable {s t t' : State} {n : Fin 64} {p q : Packet}

/-- What counting a message does not touch is as it was. -/
theorem counted_having {β : Type} {f : State → β} {b : Blk} {c : MsgCtx} {first complete : Bool}
    (h : msgArrive b n.val q t = (.counted c first complete, t'))
    (e : ∀ (t : State) csr w ev ex r ag ge gp co ms, f { t with
        csr := csr, w1cSet := w, evts := ev, excNow := ex, raised := r, again := ag, gerr := ge, gpoison := gp,
          corrected := co, msgs := ms } = f t := by intros; rfl) : f t' = f t := by
  have h0 : Having f (f t) (msgArrive b n.val q t).2 := Having.messages rfl (msgArrive_only _ _ _ _) (e t)
  rw [h] at h0
  exact h0

theorem counted_whole {b : Blk} {c : MsgCtx} {first complete : Bool}
    (h : msgArrive b n.val q t = (.counted c first complete, t')) (hw : Whole t) : Whole t' := by
  have h0 := msgArrive_errors (b := b) (port := n.val) (p := q) (having_errors.2 hw)
  rw [h] at h0
  exact having_errors.1 h0

/-- R302, R307: a milestone operation that is taken in is performed on a state with the milestones as they were. -/
theorem milestoneOpIn_performs (ht : Taken s n p q t) (hc : Counted .msu n q t) (hs : q.ssvc = false) :
    ∃ u, milestoneOpIn n.val q t = packetOp n.val q u ∧ Whole u ∧ u.milestones = s.milestones ∧ u.waits = s.waits ∧
      u.msgCtr = s.msgCtr ∧ u.mem = s.mem ∧ u.poison = s.poison := by
  obtain ⟨c, first, complete, t', hin⟩ := hc
  have hw := counted_whole hin (taken_whole ht)
  refine ⟨countPkt 0x0C0 n.val q t', ?_, hw, ?_, ?_, ?_, ?_, ?_⟩
  · unfold milestoneOpIn
    rw [hin]
    dsimp only
    rw [if_neg (by simp [hs]), msRead_clean _ hw]
    rfl
  · exact (counted_having (f := State.milestones) hin).trans (taken_having ht)
  · exact (counted_having (f := State.waits) hin).trans (taken_having ht)
  · exact (counted_having (f := State.msgCtr) hin).trans (taken_having ht)
  · exact (counted_having (f := State.mem) hin).trans (taken_having ht)
  · exact (counted_having (f := State.poison) hin).trans (taken_having ht)

theorem isMilestoneOp_known {q0 : Packet} {op : Nat} {t0 : State} (htyp : (known q0).typ = 0x20) (hop : moOp (known q0) = op) :
    isMilestoneOp op t0 q0 = true := by
  have hf : moOp (known q0) = moOp q0 := f_known q0 (lo := 8 * 34) (w := 8) (by decide) (by decide) (by decide)
  rw [typ_known] at htyp
  rw [hf] at hop
  unfold isMilestoneOp
  rw [htyp, hop]
  simp [tMilestoneOp]

/-- A milestone operation of a packet is performed where the packet is taken in. -/
theorem serve_milestoneOp (ht : Taken s n p q t) (hc : Counted .msu n q t) (htyp : q.typ = 0x20) {op : Nat}
    (hop : moOp q = op) (hs : q.ssvc = false) : ∃ u,
    serve n.val p (isMilestoneOp op) (milestoneOpIn n.val) s = packetOp n.val q u ∧ Whole u ∧ u.milestones = s.milestones ∧
      u.waits = s.waits ∧ u.msgCtr = s.msgCtr ∧ u.mem = s.mem ∧ u.poison = s.poison := by
  obtain ⟨u, hu, hrest⟩ := milestoneOpIn_performs ht hc hs
  refine ⟨u, ?_, hrest⟩
  rw [← hu]
  refine serve_taken ht ?_
  rintro q0 - - rfl -
  exact isMilestoneOp_known htyp hop

end

/-! ## Waits -/

theorem packetOp_wait {n : Nat} {p : Packet} (h : moOp p = 2) (s : State) : packetOp n p s = waitOp n p s := by
  unfold packetOp
  rw [h]
  rfl

/-- R304: a WAIT that is met on arrival is answered at once. -/
theorem waitOp_answers {n : Nat} {p : Packet} {s : State} (h : moValue p ≤ msValue s (moMs p)) :
    (waitOp n p s).milestones = s.milestones ∧ (waitOp n p s).waits = s.waits ∧ (waitOp n p s).msgCtr = s.msgCtr + 1 ∧
      (waitOp n p s).mem = s.mem := by
  unfold waitOp
  dsimp only
  rw [if_pos h]
  exact ⟨notify_having (f := State.milestones) _ _ _ _ _ _ _ _, notify_having (f := State.waits) _ _ _ _ _ _ _ _,
    notify_msgCtr _ _ _ _ _ _ _ _, notify_having (f := State.mem) _ _ _ _ _ _ _ _⟩

/-- R304: a WAIT that is not met is held. -/
theorem waitOp_holds {n : Nat} {p : Packet} {s : State} (h : msValue s (moMs p) < moValue p)
    (hroom : (s.waits.filter (fun w => msHome w.ms == msHome (moMs p))).length < 4096) :
    (waitOp n p s).milestones = s.milestones ∧ (waitOp n p s).msgCtr = s.msgCtr ∧ (waitOp n p s).mem = s.mem ∧
      (waitOp n p s).waits = s.waits ++ [⟨moMs p, moValue p, BitVec.ofNat 32 p.src, moTag p, p.tc, n⟩] := by
  unfold waitOp
  dsimp only
  rw [if_neg (BitVec.not_le.2 h), if_neg (by omega)]
  exact ⟨rfl, rfl, rfl, rfl⟩

/-- R304: a WAIT for which the list has no place is dropped. -/
theorem waitOp_drops {n : Nat} {p : Packet} {s : State} (h : msValue s (moMs p) < moValue p)
    (hfull : 4096 ≤ (s.waits.filter (fun w => msHome w.ms == msHome (moMs p))).length) :
    (waitOp n p s).milestones = s.milestones ∧ (waitOp n p s).waits = s.waits ∧ (waitOp n p s).msgCtr = s.msgCtr ∧
      ((waitOp n p s).reg (blkFlt .msu)).getLsbD 36 = true := by
  unfold waitOp
  dsimp only
  rw [if_neg (BitVec.not_le.2 h), if_pos hfull]
  exact ⟨raise_milestones _ _ _, raise_waits _ _ _, raise_msgCtr _ _ _, raise_sets .msu (by decide) _⟩

/-! ## Register writes -/

theorem msuWrites_single {m : Nat} {v : W64} {s : State} (h : Whole s) (hl : s.msuLast = [(m, v)]) :
    msuWrites s = msuOp m v id s := by
  rw [msuWrites, hl, List.foldl_cons, List.foldl_nil, msuWriteGo]
  dsimp only
  rw [msRead_clean m h]
  rfl

theorem meetWaits_none (m : Nat) (v : W64) {s : State} (h : s.waits = []) :
    meetWaits m v s = meetRuns m v { s with waits := [] } := by
  have hread : waitsRead m s = s := by
    unfold waitsRead
    rw [h]
    rfl
  unfold meetWaits
  rw [hread]
  dsimp only
  rw [h]
  rfl

/-- With no wait held a milestone takes its value and nothing is raised. -/
theorem msuOp_quiet (m : Nat) (v : W64) {s : State} (hw : s.waits = []) : (msuOp m v id s).raised = s.raised ∧
    (msuOp m v id s).msuLast = s.msuLast := by
  unfold msuOp
  dsimp only
  have ht : (id (({ s with milestones := tabSet s.milestones m v } : State).countReg 0x8080020 1)).waits = [] := hw
  rw [meetWaits_none m v ht]
  exact ⟨rfl, rfl⟩

theorem foldl_writes_msuLast (l : List (Nat × W64)) (m : Nat) (v : W64) (t : Tab W64) (h : l = [(m, v)]) :
    tabOr (l.foldl (fun t w => tabSet t w.1 w.2) t) m 0 = v := by
  rw [h, List.foldl_cons, List.foldl_nil, tabOr, tabGet_tabSet, if_pos rfl]
  rfl

/-- R303: a write of MSU_VAL is performed last in its cycle. -/
theorem tick_writesMilestone {s : State} {m : Nat} {v : W64} (h : held s = false) (hnow : s.now % 2 = 0)
    (hr : s.raised = []) (hwaits : s.waits = []) (hw : Whole s) (hl : s.msuLast = [(m, v)]) :
    msValue (tick s) m = v ∧ (tick s).msuLast = [] := by
  have hst := edges_stalled s
  obtain ⟨-, hlast, -⟩ := tick_leaves h
  refine ⟨?_, hlast⟩
  unfold tick
  rw [if_neg (by simp [h])]
  generalize stallCounts (clockEdges s) = t at hst ⊢
  have ht : t.raised = [] ∧ t.msuLast = [(m, v)] ∧ patternEnds t = false ∧ t.waits = [] ∧ Whole t := by
    obtain ⟨ev, a, rfl⟩ := hst
    exact ⟨hr, hl, by simp [patternEnds, hnow], hwaits, hw⟩
  obtain ⟨htr, htl, hpat, htw, hwhole⟩ := ht
  obtain ⟨hraised, hmlast⟩ := msuOp_quiet m v htw
  dsimp only
  rw [hpat, if_neg (by decide), msuWrites_single hwhole htl, settle_none _ (hraised.trans htr)]
  rw [htl] at hmlast
  generalize msuOp m v id t = u at hmlast ⊢
  obtain ⟨c, hc⟩ := writesLast_shape u
  rw [hc]
  exact foldl_writes_msuLast _ _ _ _ hmlast

/-! ## Updates -/

section
variable {s : State} {src msgId : W32} {r : Release} (hon : coreOn s = true) (hw : Whole s)
  (hfind : s.releases.find? (fun r => r.src == src && r.msgId == msgId && r.stage == .inFlight) = some r)
include hon hw hfind

theorem milestoneUpdate_eq : milestoneUpdate src msgId s = if r.msen then
    msuOp r.ms (msValue s r.ms + r.val.setWidth 64)
      (fun x => if r.ntfy then notify r.ms 3 (msValue s r.ms + r.val.setWidth 64) r.src r.msgId r.tc r.port x else x)
      { s with releases := s.releases.erase r }
    else notify r.ms 3 (msValue s r.ms) r.src r.msgId r.tc r.port { s with releases := s.releases.erase r } := by
  have hclean : msRead r.ms { s with releases := s.releases.erase r } = (false, { s with releases := s.releases.erase r }) :=
    msRead_clean r.ms hw
  unfold milestoneUpdate
  rw [hfind]
  dsimp only
  rw [if_neg (by simp [hon]), hclean]
  dsimp only
  rw [if_neg (by decide), show msValue { s with releases := s.releases.erase r } r.ms = msValue s r.ms from rfl]

end

/-- Settles O9. -/
theorem milestonesTakeTheirValues : Obligations.MilestonesTakeTheirValues := by
  unfold Obligations.MilestonesTakeTheirValues
  intro s n p q t m v src msgId
  refine ⟨fun ht hc htyp hop hs => ⟨_, rfl, ?_⟩, fun ht hc htyp hop hs => ⟨_, rfl, ?_⟩, fun ht hc htyp hop hs hv => ⟨_, rfl, ?_⟩,
    fun ht hc htyp hop hs hv hroom => ⟨_, rfl, ?_⟩, fun ht hc htyp hop hs hv hfull => ⟨_, rfl, ?_⟩, fun r hon hw hfind hen => ⟨_, rfl, ?_⟩,
    fun r hon hw hfind hen => ⟨_, rfl, ?_⟩, fun hon => ⟨_, rfl, ?_⟩, fun hw hl => ?_, fun h hnow hr hwaits hw hl => tick_writesMilestone h hnow hr hwaits hw hl⟩
  · obtain ⟨u, hu, hw, hmil, hwaits, hctr, hmem, hpoison⟩ := serve_milestoneOp ht hc htyp hop hs
    have hval : msValue u (moMs q) = msValue s (moMs q) := by rw [msValue, msValue, hmil]
    have hgo : packetOp n.val q u = msuOp (moMs q) (msValue s (moMs q) + moValue q)
        (opAnswer n.val q (msValue s (moMs q) + moValue q)) u := by
      unfold packetOp
      dsimp only
      rw [if_pos hop, hval]
    rw [hu, hgo]
    exact takesValue_congr (msuOp_takes _ _ (answers_if (moNtfy q) (answers_notify _ _ _ _ _ _ _)) hw) hmil hwaits hctr hmem hpoison
  · obtain ⟨u, hu, hw, hmil, hwaits, hctr, hmem, hpoison⟩ := serve_milestoneOp ht hc htyp hop hs
    have hgo : packetOp n.val q u = msuOp (moMs q) (moValue q) (opAnswer n.val q (moValue q)) u := by
      unfold packetOp
      dsimp only
      rw [if_neg (by rw [hop]; decide), if_pos hop]
    rw [hu, hgo]
    exact takesValue_congr (msuOp_takes _ _ (answers_if (moNtfy q) (answers_notify _ _ _ _ _ _ _)) hw) hmil hwaits hctr hmem hpoison
  · obtain ⟨u, hu, -, hmil, hwaits, hctr, hmem, -⟩ := serve_milestoneOp ht hc htyp hop hs
    have hval : msValue u (moMs q) = msValue s (moMs q) := by rw [msValue, msValue, hmil]
    obtain ⟨h1, h2, h3, h4⟩ := waitOp_answers (n := n.val) (hval ▸ hv)
    rw [hu, packetOp_wait hop, ← hmil, ← hwaits, ← hctr, ← hmem]
    exact ⟨h1, h2, h3, h4⟩
  · obtain ⟨u, hu, -, hmil, hwaits, hctr, hmem, -⟩ := serve_milestoneOp ht hc htyp hop hs
    have hval : msValue u (moMs q) = msValue s (moMs q) := by rw [msValue, msValue, hmil]
    obtain ⟨h1, h2, h3, h4⟩ := waitOp_holds (n := n.val) (hval ▸ hv) (hwaits ▸ hroom)
    rw [hu, packetOp_wait hop, ← hmil, ← hwaits, ← hctr, ← hmem]
    exact ⟨h1, h2, h3, h4⟩
  · obtain ⟨u, hu, -, hmil, hwaits, hctr, hmem, -⟩ := serve_milestoneOp ht hc htyp hop hs
    have hval : msValue u (moMs q) = msValue s (moMs q) := by rw [msValue, msValue, hmil]
    obtain ⟨h1, h2, h3, h4⟩ := waitOp_drops (n := n.val) (hval ▸ hv) (hwaits ▸ hfull)
    rw [hu, packetOp_wait hop, ← hmil, ← hwaits, ← hctr]
    exact ⟨h1, h2, h3, h4⟩
  · rw [milestoneUpdate_eq hon hw hfind, if_pos hen]
    have hans := answers_if r.ntfy (answers_notify r.ms 3 (msValue s r.ms + r.val.setWidth 64) r.src r.msgId r.tc r.port)
    have hw' : Whole { s with releases := s.releases.erase r } := hw
    have htakes := msuOp_takes r.ms (msValue s r.ms + r.val.setWidth 64) hans hw'
    have htakes' := takesValue_congr (s' := s) htakes rfl rfl rfl rfl rfl
    refine ⟨?_, htakes'⟩
    refine msuOp_releases _ _ hans (fun t => ?_) hw'
    split
    · exact notify_having (f := State.releases) _ _ _ _ _ _ _ t
    · rfl
  · rw [milestoneUpdate_eq hon hw hfind, if_neg (by simp [hen])]
    refine ⟨?_, ?_, ?_, ?_, ?_⟩
    · exact notify_having (f := State.releases) _ _ _ _ _ _ _ _
    · exact notify_having (f := State.milestones) _ _ _ _ _ _ _ _
    · exact notify_having (f := State.waits) _ _ _ _ _ _ _ _
    · exact notify_msgCtr _ _ _ _ _ _ _ _
    · exact notify_having (f := State.mem) _ _ _ _ _ _ _ _
  · have hgo : msuValWrite m.toNat v s = { s with msuLast := s.msuLast ++ [(m.toNat, v)] } := by
      unfold msuValWrite
      rw [if_neg (by simp [hon])]
    rw [live_of_idle hon, hgo]
    refine ⟨?_, rfl, rfl⟩
    unfold msuSeen
    simp
  · rw [msuWrites_single hw hl]
    exact msuOp_takes _ _ answers_id hw

end Sys2Proof.Proofs
end

section
/-!
PROOFS. Words that end their run (O7).
-/

namespace Sys2Proof.Proofs
open Sys2Proof Sys2Proof.Machine Sys2Proof.Claims

set_option Elab.async false

/-- R252, R257: an instruction on a run whose next word is none raises the word's exception. -/
theorem instr_badWord {e : Fin 64} {k : Fin 16} {s : State} {r : Run} {x opc : Nat} (body : W64 → Run → State → State)
    (hon : coreOn s = true) (hw : Whole s) (hp : present s e.val = true) (hr : findRun s e.val k.val = some r)
    (hpid : 128 ≤ r.pid) (hwait : r.wait = none) (hx : wordExc s e r = some x) :
    instr e.val k.val opc body s = progExc e.val x r s := by
  unfold instr
  rw [if_neg (by simp [hon, hp]), hr]
  dsimp only
  rw [if_neg (by simp [hwait]; omega)]
  unfold wordExc at hx
  split at hx
  · next hpc =>
    cases hx
    rw [if_pos hpc]
  · next hpc =>
    rw [if_neg hpc, pmemRead_clean _ _ _ hw.1 hw.2]
    split at hx
    · next hop =>
      cases hx
      dsimp only
      rw [if_neg (by decide), if_pos hop]
    · cases hx

/-- Every instruction of an engine goes through `instr`. -/
theorem engineInstrs_instr {e : Fin 64} {k : Fin 16} {c : Instr} (h : c ∈ engineInstrs e k) (s : State) :
    ∃ opc body, exec c s = .next (instr e.val k.val opc body s) := by
  simp only [engineInstrs, List.mem_cons, List.not_mem_nil, or_false] at h
  rcases h with rfl | rfl | rfl | rfl | rfl | rfl | rfl | rfl | rfl | rfl | rfl | rfl | rfl | rfl | rfl | rfl | rfl | rfl |
    rfl | rfl | rfl | rfl | rfl | rfl | rfl | rfl | rfl | rfl | rfl | rfl | rfl | rfl <;> exact ⟨_, _, rfl⟩

/-! ## What a program exception leaves -/

theorem findRun_endRun (e slot : Nat) (s : State) : findRun (endRun e slot s) e slot = none := by
  have hruns : ((endRun e slot s).engine e).runs = (s.engine e).runs.filter (fun y => y.slot != slot) := by
    change ((s.modEngine e (fun x => { x with runs := x.runs.filter (fun y => y.slot != slot) })).engine e).runs = _
    rw [engine_modEngine_same]
  rw [findRun, hruns]
  refine List.find?_eq_none.2 fun r hr => ?_
  have := (List.mem_filter.1 hr).2
  simpa using this

theorem findRun_beside {s t : State} (h : Beside s t) {e slot : Nat} (hn : findRun s e slot = none) :
    findRun t e slot = none := by
  obtain ⟨-, hruns, -⟩ := h.engines e
  exact List.find?_eq_none.2 fun r hr => List.find?_eq_none.1 hn r (hruns r hr)

theorem progExc_register {e x : Nat} {r : Run} (h : r.origin = .register) (s : State) :
    progExc e x r s = runStatus e 4 0 x r.pc
      (raise (jBlk e) 35 (count (0x203 + 8 * e) 1 none none none (excLast e x r.slot r.pid r.pc (endRun e r.slot s)))) := by
  unfold progExc
  rw [h]

theorem progExc_engines {e x : Nat} {r : Run} (h : r.origin = .register) (s : State) :
    (progExc e x r s).engines = (endRun e r.slot s).engines := by
  rw [progExc_register h]
  exact raise_engines _ _ _

theorem queue_endRun (e slot : Nat) (s : State) : ((endRun e slot s).engine e).queue = (s.engine e).queue := by
  change ((s.modEngine e (fun x => { x with runs := x.runs.filter (fun y => y.slot != slot) })).engine e).queue = _
  rw [engine_modEngine_same]

/-- R257: the code and the slot in J_EXC_LAST. -/
theorem excLast_code {e code slot : Nat} (pid pc : Nat) (hc : code < 16) (hs : slot < 16) (s : State) :
    (excLast e code slot pid pc s).field (jBase e + 0x70) 3 0 = code ∧
      (excLast e code slot pid pc s).field (jBase e + 0x70) 7 4 = slot := by
  unfold excLast
  refine ⟨?_, ?_⟩ <;> rw [field_setRegN_same (by decide) (by decide), bits] <;> omega

/-- R257: the program and the place in J_EXC_LAST. -/
theorem excLast_place {e code slot pid pc : Nat} (hc : code < 16) (hs : slot < 16) (hpid : pid < 256) (hpc : pc < 2 ^ 13)
    (s : State) : (excLast e code slot pid pc s).field (jBase e + 0x70) 15 8 = pid ∧
      (excLast e code slot pid pc s).field (jBase e + 0x70) 28 16 = pc := by
  unfold excLast
  refine ⟨?_, ?_⟩ <;> rw [field_setRegN_same (by decide) (by decide), bits] <;> omega

theorem runStatus_fields {e st exc pc : Nat} (hst : st < 8) (hexc : exc < 16) (s : State) :
    (runStatus e st 0 exc pc s).field (jBase e + 0x24) 2 0 = st ∧
      (runStatus e st 0 exc pc s).field (jBase e + 0x24) 11 8 = exc := by
  have hbit : b2n (bit (s.regN (jBase e + 0x24)) 3) < 2 := by cases bit (s.regN (jBase e + 0x24)) 3 <;> decide
  unfold runStatus
  refine ⟨?_, ?_⟩ <;> rw [field_setRegN_same (by decide) (by decide), bits] <;> omega

/-- R257, R265: what a program exception of a register-started run leaves. -/
theorem progExc_leaves {e : Fin 64} {x : Nat} {r : Run} (h : r.origin = .register) (hx : x < 16) (s : State) :
    let u := progExc e.val x r s
    let t := excLast e.val x r.slot r.pid r.pc (endRun e.val r.slot s)
    findRun u e.val r.slot = none ∧ (∀ hi lo, u.field (jBase e.val + 0x70) hi lo = t.field (jBase e.val + 0x70) hi lo) ∧
      u.field (jBase e.val + 0x24) 2 0 = 4 ∧ u.field (jBase e.val + 0x24) 11 8 = x ∧
      (u.reg (blkFlt (jBlk e.val))).getLsbD 35 = true ∧ u.mem = s.mem ∧ u.milestones = s.milestones := by
  intro u t
  have hquiet : loud (jBase e.val + 0x70) = false :=
    quiet_engine e.isLt (by decide) (by decide) (by decide) (by decide) (by decide)
  have hblk : blkFlt (jBlk e.val) = jBase e.val + 0xF000 := by
    change 0x5000000 + e.val % 64 * 0x40000 + 0xF000 = 0x5000000 + e.val * 0x40000 + 0xF000
    rw [Nat.mod_eq_of_lt e.isLt]
  have hrun : findRun t e.val r.slot = none := findRun_endRun e.val r.slot s
  have hkeep : t.mem = s.mem ∧ t.milestones = s.milestones := ⟨rfl, rfl⟩
  have hu : u = runStatus e.val 4 0 x r.pc (raise (jBlk e.val) 35 (count (0x203 + 8 * e.val) 1 none none none t)) :=
    progExc_register h s
  rw [hu]
  clear_value t u
  have hb : Beside t (raise (jBlk e.val) 35 (count (0x203 + 8 * e.val) 1 none none none t)) :=
    raise_beside (count_beside (Beside.refl t))
  have hraised := raise_sets (jBlk e.val) (src := 35) (by decide) (count (0x203 + 8 * e.val) 1 none none none t)
  have hmem := congrArg State.mem hb.calm
  have hmil := congrArg State.milestones hb.calm
  generalize raise (jBlk e.val) 35 (count (0x203 + 8 * e.val) 1 none none none t) = v at *
  have hne : ∀ a, a ≠ jBase e.val + 0x24 → (runStatus e.val 4 0 x r.pc v).reg a = v.reg a := fun a ha =>
    (reg_setRegN v _ a _).trans (if_neg ha)
  have hfield : ∀ hi lo, (runStatus e.val 4 0 x r.pc v).field (jBase e.val + 0x70) hi lo =
      t.field (jBase e.val + 0x70) hi lo := fun hi lo => by
    rw [← hb.field hquiet, State.field, State.regN, hne _ (by omega)]
    rfl
  obtain ⟨hst, hexc⟩ := runStatus_fields (e := e.val) (st := 4) (exc := x) (pc := r.pc) (by decide) hx v
  refine ⟨findRun_beside hb hrun, hfield, hst, hexc, ?_, hmem.trans hkeep.1, hmil.trans hkeep.2⟩
  rw [hne _ (by rw [hblk]; omega)]
  exact hraised

/-- Settles O7. -/
theorem badWordsEndTheirRun : Obligations.BadWordsEndTheirRun := by
  unfold Obligations.BadWordsEndTheirRun
  refine ⟨fun e k s r x c hc hon hw hp hr hpid hwait hx => ?_, fun e x r s h hx hslot hpid hpc => ?_⟩
  rotate_left
  · obtain ⟨hrun, hfield, hst, hexc, hflt, hmem, hmil⟩ := progExc_leaves h hx s
    obtain ⟨hcode, hsl⟩ := excLast_code r.pid r.pc hx hslot (endRun e.val r.slot s)
    obtain ⟨hpd, hpcs⟩ := excLast_place hx hslot hpid hpc (endRun e.val r.slot s)
    exact ⟨hrun, (hfield 3 0).trans hcode, (hfield 7 4).trans hsl, (hfield 15 8).trans hpd, (hfield 28 16).trans hpcs,
      hst, hexc, hflt, hmem, hmil⟩
  obtain ⟨opc, body, hexec⟩ := engineInstrs_instr hc s
  exact hexec.trans (next_congr (instr_badWord body hon hw hp hr hpid hwait hx))

end Sys2Proof.Proofs
end

section
/-!
PROOFS. Registers of the engines that start, load and clear (O8).
-/

namespace Sys2Proof.Proofs
open Sys2Proof Sys2Proof.Machine Sys2Proof.Claims

set_option Elab.async false

/-! ## Starting a run -/

/-- R249: a run that is queued stands last. -/
theorem enqueue_appends (e : Nat) (q : QRun) (s : State) :
    ((enqueue e q s).engine e).queue ++ ((enqueue e q s).engine e).heldRuns =
      (s.engine e).queue ++ (s.engine e).heldRuns ++ [q] := by
  unfold enqueue
  rw [engine_modEngine_same]
  split
  · next h =>
    simp only [Bool.and_eq_true, List.isEmpty_iff] at h
    simp [h.2]
  · simp

theorem startValue_fields (v : W32) : bits (setBits v.toNat 8 8 1) 7 0 = v.toNat % 256 ∧
    bit (setBits v.toNat 8 8 1) 8 = true := by
  refine ⟨?_, ?_⟩
  · rw [bits_setBits_below _ _ (by decide) (by decide), bits, Nat.pow_zero, Nat.div_one]
    rfl
  · have h := bits_setBits_same v.toNat 8 8 1
    rw [bits_bit] at h
    cases hb : bit (setBits v.toNat 8 8 1) 8
    · rw [hb] at h
      cases h
    · rfl

/-- The control register of an engine as a start writes it (Table 10.8). -/
def startControl (v : Nat) : Nat := bits v 7 0 + bits v 9 9 * 2 ^ 9 + bits v 31 16 * 2 ^ 16

theorem runCtrl_started {s : State} {e : Fin 64} {v : Nat} (hp : present s e.val = true) (hgo : bit v 8 = true)
    (hen : (s.engine e.val).dis = .enabled) (h1 : s.field (jBase e.val + 0x24) 2 0 ≠ 1)
    (h2 : s.field (jBase e.val + 0x24) 2 0 ≠ 2) :
    runCtrl e.val v s = runStatus e.val 1 0 0 0 (enqueue e.val ⟨bits v 7 0, .register,
      (List.range 4).map (fun i => s.reg (jBase e.val + 0x30 + 8 * i)), true, false⟩
      ((s.setRegN (jBase e.val + 0x20) (startControl v)).setRegN (jBase e.val + 0x28) 0xFFFFFFFF)) := by
  have hst : (s.setRegN (jBase e.val + 0x20) (startControl v)).field (jBase e.val + 0x24) 2 0 =
      s.field (jBase e.val + 0x24) 2 0 := field_setRegN_ne (by omega)
  have hargs : (List.range 4).map (fun i => ((s.setRegN (jBase e.val + 0x20) (startControl v)).setRegN (jBase e.val + 0x28)
      0xFFFFFFFF).reg (jBase e.val + 0x30 + 8 * i)) = (List.range 4).map (fun i => s.reg (jBase e.val + 0x30 + 8 * i)) :=
    List.map_congr_left fun i _ => by rw [reg_setRegN, if_neg (by omega), reg_setRegN, if_neg (by omega)]
  have hdis : (((s.setRegN (jBase e.val + 0x20) (startControl v)).setRegN (jBase e.val + 0x28) 0xFFFFFFFF).engine
      e.val).dis = .enabled := hen
  unfold runCtrl
  rw [if_neg (by simp [hp])]
  dsimp only
  rw [hgo, if_neg (by decide)]
  change (if (s.setRegN (jBase e.val + 0x20) (startControl v)).field (jBase e.val + 0x24) 2 0 = 1 ∨
    (s.setRegN (jBase e.val + 0x20) (startControl v)).field (jBase e.val + 0x24) 2 0 = 2 then _ else _) = _
  rw [hst, if_neg (by simp [h1, h2])]
  change (if (((s.setRegN (jBase e.val + 0x20) (startControl v)).setRegN (jBase e.val + 0x28) 0xFFFFFFFF).engine
    e.val).dis != .enabled then _ else runStatus e.val 1 0 0 0 (enqueue e.val ⟨bits v 7 0, .register, (List.range 4).map (fun i =>
      ((s.setRegN (jBase e.val + 0x20) (startControl v)).setRegN (jBase e.val + 0x28)
      0xFFFFFFFF).reg (jBase e.val + 0x30 + 8 * i)), true, false⟩ _)) = _
  rw [hargs, if_neg (by rw [hdis]; decide)]
  simp only [startControl]

theorem enqueue_reg (e a : Nat) (q : QRun) (s : State) : (enqueue e q s).reg a = s.reg a := rfl

theorem enqueue_mem (e : Nat) (q : QRun) (s : State) : (enqueue e q s).mem = s.mem := rfl

/-- R265: a run that is started. -/
theorem runCtrl_starts {s : State} {e : Fin 64} {v : Nat} (hp : present s e.val = true) (hgo : bit v 8 = true)
    (hen : (s.engine e.val).dis = .enabled) (h1 : s.field (jBase e.val + 0x24) 2 0 ≠ 1)
    (h2 : s.field (jBase e.val + 0x24) 2 0 ≠ 2) :
    let t := runCtrl e.val v s
    t.field (jBase e.val + 0x24) 2 0 = 1 ∧ t.reg (jBase e.val + 0x28) = 0xFFFFFFFF ∧
      (t.engine e.val).queue ++ (t.engine e.val).heldRuns = (s.engine e.val).queue ++ (s.engine e.val).heldRuns ++
        [⟨bits v 7 0, .register, (List.range 4).map (fun i => s.reg (jBase e.val + 0x30 + 8 * i)), true, false⟩] ∧
      t.mem = s.mem := by
  intro t
  unfold t
  rw [runCtrl_started hp hgo hen h1 h2]
  generalize (⟨bits v 7 0, .register, (List.range 4).map (fun i => s.reg (jBase e.val + 0x30 + 8 * i)), true, false⟩ : QRun) = q
  have hq := enqueue_appends e.val q ((s.setRegN (jBase e.val + 0x20) (startControl v)).setRegN (jBase e.val + 0x28) 0xFFFFFFFF)
  have hfirst : (enqueue e.val q ((s.setRegN (jBase e.val + 0x20) (startControl v)).setRegN (jBase e.val + 0x28)
      0xFFFFFFFF)).reg (jBase e.val + 0x28) = 0xFFFFFFFF :=
    (enqueue_reg _ _ _ _).trans (reg_setReg_same (s.setRegN _ _) _ _)
  refine ⟨(runStatus_fields (by decide) (by decide) _).1, ?_, ?_, ?_⟩
  · rw [runStatus, reg_setRegN, if_neg (by omega)]
    exact hfirst
  · rw [runStatus, engine_setRegN, hq, engine_setRegN, engine_setRegN]
  · rw [runStatus, State.setRegN_mem, enqueue_mem, State.setRegN_mem, State.setRegN_mem]

/-- R265: a start while a run is queued or going is an error (ERR of Table 10.8) and does nothing else. -/
theorem runCtrl_refused {s : State} {e : Fin 64} {v : Nat} (hp : present s e.val = true) (hgo : bit v 8 = true)
    (hst : s.field (jBase e.val + 0x24) 2 0 = 1 ∨ s.field (jBase e.val + 0x24) 2 0 = 2) :
    (runCtrl e.val v s).field (jBase e.val + 0x24) 3 3 = 1 ∧ (runCtrl e.val v s).engines = s.engines := by
  have hkeep : (s.setRegN (jBase e.val + 0x20) (startControl v)).field (jBase e.val + 0x24) 2 0 =
      s.field (jBase e.val + 0x24) 2 0 := field_setRegN_ne (by omega)
  have heq : runCtrl e.val v s = (s.setRegN (jBase e.val + 0x20) (startControl v)).setSticky (jBase e.val + 0x24) 8 := by
    unfold runCtrl
    rw [if_neg (by simp [hp])]
    dsimp only
    rw [hgo, if_neg (by decide)]
    change (if (s.setRegN (jBase e.val + 0x20) (startControl v)).field (jBase e.val + 0x24) 2 0 = 1 ∨
      (s.setRegN (jBase e.val + 0x20) (startControl v)).field (jBase e.val + 0x24) 2 0 = 2 then _ else _) = _
    rw [hkeep, if_pos hst]
    rfl
  rw [heq]
  refine ⟨?_, rfl⟩
  have hset := setSticky_sets (a := jBase e.val + 0x24) (i := 3) (by decide) (s.setRegN (jBase e.val + 0x20) (startControl v))
  rw [State.field, bits_bit, State.regN, bit, BitVec.testBit_toNat]
  exact congrArg b2n hset

/-! ## Programs -/

section
variable {s : State} {e : Fin 64}

theorem programLoad_begins {p : BitVec 8} (hp : present s e.val = true)
    (hwhy : loadReason s e.val p.toNat (s.reg (jBase e.val + 0x10)) = 0) :
    (pcommit e.val (p.setWidth 64) s).reg (jBase e.val + 0x1C) = 4 ∧
      ((pcommit e.val (p.setWidth 64) s).engine e.val).loading = some (p.toNat, s.reg (jBase e.val + 0x10)) := by
  have hval : (p.setWidth 64 : W64).toNat = p.toNat := by
    rw [BitVec.toNat_setWidth, Nat.mod_eq_of_lt (by have := p.isLt; omega)]
  have hpid : bits (p.setWidth 64 : W64).toNat 7 0 = p.toNat := by rw [hval]; exact bits_of_lt p.isLt
  have hbit : bit (p.setWidth 64 : W64).toNat 8 = false := by
    rw [hval, bit]
    exact Nat.testBit_lt_two_pow p.isLt
  unfold pcommit
  dsimp only
  rw [if_neg (by simp [hp]), hbit, if_neg (by decide), hpid, if_neg (by simp [hwhy])]
  refine ⟨reg_setReg_same s _ _, ?_⟩
  rw [engine_modEngine_same]

theorem progValid_setRegN {s : State} {e p v : Nat} (h128 : 128 ≤ p) :
    progValid (s.setRegN (jBase e + 0x100 + (p - 128) * 8) v) e p = bit (v % 2 ^ 64) 27 := by
  rw [progValid, decide_eq_true h128, Bool.true_and, regN_setRegN, if_pos rfl]

theorem progValid_commitDone {s : State} {e p reason : Nat} :
    progValid (commitDone (jBase e + 0x1C) reason s) e p = progValid s e p := by
  have hreg : (commitDone (jBase e + 0x1C) reason s).regN (jBase e + 0x100 + (p - 128) * 8) =
      s.regN (jBase e + 0x100 + (p - 128) * 8) := (regN_setRegN _ _ _ _).trans (if_neg (by omega))
  rw [progValid, progValid, hreg]

theorem programUnload_ends {p : BitVec 8} (hp : present s e.val = true) (huse : progInUse s e.val p.toNat = false)
    (hv : progValid s e.val p.toNat = true) :
    (pcommit e.val (p.setWidth 64 + 256) s).reg (jBase e.val + 0x1C) = 1 ∧
      progValid (pcommit e.val (p.setWidth 64 + 256) s) e.val p.toNat = false := by
  have hval : (p.setWidth 64 + 256 : W64).toNat = p.toNat + 256 := by
    have := p.isLt
    rw [BitVec.toNat_add, BitVec.toNat_setWidth]
    change (p.toNat % 2 ^ 64 + 256) % 2 ^ 64 = _
    omega
  have hpid : bits (p.setWidth 64 + 256 : W64).toNat 7 0 = p.toNat := by
    have := p.isLt
    rw [hval, bits]
    omega
  have hbit : bit (p.setWidth 64 + 256 : W64).toNat 8 = true := by
    have := p.isLt
    rw [hval, bit, Nat.testBit_eq_decide_div_mod_eq]
    exact decide_eq_true (by omega)
  have h128 : 128 ≤ p.toNat := by
    simp only [progValid, Bool.and_eq_true, decide_eq_true_eq] at hv
    exact hv.1
  have heq : pcommit e.val (p.setWidth 64 + 256) s = commitDone (jBase e.val + 0x1C) 0
      (s.setRegN (jBase e.val + 0x100 + (p.toNat - 128) * 8) (setBits (progDir s e.val p.toNat) 27 27 0)) := by
    unfold pcommit
    dsimp only
    rw [if_neg (by simp [hp]), hbit, if_pos rfl, hpid, huse, hv]
    rfl
  have hlt : setBits (progDir s e.val p.toNat) 27 27 0 < 2 ^ 64 := setBits_lt 0 (regN_lt _ _) (by decide) (by decide)
  rw [heq]
  refine ⟨reg_setReg_same _ _ _, ?_⟩
  rw [progValid_commitDone, progValid_setRegN h128, Nat.mod_eq_of_lt hlt]
  have h := bits_setBits_same (progDir s e.val p.toNat) 27 27 0
  rw [bits_bit] at h
  cases hb : bit (setBits (progDir s e.val p.toNat) 27 27 0) 27
  · rfl
  · rw [hb] at h
    cases h

/-- R172: a load whose check value is right makes the program VALID. -/
theorem programLoadEnd_ends {q : Nat} {w : W64} (hon : coreOn s = true) (hp : present s e.val = true)
    (hl : (s.engine e.val).loading = some (q, w)) (hq : 128 ≤ q) (hw : Whole s)
    (hcrc : (crc32c (((List.range (w.toNat / 2 ^ 13 % 2 ^ 14)).map (fun i =>
      s.regN (jBase e.val + 0x10000 + (w.toNat % 2 ^ 13 + i) * 8))).flatMap (leBytes 8))).toNat = w.toNat / 2 ^ 32) :
    let t := programLoadEnd e.val s
    t.reg (jBase e.val + 0x1C) = 1 ∧ progValid t e.val q = true ∧ (t.engine e.val).loading = none ∧ t.busHeld = s.busHeld := by
  intro t
  have hread : ∀ (a : Nat) (l : List Nat) (u : State), Whole u → l.foldl (fun (x : Bool × State) i =>
      ((x.1 || (pmemRead e.val (a + i) x.2).1), (pmemRead e.val (a + i) x.2).2)) (false, u) = (false, u) := by
    intro a l u hu
    refine foldl_invariant (P := fun x : Bool × State => x = (false, u)) ?_ rfl
    rintro x i rfl
    rw [pmemRead_clean _ _ _ hu.1 hu.2]
    rfl
  have hloaded : ((s.modEngine e.val (fun x => { x with loading := none })).engine e.val).loading = none := by
    rw [engine_modEngine_same]
  have ha : bits w.toNat 12 0 = w.toNat % 2 ^ 13 := by rw [bits, Nat.pow_zero, Nat.div_one]
  have hn : bits w.toNat 26 13 = w.toNat / 2 ^ 13 % 2 ^ 14 := rfl
  have hc : bits w.toNat 63 32 = w.toNat / 2 ^ 32 := by
    have := w.isLt
    rw [bits]
    omega
  have heq : t = commitDone (jBase e.val + 0x1C) 0 ((s.modEngine e.val (fun x => { x with loading := none })).setRegN
      (jBase e.val + 0x100 + (q - 128) * 8) (setBits (bits w.toNat 26 0 + bits w.toNat 63 32 * 2 ^ 32) 27 27 1)) := by
    unfold t programLoadEnd
    rw [hl]
    dsimp only
    rw [if_neg (by simp [hon, hp]), hread _ _ (s.modEngine e.val (fun x => { x with loading := none })) hw]
    dsimp only
    rw [if_neg]
    have hregs : ∀ a, (s.modEngine e.val (fun x => { x with loading := none })).regN a = s.regN a := fun _ => rfl
    rw [ha, hn, hc, Bool.false_or]
    simp only [hregs]
    rw [hcrc]
    simp
  have hlt : setBits (bits w.toNat 26 0 + bits w.toNat 63 32 * 2 ^ 32) 27 27 1 < 2 ^ 64 := by
    have := w.isLt
    refine setBits_lt 1 ?_ (by decide) (by decide)
    rw [bits, bits]
    omega
  rw [heq]
  refine ⟨reg_setReg_same _ _ _, ?_, hloaded, rfl⟩
  rw [progValid_commitDone, progValid_setRegN hq, Nat.mod_eq_of_lt hlt]
  have h := bits_setBits_same (bits w.toNat 26 0 + bits w.toNat 63 32 * 2 ^ 32) 27 27 1
  rw [bits_bit] at h
  cases hb : bit (setBits (bits w.toNat 26 0 + bits w.toNat 63 32 * 2 ^ 32) 27 27 1) 27
  · rw [hb] at h
    cases h
  · rfl

end

/-! ## Exception counters -/

theorem excClr_clears (base v : Nat) (s : State) {i : Nat} (hi : i < 3) : (excClr base v s).reg (base + 8 * i) =
    if bit v i then BitVec.ofNat 64 (tabOr s.excNow (base + 8 * i) 0) else s.reg (base + 8 * i) := by
  have hone : ∀ (t : State) (j k : Nat), (if bit v j then t.setRegN (base + 8 * j) (tabOr t.excNow (base + 8 * j) 0)
      else t).reg (base + 8 * k) =
        if k = j ∧ bit v j = true then BitVec.ofNat 64 (tabOr t.excNow (base + 8 * k) 0) else t.reg (base + 8 * k) := by
    intro t j k
    by_cases hb : bit v j = true
    · rw [if_pos hb, reg_setRegN]
      by_cases hk : k = j
      · rw [if_pos (by omega), if_pos ⟨hk, hb⟩, hk]
      · rw [if_neg (by omega), if_neg (by tauto)]
    · rw [if_neg hb, if_neg (by tauto)]
  have hexc : ∀ (t : State) (j : Nat), (if bit v j then t.setRegN (base + 8 * j) (tabOr t.excNow (base + 8 * j) 0)
      else t).excNow = t.excNow := by
    intro t j
    split <;> rfl
  have hfold : excClr base v s = [0, 1, 2].foldl (fun t j => if bit v j then t.setRegN (base + 8 * j)
      (tabOr t.excNow (base + 8 * j) 0) else t) s := rfl
  rw [hfold, List.foldl_cons, List.foldl_cons, List.foldl_cons, List.foldl_nil, hone, hone, hone, hexc, hexc]
  obtain rfl | rfl | rfl : i = 0 ∨ i = 1 ∨ i = 2 := by omega
  · simp
  · simp
  · simp

/-- Settles O8. -/
theorem engineRegistersStartLoadAndClear : Obligations.EngineRegistersStartLoadAndClear := by
  unfold Obligations.EngineRegistersStartLoadAndClear
  intro e s p v
  obtain ⟨hpid, hgo⟩ := startValue_fields v
  refine ⟨fun h hp hen h1 h2 hb => ⟨_, rfl, ?_⟩, fun h hp hst hb => ⟨_, rfl, ?_⟩, fun h hp hb hwhy => ⟨_, rfl, ?_⟩,
    fun q w hon hp hl hq hbus hw hcrc => ⟨_, rfl, ?_⟩, fun h hp hb huse hv => ⟨_, rfl, ?_⟩, fun h hp hb => ⟨_, rfl, fun i hi => ?_⟩,
    fun h => ⟨_, rfl, fun i hi => ?_⟩⟩
  · have hbus : onBus (jBase e.val + 0x20) (BitVec.ofNat 64 (setBits v.toNat 8 8 1)) (runCtrl e.val (setBits v.toNat 8 8 1)) s =
        runCtrl e.val (setBits v.toNat 8 8 1) s := onBus_free h hb
    have hstart := runCtrl_starts hp hgo hen h1 h2
    rw [hpid] at hstart
    dsimp only
    rw [hbus]
    exact hstart
  · have hbus : onBus (jBase e.val + 0x20) (BitVec.ofNat 64 (setBits v.toNat 8 8 1)) (runCtrl e.val (setBits v.toNat 8 8 1)) s =
        runCtrl e.val (setBits v.toNat 8 8 1) s := onBus_free h hb
    dsimp only
    rw [hbus]
    exact runCtrl_refused hp hgo hst
  · rw [onBus_free (v := p.setWidth 64) (f := pcommit e.val (p.setWidth 64)) h hb]
    exact programLoad_begins hp hwhy
  · obtain ⟨hdone, hvalid, hloading, hheld⟩ := programLoadEnd_ends hon hp hl hq hw hcrc
    have hreplay : busReplay (programLoadEnd e.val s) = programLoadEnd e.val s := by
      unfold busReplay
      rw [if_pos (by rw [hheld, hbus]; rfl)]
    rw [hreplay]
    exact ⟨hdone, hvalid, hloading⟩
  · rw [onBus_free (v := p.setWidth 64 + 256) (f := pcommit e.val (p.setWidth 64 + 256)) h hb]
    exact programUnload_ends hp huse hv
  · rw [onBus_free (v := v.setWidth 64)
      (f := fun s => if present s e.val then excClr (jBase e.val + 0x3F00) v.toNat s else s) h hb, if_pos hp,
      excClr_clears _ _ _ hi, bit, BitVec.testBit_toNat]
  · rw [live, if_neg (by simp [h]), excClr_clears _ _ _ hi, bit, BitVec.testBit_toNat]

end Sys2Proof.Proofs
end

section
/-!
PROOFS. Runs begin, wait and end (O6).
-/

namespace Sys2Proof.Proofs
open Sys2Proof Sys2Proof.Machine Sys2Proof.Claims

set_option Elab.async false

/-! ## Beginning a run -/

/-- The run that a queued run begins as. -/
def begunRun (s : State) (q : QRun) (slot : Nat) (convInf : Bool) : Run :=
  ⟨slot, q.pid, q.origin, 0, q.args ++ List.replicate 12 0, List.replicate 8 (Acc.clear q.floating), 512, 0, 0, 0,
    0xFFFFFFFF, convInf, none, false, s.aclk, [], 0, 0, [], false⟩

/-- The engine's queue goes on, and the run joins its runs. -/
def joined (s : State) (e : Nat) (rest : List QRun) (r : Run) : State :=
  s.modEngine e (fun x => Engine.refill { x with queue := rest, runs := x.runs ++ [r] })

section
variable {s : State} {e : Nat} {q : QRun} {rest : List QRun} {slot : Nat}

/-- R249: what the engine's next queued run begins as, by how it was started. -/
theorem runBegin_eq (hon : coreOn s = true) (hp : present s e = true) (hq : (s.engine e).queue = q :: rest)
    (hslot : freeSlot (s.engine e) = some slot) :
    runBegin e s = if q.origin = .register
      then (if q.pid < 128 ∨ progValid ((joined s e rest (begunRun s q slot (convInfNow s))).setField (jBase e + 0x24) 2 0 2)
          e q.pid = false
        then progExc e 9 (begunRun s q slot (convInfNow s))
          ((joined s e rest (begunRun s q slot (convInfNow s))).setField (jBase e + 0x24) 2 0 2)
        else (joined s e rest (begunRun s q slot (convInfNow s))).setField (jBase e + 0x24) 2 0 2)
      else (if q.pid < 128 ∨ progValid (joined s e rest (begunRun s q slot q.convInf)) e q.pid = true
        then joined s e rest (begunRun s q slot q.convInf)
        else progExc e 9 (begunRun s q slot q.convInf) (joined s e rest (begunRun s q slot q.convInf))) := by
  unfold runBegin
  rw [if_neg (by simp [hon, hp]), hq, hslot]
  obtain ⟨pid, origin, args, floating, convInf⟩ := q
  dsimp only
  cases origin <;> dsimp only <;> simp only [reduceCtorEq, ↓reduceIte, Bool.false_eq_true]
  case register =>
    by_cases hpid : pid < 128
    · rw [if_pos hpid, if_pos (.inl hpid)]
      rfl
    · rw [if_neg hpid]
      split
      · next hv => exact (if_neg (fun h => h.elim hpid fun h => absurd (hv.symm.trans h) (by decide))).symm
      · next hv => exact (if_pos (.inr (Bool.eq_false_iff.2 hv))).symm
  all_goals
    by_cases hpid : pid < 128
    · rw [if_pos hpid, if_pos (.inl hpid)]
      rfl
    · rw [if_neg hpid]
      split
      · next hv => exact (if_pos (.inr hv)).symm
      · next hv => exact (if_neg (fun h => h.elim hpid hv)).symm

theorem progValid_joined (r : Run) (p : Nat) : progValid (joined s e rest r) e p = progValid s e p := rfl

theorem progValid_status (t : State) (p : Nat) :
    progValid (t.setField (jBase e + 0x24) 2 0 2) e p = progValid t e p := by
  rw [progValid, progValid, State.setField, regN_setRegN, if_neg (by omega)]

theorem freeSlot_free {x : Engine} (h : freeSlot x = some slot) : slot < 16 ∧ ∀ r ∈ x.runs, r.slot ≠ slot := by
  have hmem := List.mem_of_find?_eq_some h
  have hall := List.find?_some h
  simp only [List.all_eq_true, bne_iff_ne] at hall
  exact ⟨List.mem_range.1 hmem, hall⟩

theorem findRun_joined {r : Run} (hslot : freeSlot (s.engine e) = some slot) (hr : r.slot = slot) :
    findRun (joined s e rest r) e slot = some r := by
  obtain ⟨-, hfree⟩ := freeSlot_free hslot
  have hnone : (s.engine e).runs.find? (fun r => r.slot == slot) = none :=
    List.find?_eq_none.2 fun x hx => by simpa using hfree x hx
  have hruns : ((joined s e rest r).engine e).runs = (s.engine e).runs ++ [r] := by rw [joined, engine_modEngine_same]; rfl
  rw [findRun, hruns, List.find?_append, hnone, List.find?_cons]
  simp [hr]

theorem queue_joined (r : Run) : ((joined s e rest r).engine e).queue = rest ++ (s.engine e).heldRuns.take (32 - rest.length) := by
  rw [joined, engine_modEngine_same]
  rfl

end

/-- R249, R265: a register-started run of a program that is not there raises NOPROG in the slot it is released to. -/
theorem progExc_joined {e : Fin 64} {s : State} {rest : List QRun} {r : Run} (ho : r.origin = .register) (hslot : r.slot < 16) :
    let u := progExc e.val 9 r ((joined s e.val rest r).setField (jBase e.val + 0x24) 2 0 2)
    findRun u e.val r.slot = none ∧ u.field (jBase e.val + 0x24) 2 0 = 4 ∧
      u.field (jBase e.val + 0x24) 11 8 = 9 ∧ u.field (jBase e.val + 0x70) 3 0 = 9 ∧ u.field (jBase e.val + 0x70) 7 4 = r.slot ∧
      (u.engine e.val).queue = rest ++ (s.engine e.val).heldRuns.take (32 - rest.length) ∧
      (u.reg (blkFlt (jBlk e.val))).getLsbD 35 = true ∧ u.mem = s.mem ∧ u.milestones = s.milestones := by
  have hqueue := queue_joined (s := s) (e := e.val) (rest := rest) r
  have hmem : ((joined s e.val rest r).setField (jBase e.val + 0x24) 2 0 2).mem = s.mem := rfl
  have hmil : ((joined s e.val rest r).setField (jBase e.val + 0x24) 2 0 2).milestones = s.milestones := rfl
  have hqueue' : (((joined s e.val rest r).setField (jBase e.val + 0x24) 2 0 2).engine e.val).queue =
    rest ++ (s.engine e.val).heldRuns.take (32 - rest.length) := hqueue
  intro u
  unfold u
  generalize (joined s e.val rest r).setField (jBase e.val + 0x24) 2 0 2 = t at *
  obtain ⟨hrun, hfield, hst, hexc, hflt, hm, hms⟩ := progExc_leaves ho (x := 9) (by decide) t
  obtain ⟨hcode, hsl⟩ := excLast_code r.pid r.pc (e := e.val) (code := 9) (by decide) hslot (endRun e.val r.slot t)
  refine ⟨hrun, hst, hexc, (hfield 3 0).trans hcode, (hfield 7 4).trans hsl, ?_, hflt, hm.trans hmem, hms.trans hmil⟩
  rw [State.engine, progExc_engines ho]
  change ((endRun e.val r.slot t).engine e.val).queue = _
  rw [queue_endRun, hqueue']

/-! ## The end of a run -/

section
variable {s : State} {e k : Nat} {r : Run} {w : W64}

theorem haltBody_ends (hd : r.dmas = []) (hred : ∀ g q i, r.origin = .reduction g q i → r.unans = [] ∧ r.last = true) :
    haltBody e w r s = haltRun e r s := by
  unfold haltBody
  generalize r.origin = o at *
  cases o with
  | reduction g q i =>
    obtain ⟨hu, hl⟩ := hred g q i rfl
    simp [hu, hl, hd]
  | combine t c j => simp [hd]
  | register => simp [hd]

theorem haltBody_waits (hd : r.dmas ≠ []) (hred : ∀ g q i, r.origin ≠ .reduction g q i) : haltBody e w r s = s := by
  unfold haltBody
  generalize r.origin = o at *
  cases o with
  | reduction g q i => exact absurd rfl (hred g q i)
  | combine t c j => simp [hd]
  | register => simp [hd]

/-- What has only counted leaves the registers that do not count. -/
theorem endRun_reg {a : Nat} (slot : Nat) (h : loud a = false) : (endRun e slot s).reg a = s.reg a :=
  (count_beside (Beside.refl (s.modEngine e (fun x => { x with runs := x.runs.filter (fun y => y.slot != slot) })))).regs a h

theorem findRun_modEngine {f : Engine → Engine} (hf : ∀ x, (f x).runs = x.runs) (slot : Nat) :
    findRun (s.modEngine e f) e slot = findRun s e slot := by
  rw [findRun, findRun, engine_modEngine_same, hf]

/-- The halt of a register-started run before its run ends: its results and its state of Table 10.8. -/
def haltResults (e : Nat) (r : Run) (s : State) : State :=
  (runStatus e 2 r.flags.toNat 0 0 ((List.range 4).foldl (fun s i => s.setReg (jBase e + 0x50 + 8 * i) (r.sreg i)) s)).setReg
    (jBase e + 0x28) (r.first.setWidth 64)

theorem haltRun_register (ho : r.origin = .register) : haltRun e r s =
    (endRun e r.slot (haltResults e r s)).modEngine e (fun x => { x with doneWait := true }) := by
  unfold haltRun
  rw [ho]
  rfl

theorem haltRun_other (ho : r.origin ≠ .register) : haltRun e r s = endRun e r.slot s := by
  unfold haltRun
  split
  · next h => exact absurd h ho
  · rfl

theorem haltResults_shape : ∃ c, haltResults e r s = { s with csr := c } := by
  have hset : ∀ t : State, (∃ c, t = { s with csr := c }) → ∀ a v, ∃ c, t.setReg a v = { s with csr := c } := by
    rintro _ ⟨c, rfl⟩ a v
    exact ⟨_, rfl⟩
  exact hset _ (hset _ (foldl_invariant (P := fun t : State => ∃ c, t = { s with csr := c }) (fun t i h => hset t h _ _)
    ⟨s.csr, rfl⟩) _ _) _ _

theorem haltRun_leaves : findRun (haltRun e r s) e r.slot = none ∧ (haltRun e r s).mem = s.mem ∧
    (haltRun e r s).milestones = s.milestones := by
  by_cases ho : r.origin = .register
  · rw [haltRun_register ho]
    obtain ⟨c, hc⟩ := haltResults_shape (s := s) (e := e) (r := r)
    rw [hc, findRun_modEngine (f := fun x : Engine => { x with doneWait := true }) (fun _ => rfl)]
    exact ⟨findRun_endRun e r.slot _, rfl, rfl⟩
  · rw [haltRun_other ho]
    exact ⟨findRun_endRun e r.slot s, rfl, rfl⟩

theorem haltResults_status : (haltResults e r s).field (jBase e + 0x24) 2 0 = 2 := by
  unfold haltResults
  generalize (List.range 4).foldl (fun s i => s.setReg (jBase e + 0x50 + 8 * i) (r.sreg i)) s = t
  have hreg : ((runStatus e 2 r.flags.toNat 0 0 t).setReg (jBase e + 0x28) (r.first.setWidth 64)).reg (jBase e + 0x24) =
    (runStatus e 2 r.flags.toNat 0 0 t).reg (jBase e + 0x24) := (reg_setReg _ _ _ _).trans (if_neg (by omega))
  have hbit : b2n (bit (t.regN (jBase e + 0x24)) 3) < 2 := by cases bit (t.regN (jBase e + 0x24)) 3 <;> decide
  have hst : (runStatus e 2 r.flags.toNat 0 0 t).field (jBase e + 0x24) 2 0 = 2 := by
    unfold runStatus
    rw [field_setRegN_same (by decide) (by decide), bits]
    omega
  rw [State.field, State.regN, hreg]
  exact hst

theorem haltResults_reg {i : Nat} (hi : i < 4) : (haltResults e r s).reg (jBase e + 0x50 + 8 * i) = r.sreg i := by
  unfold haltResults
  rw [reg_setReg, if_neg (by omega), runStatus, reg_setRegN, if_neg (by omega)]
  rw [show List.range 4 = [0, 1, 2, 3] from rfl]
  simp only [List.foldl_cons, List.foldl_nil]
  obtain rfl | rfl | rfl | rfl : i = 0 ∨ i = 1 ∨ i = 2 ∨ i = 3 := by omega
  all_goals simp [reg_setReg]

end

theorem reg_modEngine (s : State) (n a : Nat) (f : Engine → Engine) : (s.modEngine n f).reg a = s.reg a := rfl

theorem haltRun_registers {s : State} {e : Fin 64} {r : Run} (ho : r.origin = .register) :
    ((haltRun e.val r s).engine e.val).doneWait = true ∧ (haltRun e.val r s).field (jBase e.val + 0x24) 2 0 = 2 ∧
      ∀ i, i < 4 → (haltRun e.val r s).reg (jBase e.val + 0x50 + 8 * i) = r.sreg i := by
  have hreg : ∀ a, loud a = false → (haltRun e.val r s).reg a = (haltResults e.val r s).reg a := fun a ha => by
    rw [haltRun_register ho, reg_modEngine]
    exact endRun_reg (e := e.val) r.slot ha
  refine ⟨?_, ?_, fun i hi => ?_⟩
  · rw [haltRun_register ho, engine_modEngine_same]
  · rw [State.field, State.regN, hreg _ (quiet_engine e.isLt (by decide) (by decide) (by decide) (by decide) (by decide))]
    exact haltResults_status
  · rw [Nat.add_assoc, hreg _ (quiet_engine e.isLt (by omega) (by omega) (by omega) (by omega) (by omega)), ← Nat.add_assoc]
    exact haltResults_reg hi

/-! ## Milestones -/

theorem namedMilestone_eq (w : W64) (r : Run) : iMilestone w r = namedMilestone w r := by
  unfold iMilestone namedMilestone
  cases iM0 w <;> simp [bits]

theorem msuAdd_takes (m : Nat) (d : W64) {s : State} (h : Whole s) : TakesValue s (msuAdd m d s) m (msValue s m + d) 0 := by
  unfold msuAdd
  rw [msRead_clean m h]
  exact msuOp_takes m _ answers_id h

theorem msuAdd_doneWait (m : Nat) (d : W64) {s : State} (h : Whole s) (n : Nat) :
    ((msuAdd m d s).engine n).doneWait = (s.engine n).doneWait := by
  unfold msuAdd
  rw [msRead_clean m h]
  have hw : Whole (({ s with milestones := tabSet s.milestones m (msValue s m + d) } : State).countReg 0x8080020 1) := h
  have he : (({ s with milestones := tabSet s.milestones m (msValue s m + d) } : State).countReg 0x8080020 1).engines = s.engines :=
    rfl
  change ((meetWaits m _ _).engine n).doneWait = _
  generalize ({ s with milestones := tabSet s.milestones m (msValue s m + d) } : State).countReg 0x8080020 1 = t at *
  rw [id, meetWaits_clean m _ hw, meetRuns, engine_mapEngines]
  refine (congrArg (fun l : Vector Engine 64 => (State.engine { s with engines := l } n).doneWait)
    (answered_having (f := State.engines) m _ _ _)).trans ?_
  exact congrArg (fun l : Vector Engine 64 => (State.engine { s with engines := l } n).doneWait) he

theorem runDone_completes {s : State} {e : Nat} (hon : coreOn s = true) (hd : (s.engine e).doneWait = true) :
    runDone e s = if s.field (jBase e + 0x20) 9 9 = 1
      then msuAdd (s.field (jBase e + 0x20) 31 16) 1
        ((s.modEngine e (fun x => { x with doneWait := false })).setField (jBase e + 0x24) 2 0 3)
      else (s.modEngine e (fun x => { x with doneWait := false })).setField (jBase e + 0x24) 2 0 3 := by
  have hfield : ∀ hi lo, ((s.modEngine e (fun x => { x with doneWait := false })).setField (jBase e + 0x24) 2 0 3).field
      (jBase e + 0x20) hi lo = s.field (jBase e + 0x20) hi lo := fun hi lo => field_setField_ne (by omega)
  unfold runDone
  rw [if_neg (by simp [hon, hd])]
  extract_lets t m
  have hm : m = s.field (jBase e + 0x20) 31 16 := hfield 31 16
  have hbit : b2n (bit (t.regN (jBase e + 0x20)) 9) = s.field (jBase e + 0x20) 9 9 := by
    rw [← bits_bit]
    exact hfield 9 9
  rw [hm, ← hbit]
  cases bit (t.regN (jBase e + 0x20)) 9 <;> rfl

section
variable {e : Fin 64} {k : Fin 16} {s : State} {r : Run} {w : W64}

theorem halt_does {P : State → Prop} (h : Ready s e k 0x01 r w) (hd : r.dmas = [])
    (hred : ∀ g q i, r.origin = .reduction g q i → r.unans = [] ∧ r.last = true)
    (hP : ∀ i, P { haltRun e.val r s with issued := i }) : Does (.halt e k) s P := by
  have hexec : exec (.halt e k) s = .next (instr e.val k.val 0x01 (haltBody e.val) s) := rfl
  rw [instr_of_ready (haltBody e.val) h, haltBody_ends hd hred] at hexec
  obtain ⟨i, hi⟩ := noteIssue_shape e.val w r (haltRun e.val r s)
  exact ⟨_, hexec, hi ▸ hP i⟩

theorem waitm_moves (h : Ready s e k 0x05 r w) : MovesCounting (.waitm e k) s e { r with
    wait := some (namedMilestone w r, r.sreg (iRb w)), waitMet := decide (r.sreg (iRb w) ≤ msValue s (namedMilestone w r)) } := by
  obtain ⟨-, hw, -⟩ := id h
  refine movesCounting_of_body (waitmBody e.val) rfl h (t := (count 0x0C5 1 none none none s).countReg 0x8080020 1) ?_
    (countsOnly_trans (count_countsOnly _ _ _ _ _ _) (countReg_countsOnly _ _ (by decide)))
  unfold waitmBody
  dsimp only
  rw [msRead_clean _ hw, namedMilestone_eq]
  rfl

theorem madd_does (h : Ready s e k 0x62 r w) (hd : r.dmas = []) : Does (.madd e k) s (fun u =>
    MilestonesWith s u (namedMilestone w r) (msValue s (namedMilestone w r) + r.sreg (iRb w)) ∧ u.mem = s.mem) := by
  obtain ⟨-, hw, -⟩ := id h
  have hexec : exec (.madd e k) s = .next (instr e.val k.val 0x62 (maddBody e.val) s) := rfl
  have hbody : maddBody e.val w r s = msuAdd (namedMilestone w r) (r.sreg (iRb w))
      (count 0x0C4 1 none none none (putRun e.val r.next s)) := by
    unfold maddBody
    rw [if_neg (by simp [hd]), namedMilestone_eq]
  have htakes := msuAdd_takes (namedMilestone w r) (r.sreg (iRb w))
    (s := count 0x0C4 1 none none none (putRun e.val r.next s)) hw
  rw [instr_of_ready (maddBody e.val) h, hbody] at hexec
  have hmil : (count 0x0C4 1 none none none (putRun e.val r.next s)).milestones = s.milestones := rfl
  have hmem : (count 0x0C4 1 none none none (putRun e.val r.next s)).mem = s.mem := rfl
  generalize count 0x0C4 1 none none none (putRun e.val r.next s) = t at *
  obtain ⟨hvals, -, -, hmem', -⟩ := htakes
  obtain ⟨i, hi⟩ := noteIssue_shape e.val w r (msuAdd (namedMilestone w r) (r.sreg (iRb w)) t)
  have hval : ∀ j, msValue t j = msValue s j := fun j => by rw [msValue, msValue, hmil]
  refine ⟨_, hexec, ?_⟩
  rw [hi]
  refine ⟨fun j => ?_, hmem'.trans hmem⟩
  rw [← hval, ← hval]
  exact hvals j

theorem fenceAcq_does (h : Ready s e k 0x60 r w) (hd : r.dmas = []) : ∃ u v, CountsOnly s u ∧
    exec (.fenceAcq e k) s = .next v ∧ Noted (putRun e.val { r with pc := r.pc + 1 }
      (u.modEngine e.val (fun x => { x with tcache := [] }))) v := by
  have hexec : exec (.fenceAcq e k) s = .next (instr e.val k.val 0x60 (fenceAcqBody e.val) s) := rfl
  have hbody : fenceAcqBody e.val w r s = putRun e.val r.next ((count (0x206 + 8 * e.val) 1 none none none s).modEngine e.val
      (fun x => { x with tcache := [] })) := by
    unfold fenceAcqBody
    rw [if_neg (by simp [hd])]
  rw [instr_of_ready (fenceAcqBody e.val) h, hbody] at hexec
  exact ⟨_, _, count_countsOnly _ _ _ _ _ _, hexec, noteIssue_shape _ _ _ _⟩

end

/-- Settles O6. -/
theorem runsBeginWaitAndEnd : Obligations.RunsBeginWaitAndEnd := by
  unfold Obligations.RunsBeginWaitAndEnd
  intro e k s r w
  refine ⟨fun q rest slot hon hp hq hslot ho hpid => ?_, fun q rest slot hon hp hq hslot ho hpid hv => ?_,
    fun q rest slot hon hp hq hslot ho hpid => ?_, fun q rest slot hon hp hq hslot ho hpid hv => ?_,
    fun h ho hd => ?_, fun h hd hred => ?_, fun h hred hd => ?_, waitm_moves, fun hon hr hw hm => ?_, fun hon hr => ?_,
    fenceAcq_does, madd_does, fun hon hw hd hm => ?_, fun hon hd hm => ?_, fun hon hr hpid hl => ?_⟩
  · refine next_congr ((runBegin_eq hon hp hq hslot).trans ?_)
    rw [if_neg ho, progValid_joined, if_pos hpid]
    rfl
  · have hbegun := runBegin_eq hon hp hq hslot
    rw [if_pos ho, progValid_status, progValid_joined, if_neg (by simp [hv]; omega)] at hbegun
    refine ⟨_, next_congr hbegun, field_setField_same (by decide) (by decide), queue_joined _, ?_⟩
    rw [← ho]
    exact findRun_joined hslot rfl
  · have hbegun := runBegin_eq hon hp hq hslot
    rw [if_pos ho, progValid_status, progValid_joined, if_pos hpid] at hbegun
    exact ⟨_, next_congr hbegun, progExc_joined ho (freeSlot_free hslot).1⟩
  · have hbegun := runBegin_eq hon hp hq hslot
    rw [if_neg ho, if_neg (by simp [progValid_joined, hv]; omega)] at hbegun
    exact ⟨_, _, next_congr hbegun, rfl, rfl, rfl, rfl, rfl, rfl, rfl⟩
  · obtain ⟨-, -, -, hr, -⟩ := id h
    obtain ⟨hrun, hmem, hmil⟩ := haltRun_leaves (e := e.val) (s := s) (r := r)
    obtain ⟨hdone, hst, hregs⟩ := haltRun_registers (e := e) (s := s) ho
    rw [findRun_slot hr] at hrun
    exact halt_does h hd (fun g q i hg => nomatch ho.symm.trans hg) fun i => ⟨hrun, hdone, hst, hregs, hmem, hmil⟩
  · obtain ⟨-, -, -, hr, -⟩ := id h
    obtain ⟨hrun, hmem, hmil⟩ := haltRun_leaves (e := e.val) (s := s) (r := r)
    rw [findRun_slot hr] at hrun
    exact halt_does h hd hred fun i => ⟨hrun, hmem, hmil⟩
  · exact exec_stays (haltBody e.val) rfl h (by decide) (haltBody_waits hd hred)
  · have hgo : waitmResume e.val k.val s = putRun e.val { r with pc := r.pc + 1, wait := none, waitMet := false } s := by
      unfold waitmResume
      rw [hr]
      exact if_pos (by simp [hon, hw, hm])
    exact ⟨_, next_congr hgo, s.issued, rfl⟩
  · have hgo : dmaComplete e.val k.val s = putRun e.val { r with dmas := r.dmas.drop 1 } s := by
      unfold dmaComplete
      rw [hr]
      exact if_pos hon
    exact ⟨_, next_congr hgo, s.issued, rfl⟩
  · have hgo := runDone_completes hon hd
    rw [if_pos hm] at hgo
    refine ⟨_, next_congr hgo, ?_⟩
    have hdone : (((s.modEngine e.val (fun x => { x with doneWait := false })).setField (jBase e.val + 0x24) 2 0 3).engine
      e.val).doneWait = false := by
      change ((s.modEngine e.val (fun x => { x with doneWait := false })).engine e.val).doneWait = _
      rw [engine_modEngine_same]
    have hw' : Whole ((s.modEngine e.val (fun x => { x with doneWait := false })).setField (jBase e.val + 0x24) 2 0 3) := hw
    have hmem : ((s.modEngine e.val (fun x => { x with doneWait := false })).setField (jBase e.val + 0x24) 2 0 3).mem = s.mem := rfl
    have hval : ∀ j, msValue ((s.modEngine e.val (fun x => { x with doneWait := false })).setField (jBase e.val + 0x24) 2 0 3) j =
      msValue s j := fun _ => rfl
    generalize (s.modEngine e.val (fun x => { x with doneWait := false })).setField (jBase e.val + 0x24) 2 0 3 = t at *
    obtain ⟨hvals, -, -, hmem', -⟩ := msuAdd_takes (s.field (jBase e.val + 0x20) 31 16) 1 hw'
    refine ⟨(msuAdd_doneWait _ _ hw' _).trans hdone, hmem'.trans hmem, fun j => ?_⟩
    rw [← hval, ← hval]
    exact hvals j
  · have hgo := runDone_completes hon hd
    rw [if_neg (by omega)] at hgo
    refine ⟨_, next_congr hgo, ?_, field_setField_same (by decide) (by decide), rfl, rfl⟩
    change ((s.modEngine e.val (fun x => { x with doneWait := false })).engine e.val).doneWait = _
    rw [engine_modEngine_same]
  · have hgo : runWatchdog e.val k.val s = progExc e.val 8 r s := by
      unfold runWatchdog
      rw [hr]
      exact if_pos (by simp [hon, hpid, hl])
    exact next_congr hgo

end Sys2Proof.Proofs
end

section
/-!
PROOFS. Register writes (O46).
-/

namespace Sys2Proof.Proofs
open Sys2Proof Sys2Proof.Machine Sys2Proof.Claims

set_option Elab.async false

theorem plainWrite_raised (a : Nat) (row : RegRow) (v : W64) (s : State) : (plainWrite a row v s).raised = s.raised := by
  unfold plainWrite noteWrite
  dsimp only
  split <;> split <;> rfl

/-- R323: what a write of BLOCK_FLT_STATUS has the cycle perform, after what it has raised already. -/
theorem fltClear_raised (b : Blk) (a : Nat) (row : RegRow) (v : W64) (s : State) :
    (fltClear b a row v s).raised = s.raised ++ s.again.filter (fun x => x.1 == b && v.getLsbD x.2) :=
  plainWrite_raised a row v _

/-- The chip runs, and in this cycle source 0 of the GLB has been raised: its reactions are still to perform. -/
def raisedState : State := { State.reset with pins := ⟨true, false, true, Straps.open⟩, raised := [(.glb, 0)] }

theorem registerWrite_glbFlt : ∃ row, exec (.registerWrite (BitVec.ofNat 32 (blkFlt .glb)) 8 0) raisedState =
    .next (fltClear .glb 0xF000 row 0 raisedState) := by
  have hkind : ∃ row, accessKind 0xF000 8 = .performed row := ⟨_, rfl⟩
  obtain ⟨row, hrow⟩ := hkind
  refine ⟨row, ?_⟩
  change (.next (mgcWrite 0xF000 8 0 raisedState) : Out) = _
  have hbus : mgcWrite 0xF000 8 0 raisedState = regWrite 0xF000 row 0 false raisedState := by
    unfold mgcWrite busWrite
    rw [hrow]
    rfl
  have hflt : fltBlk 0xF000 = some .glb := by decide
  rw [hbus, regWrite, hflt]
  rfl

/-- Refutes O46: a write of BLOCK_FLT_STATUS adds the reactions of a source that came again to those already due in the cycle, so
that where some are due already what stands raised after it is more than what the statement lists: a write of 0 to the GLB's
with source 0 of the GLB raised. -/
theorem not_registerWritesFollowTheMap : ¬ Obligations.RegisterWritesFollowTheMap := by
  unfold Obligations.RegisterWritesFollowTheMap
  intro h
  obtain ⟨-, -, -, -, -, hflt, -⟩ := h raisedState 0 8 0 0 .glb 0 (by decide)
  obtain ⟨u, hu, -, hraised⟩ := hflt rfl (by decide)
  obtain ⟨row, hrow⟩ := registerWrite_glbFlt
  have hstate : u = fltClear .glb 0xF000 row 0 raisedState := Host.Outcome.next.inj (hu.symm.trans hrow)
  rw [hstate, fltClear_raised] at hraised
  exact absurd hraised (by decide)

end Sys2Proof.Proofs
end

section
/-!
PROOFS. The store holds what is written (O10).
-/

namespace Sys2Proof.Proofs
open Sys2Proof Sys2Proof.Machine Sys2Proof.Claims

set_option Elab.async false

/-! ## Scrubbing -/

section
variable {s : State}

/-- Scrubbing a store without latent errors uses the row buffers and counts. -/
theorem scrubRows_clean (first cnt : Nat) (hf : s.flaws = []) : RowsUsed s (scrubRows first cnt s) := by
  unfold scrubRows
  split
  · exact rowsUsed_refl s
  · rw [← List.foldl_map (f := fun i => first / 32 + i) (g := fun s r => rowRead .tsc [] r s)]
    exact rowReads_clean .tsc [] _ hf

/-- What a latent error leaves of the bytes and of the poison once it has been read (R31 to R33). -/
theorem flawRead_leaves (b : Blk) (g : Nat) (e : Flaw) (hp : s.poison.contains g = false) :
    (flawRead b g e s).flaws = tabDel s.flaws g ∧
      (flawRead b g e s).mem = (match flawClass e with | .missed r => cellXor s.mem (16 * g) r | _ => s.mem) ∧
      (flawRead b g e s).poison = (if flawClass e = .detected then s.poison ++ [g] else s.poison) := by
  unfold flawRead
  cases flawClass e with
  | clean => exact ⟨rfl, rfl, rfl⟩
  | corrected => exact ⟨rfl, rfl, rfl⟩
  | missed r => exact ⟨rfl, rfl, rfl⟩
  | detected =>
    have hadd : setAdd s.poison g = s.poison ++ [g] := by
      unfold setAdd
      rw [hp]
      rfl
    dsimp only
    rw [hadd]
    exact ⟨(raise_flaws _ _ _).trans (raise_flaws _ _ _), (raise_mem _ _ _).trans (raise_mem _ _ _),
      (raise_poison _ _ _).trans (raise_poison _ _ _)⟩

theorem tabSet_nil {α : Type} (g : Nat) (e : α) : tabSet ([] : Tab α) g e = [(g, e)] := rfl

/-- R285: a scrub read of a place with one latent error reads it, and leaves the rest. -/
theorem scrubStep_reads {first cnt g : Nat} {e : Flaw} (hon : coreOn s = true) (hw : s.wiping = false)
    (hrate : s.field 0x6000010 7 0 ≠ 0) (hf : s.flaws = []) (hp : s.poison.contains g = false) (h1 : first ≤ g)
    (h2 : g < first + cnt) (h3 : 16 * g < storeEnd) :
    let t := flawRead .tsc g e (count 0x0AF cnt none none none { s with flaws := [(g, e)] })
    let u := scrubStep first cnt [(g, e)] [] s
    u.flaws = t.flaws ∧ u.mem = t.mem ∧ u.poison = t.poison := by
  intro t u
  have hin : (decide (first ≤ g) && decide (g < first + cnt) && decide (16 * g < storeEnd)) = true := by simp [h1, h2, h3]
  have hdel : tabDel [(g, e)] g = ([] : Tab Flaw) := by simp [tabDel]
  obtain ⟨hflaws, -, -⟩ := flawRead_leaves (s := count 0x0AF cnt none none none { s with flaws := [(g, e)] }) .tsc g e hp
  have hnone : t.flaws = [] := hflaws.trans hdel
  unfold u scrubStep
  rw [struckBy, List.foldl_nil]
  extract_lets s0 inside s1 s2 s3 s4 done pct
  have hs1 : s1 = { s with flaws := [(g, e)] } := by
    have hfound : [(g, e)].filter (fun x => inside x.1) = [(g, e)] := by
      rw [List.filter_cons, if_pos hin, List.filter_nil]
    unfold s1
    rw [hfound, List.foldl_cons, List.foldl_nil, hp, hf]
    rfl
  have hs3 : s3 = t := by
    have hflaws : s2.flaws = [(g, e)] := congrArg State.flaws hs1
    have hfound : s2.flaws.filter (fun x => inside x.1) = [(g, e)] := by
      rw [hflaws, List.filter_cons, if_pos hin, List.filter_nil]
    unfold s3
    rw [hfound, List.foldl_cons, List.foldl_nil]
    unfold s2
    rw [hs1]
  rw [← hs3] at hnone ⊢
  have hrows := scrubRows_clean first (min cnt (storeEnd / 16 - first)) hnone
  rw [if_neg (by simp [show s0 = s from rfl, hon, hw, hrate])]
  have hleft : s4.flaws = s3.flaws ∧ s4.mem = s3.mem ∧ s4.poison = s3.poison :=
    ⟨rowsUsed_flaws hrows, rowsUsed_mem hrows, rowsUsed_poison hrows⟩
  clear_value s4 pct
  split <;> exact hleft

theorem scrubStep_does {first cnt g : Nat} {e : Flaw} (hon : coreOn s = true) (hw : s.wiping = false)
    (hrate : s.field 0x6000010 7 0 ≠ 0) (hf : s.flaws = []) (hp : s.poison.contains g = false) (h1 : first ≤ g)
    (h2 : g < first + cnt) (h3 : 16 * g < storeEnd) :
    Does (.scrubStep first cnt ⟨[(g, e)], []⟩) s (fun u => u.flaws = [] ∧
        u.mem = (match flawClass e with | .missed r => cellXor s.mem (16 * g) r | _ => s.mem) ∧
        u.poison = (if flawClass e = .detected then s.poison ++ [g] else s.poison)) := by
  obtain ⟨hflaws, hmem, hpoison⟩ := scrubStep_reads (e := e) hon hw hrate hf hp h1 h2 h3
  obtain ⟨hflaws', hmem', hpoison'⟩ := flawRead_leaves (s := count 0x0AF cnt none none none { s with flaws := [(g, e)] }) .tsc g e hp
  refine ⟨_, rfl, ?_, ?_, hpoison.trans hpoison'⟩
  · rw [hflaws, hflaws']
    simp [count, tabDel]
  · rw [hmem, hmem']
    cases flawClass e <;> rfl

end

/-! ## Writes -/

section
variable {s t t' : State} {n : Fin 64} {p q : Packet} {c : MsgCtx} {first complete : Bool}

/-- What a packet of a STORE_WRITE that keeps to Table 11.3 writes. -/
def written (n : Nat) (p : Packet) (c : MsgCtx) (s : State) : State :=
  let sp := spans (scAddr p) (scRows p) (scStride p) (fmtSize (scM p)) (scElem p) (p.paylen / fmtSize (scW p))
  let (bs, s) := tscConvert (scW p) (scM p) c.convInf p.data s
  writeSpans sp bs (crossRows (quadOf n) (fmtSize (scW p)) (fmtSize (scM p)) sp s)

/-- R275: what a message owes once its packet is done with. -/
def messageOwes (c : MsgCtx) (complete : Bool) (s : State) : State :=
  if !complete then putMsg c s else if c.bad then s else addRelease c.port ⟨c.hdr, []⟩ .awaitEnd s

/-- The first packet of a message counts it. -/
def firstCounted (first : Bool) (n : Nat) (p : Packet) (s : State) : State := if first then countPkt 0x0A0 n p s else s

theorem storeWriteIn_eq (hin : msgArrive .tsc n.val q t = (.counted c first complete, t')) :
    storeWriteIn n.val q t = messageOwes { c with bad := c.bad || rwRow t' q != 0 } complete
      (if rwRow t' q ≠ 0 then rowFail (rwRow t' q) n.val q (firstCounted first n.val q t')
        else written n.val q c (firstCounted first n.val q t')) := by
  have hrow : rwRow (firstCounted first n.val q t') q = rwRow t' q := by cases first <;> rfl
  rw [← hrow]
  unfold storeWriteIn
  rw [hin]
  rfl

theorem firstCounted_only (first : Bool) (n : Nat) (p : Packet) (s : State) : OnlyRegs s (firstCounted first n p s) := by
  unfold firstCounted
  split
  · exact count_only _ _ _ _ _ _
  · exact OnlyRegs.refl s

theorem crossRows_only (f w m : Nat) (sp : List (Nat × Nat)) (s : State) : OnlyRegs s (crossRows f w m sp s) :=
  foldl_keeps OnlyRegs.refl OnlyRegs.trans (fun _ _ => cross_only _ _ _ _) _ s

theorem writeSpans_only (sp : List (Nat × Nat)) (bs : List Byte) (s : State) : OnlyStore s (writeSpans sp bs s) :=
  foldl_invariant (P := fun x : List Byte × State => OnlyStore s x.2) (fun _ _ h => h.trans (storeWrite_only _ _ _))
    (OnlyStore.refl s)

theorem tscConvert_fst (a b : Nat) (convInf : Bool) (bs : List Byte) (s : State) :
    (tscConvert a b convInf bs s).1 = converted a b convInf bs := by
  simp [tscConvert, converted, List.map_map, Function.comp_def]

/-- What a written packet's bytes are written to: a state with the store as it was. -/
theorem written_eq (n : Nat) (p : Packet) (c : MsgCtx) (s : State) : ∃ v, OnlyRegs s v ∧ written n p c s = writeSpans
    (spans (scAddr p) (scRows p) (scStride p) (fmtSize (scM p)) (scElem p) (p.paylen / fmtSize (scW p)))
    (converted (scW p) (scM p) c.convInf p.data) v := by
  refine ⟨_, ?_, congrArg (fun bs => writeSpans _ bs _) (tscConvert_fst _ _ _ _ s)⟩
  exact (tscFlags_only _ s).trans (crossRows_only _ _ _ _ _)

theorem messageOwes_keeps (c : MsgCtx) (complete : Bool) (s : State) : (messageOwes c complete s).mem = s.mem ∧
    (messageOwes c complete s).poison = s.poison ∧ (∀ a, (messageOwes c complete s).reg a = s.reg a) ∧
      (messageOwes c complete s).milestones = s.milestones ∧ (messageOwes c complete s).waits = s.waits := by
  unfold messageOwes addRelease
  split
  · exact ⟨rfl, rfl, fun _ => rfl, rfl, rfl⟩
  · split
    · exact ⟨rfl, rfl, fun _ => rfl, rfl, rfl⟩
    · split <;> exact ⟨rfl, rfl, fun _ => rfl, rfl, rfl⟩

theorem messageOwes_releases (c : MsgCtx) (complete : Bool) (s : State) : (messageOwes c complete s).releases =
    s.releases ++ (if complete ∧ c.bad = false ∧ (scMsen ⟨c.hdr, []⟩ || scNtfy ⟨c.hdr, []⟩) then
      [⟨BitVec.ofNat 32 (⟨c.hdr, []⟩ : Packet).src, BitVec.ofNat 32 (⟨c.hdr, []⟩ : Packet).msgId, .awaitEnd, scMs ⟨c.hdr, []⟩,
        BitVec.ofNat 32 (scMsval ⟨c.hdr, []⟩), scMsen ⟨c.hdr, []⟩, scNtfy ⟨c.hdr, []⟩, (⟨c.hdr, []⟩ : Packet).tc, c.port⟩]
      else []) := by
  unfold messageOwes addRelease
  cases complete
  · simp [putMsg]
  · cases hbad : c.bad
    · cases hop : (scMsen ⟨c.hdr, []⟩ || scNtfy ⟨c.hdr, []⟩) <;> simp
    · simp

/-- A list of spans of a write that covers no rows. -/
theorem spans_flat (addr stride ms e k : Nat) : spans addr 0 stride ms e k = if k = 0 then [] else [(addr + e * ms, k * ms)] := rfl

theorem writeSpans_flat {a k ms : Nat} {bs : List Byte} {v : State} (hclean : Clean v a (k * ms)) :
    (writeSpans (if k = 0 then [] else [(a, k * ms)]) bs v).mem = cellWrite 0 v.mem a (bs.take (k * ms)) := by
  by_cases hk : k = 0
  · rw [if_pos hk, hk, Nat.zero_mul, List.take_zero]
    rfl
  · rw [if_neg hk]
    exact storeWrite_clean (clean_part hclean le_rfl (by simp))

/-- R273: a state that has only counted holds the same bytes with the same errors. -/
theorem clean_regs {v : State} {a k : Nat} (hv : OnlyRegs s v) (h : Clean s a k) : Clean v a k := by
  obtain ⟨_, _, _, _, rfl, -⟩ := hv
  exact h

theorem serve_storeWrite (ht : Taken s n p q t) (htyp : q.typ = 0x01) :
    exec (.storeWrite n p) s = .next (storeWriteIn n.val q t) := next_congr (serve_typ ht htyp)

/-- What a packet taken in and counted finds of the store and the milestones. -/
theorem counted_keeps (ht : Taken s n p q t) (hin : msgArrive .tsc n.val q t = (.counted c first complete, t')) :
    t'.mem = s.mem ∧ t'.poison = s.poison ∧ t'.flaws = s.flaws ∧ t'.milestones = s.milestones ∧ t'.waits = s.waits ∧
      t'.releases = s.releases :=
  ⟨(counted_having (f := State.mem) hin).trans (taken_having ht), (counted_having (f := State.poison) hin).trans (taken_having ht),
    (counted_having (f := State.flaws) hin).trans (taken_having ht),
    (counted_having (f := State.milestones) hin).trans (taken_having ht),
    (counted_having (f := State.waits) hin).trans (taken_having ht),
    (counted_having (f := State.releases) hin).trans (taken_having ht)⟩

theorem storeWrite_flat (ht : Taken s n p q t) (htyp : q.typ = 0x01)
    (hin : msgArrive .tsc n.val q t = (.counted c first complete, t')) (hrow : rwRow t' q = 0) (hrows : scRows q = 0)
    (hclean : Clean s (scAddr q + scElem q * fmtSize (scM q)) (q.paylen / fmtSize (scW q) * fmtSize (scM q))) :
    ∃ v, exec (.storeWrite n p) s = .next (messageOwes c complete v) ∧ OnlyStore t' v ∧
      v.mem = cellWrite 0 s.mem (scAddr q + scElem q * fmtSize (scM q))
        ((converted (scW q) (scM q) c.convInf q.data).take (q.paylen / fmtSize (scW q) * fmtSize (scM q))) := by
  obtain ⟨hmem, hpoison, hflaws, -⟩ := counted_keeps ht hin
  obtain ⟨v, hv, hwritten⟩ := written_eq n.val q c (firstCounted first n.val q t')
  have hv' := (firstCounted_only first n.val q t').trans hv
  have hexec := (serve_storeWrite ht htyp).trans (next_congr (storeWriteIn_eq hin))
  have hc : { c with bad := c.bad || rwRow t' q != 0 } = c := by rw [hrow]; simp
  rw [hc, if_neg (by simp [hrow]), hwritten, hrows, spans_flat] at hexec
  have hkeep : v.mem = s.mem ∧ Clean v (scAddr q + scElem q * fmtSize (scM q))
      (q.paylen / fmtSize (scW q) * fmtSize (scM q)) := by
    have hclean' : Clean t' (scAddr q + scElem q * fmtSize (scM q)) (q.paylen / fmtSize (scW q) * fmtSize (scM q)) := by
      intro g hg
      rw [hpoison, hflaws]
      exact hclean g hg
    refine ⟨?_, clean_regs hv' hclean'⟩
    rw [← hmem]
    obtain ⟨_, _, _, _, rfl, -⟩ := hv'
    rfl
  refine ⟨_, hexec, hv'.raises.store.trans (writeSpans_only _ _ _), ?_⟩
  rw [writeSpans_flat hkeep.2, hkeep.1]

theorem storeWrite_tiled (ht : Taken s n p q t) (htyp : q.typ = 0x01)
    (hin : msgArrive .tsc n.val q t = (.counted c first complete, t')) (hrow : rwRow t' q = 0) (hrows : scRows q ≠ 0) :
    ∃ v, OnlyRegs t' v ∧ exec (.storeWrite n p) s = .next (messageOwes c complete (writeSpans (tileSpans
      (q.paylen / fmtSize (scW q) + 1) (scAddr q) (scStride q) (512 / fmtSize (scM q)) (fmtSize (scM q)) (scElem q)
      (q.paylen / fmtSize (scW q))) (converted (scW q) (scM q) c.convInf q.data) v)) := by
  obtain ⟨v, hv, hwritten⟩ := written_eq n.val q c (firstCounted first n.val q t')
  have hexec := (serve_storeWrite ht htyp).trans (next_congr (storeWriteIn_eq hin))
  have hc : { c with bad := c.bad || rwRow t' q != 0 } = c := by rw [hrow]; simp
  rw [hc, if_neg (by simp [hrow]), hwritten, spans, if_neg hrows] at hexec
  exact ⟨v, (firstCounted_only first n.val q t').trans hv, hexec⟩

/-- Row 3 of Table 11.3: a place outside the store that the fabric sees. -/
theorem rowFail_outside (n : Nat) (p : Packet) (s : State) : (rowFail 3 n p s).mem = s.mem ∧ (rowFail 3 n p s).poison = s.poison ∧
    (rowFail 3 n p s).releases = s.releases ∧ ((rowFail 3 n p s).reg (blkFlt .tsc)).getLsbD 21 = true :=
  ⟨raise_mem _ _ _, raise_poison _ _ _, raise_releases _ _ _, raise_sets .tsc (by decide) _⟩

end

section
variable {s t t' : State} {n : Fin 64} {p q : Packet} {c : MsgCtx} {first complete : Bool}

theorem storeWrite_outside (ht : Taken s n p q t) (htyp : q.typ = 0x01)
    (hin : msgArrive .tsc n.val q t = (.counted c first complete, t')) (hrow : rwRow t' q = 3) :
    Does (.storeWrite n p) s (fun u => u.mem = s.mem ∧ u.poison = s.poison ∧ u.releases = s.releases ∧
        (u.reg (blkFlt .tsc)).getLsbD 21 = true) := by
  obtain ⟨hmem, hpoison, -, -, -, hreleases⟩ := counted_keeps ht hin
  have hexec := (serve_storeWrite ht htyp).trans (next_congr (storeWriteIn_eq hin))
  rw [hrow, if_pos (by decide)] at hexec
  refine ⟨_, hexec, ?_⟩
  have hfirst : (firstCounted first n.val q t').mem = t'.mem ∧ (firstCounted first n.val q t').poison = t'.poison ∧
      (firstCounted first n.val q t').releases = t'.releases := by
    obtain ⟨_, _, _, _, h, -⟩ := firstCounted_only first n.val q t'
    rw [h]
    exact ⟨rfl, rfl, rfl⟩
  obtain ⟨hm, hp, hr, hflt⟩ := rowFail_outside n.val q (firstCounted first n.val q t')
  generalize rowFail 3 n.val q (firstCounted first n.val q t') = v at *
  obtain ⟨hm', hp', hreg, -, -⟩ := messageOwes_keeps { c with bad := c.bad || 3 != 0 } complete v
  have hr' := messageOwes_releases { c with bad := c.bad || 3 != 0 } complete v
  rw [if_neg (by simp), List.append_nil] at hr'
  refine ⟨hm'.trans (hm.trans (hfirst.1.trans hmem)), hp'.trans (hp.trans (hfirst.2.1.trans hpoison)),
    hr'.trans (hr.trans (hfirst.2.2.trans hreleases)), ?_⟩
  rw [hreg]
  exact hflt

theorem moveRelease_eq (src msgId : W32) (a b : RelStage) (s : State) : moveRelease src msgId a b s =
    { s with releases := s.releases.map (fun r => if r.src = src ∧ r.msgId = msgId ∧ r.stage = a then { r with stage := b } else r) } := by
  unfold moveRelease
  simp only [Bool.and_eq_true, beq_iff_eq, and_assoc]

end

/-- Settles O10. -/
theorem storeHoldsWhatIsWritten : Obligations.StoreHoldsWhatIsWritten := by
  unfold Obligations.StoreHoldsWhatIsWritten
  refine ⟨fun s first count g e ch => ⟨scrubStep_does, fun hw => ?_, fun hon => ?_⟩, fun s n p q t t' c first complete src msgId =>
    ⟨fun ht htyp hin hrow hrows hclean => ?_, fun ht htyp hin hrow hrows => ?_, storeWrite_outside, fun hon => ?_, fun hon => ?_⟩⟩
  · refine next_congr ?_
    unfold scrubStep
    rw [struckBy, List.foldl_nil]
    exact if_pos (by simp [hw])
  · refine ⟨_, rfl, ?_⟩
    rw [refresh, if_pos hon]
    exact count_countsOnly _ _ _ _ _ _
  · obtain ⟨-, -, -, hmil, hwaits, hrel⟩ := counted_keeps ht hin
    obtain ⟨v, hexec, hv, hmem⟩ := storeWrite_flat ht htyp hin hrow hrows hclean
    obtain ⟨hmem', -, -, hmil', hwaits'⟩ := messageOwes_keeps c complete v
    have hkeep : v.milestones = t'.milestones ∧ v.waits = t'.waits ∧ v.releases = t'.releases := by
      obtain ⟨_, _, _, _, _, _, _, _, _, _, rfl, -⟩ := hv
      exact ⟨rfl, rfl, rfl⟩
    refine ⟨_, hexec, fun x => ?_, hmil'.trans (hkeep.1.trans hmil), hwaits'.trans (hkeep.2.1.trans hwaits), ?_⟩
    · rw [hmem', hmem, cellGet_cellWrite]
    · rw [messageOwes_releases, hkeep.2.2, hrel]
  · obtain ⟨hmem, hpoison, hflaws, hmil, -, -⟩ := counted_keeps ht hin
    obtain ⟨v, hv, hexec⟩ := storeWrite_tiled ht htyp hin hrow hrows
    have hkeep : v.mem = t'.mem ∧ v.poison = t'.poison ∧ v.flaws = t'.flaws ∧ v.milestones = t'.milestones := by
      obtain ⟨_, _, _, _, rfl, -⟩ := hv
      exact ⟨rfl, rfl, rfl, rfl⟩
    obtain ⟨hkm, hkp, hkf, hkms⟩ := hkeep
    refine ⟨_, hexec, v, hkm.trans hmem, hkp.trans hpoison, hkf.trans hflaws, ?_⟩
    have hwrote := writeSpans_only (tileSpans (q.paylen / fmtSize (scW q) + 1) (scAddr q) (scStride q) (512 / fmtSize (scM q))
      (fmtSize (scM q)) (scElem q) (q.paylen / fmtSize (scW q))) (converted (scW q) (scM q) c.convInf q.data) v
    generalize writeSpans (tileSpans (q.paylen / fmtSize (scW q) + 1) (scAddr q) (scStride q) (512 / fmtSize (scM q))
      (fmtSize (scM q)) (scElem q) (q.paylen / fmtSize (scW q))) (converted (scW q) (scM q) c.convInf q.data) v = x at *
    obtain ⟨hmem', -, -, hmil', -⟩ := messageOwes_keeps c complete x
    refine ⟨hmem', hmil'.trans (Eq.trans ?_ (hkms.trans hmil))⟩
    obtain ⟨_, _, _, _, _, _, _, _, _, _, rfl, -⟩ := hwrote
    rfl
  · refine next_congr ?_
    rw [storeWriteEnd, if_pos hon, moveRelease_eq]
  · refine next_congr ?_
    rw [readResponseHanded, if_pos hon, moveRelease_eq]

end Sys2Proof.Proofs
end

section
/-!
PROOFS. Store reads answer with their elements (O11).
-/

namespace Sys2Proof.Proofs
open Sys2Proof Sys2Proof.Machine Sys2Proof.Claims

set_option Elab.async false

/-! ## A response of one packet -/

theorem fmtSize_pos (w : Nat) : 0 < fmtSize w := by
  unfold fmtSize
  split
  · decide
  · split <;> decide

/-- The packet of a response that fits one. -/
def onePacket (req : Packet) (m : W32) (pay : List Byte) : Packet :=
  mkPacket tStoreReadResp req.tc req.src false m 0 1 pay (respFields (BitVec.ofNat 32 req.msgId) 0 (scW req) 0)

theorem runResp_sends {r : Resp} {s t : State} {quad : Nat} {pay : List Byte} (hid : r.id = none) (hsent : r.sent = 0)
    (hpos : 0 < r.total) (hfit : r.total ≤ perPacket (scW r.req)) (hready : respReady r r.total = true)
    (hroom : windowRoom s (r.req.msgId % 4) = true) (hpay : respPayload r r.total s = (some (quad, pay), t)) :
    runResp (packetsLeft r) r s = (none, addRelease r.port r.req .awaitHanded (originateFrom (r.req.msgId % 4) quad
      (onePacket r.req t.msgCtr pay) { t with msgCtr := t.msgCtr + 1 })) := by
  have hone : ceilDiv r.total (perPacket (scW r.req)) = 1 := by
    rw [ceilDiv, Nat.div_eq_iff (by omega)]
    omega
  have hmay : mayRespond s r = true := by rw [mayRespond, hid]; exact hroom
  rw [packetsLeft, hsent, Nat.sub_zero, hone]
  unfold runResp
  dsimp only
  rw [hsent, Nat.sub_zero, Nat.min_eq_right hfit, if_neg (by omega), if_neg (by simp [hready, hmay]), hpay, hid]
  dsimp only
  unfold runResp
  dsimp only
  rw [if_pos (by omega), hone, Nat.zero_div]
  rfl

/-! ## What reading leaves -/

/-- The store has been read: row buffers used, accesses and number exceptions counted, and nothing else changed. -/
def Reading (s t : State) : Prop :=
  ∃ csr ev ex rc, t = { s with csr := csr, evts := ev, excNow := ex, rowCache := rc } ∧ SameRegs s.csr csr

theorem reading_refl (s : State) : Reading s s := ⟨_, _, _, _, rfl, sameRegs_refl _⟩

theorem reading_trans {s t u : State} (h : Reading s t) (k : Reading t u) : Reading s u := by
  obtain ⟨_, _, _, _, rfl, hr⟩ := h
  obtain ⟨_, _, _, _, rfl, kr⟩ := k
  exact ⟨_, _, _, _, rfl, sameRegs_trans hr kr⟩

theorem reading_of_rowsUsed {s t : State} (h : RowsUsed s t) : Reading s t := by
  obtain ⟨_, _, _, rfl, hr⟩ := h
  exact ⟨_, _, _, _, rfl, hr⟩

theorem reading_countExc {a : Nat} (n : Nat) (s : State) (ha : counts a = true) : Reading s (countExc a n s) := by
  unfold countExc
  split
  · exact reading_refl s
  · unfold State.countReg
    split
    · exact ⟨_, _, _, _, rfl, sameRegs_refl _⟩
    · exact ⟨_, _, _, _, rfl, sameRegs_tabSet ha⟩

theorem reading_tscFlags (fs : List Fl) (s : State) : Reading s (tscFlags fs s) :=
  reading_trans (reading_trans (reading_countExc _ s (by decide)) (reading_countExc _ _ (by decide)))
    (reading_countExc _ _ (by decide))

theorem reading_tscConvert (a b : Nat) (convInf : Bool) (bs : List Byte) (s : State) :
    Reading s (tscConvert a b convInf bs s).2 := reading_tscFlags _ s

theorem reading_count (src n : Nat) (port tc grp : Option Nat) (s : State) : Reading s (count src n port tc grp s) :=
  ⟨_, _, _, _, rfl, sameRegs_refl _⟩

theorem reading_cross (f t n : Nat) (s : State) : Reading s (cross f t n s) := by
  unfold cross
  split
  · exact reading_refl s
  · exact reading_count _ _ _ _ _ s

section
variable {s t : State}

theorem reading_mem (h : Reading s t) : t.mem = s.mem := by
  obtain ⟨_, _, _, _, rfl, -⟩ := h
  rfl

theorem reading_flaws (h : Reading s t) : t.flaws = s.flaws := by
  obtain ⟨_, _, _, _, rfl, -⟩ := h
  rfl

theorem reading_poison (h : Reading s t) : t.poison = s.poison := by
  obtain ⟨_, _, _, _, rfl, -⟩ := h
  rfl

theorem reading_msgCtr (h : Reading s t) : t.msgCtr = s.msgCtr := by
  obtain ⟨_, _, _, _, rfl, -⟩ := h
  rfl

theorem reading_room (h : Reading s t) (q : Nat) (hq : q < 4) : windowRoom t q = windowRoom s q := by
  obtain ⟨csr, ev, ex, rc, rfl, hr⟩ := h
  have hplaces : greenPlaces { s with csr := csr, evts := ev, excNow := ex, rowCache := rc } q = greenPlaces s q := by
    have hreg : tabGet csr (0x3000030 + q * 4) = tabGet s.csr (0x3000030 + q * 4) :=
      hr _ (by simp only [counts]; simp; omega)
    unfold greenPlaces State.field State.regN State.reg
    rw [hreg]
  unfold windowRoom
  rw [hplaces]
  rfl

theorem reading_clean (h : Reading s t) {a n : Nat} (hc : Clean s a n) : Clean t a n := by
  obtain ⟨_, _, _, _, rfl, -⟩ := h
  exact hc

/-- R281: bytes without an error are read as they stand. -/
theorem storeRead_reads (b : Blk) {a n : Nat} (hf : s.flaws = []) (hc : Clean s a n) :
    ∃ t, storeRead b a n s = ([], cellRead 0 s.mem a n, t) ∧ Reading s t := by
  obtain ⟨t, ht, hu⟩ := storeRead_clean b hf (unpoisoned_iff.2 fun g hg => by simpa using (hc g hg).1)
  exact ⟨t, ht, reading_of_rowsUsed hu⟩

/-- What the release of an update owes is about the message, not the reading before it. -/
theorem reading_keeps (h : Reading s t) : t.mem = s.mem ∧ t.milestones = s.milestones ∧ t.releases = s.releases ∧
    t.msgCtr = s.msgCtr ∧ t.msgs = s.msgs := by
  obtain ⟨_, _, _, _, rfl, -⟩ := h
  exact ⟨rfl, rfl, rfl, rfl, rfl⟩

end

/-! ## The payload of a STORE_READ -/

section
variable {s t t' : State} {n : Fin 64} {p q : Packet} {c : MsgCtx}

theorem findMsg_dropMsg (src msgId : W32) (s : State) : findMsg (dropMsg src msgId s) src msgId = none := by
  refine List.find?_eq_none.2 fun d hd => ?_
  have hne := (List.mem_filter.1 hd).2
  simp only [Bool.not_eq_true', Bool.not_eq_true] at hne ⊢
  exact hne

/-- A message that is complete has no context any more. -/
theorem findMsg_complete {first : Bool} (hw : Whole t) (hin : msgArrive .tsc n.val q t = (.counted c first true, t')) :
    findMsg t' (BitVec.ofNat 32 q.src) (BitVec.ofNat 32 q.msgId) = none := by
  unfold msgArrive at hin
  split at hin
  · next c0 hc0 =>
    have hkey := List.find?_some hc0
    simp only [Bool.and_eq_true, beq_iff_eq] at hkey
    rw [msgRead, recordRead_clean _ _ _ _ _ _ hw.1 hw.2] at hin
    dsimp only at hin
    split at hin
    · cases hin
    · split at hin
      · cases hin
        have hdrop := findMsg_dropMsg c0.src c0.msgId t
        rw [hkey.1, hkey.2] at hdrop ⊢
        exact hdrop
      · cases hin
  · next hnone =>
    split at hin
    · cases hin
      exact hnone
    · split at hin
      · cases hin
      · cases hin

/-- A message of one packet has the context it begins with. -/
theorem counted_first {b : Blk} {complete : Bool} (hin : msgArrive b n.val q t = (.counted c true complete, t')) (hcnt : q.cnt = 1) :
    complete = true ∧ c = newCtx t n.val q ∧ t' = t := by
  unfold msgArrive at hin
  split at hin
  · split at hin
    · cases hin
    · split at hin
      · cases hin
      · dsimp only at hin
        split at hin <;> cases hin
  · rw [if_pos hcnt] at hin
    cases hin
    exact ⟨rfl, rfl, rfl⟩

end

/-- A quadrant is chosen by two bits. -/
theorem msgId_quad (p : Packet) : p.msgId % 4 < 4 := Nat.mod_lt _ (by decide)

/-- R276: the payload that answers a STORE_READ of no tile rows. -/
theorem respPayload_storeRead {r : Resp} {k : Nat} {s : State} (htyp : r.req.typ = tStoreRead) (hrows : scRows r.req = 0)
    (hk : 0 < k) (hsent : r.sent = 0) (hf : s.flaws = []) (hc : Clean s (scAddr r.req) (k * fmtSize (scM r.req))) :
    ∃ u, Reading s u ∧ respPayload r k s = (some (scAddr r.req / 512 % 4, converted (scM r.req) (scW r.req) r.convInf
      (cellRead 0 s.mem (scAddr r.req) (k * fmtSize (scM r.req)))), u) := by
  obtain ⟨t, ht, hread⟩ := storeRead_reads .tsc hf hc
  have hspans : readSpans .tsc [(scAddr r.req, k * fmtSize (scM r.req))] s =
      ([], cellRead 0 s.mem (scAddr r.req) (k * fmtSize (scM r.req)), t) := by
    rw [readSpans, List.foldl_cons, List.foldl_nil]
    dsimp only
    rw [ht]
    rfl
  refine ⟨_, reading_trans hread (reading_tscConvert (scM r.req) (scW r.req) r.convInf
    (cellRead 0 s.mem (scAddr r.req) (k * fmtSize (scM r.req))) t), ?_⟩
  have hflat : spans (scAddr r.req) 0 (scStride r.req) (fmtSize (scM r.req)) 0 k = [(scAddr r.req, k * fmtSize (scM r.req))] := by
    rw [spans_flat, if_neg hk.ne', Nat.zero_mul, Nat.add_zero]
  unfold respPayload
  rw [htyp, hsent, hrows]
  dsimp only
  rw [if_neg (by decide), if_neg (by decide), hflat, hspans]
  dsimp only
  rw [if_pos (by rfl), tscConvert_fst]
  rfl

theorem findMsg_congr {s t : State} (h : t.msgs = s.msgs) {src msgId : W32} : findMsg t src msgId = findMsg s src msgId := by
  rw [findMsg, findMsg, h]

theorem stopList_none {s : State} {src msgId : W32} (h : findMsg s src msgId = none) : stopList src msgId s = s := by
  unfold stopList
  rw [h]

theorem addRelease_msgs (port : Nat) (req : Packet) (stage : RelStage) (s : State) :
    (addRelease port req stage s).msgs = s.msgs := by
  unfold addRelease
  split <;> rfl

/-- What sending a packet does not touch is as it was. -/
theorem originateFrom_having {β : Type} {f : State → β} (quad mq : Nat) (p : Packet) (s : State)
    (e : ∀ (t : State) csr w ev ex r ag ge gp co ps sp q, f { t with
        csr := csr, w1cSet := w, evts := ev, excNow := ex, raised := r, again := ag, gerr := ge, gpoison := gp,
          corrected := co, ports := ps, spread := sp, seqCtr := q } = f t := by intros; rfl) :
    f (originateFrom quad mq p s) = f s := Having.sends rfl (originateFrom_only quad mq p s) (e s)

/-- A STORE_READ or a GATHER_SUM whose elements are ready goes on by sending. -/
theorem goOn_runs {r : Resp} {s : State} (htyp : r.req.typ ≠ tGather) : goOn r s = runResp (packetsLeft r) r s := by
  unfold goOn
  rw [if_neg htyp]
  rfl

/-- R276: what answers a STORE_READ in one packet. -/
theorem pushResp_storeRead {r : Resp} {s : State} (htyp : r.req.typ = tStoreRead) (hrows : scRows r.req = 0) (hid : r.id = none)
    (hsent : r.sent = 0) (hpos : 0 < r.total) (hfit : r.total ≤ perPacket (scW r.req))
    (hroom : windowRoom s (r.req.msgId % 4) = true) (hf : s.flaws = []) (hc : Clean s (scAddr r.req) (r.total * fmtSize (scM r.req)))
    (hmsg : findMsg s (BitVec.ofNat 32 r.req.src) (BitVec.ofNat 32 r.req.msgId) = none) :
    ∃ u, Reading s u ∧ pushResp r s = addRelease r.port r.req .awaitHanded
      (originateFrom (r.req.msgId % 4) (scAddr r.req / 512 % 4) (onePacket r.req u.msgCtr (converted (scM r.req) (scW r.req) r.convInf
        (cellRead 0 s.mem (scAddr r.req) (r.total * fmtSize (scM r.req))))) { u with msgCtr := u.msgCtr + 1 }) := by
  obtain ⟨u, hu, hpay⟩ := respPayload_storeRead (k := r.total) htyp hrows hpos hsent hf hc
  have hready : respReady r r.total = true := by
    unfold respReady
    exact if_pos htyp
  have hrun := runResp_sends hid hsent hpos hfit hready hroom hpay
  refine ⟨u, hu, ?_⟩
  unfold pushResp
  rw [goOn_runs (by rw [htyp]; decide), hrun]
  generalize onePacket r.req u.msgCtr (converted (scM r.req) (scW r.req) r.convInf
    (cellRead 0 s.mem (scAddr r.req) (r.total * fmtSize (scM r.req)))) = x
  have hmsgs := (originateFrom_having (f := State.msgs) (r.req.msgId % 4) (scAddr r.req / 512 % 4) x
    { u with msgCtr := u.msgCtr + 1 }).trans (reading_keeps hu).2.2.2.2
  generalize originateFrom (r.req.msgId % 4) (scAddr r.req / 512 % 4) x { u with msgCtr := u.msgCtr + 1 } = v at *
  exact stopList_none ((findMsg_congr ((addRelease_msgs _ _ _ _).trans hmsgs)).trans hmsg)

end Sys2Proof.Proofs
end

section
/-!
PROOFS. The rows a list names, read and answered (O11).
-/

namespace Sys2Proof.Proofs
open Sys2Proof Sys2Proof.Machine Sys2Proof.Claims

set_option Elab.async false

/-! ## Tables with the keys 0, 1, 2, … -/

/-- The table of `f 0`, …, `f (n - 1)`. -/
def listed {α : Type} (n : Nat) (f : Nat → α) : Tab α := (List.range n).map (fun j => (j, f j))

theorem listed_succ {α : Type} (n : Nat) (f : Nat → α) : listed (n + 1) f = listed n f ++ [(n, f n)] := by
  simp [listed, List.range_succ]

theorem listed_length {α : Type} (n : Nat) (f : Nat → α) : (listed n f).length = n := by simp [listed]

theorem tabGet_append {α : Type} (t u : Tab α) (k : Nat) : tabGet (t ++ u) k = (tabGet t k).or (tabGet u k) := by
  induction t with
  | nil => simp [tabGet]
  | cons e t ih =>
    obtain ⟨j, v⟩ := e
    simp only [List.cons_append, tabGet]
    split
    · rfl
    · exact ih

theorem tabGet_listed {α : Type} (n : Nat) (f : Nat → α) (i : Nat) : tabGet (listed n f) i = if i < n then some (f i) else none := by
  induction n with
  | zero => simp [listed, tabGet]
  | succ n ih =>
    rw [listed_succ, tabGet_append, ih]
    by_cases h1 : i < n
    · rw [if_pos h1, if_pos (by omega)]
      rfl
    · rw [if_neg h1]
      by_cases h2 : i = n
      · subst h2
        simp [tabGet]
      · rw [if_neg (by omega)]
        simp [tabGet, Ne.symm h2]

/-- A key above all others goes to the end. -/
theorem tabSet_last {α : Type} (t : Tab α) (k : Nat) (v : α) (h : ∀ e ∈ t, e.1 < k) : tabSet t k v = t ++ [(k, v)] := by
  induction t with
  | nil => rfl
  | cons e t ih =>
    obtain ⟨j, w⟩ := e
    have hj : j < k := h _ (List.mem_cons_self ..)
    rw [tabSet, if_neg (by omega), if_neg (by omega), ih fun e he => h e (List.mem_cons_of_mem _ he)]
    rfl

theorem tabSet_listed {α : Type} (n : Nat) (f : Nat → α) : tabSet (listed n f) n (f n) = listed (n + 1) f := by
  rw [listed_succ]
  refine tabSet_last _ _ _ fun e he => ?_
  obtain ⟨j, hj, rfl⟩ := List.mem_map.1 he
  exact List.mem_range.1 hj

/-- Ascending entries join an empty list as they stand. -/
theorem joinEntries_ascending (b n : Nat) (f : Nat → Nat) :
    joinEntries [] ((List.range n).map (fun j => (b + j, f j))) = (List.range n).map (fun j => (b + j, f j)) := by
  induction n with
  | zero => rfl
  | succ n ih =>
    rw [joinEntries] at ih ⊢
    rw [List.range_succ, List.map_append, List.foldl_append, ih]
    refine tabSet_last _ _ _ fun e he => ?_
    obtain ⟨j, hj, rfl⟩ := List.mem_map.1 he
    have := List.mem_range.1 hj
    dsimp only
    omega

theorem range_filter_below (b c n : Nat) : (List.range n).filter (fun j => decide (b + j < c)) = List.range (min n (c - b)) := by
  induction n with
  | zero => simp
  | succ n ih =>
    rw [List.range_succ, List.filter_append, ih]
    by_cases h : b + n < c
    · rw [List.filter_cons, if_pos (by simpa using h), Nat.min_eq_left (by omega), Nat.min_eq_left (by omega), List.range_succ]
      rfl
    · rw [List.filter_cons, if_neg (by simpa using h), Nat.min_eq_right (by omega), Nat.min_eq_right (by omega)]
      simp

/-- R278: a list that names every row in one packet names them in order. -/
theorem listEntries_complete {p : Packet} {cnt : Nat} (hpos : 0 < cnt) (h : (joinEntries [] (listEntries p cnt)).length = cnt) :
    ∃ f : Nat → Nat, listEntries p cnt = listed cnt f ∧ joinEntries [] (listEntries p cnt) = listed cnt f := by
  have hlist : ∃ (n : Nat) (f : Nat → Nat), listEntries p cnt = (List.range (min n (cnt - scElem p))).map (fun j => (scElem p + j, f j)) := by
    refine ⟨((chunksOf 8 256 p.data).map leNat).length, fun j => ((chunksOf 8 256 p.data).map leNat).getD j 0 % 2 ^ 40, ?_⟩
    unfold listEntries
    dsimp only
    rw [List.filter_map, ← range_filter_below]
    rfl
  obtain ⟨n, f, hf⟩ := hlist
  rw [hf, joinEntries_ascending] at h ⊢
  rw [List.length_map, List.length_range] at h
  have hzero : scElem p = 0 := by omega
  refine ⟨f, ?_, ?_⟩ <;> rw [h, hzero, listed] <;> simp only [Nat.zero_add]

/-! ## Elements and their bytes -/

theorem chunksOf_length {α : Type} {n : Nat} (hn : 0 < n) : ∀ (k : Nat) (l : List α), l.length = k * n → (chunksOf n k l).length = k
  | 0, _, _ => rfl
  | k + 1, l, h => by
    rw [Nat.succ_mul] at h
    rw [chunksOf, if_neg (by rw [List.isEmpty_iff]; rintro rfl; simp at h; omega), List.length_cons,
      chunksOf_length hn k _ (by rw [List.length_drop]; omega)]

theorem mem_chunksOf_length {α : Type} {n : Nat} {x : List α} : ∀ (k : Nat) (l : List α), x ∈ chunksOf n k l → x.length ≤ n
  | 0, _, h => nomatch h
  | k + 1, l, h => by
    rw [chunksOf] at h
    split at h
    · nomatch h
    · rcases List.mem_cons.1 h with rfl | h
      · rw [List.length_take]
        omega
      · exact mem_chunksOf_length k _ h

theorem chunksOf_bytes {n : Nat} (hn : 0 < n) : ∀ (k : Nat) (l : List Byte), l.length = k * n →
    (chunksOf n k l).flatMap (fun c => leBytes n (leNat c)) = l
  | 0, l, h => by simp only [Nat.zero_mul, List.length_eq_zero_iff] at h; subst h; rfl
  | k + 1, l, h => by
    rw [Nat.succ_mul] at h
    have hfirst : leBytes n (leNat (l.take n)) = l.take n := by
      have := leBytes_leNat (l.take n)
      rwa [List.length_take, Nat.min_eq_left (by omega)] at this
    rw [chunksOf, if_neg (by rw [List.isEmpty_iff]; rintro rfl; simp at h; omega), List.flatMap_cons, hfirst,
      chunksOf_bytes hn k _ (by rw [List.length_drop]; omega), List.take_append_drop]

section
variable {m : Nat} {bs : List Byte}

theorem elemsOf_length (h : fmtSize m ∣ bs.length) : (elemsOf m bs).length = bs.length / fmtSize m := by
  rw [elemsOf, List.length_map, chunksOf_length (fmtSize_pos m) _ _ (Nat.div_mul_cancel h).symm]

theorem elemBytes_elemsOf (h : fmtSize m ∣ bs.length) : elemBytes m (elemsOf m bs) = bs := by
  rw [elemBytes, elemsOf, List.flatMap_map]
  exact chunksOf_bytes (fmtSize_pos m) _ _ (Nat.div_mul_cancel h).symm

theorem elemsOf_lt {x : Nat} (h : x ∈ elemsOf m bs) : x < 2 ^ 32 := by
  obtain ⟨c, hc, rfl⟩ := List.mem_map.1 h
  have hlen := mem_chunksOf_length _ _ hc
  have hsize : fmtSize m ≤ 4 := by
    unfold fmtSize
    split
    · decide
    · split <;> decide
  calc leNat c < 256 ^ c.length := leNat_lt c
    _ ≤ 256 ^ 4 := Nat.pow_le_pow_right (by decide) (hlen.trans hsize)
    _ = 2 ^ 32 := by decide

end

/-- A table read row by row. -/
theorem range_rows {α : Type} (a b : Nat) (f : Nat → Nat → α) :
    (List.range (a * b)).map (fun i => f (i / a) (i % a)) = (List.range b).flatMap (fun i => (List.range a).map (f i)) := by
  induction b with
  | zero => simp
  | succ b ih =>
    rw [Nat.mul_succ, List.range_add, List.map_append, ih, List.range_succ, List.flatMap_append, List.map_map]
    congr 1
    simp only [List.flatMap_cons, List.flatMap_nil, List.append_nil]
    refine List.map_congr_left fun j hj => ?_
    have hlt := List.mem_range.1 hj
    have hdiv : (a * b + j) / a = b := by rw [Nat.mul_add_div (by omega), Nat.div_eq_of_lt hlt, Nat.add_zero]
    have hmod : (a * b + j) % a = j := by rw [Nat.mul_add_mod, Nat.mod_eq_of_lt hlt]
    rw [Function.comp_apply, hdiv, hmod]

end Sys2Proof.Proofs
end

section
/-!
PROOFS. GATHER and GATHER_SUM (O11).
-/

namespace Sys2Proof.Proofs
open Sys2Proof Sys2Proof.Machine Sys2Proof.Claims

set_option Elab.async false

/-! ## Reading the rows a list names -/

/-- The row at `a` as a GATHER keeps it. -/
def rowAt (req : Packet) (mem : List Host.Cell) (a : Nat) : List W32 :=
  (elemsOf (scM req) (cellRead 0 mem a (scRows req))).map (BitVec.ofNat 32)

/-- The row at `a` as a GATHER_SUM adds it. -/
def wideRowAt (req : Packet) (mem : List Host.Cell) (a : Nat) : List W32 :=
  (elemsOf (scM req) (cellRead 0 mem a (scRows req))).map (fun x => (fmtWiden (scM req) x).1)

section
variable {r : Resp} {s : State} {a : Nat}

theorem readEntry_gather (i : Nat) (htyp : r.req.typ = tGather) (hf : s.flaws = []) (hc : Clean s a (scRows r.req)) :
    ∃ t, Reading s t ∧ readEntry r i a s = (some { r with rows := tabSet r.rows i (rowAt r.req s.mem a) }, t) := by
  obtain ⟨t, ht, hread⟩ := storeRead_reads .tsc hf hc
  refine ⟨t, hread, ?_⟩
  unfold readEntry
  rw [ht]
  dsimp only
  rw [if_neg (by decide), if_pos htyp]
  rfl

theorem readEntry_sum (i : Nat) (htyp : r.req.typ ≠ tGather) (hf : s.flaws = []) (hc : Clean s a (scRows r.req)) :
    ∃ t, Reading s t ∧ readEntry r i a s = (some { r with rows := tabSet r.rows i (wideRowAt r.req s.mem a) }, t) := by
  obtain ⟨t, ht, hread⟩ := storeRead_reads .tsc hf hc
  refine ⟨_, reading_trans hread (reading_tscFlags (((elemsOf (scM r.req) (cellRead 0 s.mem a (scRows r.req))).map
    (fmtWiden (scM r.req))).map Prod.snd) t), ?_⟩
  unfold readEntry
  rw [ht]
  dsimp only
  rw [if_neg (by decide), if_neg htyp, List.map_map]
  rfl

/-- A response whose next elements are not there yet waits. -/
theorem runResp_waits {fuel : Nat} (hleft : r.sent < r.total)
    (hready : respReady r (min (perPacket (scW r.req)) (r.total - r.sent)) = false) : runResp (fuel + 1) r s = (some r, s) := by
  unfold runResp
  dsimp only
  rw [if_neg (by omega), hready]
  rfl

end

/-! ## GATHER -/

section
variable {r : Resp} {A : Nat → Nat}

/-- A GATHER with the first `j` of its rows read. -/
def gathered (r : Resp) (mem : List Host.Cell) (A : Nat → Nat) (j : Nat) : Resp :=
  { r with rows := listed j (fun i => rowAt r.req mem (A i)) }

/-- A list request of one packet, complete, of which nothing is sent. -/
def Fresh (r : Resp) (A : Nat → Nat) : Prop :=
  r.id = none ∧ r.sent = 0 ∧ r.listed = true ∧ r.rows = [] ∧ r.added = 0 ∧ r.entries = listed (scStride r.req) A

theorem respReady_gathered {mem : List Host.Cell} {j : Nat} (htyp : r.req.typ = tGather) (hr : Fresh r A)
    (hre : 0 < rowElems r.req) (hpos : 0 < scStride r.req) :
    respReady (gathered r mem A j) (rowElems r.req * scStride r.req) = decide (scStride r.req ≤ j) := by
  obtain ⟨-, hsent, hlisted, -, -, -⟩ := hr
  have hne : ¬ r.req.typ = tStoreRead := by rw [htyp]; decide
  have hlast : (rowElems r.req * scStride r.req - 1) / rowElems r.req + 1 = scStride r.req := by
    obtain ⟨k, hk⟩ := Nat.exists_eq_add_of_lt hpos
    rw [hk, Nat.zero_add, Nat.mul_succ, show rowElems r.req * k + rowElems r.req - 1 = rowElems r.req * k + (rowElems r.req - 1) by omega,
      Nat.mul_add_div hre, Nat.div_eq_of_lt (by omega)]
  have hrows : ∀ i, (tabGet (listed j (fun i => rowAt r.req mem (A i))) i).isSome = decide (i < j) := by
    intro i
    rw [tabGet_listed]
    by_cases h : i < j <;> simp [h]
  unfold respReady
  change (if r.req.typ = tStoreRead then true else if r.req.typ = tGather then
    (List.range ((r.sent + rowElems r.req * scStride r.req - 1) / max 1 (rowElems r.req) + 1 - r.sent / max 1 (rowElems r.req))).all
      (fun i => (tabGet (listed j (fun i => rowAt r.req mem (A i))) (r.sent / max 1 (rowElems r.req) + i)).isSome) &&
      (r.listed || decide (r.sent + rowElems r.req * scStride r.req < r.total)) else r.listed && r.added == scStride r.req) = _
  rw [if_neg hne, if_pos htyp, hsent, hlisted, Nat.max_eq_right hre, Nat.zero_add, hlast, Nat.zero_div, Nat.sub_zero]
  simp only [hrows, Nat.zero_add, Bool.true_or, Bool.and_true]
  rw [Bool.eq_iff_iff]
  simp only [List.all_eq_true, List.mem_range, decide_eq_true_eq]
  exact ⟨fun h => by by_contra hn; exact absurd (h j (by omega)) (by omega), fun h i hi => by omega⟩

/-- The elements of the rows read, in order, are the rows' bytes. -/
theorem gathered_bytes {mem : List Host.Cell} (hm : fmtSize (scM r.req) ∣ scRows r.req) (n : Nat) :
    elemBytes (scM r.req) ((List.range (rowElems r.req * n)).map (fun i =>
      ((tabOr (listed n (fun i => rowAt r.req mem (A i))) (i / rowElems r.req) []).getD (i % rowElems r.req) 0).toNat)) =
    (List.range n).flatMap (fun i => cellRead 0 mem (A i) (scRows r.req)) := by
  rw [range_rows (rowElems r.req) n (fun i j => ((tabOr (listed n (fun i => rowAt r.req mem (A i))) i []).getD j 0).toNat),
    elemBytes, List.flatMap_assoc]
  refine List.flatMap_congr fun i hi => ?_
  have hlen : fmtSize (scM r.req) ∣ (cellRead 0 mem (A i) (scRows r.req)).length := by rw [cellRead_length]; exact hm
  have hrow : (List.range (rowElems r.req)).map (fun j => ((tabOr (listed n (fun i => rowAt r.req mem (A i))) i []).getD j 0).toNat) =
      elemsOf (scM r.req) (cellRead 0 mem (A i) (scRows r.req)) := by
    rw [tabOr, tabGet_listed, if_pos (List.mem_range.1 hi), Option.getD_some]
    have hcount : (elemsOf (scM r.req) (cellRead 0 mem (A i) (scRows r.req))).length = rowElems r.req := by
      rw [elemsOf_length hlen, cellRead_length]
      rfl
    refine List.ext_getElem (by rw [List.length_map, List.length_range, hcount]) fun j h1 h2 => ?_
    rw [List.getElem_map, List.getElem_range, rowAt, List.getD_eq_getElem _ _ (by rw [List.length_map]; exact h2), List.getElem_map,
      BitVec.toNat_ofNat, Nat.mod_eq_of_lt (elemsOf_lt (List.getElem_mem h2))]
  rw [hrow]
  exact elemBytes_elemsOf hlen

theorem respPayload_gathered {mem : List Host.Cell} {s : State} (htyp : r.req.typ = tGather) (hr : Fresh r A)
    (hre : 0 < rowElems r.req) (hm : fmtSize (scM r.req) ∣ scRows r.req) : ∃ t, Reading s t ∧
      respPayload (gathered r mem A (scStride r.req)) (rowElems r.req * scStride r.req) s =
        (some (tabOr r.entries 0 0 / 512 % 4, converted (scM r.req) (scW r.req) r.convInf
          ((List.range (scStride r.req)).flatMap (fun i => cellRead 0 mem (A i) (scRows r.req)))), t) := by
  obtain ⟨-, hsent, -, -, -, -⟩ := hr
  have hbytes := gathered_bytes (A := A) (mem := mem) hm (scStride r.req)
  have hfst := tscConvert_fst (scM r.req) (scW r.req) r.convInf
    ((List.range (scStride r.req)).flatMap (fun i => cellRead 0 mem (A i) (scRows r.req))) s
  refine ⟨_, reading_tscConvert (scM r.req) (scW r.req) r.convInf
    ((List.range (scStride r.req)).flatMap (fun i => cellRead 0 mem (A i) (scRows r.req))) s, ?_⟩
  have hne : ¬ r.req.typ = tGatherSum := by rw [htyp]; decide
  unfold respPayload
  change (if r.req.typ = tGatherSum then _ else if r.req.typ = tGather then
    (let (pay, s) := tscConvert (scM r.req) (scW r.req) r.convInf (elemBytes (scM r.req)
      ((List.range (rowElems r.req * scStride r.req)).map (fun i => ((tabOr (listed (scStride r.req) (fun i => rowAt r.req mem (A i)))
        ((r.sent + i) / max 1 (rowElems r.req)) []).getD ((r.sent + i) % max 1 (rowElems r.req)) 0).toNat))) s
     (some (tabOr r.entries (r.sent / max 1 (rowElems r.req)) 0 / 512 % 4, pay), s)) else _) = _
  rw [if_neg hne, if_pos htyp, hsent, Nat.max_eq_right hre, Nat.zero_div]
  simp only [Nat.zero_add]
  rw [hbytes, hfst]

/-- One entry of a GATHER read, and what that lets it send (R278). -/
def readOn (acc : Option Resp × State) (e : Nat × Nat) : Option Resp × State :=
  match acc with
  | (none, s) => (none, s)
  | (some r, s) => match readEntry r e.1 e.2 s with
    | (none, s) => (none, sendStatus r.req 1 r.sent s)
    | (some r, s) => runResp (packetsLeft r) r s

theorem goOn_gather {s : State} (htyp : r.req.typ = tGather) :
    goOn r s = (entriesDue s r).foldl readOn (runResp (packetsLeft r) r s) := by
  unfold goOn
  rw [if_pos htyp]
  rfl

theorem readOn_reads {j : Nat} {r' : Resp} {s t : State} (h : readEntry r j (A j) s = (some r', t)) :
    readOn (some r, s) (j, A j) = runResp (packetsLeft r') r' t := by
  unfold readOn
  dsimp only
  rw [h]

/-- Every entry of a GATHER that fits one packet is due. -/
theorem entriesDue_all {s : State} (hr : Fresh r A) (hre : 0 < rowElems r.req)
    (hfit : rowElems r.req * scStride r.req ≤ perPacket (scW r.req)) (hroom : windowRoom s (r.req.msgId % 4) = true) :
    entriesDue s r = listed (scStride r.req) A := by
  obtain ⟨hid, hsent, -, hrows, -, hentries⟩ := hr
  unfold entriesDue
  rw [hid, hsent, hrows, hentries, Nat.max_eq_right hre]
  dsimp only
  rw [if_pos hroom, List.filter_eq_self]
  rintro e he
  obtain ⟨j, hj, rfl⟩ := List.mem_map.1 he
  have hlt := List.mem_range.1 hj
  have hbelow : rowElems r.req * j < rowElems r.req * scStride r.req := Nat.mul_lt_mul_of_pos_left hlt hre
  simp only [Nat.zero_div, Nat.zero_add, Nat.zero_le, decide_true, Bool.true_and, Bool.and_eq_true, decide_eq_true_eq]
  exact ⟨by omega, rfl⟩

/-- What a GATHER that fits one packet, its list complete, has to meet. -/
structure Gathers (r : Resp) (A : Nat → Nat) (s : State) : Prop where
  typ   : r.req.typ = tGather
  fresh : Fresh r A
  row   : 0 < rowElems r.req
  whole : fmtSize (scM r.req) ∣ scRows r.req
  some  : 0 < scStride r.req
  total : r.total = rowElems r.req * scStride r.req
  fits  : rowElems r.req * scStride r.req ≤ perPacket (scW r.req)
  flaws : s.flaws = []
  clean : ∀ i < scStride r.req, Clean s (A i) (scRows r.req)
  room  : windowRoom s (r.req.msgId % 4) = true

theorem gathered_waits {s t : State} (h : Gathers r A s) {j : Nat} (hj : j < scStride r.req) :
    runResp (packetsLeft (gathered r s.mem A j)) (gathered r s.mem A j) t = (some (gathered r s.mem A j), t) := by
  have hready := respReady_gathered (mem := s.mem) (j := j) h.typ h.fresh h.row h.some
  obtain ⟨-, hsent, -⟩ := h.fresh
  have hpos : 0 < rowElems r.req * scStride r.req := Nat.mul_pos h.row h.some
  refine runResp_waits (r := gathered r s.mem A j) ?_ ?_
  · change r.sent < r.total
    rw [hsent, h.total]
    exact hpos
  · change respReady (gathered r s.mem A j) (min (perPacket (scW r.req)) (r.total - r.sent)) = false
    rw [hsent, h.total, Nat.sub_zero, Nat.min_eq_right h.fits, hready, decide_eq_false_iff_not]
    omega

theorem readOn_gathered {s t : State} (h : Gathers r A s) (ht : Reading s t) {j : Nat} (hj : j < scStride r.req) :
    ∃ u, Reading s u ∧ readOn (some (gathered r s.mem A j), t) (j, A j) =
      runResp (packetsLeft (gathered r s.mem A (j + 1))) (gathered r s.mem A (j + 1)) u := by
  obtain ⟨u, hu, hread⟩ := readEntry_gather (r := gathered r s.mem A j) (s := t) j h.typ ((reading_flaws ht).trans h.flaws)
    (reading_clean ht (h.clean j hj))
  have hrows : ({ gathered r s.mem A j with rows := tabSet (gathered r s.mem A j).rows j (rowAt (gathered r s.mem A j).req t.mem (A j)) } :
      Resp) = gathered r s.mem A (j + 1) := by
    have hset := tabSet_listed j (fun i => rowAt r.req s.mem (A i))
    rw [reading_mem ht]
    unfold gathered
    rw [← hset]
    rfl
  rw [hrows] at hread
  exact ⟨u, reading_trans ht hu, readOn_reads hread⟩

theorem readOn_all {s : State} (h : Gathers r A s) {j : Nat} (hj : j < scStride r.req) : ∃ t, Reading s t ∧
    (listed j A).foldl readOn (some (gathered r s.mem A 0), s) = (some (gathered r s.mem A j), t) := by
  induction j with
  | zero => exact ⟨s, reading_refl s, rfl⟩
  | succ j ih =>
    obtain ⟨t, ht, hfold⟩ := ih (by omega)
    obtain ⟨u, hu, hread⟩ := readOn_gathered h ht (j := j) (by omega)
    refine ⟨u, hu, ?_⟩
    rw [listed_succ, List.foldl_append, hfold, List.foldl_cons, List.foldl_nil, hread]
    exact gathered_waits h hj

/-- R279: what answers a GATHER in one packet. -/
theorem goOn_gathers {s : State} (h : Gathers r A s) : ∃ u, Reading s u ∧ goOn r s = (none, addRelease r.port r.req .awaitHanded
    (originateFrom (r.req.msgId % 4) (tabOr r.entries 0 0 / 512 % 4) (onePacket r.req u.msgCtr (converted (scM r.req) (scW r.req)
      r.convInf ((List.range (scStride r.req)).flatMap (fun i => cellRead 0 s.mem (A i) (scRows r.req)))))
        { u with msgCtr := u.msgCtr + 1 })) := by
  obtain ⟨k, hk⟩ : ∃ k, scStride r.req = k + 1 := ⟨scStride r.req - 1, by have := h.some; omega⟩
  obtain ⟨hid, hsent, -, hrows, -, -⟩ := id h.fresh
  have hzero : gathered r s.mem A 0 = r := by
    unfold gathered
    rw [show listed 0 (fun i => rowAt r.req s.mem (A i)) = ([] : Tab (List W32)) from rfl, ← hrows]
  have hstart := gathered_waits (t := s) h h.some
  rw [hzero] at hstart
  obtain ⟨t, ht, hfold⟩ := readOn_all h (j := k) (by omega)
  obtain ⟨v, hv, hlast⟩ := readOn_gathered h ht (j := k) (by omega)
  obtain ⟨u, hu, hpay⟩ := respPayload_gathered (mem := s.mem) (s := v) h.typ h.fresh h.row h.whole
  have hready := respReady_gathered (mem := s.mem) (j := scStride r.req) h.typ h.fresh h.row h.some
  have hsends := runResp_sends (r := gathered r s.mem A (scStride r.req)) (s := v) (t := u) hid hsent
    (h.total ▸ Nat.mul_pos h.row h.some) (h.total ▸ h.fits) (by
      change respReady _ r.total = true
      rw [h.total, hready]
      exact decide_eq_true le_rfl) ((reading_room hv _ (msgId_quad _)).trans h.room) (by
      change respPayload _ r.total v = _
      rw [h.total]
      exact hpay)
  refine ⟨u, reading_trans hv hu, ?_⟩
  rw [goOn_gather h.typ, hstart, entriesDue_all h.fresh h.row h.fits h.room, hk, listed_succ, List.foldl_append, ← hzero, hfold,
    List.foldl_cons, List.foldl_nil, hlast, ← hk, hsends, hzero]
  rfl

end

end Sys2Proof.Proofs
end

section
/-!
PROOFS. GATHER_SUM, and what a request of one packet is answered with (O11).
-/

namespace Sys2Proof.Proofs
open Sys2Proof Sys2Proof.Machine Sys2Proof.Claims

set_option Elab.async false

/-! ## GATHER_SUM -/

section
variable {r : Resp} {s : State}

/-- A row joins a sum (R280). -/
def sumWith (convInf : Bool) (acc row : List W32) : List W32 := (acc.zip row).map (fun x => (fadd convInf x.1 x.2).1)

theorem sumWith_length (convInf : Bool) (acc row : List W32) : (sumWith convInf acc row).length ≤ acc.length := by
  rw [sumWith, List.length_map, List.length_zip]
  exact Nat.min_le_left _ _

theorem foldl_sumWith_length (convInf : Bool) (row : Nat → List W32) : ∀ (l : List Nat) (acc : List W32),
    (l.foldl (fun acc b => sumWith convInf acc (row b)) acc).length ≤ acc.length
  | [], _ => le_rfl
  | b :: l, acc => (foldl_sumWith_length convInf row l _).trans (sumWith_length convInf acc (row b))

/-- One row of a GATHER_SUM, after the first, is added. -/
theorem addRows_adds {f : Nat} {row : List W32} (hrow : tabGet r.rows r.added = some row) (hadded : r.added ≠ 0) :
    ∃ t, Reading s t ∧ addRows (f + 1) r s = addRows f { r with
      rows := tabDel r.rows r.added, added := r.added + 1, sum := sumWith r.convInf r.sum row } t := by
  refine ⟨_, reading_tscFlags ((((r.sum.zip row).map (fun x => fadd r.convInf x.1 x.2))).map Prod.snd) s, ?_⟩
  rw [addRows, hrow]
  dsimp only
  rw [if_neg hadded, sumWith, List.map_map]
  rfl

theorem addRows_stops {f : Nat} (hrow : tabGet r.rows r.added = none) : addRows f r s = (r, s) := by
  cases f with
  | zero => rfl
  | succ f => rw [addRows, hrow]

/-- Rows that have all come are added in ascending list index. -/
theorem addRows_rest (row : Nat → List W32) : ∀ (l : List Nat) (f : Nat) (r : Resp) (s : State), l.length ≤ f → r.added ≠ 0 →
    (∀ i, tabGet r.rows (r.added + i) = (l[i]?).map row) → ∃ x t, Reading s t ∧ addRows f r s = ({ r with
      rows := x, added := r.added + l.length, sum := l.foldl (fun acc b => sumWith r.convInf acc (row b)) r.sum }, t)
  | [], f, r, s, _, _, hrows => ⟨r.rows, s, reading_refl s, addRows_stops (by simpa using hrows 0)⟩
  | b :: l, 0, _, _, hf, _, _ => absurd hf (by simp)
  | b :: l, f + 1, r, s, hf, hadded, hrows => by
    have hfirst : tabGet r.rows r.added = some (row b) := by simpa using hrows 0
    obtain ⟨t, ht, hadd⟩ := addRows_adds (s := s) (f := f) hfirst hadded
    have hrest : ∀ i, tabGet (tabDel r.rows r.added) (r.added + 1 + i) = (l[i]?).map row := fun i => by
      rw [tabGet_tabDel, if_neg (by omega), Nat.add_assoc, Nat.add_comm 1 i, hrows (i + 1), List.getElem?_cons_succ]
    obtain ⟨x, u, hu, hgo⟩ := addRows_rest row l f { r with
      rows := tabDel r.rows r.added, added := r.added + 1, sum := sumWith r.convInf r.sum (row b) } t (by simpa using hf)
      (Nat.succ_ne_zero _) hrest
    refine ⟨x, u, reading_trans ht hu, ?_⟩
    rw [hadd, hgo, List.length_cons, List.foldl_cons]
    dsimp only
    rw [Nat.add_right_comm, ← Nat.add_assoc]

/-- R280: the sum of the rows of a list, once all have been read. -/
theorem addRows_all (row : Nat → List W32) {b : Nat} {l : List Nat} {f : Nat} (hf : l.length + 1 ≤ f) (hadded : r.added = 0)
    (hrows : ∀ i, tabGet r.rows i = ((b :: l)[i]?).map row) : ∃ x t, Reading s t ∧ addRows f r s = ({ r with
      rows := x, added := l.length + 1, sum := l.foldl (fun acc b => sumWith r.convInf acc (row b)) (row b) }, t) := by
  obtain ⟨f, rfl⟩ : ∃ k, f = k + 1 := ⟨f - 1, by omega⟩
  have hfirst : tabGet r.rows r.added = some (row b) := by rw [hadded]; simpa using hrows 0
  have hrest : ∀ i, tabGet (tabDel r.rows r.added) (1 + i) = (l[i]?).map row := fun i => by
    rw [tabGet_tabDel, if_neg (by omega), Nat.add_comm 1 i, hrows (i + 1), List.getElem?_cons_succ]
  obtain ⟨x, u, hu, hgo⟩ := addRows_rest row l f { r with rows := tabDel r.rows r.added, added := 1, sum := row b } s (by omega)
    Nat.one_ne_zero hrest
  refine ⟨x, u, hu, ?_⟩
  rw [addRows, hfirst]
  dsimp only
  rw [if_pos hadded, show r.added + 1 = 1 by rw [hadded], hgo, Nat.add_comm 1 l.length]

/-- The entries of a GATHER_SUM are read as they come. -/
def readNext (acc : Option Resp × State) (e : Nat × Nat) : Option Resp × State :=
  match acc with
  | (some r, s) => readEntry r e.1 e.2 s
  | (none, s) => (none, s)

theorem readNext_all {A : Nat → Nat} (htyp : r.req.typ ≠ tGather) (hf : s.flaws = []) (hrows : r.rows = []) : ∀ (n : Nat),
    (∀ i < n, Clean s (A i) (scRows r.req)) → ∃ t, Reading s t ∧ (listed n A).foldl readNext (some r, s) =
      (some { r with rows := listed n (fun i => wideRowAt r.req s.mem (A i)) }, t)
  | 0, _ => ⟨s, reading_refl s, by
      rw [show listed 0 (fun i => wideRowAt r.req s.mem (A i)) = ([] : Tab (List W32)) from rfl, ← hrows]; rfl⟩
  | n + 1, hc => by
    obtain ⟨t, ht, hfold⟩ := readNext_all htyp hf hrows n fun i hi => hc i (by omega)
    obtain ⟨u, hu, hread⟩ := readEntry_sum (r := { r with rows := listed n (fun i => wideRowAt r.req s.mem (A i)) }) (s := t) n htyp
      ((reading_flaws ht).trans hf) (reading_clean ht (hc n (by omega)))
    refine ⟨u, reading_trans ht hu, ?_⟩
    rw [listed_succ, List.foldl_append, hfold, List.foldl_cons, List.foldl_nil]
    refine hread.trans ?_
    rw [reading_mem ht, ← tabSet_listed n (fun i => wideRowAt r.req s.mem (A i))]
    rfl

end

section
variable {r : Resp} {s : State} {A : Nat → Nat}

theorem takeEntries_gather {es : List (Nat × Nat)} (htyp : r.req.typ = tGather) :
    takeEntries r es s = (some { r with entries := joinEntries r.entries es }, s) := if_pos htyp

/-- The addresses of a list's rows, in order. -/
theorem listed_snd (n : Nat) (A : Nat → Nat) : (listed n A).map Prod.snd = (List.range n).map A := by
  simp [listed, Function.comp_def]

/-- R280: the rows of a list that comes in one packet are read and added. -/
theorem takeEntries_sum {b n : Nat} {l : List Nat} (htyp : r.req.typ ≠ tGather) (hf : s.flaws = []) (hrows : r.rows = [])
    (hadded : r.added = 0) (hlist : (List.range n).map A = b :: l) (hc : ∀ i < n, Clean s (A i) (scRows r.req))
    (hentries : joinEntries r.entries (listed n A) = listed n A) : ∃ x t, Reading s t ∧
      takeEntries r (listed n A) s = (some { r with
        entries := listed n A, rows := x, added := n
        sum := l.foldl (fun acc b => sumWith r.convInf acc (wideRowAt r.req s.mem b)) (wideRowAt r.req s.mem b) }, t) := by
  have hlen : n = l.length + 1 := by
    have := congrArg List.length hlist
    simpa using this
  obtain ⟨t, ht, hfold⟩ := readNext_all (r := { r with entries := listed n A }) (s := s) (A := A) htyp hf hrows n hc
  have hread : (listed n A).foldl readNext (some { r with entries := listed n A }, s) = (some { r with
    entries := listed n A, rows := listed n (fun i => wideRowAt r.req s.mem (A i)) }, t) := hfold
  have hget : ∀ i, tabGet (listed n (fun i => wideRowAt r.req s.mem (A i))) i = ((b :: l)[i]?).map (wideRowAt r.req s.mem) := by
    intro i
    rw [← hlist, tabGet_listed]
    by_cases h : i < n
    · rw [if_pos h, List.getElem?_map, List.getElem?_range h]
      rfl
    · rw [if_neg h, List.getElem?_eq_none (by simpa using h)]
      rfl
  obtain ⟨x, u, hu, hadd⟩ := addRows_all (r := { r with
    entries := listed n A, rows := listed n (fun i => wideRowAt r.req s.mem (A i)) }) (s := t)
    (f := (listed n A).length + (listed n (fun i => wideRowAt r.req s.mem (A i))).length) (wideRowAt r.req s.mem) (b := b) (l := l)
    (by rw [listed_length, listed_length]; omega) hadded hget
  refine ⟨x, u, reading_trans ht hu, ?_⟩
  unfold takeEntries
  rw [hentries]
  refine (if_neg htyp).trans ?_
  change (match (listed n A).foldl readNext (some { r with entries := listed n A }, s) with
    | (none, s) => (none, s)
    | (some r, s) => let (r, s) := addRows ((listed n A).length + r.rows.length) r s; (some r, s)) = _
  rw [hread]
  dsimp only
  rw [hadd, hlen]

/-- R280: what answers a GATHER_SUM in one packet. -/
theorem goOn_sums (htyp : r.req.typ = tGatherSum) (hid : r.id = none) (hsent : r.sent = 0) (hlisted : r.listed = true)
    (hadded : r.added = scStride r.req) (hpos : 0 < r.total) (hfit : r.total ≤ perPacket (scW r.req))
    (hsum : r.sum.length ≤ r.total) (hroom : windowRoom s (r.req.msgId % 4) = true) :
    ∃ u, Reading s u ∧ goOn r s = (none, addRelease r.port r.req .awaitHanded (originateFrom (r.req.msgId % 4) (r.req.msgId % 4)
      (onePacket r.req u.msgCtr (converted 0 (scW r.req) r.convInf (elemBytes 0 (r.sum.map BitVec.toNat))))
        { u with msgCtr := u.msgCtr + 1 })) := by
  have hready : respReady r r.total = true := by
    unfold respReady
    rw [htyp, if_neg (by decide), if_neg (by decide), hlisted, hadded]
    exact beq_self_eq_true _
  have hpay : respPayload r r.total s = (some (r.req.msgId % 4, converted 0 (scW r.req) r.convInf
      (elemBytes 0 (r.sum.map BitVec.toNat))), (tscConvert 0 (scW r.req) r.convInf (elemBytes 0 (r.sum.map BitVec.toNat)) s).2) := by
    have hslice : slice r.sum 0 r.total = r.sum := by rw [slice, List.drop_zero, List.take_of_length_le hsum]
    unfold respPayload
    rw [htyp, if_pos rfl, hsent, hslice]
    dsimp only
    rw [tscConvert_fst]
  refine ⟨_, reading_tscConvert 0 (scW r.req) r.convInf (elemBytes 0 (r.sum.map BitVec.toNat)) s, ?_⟩
  rw [goOn_runs (by rw [htyp]; decide)]
  exact runResp_sends hid hsent hpos hfit hready hroom hpay

/-! ## Requests of one packet -/

/-- Rows 0 of Table 11.4: the list packet is taken. -/
theorem listPacket_goes {n : Nat} {p : Packet} {r' : Resp} {t u : State} (hrow : gatherRow p = 0)
    (hentries : entriesRow s r.entries (listEntries p (scStride r.req)) (scRows r.req) (scStride r.req) true = 0)
    (htake : takeEntries r (listEntries p (scStride r.req)) s = (some r', t))
    (hgo : goOn { r' with listed := true } t = (none, u)) : (listPacket r n p true s).2 = u := by
  unfold listPacket
  dsimp only
  rw [hrow, hentries, if_neg (by decide), htake]
  dsimp only
  rw [hgo]

theorem reading_field {t : State} (h : Reading s t) {a hi lo : Nat} (ha : counts a = false) : t.field a hi lo = s.field a hi lo := by
  obtain ⟨csr, ev, ex, rc, rfl, hr⟩ := h
  have hreg := hr a ha
  unfold State.field State.regN State.reg
  rw [hreg]

theorem reading_entriesRow {t : State} (h : Reading s t) (have_ : Tab Nat) (es : List (Nat × Nat)) (rb cnt : Nat) (complete : Bool) :
    entriesRow t have_ es rb cnt complete = entriesRow s have_ es rb cnt complete := by
  have hvis : ∀ a n, fabricVisible t a n = fabricVisible s a n := fun a n => by
    have hbase : regionBase t = regionBase s := reading_field h (by decide)
    have hend : regionEnd t = regionEnd s := by rw [regionEnd, regionEnd, hbase, reading_field h (by decide)]
    rw [fabricVisible, fabricVisible, hbase, hend]
  simp only [entriesRow, hvis]

theorem reading_resps {t : State} (h : Reading s t) : t.resps = s.resps := by
  obtain ⟨_, _, _, _, rfl, -⟩ := h
  rfl

theorem dropResp_none {src msgId : W32} (h : findResp s src msgId = none) : dropResp src msgId s = s := by
  have hall : s.resps.filter (fun r => !(r.req.src == src.toNat && r.req.msgId == msgId.toNat)) = s.resps :=
    List.filter_eq_self.2 fun r hr => by
      have := List.find?_eq_none.1 h r hr
      rw [Bool.not_eq_true] at this
      rw [this]
      rfl
  unfold dropResp
  rw [hall]

/-- A response as its request opens it. -/
def opened (n : Nat) (q : Packet) (s : State) : Resp :=
  Resp.start ⟨q.hdr, []⟩ n (convInfNow s) (rowElems ⟨q.hdr, []⟩ *
    (if (⟨q.hdr, []⟩ : Packet).typ = tGather then scStride ⟨q.hdr, []⟩ else 1))

/-- R278: a list of one packet opens its response and is taken at once. -/
theorem gatherIn_one {n : Nat} {q : Packet} {t : State} (hin : msgArrive .tsc n q t = (.counted (newCtx t n q) true true, t))
    (hfresh : findResp t (BitVec.ofNat 32 q.src) (BitVec.ofNat 32 q.msgId) = none) :
    ∃ v, Reading t v ∧ gatherIn n q t = (listPacket (opened n q t) n q true v).2 := by
  have hcount := reading_count (if q.typ = tGather then 0x0A2 else 0x0A3) 1 (some n) (some q.tc) none t
  have hcross := reading_trans hcount (reading_cross (quadOf n) (q.msgId % 4) (q.flits - 1) (countPkt (if q.typ = tGather then 0x0A2 else
    0x0A3) n q t))
  refine ⟨_, hcross, ?_⟩
  have hfind : findResp (countPkt (if q.typ = tGather then 0x0A2 else 0x0A3) n q t) (newCtx t n q).src (newCtx t n q).msgId = none :=
    hfresh
  have hdrop := dropResp_none (s := cross (quadOf n) (q.msgId % 4) (q.flits - 1) (countPkt (if q.typ = tGather then 0x0A2 else
    0x0A3) n q t)) (src := (newCtx t n q).src) (msgId := (newCtx t n q).msgId) (by
      rw [findResp, reading_resps hcross]
      exact hfresh)
  unfold gatherIn
  rw [hin]
  dsimp only
  rw [if_pos rfl, hfind, hdrop]
  rfl

end

end Sys2Proof.Proofs
end

section
/-!
PROOFS. What the store's read commands are answered with (O11).
-/

namespace Sys2Proof.Proofs
open Sys2Proof Sys2Proof.Machine Sys2Proof.Claims

set_option Elab.async false

section
variable {s t t' : State} {n : Fin 64} {p q : Packet} {c : MsgCtx} {first : Bool}

/-- A response of one packet, as the claims write it. -/
def Answer (s : State) (q : Packet) (port quad : Nat) (pay : List Byte) (u : State) : Prop :=
  ∃ v, v.mem = s.mem ∧ v.milestones = s.milestones ∧ v.releases = s.releases ∧
    v.msgCtr = s.msgCtr + 1 ∧ u = addRelease port q .awaitHanded (originateFrom (q.msgId % 4) quad (mkPacket 0x03 q.tc q.src false
      s.msgCtr 0 1 pay [(256, 32, q.msgId), (288, 8, 0), (296, 4, scW q), (320, 32, 0)]) v)

theorem msgId_lt (p : Packet) : p.msgId < 2 ^ 32 := Nat.mod_lt _ (by decide)

theorem onePacket_eq (req : Packet) (m : W32) (pay : List Byte) : onePacket req m pay = mkPacket 0x03 req.tc req.src false m 0 1 pay
    [(256, 32, req.msgId), (288, 8, 0), (296, 4, scW req), (320, 32, 0)] := by
  have hid : (BitVec.ofNat 32 req.msgId).toNat = req.msgId := by rw [BitVec.toNat_ofNat, Nat.mod_eq_of_lt (msgId_lt req)]
  unfold onePacket respFields
  rw [hid]
  rfl

/-- What reads from a state as the request found it answers as the claims write it. -/
theorem answer_of_sent {port quad : Nat} {pay : List Byte} {u : State} (hu : Reading t' u) (hmem : t'.mem = s.mem)
    (hmil : t'.milestones = s.milestones) (hrel : t'.releases = s.releases) (hctr : t'.msgCtr = s.msgCtr) :
    Answer s q port quad pay (addRelease port ⟨q.hdr, []⟩ .awaitHanded (originateFrom ((⟨q.hdr, []⟩ : Packet).msgId % 4) quad
      (onePacket ⟨q.hdr, []⟩ u.msgCtr pay) { u with msgCtr := u.msgCtr + 1 })) := by
  obtain ⟨h1, h2, h3, h4, -⟩ := reading_keeps hu
  have h5 : u.msgCtr = s.msgCtr := h4.trans hctr
  refine ⟨{ u with msgCtr := u.msgCtr + 1 }, h1.trans hmem, h2.trans hmil, h3.trans hrel, congrArg (· + 1) h5, ?_⟩
  rw [onePacket_eq, h5]
  rfl

theorem counted_msgCtr (ht : Taken s n p q t) {complete : Bool} (hin : msgArrive .tsc n.val q t = (.counted c first complete, t')) :
    t'.msgCtr = s.msgCtr := (counted_having (f := State.msgCtr) hin).trans (taken_having ht)

theorem fits_packet {w k : Nat} (h : k * fmtSize w ≤ 2048) : k ≤ perPacket w := (Nat.le_div_iff_mul_le (fmtSize_pos w)).2 h

/-- Rows 0 of Table 11.3: a STORE_READ reads an element. -/
theorem rwRow_reads (htyp : q.typ = 0x02) (h : rwRow t q = 0) : 0 < scElem q := by
  have hrd : ((2 : Nat) == tStoreRead) = true := rfl
  unfold rwRow at h
  rw [htyp] at h
  simp only [hrd, ↓reduceIte] at h
  split at h
  · cases h
  · split at h
    · cases h
    · next hrow =>
      by_contra hz
      exact hrow (.inr (.inr (.inr ⟨trivial, .inl (by omega)⟩)))

/-- R276: a STORE_READ is answered with its elements. -/
theorem storeRead_answers (ht : Taken s n p q t) (htyp : q.typ = 0x02)
    (hin : msgArrive .tsc n.val q t = (.counted c first true, t')) (hrow : rwRow t' q = 0) (hrows : scRows q = 0)
    (hfit : scElem q * fmtSize (scW q) ≤ 2048) (hf : s.flaws = []) (hc : Clean s (scAddr q) (scElem q * fmtSize (scM q)))
    (hroom : windowRoom t' (q.msgId % 4) = true) : Does (.storeRead n p) s (Answer s q n.val (scAddr q / 512 % 4)
      (converted (scM q) (scW q) c.convInf (cellRead 0 s.mem (scAddr q) (scElem q * fmtSize (scM q))))) := by
  obtain ⟨hmem, hpoison, hflaws, hmil, -, hrel⟩ := counted_keeps ht hin
  have hcount := reading_count 0x0A1 1 (some n.val) (some q.tc) none t'
  have hclean : Clean t' (scAddr q) (scElem q * fmtSize (scM q)) := fun g hg => by
    rw [hpoison, hflaws]
    exact hc g hg
  have hmsg := findMsg_complete (taken_whole ht) hin
  obtain ⟨u, hu, hpush⟩ := pushResp_storeRead (r := Resp.start q n.val c.convInf (scElem q))
    (s := countPkt 0x0A1 n.val q t') htyp hrows rfl rfl (rwRow_reads htyp hrow) (fits_packet hfit) hroom (hflaws.trans hf) hclean hmsg
  have hdo : storeReadIn n.val q t = pushResp (Resp.start q n.val c.convInf (scElem q)) (countPkt 0x0A1 n.val q t') := by
    unfold storeReadIn
    rw [hin]
    dsimp only
    rw [if_neg]
    rw [not_not]
    exact hrow
  refine ⟨_, next_congr ((serve_typ ht htyp).trans (hdo.trans hpush)), ?_⟩
  have hmem' : (countPkt 0x0A1 n.val q t').mem = s.mem := hmem
  rw [hmem']
  exact answer_of_sent (reading_trans hcount hu) hmem hmil hrel (counted_msgCtr ht hin)

/-- Rows 0 of Table 11.4: the list names rows of whole elements. -/
theorem gatherRow_rows (h : gatherRow q = 0) : 0 < scRows q / fmtSize (scM q) ∧ fmtSize (scM q) ∣ scRows q ∧ 0 < scStride q := by
  unfold gatherRow at h
  dsimp only at h
  generalize (if q.typ = tGatherSum then (scM q == 1 || scM q == 2) && fmtFloat (scW q) else fmtPair (scW q) (scM q)) = ok at h
  generalize (if q.typ = tGather then scStride q else 1) = k at h
  split at h
  · cases h
  · split at h
    · cases h
    · next hrow =>
      simp only [not_or, not_lt, not_not] at hrow
      obtain ⟨h16, -, hdvd, -, hone, -⟩ := hrow
      have hsize : fmtSize (scM q) ≤ 4 := by
        unfold fmtSize
        split
        · decide
        · split <;> decide
      exact ⟨Nat.div_pos (by omega) (fmtSize_pos _), Nat.dvd_of_mod_eq_zero hdvd, hone⟩

/-- R279: a GATHER is answered with the elements of its rows. -/
theorem gather_answers (ht : Taken s n p q t) (htyp : q.typ = 0x04) (hcnt : q.cnt = 1)
    (hin : msgArrive .tsc n.val q t = (.counted c true true, t'))
    (hfresh : findResp s (BitVec.ofNat 32 q.src) (BitVec.ofNat 32 q.msgId) = none) (hroom : windowRoom t' (q.msgId % 4) = true)
    (hf : s.flaws = []) (hrow : gatherRow q = 0)
    (hent : entriesRow t' [] (listEntries q (scStride q)) (scRows q) (scStride q) true = 0)
    (hlen : (joinEntries [] (listEntries q (scStride q))).length = scStride q)
    (hfit : scStride q * (scRows q / fmtSize (scM q)) * fmtSize (scW q) ≤ 2048)
    (hc : ∀ e ∈ listEntries q (scStride q), Clean s e.2 (scRows q)) :
    Does (.gather n p) s (Answer s q c.port (tabOr (joinEntries [] (listEntries q (scStride q))) 0 0 / 512 % 4)
      (converted (scM q) (scW q) c.convInf ((List.range (scStride q)).flatMap (fun i =>
        cellRead 0 s.mem (tabOr (joinEntries [] (listEntries q (scStride q))) i 0) (scRows q))))) := by
  obtain ⟨hmem, hpoison, hflaws, hmil, -, hrel⟩ := counted_keeps ht hin
  have hctr := counted_msgCtr ht hin
  obtain ⟨-, rfl, rfl⟩ := counted_first hin hcnt
  obtain ⟨hre, hwhole, hpos⟩ := gatherRow_rows hrow
  obtain ⟨A, hes, hjoin⟩ := listEntries_complete hpos hlen
  have hfresh' : findResp t' (BitVec.ofNat 32 q.src) (BitVec.ofNat 32 q.msgId) = none := by
    rw [findResp, taken_having (f := State.resps) ht]
    exact hfresh
  obtain ⟨v, hv, hgather⟩ := gatherIn_one hin hfresh'
  have htake := takeEntries_gather (r := opened n.val q t') (s := v) (es := listEntries q (scStride q)) htyp
  have hgathers : Gathers { opened n.val q t' with entries := listed (scStride q) A, listed := true } A v := by
    refine ⟨htyp, ⟨rfl, rfl, rfl, rfl, rfl, rfl⟩, hre, hwhole, hpos, ?_, ?_, (reading_flaws hv).trans (hflaws.trans hf),
      fun i hi => reading_clean hv fun g hg => ?_, (reading_room hv _ (msgId_quad q)).trans hroom⟩
    · exact congrArg (rowElems ⟨q.hdr, []⟩ * ·) (if_pos htyp)
    · exact fits_packet (Nat.mul_comm (scStride q) _ ▸ hfit)
    · rw [hpoison, hflaws]
      exact hc (i, A i) (hes ▸ List.mem_map.2 ⟨i, List.mem_range.2 hi, rfl⟩) g hg
  obtain ⟨u, hu, hgo⟩ := goOn_gathers hgathers
  have hentries : joinEntries (opened n.val q t').entries (listEntries q (scStride q)) = listed (scStride q) A := hjoin
  rw [hentries] at htake
  have hlist := listPacket_goes (r := opened n.val q t') (n := n.val) (p := q) (s := v) hrow
    ((reading_entriesRow hv _ _ _ _ _).trans hent) htake hgo
  refine ⟨_, next_congr ((serve_typ ht htyp).trans (hgather.trans hlist)), ?_⟩
  have hbytes : (List.range (scStride q)).flatMap (fun i => cellRead 0 v.mem (A i) (scRows q)) = (List.range (scStride q)).flatMap
      (fun i => cellRead 0 s.mem (tabOr (joinEntries [] (listEntries q (scStride q))) i 0) (scRows q)) := by
    refine List.flatMap_congr fun i hi => ?_
    rw [hjoin, tabOr, tabGet_listed, if_pos (List.mem_range.1 hi), reading_mem hv, hmem]
    rfl
  rw [← hbytes, hjoin]
  exact answer_of_sent (reading_trans hv hu) hmem hmil hrel hctr

/-- R280: a GATHER_SUM is answered with the sum of its rows. -/
theorem gatherSum_answers (ht : Taken s n p q t) (htyp : q.typ = 0x05) (hcnt : q.cnt = 1)
    (hin : msgArrive .tsc n.val q t = (.counted c true true, t'))
    (hfresh : findResp s (BitVec.ofNat 32 q.src) (BitVec.ofNat 32 q.msgId) = none) (hroom : windowRoom t' (q.msgId % 4) = true)
    (hf : s.flaws = []) (hrow : gatherRow q = 0)
    (hent : entriesRow t' [] (listEntries q (scStride q)) (scRows q) (scStride q) true = 0)
    (hlen : (joinEntries [] (listEntries q (scStride q))).length = scStride q)
    (hfit : scRows q / fmtSize (scM q) * fmtSize (scW q) ≤ 2048)
    (hc : ∀ e ∈ listEntries q (scStride q), Clean s e.2 (scRows q)) {a : Nat} {rest : List Nat}
    (hlist : (joinEntries [] (listEntries q (scStride q))).map Prod.snd = a :: rest) :
    Does (.gatherSum n p) s (Answer s q c.port (q.msgId % 4) (converted 0 (scW q) c.convInf (elemBytes 0
      ((rest.foldl (fun acc b => sumWith c.convInf acc (wideRowAt q s.mem b)) (wideRowAt q s.mem a)).map BitVec.toNat)))) := by
  obtain ⟨hmem, hpoison, hflaws, hmil, -, hrel⟩ := counted_keeps ht hin
  have hctr := counted_msgCtr ht hin
  obtain ⟨-, rfl, rfl⟩ := counted_first hin hcnt
  obtain ⟨hre, hwhole, hpos⟩ := gatherRow_rows hrow
  obtain ⟨A, hes, hjoin⟩ := listEntries_complete hpos hlen
  have hfresh' : findResp t' (BitVec.ofNat 32 q.src) (BitVec.ofNat 32 q.msgId) = none := by
    rw [findResp, taken_having (f := State.resps) ht]
    exact hfresh
  have hne : (opened n.val q t').req.typ ≠ tGather := by
    rw [show (opened n.val q t').req.typ = 0x05 from htyp]
    decide
  obtain ⟨v, hv, hgather⟩ := gatherIn_one hin hfresh'
  rw [hjoin, listed_snd] at hlist
  obtain ⟨x, w, hw, htake⟩ := takeEntries_sum (r := opened n.val q t') (s := v) (A := A) (n := scStride q) hne
    ((reading_flaws hv).trans (hflaws.trans hf)) rfl rfl hlist (fun i hi => reading_clean hv fun g hg => by
      rw [hpoison, hflaws]
      exact hc (i, A i) (hes ▸ List.mem_map.2 ⟨i, List.mem_range.2 hi, rfl⟩) g hg) (hes ▸ hjoin)
  have htotal : (opened n.val q t').total = scRows q / fmtSize (scM q) :=
    (congrArg (rowElems ⟨q.hdr, []⟩ * ·) (if_neg hne)).trans (Nat.mul_one _)
  have hsum : (rest.foldl (fun acc b => sumWith (opened n.val q t').convInf acc (wideRowAt (opened n.val q t').req v.mem b))
      (wideRowAt (opened n.val q t').req v.mem a)).length ≤ (opened n.val q t').total := by
    refine (foldl_sumWith_length _ _ _ _).trans (le_of_eq ?_)
    rw [htotal, wideRowAt, List.length_map, elemsOf_length, cellRead_length]
    · rfl
    · rw [cellRead_length]
      exact hwhole
  obtain ⟨u, hu, hgo⟩ := goOn_sums (r := { opened n.val q t' with
      entries := listed (scStride q) A, rows := x, added := scStride q, listed := true
      sum := rest.foldl (fun acc b => sumWith (opened n.val q t').convInf acc (wideRowAt (opened n.val q t').req v.mem b))
        (wideRowAt (opened n.val q t').req v.mem a) }) (s := w) htyp rfl rfl rfl rfl (htotal ▸ hre) (htotal ▸ fits_packet hfit) hsum
    ((reading_room (reading_trans hv hw) _ (msgId_quad q)).trans hroom)
  have hgo' := listPacket_goes (r := opened n.val q t') (n := n.val) (p := q) (s := v) hrow
    ((reading_entriesRow hv _ _ _ _ _).trans hent) ((congrArg (fun es => takeEntries (opened n.val q t') es v) hes).trans htake) hgo
  refine ⟨_, next_congr ((serve_typ ht htyp).trans (hgather.trans hgo')), ?_⟩
  rw [reading_mem hv, hmem]
  exact answer_of_sent (reading_trans hv (reading_trans hw hu)) hmem hmil hrel hctr

end

/-- Settles O11. -/
theorem storeReadsAnswerWithTheirElements : Obligations.StoreReadsAnswerWithTheirElements := by
  unfold Obligations.StoreReadsAnswerWithTheirElements
  intro s n p q t t' c first
  refine ⟨fun ht htyp hin hrow hrows hfit hf hc hport hroom => ?_, fun ht htyp hcnt hin hfirst hfresh hroom hf hrow hent hlen hfit hc => ?_,
    fun ht htyp hcnt hin hfirst hfresh hroom hf hrow hent hlen hfit hc a rest hlist => ?_⟩
  · have h := storeRead_answers ht htyp hin hrow hrows hfit hf hc hroom
    rw [← hport] at h
    exact h
  · subst hfirst
    exact gather_answers ht htyp hcnt hin hfresh hroom hf hrow hent hlen hfit hc
  · subst hfirst
    exact gatherSum_answers ht htyp hcnt hin hfresh hroom hf hrow hent hlen hfit hc hlist

end Sys2Proof.Proofs
end

section
/-!
PROOFS. What receiving a packet leaves, while no memory but the store holds an error.
-/

namespace Sys2Proof.Proofs
open Sys2Proof Sys2Proof.Machine Sys2Proof.Claims

set_option Elab.async false

/-- The registers that receiving a packet may write: counters, meters, fault registers, and what BLOCK_FLT and drained classes count. -/
def arrives (a : Nat) : Bool :=
  counts a || (decide (0x1000000 ≤ a) && decide (a < 0x1400000)) || a == 0x200008 || a % 0x10000 == 0xF000 || a == 0x2000018

/-- From `s` to `t` registers that count and the receive buffer of port `n` have changed, with what was raised. -/
structure Arrived (n : Nat) (s t : State) : Prop where
  shape : ∃ csr w ev ex ra ag ps, t = { s with
    csr := csr, w1cSet := w, evts := ev, excNow := ex, raised := ra, again := ag, ports := ps }
  regs  : ∀ a, arrives a = false → t.reg a = s.reg a
  other : ∀ m, m % 64 ≠ n % 64 → t.port m = s.port m
  mine  : ∃ rq rh ro, t.port n = { s.port n with rxq := rq, rxHeld := rh, rxOwed := ro }

section
variable {n : Nat} {s t u : State}

theorem Arrived.refl (n : Nat) (s : State) : Arrived n s s :=
  ⟨⟨_, _, _, _, _, _, _, rfl⟩, fun _ _ => rfl, fun _ _ => rfl, ⟨_, _, _, rfl⟩⟩

theorem Arrived.trans (h : Arrived n s t) (k : Arrived n t u) : Arrived n s u := by
  refine ⟨?_, fun a ha => (k.regs a ha).trans (h.regs a ha), fun m hm => (k.other m hm).trans (h.other m hm), ?_⟩
  · obtain ⟨_, _, _, _, _, _, _, rfl⟩ := h.shape
    obtain ⟨_, _, _, _, _, _, _, rfl⟩ := k.shape
    exact ⟨_, _, _, _, _, _, _, rfl⟩
  · obtain ⟨_, _, _, he⟩ := h.mine
    obtain ⟨a, b, c, ke⟩ := k.mine
    exact ⟨a, b, c, ke.trans (by rw [he])⟩

theorem Arrived.ite {c : Prop} [Decidable c] (h : Arrived n s t) (k : Arrived n s u) : Arrived n s (if c then t else u) := by
  split
  · exact h
  · exact k

theorem Arrived.ports (h : Arrived n s t) (m : Nat) :
    ∃ rq rh ro, t.port m = { s.port m with rxq := rq, rxHeld := rh, rxOwed := ro } := by
  by_cases hm : m % 64 = n % 64
  · obtain ⟨a, b, c, he⟩ := h.mine
    have hport : ∀ x : State, x.port m = x.port n := fun x => by
      rw [State.port, State.port, show Fin.ofNat 64 m = Fin.ofNat 64 n from Fin.ext hm]
    exact ⟨a, b, c, by rw [hport, hport, he]⟩
  · exact ⟨_, _, _, h.other m hm⟩

/-- A step that writes only registers that receiving may write. -/
theorem arrived_setReg {a : Nat} (v : W64) (ha : arrives a = true) : Arrived n s (s.setReg a v) := by
  refine ⟨⟨_, _, _, _, _, _, _, rfl⟩, fun b hb => ?_, fun _ _ => rfl, ⟨_, _, _, rfl⟩⟩
  rw [reg_setReg, if_neg (by rintro rfl; simp [ha] at hb)]

theorem arrived_setSticky {a : Nat} (v : W64) (ha : arrives a = true) : Arrived n s (s.setSticky a v) := by
  have h := arrived_setReg (n := n) (s := s) (s.reg a ||| v) ha
  exact ⟨⟨_, _, _, _, _, _, _, rfl⟩, h.regs, h.other, h.mine⟩

theorem arrived_count (src k : Nat) (port tc grp : Option Nat) : Arrived n s (count src k port tc grp s) :=
  ⟨⟨_, _, _, _, _, _, _, rfl⟩, fun _ _ => rfl, fun _ _ => rfl, ⟨_, _, _, rfl⟩⟩

theorem arrived_countReg {a : Nat} (k : Nat) (ha : arrives a = true) : Arrived n s (s.countReg a k) := by
  unfold State.countReg
  exact .ite (.refl n s) (arrived_setReg _ ha)

theorem arrives_blkFlt (b : Blk) : arrives (blkFlt b) = true := by simp [arrives, blkFlt_mod]

theorem arrives_puBase {k i : Nat} (hk : k < 64) (hi : i < 0x10000) : arrives (puBase k + i) = true := by
  have h1 : decide (0x1000000 ≤ puBase k + i) = true := decide_eq_true (by unfold puBase; omega)
  have h2 : decide (puBase k + i < 0x1400000) = true := decide_eq_true (by unfold puBase; omega)
  simp [arrives, h1, h2]

theorem arrived_raise (b : Blk) (src : Nat) : Arrived n s (raise b src s) := by
  have h := arrived_setSticky (n := n) (s := s) (BitVec.ofNat 64 (2 ^ src)) (arrives_blkFlt b)
  have hrec : Arrived n s (if collected (s.setSticky (blkFlt b) (BitVec.ofNat 64 (2 ^ src))) then
      (s.setSticky (blkFlt b) (BitVec.ofNat 64 (2 ^ src))).setSticky 0x200008 (BitVec.ofNat 64 (2 ^ blkFaultBlock b))
      else s.setSticky (blkFlt b) (BitVec.ofNat 64 (2 ^ src))) := .ite (h.trans (arrived_setSticky _ (by decide))) h
  have hmark : ∀ {t : State} (r : List (Blk × Nat)) (g : List (Blk × Nat)), Arrived n s t →
      Arrived n s { t with raised := r, again := g } := fun r g h =>
    h.trans ⟨⟨_, _, _, _, _, _, _, rfl⟩, fun _ _ => rfl, fun _ _ => rfl, ⟨_, _, _, rfl⟩⟩
  unfold raise
  exact .ite (hmark _ _ h) (hmark _ _ hrec)

theorem arrived_cross (f t' k : Nat) : Arrived n s (cross f t' k s) := by
  unfold cross
  exact .ite (.refl n s) (arrived_count _ _ _ _ _)

theorem arrived_sinkOverrun {b : Blk} {k hop : Nat} {p : Packet} (hk : k < 64) : Arrived n s (sinkOverrun b k hop p s) := by
  unfold sinkOverrun
  exact .ite (((arrived_countReg 1 (arrives_puBase hk (by decide))).trans (arrived_count _ _ _ _ _)).trans (arrived_raise _ _))
    (.refl n s)

/-! ## The way in -/

theorem arrived_cameIn (p : Packet) : Arrived n s (cameIn n p s) := by
  have hcount := arrived_count (n := n) (s := s) 0x011 p.flits (some n) (some p.tc) none
  have hlocal : Arrived n (count 0x011 p.flits (some n) (some p.tc) none s) (if typeLinkLocal p.typ then
      countPkt 0x014 n p (count 0x011 p.flits (some n) (some p.tc) none s) else count 0x011 p.flits (some n) (some p.tc) none s) :=
    .ite (arrived_count _ _ _ _ _) (.refl n _)
  exact (hcount.trans hlocal).trans (arrived_count _ _ _ _ _)

theorem arrived_takeIn (p : Packet) : Arrived n s (takeIn n p s).2 := by
  unfold takeIn
  dsimp only
  split
  · exact arrived_cameIn p
  · exact ⟨⟨_, _, _, _, _, _, _, rfl⟩, fun _ _ => rfl, fun m hm => port_setPort_ne s n m _ (Ne.symm hm),
      ⟨_, _, _, port_setPort_same s n _⟩⟩

theorem arrived_dropIn (src : Nat) (fault : Option Nat) (p : Packet) : Arrived n s (dropIn n src fault p s).2 := by
  unfold dropIn
  cases fault with
  | none => exact arrived_count _ _ _ _ _
  | some f => exact (arrived_count _ _ _ _ _).trans (arrived_raise _ _)

theorem arrived_meterColour {m : Nat} (hn : n < 64) (hm : m < 256) : Arrived n s (meterColour n m s).2 := by
  have hset : ∀ v, Arrived n s (s.setRegN (meterAddr n m) v) := fun v =>
    arrived_setReg _ (by rw [meterAddr, Nat.add_assoc]; exact arrives_puBase hn (by omega))
  unfold meterColour
  dsimp only
  split
  · exact .refl n s
  · split
    · exact hset _
    · exact hset _

theorem arrived_trunkIn (p : Packet) : Arrived n s (trunkIn n p s).2 := by
  unfold trunkIn
  exact .ite ((arrived_setReg _ (by decide)).trans (arrived_count _ _ _ _ _)) (.refl n s)

theorem arrived_checkHere (hop : Nat) (p : Packet) : Arrived n s (checkHere n hop p s).2 := by
  unfold checkHere
  generalize typeDsvc p.typ = d
  obtain ⟨d0, d1⟩ := d
  dsimp only
  generalize (!(if p.dsvc then d1 else d0) || decide (p.cnt > typeMaxCnt p.typ)) = wrong
  cases understand p with
  | dropSilent => exact arrived_dropIn _ _ _
  | dropMalformed => exact arrived_dropIn _ _ _
  | yes =>
    dsimp only
    split
    · exact arrived_dropIn _ _ _
    · split
      · exact .refl n s
      · split
        · exact arrived_dropIn _ _ _
        · exact .refl n s

/-- Where no memory but the store holds an error the tables of a contract packet are read as they stand. -/
theorem arrived_endpointIn {past : Bool} (hn : n < 64) (hw : Whole s) (p : Packet) : Arrived n s (endpointIn n past p s).2 := by
  unfold endpointIn
  extract_lets q drop
  have hcontract : contractRead q.contract s = (false, s) := tableRead_clean _ _ _ _ hw.1 hw.2
  have hmeter : ∀ a k, tableRead .tcu a k s = (false, s) := fun a k => tableRead_clean _ _ _ _ hw.1 hw.2
  have hcolour := arrived_meterColour (s := s) hn (m := aMeter (conA s q.contract))
    (by rw [aMeter, bits]; exact Nat.mod_lt _ (by decide))
  have hdrop : ∀ src f, Arrived n s (drop src f s).2 := fun src f =>
    (arrived_count src 1 (some n) _ _).trans (arrived_raise _ _)
  clear_value drop q
  rw [hcontract]
  dsimp only
  rw [hmeter]
  dsimp only
  split
  · exact hdrop _ _
  · split
    · split
      · exact hdrop _ _
      · exact .refl n s
    · split
      · exact arrived_count _ _ _ _ _
      · split
        · generalize meterColour n (aMeter (conA s q.contract)) s = x at *
          obtain ⟨c, t⟩ := x
          dsimp only at hcolour ⊢
          split
          · exact (hcolour.trans (arrived_countReg 1 (arrives_puBase hn (by decide)))).trans (arrived_count _ _ _ _ _)
          · split
            · exact ((hcolour.trans (arrived_count _ _ _ _ _)).trans (arrived_countReg 1 (arrives_puBase hn (by decide)))).trans
                (arrived_count _ _ _ _ _)
            · exact hcolour.trans (arrived_count _ _ _ _ _)
        · exact hdrop _ _

theorem arrived_checks {hop : Nat} {past : Bool} (hn : n < 64) (hw : Whole s) (p : Packet) :
    Arrived n s (checks n hop past p s).2 := by
  have hin : Arrived n s (if isEndpoint s n then endpointIn n past p s else
      ((some (trunkIn n p s).1, (trunkIn n p s).2) : Option Packet × State)).2 := by
    split
    · exact arrived_endpointIn hn hw p
    · exact arrived_trunkIn p
  unfold checks
  cases firstFail s n p with
  | some e => exact arrived_dropIn _ _ _
  | none =>
    change Arrived n s (match (if isEndpoint s n then endpointIn n past p s else
      ((some (trunkIn n p s).1, (trunkIn n p s).2) : Option Packet × State)) with
      | (o, s) => match o with
        | none => (.gone, s)
        | some p => if cwSw p.dst = ownSw s then checkHere n hop p s else (.forward p hop, s) : Ing × State).2
    generalize (if isEndpoint s n then endpointIn n past p s else
      ((some (trunkIn n p s).1, (trunkIn n p s).2) : Option Packet × State)) = x at *
    obtain ⟨o, t⟩ := x
    cases o with
    | none => exact hin
    | some q =>
      dsimp only at hin ⊢
      split
      · exact hin.trans (arrived_checkHere _ _)
      · exact hin

/-- R49: what comes of a packet that comes in. -/
theorem arrived_ingress (hn : n < 64) (hw : Whole s) (p : Packet) : Arrived n s (ingress n p s).2 := by
  have htake := arrived_takeIn (n := n) (s := s) p
  have hwhole : Whole (takeIn n p s).2 := having_errors.1 (takeIn_errors (having_errors.2 hw))
  unfold ingress
  generalize takeIn n p s = x at *
  obtain ⟨e, t⟩ := x
  dsimp only at htake hwhole ⊢
  rw [stageRead_clean _ _ _ _ hwhole]
  exact htake.trans (arrived_checks hn hwhole p)

end

/-- A packet that is taken has only arrived. -/
theorem taken_arrived {s t : State} {n : Fin 64} {p q : Packet} (h : Taken s n p q t) : Arrived n.val s t := by
  obtain ⟨-, hw, q0, hop, t0, hin, -, -, -, rfl⟩ := h
  have h0 := arrived_ingress n.isLt hw p
  rw [hin] at h0
  exact (h0.trans (arrived_cross _ _ _)).trans (arrived_sinkOverrun n.isLt)

/-- A message that is counted changes its context, and counts. -/
theorem counted_shape {b : Blk} {n : Nat} {q : Packet} {t t' : State} {c : MsgCtx} {first complete : Bool} (hw : Whole t)
    (h : msgArrive b n q t = (.counted c first complete, t')) : ∃ ms ev, t' = { t with msgs := ms, evts := ev } := by
  unfold msgArrive at h
  split at h
  · rw [msgRead, recordRead_clean _ _ _ _ _ _ hw.1 hw.2] at h
    dsimp only at h
    split at h
    · cases h
    · split at h
      · cases h
        exact ⟨_, _, rfl⟩
      · cases h
        exact ⟨_, _, rfl⟩
  · split at h
    · cases h
      exact ⟨_, _, rfl⟩
    · split at h
      · cases h
      · have hclean : ∀ g ms, granuleClean g { t with msgs := ms } = { t with msgs := ms } := fun g ms =>
          granuleClean_clean g { t with msgs := ms } hw.1 hw.2
        dsimp only at h
        rw [hclean] at h
        cases h
        exact ⟨_, _, rfl⟩

/-- A packet that is taken and counted to its message has only arrived, but for the message contexts. -/
theorem counted_arrived {b : Blk} {s t t' : State} {n : Fin 64} {p q : Packet} {c : MsgCtx} {first complete : Bool}
    (ht : Taken s n p q t) (h : msgArrive b n.val q t = (.counted c first complete, t')) :
    ∃ ms, Arrived n.val { s with msgs := ms } t' := by
  obtain ⟨ms, ev, rfl⟩ := counted_shape (taken_whole ht) h
  have ha := taken_arrived ht
  refine ⟨ms, ?_, ha.regs, ha.other, ha.mine⟩
  obtain ⟨_, _, _, _, _, _, _, rfl⟩ := ha.shape
  exact ⟨_, _, _, _, _, _, _, rfl⟩

section
variable {n : Nat} {s t : State}

/-- What receiving does not write is as it was. -/
theorem Arrived.having {β : Type} {f : State → β} (h : Arrived n s t)
    (e : ∀ csr w ev ex ra ag ps, f { s with
        csr := csr, w1cSet := w, evts := ev, excNow := ex, raised := ra, again := ag, ports := ps } = f s := by intros; rfl) :
    f t = f s := by
  obtain ⟨_, _, _, _, _, _, _, rfl⟩ := h.shape
  exact e _ _ _ _ _ _ _

theorem Arrived.field (h : Arrived n s t) {a : Nat} (ha : arrives a = false) (hi lo : Nat) : t.field a hi lo = s.field a hi lo := by
  rw [State.field, State.regN, h.regs a ha]
  rfl

theorem Arrived.ownSw (h : Arrived n s t) : Machine.ownSw t = Machine.ownSw s := h.field (by decide) _ _

theorem Arrived.dimAxis (h : Arrived n s t) (a : Nat) : Machine.dimAxis t a = Machine.dimAxis s a := h.field (by decide) _ _

theorem Arrived.isEndpoint (h : Arrived n s t) (m : Nat) : Machine.isEndpoint t m = Machine.isEndpoint s m := by
  obtain ⟨_, _, _, he⟩ := h.ports m
  rw [Machine.isEndpoint, Machine.isEndpoint, he]

end

end Sys2Proof.Proofs
end

section
/-!
PROOFS. Buffer pools (O12).
-/

namespace Sys2Proof.Proofs
open Sys2Proof Sys2Proof.Machine Sys2Proof.Claims

set_option Elab.async false

/-! ## Answers -/

section
variable {s t : State} {n : Nat} {p : Packet}

/-- An answer of the BPM is one message; buffers, store and milestones stay. -/
theorem poolResp_leaves (p : Packet) (status : Nat) (handle : W32) (pool addr : Nat) (s : State) :
    (poolResp p status handle pool addr s).bpm = s.bpm ∧ (poolResp p status handle pool addr s).msgCtr = s.msgCtr + 1 ∧
      (poolResp p status handle pool addr s).mem = s.mem ∧ (poolResp p status handle pool addr s).milestones = s.milestones := by
  unfold poolResp newMsgId
  exact ⟨originateFrom_having (f := State.bpm) _ _ _ _, originateFrom_having (f := State.msgCtr) _ _ _ _,
    originateFrom_having (f := State.mem) _ _ _ _, originateFrom_having (f := State.milestones) _ _ _ _⟩

theorem poolDeny_leaves (n : Nat) (p : Packet) (status pool : Nat) (s : State) : (poolDeny n p status pool s).bpm = s.bpm ∧
    (poolDeny n p status pool s).msgCtr = s.msgCtr + 1 ∧ (poolDeny n p status pool s).mem = s.mem := by
  have hkeep : ∀ u : State, u.bpm = s.bpm → u.msgCtr = s.msgCtr → u.mem = s.mem → (poolResp p status 0 pool 0 u).bpm = s.bpm ∧
      (poolResp p status 0 pool 0 u).msgCtr = s.msgCtr + 1 ∧ (poolResp p status 0 pool 0 u).mem = s.mem := by
    intro u h1 h2 h3
    obtain ⟨hb, hm, hmem, -⟩ := poolResp_leaves p status 0 pool 0 u
    exact ⟨hb.trans h1, hm.trans (by rw [h2]), hmem.trans h3⟩
  unfold poolDeny
  dsimp only
  split
  · exact hkeep _ rfl rfl rfl
  · exact hkeep _ rfl rfl rfl

/-! ## Buffers -/

theorem endGrant_leaves (b : Buf) (s : State) : (endGrant b s).bpm = s.bpm ∧ (endGrant b s).msgCtr = s.msgCtr ∧
    (endGrant b s).mem = s.mem ∧ (endGrant b s).fuses = s.fuses ∧ (endGrant b s).csr = s.csr := by
  unfold endGrant
  cases b.grant <;> exact ⟨rfl, rfl, rfl, rfl, rfl⟩

theorem freeBuf_leaves (b : Buf) (s : State) : (freeBuf b s).bpm = { s.bpm with bufs := s.bpm.bufs.erase b } ∧
    (freeBuf b s).msgCtr = s.msgCtr ∧ (freeBuf b s).mem = s.mem := by
  obtain ⟨hb, hm, hmem, -⟩ := endGrant_leaves b { s with bpm := { s.bpm with bufs := s.bpm.bufs.erase b } }
  exact ⟨hb, hm, hmem⟩

theorem readRecord_clean {b : Buf} (h : tabGet s.bpm.flawed (bufKey b.pool b.quad b.index) = none) : readRecord b s = (some b, s) := by
  unfold readRecord
  dsimp only
  rw [h]

/-- R313: a buffer is allocated under its next generation. -/
theorem takeBuf_leaves (k q i : Nat) (owners : List W32) (final : W32) (grant : Option (Nat × Nat × Nat)) (s : State) :
    let b := (takeBuf k q i owners final grant s).1
    let t := (takeBuf k q i owners final grant s).2
    (b.pool = k ∧ b.quad = q ∧ b.index = i ∧ b.final = final ∧ b.owners = owners ∧
      b.gen = (if tabOr s.bpm.gens (bufKey k q i) 1 ≥ 511 then 1 else tabOr s.bpm.gens (bufKey k q i) 1 + 1)) ∧
    t.bpm.bufs = s.bpm.bufs ++ [b] ∧ t.bpm.inForce = s.bpm.inForce ∧ t.msgCtr = s.msgCtr ∧ t.mem = s.mem ∧
      t.milestones = s.milestones := by
  unfold takeBuf
  cases grant <;> exact ⟨⟨rfl, rfl, rfl, rfl, rfl, rfl⟩, rfl, rfl, rfl, rfl, rfl⟩

end

/-! ## Requests -/

section
variable {s t : State} {n : Nat} {p : Packet}

/-- R315 to R318: a POOL_ALLOC for which a buffer is free takes it. -/
theorem poolAlloc_takes {k i : Nat} (hs : p.ssvc = false) (hin : cwInside s (plCw p) = true) (hsize : plSize p ≠ 0)
    (hk : poolFor (plBack p) (plSize p) = some k)
    (hi : freeIndex s k (if plBack p then 0 else if finalHere s (plCw p) then quadOf (cwP (plCw p).toNat) else 1) = some i) :
    ∃ x, (poolAlloc n p s).bpm.bufs = s.bpm.bufs ++ [x] ∧ x.pool = k ∧ x.index = i ∧ x.final = plCw p ∧
      x.owners = (if BitVec.ofNat 32 p.src = plCw p then [plCw p] else [plCw p, BitVec.ofNat 32 p.src]) ∧
      x.gen = (if tabOr s.bpm.gens (bufKey x.pool x.quad i) 1 ≥ 511 then 1 else tabOr s.bpm.gens (bufKey x.pool x.quad i) 1 + 1) ∧
      (poolAlloc n p s).bpm.inForce = s.bpm.inForce ∧ (poolAlloc n p s).msgCtr = s.msgCtr + 1 ∧ (poolAlloc n p s).mem = s.mem ∧
      (poolAlloc n p s).milestones = s.milestones := by
  unfold poolAlloc
  dsimp only
  rw [if_neg (by simp [hs, hin]), if_neg hsize, hk]
  dsimp only
  rw [hi]
  dsimp only
  generalize (if plBack p then 0 else if finalHere s (plCw p) then quadOf (cwP (plCw p).toNat) else 1) = q
  generalize (if (!plBack p && finalHere s (plCw p) && !contractClass s p.tc) = true then
    some (cwP (plCw p).toNat, p.tc, poolSize k / 512) else none) = grant
  have htake := takeBuf_leaves k q i (if BitVec.ofNat 32 p.src = plCw p then [plCw p] else [plCw p, BitVec.ofNat 32 p.src]) (plCw p)
    grant s
  generalize takeBuf k q i (if BitVec.ofNat 32 p.src = plCw p then [plCw p] else [plCw p, BitVec.ofNat 32 p.src]) (plCw p)
    grant s = y at *
  obtain ⟨b, t⟩ := y
  obtain ⟨⟨hpool, hquad, hindex, hfinal, howners, hgen⟩, hbufs, hforce, hctr, hmem, hmil⟩ := htake
  have hcount : (countPkt 0x0C6 n p (t.countReg 0x7000100 1)).bpm = t.bpm ∧
      (countPkt 0x0C6 n p (t.countReg 0x7000100 1)).msgCtr = t.msgCtr ∧ (countPkt 0x0C6 n p (t.countReg 0x7000100 1)).mem = t.mem ∧
      (countPkt 0x0C6 n p (t.countReg 0x7000100 1)).milestones = t.milestones := ⟨rfl, rfl, rfl, rfl⟩
  dsimp only at *
  generalize countPkt 0x0C6 n p (t.countReg 0x7000100 1) = u at *
  obtain ⟨hb, hc, hm, hms⟩ := hcount
  obtain ⟨hrb, hrc, hrm, hrms⟩ := poolResp_leaves p 0 (handleOf b) k (bufAddr t b) u
  refine ⟨b, by rw [hrb, hb, hbufs], hpool, hindex, hfinal, howners, by rw [hgen, hpool, hquad], by rw [hrb, hb, hforce],
    by rw [hrc, hc, hctr], by rw [hrm, hm, hmem], by rw [hrms, hms, hmil]⟩

/-- A change of the owners of buffer `b` to `o`. -/
def owned (b : Buf) (o : List W32) (s : State) : List Buf :=
  s.bpm.bufs.map (fun x => if x = b then { b with owners := o } else x)

theorem putBuf_leaves (b b' : Buf) (s : State) :
    (putBuf b b' s).bpm = { s.bpm with bufs := s.bpm.bufs.map (fun x => if x = b then b' else x) } ∧
      (putBuf b b' s).msgCtr = s.msgCtr ∧ (putBuf b b' s).mem = s.mem := ⟨rfl, rfl, rfl⟩

/-- R317: a POOL_SHARE adds an owner. -/
theorem poolChange_shares {b : Buf} (htyp : p.typ = tPoolShare) (hnew : b.owners.contains (plCw p) = false)
    (hroom : b.owners.length < 8) :
    (poolChange n p b s).bpm = { s.bpm with bufs := owned b (b.owners ++ [plCw p]) s } ∧
      (poolChange n p b s).msgCtr = s.msgCtr + 1 ∧ (poolChange n p b s).mem = s.mem := by
  unfold poolChange
  dsimp only
  rw [if_pos htyp, if_neg (by rw [hnew]; decide), if_neg (by omega)]
  obtain ⟨hb, hc, hm, -⟩ := poolResp_leaves p 0 (handleOf b) b.pool (bufAddr s b) (putBuf b { b with owners := b.owners ++ [plCw p] } s)
  exact ⟨hb, hc, hm⟩

/-- R317: a POOL_DROP of an owner that is not the final one removes it. -/
theorem poolChange_drops {b : Buf} (htyp : p.typ = tPoolDrop) (hsrc : BitVec.ofNat 32 p.src ≠ b.final) :
    (poolChange n p b s).bpm = { s.bpm with bufs := owned b (b.owners.filter (· != BitVec.ofNat 32 p.src)) s } ∧
      (poolChange n p b s).msgCtr = s.msgCtr + 1 ∧ (poolChange n p b s).mem = s.mem := by
  unfold poolChange
  dsimp only
  rw [if_neg (by rw [htyp]; decide), if_pos ⟨htyp, hsrc⟩]
  obtain ⟨hb, hc, hm, -⟩ := poolResp_leaves p 0 (handleOf b) b.pool 0
    (putBuf b { b with owners := b.owners.filter (· != BitVec.ofNat 32 p.src) } s)
  exact ⟨hb, hc, hm⟩

/-- A POOL_FREE, or a POOL_DROP by the final owner, returns the buffer or is denied. -/
theorem poolChange_returns {b : Buf} (hshare : p.typ ≠ tPoolShare) (hdrop : p.typ = tPoolDrop → BitVec.ofNat 32 p.src = b.final) :
    poolChange n p b s = poolReturn n p b (BitVec.ofNat 32 p.src) s := by
  unfold poolChange
  dsimp only
  rw [if_neg hshare, if_neg (fun h => h.2 (hdrop h.1))]

theorem poolReturn_frees {b : Buf} {src : W32} (hsrc : src = b.final) (hlen : b.owners.length ≤ 1) :
    (poolReturn n p b src s).bpm = { s.bpm with bufs := s.bpm.bufs.erase b } ∧
      (poolReturn n p b src s).msgCtr = s.msgCtr + 1 ∧ (poolReturn n p b src s).mem = s.mem := by
  unfold poolReturn
  rw [if_neg (by rintro (h | h) <;> [exact h hsrc; omega])]
  obtain ⟨hb, hc, hm, -⟩ := poolResp_leaves p 0 (handleOf b) b.pool 0 (countPkt 0x0C9 n p (freeBuf b s))
  obtain ⟨hfb, hfc, hfm⟩ := freeBuf_leaves b s
  exact ⟨hb.trans hfb, hc.trans (congrArg (· + 1) hfc), hm.trans hfm⟩

theorem poolReturn_denies {b : Buf} {src : W32} (h : src ≠ b.final ∨ 1 < b.owners.length) :
    (poolReturn n p b src s).bpm = s.bpm ∧ (poolReturn n p b src s).msgCtr = s.msgCtr + 1 ∧ (poolReturn n p b src s).mem = s.mem := by
  unfold poolReturn
  rw [if_pos h]
  exact poolDeny_leaves _ _ _ _ _

/-- R315: a request that names a buffer of its sender is performed. -/
theorem poolHandle_performs {b : Buf} (hs : p.ssvc = false) (hin : p.typ = tPoolShare → cwInside s (plCw p) = true)
    (hfind : findBuf s (plHandle p) = some b) (hrec : tabGet s.bpm.flawed (bufKey b.pool b.quad b.index) = none)
    (hown : b.owners.contains (BitVec.ofNat 32 p.src) = true) : poolHandle n p s = poolChange n p b s := by
  have hok : (p.typ == tPoolShare && !cwInside s (plCw p)) = false := by
    by_cases h : p.typ = tPoolShare
    · rw [hin h, Bool.not_true, Bool.and_false]
    · rw [beq_eq_false_iff_ne.2 h, Bool.false_and]
  unfold poolHandle
  rw [hs, hok, hfind]
  dsimp only
  rw [readRecord_clean hrec]
  dsimp only
  rw [if_neg (by decide), if_neg (by rw [hown]; decide)]

end

/-! ## What a request finds -/

theorem Arrived.cwInside {n : Nat} {s t : State} (h : Arrived n s t) (cw : W32) : Machine.cwInside t cw = Machine.cwInside s cw := by
  rw [Machine.cwInside, Machine.cwInside, h.dimAxis, h.dimAxis, h.dimAxis]

theorem Arrived.finalHere {n : Nat} {s t : State} (h : Arrived n s t) (cw : W32) : Machine.finalHere t cw = Machine.finalHere s cw := by
  rw [Machine.finalHere, Machine.finalHere, h.ownSw, h.isEndpoint]

section
variable {s t : State} {n : Fin 64} {p q : Packet}

/-- A request to the BPM is performed on a state with the pools, the store and the milestones as they were. -/
theorem pool_arrives (ht : Taken s n p q t) (hc : Counted .bpm n q t) : ∃ u ms, poolAllocIn n.val q t = poolAlloc n.val q u ∧
    poolHandleIn n.val q t = poolHandle n.val q u ∧ Arrived n.val { s with msgs := ms } u := by
  obtain ⟨c, first, complete, t', hin⟩ := hc
  obtain ⟨ms, ha⟩ := counted_arrived ht hin
  refine ⟨t', ms, ?_, ?_, ha⟩
  · unfold poolAllocIn
    rw [hin]
  · unfold poolHandleIn
    rw [hin]

theorem poolAlloc_does (ht : Taken s n p q t) (hc : Counted .bpm n q t) (htyp : q.typ = 0x28) {k i : Nat} (hs : q.ssvc = false)
    (hin : cwInside s (plCw q) = true) (hsize : plSize q ≠ 0) (hk : poolFor (plBack q) (plSize q) = some k)
    (hi : freeIndex s k (if plBack q then 0 else if finalHere s (plCw q) then quadOf (cwP (plCw q).toNat) else 1) = some i) :
    Does (.poolAlloc n p) s (fun u => ∃ x, u.bpm.bufs = s.bpm.bufs ++ [x] ∧ x.pool = k ∧ x.index = i ∧ x.final = plCw q ∧
      x.owners = (if BitVec.ofNat 32 q.src = plCw q then [plCw q] else [plCw q, BitVec.ofNat 32 q.src]) ∧
      x.gen = (if tabOr s.bpm.gens (bufKey x.pool x.quad i) 1 ≥ 511 then 1 else tabOr s.bpm.gens (bufKey x.pool x.quad i) 1 + 1) ∧
      u.bpm.inForce = s.bpm.inForce ∧ u.msgCtr = s.msgCtr + 1 ∧ u.mem = s.mem ∧ u.milestones = s.milestones) := by
  obtain ⟨u, ms, halloc, -, ha⟩ := pool_arrives ht hc
  have hbpm : u.bpm = s.bpm := ha.having (f := State.bpm)
  have hctr : u.msgCtr = s.msgCtr := ha.having (f := State.msgCtr)
  have hmem : u.mem = s.mem := ha.having (f := State.mem)
  have hmil : u.milestones = s.milestones := ha.having (f := State.milestones)
  have hfree : ∀ a b, freeIndex u a b = freeIndex s a b := fun a b => ha.having (f := fun s => freeIndex s a b)
  have hdo := poolAlloc_takes (n := n.val) (p := q) (s := u) (k := k) (i := i) hs ((ha.cwInside _).trans hin) hsize hk
    (by rw [hfree, ha.finalHere]; exact hi)
  rw [hbpm, hctr, hmem, hmil] at hdo
  exact ⟨_, next_congr ((serve_typ ht htyp).trans halloc), hdo⟩

/-- A request that names a buffer of its sender changes the table of buffers, and is answered. -/
theorem poolHandle_does {c : Instr} {b : Buf} {bpm : Bpm → Bpm} (ht : Taken s n p q t) (hc : Counted .bpm n q t)
    (hexec : exec c s = .next (poolHandleIn n.val q t)) (hs : q.ssvc = false)
    (hin : q.typ = tPoolShare → cwInside s (plCw q) = true) (hfind : findBuf s (plHandle q) = some b)
    (hrec : tabGet s.bpm.flawed (bufKey b.pool b.quad b.index) = none) (hown : b.owners.contains (BitVec.ofNat 32 q.src) = true)
    (hdo : ∀ u : State, (poolChange n.val q b u).bpm = bpm u.bpm ∧ (poolChange n.val q b u).msgCtr = u.msgCtr + 1 ∧
      (poolChange n.val q b u).mem = u.mem) :
    Does c s (fun u => u.bpm = bpm s.bpm ∧ u.msgCtr = s.msgCtr + 1 ∧ u.mem = s.mem) := by
  obtain ⟨u, ms, -, hhandle, ha⟩ := pool_arrives ht hc
  have hbpm : u.bpm = s.bpm := ha.having (f := State.bpm)
  have hctr : u.msgCtr = s.msgCtr := ha.having (f := State.msgCtr)
  have hmem : u.mem = s.mem := ha.having (f := State.mem)
  have hfind' : findBuf u (plHandle q) = some b := (ha.having (f := fun s => findBuf s (plHandle q))).trans hfind
  have hgo := poolHandle_performs (n := n.val) hs (fun h => (ha.cwInside _).trans (hin h)) hfind' (by rw [hbpm]; exact hrec) hown
  obtain ⟨h1, h2, h3⟩ := hdo u
  rw [← hgo] at h1 h2 h3
  exact ⟨_, hexec.trans (next_congr hhandle), by rw [h1, hbpm], by rw [h2, hctr], h3.trans hmem⟩

end

/-! ## Registers -/

theorem bpmResult_leaves (result reason : Nat) (s : State) :
    (bpmResult result reason s).reg 0x7000074 = BitVec.ofNat 64 (result + reason * 4) ∧ (bpmResult result reason s).bpm = s.bpm ∧
      (bpmResult result reason s).mem = s.mem := ⟨reg_setReg_same s _ _, rfl, rfl⟩

theorem tabGet_foldl_tabSet {α : Type} (f : Nat → α) : ∀ (l : List Nat) (t : Tab α) (a : Nat),
    tabGet (l.foldl (fun t a => tabSet t a (f a)) t) a = if a ∈ l then some (f a) else tabGet t a
  | [], _, _ => by simp
  | b :: l, t, a => by
    rw [List.foldl_cons, tabGet_foldl_tabSet f l, tabGet_tabSet]
    by_cases hl : a ∈ l
    · rw [if_pos hl, if_pos (List.mem_cons_of_mem _ hl)]
    · rw [if_neg hl]
      by_cases hb : a = b
      · subst hb
        rw [if_pos rfl, if_pos (List.mem_cons_self ..)]
      · rw [if_neg hb, if_neg (by simp [hb, hl])]

theorem bpmApply_leaves (s : State) : (bpmApply s).mem = s.mem ∧ (bpmApply s).bpm.bufs = s.bpm.bufs ∧
    (bpmApply s).bpm.inForce = bpmRegs.foldl (fun t a => tabSet t a (s.reg a)) [] := by
  unfold bpmApply
  generalize bpmRegs.foldl (fun t a => tabSet t a (s.reg a)) [] = force
  exact ⟨rfl, rfl, rfl⟩

/-- R321: a legal configuration comes into force. -/
theorem reconf_applies {s : State} (hbufs : s.bpm.bufs = []) (hasked : s.xsteps.any (fun x => x.batches.any (fun b => !b.given)) = false)
    (hlegal : bpmLegal s (fun a => s.regN a) = true) : (reconf s).reg 0x7000074 = 1 ∧
      (∀ a ∈ bpmRegs, bpmCfg (reconf s) a = s.regN a) ∧ (reconf s).bpm.bufs = [] ∧ (reconf s).mem = s.mem := by
  have hgo : reconf s = bpmResult 1 0 (bpmApply s) := by
    unfold reconf
    rw [hbufs, hasked, if_neg (by decide), if_neg (by rw [hlegal]; decide)]
  obtain ⟨hreg, hbpm, hmem⟩ := bpmResult_leaves 1 0 (bpmApply s)
  obtain ⟨hmemApply, hbufsApply, hforceApply⟩ := bpmApply_leaves s
  rw [hgo]
  refine ⟨hreg, fun a ha => ?_, by rw [hbpm, hbufsApply, hbufs], hmem.trans hmemApply⟩
  have hforce : (bpmResult 1 0 (bpmApply s)).bpm.inForce = bpmRegs.foldl (fun t a => tabSet t a (s.reg a)) [] := by
    rw [hbpm, hforceApply]
  rw [bpmCfg, hforce, tabGet_foldl_tabSet, if_pos ha]
  rfl

theorem reconf_refuses {s : State}
    (h : s.bpm.bufs ≠ [] ∨ s.xsteps.any (fun x => x.batches.any (fun b => !b.given)) = true) :
    (reconf s).reg 0x7000074 = 6 ∧ (reconf s).bpm = s.bpm := by
  have hgo : reconf s = bpmResult 2 1 s := by
    unfold reconf
    refine if_pos ?_
    rcases h with h | h
    · rw [Bool.or_eq_true]
      exact .inl (by simpa using h)
    · rw [h, Bool.or_true]
  obtain ⟨hreg, hbpm, -⟩ := bpmResult_leaves 2 1 s
  rw [hgo]
  exact ⟨hreg, hbpm⟩

theorem forceFree_frees {s : State} {h : W32} {b : Buf} (hfind : findBuf s h = some b)
    (hrec : tabGet s.bpm.flawed (bufKey b.pool b.quad b.index) = none) : (forceFree h s).bpm.bufs = s.bpm.bufs.erase b ∧
      (forceFree h s).reg 0x7000074 = 1 ∧ (forceFree h s).mem = s.mem := by
  have hgo : forceFree h s = bpmResult 1 0 (count 0x0C9 1 none none none (freeBuf b s)) := by
    unfold forceFree
    rw [hfind]
    dsimp only
    rw [readRecord_clean hrec]
  obtain ⟨hreg, hbpm, hmem⟩ := bpmResult_leaves 1 0 (count 0x0C9 1 none none none (freeBuf b s))
  obtain ⟨hfb, -, hfm⟩ := freeBuf_leaves b s
  rw [hgo]
  refine ⟨?_, hreg, hmem.trans hfm⟩
  rw [hbpm]
  exact congrArg Bpm.bufs hfb

/-- Settles O12. -/
theorem poolRequestsChangeTheBuffers : Obligations.PoolRequestsChangeTheBuffers := by
  unfold Obligations.PoolRequestsChangeTheBuffers
  intro s n p q t h b
  refine ⟨fun k i ht hc htyp hs hin hsize hk hi => poolAlloc_does ht hc htyp hs hin hsize hk hi,
    fun ht hc htyp hs hin hknown hnew hroom => ?_, fun ht hc htyp hs hknown hsrc => ?_,
    fun ht hc htyp hs hknown hsrc hlen => ?_, fun ht hc htyp hs hknown hsrc hlen => ?_, fun ht hc htyp hs hknown hdeny => ?_,
    fun hon hfind hrec => ?_, fun hon hbufs hasked hlegal => ?_, fun hon href => ?_⟩
  · obtain ⟨hfind, hrec, hown⟩ := hknown
    obtain ⟨u, hu, hbpm, hctr, hmem⟩ := poolHandle_does (c := .poolShare n p) ht hc (next_congr (serve_typ ht htyp)) hs
      (fun _ => hin) hfind hrec hown (fun u => poolChange_shares htyp hnew hroom)
      (bpm := fun x => { x with bufs := x.bufs.map (fun y => if y = b then { b with owners := b.owners ++ [plCw q] } else y) })
    exact ⟨u, hu, by rw [hbpm], by rw [hbpm], hctr, hmem⟩
  · obtain ⟨hfind, hrec, hown⟩ := hknown
    obtain ⟨u, hu, hbpm, hctr, hmem⟩ := poolHandle_does (c := .poolDrop n p) ht hc (next_congr (serve_typ ht htyp)) hs
      (fun hshare => absurd (htyp.symm.trans hshare) (by decide)) hfind hrec hown (fun u => poolChange_drops htyp hsrc)
      (bpm := fun x => { x with
        bufs := x.bufs.map (fun y => if y = b then { b with owners := b.owners.filter (· != BitVec.ofNat 32 q.src) } else y) })
    exact ⟨u, hu, by rw [hbpm], by rw [hbpm], hctr, hmem⟩
  · obtain ⟨hfind, hrec, hown⟩ := hknown
    obtain ⟨u, hu, hbpm, hctr, hmem⟩ := poolHandle_does (c := .poolDrop n p) ht hc (next_congr (serve_typ ht htyp)) hs
      (fun hshare => absurd (htyp.symm.trans hshare) (by decide)) hfind hrec hown
      (fun u => by
        rw [poolChange_returns (by rw [htyp]; decide) (fun _ => hsrc)]
        exact poolReturn_frees hsrc hlen) (bpm := fun x => { x with bufs := x.bufs.erase b })
    exact ⟨u, hu, by rw [hbpm], by rw [hbpm], hctr, hmem⟩
  · obtain ⟨hfind, hrec, hown⟩ := hknown
    obtain ⟨u, hu, hbpm, hctr, hmem⟩ := poolHandle_does (c := .poolFree n p) ht hc (next_congr (serve_typ ht htyp)) hs
      (fun hshare => absurd (htyp.symm.trans hshare) (by decide)) hfind hrec hown
      (fun u => by
        rw [poolChange_returns (by rw [htyp]; decide) (fun _ => hsrc)]
        exact poolReturn_frees hsrc hlen) (bpm := fun x => { x with bufs := x.bufs.erase b })
    exact ⟨u, hu, by rw [hbpm], by rw [hbpm], hctr, hmem⟩
  · obtain ⟨hfind, hrec, hown⟩ := hknown
    exact poolHandle_does (c := .poolFree n p) ht hc (next_congr (serve_typ ht htyp)) hs
      (fun hshare => absurd (htyp.symm.trans hshare) (by decide)) hfind hrec hown
      (fun u => by
        rw [poolChange_returns (by rw [htyp]; decide) (fun hdrop => absurd (htyp.symm.trans hdrop) (by decide))]
        exact poolReturn_denies hdeny) (bpm := fun x => x)
  · exact ⟨_, next_congr (if_neg (by simp [hon])), forceFree_frees hfind hrec⟩
  · exact ⟨_, next_congr (if_neg (by simp [hon])), reconf_applies hbufs hasked hlegal⟩
  · exact ⟨_, next_congr (if_neg (by simp [hon])), reconf_refuses href⟩

end Sys2Proof.Proofs
end

section
/-!
PROOFS. The header checks of Table 2.12 (O20).
-/

namespace Sys2Proof.Proofs
open Sys2Proof Sys2Proof.Machine Sys2Proof.Claims

set_option Elab.async false

section
variable {s : State} {n : Nat} {p : Packet}

/-- The first check that fails decides. -/
theorem ingress_fails {src : Nat} {f : Option Nat} (hw : Whole s) (h : firstFail (takeIn n p s).2 n p = some (src, f)) :
    ingress n p s = dropIn n src f p (takeIn n p s).2 := by
  have hwhole : Whole (takeIn n p s).2 := having_errors.1 (takeIn_errors (having_errors.2 hw))
  unfold ingress
  generalize takeIn n p s = x at *
  obtain ⟨e, t⟩ := x
  dsimp only at h hwhole ⊢
  rw [stageRead_clean _ _ _ _ hwhole]
  dsimp only
  unfold checks
  rw [h]

theorem dropIn_gone (src : Nat) (f : Option Nat) : (dropIn n src f p s).1 = .gone := rfl

theorem dropIn_ports (src : Nat) (f : Option Nat) : (dropIn n src f p s).2.ports = s.ports := by
  unfold dropIn
  cases f with
  | none => rfl
  | some k => exact raise_ports _ _ _

theorem dropIn_raises {src k : Nat} (hk : k < 64) :
    ((dropIn n src (some k) p s).2.reg (blkFlt (puBlk n))).getLsbD k = true := raise_sets _ hk _

theorem takeIn_raised : (takeIn n p s).2.raised = s.raised := by
  unfold takeIn
  dsimp only
  split
  · unfold cameIn received countPkt
    split <;> rfl
  · rfl

/-- R49: a packet that fails a check is dropped; memories and work stay. -/
theorem ingress_drops {src : Nat} {f : Option Nat} (hw : Whole s) (h : firstFail (takeIn n p s).2 n p = some (src, f)) :
    ∃ u, ingress n p s = (.gone, u) ∧ Arrived n s u ∧ u.ports = (takeIn n p s).2.ports ∧
      (∀ k, f = some k → k < 64 → (u.reg (blkFlt (puBlk n))).getLsbD k = true) ∧ (f = none → u.raised = s.raised) := by
  refine ⟨_, ingress_fails hw h, (arrived_takeIn p).trans (arrived_dropIn _ _ _), dropIn_ports _ _, ?_, ?_⟩
  · rintro k rfl hk
    exact dropIn_raises hk
  · rintro rfl
    exact takeIn_raised

end

/-- Settles O20. -/
theorem headerChecksDecideInOrder : Obligations.HeaderChecksDecideInOrder := by
  unfold Obligations.HeaderChecksDecideInOrder
  refine ⟨fun s n p src f hw h => ?_, fun s n p => ?_⟩
  · obtain ⟨u, hu, ha, hports, hflt, hraised⟩ := ingress_drops hw h
    exact ⟨u, hu, ha.having (f := State.mem), ha.having (f := State.milestones), ha.having (f := State.waits),
      ha.having (f := State.colls), ha.having (f := State.msgs), ha.having (f := State.bpm), ha.having (f := State.engines),
      ha.having (f := State.xsteps), ha.having (f := State.combs), ha.having (f := State.hep), hports, hflt, hraised⟩
  · intro crc runs gate known3 plain inside
    have hgate : (isEndpoint s n && !bit (s.regN 0x30) 0) = true ↔ ¬ gate := by
      simp only [gate, bit, Bool.and_eq_true, Bool.not_eq_true', Classical.not_imp, Bool.not_eq_true]
    have hplain : ((s.port n).fabver = 0 ∧ (!plainStore p) = true) ↔ ¬ plain := by
      simp only [plain, Bool.not_eq_true', Classical.not_imp, Bool.not_eq_true]
    have hinside : (cwX p.dst ≥ dimAxis s 0 ∨ cwY p.dst ≥ dimAxis s 1 ∨ cwZ p.dst ≥ dimAxis s 2 ∨ cwW p.dst ≠ 0) ↔ ¬ inside := by
      simp only [inside, ge_iff_le, ← Nat.not_lt]
      tauto
    have hcrc : (p.hcrc ≠ p.hcrcOf) ↔ ¬ crc := Iff.rfl
    have hruns : halted s = true ↔ ¬ runs := by simp [runs]
    have hknown : (!check3 p (s.port n).fabver) = true ↔ ¬ known3 := by simp [known3]
    have horder : firstFail s n p = if ¬ crc then some (0x020, some 1) else if ¬ runs then some (0x02A, none)
        else if ¬ gate then some (0x029, none) else if ¬ known3 then some (0x021, some 2) else if ¬ plain then some (0x02C, some 2)
        else if 64 ≤ p.hops then some (0x022, some 3) else if ¬ inside then some (0x023, some 2) else none := by
      unfold firstFail
      simp only [hcrc, hruns, hgate, hknown, hplain, hinside, ge_iff_le]
    refine ⟨fun h1 => ?_, fun h1 h2 => ?_, fun h1 h2 h3 => ?_, fun h1 h2 h3 h4 => ?_, fun h1 h2 h3 h4 h5 => ?_,
      fun h1 h2 h3 h4 h5 h6 => ?_, fun h1 h2 h3 h4 h5 h6 h7 => ?_, fun h1 h2 h3 h4 h5 h6 h7 => ?_⟩ <;> rw [horder]
    · rw [if_pos h1]
    · rw [if_neg (not_not.2 h1), if_pos h2]
    · rw [if_neg (not_not.2 h1), if_neg (not_not.2 h2), if_pos h3]
    · rw [if_neg (not_not.2 h1), if_neg (not_not.2 h2), if_neg (not_not.2 h3), if_pos h4]
    · rw [if_neg (not_not.2 h1), if_neg (not_not.2 h2), if_neg (not_not.2 h3), if_neg (not_not.2 h4), if_pos h5]
    · rw [if_neg (not_not.2 h1), if_neg (not_not.2 h2), if_neg (not_not.2 h3), if_neg (not_not.2 h4), if_neg (not_not.2 h5), if_pos h6]
    · rw [if_neg (not_not.2 h1), if_neg (not_not.2 h2), if_neg (not_not.2 h3), if_neg (not_not.2 h4), if_neg (not_not.2 h5),
        if_neg (Nat.not_le.2 h6), if_pos h7]
    · rw [if_neg (not_not.2 h1), if_neg (not_not.2 h2), if_neg (not_not.2 h3), if_neg (not_not.2 h4), if_neg (not_not.2 h5),
        if_neg (Nat.not_le.2 h6), if_neg (not_not.2 h7)]

end Sys2Proof.Proofs
end

section
/-!
PROOFS. Packets go to their egress (O19).
-/

namespace Sys2Proof.Proofs
open Sys2Proof Sys2Proof.Machine Sys2Proof.Claims

set_option Elab.async false

/-- A read response for port 0 of this switch, sealed. -/
def crossingPacket : Packet := (⟨mkHdr [(0, 4, 1), (5, 1, 1), (8, 8, 3), (240, 16, 1)], []⟩ : Packet).seal

/-- Port 0 is an endpoint's and UP, the torus has one switch, and a granule of `crossingPacket` is poisoned in the crossbar on its
way to port 0. -/
def poisonedCrossing : State := State.setPort { State.reset with
  pins := ⟨true, false, true, Straps.open⟩
  csr := [(0x30, 1), (0x2000004, 0x10101)]
  gpoison := [.packet .crossbar 0 0 0 0 0] } 0 { Port.reset with link := .up, role := roleEndpoint, fabver := 1 }

/-- What `crossingPacket` is once the endpoint port has taken it in. -/
def crossedPacket : Packet := (crossingPacket.set 19 1 0).set 20 2 0

theorem ingress_crossing : (ingress (0 : Fin 64).val crossingPacket poisonedCrossing).1 = .deliver crossedPacket 0 := by decide +kernel

/-- R33: the packet with the poisoned granule goes no further. -/
theorem endpointDelivery_poisoned : ((endpointDelivery (0 : Fin 64).val crossingPacket poisonedCrossing).port 0).egress = [] := by decide +kernel

/-- Refutes O19: the clause for a packet that goes to an endpoint does not ask that no memory holds an error, and a packet with a
poisoned granule in the crossbar joins no egress. -/
theorem not_packetsGoToTheirEgress : ¬ Obligations.PacketsGoToTheirEgress := by
  unfold Obligations.PacketsGoToTheirEgress
  intro h
  obtain ⟨-, -, hdeliver, -, -⟩ := h poisonedCrossing 0 crossingPacket crossedPacket (ingress (0 : Fin 64).val crossingPacket poisonedCrossing).2 0
  have hport : cwP crossedPacket.dst = 0 := by decide +kernel
  have hin : ingress (0 : Fin 64).val crossingPacket poisonedCrossing =
      (.deliver crossedPacket 0, (ingress (0 : Fin 64).val crossingPacket poisonedCrossing).2) := by
    rw [← ingress_crossing]
  have hyellow : (crossedPacket.cv && crossedPacket.colour == 1) = false := by decide +kernel
  have hopen : endpointOpen (ingress (0 : Fin 64).val crossingPacket poisonedCrossing).2 0 := by decide +kernel
  rw [hport] at hdeliver
  obtain ⟨u, hu, ⟨x, hjoin, -⟩, -⟩ := hdeliver (by decide +kernel) hin hyellow hopen
  have hstate : u = endpointDelivery (0 : Fin 64).val crossingPacket poisonedCrossing := (Host.Outcome.next.inj hu).symm
  rw [hstate, endpointDelivery_poisoned] at hjoin
  exact absurd hjoin (by simp)

end Sys2Proof.Proofs
end

section
/-!
PROOFS. Epochs are counted and followed (O17).
-/

namespace Sys2Proof.Proofs
open Sys2Proof Sys2Proof.Machine Sys2Proof.Claims

set_option Elab.async false

/-- The chip runs with its epochs numbered, and window 0 of the gate cycle to come at port 0 has already sent 5 words. -/
def sentAhead : State := State.setPort { State.reset with
  pins := ⟨true, false, true, Straps.open⟩
  rack := { State.reset.rack with numbered := true } } 0 { Port.reset with winSent := [(1, 5)] }

theorem coreOn_sentAhead : coreOn sentAhead = true := by decide +kernel

/-- R134: the new gate cycle begins less what its windows have sent ahead. -/
theorem epochBoundary_keeps_sentAhead : ((epochBoundary 0 sentAhead).port 0).winSent = [(0, 5)] := by decide +kernel

/-- Refutes O17: at an epoch boundary a gate cycle starts, and what a port has sent ahead in the windows of the new cycle stands in
`winSent`, where the statement has it empty. -/
theorem not_epochsAreCountedAndFollowed : ¬ Obligations.EpochsAreCountedAndFollowed := by
  unfold Obligations.EpochsAreCountedAndFollowed
  intro h
  obtain ⟨hboundary, -⟩ := h sentAhead 0 crossingPacket sentAhead 0
  obtain ⟨u, hu, -, -, hempty, -⟩ := hboundary coreOn_sentAhead rfl
  have hstate : u = epochBoundary 0 sentAhead := (Host.Outcome.next.inj hu).symm
  have hport := hempty 0 (by decide)
  rw [hstate, epochBoundary_keeps_sentAhead] at hport
  exact absurd hport (by simp)

end Sys2Proof.Proofs
end

section
/-!
PROOFS. Gate cycles and message timeouts (O21).
-/

namespace Sys2Proof.Proofs
open Sys2Proof Sys2Proof.Machine Sys2Proof.Claims

set_option Elab.async false

/-! ## Meters -/

theorem tabGet_map {α : Type} (f : Nat → α → α) (k : Nat) : ∀ t : Tab α,
    tabGet (t.map (fun e => (e.1, f e.1 e.2))) k = (tabGet t k).map (f k)
  | [] => rfl
  | e :: t => by
    rw [List.map_cons]
    by_cases hk : e.1 = k
    · simp [tabGet, hk]
    · simp [tabGet, hk, tabGet_map f k t]

theorem regPlace_pu {a : Nat} (h0 : 0x1000000 ≤ a) (h1 : a < 0x1400000) : (regPlace a).2 = puRows := by
  unfold regPlace
  dsimp only
  repeat rw [if_neg (by omega)]
  rw [if_pos (by omega)]

theorem puRows_unbound : ∀ r ∈ puRows, r.reset.testBit 28 = false := by decide

/-- No meter is bound after reset. -/
theorem regReset_meter (f : Fuses) {a : Nat} (h0 : 0x1000000 ≤ a) (h1 : a < 0x1400000) : bit (regReset f a).toNat 28 = false := by
  unfold regReset
  repeat rw [if_neg (by omega)]
  unfold regAt
  have hrows := regPlace_pu h0 h1
  generalize regPlace a = place at hrows
  obtain ⟨b, rows⟩ := place
  cases hrows
  dsimp only
  split
  · next heq =>
    split at heq
    · simp at heq
    · next r hf =>
      simp only [Option.some.injEq, Prod.mk.injEq] at heq
      obtain ⟨-, rfl, -⟩ := heq
      exact (bit_ofNat (by decide)).trans (puRows_unbound _ (List.mem_of_find?_eq_some hf))
  · rfl

/-- What a gate cycle makes of the register at `a`. -/
def credited (s : State) (n a : Nat) (v : W64) : W64 :=
  if isMeter a v && ((a - 0x1000000) / 0x10000 == n) then BitVec.ofNat 64 (meterCredit s v.toNat) else v

theorem gateCycleStart_csr (n : Nat) (s : State) : (gateCycleStart n s).csr = s.csr.map (fun e => (e.1, credited s n e.1 e.2)) := by
  refine List.map_congr_left fun e _ => ?_
  unfold credited
  split <;> rfl

theorem tabGet_gateCycleStart (n : Nat) (s : State) (a : Nat) : tabGet (gateCycleStart n s).csr a = (tabGet s.csr a).map (credited s n a) := by
  rw [gateCycleStart_csr, tabGet_map]

/-- A register outside the meters of a port stays. -/
theorem credited_outside (s : State) {n a : Nat} (h : ¬ (puBase n + 0x3000 ≤ a ∧ a < puBase n + 0x3800)) (v : W64) : credited s n a v = v := by
  refine if_neg fun hm => h ?_
  simp only [isMeter, Bool.and_eq_true, decide_eq_true_eq, beq_iff_eq] at hm
  obtain ⟨⟨⟨⟨⟨h0, h1⟩, h2⟩, h3⟩, -⟩, hn⟩ := hm
  unfold puBase
  omega

theorem isMeter_meterAddr {n m : Nat} (hn : n < 64) (hm : m < 256) (v : W64) : isMeter (meterAddr n m) v = bit v.toNat 28 := by
  have h : 0x1000000 ≤ meterAddr n m ∧ meterAddr n m < 0x1400000 ∧ 0x3000 ≤ meterAddr n m % 0x10000 ∧ meterAddr n m % 0x10000 < 0x3800 := by
    unfold meterAddr puBase
    omega
  simp [isMeter, h]

theorem credited_meter (s : State) {n m : Nat} (hn : n < 64) (hm : m < 256) (v : W64) : credited s n (meterAddr n m) v =
    if bit v.toNat 28 then BitVec.ofNat 64 (meterCredit s v.toNat) else v := by
  have hport : ((meterAddr n m - 0x1000000) / 0x10000 == n) = true := by
    rw [beq_iff_eq]
    unfold meterAddr puBase
    omega
  rw [credited, isMeter_meterAddr hn hm, hport, Bool.and_true]

theorem bits_eq_one {v k : Nat} : bits v k k = 1 ↔ bit v k = true := by
  rw [bits, bit, Nat.testBit_eq_decide_div_mod_eq, decide_eq_true_eq, Nat.add_sub_cancel_left, Nat.pow_one]

/-- R134: the register of a meter after a gate cycle starts. -/
theorem reg_meter (s : State) {n m : Nat} (hn : n < 64) (hm : m < 256) : (gateCycleStart n s).reg (meterAddr n m) =
    if s.field (meterAddr n m) 28 28 = 1 then BitVec.ofNat 64 (meterCredit s (s.regN (meterAddr n m))) else s.reg (meterAddr n m) := by
  have hreset : bit (regReset s.fuses (meterAddr n m)).toNat 28 = false :=
    regReset_meter _ (by unfold meterAddr puBase; omega) (by unfold meterAddr puBase; omega)
  have hfuses : (gateCycleStart n s).fuses = s.fuses := rfl
  rw [State.reg, tabGet_gateCycleStart, hfuses]
  simp only [State.field, State.regN, State.reg, bits_eq_one]
  cases hget : tabGet s.csr (meterAddr n m) with
  | none =>
    rw [Option.map_none, Option.getD_none, hreset]
    rfl
  | some v =>
    rw [Option.map_some, Option.getD_some, Option.getD_some, credited_meter s hn hm]

theorem bits_lt (v hi lo : Nat) : bits v hi lo < 2 ^ (hi + 1 - lo) := Nat.mod_lt _ (Nat.two_pow_pos _)

theorem meterCredit_lt (s : State) {v : Nat} (hv : v < 2 ^ 64) : meterCredit s v < 2 ^ 64 :=
  setBits_lt _ (setBits_lt _ hv (by decide) (by decide)) (by decide) (by decide)

/-- R134: the two buckets after the credit, and the rest of the meter. -/
theorem meterCredit_bits (s : State) (v : Nat) :
    bits (meterCredit s v) 7 0 = min (cCbs (conC s (bits v 27 16))) (bits v 7 0 + bR (conB s (bits v 27 16))) ∧
    bits (meterCredit s v) 15 8 = min (cPbs (conC s (bits v 27 16))) (bits v 15 8 + cPir (conC s (bits v 27 16))) ∧
    bits (meterCredit s v) 63 16 = bits v 63 16 := by
  have hcb : cCbs (conC s (bits v 27 16)) < 256 := bits_lt _ 7 0
  have hpb : cPbs (conC s (bits v 27 16)) < 256 := bits_lt _ 23 16
  unfold meterCredit
  refine ⟨?_, ?_, ?_⟩
  · rw [bits_setBits_below _ _ (by decide) (by decide), bits_setBits_same]
    exact Nat.mod_eq_of_lt (Nat.lt_of_le_of_lt (Nat.min_le_left ..) hcb)
  · rw [bits_setBits_same]
    exact Nat.mod_eq_of_lt (Nat.lt_of_le_of_lt (Nat.min_le_left ..) hpb)
  · rw [bits_setBits_above _ _ (by decide) (by decide), bits_setBits_above _ _ (by decide) (by decide)]

/-! ## The windows of a gate cycle -/

theorem tabGet_nextLap {k : Nat} (hk : k % 2 = 0) : ∀ t : Tab Nat, tabGet (nextLap t) k = tabGet t (k + 1)
  | [] => rfl
  | e :: t => by
    have ih := tabGet_nextLap hk t
    unfold nextLap at ih ⊢
    by_cases hodd : e.1 % 2 = 1
    · have hiff : e.1 - 1 = k ↔ e.1 = k + 1 := by omega
      simp [tabGet, hodd, hiff, ih]
    · have hne : e.1 ≠ k + 1 := by omega
      simp [tabGet, hodd, hne, ih]

/-! ## Timeouts of messages -/

/-- R56: what becomes of a store command's message past its timeout. -/
theorem msgTimeout_store {s : State} {src msgId : W32} {c : MsgCtx} (hon : coreOn s = true) (hrun : halted s = false)
    (hfind : findMsg s src msgId = some c) (htyp : c.typ = 0x01 ∨ c.typ = 0x04 ∨ c.typ = 0x05) : ∃ r,
    msgTimeout src msgId s = { raise .tsc 7 (count 0x052 1 (some c.port) (some (Packet.mk c.hdr []).tc) none (dropMsg src msgId s)) with
      resps := r } := by
  have hblk : serviceBlk c.typ = .tsc := by obtain h | h | h := htyp <;> rw [h] <;> rfl
  have hcon : (c.typ == tContribute) = false := by obtain h | h | h := htyp <;> rw [h] <;> rfl
  rw [msgTimeout, hfind]
  dsimp only
  rw [hon, hrun, hcon, if_neg (by simp), hblk]
  unfold abandonMsg
  dsimp only
  obtain h | h | h := htyp <;> rw [h]
  · exact ⟨_, rfl⟩
  · exact ⟨_, rfl⟩
  · exact ⟨_, rfl⟩

/-- Settles O21: each meter's register by its two buckets, and a timeout by the context that goes. -/
theorem gateCyclesAndMessageTimeouts : Obligations.GateCyclesAndMessageTimeouts := by
  unfold Obligations.GateCyclesAndMessageTimeouts
  intro s n src msgId c
  refine ⟨fun hon => ?_, fun hon hrun hfind htyp => ?_, fun hon hhalt => ?_⟩
  · have hstep : exec (.gateCycleStart n) s = .next (gateCycleStart n.val s) := by
      change execGateCycleStart n s = _
      rw [execGateCycleStart, if_pos hon]
    have hsame : (gateCycleStart n.val s).port n.val = { s.port n.val with winSent := nextLap (s.port n.val).winSent } :=
      port_setPort_same _ _ _
    refine ⟨_, hstep, fun k hk => ?_, ?_, rfl, fun a ha => ?_, fun m hm => ?_, fun m hm hne => ?_⟩
    · rw [hsame, tabOr, tabOr, tabGet_nextLap hk]
    · rw [hsame]
    · rw [tabGet_gateCycleStart]
      cases tabGet s.csr a with
      | none => rfl
      | some v => exact congrArg some (credited_outside s ha v)
    · dsimp only
      have hreg := reg_meter s n.isLt hm
      split at hreg
      · next hbound =>
        rw [if_pos hbound]
        have hN : (gateCycleStart n.val s).regN (meterAddr n.val m) = meterCredit s (s.regN (meterAddr n.val m)) := by
          rw [State.regN, hreg, BitVec.toNat_ofNat, Nat.mod_eq_of_lt (meterCredit_lt s (regN_lt s _))]
        obtain ⟨hcb, hpb, hrest⟩ := meterCredit_bits s (s.regN (meterAddr n.val m))
        simp only [State.field, hN]
        exact ⟨hcb, hpb, hrest⟩
      · next hfree =>
        rw [if_neg hfree]
        exact hreg
    · refine port_setPort_ne _ _ _ _ ?_
      have hn := n.isLt
      omega
  · simp only [List.contains_eq_mem, List.mem_cons, List.not_mem_nil, or_false, decide_eq_true_eq] at htyp
    obtain ⟨r, hr⟩ := msgTimeout_store hon hrun hfind htyp
    refine ⟨msgTimeout src msgId s, rfl, ?_⟩
    rw [hr]
    have hset := raise_sets .tsc (src := 7) (by decide) (count 0x052 1 (some c.port) (some (Packet.mk c.hdr []).tc) none (dropMsg src msgId s))
    obtain ⟨_, _, _, _, hshape⟩ := raise_shape (s := count 0x052 1 (some c.port) (some (Packet.mk c.hdr []).tc) none (dropMsg src msgId s)) .tsc 7
    rw [hshape] at hset ⊢
    exact ⟨findMsg_dropMsg src msgId s, hset, rfl, rfl, rfl⟩
  · change Host.Outcome.next (msgTimeout src msgId s) = _
    rw [msgTimeout]
    cases findMsg s src msgId with
    | none => rfl
    | some c => dsimp only; rw [if_pos (by simp [hhalt])]

end Sys2Proof.Proofs
end

section
/-!
PROOFS. A STOP packet halts the switch (O18): discarding at every egress, and sending on the ports that are UP.
-/

namespace Sys2Proof.Proofs
open Sys2Proof Sys2Proof.Machine Sys2Proof.Claims

set_option Elab.async false

/-! ## Discarding what is queued -/

/-- `t` is `s` but for its ports and the events counted. -/
def Portwise (s t : State) : Prop := ∃ ports ev, t = { s with ports := ports, evts := ev }

theorem Portwise.refl (s : State) : Portwise s s := ⟨s.ports, s.evts, rfl⟩

theorem Portwise.trans {s t u : State} (h : Portwise s t) (k : Portwise t u) : Portwise s u := by
  obtain ⟨_, _, rfl⟩ := h
  obtain ⟨_, _, rfl⟩ := k
  exact ⟨_, _, rfl⟩

theorem Portwise.field {s t : State} (h : Portwise s t) (a hi lo : Nat) : t.field a hi lo = s.field a hi lo := by
  obtain ⟨_, _, rfl⟩ := h
  rfl

/-- The egress of one port discarded (R329). -/
def flushOne (s : State) (n : Nat) : State :=
  let q := s.port n
  if q.egress.isEmpty then s
  else q.egress.foldl (fun s e => count 0x02A 1 e.ing (some e.pkt.tc) none s) (s.setPort n { q with egress := [] })

theorem flushEgress_eq (s : State) : flushEgress s = allPorts.foldl flushOne s := rfl

/-- `t` is `s` but for the events counted. -/
def Countwise (s t : State) : Prop := ∃ ev, t = { s with evts := ev }

theorem countwise_foldl {α : Type} (src : Nat) (f g : α → Option Nat) (l : List α) (s : State) :
    Countwise s (l.foldl (fun s e => count src 1 (f e) (g e) none s) s) := by
  refine foldl_invariant (P := fun t : State => Countwise s t) (fun t e h => ?_) ⟨s.evts, rfl⟩
  obtain ⟨ev, rfl⟩ := h
  exact ⟨_, rfl⟩

theorem flushOne_shape (s : State) (n : Nat) : ∃ ev, flushOne s n = { s.setPort n { s.port n with egress := [] } with evts := ev } := by
  unfold flushOne
  dsimp only
  split
  · next hempty =>
    refine ⟨s.evts, ?_⟩
    have hsame : ({ s.port n with egress := [] } : Port) = s.port n := by rw [← List.isEmpty_iff.1 hempty]
    rw [hsame]
    have hports : (s.setPort n (s.port n)).ports = s.ports := by
      ext i
      simp [State.setPort, State.port, get_eq]
    exact congrArg (fun p => { s with ports := p }) hports.symm
  · exact countwise_foldl 0x02A _ _ _ _

theorem flushOne_port (s : State) (n : Nat) {m : Nat} (hn : n < 64) (hm : m < 64) :
    (flushOne s n).port m = if m = n then { s.port m with egress := [] } else s.port m := by
  obtain ⟨ev, h⟩ := flushOne_shape s n
  rw [h]
  split
  · next hmn => rw [hmn]; exact port_setPort_same s n _
  · next hmn => exact port_setPort_ne s n m _ (by omega)

theorem foldl_flushOne : ∀ (l : List Nat) (s : State), (∀ n ∈ l, n < 64) → Portwise s (l.foldl flushOne s) ∧
    ∀ m, m < 64 → (l.foldl flushOne s).port m = if m ∈ l then { s.port m with egress := [] } else s.port m
  | [], s, _ => ⟨.refl s, fun m _ => by simp⟩
  | n :: l, s, h => by
    obtain ⟨hn, hl⟩ := List.forall_mem_cons.1 h
    obtain ⟨hshape, hport⟩ := foldl_flushOne l (flushOne s n) hl
    have hone : Portwise s (flushOne s n) := by
      obtain ⟨ev, he⟩ := flushOne_shape s n
      exact ⟨_, ev, he⟩
    refine ⟨hone.trans hshape, fun m hm => ?_⟩
    rw [List.foldl_cons, hport m hm, flushOne_port s n hn hm]
    by_cases hmn : m = n
    · simp [hmn]
    · simp [hmn]

/-- R329: every egress is empty after a flush, and nothing else of a port moves. -/
theorem flushEgress_leaves (s : State) : Portwise s (flushEgress s) ∧
    ∀ m, m < 64 → (flushEgress s).port m = { s.port m with egress := [] } := by
  rw [flushEgress_eq]
  obtain ⟨hshape, hport⟩ := foldl_flushOne allPorts s fun n hn => List.mem_range.1 hn
  exact ⟨hshape, fun m hm => (hport m hm).trans (if_pos (List.mem_range.2 hm))⟩

/-! ## Sending on several ports -/

/-- `t` is `s` but for its ports and the two counters of what the switch sends. -/
def SentOn (s t : State) : Prop := ∃ ports q m, t = { s with ports := ports, seqCtr := q, msgCtr := m }

theorem SentOn.trans {s t u : State} (h : SentOn s t) (k : SentOn t u) : SentOn s u := by
  obtain ⟨_, _, _, rfl⟩ := h
  obtain ⟨_, _, _, rfl⟩ := k
  exact ⟨_, _, _, rfl⟩

theorem sendLinkLocal_shape (n typ ver : Nat) (own : List (Nat × Nat × Nat)) (s : State) : SentOn s (sendLinkLocal n typ ver own s) :=
  ⟨_, _, _, rfl⟩

/-- The link-local packet of `sendLinkLocal` (Table 2.10). -/
def localPacket (n typ ver : Nat) (own : List (Nat × Nat × Nat)) (s : State) : Packet :=
  Packet.seal { hdr := mkHdr ([(0, 4, ver), (5, 1, 1), (8, 8, typ), (64, 32, ownSw s + n * 2 ^ 18), (157, 1, 1),
      (160, 32, s.seqCtr.toNat), (192, 32, s.msgCtr.toNat), (240, 16, 1)] ++ own), pay := [] }

theorem sendLinkLocal_eq (n typ ver : Nat) (own : List (Nat × Nat × Nat)) (s : State) : sendLinkLocal n typ ver own s =
    { s.setPort n { s.port n with linkLocal := (s.port n).linkLocal ++ [localPacket n typ ver own s] } with
      seqCtr := s.seqCtr + 1, msgCtr := s.msgCtr + 1 } := rfl

/-- A link-local packet joins those its port has to send, and nothing else moves. -/
theorem sendLinkLocal_port (n typ ver : Nat) (own : List (Nat × Nat × Nat)) (s : State) {m : Nat} (hn : n < 64) (hm : m < 64) :
    (sendLinkLocal n typ ver own s).port m =
      if m = n then { s.port m with linkLocal := (s.port m).linkLocal ++ [localPacket n typ ver own s] } else s.port m := by
  rw [sendLinkLocal_eq]
  split
  · next hmn => rw [hmn]; exact port_setPort_same s n _
  · next hmn => exact port_setPort_ne s n m _ (by omega)

theorem foldl_sendLinkLocal (typ ver : Nat) (own : List (Nat × Nat × Nat)) : ∀ (l : List Nat) (s : State), (∀ n ∈ l, n < 64) → l.Nodup →
    SentOn s (l.foldl (fun s n => sendLinkLocal n typ ver own s) s) ∧
    ∀ m, m < 64 → ∃ ps : List Packet, ps.length = (if m ∈ l then 1 else 0) ∧
      (l.foldl (fun s n => sendLinkLocal n typ ver own s) s).port m =
        { s.port m with linkLocal := (s.port m).linkLocal ++ ps }
  | [], s, _, _ => ⟨⟨_, _, _, rfl⟩, fun m _ => ⟨[], by simp, by simp⟩⟩
  | n :: l, s, h, hd => by
    obtain ⟨hn, hl⟩ := List.forall_mem_cons.1 h
    obtain ⟨hnl, hd⟩ := List.nodup_cons.1 hd
    obtain ⟨hshape, hport⟩ := foldl_sendLinkLocal typ ver own l (sendLinkLocal n typ ver own s) hl hd
    refine ⟨(sendLinkLocal_shape n typ ver own s).trans hshape, fun m hm => ?_⟩
    obtain ⟨ps, hlen, hps⟩ := hport m hm
    rw [List.foldl_cons, hps, sendLinkLocal_port n typ ver own s hn hm]
    by_cases hmn : m = n
    · rw [if_neg (hmn ▸ hnl)] at hlen
      exact ⟨[localPacket n typ ver own s], by simp [hmn], by simp [hmn, List.length_eq_zero_iff.1 hlen]⟩
    · exact ⟨ps, by simpa [hmn] using hlen, by simp [hmn]⟩

theorem nodup_allPorts : allPorts.Nodup := List.nodup_range

theorem mem_upPorts {s : State} {m : Nat} : m ∈ upPorts s ↔ m < 64 ∧ (s.port m).link = .up ∧ 1 ≤ (s.port m).fabver := by
  simp [upPorts, allPorts]

/-- R104, R105: a STOP joins what each port that is UP with FABVER 1 or more has to send, but not at the port it came by. -/
theorem sendStops_leaves (origin wave : Nat) (but : Option Nat) (s : State) : SentOn s (sendStops origin wave but s) ∧
    ∀ m, m < 64 → ∃ ps : List Packet,
      ps.length = (if (s.port m).link = .up ∧ 1 ≤ (s.port m).fabver ∧ some m ≠ but then 1 else 0) ∧
      (sendStops origin wave but s).port m = { s.port m with linkLocal := (s.port m).linkLocal ++ ps } := by
  have hmem : ∀ m, m ∈ (upPorts s).filter (fun n => some n != but) ↔
      m < 64 ∧ (s.port m).link = .up ∧ 1 ≤ (s.port m).fabver ∧ some m ≠ but := fun m => by
    simp [mem_upPorts, and_assoc]
  obtain ⟨hshape, hport⟩ := foldl_sendLinkLocal tStop 1 [(8 * 32, 32, origin), (8 * 36, 16, wave)]
    ((upPorts s).filter (fun n => some n != but)) s (fun n hn => ((hmem n).1 hn).1) ((nodup_allPorts.filter _).filter _)
  refine ⟨hshape, fun m hm => ?_⟩
  obtain ⟨ps, hlen, hps⟩ := hport m hm
  refine ⟨ps, ?_, hps⟩
  rw [hlen]
  simp [hmem, hm]

/-! ## The halt -/

/-- The registers the halt writes: what stopped the switch, with SEEN; the start gate shut; STATE HALTED. -/
def stopInfo (origin wave : Nat) (s : State) : State :=
  ((s.setRegN 0x58 (origin % 2 ^ 32 + wave % 2 ^ 16 * 2 ^ 32 + 2 ^ 48)).setField 0x30 0 0 0).setField 0x94 1 0 1

theorem halt_eq (origin wave : Nat) (s : State) : halt origin wave s = flushEgress (stopInfo origin wave s) := rfl

theorem regN_stopInfo (origin wave : Nat) (s : State) :
    (stopInfo origin wave s).regN 0x58 = origin % 2 ^ 32 + wave % 2 ^ 16 * 2 ^ 32 + 2 ^ 48 := by
  have ho : origin % 2 ^ 32 < 2 ^ 32 := Nat.mod_lt _ (by decide)
  have hw : wave % 2 ^ 16 < 2 ^ 16 := Nat.mod_lt _ (by decide)
  rw [State.regN, stopInfo, reg_setField_ne (by decide), reg_setField_ne (by decide)]
  change (State.setRegN _ _ _).regN 0x58 = _
  rw [regN_setRegN, if_pos rfl, Nat.mod_eq_of_lt (by omega)]

theorem stopInfo_open (origin wave : Nat) (s : State) : (stopInfo origin wave s).field 0x30 0 0 = 0 := by
  rw [stopInfo, field_setField_ne (by decide), field_setField_same (by decide) (by decide), Nat.zero_mod]

theorem stopInfo_state (origin wave : Nat) (s : State) : (stopInfo origin wave s).field 0x94 1 0 = 1 := by
  rw [stopInfo, field_setField_same (by decide) (by decide), Nat.mod_eq_of_lt (by decide)]

/-- R105, R328: what the halt leaves. -/
theorem halt_isHalted (origin wave : Nat) (s : State) : IsHalted (halt origin wave s) origin wave := by
  obtain ⟨hshape, hport⟩ := flushEgress_leaves (stopInfo origin wave s)
  have ho : origin % 2 ^ 32 < 2 ^ 32 := Nat.mod_lt _ (by decide)
  have hw : wave % 2 ^ 16 < 2 ^ 16 := Nat.mod_lt _ (by decide)
  have hfield : ∀ a hi lo, (halt origin wave s).field a hi lo = (stopInfo origin wave s).field a hi lo := by
    exact hshape.field
  have hinfo : ∀ hi lo, (stopInfo origin wave s).field 0x58 hi lo = bits (origin % 2 ^ 32 + wave % 2 ^ 16 * 2 ^ 32 + 2 ^ 48) hi lo :=
    fun hi lo => by rw [State.field, regN_stopInfo]
  refine ⟨?_, ?_, ?_, ?_, ?_, fun n hn => ?_⟩
  · rw [hfield, hinfo, bits]
    omega
  · rw [hfield, hinfo, bits]
    omega
  · rw [hfield, hinfo, bits]
    omega
  · rw [hfield, stopInfo_open]
  · rw [hfield, stopInfo_state]
  · rw [halt_eq, hport n hn]

theorem stopInfo_port (origin wave m : Nat) (s : State) : (stopInfo origin wave s).port m = s.port m := by
  unfold stopInfo
  simp only [State.setField, State.port, State.setRegN_ports]

/-- The halt moves registers and empties the queues at the ports. -/
theorem halt_leaves (origin wave : Nat) (s : State) : (∃ c, Portwise { s with csr := c } (halt origin wave s)) ∧
    ∀ m, m < 64 → (halt origin wave s).port m = { s.port m with egress := [] } := by
  obtain ⟨hshape, hport⟩ := flushEgress_leaves (stopInfo origin wave s)
  rw [halt_eq]
  refine ⟨⟨_, hshape⟩, fun m hm => ?_⟩
  rw [hport m hm, stopInfo_port]

/-! ## STOP -/

/-- A link-local packet that is good has been taken in. -/
theorem linkLocalIn_takes {n typ : Nat} {p : Packet} {s t : State} (h : linkLocalIn n typ p s = (true, t)) : t = (takeIn n p s).2 := by
  unfold linkLocalIn at h
  extract_lets q live at h
  split at h
  · simp at h
  · generalize takeIn n p s = x at h ⊢
    obtain ⟨d, u⟩ := x
    dsimp only at h
    split at h
    · simp at h
    · generalize check3 p (if q.everUp then q.fabver else 0) = known at h
      cases known
      · simp at h
      · exact (Prod.mk.inj h).2.symm

theorem linkLocalIn_arrived {n typ : Nat} {p : Packet} {s t : State} (h : linkLocalIn n typ p s = (true, t)) : Arrived n s t :=
  linkLocalIn_takes h ▸ arrived_takeIn p

/-- The fault of a STOP that comes leaves what the halt wrote. -/
theorem isHalted_raise {s : State} {o w src : Nat} {b : Blk} (h : IsHalted s o w) : IsHalted (raise b src s) o w := by
  obtain ⟨ho, hw, hseen, hopen, hstate, hempty⟩ := h
  have hfield : ∀ a hi lo, loud a = false → (raise b src s).field a hi lo = s.field a hi lo := fun a hi lo ha => by
    rw [State.field, State.regN, reg_raise_of_quiet ha]
    rfl
  refine ⟨?_, ?_, ?_, ?_, ?_, fun n hn => ?_⟩
  · rw [hfield _ _ _ (by decide), ho]
  · rw [hfield _ _ _ (by decide), hw]
  · rw [hfield _ _ _ (by decide), hseen]
  · rw [hfield _ _ _ (by decide), hopen]
  · rw [hfield _ _ _ (by decide), hstate]
  · rw [State.port, raise_ports]
    exact hempty n hn

theorem SentOn.field {s t : State} (h : SentOn s t) (a hi lo : Nat) : t.field a hi lo = s.field a hi lo := by
  obtain ⟨_, _, _, rfl⟩ := h
  rfl

/-- The relay of a STOP leaves what the halt wrote. -/
theorem isHalted_sendStops {s : State} {o w origin wave : Nat} {but : Option Nat} (h : IsHalted s o w) :
    IsHalted (sendStops origin wave but s) o w := by
  obtain ⟨ho, hw, hseen, hopen, hstate, hempty⟩ := h
  obtain ⟨hsent, hport⟩ := sendStops_leaves origin wave but s
  refine ⟨?_, ?_, ?_, ?_, ?_, fun n hn => ?_⟩
  · rw [hsent.field, ho]
  · rw [hsent.field, hw]
  · rw [hsent.field, hseen]
  · rw [hsent.field, hopen]
  · rw [hsent.field, hstate]
  · obtain ⟨ps, -, hps⟩ := hport n hn
    rw [hps]
    exact hempty n hn

/-- R104, R105: the state after a STOP has been taken in, heeded and relayed. -/
theorem relayed_leaves (o w src : Nat) (n : Nat) (t : State) :
    let u := raise .glb src (sendStops o w (some n) (halt o w t))
    u.mem = t.mem ∧ u.milestones = t.milestones ∧ ∀ m, m < 64 → (u.port m).linkLocal.length = (t.port m).linkLocal.length +
      (if (t.port m).link = .up ∧ 1 ≤ (t.port m).fabver ∧ m ≠ n then 1 else 0) := by
  intro u
  obtain ⟨⟨c, _, _, hhalt⟩, hflushed⟩ := halt_leaves o w t
  obtain ⟨⟨_, _, _, hsent⟩, hports⟩ := sendStops_leaves o w (some n) (halt o w t)
  have hmem : (sendStops o w (some n) (halt o w t)).mem = t.mem := by rw [hsent, hhalt]
  have hmil : (sendStops o w (some n) (halt o w t)).milestones = t.milestones := by rw [hsent, hhalt]
  refine ⟨(raise_mem ..).trans hmem, (raise_milestones ..).trans hmil, fun m hm => ?_⟩
  obtain ⟨ps, hlen, hps⟩ := hports m hm
  rw [hflushed m hm] at hlen hps
  have hport : u.port m = (sendStops o w (some n) (halt o w t)).port m := congrArg (·.get (Fin.ofNat 64 m)) (raise_ports ..)
  rw [hport, hps, List.length_append, hlen]
  simp

/-- Settles O18: the halt, then the relay, then the fault. -/
theorem stopHaltsTheSwitch : Obligations.StopHaltsTheSwitch := by
  unfold Obligations.StopHaltsTheSwitch
  intro s n p t
  have hstep : exec (.stop n p) s = .next (stopPacket n.val p s) := rfl
  refine ⟨fun hin hlink hrun => ?_, fun hin hlink hhalt => ?_⟩
  · have harr := linkLocalIn_arrived hin
    have hmem : t.mem = s.mem := harr.having (f := fun x => x.mem)
    have hmil : t.milestones = s.milestones := harr.having (f := fun x => x.milestones)
    have hdo : stopPacket n.val p s =
        raise .glb 39 (sendStops (p.at 32 32) (p.at 36 16) (some n.val) (halt (p.at 32 32) (p.at 36 16) t)) := by
      rw [stopPacket, show linkLocalIn n.val tStop p s = (true, t) from hin]
      dsimp only
      rw [if_neg (by simpa using hlink), if_neg (by simp [hrun])]
    refine ⟨_, hstep, ?_⟩
    rw [hdo]
    obtain ⟨hm, hml, hlink⟩ := relayed_leaves (p.at 32 32) (p.at 36 16) 39 n.val t
    exact ⟨isHalted_raise (isHalted_sendStops (halt_isHalted _ _ t)), raise_sets .glb (by decide) _, hm.trans hmem, hml.trans hmil, hlink⟩
  · refine ⟨_, hstep, ?_⟩
    rw [stopPacket, show linkLocalIn n.val tStop p s = (true, t) from hin]
    dsimp only
    rw [if_neg (by simpa using hlink), if_pos hhalt]
    exact count_countsOnly _ _ _ _ _ _

end Sys2Proof.Proofs
end

section
/-!
PROOFS. Link frames are sequenced and replayed (O15).
-/

namespace Sys2Proof.Proofs
open Sys2Proof Sys2Proof.Machine Sys2Proof.Claims

set_option Elab.async false

/-- Port 0 exchanges on a chip that runs, and owes no NAK. -/
def exchanging : State := State.setPort { State.reset with pins := ⟨true, false, true, Straps.open⟩ } 0 { Port.reset with link := .exchange }

/-- Any frame: the receiver found a codeword of it uncorrectable. -/
def lostFrame : LinkFrame := ⟨[], 0⟩

theorem quiet_exchanging : ∀ l, l < 8 → laneErrors (exchanging.port (0 : Fin 64)) l + ([] : List Nat).getD l 0 ≤ 2048 := by
  decide +kernel

theorem nakSent_exchanging : (exchanging.port (0 : Fin 64)).nakSent = 0 := by decide +kernel

/-- R77: the NAK that a bad frame asks for is counted as sent. -/
theorem nakSent_lostFrame : ((linkFrame (0 : Fin 64).val lostFrame 0 1 [] exchanging).port 0).nakSent = 1 := by decide +kernel

/-- Refutes O15: the clause on a bad frame lets the port change in `nak` alone, and a frame lost while no NAK is owed also counts a
NAK in `nakSent`. -/
theorem not_linkFramesAreSequencedAndReplayed : ¬ Obligations.LinkFramesAreSequencedAndReplayed := by
  unfold Obligations.LinkFramesAreSequencedAndReplayed
  intro h
  obtain ⟨-, -, hbad, -⟩ := h exchanging 0 lostFrame 0 1 0 []
  obtain ⟨u, hu, ⟨hport, -⟩, -⟩ := hbad (by decide +kernel) quiet_exchanging (.inl (by decide))
  have hstate : u = linkFrame (0 : Fin 64).val lostFrame 0 1 [] exchanging := (Host.Outcome.next.inj hu).symm
  have hcount : (u.port (0 : Fin 64).val).nakSent = 0 := (congrArg Port.nakSent hport).trans nakSent_exchanging
  rw [hstate] at hcount
  exact absurd (nakSent_lostFrame.symm.trans hcount) (by decide)

end Sys2Proof.Proofs
end

section
/-!
PROOFS. Reductions follow their order (O32).
-/

namespace Sys2Proof.Proofs
open Sys2Proof Sys2Proof.Machine Sys2Proof.Claims

set_option Elab.async false

/-- ALLREDUCE_SUM of 16 FP32 elements whose ORDER is the reserved value 3. -/
def reservedOrder : BitVec 128 := BitVec.ofNat 128 (1 + 3 * 2 ^ 16 + 16 * 2 ^ 32)

/-- A whole input of 16 elements `v` of a member. -/
def memberInput (m : Nat) (v : W32) : CIn := ⟨.member m, 0, 0, (List.range 16).map (fun i => (i, v)), [], [], [], true⟩

/-- Collective (4, 0) of `reservedOrder`, with the data of both its members and no log of what arrived when. -/
def reservedColl : Coll :=
  ⟨4, 0, 0, dDigest reservedOrder, reservedOrder, 0, false, false, [], [], [memberInput 0 0x3F800000, memberInput 1 0x40000000],
    [], [], [], none, [], [], [], false⟩

/-- Group 4 of two members, this switch its root, with `reservedColl` open. -/
def reservedOpen : State := { Tests.grouped with colls := [reservedColl], descs := [reservedOrder] }

/-- The reduction of `reservedOpen` adds 1.0 and 2.0 for its element 0. -/
theorem reservedOpen_adds : ((findColl (upTraffic (4 : BitVec 12).toNat 0 reservedOpen) 4 0).bind (fun c' => partOf c' 0 0)).bind
    (fun x => tabGet x.vals 0) = some 0x40400000 := by decide +kernel

theorem orderedVal_reserved : orderedVal reservedOpen reservedColl [.member 0, .member 1] 0 = none := by decide +kernel

/-- Refutes O32: the first clause leaves out ORDER 2 (CANONICAL) alone and takes every other order for NATIVE or ARRIVAL. A collective of
the reserved ORDER 3 is combined as a CANONICAL one, and not in the order of arrival. -/
theorem not_reductionsFollowTheirOrder : ¬ Obligations.ReductionsFollowTheirOrder := by
  unfold Obligations.ReductionsFollowTheirOrder
  intro h
  obtain ⟨hcombine, -⟩ := h reservedOpen 4 0 reservedColl [.member 0, .member 1] 0 0 (by decide +kernel) (by decide +kernel) ⟨rfl, rfl⟩ rfl rfl
  obtain ⟨u, hu, c', x, hfind, hpart, -, hval, -⟩ := hcombine (by decide +kernel) (by decide +kernel) (by decide +kernel) rfl
    (by decide +kernel) (by decide +kernel) (by decide +kernel) (by decide +kernel) (by decide) (by decide) (by decide +kernel)
  have hstate : u = upTraffic (4 : BitVec 12).toNat 0 reservedOpen := (Host.Outcome.next.inj hu).symm
  have hsum := reservedOpen_adds
  have hgroup : (4 : BitVec 12).toNat = 4 := rfl
  rw [hgroup] at hfind
  rw [← hstate, hfind, Option.bind_some, hpart, Option.bind_some, hval, orderedVal_reserved] at hsum
  exact absurd hsum (by simp)

end Sys2Proof.Proofs
end

section
/-!
PROOFS. Parking saves the collectives (O28).
-/

namespace Sys2Proof.Proofs
open Sys2Proof Sys2Proof.Machine Sys2Proof.Claims

set_option Elab.async false

/-- A RESUME runs; engine 0 is disabled; the saved collective is one of group 4, whose entry names no local member and no child; and
the saved port epoch of "port" 0x301 is a word that makes that entry name a child, for its register is word A of group 4. -/
def resumingBadly : State := State.modEngine { Tests.withRegs [(0x400006C, 3)] Tests.sw with
  parked := [reservedColl]
  parkMeta := [(4096 + 0x301, 2 ^ 21)] } 0 (fun x => { x with dis := .disabled })

theorem units_resumingBadly : ∀ c ∈ resumingBadly.parked,
    unitAway resumingBadly c.group (neededEngines resumingBadly c.group c.desc) = none := by decide +kernel

/-- R205, R334: the collective needs engine 0 once it is open again, and ends. -/
theorem resumeComplete_loses : (resumeComplete resumingBadly).colls = [] := by decide +kernel

/-- Refutes O28: the last clause asks for the units that the parked collectives need as the group tables stand before the resume ends,
and a saved port epoch past the 64 ports is written into the group table. -/
theorem not_parkingSavesTheCollectives : ¬ Obligations.ParkingSavesTheCollectives := by
  unfold Obligations.ParkingSavesTheCollectives
  intro h
  obtain ⟨-, -, -, -, -, -, hresume⟩ := h resumingBadly (by decide +kernel) (by decide +kernel)
  obtain ⟨u, hu, -, -, -, -, hkeys, -⟩ := hresume (by decide +kernel) units_resumingBadly
  have hstate : u = resumeComplete resumingBadly := (Host.Outcome.next.inj hu).symm
  rw [hstate, resumeComplete_loses] at hkeys
  exact absurd hkeys (by decide +kernel)

end Sys2Proof.Proofs
end

section
/-!
PROOFS. Link state follows its events (O16).
-/

namespace Sys2Proof.Proofs
open Sys2Proof Sys2Proof.Machine Sys2Proof.Claims

set_option Elab.async false

/-- A frame of the replay buffer that carries a green packet of contract 0. -/
def greenFrame : SentFrame := ⟨⟨[], 0⟩, 1, [⟨⟨0, []⟩, some 0, 0, none, false, 0, false⟩], none⟩

/-- Port 0 is in a fast retrain with `greenFrame` unacknowledged; contract 0 sends 5 packets in a window of it that one lane is too
narrow for. -/
def narrowing : State :=
  State.setPort (Tests.withRegs [(0x1000044, 2 ^ 17), (0x1001800, 2 ^ 17), (0x3010004, 5 * 2 ^ 8), (0x301000C, 1)] Tests.sw) 0
    { Tests.endPort with link := .retrain, replay := [greenFrame] }

theorem replay_narrowing : (narrowing.port (0 : Fin 64).val).replay = [greenFrame] := by decide +kernel

/-- R150: the contract that no longer fits is broken, and its packets turn yellow in the replay buffer too. -/
theorem fastRetrainEnd_yellow :
    ((fastRetrainEnd (0 : Fin 64).val true 1 0 narrowing).port (0 : Fin 64).val).replay = [SentFrame.yellow 0 greenFrame] := by
  decide +kernel

/-- Refutes O16: a fast retrain that ends on fewer lanes does not keep the replay buffer as it was, for a contract that the narrower
link has no room for is broken, and what it has unacknowledged is marked yellow. -/
theorem not_linkStateFollowsItsEvents : ¬ Obligations.LinkStateFollowsItsEvents := by
  unfold Obligations.LinkStateFollowsItsEvents
  intro h
  obtain ⟨-, -, -, hend, -⟩ := h narrowing 0 0 1 0
  obtain ⟨u, hu, -, -, -, -, hreplay⟩ := hend (by decide +kernel) (by decide +kernel) (by decide +kernel) (by decide +kernel)
  have hstate : u = fastRetrainEnd (0 : Fin 64).val true 1 0 narrowing := (Host.Outcome.next.inj hu).symm
  have hkept := hreplay (by decide +kernel)
  rw [hstate, fastRetrainEnd_yellow, replay_narrowing] at hkept
  exact absurd hkept (by decide +kernel)

end Sys2Proof.Proofs
end

section
/-!
PROOFS. The port of a link: what its state changes make of it.
-/

namespace Sys2Proof.Proofs
open Sys2Proof Sys2Proof.Machine Sys2Proof.Claims

set_option Elab.async false

variable {s : State}

theorem setPort_setPort (n : Nat) (p q : Port) : (s.setPort n p).setPort n q = s.setPort n q := by
  unfold State.setPort
  rw [Vector.set_set]

theorem port_modPort_same (n : Nat) (f : Port → Port) : (s.modPort n f).port n = f (s.port n) := port_setPort_same s n _

theorem port_modPort_ne {n m : Nat} (f : Port → Port) (hn : n < 64) (hm : m < 64) (h : m ≠ n) : (s.modPort n f).port m = s.port m :=
  port_setPort_ne s n m _ (by omega)

theorem portBecomes_setPort (n : Fin 64) (q : Port) : PortBecomes s (s.setPort n.val q) n q :=
  ⟨port_setPort_same s n.val q, fun m hm hne => port_setPort_ne s n.val m q (by omega), rfl, rfl, rfl, rfl⟩

theorem port_requeue (n : Nat) (l : List QPkt) : (requeue n l s).port n =
    { s.port n with egress := if halted s then (s.port n).egress else queueBehind l (s.port n).egress } := by
  unfold requeue
  split
  · exact foldl_having (f := fun x => x.port n) (fun t x h => h) rfl
  · exact port_modPort_same n _

/-- The port of a link that begins to train, with role `r`, direction `d` and MAXW `w` (R68, R70, R93). -/
def inDetect (r d w : Nat) (q : Port) : Port :=
  let data := (q.replay.map (keptFrame q.txPartOf)).filter (fun f => f.cargo.any (fun e => lasting e.pkt))
  { q with
    link := .detect, resumeTo := .up, laneUse := 0, role := r, dir := d, maxw := w, far := none, retrains := 0,
    rx := List.replicate 8 RxLane.reset, tx := List.replicate 8 TxLane.reset, saidOk := 0, goSeen := 0, farLaneOk := 0,
    farMaxw := 0, ltfs := 0, nakRun := 0, nakSent := 0, nakLast := none, laneCorr := [], test := none, sent := [], owesAll := true,
    linkLocal := if q.wasUp then q.linkLocal.filter lasting else [],
    kept := if q.owesAll then (if q.wasUp then q.kept else []) else q.kept ++ data,
    rxOld := if q.owesAll then q.rxOld else q.rxSeq,
    opened := false, begun := false, txSeq := 0, replay := [], resend := 0, rxSeq := 0xFF, nak := false, rxPart := [],
    txPart := [], txPartOf := none }

/-- The state in which a port begins to train: one that has been UP has the packet it was sending in its queue again. -/
def backInQueue (n : Nat) (s : State) : State := if (s.port n).wasUp then requeue n (partBack (s.port n)).toList s else s

/-- A port that begins to train. -/
def detecting (n : Nat) (s : State) : State :=
  (backInQueue n s).modPort n (inDetect (trainRole s n).1 (trainRole s n).2 (s.field (puBase n) 6 5))

theorem enterDetect_eq (n : Nat) : enterDetect n s =
    (detecting n s).setRegN (puBase n + 0x10) (planIdent (detecting n s) n (trainRole s n).1 (trainRole s n).2) := rfl

theorem port_setRegN (a v n : Nat) : (s.setRegN a v).port n = s.port n := rfl

theorem enterDetect_port (n : Nat) : ∃ r d w, (enterDetect n s).port n = inDetect r d w ((backInQueue n s).port n) := by
  refine ⟨(trainRole s n).1, (trainRole s n).2, s.field (puBase n) 6 5, ?_⟩
  rw [enterDetect_eq, port_setRegN]
  exact port_modPort_same n _

theorem backInQueue_port (n : Nat) : ∃ e, (backInQueue n s).port n = { s.port n with egress := e } := by
  unfold backInQueue
  split
  · exact ⟨_, port_requeue n _⟩
  · exact ⟨_, rfl⟩

theorem enterDetect_link (n : Nat) : ((enterDetect n s).port n).link = .detect := by
  obtain ⟨_, _, _, h⟩ := enterDetect_port (s := s) n
  rw [h]
  rfl

/-- Equalising ends as the statement has it. -/
theorem equaliseEnd_of_ready {n : Nat} (h : readyLanes (s.port n) ≠ 0) : equaliseEnd n s =
    s.setPort n { s.port n with failed := ~~~ readyLanes (s.port n), link := .align } := by
  unfold equaliseEnd
  exact if_neg h

theorem requeue_mem (n : Nat) (l : List QPkt) : (requeue n l s).mem = s.mem := by
  unfold requeue
  split
  · exact foldl_having (f := fun x => x.mem) (fun t x h => h) rfl
  · rfl

theorem enterDetect_mem (n : Nat) : (enterDetect n s).mem = s.mem := by
  change (backInQueue n s).mem = s.mem
  unfold backInQueue
  split
  · exact requeue_mem n _
  · rfl

end Sys2Proof.Proofs
end

section
/-!
PROOFS. Lanes train and taps move (O13).
-/

namespace Sys2Proof.Proofs
open Sys2Proof Sys2Proof.Machine Sys2Proof.Claims

set_option Elab.async false

section
variable {s : State} {n l : Nat}

theorem ltfState_of_trains {q : Port} (h : trains q = true) : ltfState q.link = true := h

theorem not_keepsEqualising (q : Port) : keepsEqualising q =
    !(q.link == .equalise && !(q.rx.filter (fun l => l.locked)).isEmpty &&
      (q.rx.filter (fun l => l.locked)).all (fun l => l.ready && q.farLaneOk.getLsbD l.farLane)) := by
  unfold keepsEqualising
  rw [List.any_eq_not_all_not]
  simp [Bool.not_and, bne]

/-- A change of the port after which EQUALISE goes on. -/
theorem equaliseCheck_keeps {q : Port} (h : keepsEqualising q = true) : equaliseCheck n (s.setPort n q) = s.setPort n q := by
  rw [not_keepsEqualising, Bool.not_eq_true'] at h
  unfold equaliseCheck
  rw [port_setPort_same]
  exact if_neg (ne_of_eq_of_ne h Bool.false_ne_true)

/-- A change of the port that ends EQUALISE with lanes left. -/
theorem equaliseCheck_ends {q : Port} (h : keepsEqualising q = false) (hr : readyLanes q ≠ 0) : equaliseCheck n (s.setPort n q) =
    s.setPort n { q with link := .align, failed := ~~~ readyLanes q } := by
  rw [not_keepsEqualising, Bool.not_eq_false'] at h
  unfold equaliseCheck
  rw [port_setPort_same]
  refine (if_pos h).trans ?_
  rw [equaliseEnd_of_ready (by rwa [port_setPort_same]), port_setPort_same, setPort_setPort]

theorem getD_of_some {α : Type} {xs : List α} {i : Nat} {x d : α} (h : xs[i]? = some x) : xs.getD i d = x := by
  rw [List.getD_eq_getElem?_getD, h, Option.getD_some]

theorem laneLock_trains {far : Nat} {inv : Bool} (h : coreOn s = true) (ht : trains (s.port n) = true)
    (hf : (s.port n).failed.getLsbD l = false) : laneLock n l far inv s = s.setPort n { s.port n with
      rx := (s.port n).rx.set l { RxLane.reset with locked := true, inverted := inv, farLane := far }
      link := if (s.port n).link = .detect then .equalise else (s.port n).link } := by
  unfold laneLock
  rw [if_neg (by simp [h, ltfState_of_trains ht, hf])]
  simp [beq_iff_eq]

theorem laneUnlock_trains (h : coreOn s = true) (ht : trains (s.port n) = true) : laneUnlock n l s =
    equaliseCheck n (s.setPort n { s.port n with rx := (s.port n).rx.set l RxLane.reset }) :=
  if_neg (by simp [h, ltfState_of_trains ht])

theorem rxReady_locked {x : RxLane} {rdy : Bool} (h : coreOn s = true) (hx : (s.port n).rx[l]? = some x) (hl : x.locked = true)
    (ht : (s.port n).link = .equalise ∨ (s.port n).link = .align) : rxReady n l rdy s =
      equaliseCheck n (s.setPort n { s.port n with rx := (s.port n).rx.set l { x with ready := rdy } }) := by
  unfold rxReady
  extract_lets q x'
  have hx' : x' = x := getD_of_some hx
  rw [hx']
  exact if_neg (by simpa [h, hl] using fun hne => ht.resolve_left hne)

/-! ## The requests of the equalisers -/

/-- What the LTF `ctrl`, `status` on lane `l` makes of the port: what the far end says, and the lane's own request. -/
def heardOn (l fresh : Nat) (ctrl status : W64) (x : RxLane) (q : Port) : Port := { q with
  farLaneOk := BitVec.ofNat 8 (ctrl.toNat / 2 ^ 13), farMaxw := BitVec.ofNat 2 (ctrl.toNat / 2 ^ 21)
  goSeen := if ctrl.getLsbD 12 then q.goSeen ||| BitVec.ofNat 8 (2 ^ l) else q.goSeen
  rx := q.rx.set l (if q.link = .equalise then rxRequest fresh status.toNat x else x) }

/-- The transmitter lanes after the request of `c` for lane `tl`. -/
def askedOf (c tl : Nat) (tx : List TxLane) : List TxLane :=
  tx.set tl (if (tx.getD tl TxLane.reset).rseq.toNat = c / 2 ^ 23 % 2 ^ 8 then tx.getD tl TxLane.reset
    else txRequest c (tx.getD tl TxLane.reset))

theorem ofNat_mod_two_pow (v w : Nat) : BitVec.ofNat w (v % 2 ^ w) = BitVec.ofNat w v :=
  BitVec.eq_of_toNat_eq (by simp)

theorem equaliseRequest_eq {ctrl status : W64} {x : RxLane} (h : coreOn s = true) (ht : trains (s.port n) = true)
    (hx : (s.port n).rx[l]? = some x) (hl : x.locked = true) (hc : wordOk ctrl.toNat = true) (hs : wordOk status.toNat = true) :
    ∃ f, equaliseRequest n l ctrl status s = equaliseCheck n ({ s with fresh := f }.setPort n
      { heardOn l s.fresh ctrl status x (s.port n) with tx := askedOf ctrl.toNat (ctrl.toNat / 2 ^ 3 % 2 ^ 3) (s.port n).tx }) := by
  have hdraw : ∀ c : Prop, [Decidable c] → ∃ f, (if c then s else s.draw) = { s with fresh := f } := fun c _ => by
    split
    · exact ⟨s.fresh, rfl⟩
    · exact ⟨s.fresh + 1, rfl⟩
  unfold equaliseRequest
  extract_lets q c x' tl t t' l' s'
  have hx' : x' = x := getD_of_some hx
  clear_value x'
  subst hx'
  rw [if_neg (by simp [h, c, q, ltfState_of_trains ht, hl, hc, hs])]
  obtain ⟨f, hf⟩ := hdraw (l' = x')
  have hlane : l' = if (s.port n).link = .equalise then rxRequest s.fresh status.toNat x' else x' := by
    simp only [l', q, beq_iff_eq]
  have hok : BitVec.ofNat 8 (bits c 20 13) = BitVec.ofNat 8 (c / 2 ^ 13) := ofNat_mod_two_pow _ 8
  have hmaxw : BitVec.ofNat 2 (bits c 22 21) = BitVec.ofNat 2 (c / 2 ^ 21) := ofNat_mod_two_pow _ 2
  refine ⟨f, ?_⟩
  rw [show s' = { s with fresh := f } from hf, hok, hmaxw]
  clear_value l'
  subst hlane
  rfl

theorem askedOf_getD {c tl : Nat} {tx : List TxLane}
    (h : (tx.getD tl TxLane.reset).rseq.toNat = c / 2 ^ 23 % 2 ^ 8 ∨ tl < tx.length) : (askedOf c tl tx).getD tl TxLane.reset =
      if (tx.getD tl TxLane.reset).rseq.toNat = c / 2 ^ 23 % 2 ^ 8 then tx.getD tl TxLane.reset
      else txRequest c (tx.getD tl TxLane.reset) := by
  unfold askedOf
  by_cases htl : tl < tx.length
  · simp [List.getD_eq_getElem?_getD, htl]
  · rw [if_pos (h.resolve_right htl), List.set_eq_of_length_le (by omega)]

/-- A change of the port that leaves it in EQUALISE or out of it. -/
theorem portBecomes_keeps {n : Fin 64} {q : Port} (h : keepsEqualising q = true) :
    (equaliseCheck n.val (s.setPort n.val q)).csr = s.csr ∧ PortBecomes s (equaliseCheck n.val (s.setPort n.val q)) n q := by
  rw [equaliseCheck_keeps h]
  exact ⟨rfl, portBecomes_setPort n q⟩

end

/-! ## The taps -/

section
variable {c : Nat} {t : TxLane}

theorem tapMove_inc {v top : Nat} (h : v < top) : tapMove v top 1 = (v + 1, 1) := by simp [tapMove, h]

theorem tapMove_top {v top : Nat} (h : top ≤ v) : tapMove v top 1 = (v, 2) := by simp [tapMove, Nat.not_lt.2 h]

theorem tapMove_dec {v top : Nat} (h : 0 < v) : tapMove v top 2 = (v - 1, 1) := by simp [tapMove, h]

theorem tapMove_bottom (top : Nat) : tapMove 0 top 2 = (0, 2) := by simp [tapMove]

/-- The lane as a request leaves it, but for its taps and the answer. -/
def answeredLane (c : Nat) (t : TxLane) : TxLane := { t with rseq := BitVec.ofNat 8 (bits c 30 23), precoding := bit c 10 }

theorem txRequest_eq (c : Nat) (t : TxLane) : txRequest c t =
    if bits c 7 6 = 3 then { answeredLane c t with result := 2 }
    else if bits c 9 8 = 3 then { answeredLane c t with pre2 := 0, pre1 := 0, post1 := 0, result := 1 }
    else if bits c 7 6 = 0 then
      { answeredLane c t with pre2 := (tapMove t.pre2 6 (bits c 9 8)).1, result := BitVec.ofNat 2 (tapMove t.pre2 6 (bits c 9 8)).2 }
    else if bits c 7 6 = 1 then
      { answeredLane c t with pre1 := (tapMove t.pre1 16 (bits c 9 8)).1, result := BitVec.ofNat 2 (tapMove t.pre1 16 (bits c 9 8)).2 }
    else { answeredLane c t with post1 := (tapMove t.post1 16 (bits c 9 8)).1, result := BitVec.ofNat 2 (tapMove t.post1 16 (bits c 9 8)).2 } :=
  rfl

theorem txRequest_answers (c : Nat) (t : TxLane) :
    (txRequest c t).rseq = BitVec.ofNat 8 (bits c 30 23) ∧ (txRequest c t).precoding = c.testBit 10 := by
  rw [txRequest_eq]
  split
  · exact ⟨rfl, rfl⟩
  split
  · exact ⟨rfl, rfl⟩
  split
  · exact ⟨rfl, rfl⟩
  split
  · exact ⟨rfl, rfl⟩
  · exact ⟨rfl, rfl⟩

theorem tapsFollowRequests (c : Nat) (t : TxLane) :
    let tap := c / 2 ^ 6 % 4
    let req := c / 2 ^ 8 % 4
    (req = 1 → tap = 0 → t.pre2 < 6 → (txRequest c t).pre2 = t.pre2 + 1 ∧ (txRequest c t).result = 1) ∧
    (req = 1 → tap = 1 → t.pre1 < 16 → (txRequest c t).pre1 = t.pre1 + 1 ∧ (txRequest c t).result = 1) ∧
    (req = 1 → tap = 2 → t.post1 < 16 → (txRequest c t).post1 = t.post1 + 1 ∧ (txRequest c t).result = 1) ∧
    (req = 1 → tap = 0 → 6 ≤ t.pre2 → (txRequest c t).pre2 = t.pre2 ∧ (txRequest c t).result = 2) ∧
    (req = 2 → tap = 1 → 0 < t.pre1 → (txRequest c t).pre1 = t.pre1 - 1 ∧ (txRequest c t).result = 1) ∧
    (req = 2 → tap = 1 → t.pre1 = 0 → (txRequest c t).pre1 = 0 ∧ (txRequest c t).result = 2) ∧
    (req = 3 → tap ≠ 3 → (txRequest c t).pre2 = 0 ∧ (txRequest c t).pre1 = 0 ∧ (txRequest c t).post1 = 0 ∧ (txRequest c t).result = 1) ∧
    (txRequest c t).rseq.toNat = c / 2 ^ 23 % 2 ^ 8 ∧ (txRequest c t).precoding = c.testBit 10 := by
  intro tap req
  have htap : bits c 7 6 = tap := rfl
  have hreq : bits c 9 8 = req := rfl
  obtain ⟨hrseq, hpre⟩ := txRequest_answers c t
  rw [hrseq, hpre, txRequest_eq, htap, hreq]
  clear_value tap req
  refine ⟨?_, ?_, ?_, ?_, ?_, ?_, ?_, ?_, rfl⟩
  · rintro rfl rfl h
    simp [tapMove_inc h]
  · rintro rfl rfl h
    simp [tapMove_inc h]
  · rintro rfl rfl h
    simp [tapMove_inc h]
  · rintro rfl rfl h
    simp [tapMove_top h]
  · rintro rfl rfl h
    simp [tapMove_dec h]
  · rintro rfl rfl h
    simp [h, tapMove_bottom]
  · rintro rfl h
    simp [h]
  · simp [bits]

end

theorem wordOk_of {w : W64} (h : (crc32c (leBytes 4 (w.toNat % 2 ^ 32))).toNat = w.toNat / 2 ^ 32) : wordOk w.toNat = true :=
  beq_iff_eq.2 h

theorem eq_with_tx {p q : Port} {tx : List TxLane} (h : p = { q with tx := tx }) : p = { q with tx := p.tx } := by
  subst h
  rfl

/-- Settles O13, command by command, each by what it makes of the port before the check whether EQUALISE ends. -/
theorem lanesTrainAndTapsMove : Obligations.LanesTrainAndTapsMove := by
  unfold Obligations.LanesTrainAndTapsMove
  refine ⟨fun s n l far inv rdy ctrl status => ?_, tapsFollowRequests, fun f st x => ⟨fun hr hq => ?_, fun h => ?_⟩⟩
  · intro q tl heard crcHolds hc
    refine ⟨fun ht hf => ?_, fun ht hk => ?_, fun x hx hl ht hk => ?_, fun x hx hl ht hk hr => ?_,
      fun x hx hl ht hctrl hstatus hk htl => ?_, fun he hr => ?_, fun he hr => ?_⟩
    · exact ⟨_, rfl, by rw [laneLock_trains hc ht hf]; rfl, by
        rw [laneLock_trains hc ht hf]; exact portBecomes_setPort n _⟩
    · exact ⟨_, congrArg Host.Outcome.next (laneUnlock_trains hc ht), portBecomes_keeps hk⟩
    · exact ⟨_, congrArg Host.Outcome.next (rxReady_locked hc hx hl ht), portBecomes_keeps hk⟩
    · refine ⟨_, congrArg Host.Outcome.next (rxReady_locked hc hx hl (.inl ht)), ?_⟩
      rw [equaliseCheck_ends hk hr]
      exact portBecomes_setPort n _
    · obtain ⟨f, hf⟩ := equaliseRequest_eq hc ht hx hl (wordOk_of hctrl) (wordOk_of hstatus)
      refine ⟨_, congrArg Host.Outcome.next hf, ?_⟩
      obtain ⟨hcsr, hport⟩ := portBecomes_keeps (s := { s with fresh := f }) (n := n)
        (q := { heard x with tx := askedOf ctrl.toNat (ctrl.toNat / 2 ^ 3 % 2 ^ 3) q.tx }) hk
      refine ⟨hcsr, ?_, ?_⟩
      · refine Eq.trans ?_ (askedOf_getD htl)
        exact congrArg (fun p : Port => p.tx.getD tl TxLane.reset) hport.1
      · exact ⟨eq_with_tx hport.1, hport.2⟩
    · have hend : equaliseTimeout n.val s = s.setPort n.val { q with failed := ~~~ readyLanes q, link := .align } := by
        unfold equaliseTimeout
        rw [if_pos (by simp [hc, show (s.port n.val).link = .equalise from he])]
        exact equaliseEnd_of_ready hr
      refine ⟨_, congrArg Host.Outcome.next hend, rfl, portBecomes_setPort n _⟩
    · have hend : equaliseTimeout n.val s = enterDetect n.val (s.setPort n.val { q with failed := ~~~ readyLanes q, link := .align }) := by
        unfold equaliseTimeout
        rw [if_pos (by simp [hc, show (s.port n.val).link = .equalise from he])]
        exact if_pos hr
      exact ⟨_, congrArg Host.Outcome.next hend, enterDetect_link n.val, enterDetect_mem n.val⟩
  · have hne : ¬ (x.ready || x.rseq.toNat != bits st 9 2) = true := by simp [hr, bits, hq]
    rw [rxRequest, if_neg hne]
    exact ⟨rfl, rfl, hr⟩
  · refine if_pos ?_
    rcases h with h | h
    · simp [h]
    · simp [bits, bne_iff_ne.2 h]

end Sys2Proof.Proofs
end

section
/-!
PROOFS. Fields of a header made from its list of fields.
-/

namespace Sys2Proof.Proofs
open Sys2Proof Sys2Proof.Machine Sys2Proof.Claims

set_option Elab.async false

/-- Two fields, each its lowest bit and its width, share no bit. -/
abbrev apart (x y : Nat × Nat) : Prop := x.1 + x.2 ≤ y.1 ∨ y.1 + y.2 ≤ x.1

/-- Where the fields of a list stand. -/
def places (fs : List (Nat × Nat × Nat)) : List (Nat × Nat) := fs.map (fun f => (f.1, f.2.1))

/-- No two of the fields share a bit, none is empty, and all are within the header. -/
abbrev fitting (l : List (Nat × Nat)) : Prop := l.Pairwise apart ∧ ∀ x ∈ l, 0 < x.2 ∧ x.1 + x.2 ≤ 512

/-- A field of a number. -/
def fieldOf (v : Nat) (x : Nat × Nat) : Nat := bits v (x.1 + x.2 - 1) x.1

/-- A sum of fields. -/
def hdrSum (fs : List (Nat × Nat × Nat)) (a : Nat) : Nat := fs.foldl (fun a f => a + f.2.2 % 2 ^ f.2.1 * 2 ^ f.1) a

theorem add_field {a v : Nat} {x : Nat × Nat} (hw : 0 < x.2) (h : fieldOf a x = 0) :
    a + v % 2 ^ x.2 * 2 ^ x.1 = setBits a (x.1 + x.2 - 1) x.1 v := by
  unfold fieldOf at h
  rw [setBits, h, show x.1 + x.2 - 1 + 1 - x.1 = x.2 by omega, Nat.zero_mul, Nat.sub_zero]

theorem fieldOf_add_same {a v : Nat} {x : Nat × Nat} (hw : 0 < x.2) (h : fieldOf a x = 0) :
    fieldOf (a + v % 2 ^ x.2 * 2 ^ x.1) x = v % 2 ^ x.2 := by
  rw [add_field hw h, fieldOf, bits_setBits_same, show x.1 + x.2 - 1 + 1 - x.1 = x.2 by omega]

theorem fieldOf_add_apart {a v : Nat} {x y : Nat × Nat} (hw : 0 < x.2) (hy : 0 < y.2) (h : fieldOf a x = 0) (hxy : apart x y) :
    fieldOf (a + v % 2 ^ x.2 * 2 ^ x.1) y = fieldOf a y := by
  rw [add_field hw h, fieldOf, fieldOf]
  rcases hxy with hxy | hxy
  · exact bits_setBits_above _ _ (by omega) (by omega)
  · exact bits_setBits_below _ _ (by omega) (by omega)

/-- What the fields of a list leave, apart from them. -/
theorem hdrSum_apart : ∀ (fs : List (Nat × Nat × Nat)) (a : Nat) (x : Nat × Nat), fitting (places fs) → (∀ y ∈ places fs, fieldOf a y = 0) →
    0 < x.2 → (∀ y ∈ places fs, apart y x) → fieldOf (hdrSum fs a) x = fieldOf a x
  | [], _, _, _, _, _, _ => rfl
  | f :: fs, a, x, hfit, ha, hx, hap => by
    obtain ⟨hpair, hpos⟩ := hfit
    obtain ⟨hf, hpair⟩ := List.pairwise_cons.1 hpair
    obtain ⟨⟨hw, -⟩, hpos⟩ := List.forall_mem_cons.1 hpos
    obtain ⟨ha0, ha⟩ := List.forall_mem_cons.1 ha
    obtain ⟨hap0, hap⟩ := List.forall_mem_cons.1 hap
    refine (hdrSum_apart fs _ x ⟨hpair, hpos⟩ (fun y hy => ?_) hx hap).trans ?_
    · exact (fieldOf_add_apart hw (hpos y hy).1 ha0 (hf y hy)).trans (ha y hy)
    · exact fieldOf_add_apart hw hx ha0 hap0

theorem hdrSum_mem : ∀ (fs : List (Nat × Nat × Nat)) (a : Nat), fitting (places fs) → (∀ y ∈ places fs, fieldOf a y = 0) →
    ∀ f ∈ fs, fieldOf (hdrSum fs a) (f.1, f.2.1) = f.2.2 % 2 ^ f.2.1
  | [], _, _, _ => by simp
  | f :: fs, a, hfit, ha => by
    obtain ⟨hpair, hpos⟩ := hfit
    obtain ⟨hf, hpair⟩ := List.pairwise_cons.1 hpair
    obtain ⟨⟨hw, -⟩, hpos⟩ := List.forall_mem_cons.1 hpos
    obtain ⟨ha0, ha⟩ := List.forall_mem_cons.1 ha
    have hrest : ∀ y ∈ places fs, fieldOf (a + f.2.2 % 2 ^ f.2.1 * 2 ^ f.1) y = 0 := fun y hy =>
      (fieldOf_add_apart hw (hpos y hy).1 ha0 (hf y hy)).trans (ha y hy)
    refine List.forall_mem_cons.2 ⟨?_, hdrSum_mem fs _ ⟨hpair, hpos⟩ hrest⟩
    refine (hdrSum_apart fs _ (f.1, f.2.1) ⟨hpair, hpos⟩ hrest hw (fun y hy => ?_)).trans (fieldOf_add_same hw ha0)
    exact (hf y hy).symm

theorem bits_ofNat {n hi lo : Nat} (v : Nat) (h : hi < n) (hlo : lo ≤ hi) : bits (BitVec.ofNat n v).toNat hi lo = bits v hi lo := by
  rw [BitVec.toNat_ofNat, bits_mod _ h hlo]

/-- A field of a header that names it. -/
theorem f_mkHdr {fs : List (Nat × Nat × Nat)} {lo w v : Nat} (pay : List Byte) (hfit : fitting (places fs)) (hf : (lo, w, v) ∈ fs) :
    (Packet.mk (mkHdr fs) pay).f lo w = v % 2 ^ w := by
  obtain ⟨hw, hlo⟩ := hfit.2 (lo, w) (List.mem_map_of_mem (f := fun f : Nat × Nat × Nat => (f.1, f.2.1)) hf)
  rw [f_eq_bits _ _ hw]
  change bits ((BitVec.ofNat 512 (hdrSum fs 0)).toNat) _ _ = _
  refine (bits_ofNat _ (by omega) (by omega)).trans ?_
  exact hdrSum_mem fs 0 hfit (fun y _ => by simp [fieldOf, bits]) _ hf

theorem f_seal (p : Packet) {lo w : Nat} (hw : 0 < w) (h : lo + w ≤ 480) : p.seal.f lo w = p.f lo w :=
  f_set_ne _ _ (by omega) (by decide) hw (by decide)

end Sys2Proof.Proofs
end

section
/-!
PROOFS. What the end of an exchange leaves of the other ports, and of PU_FAR_IDENT and PU_LINK_DELAY.
-/

namespace Sys2Proof.Proofs
open Sys2Proof Sys2Proof.Machine Sys2Proof.Claims

set_option Elab.async false

/-- Only queues, credits and the widths its slots were checked at differ. -/
def Requeued (p q : Port) : Prop := ∃ eg rp kp tp sw ow rg wh oa, q = { p with
  egress := eg, replay := rp, kept := kp, txPartOf := tp, slotWidth := sw, rxOwed := ow, rxGreen := rg, withhold := wh, owesAll := oa }

theorem Requeued.refl (p : Port) : Requeued p p := ⟨_, _, _, _, _, _, _, _, _, rfl⟩

theorem Requeued.trans {p q r : Port} (h : Requeued p q) (k : Requeued q r) : Requeued p r := by
  obtain ⟨_, _, _, _, _, _, _, _, _, rfl⟩ := h
  obtain ⟨_, _, _, _, _, _, _, _, _, rfl⟩ := k
  exact ⟨_, _, _, _, _, _, _, _, _, rfl⟩

/-- PU_FAR_IDENT and PU_LINK_DELAY of the ports. -/
def linkReg (a : Nat) : Bool :=
  decide (0x1000000 ≤ a) && decide (a < 0x1400000) && (a % 0x10000 == 0x0C || a % 0x10000 == 0x1C)

/-- The ports `P` have only their queues changed from `s` to `t`, and no port PU_FAR_IDENT or PU_LINK_DELAY. -/
structure Aside (P : Nat → Prop) (s t : State) : Prop where
  ports : ∀ n, n < 64 → P n → Requeued (s.port n) (t.port n)
  regs  : ∀ a, linkReg a = true → t.reg a = s.reg a

section
variable {P : Nat → Prop} {s t u : State}

theorem Aside.refl (s : State) : Aside P s s := ⟨fun _ _ _ => .refl _, fun _ _ => rfl⟩

theorem Aside.trans (h : Aside P s t) (k : Aside P t u) : Aside P s u :=
  ⟨fun n hn hp => (h.ports n hn hp).trans (k.ports n hn hp), fun a ha => (k.regs a ha).trans (h.regs a ha)⟩

theorem Aside.ite {c : Prop} [Decidable c] (h : Aside P s t) (k : Aside P s u) : Aside P s (if c then t else u) := by
  split
  · exact h
  · exact k

/-- A step that leaves the ports and the registers. -/
theorem Aside.quiet (hp : t.ports = s.ports) (hc : t.csr = s.csr) (hf : t.fuses = s.fuses) : Aside P s t :=
  ⟨fun n _ _ => by rw [State.port, State.port, hp]; exact .refl _, fun a _ => by rw [State.reg, State.reg, hc, hf]⟩

theorem aside_foldl {α : Type} {f : State → α → State} {l : List α} (hf : ∀ t x, x ∈ l → Aside P t (f t x)) : ∀ s, Aside P s (l.foldl f s) := by
  induction l with
  | nil => exact fun s => .refl s
  | cons x l ih => exact fun s => (hf s x (by simp)).trans (ih (fun t y hy => hf t y (List.mem_cons_of_mem _ hy)) _)

theorem aside_setReg {a : Nat} (v : W64) (ha : linkReg a = false) : Aside P s (s.setReg a v) :=
  ⟨fun _ _ _ => .refl _, fun b hb => by rw [reg_setReg, if_neg (by rintro rfl; simp [ha] at hb)]⟩

theorem aside_setSticky {a : Nat} (v : W64) (ha : linkReg a = false) : Aside P s (s.setSticky a v) :=
  ⟨fun _ _ _ => .refl _, (aside_setReg (P := P) (s.reg a ||| v) ha).regs⟩

theorem aside_countReg {a : Nat} (k : Nat) (ha : linkReg a = false) : Aside P s (s.countReg a k) := by
  unfold State.countReg
  exact .ite (.refl s) (aside_setReg _ ha)

theorem aside_count (src k : Nat) (port tc grp : Option Nat) : Aside P s (count src k port tc grp s) := .quiet rfl rfl rfl

theorem linkReg_of_mod {a : Nat} (h1 : a % 0x10000 ≠ 0x0C) (h2 : a % 0x10000 ≠ 0x1C) : linkReg a = false := by
  simp [linkReg, h1, h2]

theorem linkReg_above {a : Nat} (h : 0x1400000 ≤ a) : linkReg a = false := by
  simp [linkReg, Nat.not_lt.2 h]

theorem aside_raise (b : Blk) (src : Nat) : Aside P s (raise b src s) := by
  have hset := aside_setSticky (P := P) (s := s) (BitVec.ofNat 64 (2 ^ src))
    (linkReg_of_mod (a := blkFlt b) (by rw [blkFlt_mod]; decide) (by rw [blkFlt_mod]; decide))
  have hrec : Aside P s (if collected (s.setSticky (blkFlt b) (BitVec.ofNat 64 (2 ^ src))) then
      (s.setSticky (blkFlt b) (BitVec.ofNat 64 (2 ^ src))).setSticky 0x200008 (BitVec.ofNat 64 (2 ^ blkFaultBlock b))
      else s.setSticky (blkFlt b) (BitVec.ofNat 64 (2 ^ src))) := .ite (hset.trans (aside_setSticky _ (by decide))) hset
  unfold raise
  exact .ite (hset.trans (.quiet rfl rfl rfl)) (hrec.trans (.quiet rfl rfl rfl))

theorem aside_raiseIf (c : Bool) (b : Blk) (src : Nat) : Aside P s (raiseIf c b src s) := by
  unfold raiseIf
  exact .ite (aside_raise b src) (.refl s)

/-- A change of a port outside `P`, or one of queues alone. -/
theorem aside_modPort {m : Nat} {g : Port → Port} (hm : m < 64) (hg : P m → ∀ q, Requeued q (g q)) : Aside P s (s.modPort m g) := by
  refine ⟨fun n hn hp => ?_, fun _ _ => rfl⟩
  by_cases h : n = m
  · subst h
    rw [port_modPort_same]
    exact hg hp _
  · rw [port_modPort_ne g hm hn h]
    exact .refl _

theorem aside_requeue {m : Nat} (hm : m < 64) (l : List QPkt) : Aside P s (requeue m l s) := by
  unfold requeue
  exact .ite (aside_foldl (fun t x _ => aside_count _ _ _ _ _) s) (aside_modPort hm fun _ _ => ⟨_, _, _, _, _, _, _, _, _, rfl⟩)

theorem aside_freshCredits {m : Nat} (hm : m < 64) : Aside P s (freshCredits m s) :=
  aside_modPort hm fun _ _ => ⟨_, _, _, _, _, _, _, _, _, rfl⟩

/-! ## Slots checked at a new width -/

theorem aside_setBroken (c : Nat) (on : Bool) : Aside P s (setBroken c on s) := aside_setReg _ (linkReg_above (by omega))

/-- A port whose green packets of contract `c` have turned yellow. -/
def yellowed (c : Nat) (q : Port) : Port := { q with
  egress := q.egress.map (QPkt.yellow c), txPartOf := q.txPartOf.map (QPkt.yellow c)
  replay := q.replay.map (SentFrame.yellow c), kept := q.kept.map (SentFrame.yellow c) }

theorem yellowQueued_port (c n : Nat) : (yellowQueued c s).port n = yellowed c (s.port n) := by
  obtain ⟨_, h⟩ := yellowQueued_shape c s
  rw [h, State.port, Vector.get_eq_getElem, Vector.getElem_map]
  rfl

theorem aside_yellowQueued (c : Nat) : Aside P s (yellowQueued c s) := by
  obtain ⟨_, h⟩ := yellowQueued_shape c s
  refine ⟨fun n _ _ => ?_, fun _ _ => by rw [h]; rfl⟩
  rw [yellowQueued_port]
  exact ⟨_, _, _, _, _, _, _, _, _, rfl⟩

theorem aside_breakContract (c : Nat) : Aside P s (breakContract c s) := by
  unfold breakContract
  have hcon : Aside P s (setConState c 2 s) := aside_setReg _ (linkReg_above (by omega))
  exact (hcon.trans (aside_setBroken c true)).trans (aside_yellowQueued c)

theorem aside_recheckSlots {m : Nat} (hm : m < 64) : Aside P s (recheckSlots m s) := by
  unfold recheckSlots
  extract_lets w l bad s'
  have hchecked : Aside P s s' := aside_modPort hm fun _ _ => ⟨_, _, _, _, _, _, _, _, _, rfl⟩
  refine .ite (.refl s) ((hchecked.trans (aside_foldl (fun t c _ => aside_breakContract c) s')).trans (aside_raiseIf _ _ _))

/-! ## Other ports -/

section
variable {m : Nat} (hm : m < 64) (hp : ¬ P m)
include hm hp

theorem aside_other (g : Port → Port) : Aside P s (s.modPort m g) := aside_modPort hm fun h => absurd h hp

theorem aside_setPort (q : Port) : Aside P s (s.setPort m q) := aside_other hm hp (fun _ => q)

theorem aside_keptBack (a : Option (BitVec 8)) : Aside P s (keptBack m a s) := by
  unfold keptBack
  exact (aside_setPort hm hp _).trans (aside_requeue hm _)

theorem aside_plainOnly : Aside P s (plainOnly m s) := by
  unfold plainOnly
  exact (aside_setPort hm hp _).trans (aside_foldl (fun t e _ => (aside_count _ _ _ _ _).trans (aside_raise _ _)) _)

theorem aside_comeUp : Aside P s (comeUp m s) := by
  unfold comeUp
  extract_lets s1 s2
  have h1 : Aside P s s1 := (aside_keptBack hm hp none).trans (aside_other hm hp _)
  have h2 : Aside P s s2 := .ite (h1.trans (aside_freshCredits hm)) h1
  exact (Aside.ite (h2.trans (aside_plainOnly hm hp)) h2).trans (aside_recheckSlots hm)

/-! ## Status and events -/

theorem aside_rowState (up : Bool) : Aside P s (rowState m up s) := by
  unfold rowState
  exact .ite (aside_other hm hp _) (.ite (.ite (.refl s) (aside_comeUp hm hp)) (aside_other hm hp _))

end

theorem aside_sendEvent (p : Nat) (d : HostDest) (e : Event) : Aside P s (sendEvent s p d e) := .quiet rfl rfl rfl

theorem aside_sendEvents (es : List Event) : Aside P s (sendEvents s es) := by
  unfold sendEvents
  split
  · exact .refl s
  · split
    · exact .refl s
    · exact aside_foldl (fun t e _ => aside_sendEvent _ _ _) s

theorem aside_queueEvent (cls block : Nat) (data : W64) : Aside P s (queueEvent s cls block data) := by
  have hcount : Aside P s (if decide (s.hep.events.length ≥ 256) = true then s.countReg 0x9000410 1 else s) :=
    .ite (aside_countReg 1 (by decide)) (.refl s)
  exact hcount.trans (.quiet rfl rfl rfl)

theorem aside_pushEvent (cls block : Nat) (data : W64) : Aside P s (pushEvent s cls block data) :=
  (aside_queueEvent cls block data).trans (aside_sendEvents _)

theorem linkReg_pu {m i : Nat} (hi : i < 0x10000) (h1 : i ≠ 0x0C) (h2 : i ≠ 0x1C) : linkReg (puBase m + i) = false :=
  linkReg_of_mod (by rw [puBase_mod m hi]; exact h1) (by rw [puBase_mod m hi]; exact h2)

/-- A status noted: the port takes it, and what follows leaves the ports. -/
theorem setDisc_aside {m : Nat} (d : Disc) : Aside P (s.modPort m (fun q => { q with disc := d })) (setDisc m d s) := by
  unfold setDisc
  split
  · next h =>
      refine ⟨fun n _ _ => ?_, fun _ _ => rfl⟩
      have hsame : (s.modPort m (fun q => { q with disc := d })).port n = s.port n := by
        by_cases hn : n % 64 = m % 64
        · have hport : ∀ x : State, x.port n = x.port m := fun x => by
            rw [State.port, State.port, show Fin.ofNat 64 n = Fin.ofNat 64 m from Fin.ext hn]
          rw [hport, hport, port_modPort_same, ← h]
        · exact port_setPort_ne s m n _ (Ne.symm hn)
      rw [hsame]
      exact .refl _
  · have hsticky := aside_setSticky (P := P) (s := s.modPort m (fun q => { q with disc := d })) (a := puBase m + 0x18) 8
      (linkReg_pu (by decide) (by decide) (by decide))
    exact .ite (hsticky.trans (aside_pushEvent _ _ _)) hsticky

theorem aside_setDisc {m : Nat} (hm : m < 64) (hp : ¬ P m) (d : Disc) : Aside P s (setDisc m d s) :=
  (aside_other hm hp _).trans (setDisc_aside d)

/-- Another port that becomes SWAPPED leaves port `n` (R87). -/
theorem aside_reswap {n : Nat} (h : HelloInfo) : Aside (· = n) s (reswap n h s) := by
  unfold reswap
  refine aside_foldl (fun t m hm => ?_) s
  obtain ⟨hm, hne⟩ : m < 64 ∧ m ≠ n := by
    simp only [swapPeers, allPorts, List.mem_filter, List.mem_range, Bool.and_eq_true, bne_iff_ne] at hm
    exact ⟨hm.1, hm.2.1⟩
  exact .ite (((aside_other hm hne _).trans (aside_rowState hm hne _)).trans (aside_setDisc hm hne _)) (.refl t)

end
end Sys2Proof.Proofs
end

section
/-!
PROOFS. Fields of the link-local packets a switch makes.
-/

namespace Sys2Proof.Proofs
open Sys2Proof Sys2Proof.Machine Sys2Proof.Claims

set_option Elab.async false

/-- The fields of every link-local packet (Table 2.10). -/
def localPlaces : List (Nat × Nat) := [(0, 4), (5, 1), (8, 8), (64, 32), (157, 1), (160, 32), (192, 32), (240, 16)]

section
variable {n typ ver : Nat} {own : List (Nat × Nat × Nat)} {s : State}

theorem localPacket_own {lo w v : Nat} (hfit : fitting (localPlaces ++ places own)) (hf : (lo, w, v) ∈ own) (hlo : lo + w ≤ 480) :
    (localPacket n typ ver own s).f lo w = v % 2 ^ w := by
  have hw : 0 < w := (hfit.2 (lo, w) (List.mem_append_right _ (List.mem_map_of_mem (f := fun f : Nat × Nat × Nat => (f.1, f.2.1)) hf))).1
  exact (f_seal _ hw hlo).trans (f_mkHdr [] hfit (List.mem_append_right _ hf))

theorem localPacket_typ (hfit : fitting (localPlaces ++ places own)) : (localPacket n typ ver own s).typ = typ % 2 ^ 8 :=
  (f_seal _ (by decide) (by decide)).trans (f_mkHdr [] hfit (List.mem_append_left _ (by simp)))

end

/-- The fields of a HELLO (Table 3.4), `sub` its subtype and `ok` the lanes it gives. -/
def helloOwn (n sub : Nat) (ok : BitVec 8) (s : State) : List (Nat × Nat × Nat) :=
  [(256, 8, sub), (264, 8, 1), (272, 8, (s.port n).maxw), (288, 32, (if planMode s then s.field 0x24 17 0 else ownSw s) + n * 2 ^ 18),
    (320, 8, 0), (328, 8, (s.port n).role), (336, 8, (s.port n).dir), (344, 8, ok.toNat), (352, 8, b2n (planMode s)), (384, 32, s.regN 0)]

theorem sendHello_eq (n sub : Nat) (ok : BitVec 8) (s : State) :
    sendHello n sub ok s = sendLinkLocal n tLinkCtrl (linkVer (s.port n)) (helloOwn n sub ok s) s := rfl

/-- A HELLO or HELLO_ACK joins the link-local packets of its port (R73). -/
theorem sendHello_queues (n sub : Nat) (ok : BitVec 8) (s : State) : SentOn s (sendHello n sub ok s) ∧
    ∃ x, x.typ = 0x32 ∧ x.at 32 8 = sub % 2 ^ 8 ∧
      (sendHello n sub ok s).port n = { s.port n with linkLocal := (s.port n).linkLocal ++ [x] } := by
  have hfit : fitting (localPlaces ++ [(256, 8), (264, 8), (272, 8), (288, 32), (320, 8), (328, 8), (336, 8), (344, 8), (352, 8), (384, 32)]) := by
    decide
  have hown : fitting (localPlaces ++ places (helloOwn n sub ok s)) := hfit
  rw [sendHello_eq]
  exact ⟨sendLinkLocal_shape _ _ _ _ _, _, localPacket_typ hown, localPacket_own hown List.mem_cons_self (by decide),
    port_setPort_same s n _⟩

/-- A DELAY_REQ joins them (R75). -/
theorem delayReq_fields (n ver : Nat) (s : State) : (localPacket n tLinkCtrl ver [(8 * 32, 8, 3)] s).typ = 0x32 ∧
    (localPacket n tLinkCtrl ver [(8 * 32, 8, 3)] s).at 32 8 = 3 := by
  have hfit : fitting (localPlaces ++ [(256, 8)]) := by decide
  exact ⟨localPacket_typ hfit, localPacket_own (own := [(8 * 32, 8, 3)]) hfit List.mem_cons_self (by decide)⟩

/-- Eight DELAY_REQ join them. -/
theorem delayReqs_queue {α : Type} (n : Nat) : ∀ (l : List α) (s : State),
    SentOn s (l.foldl (fun s _ => sendLinkLocal n tLinkCtrl (linkVer (s.port n)) [(8 * 32, 8, 3)] s) s) ∧
    ∃ xs : List Packet, xs.length = l.length ∧ (∀ y ∈ xs, y.typ = 0x32 ∧ y.at 32 8 = 3) ∧
      (l.foldl (fun s _ => sendLinkLocal n tLinkCtrl (linkVer (s.port n)) [(8 * 32, 8, 3)] s) s).port n =
        { s.port n with linkLocal := (s.port n).linkLocal ++ xs }
  | [], s => ⟨⟨_, _, _, rfl⟩, [], rfl, by simp, by simp⟩
  | _ :: l, s => by
    obtain ⟨hshape, xs, hlen, hxs, hport⟩ := delayReqs_queue n l (sendLinkLocal n tLinkCtrl (linkVer (s.port n)) [(8 * 32, 8, 3)] s)
    refine ⟨(sendLinkLocal_shape _ _ _ _ _).trans hshape, localPacket n tLinkCtrl (linkVer (s.port n)) [(8 * 32, 8, 3)] s :: xs, ?_, ?_, ?_⟩
    · rw [List.length_cons, List.length_cons, hlen]
    · exact List.forall_mem_cons.2 ⟨delayReq_fields n _ s, hxs⟩
    · rw [List.foldl_cons, hport, sendLinkLocal_eq]
      refine (congrArg (fun q : Port => { q with linkLocal := q.linkLocal ++ xs }) (port_setPort_same s n _)).trans ?_
      simp

end Sys2Proof.Proofs
end

section
/-!
PROOFS. Exchanges end and delays are measured (O14).
-/

namespace Sys2Proof.Proofs
open Sys2Proof Sys2Proof.Machine Sys2Proof.Claims

set_option Elab.async false

section
variable {s : State} {n : Nat}

/-! ## The port as it comes up -/

theorem requeued_requeue (l : List QPkt) : Requeued (s.port n) ((requeue n l s).port n) := by
  rw [port_requeue]
  exact ⟨_, _, _, _, _, _, _, _, _, rfl⟩

theorem keptBack_port (a : Option (BitVec 8)) :
    ∃ l, Requeued { s.port n with linkLocal := l ++ (s.port n).linkLocal } ((keptBack n a s).port n) := by
  unfold keptBack
  extract_lets q l local_
  refine ⟨local_.filter (fun p => !q.linkLocal.contains p), ?_⟩
  refine Requeued.trans ?_ (requeued_requeue _)
  rw [port_setPort_same]
  exact ⟨_, _, _, _, _, _, _, _, _, rfl⟩

theorem ports_of_foldl {α : Type} {f : State → α → State} (hf : ∀ t x, (f t x).ports = t.ports) (l : List α) (t : State) :
    (l.foldl f t).ports = t.ports := foldl_invariant (P := fun u : State => u.ports = t.ports) (fun u x h => (hf u x).trans h) rfl

theorem port_of_ports {t u : State} (h : u.ports = t.ports) (m : Nat) : u.port m = t.port m := by rw [State.port, State.port, h]

theorem plainOnly_port : ∃ l, Requeued { s.port n with linkLocal := l } ((plainOnly n s).port n) := by
  refine ⟨[], ?_⟩
  unfold plainOnly
  rw [port_of_ports (ports_of_foldl (fun t e => by simp) _ _), port_setPort_same]
  exact ⟨_, _, _, _, _, _, _, _, _, rfl⟩

/-- The port of a link that is UP; only on a FABVER 0 link is a queued link-local packet lost. -/
theorem comeUp_port (hn : n < 64) : ∃ l, ((s.port n).fabver ≠ 0 → ∃ k, l = k ++ (s.port n).linkLocal) ∧
    Requeued { s.port n with link := .up, wasUp := true, everUp := true, linkLocal := l } ((comeUp n s).port n) := by
  unfold comeUp
  extract_lets _ s1 s2
  obtain ⟨k, hk⟩ := keptBack_port (s := s) (n := n) none
  have h1 : Requeued { s.port n with link := .up, wasUp := true, everUp := true, linkLocal := k ++ (s.port n).linkLocal } (s1.port n) := by
    rw [port_modPort_same]
    obtain ⟨_, _, _, _, _, _, _, _, _, h⟩ := hk
    rw [h]
    exact ⟨_, _, _, _, _, _, _, _, _, rfl⟩
  have h2 : Requeued { s.port n with link := .up, wasUp := true, everUp := true, linkLocal := k ++ (s.port n).linkLocal } (s2.port n) := by
    refine h1.trans ?_
    have h : Aside (fun _ => True) s1 s2 := .ite (aside_freshCredits hn) (.refl _)
    exact h.ports n hn trivial
  have hfab : (s2.port n).fabver = (s.port n).fabver := by
    obtain ⟨_, _, _, _, _, _, _, _, _, h⟩ := h2
    rw [h]
  have hlast : ∀ t, Requeued (t.port n) ((recheckSlots n t).port n) := fun t => (aside_recheckSlots (P := fun _ => True) hn).ports n hn trivial
  rw [hfab]
  by_cases hf : (s.port n).fabver = 0
  · rw [if_pos hf]
    obtain ⟨l, hl⟩ := plainOnly_port (s := s2) (n := n)
    refine ⟨l, fun h => absurd hf h, Requeued.trans ?_ (hl.trans (hlast _))⟩
    obtain ⟨_, _, _, _, _, _, _, _, _, h⟩ := h2
    rw [h]
    exact ⟨_, _, _, _, _, _, _, _, _, rfl⟩
  · rw [if_neg hf]
    exact ⟨_, fun _ => ⟨k, rfl⟩, h2.trans (hlast _)⟩

/-- Port `n`, of which `q` is what the exchange has found, has taken status `d` and the state UP or ISOLATED. -/
structure Resolved (n : Nat) (d : Disc) (up : Bool) (q : Port) (t : State) : Prop where
  link   : (t.port n).link = if up then .up else .isolated
  disc   : (t.port n).disc = d
  far    : (t.port n).far = q.far
  fabver : (t.port n).fabver = q.fabver
  delays : (t.port n).delays = q.delays
  mail   : q.fabver ≠ 0 → ∃ k, (t.port n).linkLocal = k ++ q.linkLocal

theorem Resolved.requeued {d : Disc} {up : Bool} {q : Port} {t u : State} (h : Resolved n d up q t) (k : Requeued (t.port n) (u.port n)) :
    Resolved n d up q u := by
  obtain ⟨_, _, _, _, _, _, _, _, _, k⟩ := k
  refine ⟨?_, ?_, ?_, ?_, ?_, ?_⟩ <;> rw [k]
  · exact h.link
  · exact h.disc
  · exact h.far
  · exact h.fabver
  · exact h.delays
  · exact h.mail

theorem takeStatus_resolved (hn : n < 64) (peer : Nat) (d : Disc) (up : Bool) :
    Resolved n d up (s.port n) (takeStatus n peer d up s) ∧ ∀ a, linkReg a = true → (takeStatus n peer d up s).reg a = s.reg a := by
  unfold takeStatus
  extract_lets s1
  have hs1 : s1.port n = { s.port n with swapPeer := peer, link := if up then (s.port n).link else .isolated } := port_modPort_same n _
  have hregs : ∀ t : State, (∀ a, linkReg a = true → t.reg a = s.reg a) → ∀ a, linkReg a = true → (setDisc n d t).reg a = s.reg a :=
    fun t ht a ha => ((setDisc_aside (P := fun _ => True) (m := n) d).regs a ha).trans (ht a ha)
  have hdisc : ∀ t : State, Requeued { t.port n with disc := d } ((setDisc n d t).port n) := fun t => by
    have h := (setDisc_aside (s := t) (P := fun _ => True) (m := n) d).ports n hn trivial
    rwa [port_modPort_same] at h
  cases up with
  | true =>
    rw [if_pos rfl]
    refine ⟨?_, hregs _ fun a ha => (aside_comeUp (s := s1) (P := fun _ => False) hn id).regs a ha⟩
    obtain ⟨l, hl, hport⟩ := comeUp_port (s := s1) hn
    obtain ⟨_, _, _, _, _, _, _, _, _, hc⟩ := hport
    obtain ⟨_, _, _, _, _, _, _, _, _, hd⟩ := hdisc (comeUp n s1)
    rw [hs1] at hl hc
    rw [hc] at hd
    exact ⟨by rw [hd]; rfl, by rw [hd], by rw [hd], by rw [hd], by rw [hd], fun hf => by
      obtain ⟨k, hk⟩ := hl hf
      exact ⟨k, by rw [hd]; exact hk⟩⟩
  | false =>
    rw [if_neg Bool.false_ne_true]
    refine ⟨?_, hregs _ fun _ _ => rfl⟩
    obtain ⟨_, _, _, _, _, _, _, _, _, hd⟩ := hdisc s1
    rw [hs1] at hd
    exact ⟨by rw [hd]; rfl, by rw [hd], by rw [hd], by rw [hd], by rw [hd], fun _ => ⟨[], by rw [hd]; rfl⟩⟩

/-- What the port knows as its exchange ends. -/
def agreed (s : State) (n : Nat) (h : HelloInfo) : State :=
  (s.setPort n { s.port n with
    fabver := min 1 h.fabverMax
    laneUse := (laneSet s n (s.port n).saidOk h.laneOk h.maxw).1
    width := (laneSet s n (s.port n).saidOk h.laneOk h.maxw).2 }).setReg (puBase n + 0x0C) (h.ident.setWidth 64)

theorem agreed_port (h : HelloInfo) : (agreed s n h).port n = { s.port n with
    fabver := min 1 h.fabverMax
    laneUse := (laneSet s n (s.port n).saidOk h.laneOk h.maxw).1
    width := (laneSet s n (s.port n).saidOk h.laneOk h.maxw).2 } := port_setPort_same s n _

theorem exchangeEnd_eq (h : HelloInfo) : exchangeEnd n h s = reswap n h (takeStatus n
    (if (discover (agreed s n h) n h).1 = .swapped then (swapPeers (agreed s n h) n h).headD 0 else 0)
    (discover (agreed s n h) n h).1 (discover (agreed s n h) n h).2 (agreed s n h)) := rfl

theorem exchangeEnd_resolved (hn : n < 64) (h : HelloInfo) :
    Resolved n (discover (agreed s n h) n h).1 (discover (agreed s n h) n h).2 ((agreed s n h).port n) (exchangeEnd n h s) ∧
      (exchangeEnd n h s).reg (puBase n + 0x0C) = h.ident.setWidth 64 ∧
      (exchangeEnd n h s).reg (puBase n + 0x1C) = s.reg (puBase n + 0x1C) := by
  rw [exchangeEnd_eq]
  generalize (if (discover (agreed s n h) n h).1 = .swapped then (swapPeers (agreed s n h) n h).headD 0 else 0) = peer
  obtain ⟨hres, hregs⟩ := takeStatus_resolved hn peer (discover (agreed s n h) n h).1 (discover (agreed s n h) n h).2
    (s := agreed s n h)
  have hswap := aside_reswap (s := takeStatus n peer (discover (agreed s n h) n h).1 (discover (agreed s n h) n h).2 (agreed s n h)) (n := n) h
  have hlink : ∀ i, i = 0x0C ∨ i = 0x1C → linkReg (puBase n + i) = true := by
    rintro i hi
    have hmod := puBase_mod n (i := i) (by omega)
    rcases hi with rfl | rfl <;> simp [linkReg, hmod] <;> unfold puBase <;> omega
  refine ⟨hres.requeued (hswap.ports n hn rfl), ?_, ?_⟩
  · rw [hswap.regs _ (hlink _ (.inl rfl)), hregs _ (hlink _ (.inl rfl)), agreed, reg_setReg, if_pos rfl]
  · rw [hswap.regs _ (hlink _ (.inr rfl)), hregs _ (hlink _ (.inr rfl)), agreed, reg_setReg, if_neg (by omega)]
    rfl

end

/-! ## The end of the exchange -/

section
variable {s t : State} {n : Fin 64} {h : HelloInfo}

theorem laneSet_congr {m : Nat} (own far : BitVec 8) (w : Nat) (hr : (t.port m).role = (s.port m).role) (hm : (t.port m).maxw = (s.port m).maxw) :
    laneSet t m own far w = laneSet s m own far w := by
  unfold laneSet
  rw [hr, hm]

/-- Queued link-local packets do not bear on whether the lanes agree. -/
theorem lanesAgree_mail {l : List Packet} (hp : t.port n.val = { s.port n.val with linkLocal := l }) : lanesAgree t n h = lanesAgree s n h := by
  unfold lanesAgree
  dsimp only
  rw [laneSet_congr (s := s) _ _ _ (by rw [hp]) (by rw [hp]), hp]

theorem lanesAgree_iff : lanesAgree s n h = true ↔ h.laneOk = (s.port n.val).farLaneOk ∧ h.maxw = (s.port n.val).farMaxw.toNat ∧
    (laneSet s n.val (s.port n.val).saidOk h.laneOk h.maxw).2 ≠ 0 := by
  simp only [lanesAgree, Bool.and_eq_true, beq_iff_eq, bne_iff_ne, and_assoc]

theorem farHeard_agrees (ha : lanesAgree s n h = true) :
    farHeard n.val h s = exchangeCheck n.val (s.setPort n.val { s.port n.val with far := some h }) := by
  obtain ⟨hok, hmaxw, hset⟩ := lanesAgree_iff.1 ha
  exact if_neg (not_or.2 ⟨not_not.2 hok, not_or.2 ⟨not_not.2 hmaxw, hset⟩⟩)

theorem farHeard_differs (ha : lanesAgree s n h = false) : farHeard n.val h s = enterDetect n.val s := by
  refine if_pos ?_
  by_contra hn
  simp only [not_or, ne_eq, not_not] at hn
  exact Bool.false_ne_true (ha.symm.trans (lanesAgree_iff.2 hn))

theorem exchangeCheck_ends (hfar : (s.port n.val).far = some h) (hl : (s.port n.val).link = .exchange)
    (hd : exchangeDone (s.port n.val) h = true) : exchangeCheck n.val s = exchangeEnd n.val h s := by
  unfold exchangeCheck
  dsimp only
  rw [hfar]
  exact if_pos (by rw [hl, hd]; rfl)

theorem exchangeCheck_waits (hfar : (s.port n.val).far = some h) (hd : exchangeDone (s.port n.val) h = false) :
    exchangeCheck n.val s = s := by
  unfold exchangeCheck
  dsimp only
  rw [hfar]
  exact if_neg (by rw [hd]; simp)

theorem exchangeDone_endpoint {q : Port} (hr : q.role = 1) (hv : 1 ≤ h.fabverMax) : exchangeDone q h = true := by
  simp [exchangeDone, hr, roleTrunk, hv]

theorem planMode_of_field (hp : s.field 0x20 18 18 = 0) : planMode s = false := by
  unfold planMode
  rw [← Bool.not_eq_true, ← bits_eq_one]
  change ¬ s.field 0x20 18 18 = 1
  rw [hp]
  decide

/-- The rows of Table 3.6 that an endpoint port in coordinate mode meets, but for MODE_CONFLICT. -/
theorem discover_endpoint (hr : (s.port n.val).role = 1) (hp : planMode s = false) (hd : h.dmode = 0) :
    (h.side = 1 → h.role = 0 → discover s n.val h = (.ok, true)) ∧ (h.side ≠ 1 → discover s n.val h = (.miswired, false)) := by
  unfold discover
  refine ⟨fun hs h0 => ?_, fun hs => ?_⟩
  · simp [hd, hp, b2n, hr, roleNone, roleEndpoint, hs, h0, expects]
  · simp [hd, hp, b2n, hr, roleNone, roleEndpoint, hs]

/-- An endpoint port in coordinate mode that knows its far end takes its status and its state. -/
theorem endpoint_resolves (hl : (s.port n.val).link = .exchange) (hr : (s.port n.val).role = 1) (hp : planMode s = false)
    (hd : h.dmode = 0) (hfar : (s.port n.val).far = some h) (hv : 1 ≤ h.fabverMax) :
    (h.side = 1 → h.role = 0 → Resolved n.val .ok true { s.port n.val with fabver := 1 } (exchangeCheck n.val s)) ∧
    (h.side ≠ 1 → Resolved n.val .miswired false { s.port n.val with fabver := 1 } (exchangeCheck n.val s)) ∧
    (exchangeCheck n.val s).reg (puBase n.val + 0x0C) = h.ident.setWidth 64 := by
  rw [exchangeCheck_ends hfar hl (exchangeDone_endpoint hr hv)]
  obtain ⟨hres, hident, -⟩ := exchangeEnd_resolved (s := s) n.isLt h
  have hrole : ((agreed s n.val h).port n.val).role = 1 := by rw [agreed_port]; exact hr
  have hplan : planMode (agreed s n.val h) = false := by
    unfold planMode State.regN at hp ⊢
    rw [agreed, reg_setReg, if_neg (by unfold puBase; omega)]
    exact hp
  obtain ⟨hok, hmis⟩ := discover_endpoint hrole hplan hd
  have hport : ∀ {d up}, Resolved n.val d up ((agreed s n.val h).port n.val) (exchangeEnd n.val h s) →
      Resolved n.val d up { s.port n.val with fabver := 1 } (exchangeEnd n.val h s) := fun hres => by
    rw [agreed_port, Nat.min_eq_left hv] at hres
    exact ⟨hres.link, hres.disc, hres.far, hres.fabver, hres.delays, hres.mail⟩
  refine ⟨fun hs h0 => ?_, fun hs => ?_, hident⟩
  · rw [hok hs h0] at hres
    exact hport hres
  · rw [hmis hs] at hres
    exact hport hres

/-- What the check for the end of EXCHANGE leaves of the delays. -/
theorem exchangeCheck_delays : ((exchangeCheck n.val s).port n.val).delays = (s.port n.val).delays ∧
    (exchangeCheck n.val s).reg (puBase n.val + 0x1C) = s.reg (puBase n.val + 0x1C) := by
  unfold exchangeCheck
  extract_lets q
  cases q.far with
  | none => exact ⟨rfl, rfl⟩
  | some h =>
    dsimp only
    split
    · obtain ⟨hres, -, hdelay⟩ := exchangeEnd_resolved (s := s) n.isLt h
      exact ⟨hres.delays.trans (by rw [agreed_port]), hdelay⟩
    · exact ⟨rfl, rfl⟩

/-! ## The commands -/

section
variable {p : Packet}

theorem hello_heard (hh : Heard s n 1 p t) : hello n.val p s =
    if ((t.port n.val).link == .exchange) = true then farHeard n.val (helloInfo p) (sendHello n.val 2 (t.port n.val).saidOk t)
    else if ((t.port n.val).link == .up || (t.port n.val).link == .isolated) = true then beginRetrain n.val t else t := by
  unfold hello
  rw [hh]

theorem helloAck_heard (hh : Heard s n 2 p t) : helloAck n.val p s =
    if ((t.port n.val).link == .exchange) = true then farHeard n.val (helloInfo p) t else t := by
  unfold helloAck
  rw [hh]

theorem sent_planMode (k : SentOn s t) : planMode t = planMode s := by
  obtain ⟨_, _, _, rfl⟩ := k
  rfl

/-- A HELLO heard in EXCHANGE from a far end whose lanes agree: it is acknowledged, and makes the far end known. -/
theorem hello_known (hh : Heard s n 1 p t) (hl : (t.port n.val).link = .exchange) (ha : lanesAgree t n (helloInfo p) = true) :
    ∃ w x, hello n.val p s = exchangeCheck n.val w ∧ planMode w = planMode t ∧ x.typ = 0x32 ∧ x.at 32 8 = 2 ∧
      w.port n.val = { t.port n.val with far := some (helloInfo p), linkLocal := (t.port n.val).linkLocal ++ [x] } := by
  obtain ⟨hsent, x, htyp, hsub, hport⟩ := sendHello_queues n.val 2 (t.port n.val).saidOk t
  rw [hello_heard hh, if_pos (by rw [hl]; rfl), farHeard_agrees ((lanesAgree_mail hport).trans ha)]
  have hplan := sent_planMode hsent
  refine ⟨_, x, rfl, hplan, htyp, hsub, ?_⟩
  rw [port_setPort_same, hport]

theorem helloAck_known (hh : Heard s n 2 p t) (hl : (t.port n.val).link = .exchange) (ha : lanesAgree t n (helloInfo p) = true) :
    ∃ w, helloAck n.val p s = exchangeCheck n.val w ∧ planMode w = planMode t ∧
      w.port n.val = { t.port n.val with far := some (helloInfo p) } := by
  rw [helloAck_heard hh, if_pos (by rw [hl]; rfl), farHeard_agrees ha]
  exact ⟨_, rfl, rfl, port_setPort_same _ _ _⟩

/-- A HELLO on a link that is UP or ISOLATED: a fast retrain begins (R81). -/
theorem hello_retrains (hh : Heard s n 1 p t) (hl : (t.port n.val).link = .up ∨ (t.port n.val).link = .isolated)
    (hf : (t.port n.val).fabver ≠ 0) : ∃ x, x.typ = 0x32 ∧ x.at 32 8 = 1 ∧ (hello n.val p s).port n.val = { t.port n.val with
      link := .retrain, resumeTo := (t.port n.val).link, retrains := 0, sent := [], linkLocal := (t.port n.val).linkLocal ++ [x] } := by
  have hne : ((t.port n.val).link == .exchange) = false := by rcases hl with hl | hl <;> rw [hl] <;> rfl
  have hup : ((t.port n.val).link == .up || (t.port n.val).link == .isolated) = true := by rcases hl with hl | hl <;> rw [hl] <;> rfl
  have hbegin : hello n.val p s = sendHello n.val 1 (laneOk (t.port n.val)) (t.setPort n.val { t.port n.val with
      link := .retrain, resumeTo := (t.port n.val).link, retrains := 0, sent := [] }) := by
    rw [hello_heard hh, hne, if_neg Bool.false_ne_true, if_pos hup]
    exact if_neg hf
  obtain ⟨-, x, htyp, hsub, hport⟩ := sendHello_queues n.val 1 (laneOk (t.port n.val)) (t.setPort n.val { t.port n.val with
    link := .retrain, resumeTo := (t.port n.val).link, retrains := 0, sent := [] })
  refine ⟨x, htyp, hsub, ?_⟩
  rw [hbegin, hport, port_setPort_same]

/-! ## The start of data, and the delays -/

/-- The port as EXCHANGE begins: the lanes of its LANE_OK that the far end's `ok` and `mw` leave, no credit held, and nothing queued (R72). -/
def openPort (s : State) (n : Nat) (ok : BitVec 8) (mw : BitVec 2) : Port := { s.port n with
  link := .exchange, laneUse := (laneSet s n (readyLanes (s.port n)) ok mw.toNat).1, width := (laneSet s n (readyLanes (s.port n)) ok mw.toNat).2
  saidOk := readyLanes (s.port n), farLaneOk := ok, farMaxw := mw, ltfs := (s.port n).ltfs + 16, allow := allowance s (quadOf n)
  txCred := [], rxOwed := [], rxGreen := [], withhold := [], linkLocal := [] }

theorem dataStart_opens {ok : BitVec 8} {mw : BitVec 2} (hc : coreOn s = true) (hl : (s.port n.val).link = .align)
    (hgo : readyLanes (s.port n.val) &&& ~~~ (s.port n.val).goSeen = 0)
    (hw : (laneSet s n.val (readyLanes (s.port n.val)) ok mw.toNat).2 ≠ 0) : dataStart n.val ok mw s =
      (startDelay n.val (sendHello n.val 1 (readyLanes (s.port n.val)) (s.setPort n.val (openPort s n.val ok mw)))).modPort n.val
        (fun x => { x with linkLocal := x.linkLocal ++ (s.port n.val).linkLocal }) := by
  unfold dataStart
  dsimp only
  rw [if_neg (by simp [hc, hl, hgo])]
  exact if_neg hw

/-- On a trunk eight DELAY_REQ follow (R75). -/
theorem startDelay_port (m : Nat) : ∃ xs ds te, xs.length = (if (s.port m).role = 2 then 8 else 0) ∧ (∀ y ∈ xs, y.typ = 0x32 ∧ y.at 32 8 = 3) ∧
    (startDelay m s).port m = { s.port m with linkLocal := (s.port m).linkLocal ++ xs, delays := ds, test := te } := by
  by_cases hr : (s.port m).role = 2
  · obtain ⟨-, xs, hlen, hxs, hport⟩ := delayReqs_queue m (List.range 8) s
    refine ⟨xs, [], some ((s.port m).txSeq, ((List.range 8).foldl (fun s _ =>
      sendLinkLocal m tLinkCtrl (linkVer (s.port m)) [(8 * 32, 8, 3)] s) s).now), ?_, hxs, ?_⟩
    · rw [if_pos hr, hlen, List.length_range]
    · refine (congrArg (fun x : State => x.port m) (if_pos hr)).trans ((port_modPort_same m _).trans ?_)
      rw [hport]
  · refine ⟨[], (s.port m).delays, (s.port m).test, (if_neg hr).symm, by simp, ?_⟩
    refine (congrArg (fun x : State => x.port m) (if_neg hr)).trans ?_
    simp

/-! ## The delays -/

theorem port_setField (a hi lo x m : Nat) : (s.setField a hi lo x).port m = s.port m := rfl

theorem delayReq_heard {p : Packet} {a b : Nat} (hh : Heard s n 3 p t) : delayReq n.val p a b s =
    sendLinkLocal n.val tLinkCtrl (linkVer (t.port n.val)) [(16, 3, p.tc), (8 * 32, 8, 4), (8 * 40, 64, a), (8 * 48, 64, b)] t := by
  unfold delayReq
  rw [hh]

/-- A link-local packet joins those of its port. -/
theorem sendLinkLocal_joins (typ ver : Nat) (own : List (Nat × Nat × Nat)) : ((sendLinkLocal n.val typ ver own s).port n.val).linkLocal =
    (s.port n.val).linkLocal ++ [localPacket n.val typ ver own s] := by
  rw [sendLinkLocal_port n.val typ ver own s n.isLt n.isLt, if_pos rfl]

theorem delayResp_heard {p : Packet} {a b : Nat} (hh : Heard s n 4 p t) (hr : (t.port n.val).role = 2) (ds : List Int)
    (hds : ds = ((((b : Int) - (a : Int)) - ((p.at 48 64 : Int) - (p.at 40 64 : Int))) :: (t.port n.val).delays).take 8) :
    delayResp n.val p a b s = if ds.length < 8 then t.modPort n.val (fun q => { q with delays := ds })
      else exchangeCheck n.val ((t.modPort n.val (fun q => { q with delays := ds })).setField (puBase n.val + 0x1C) 15 0
        (min ((ds.foldl (· + ·) 0 / (16 : Int)).toNat) 0xFFFF)) := by
  unfold delayResp
  rw [hh, hds]
  exact if_neg (not_not.2 hr)

/-- A trunk port whose eight exchanges are made and whose test frame is acknowledged is UP or ISOLATED (R75). -/
theorem exchangeCheck_trunk (hfar : (s.port n.val).far = some h) (hl : (s.port n.val).link = .exchange)
    (hd : 8 ≤ (s.port n.val).delays.length) (ht : (s.port n.val).test = none) (hv : 1 ≤ h.fabverMax) :
    ((exchangeCheck n.val s).port n.val).link = .up ∨ ((exchangeCheck n.val s).port n.val).link = .isolated := by
  rw [exchangeCheck_ends hfar hl (by simp [exchangeDone, hd, ht, hv])]
  obtain ⟨hres, -, -⟩ := exchangeEnd_resolved (s := s) n.isLt h
  rw [hres.link]
  split
  · exact .inl rfl
  · exact .inr rfl

end
end

/-- Settles O14, the commands in the order of the statement. -/
theorem exchangesEndAndDelaysAreMeasured : Obligations.ExchangesEndAndDelaysAreMeasured := by
  unfold Obligations.ExchangesEndAndDelaysAreMeasured
  refine ⟨fun s n p t ok mw => ?_, fun s n p t a b => ⟨fun hh ha hb => ?_, fun hh hr => ?_, fun hc hr hl hf ha => ?_⟩⟩
  · intro h plain isUp
    have hresolves : ∀ {w : State}, planMode w = planMode t → plain → (w.port n.val).link = (t.port n.val).link →
        (w.port n.val).role = (t.port n.val).role → (w.port n.val).far = some h →
        (h.side = 1 → h.role = 0 → isUp (exchangeCheck n.val w) ∧
          ∃ k, ((exchangeCheck n.val w).port n.val).linkLocal = k ++ (w.port n.val).linkLocal) ∧
        (h.side ≠ 1 → ((exchangeCheck n.val w).port n.val).link = .isolated ∧ ((exchangeCheck n.val w).port n.val).disc = .miswired) := by
      rintro w hplan ⟨hl, hr, hp, hd, -, hv⟩ hlink hrole hfar
      obtain ⟨hup, hmis, hident⟩ := endpoint_resolves (hlink.trans hl) (hrole.trans hr) (hplan.trans (planMode_of_field hp)) hd hfar hv
      refine ⟨fun hs h0 => ?_, fun hs => ⟨(hmis hs).link, (hmis hs).disc⟩⟩
      obtain ⟨hlink, hdisc, hfar', hfab, -, hmail⟩ := hup hs h0
      exact ⟨⟨hlink, hdisc, hfar'.trans hfar, hfab, hident⟩, hmail Nat.one_ne_zero⟩
    refine ⟨fun hc hl hgo hw => ?_, fun hl hgo => ?_, fun hh hp hs h0 => ?_, fun hh hp hs => ?_, fun hh hp hs h0 => ?_, fun hh hp hs => ?_,
      fun hh hl ha hr hs hd => ?_, fun hh hl ha => ?_, fun hh hl hf => ?_⟩
    · refine ⟨_, congrArg Host.Outcome.next (dataStart_opens hc hl hgo hw), ?_⟩
      obtain ⟨-, x, htyp, hsub, hx⟩ := sendHello_queues n.val 1 (readyLanes (s.port n.val)) (s.setPort n.val (openPort s n.val ok mw))
      obtain ⟨xs, ds, te, hlen, hxs, hstart⟩ := startDelay_port (s := sendHello n.val 1 (readyLanes (s.port n.val))
        (s.setPort n.val (openPort s n.val ok mw))) n.val
      rw [hx, port_setPort_same] at hlen hstart
      rw [port_modPort_same, hstart]
      exact ⟨rfl, rfl, rfl, rfl, rfl, rfl, x, xs, by simp [openPort], htyp, hsub, hlen, hxs⟩
    · refine congrArg Host.Outcome.next ?_
      exact if_pos (by rw [Bool.or_eq_true, bne_iff_ne]; exact .inr hgo)
    · have ⟨hl, _, _, _, ha, _⟩ := hp
      obtain ⟨w, x, hw, hplan, htyp, hsub, hport⟩ := hello_known hh hl ha
      obtain ⟨hup, k, hk⟩ := (hresolves hplan hp (by rw [hport]) (by rw [hport]) (by rw [hport])).1 hs h0
      refine ⟨_, congrArg Host.Outcome.next hw, hup, x, ?_, htyp, hsub⟩
      rw [hk, hport]
      simp
    · have ⟨hl, _, _, _, ha, _⟩ := hp
      obtain ⟨w, x, hw, hplan, -, -, hport⟩ := hello_known hh hl ha
      exact ⟨_, congrArg Host.Outcome.next hw, (hresolves hplan hp (by rw [hport]) (by rw [hport]) (by rw [hport])).2 hs⟩
    · have ⟨hl, _, _, _, ha, _⟩ := hp
      obtain ⟨w, hw, hplan, hport⟩ := helloAck_known hh hl ha
      exact ⟨_, congrArg Host.Outcome.next hw, ((hresolves hplan hp (by rw [hport]) (by rw [hport]) (by rw [hport])).1 hs h0).1⟩
    · have ⟨hl, _, _, _, ha, _⟩ := hp
      obtain ⟨w, hw, hplan, hport⟩ := helloAck_known hh hl ha
      exact ⟨_, congrArg Host.Outcome.next hw, (hresolves hplan hp (by rw [hport]) (by rw [hport]) (by rw [hport])).2 hs⟩
    · obtain ⟨w, x, hw, -, htyp, hsub, hport⟩ := hello_known hh hl ha
      have hwait : exchangeDone (w.port n.val) h = false := by
        rw [hport]
        rcases hd with hd | hd
        · simp [exchangeDone, hr, hs, roleTrunk, Nat.not_le.2 hd]
        · simp [exchangeDone, hr, hs, roleTrunk, Option.isNone_eq_false_iff.2 hd]
      refine ⟨w, congrArg Host.Outcome.next (hw.trans (exchangeCheck_waits (by rw [hport]) hwait)), ?_, by rw [hport], x, by rw [hport], htyp, hsub⟩
      rw [hport]
      exact hl
    · obtain ⟨-, x, -, -, hport⟩ := sendHello_queues n.val 2 (t.port n.val).saidOk t
      refine ⟨_, congrArg Host.Outcome.next ((hello_heard hh).trans (if_pos (by rw [hl]; rfl))), ?_⟩
      rw [farHeard_differs ((lanesAgree_mail hport).trans ha)]
      exact enterDetect_link n.val
    · obtain ⟨x, htyp, hsub, hport⟩ := hello_retrains hh hl hf
      exact ⟨_, rfl, congrArg Port.link hport, congrArg Port.resumeTo hport, by rw [hport], x,
        congrArg Port.linkLocal hport, htyp, hsub⟩
  · have hfit : fitting (localPlaces ++ [(16, 3), (256, 8), (320, 64), (384, 64)]) := by decide
    have hown : ∀ c : Nat, fitting (localPlaces ++ places [(16, 3, c), (8 * 32, 8, 4), (8 * 40, 64, a), (8 * 48, 64, b)]) := fun _ => hfit
    refine ⟨_, congrArg Host.Outcome.next (delayReq_heard hh), ⟨_, sendLinkLocal_joins _ _ _, localPacket_typ (hown _),
      localPacket_own (hown _) (lo := 256) (w := 8) (v := 4) (by simp) (by decide)⟩, _, by rw [sendLinkLocal_joins]; exact List.getLast?_concat .., ?_, ?_, ?_⟩
    · exact (localPacket_own (hown _) (lo := 320) (w := 64) (v := a) (by simp) (by decide)).trans (Nat.mod_eq_of_lt ha)
    · exact (localPacket_own (hown _) (lo := 384) (w := 64) (v := b) (by simp) (by decide)).trans (Nat.mod_eq_of_lt hb)
    · exact (localPacket_own (hown _) (lo := 16) (w := 3) (v := p.tc) (by simp) (by decide)).trans (Nat.mod_eq_of_lt (Nat.mod_lt _ (by decide)))
  · intro twice ds mean
    have hle : ds.length ≤ 8 := by simp [ds]
    have hds := delayResp_heard (a := a) (b := b) hh hr ds rfl
    by_cases hlen : ds.length < 8
    · refine ⟨_, congrArg Host.Outcome.next (hds.trans (if_pos hlen)), ?_, ?_, fun h8 => by omega⟩
      · rw [port_modPort_same]
      · rw [if_neg (by omega)]
        rfl
    · have hport : State.port ((t.modPort n.val (fun q => { q with delays := ds })).setField (puBase n.val + 0x1C) 15 0
          (min ((ds.foldl (· + ·) 0 / (16 : Int)).toNat) 0xFFFF)) n.val = { t.port n.val with delays := ds } :=
        (port_setField _ _ _ _ _).trans (port_modPort_same n.val _)
      refine ⟨_, congrArg Host.Outcome.next (hds.trans (if_neg hlen)), ?_, ?_, fun _ h hl hfar ht hv => ?_⟩
      · rw [exchangeCheck_delays.1, hport]
      · rw [if_pos (by omega), State.field, State.regN, exchangeCheck_delays.2]
        refine (field_setField_same (by decide) (by decide)).trans (Nat.mod_eq_of_lt ?_)
        omega
      · exact exchangeCheck_trunk (by rw [hport]; exact hfar) (by rw [hport]; exact hl) (by rw [hport]; exact Nat.not_lt.1 hlen)
          (by rw [hport]; exact ht) hv
  · have hfit : fitting (localPlaces ++ places [(8 * 32, 8, 3), (8 * 48, 64, a)]) := (by decide : fitting (localPlaces ++ [(256, 8), (384, 64)]))
    have hsend : delayExchange n.val a s = sendLinkLocal n.val tLinkCtrl 1 [(8 * 32, 8, 3), (8 * 48, 64, a)] s :=
      if_pos (by simp [hc, hr, hl, hf, roleTrunk])
    refine ⟨_, congrArg Host.Outcome.next hsend, ⟨_, sendLinkLocal_joins _ _ _, localPacket_typ hfit,
      localPacket_own hfit (lo := 256) (w := 8) (v := 3) (by simp) (by decide)⟩, _, by rw [sendLinkLocal_joins]; exact List.getLast?_concat .., ?_⟩
    exact (localPacket_own hfit (lo := 384) (w := 64) (v := a) (by simp) (by decide)).trans (Nat.mod_eq_of_lt ha)

end Sys2Proof.Proofs
end

section
/-!
PROOFS. Group entries commit (O26).
-/

namespace Sys2Proof.Proofs
open Sys2Proof Sys2Proof.Machine Sys2Proof.Claims

set_option Elab.async false

section
variable {s : State} {g : Nat}

theorem commitDone_sets (a reason : Nat) (s : State) : OnlyReg s (commitDone a reason s) a (statusOf reason) :=
  ⟨commitDone_reg a reason s, fun b hb => by rw [commitDone, reg_setRegN, if_neg hb]⟩

/-- R23: a write that the management bus holds joins those held. -/
theorem onBus_held {a : Nat} {v : W64} {f : State → State} (h : held s = false) (hb : mustHold s a true = true) :
    onBus a v f s = { s with busHeld := s.busHeld ++ [.write a v false] } := by
  rw [onBus, if_neg (by simp [h]), if_pos hb]

theorem busReplay_nil (h : s.busHeld = []) : busReplay s = s := by
  unfold busReplay
  rw [h]
  rfl

/-! ## The commands as commits -/

theorem gcommit_write (g : BitVec 12) : gcommit (g.setWidth 64) s = groupWriteNow g.toNat s := by
  have hg : bits (g.setWidth 64).toNat 11 0 = g.toNat := by
    simp only [bits, BitVec.toNat_setWidth]
    have := g.isLt
    omega
  have hw : bit (g.setWidth 64).toNat 12 = false := by
    have hlt : (g.setWidth 64).toNat < 2 ^ 12 := by
      rw [BitVec.toNat_setWidth]
      exact Nat.lt_of_le_of_lt (Nat.mod_le _ _) g.isLt
    exact Nat.testBit_lt_two_pow hlt
  unfold gcommit
  rw [hw, hg]
  rfl

theorem gcommit_delete (g : BitVec 12) : gcommit (g.setWidth 64 + 0x1000) s =
    if groupOpen s g.toNat then commitDone 0x400003C 1 s else commitDone 0x400003C 0 (groupClear g.toNat s) := by
  have hv : (g.setWidth 64 + (0x1000 : W64)).toNat = 2 ^ 12 + g.toNat := by
    rw [BitVec.toNat_add, BitVec.toNat_setWidth]
    have := g.isLt
    have h12 : (0x1000 : W64).toNat = 2 ^ 12 := rfl
    omega
  have hg : bits (g.setWidth 64 + (0x1000 : W64)).toNat 11 0 = g.toNat := by
    simp only [bits, hv]
    have := g.isLt
    omega
  have hw : bit (g.setWidth 64 + (0x1000 : W64)).toNat 12 = true := by
    rw [hv, bit, Nat.testBit_two_pow_add_eq, Nat.testBit_lt_two_pow g.isLt]
    rfl
  unfold gcommit
  rw [hg, hw]
  rfl

/-- The words that a WRITE of a group commits: those staged, or those that an AXIS entry's extents give. -/
def groupWords (s : State) : Nat × Nat × Nat :=
  if (s.regN 0x4000020).testBit 16 then axisWords s (s.regN 0x4000020) (s.regN 0x4000030)
  else (s.regN 0x4000020, s.regN 0x4000024, s.regN 0x4000028)

theorem groupWriteNow_eq (g : Nat) : groupWriteNow g s =
    if groupOpen s g then commitDone 0x400003C 1 s
    else if groupField s (groupWords s).1 (groupWords s).2.1 (groupWords s).2.2 (s.regN 0x4000030) then commitDone 0x400003C 2 s
    else if bit (groupWords s).1 16 then
      commitDone 0x400003C 0 (groupPut g (groupWords s).1 (groupWords s).2.1 (groupWords s).2.2 (s.regN 0x4000030) s)
    else { s.setRegN 0x400003C 4 with grpCommit := some ⟨g,
      [(groupWords s).1, (groupWords s).2.1, (groupWords s).2.2, s.regN 0x4000030].map (BitVec.ofNat 64)⟩ } := rfl

/-! ## The entry -/

theorem groupPut_reg (a b c d x : Nat) : (groupPut g a b c d s).reg x =
    if x = 0x4010000 + g * 0x20 + 0x1C then 0 else if x = 0x4010000 + g * 0x20 + 0x18 then 1
    else if x = 0x4010000 + g * 0x20 + 0x10 then BitVec.ofNat 64 d else if x = 0x4010000 + g * 0x20 + 8 then BitVec.ofNat 64 c
    else if x = 0x4010000 + g * 0x20 + 4 then BitVec.ofNat 64 b else if x = 0x4010000 + g * 0x20 then BitVec.ofNat 64 a else s.reg x := by
  refine (reg_setRegN _ _ _ _).trans (if_congr Iff.rfl rfl ?_)
  refine (reg_setRegN _ _ _ _).trans (if_congr Iff.rfl rfl ?_)
  refine (reg_setRegN _ _ _ _).trans (if_congr Iff.rfl rfl ?_)
  refine (reg_setRegN _ _ _ _).trans (if_congr Iff.rfl rfl ?_)
  refine (reg_setRegN _ _ _ _).trans (if_congr Iff.rfl rfl ?_)
  exact reg_setRegN _ _ _ _

/-- The entry as a commit has written it. -/
theorem groupIs_put (a b c d : Nat) : GroupIs (commitDone 0x400003C 0 (groupPut g a b c d s)) g
    (BitVec.ofNat 64 a) (BitVec.ofNat 64 b) (BitVec.ofNat 64 c) (BitVec.ofNat 64 d) := by
  have hreg : ∀ x, x ≠ 0x400003C → (commitDone 0x400003C 0 (groupPut g a b c d s)).reg x = (groupPut g a b c d s).reg x :=
    (commitDone_sets _ _ _).2
  refine ⟨?_, ?_, ?_, ?_, ?_, ?_, fun e he => ?_⟩
  · rw [hreg _ (by omega), groupPut_reg]; simp
  · rw [show 0x4010004 + g * 0x20 = 0x4010000 + g * 0x20 + 4 by omega, hreg _ (by omega), groupPut_reg]; simp
  · rw [show 0x4010008 + g * 0x20 = 0x4010000 + g * 0x20 + 8 by omega, hreg _ (by omega), groupPut_reg]; simp
  · rw [show 0x4010010 + g * 0x20 = 0x4010000 + g * 0x20 + 0x10 by omega, hreg _ (by omega), groupPut_reg]; simp
  · rw [show 0x4010018 + g * 0x20 = 0x4010000 + g * 0x20 + 0x18 by omega, hreg _ (by omega), groupPut_reg]; simp
  · rw [show 0x401001C + g * 0x20 = 0x4010000 + g * 0x20 + 0x1C by omega, hreg _ (by omega), groupPut_reg]; simp
  · exact bne_iff_ne.1 (List.mem_filter.1 he).2

/-- A commit writes registers and the record of what is closed, and no store or collective. -/
theorem put_keeps (r a b c d : Nat) : (commitDone 0x400003C r (groupPut g a b c d s)).mem = s.mem ∧
    (commitDone 0x400003C r (groupPut g a b c d s)).colls = s.colls ∧ (commitDone 0x400003C r (groupPut g a b c d s)).grpCommit = s.grpCommit ∧
    (commitDone 0x400003C r (groupPut g a b c d s)).busHeld = s.busHeld := by
  simp only [commitDone, groupPut, wordsClean, State.setRegN_mem, State.setRegN_colls, State.setRegN_grpCommit, State.setRegN_busHeld, and_self]

theorem tabGet_outside {α : Type} {t : Tab α} {w n x : Nat} (h : w ≤ x ∧ x < w + n) :
    tabGet (t.filter (fun e => !(decide (w ≤ e.1) && decide (e.1 < w + n)))) x = none := by
  refine tabGet_of_not_mem fun hx => ?_
  obtain ⟨e, he, rfl⟩ := List.mem_map.1 hx
  have hout := (List.mem_filter.1 he).2
  simp [h.1, h.2] at hout

/-- What a DELETE leaves of the entry: nothing. -/
theorem groupClear_reg {x : Nat} (h0 : 0x4010000 + g * 0x20 ≤ x) (h1 : x < 0x4010020 + g * 0x20) :
    (commitDone 0x400003C 0 (groupClear g s)).reg x = regReset s.fuses x := by
  rw [(commitDone_sets _ _ _).2 x (by omega), State.reg]
  exact congrArg (fun o : Option W64 => o.getD (regReset s.fuses x)) (tabGet_outside ⟨h0, by omega⟩)

/-! ## The end of the list's reading -/

theorem reading_reg {t : State} (h : Reading s t) {a : Nat} (ha : counts a = false) : t.reg a = s.reg a := by
  obtain ⟨_, _, _, _, rfl, hregs⟩ := h
  rw [State.reg, State.reg, hregs a ha]

theorem reading_dimAxis {t : State} (h : Reading s t) (k : Nat) : dimAxis t k = dimAxis s k := reading_field h (by decide)

theorem reading_port {t : State} (h : Reading s t) (n : Nat) : t.port n = s.port n := by
  obtain ⟨_, _, _, _, rfl, -⟩ := h
  rfl

theorem reading_boot {t : State} (h : Reading s t) : t.boot = s.boot := by
  obtain ⟨_, _, _, _, rfl, -⟩ := h
  rfl

theorem counts_puRole (n : Nat) : counts (puBase n) = false := by
  unfold puBase
  have h1 : (0x1000000 + n * 0x10000) % 0x10000 = 0 := by omega
  simp only [counts, h1, Bool.or_eq_false_iff, Bool.and_eq_false_iff, decide_eq_false_iff_not]
  omega

theorem reading_portRole {t : State} (h : Reading s t) (n : Nat) : portRole t n = portRole s n := by
  have hrole : trainRole t n = trainRole s n := by
    unfold trainRole
    simp only [reading_field h (counts_puRole n), reading_dimAxis h]
  rw [portRole, portRole, reading_boot h, reading_port h, hrole]

theorem reading_badCw {t : State} (h : Reading s t) (cw : Nat) : badCw t cw = badCw s cw := by
  have hown : ownSw t = ownSw s := reading_field h (by decide)
  have hin : cwInside t (BitVec.ofNat 32 cw) = cwInside s (BitVec.ofNat 32 cw) := by
    simp only [cwInside, reading_dimAxis h]
  rw [badCw, badCw, hin, hown, reading_portRole h]

/-- The member list is read, and passes row 3 of Table 7.2 (LIST) or not. -/
theorem groupList_clean {b c : Nat} (hf : s.flaws = []) (hc : Clean s c (4 * bits b 17 0)) :
    ∃ bad t, groupList b c s = (bad, listAt s c (bits b 17 0), t) ∧ Reading s t ∧
      (bad = false ↔ goodMembers s c (bits b 17 0) (bits b 24 18)) := by
  obtain ⟨t, ht, hread⟩ := storeRead_reads .csq hf hc
  have hown : ownSw t = ownSw s := reading_field hread (by decide)
  let l := listAt s c (bits b 17 0)
  let own := l.filter (fun cw => cwSw cw == ownSw t)
  refine ⟨l.any (badCw t) || own.eraseDups.length != own.length || own.length != bits b 24 18, t, ?_, hread, ?_⟩
  · unfold groupList
    dsimp only
    rw [ht]
    rfl
  · simp only [l, own, funext (reading_badCw hread), hown, goodMembers, Bool.or_eq_false_iff, List.any_eq_false,
      bne_eq_false_iff_eq, Bool.not_eq_true, and_assoc]

end

theorem reading_entry {s t : State} (h : Reading s t) : t.mem = s.mem ∧ t.grpCommit = s.grpCommit ∧ t.busHeld = s.busHeld := by
  obtain ⟨_, _, _, _, rfl, -⟩ := h
  exact ⟨rfl, rfl, rfl⟩

/-- The end of a commit whose list has been read. -/
theorem groupCommitEnd_eq {s t : State} {g : Nat} {a b c d : W64} {bad : Bool} {cws : List Nat} (hc : s.grpCommit = some ⟨g, [a, b, c, d]⟩)
    (hon : coreOn s = true) (hwipe : s.wiping = false) (hlist : groupList b.toNat c.toNat { s with grpCommit := none } = (bad, cws, t)) :
    groupCommitEnd s = if bad then commitDone 0x400003C 3 t else if groupOpen t g then commitDone 0x400003C 1 t
      else commitDone 0x400003C 0 (groupPut g a.toNat b.toNat c.toNat d.toNat { t with locals := tabSet t.locals g (localsOf t cws) }) := by
  have hl : groupList (([a, b, c, d] : List W64).getD 1 0).toNat (([a, b, c, d] : List W64).getD 2 0).toNat { s with grpCommit := none } =
    (bad, cws, t) := hlist
  unfold groupCommitEnd
  rw [hc]
  dsimp only
  rw [if_neg (by simp [hon, hwipe]), hl]
  rfl

/-- Settles O26, clause by clause: what a commit writes, and what the list that is read lets it write. -/
theorem groupEntriesCommit : Obligations.GroupEntriesCommit := by
  unfold Obligations.GroupEntriesCommit
  intro s g a b c d a0 d0 w st hidle
  have hheld := held_of_idle hidle
  have hwrite : BusFree s 0x4000038 → exec (.groupWrite g) s = .next (groupWriteNow g.toNat s) := fun hb =>
    congrArg Host.Outcome.next ((onBus_free hheld hb).trans (gcommit_write g))
  have hdelete : BusFree s 0x4000038 → exec (.groupDelete g) s = .next
      (if groupOpen s g.toNat then commitDone 0x400003C 1 s else commitDone 0x400003C 0 (groupClear g.toNat s)) := fun hb =>
    congrArg Host.Outcome.next ((onBus_free hheld hb).trans (gcommit_delete g))
  have hw : groupWords s = w := rfl
  have hd : s.regN 0x4000030 = d0 := rfl
  refine ⟨fun hb ho => ⟨⟨_, hwrite hb, ?_⟩, ⟨_, hdelete hb, ?_⟩⟩, fun hb ho hf => ⟨_, hwrite hb, ?_⟩, fun hb ho hf ha => ⟨_, hwrite hb, ?_⟩,
    fun hb ho hf ha => ⟨_, hwrite hb, ?_⟩, fun hb => ?_, fun hc => ?_, fun hwipe hb => ?_, fun hb ho => ⟨_, hdelete hb, ?_⟩,
    fun hc hb hwipe hf ho hclean => ?_⟩
  · rw [groupWriteNow_eq, if_pos ho]
    exact commitDone_sets _ 1 s
  · rw [if_pos ho]
    exact commitDone_sets _ 1 s
  · rw [groupWriteNow_eq, hw, hd, if_neg (by simp [ho]), if_pos hf]
    exact commitDone_sets _ 2 s
  · have ha' : bit w.1 16 = true := ha
    rw [groupWriteNow_eq, hw, hd, if_neg (by simp [ho]), if_neg (by simp [hf]), if_pos ha']
    obtain ⟨hmem, hcolls, -, -⟩ := put_keeps (g := g.toNat) (s := s) 0 w.1 w.2.1 w.2.2 d0
    exact ⟨groupIs_put _ _ _ _, commitDone_reg _ 0 _, hmem, hcolls⟩
  · have ha' : bit w.1 16 = false := ha
    rw [groupWriteNow_eq, hw, hd, if_neg (by simp [ho]), if_neg (by simp [hf]), if_neg (by simp [ha'])]
    exact ⟨onlyReg_setReg _ _ _, rfl⟩
  · exact ⟨_, congrArg Host.Outcome.next (onBus_held hheld hb), rfl, rfl⟩
  · simp [mustHold, busBusy, hc]
  · have hstay : groupCommitEnd s = s := by
      unfold groupCommitEnd
      cases s.grpCommit with
      | none => rfl
      | some p => exact if_pos (by simp [hwipe])
    exact congrArg Host.Outcome.next ((congrArg busReplay hstay).trans (busReplay_nil hb))
  · rw [if_neg (by simp [ho])]
    exact ⟨commitDone_reg _ 0 _, fun x h0 h1 => groupClear_reg h0 h1, fun e he => bne_iff_ne.1 (List.mem_filter.1 he).2, rfl⟩
  · obtain ⟨bad, t, hlist, hread, hgood⟩ := groupList_clean (s := { s with grpCommit := none }) (b := b.toNat) (c := c.toNat) hf hclean
    have hend := groupCommitEnd_eq hc hidle hwipe hlist
    have hopen : groupOpen t g.toNat = false := by
      obtain ⟨_, _, _, _, rfl, -⟩ := hread
      exact ho
    refine ⟨fun hm => ?_, fun hm => ?_⟩
    · rw [hgood.2 hm, if_neg Bool.false_ne_true, if_neg (by simp [hopen])] at hend
      obtain ⟨hmem, -, hcommit, hbus⟩ := put_keeps (g := g.toNat) (s := { t with
        locals := tabSet t.locals g.toNat (localsOf t (listAt { s with grpCommit := none } c.toNat (bits b.toNat 17 0))) }) 0
        a.toNat b.toNat c.toNat d.toNat
      obtain ⟨hsmem, hscommit, hsbus⟩ := reading_entry hread
      refine ⟨_, congrArg Host.Outcome.next ((congrArg busReplay hend).trans (busReplay_nil (hbus.trans (hsbus.trans hb)))), ?_,
        commitDone_reg _ 0 _, hcommit.trans hscommit, hmem.trans hsmem⟩
      simpa using groupIs_put (g := g.toNat) a.toNat b.toNat c.toNat d.toNat
    · rw [eq_true_of_ne_false fun h => hm (hgood.1 h), if_pos rfl] at hend
      obtain ⟨hsmem, hscommit, hsbus⟩ := reading_entry hread
      refine ⟨_, congrArg Host.Outcome.next ((congrArg busReplay hend).trans (busReplay_nil (hsbus.trans hb))), commitDone_reg _ 3 _, ?_,
        hscommit, hsmem⟩
      rw [(commitDone_sets _ _ _).2 _ (by omega)]
      exact reading_reg hread (by
        simp only [counts, Bool.or_eq_false_iff, Bool.and_eq_false_iff, decide_eq_false_iff_not]
        have := g.isLt
        omega)

end Sys2Proof.Proofs
end

section
/-!
PROOFS. Expert tables commit (O27).
-/

namespace Sys2Proof.Proofs
open Sys2Proof Sys2Proof.Machine Sys2Proof.Claims

set_option Elab.async false

section
variable {s : State} {t : Nat}

/-- A WRITE as the CSQ performs it. -/
theorem xcommit_write (ht : t < 64) : xcommit (BitVec.ofNat 64 t) s =
    if stepOpen s t then commitDone 0x40000AC 1 s
    else if tableField s (s.regN 0x4000080) (s.regN 0x4000084) (s.regN 0x4000088) (s.regN 0x4000090) (s.regN 0x4000098) (s.regN 0x40000A0) then
      commitDone 0x40000AC 2 s
    else { s.setRegN 0x40000AC 4 with tabCommit := some ⟨t, stagedTable s⟩ } := by
  have hv : (BitVec.ofNat 64 t).toNat = t := by rw [BitVec.toNat_ofNat]; omega
  have hkey : bits t 5 0 = t := by simp only [bits]; omega
  have hop : bit t 6 = false := Nat.testBit_lt_two_pow ht
  unfold xcommit
  rw [hv, hkey, hop]
  rfl

/-- A DELETE as the CSQ performs it. -/
theorem xcommit_delete (ht : t < 64) : xcommit (BitVec.ofNat 64 (t + 64)) s =
    if stepOpen s t then commitDone 0x40000AC 1 s else commitDone 0x40000AC 0 (tableClear t s) := by
  have hv : (BitVec.ofNat 64 (t + 64)).toNat = 2 ^ 6 + t := by rw [BitVec.toNat_ofNat]; omega
  have hkey : bits (2 ^ 6 + t) 5 0 = t := by simp only [bits]; omega
  have hop : bit (2 ^ 6 + t) 6 = true := by
    rw [bit, Nat.testBit_two_pow_add_eq, Nat.testBit_lt_two_pow ht]
    rfl
  unfold xcommit
  rw [hv, hkey, hop]
  rfl

/-! ## The entry -/

theorem tablePut_reg (a b c d e f : W64) (x : Nat) : (tablePut t [a, b, c, d, e, f] s).reg x =
    if x = xBase t + 0x2C then 0 else if x = xBase t + 0x28 then 1 else if x = xBase t + 0x20 then f else if x = xBase t + 0x18 then e
    else if x = xBase t + 0x10 then d else if x = xBase t + 8 then c else if x = xBase t + 4 then b else if x = xBase t + 0 then a
    else s.reg x := by
  refine (reg_setRegN _ _ _ _).trans (if_congr Iff.rfl rfl ?_)
  refine (reg_setRegN _ _ _ _).trans (if_congr Iff.rfl rfl ?_)
  refine (reg_setReg _ _ _ _).trans (if_congr Iff.rfl rfl ?_)
  refine (reg_setReg _ _ _ _).trans (if_congr Iff.rfl rfl ?_)
  refine (reg_setReg _ _ _ _).trans (if_congr Iff.rfl rfl ?_)
  refine (reg_setReg _ _ _ _).trans (if_congr Iff.rfl rfl ?_)
  refine (reg_setReg _ _ _ _).trans (if_congr Iff.rfl rfl ?_)
  exact reg_setReg _ _ _ _

theorem xBase_above (t : Nat) : 0x40000AC < xBase t := by
  unfold xBase
  omega

/-- The entry as a commit has written it. -/
theorem tableIs_put (a b c d e f : W64) : TableIs (commitDone 0x40000AC 0 (tablePut t [a, b, c, d, e, f] s)) t a b c d e f := by
  have hreg : ∀ x, x ≠ 0x40000AC → (commitDone 0x40000AC 0 (tablePut t [a, b, c, d, e, f] s)).reg x = (tablePut t [a, b, c, d, e, f] s).reg x :=
    (commitDone_sets _ _ _).2
  have habove := xBase_above t
  refine ⟨?_, ?_, ?_, ?_, ?_, ?_, ?_, ?_, fun e he => bne_iff_ne.1 (List.mem_filter.1 he).2⟩
  all_goals
    rw [hreg _ (by omega), tablePut_reg]
    simp

theorem tablePut_keeps (r : Nat) (a b c d e f : W64) : (commitDone 0x40000AC r (tablePut t [a, b, c, d, e, f] s)).mem = s.mem ∧
    (commitDone 0x40000AC r (tablePut t [a, b, c, d, e, f] s)).tabCommit = s.tabCommit ∧
    (commitDone 0x40000AC r (tablePut t [a, b, c, d, e, f] s)).busHeld = s.busHeld := by
  simp only [commitDone, tablePut, wordsClean, List.zip_cons_cons, List.zip_nil_right, List.foldl_cons, List.foldl_nil, State.setRegN_mem,
    State.setReg_mem, State.setRegN_tabCommit, State.setReg_tabCommit, State.setRegN_busHeld, State.setReg_busHeld, and_self]

/-- What a DELETE leaves of the entry: nothing. -/
theorem tableClear_reg {x : Nat} (h0 : xBase t ≤ x) (h1 : x < xBase t + 0x40) :
    (commitDone 0x40000AC 0 (tableClear t s)).reg x = regReset s.fuses x := by
  have habove := xBase_above t
  rw [(commitDone_sets _ _ _).2 x (by omega), State.reg]
  exact congrArg (fun o : Option W64 => o.getD (regReset s.fuses x)) (tabGet_outside ⟨h0, h1⟩)

/-! ## The end of the list's reading -/

/-- The expert list is read, and passes (LIST) or not. -/
theorem tableList_clean {n a : Nat} (hf : s.flaws = []) (hc : Clean s a (4 * n)) :
    ∃ bad u, tableList n a s = (bad, listAt s a n, u) ∧ Reading s u ∧ (bad = true ↔ ∃ cw ∈ listAt s a n, badCw s cw = true) := by
  obtain ⟨u, hu, hread⟩ := storeRead_reads .csq hf hc
  refine ⟨(listAt s a n).any (badCw u), u, ?_, hread, ?_⟩
  · unfold tableList
    rw [hu]
    rfl
  · rw [funext (reading_badCw hread), List.any_eq_true]

theorem counts_tableState (ht : t < 64) : counts (xBase t + 0x28) = false := by
  unfold xBase
  simp only [counts, Bool.or_eq_false_iff, Bool.and_eq_false_iff, decide_eq_false_iff_not]
  omega

/-- The end of a commit whose list has been read. -/
theorem tableCommitEnd_eq {u : State} {a b c d e f : W64} {bad : Bool} {cws : List Nat} (hc : s.tabCommit = some ⟨t, [a, b, c, d, e, f]⟩)
    (hon : coreOn s = true) (hwipe : s.wiping = false)
    (hlist : tableList (bits a.toNat 10 0) d.toNat { s with tabCommit := none } = (bad, cws, u)) :
    tableCommitEnd s = if bad then commitDone 0x40000AC 3 u
      else commitDone 0x40000AC 0 (tablePut t [a, b, c, d, e, f] { u with
        xswitches := tabSet u.xswitches t (cws.foldl (fun l cw => setAdd l (cwSw cw)) []) }) := by
  have hl : tableList (bits (([a, b, c, d, e, f] : List W64).getD 0 0).toNat 10 0) (([a, b, c, d, e, f] : List W64).getD 3 0).toNat
    { s with tabCommit := none } = (bad, cws, u) := hlist
  unfold tableCommitEnd
  rw [hc]
  dsimp only
  rw [if_neg (by simp [hon, hwipe]), hl]

theorem reading_table {u : State} (h : Reading s u) : u.mem = s.mem ∧ u.tabCommit = s.tabCommit ∧ u.busHeld = s.busHeld := by
  obtain ⟨_, _, _, _, rfl, -⟩ := h
  exact ⟨rfl, rfl, rfl⟩

end

/-- Settles O27, clause by clause: what a commit writes, and what the list that is read lets it write. -/
theorem expertTablesCommit : Obligations.ExpertTablesCommit := by
  unfold Obligations.ExpertTablesCommit
  intro s t a b c d e f r bad st hidle
  have hheld := held_of_idle hidle
  have hwrite : BusFree s 0x40000A8 → exec (.tableWrite t) s = .next (xcommit (BitVec.ofNat 64 t.val) s) := fun hb =>
    congrArg Host.Outcome.next (onBus_free hheld hb)
  have hdelete : BusFree s 0x40000A8 → exec (.tableDelete t) s = .next
      (if stepOpen s t.val then commitDone 0x40000AC 1 s else commitDone 0x40000AC 0 (tableClear t.val s)) := fun hb =>
    congrArg Host.Outcome.next ((onBus_free hheld hb).trans (xcommit_delete t.isLt))
  refine ⟨fun hb ho => ⟨⟨_, hwrite hb, ?_⟩, ⟨_, hdelete hb, ?_⟩⟩, fun hb ho hf => ⟨_, hwrite hb, ?_⟩, fun hb ho hf => ⟨_, hwrite hb, ?_⟩,
    fun hb ho => ⟨_, hdelete hb, ?_⟩, fun hc hb hwipe hf hclean => ?_⟩
  · rw [xcommit_write t.isLt, if_pos ho]
    exact commitDone_sets _ 1 s
  · rw [if_pos ho]
    exact commitDone_sets _ 1 s
  · rw [xcommit_write t.isLt, if_neg (by simp [ho])]
    have hbad : tableField s (s.regN 0x4000080) (s.regN 0x4000084) (s.regN 0x4000088) (s.regN 0x4000090) (s.regN 0x4000098)
      (s.regN 0x40000A0) = true := hf
    rw [if_pos hbad]
    exact commitDone_sets _ 2 s
  · rw [xcommit_write t.isLt, if_neg (by simp [ho])]
    have hbad : tableField s (s.regN 0x4000080) (s.regN 0x4000084) (s.regN 0x4000088) (s.regN 0x4000090) (s.regN 0x4000098)
      (s.regN 0x40000A0) = false := hf
    rw [hbad, if_neg Bool.false_ne_true]
    exact ⟨onlyReg_setReg _ _ _, rfl⟩
  · rw [if_neg (by simp [ho])]
    exact ⟨commitDone_reg _ 0 _, fun x h0 h1 => tableClear_reg h0 h1, fun e he => bne_iff_ne.1 (List.mem_filter.1 he).2, rfl⟩
  · obtain ⟨bad, u, hlist, hread, hbad⟩ := tableList_clean (s := { s with tabCommit := none }) (n := bits a.toNat 10 0) (a := d.toNat) hf hclean
    have hend := tableCommitEnd_eq hc hidle hwipe hlist
    obtain ⟨hsmem, hscommit, hsbus⟩ := reading_table hread
    refine ⟨fun hm => ?_, fun hm => ?_⟩
    · have hgood : bad = false := Bool.not_eq_true _ |>.mp fun h => by
        obtain ⟨cw, hcw, hcb⟩ := hbad.1 h
        exact Bool.false_ne_true ((hm cw hcw).symm.trans hcb)
      rw [hgood, if_neg Bool.false_ne_true] at hend
      obtain ⟨hmem, hcommit, hbus⟩ := tablePut_keeps (t := t.val) (s := { u with
        xswitches := tabSet u.xswitches t.val ((listAt { s with tabCommit := none } d.toNat (bits a.toNat 10 0)).foldl
          (fun l cw => setAdd l (cwSw cw)) []) }) 0 a b c d e f
      exact ⟨_, congrArg Host.Outcome.next ((congrArg busReplay hend).trans (busReplay_nil (hbus.trans (hsbus.trans hb)))),
        tableIs_put a b c d e f, commitDone_reg _ 0 _, hcommit.trans hscommit, hmem.trans hsmem⟩
    · rw [hbad.2 hm, if_pos rfl] at hend
      refine ⟨_, congrArg Host.Outcome.next ((congrArg busReplay hend).trans (busReplay_nil (hsbus.trans hb))), commitDone_reg _ 3 _, ?_,
        hscommit, hsmem⟩
      have habove := xBase_above t.val
      rw [(commitDone_sets _ _ _).2 _ (by omega)]
      exact reading_reg hread (counts_tableState t.isLt)

end Sys2Proof.Proofs
end

section
/-!
PROOFS. The host ports' own operations: which settings they read, frames sent, and codewords counted.
-/

namespace Sys2Proof.Proofs
open Sys2Proof Sys2Proof.Machine Sys2Proof.Claims

set_option Elab.async false

variable {s t u : State}

/-! ## What a host port reads of the chip -/

/-- The counters of received frames and codewords (R381), which no setting reads. -/
def hostCount (a : Nat) : Bool := a == 0x9000400 || a == 0x9000408 || (decide (0x9000420 ≤ a) && decide (a < 0x9000440))

/-- The settings by which a host port takes frames are those of `s`. -/
structure SameSettings (s t : State) : Prop where
  pins : t.pins = s.pins
  fuses : t.fuses = s.fuses
  regs : ∀ a, hostCount a = false → t.reg a = s.reg a

theorem SameSettings.refl (s : State) : SameSettings s s := ⟨rfl, rfl, fun _ _ => rfl⟩

theorem SameSettings.trans (h : SameSettings s t) (k : SameSettings t u) : SameSettings s u :=
  ⟨k.pins.trans h.pins, k.fuses.trans h.fuses, fun a ha => (k.regs a ha).trans (h.regs a ha)⟩

namespace SameSettings

theorem regN (h : SameSettings s t) {a : Nat} (ha : hostCount a = false) : t.regN a = s.regN a :=
  congrArg BitVec.toNat (h.regs a ha)

theorem field (h : SameSettings s t) {a : Nat} (ha : hostCount a = false) (hi lo : Nat) : t.field a hi lo = s.field a hi lo := by
  rw [State.field, State.field, h.regN ha]

theorem latched (h : SameSettings s t) : latched t = latched s := by
  rw [Machine.latched, Machine.latched, h.regN rfl]

theorem held (h : SameSettings s t) : held t = held s := by
  rw [Machine.held, Machine.held, h.latched, h.pins]

theorem bootState (h : SameSettings s t) : bootState t = bootState s := h.field rfl 3 0

theorem carrierLive (h : SameSettings s t) (c : Carrier) : carrierLive t c = carrierLive s c := by
  cases c <;> exact congrArg (bit · _) (h.regN rfl)

theorem hostMac (h : SameSettings s t) (n : Fin 2) : hostMac t n.val = hostMac s n.val := by
  have hn := n.isLt
  have ha : hostCount (0x9000020 + 8 * n.val) = false := by simp [hostCount]; omega
  rw [Machine.hostMac, Machine.hostMac, h.bootState, h.regN ha, h.fuses]

theorem linkLocalIp (h : SameSettings s t) (n : Fin 2) : linkLocalIp t n.val = linkLocalIp s n.val := by
  rw [Machine.linkLocalIp, Machine.linkLocalIp, h.hostMac]

theorem globalIp (h : SameSettings s t) (n : Fin 2) : globalIp t n.val = globalIp s n.val := by
  have hn := n.isLt
  have ha : hostCount (0x9000040 + 16 * n.val) = false := by simp [hostCount]; omega
  have hb : hostCount (0x9000048 + 16 * n.val) = false := by simp [hostCount]; omega
  rw [Machine.globalIp, Machine.globalIp, h.regN ha, h.regN hb]

theorem hostIp (h : SameSettings s t) (n : Fin 2) (ip : BitVec 128) : hostIp t n.val ip = hostIp s n.val ip := by
  rw [Machine.hostIp, Machine.hostIp, h.linkLocalIp, h.globalIp]

theorem macAccepts (h : SameSettings s t) (n : Fin 2) (mac : BitVec 48) : macAccepts t n.val mac = macAccepts s n.val mac := by
  rw [Machine.macAccepts, Machine.macAccepts, h.linkLocalIp, h.globalIp, h.hostMac]

theorem carrierOn (h : SameSettings s t) (n : Fin 2) (m : YmpFrame) : carrierOn t n.val m = carrierOn s n.val m := by
  have hport : t.field 0x9000000 23 8 = s.field 0x9000000 23 8 := h.field rfl 23 8
  unfold Machine.carrierOn
  rw [h.macAccepts, h.carrierLive]
  cases m.via with
  | ether => rfl
  | udp a b p ip =>
    dsimp only
    rw [hport, h.hostIp]

/-- The fields of a state that settings do not cover may differ. -/
theorem of_hep (x : Hep) (s : State) : SameSettings s { s with hep := x } := ⟨rfl, rfl, fun _ _ => rfl⟩

end SameSettings

/-! ## One port set -/

theorem host_setHost_same {n : Nat} (h : n < s.hep.ports.length) (x : HostPort) : (s.setHost n x).host n = x := by
  simp [State.host, State.setHost, List.getD_eq_getElem?_getD, List.getElem?_set_self h]

theorem host_setHost_ne {n k : Nat} (h : n ≠ k) (x : HostPort) (s : State) : (s.setHost n x).host k = s.host k := by
  simp [State.host, State.setHost, List.getD_eq_getElem?_getD, List.getElem?_set_ne h]

theorem host_of_hep (h : t.hep = s.hep) (n : Nat) : t.host n = s.host n := by rw [State.host, State.host, h]

/-- A port set and read again, whether or not it is one of the two. -/
theorem host_setHost_keeps {α : Type} (g : HostPort → α) {n : Nat} {x : HostPort} (hx : g x = g (s.host n)) (k : Nat) :
    g ((s.setHost n x).host k) = g (s.host k) := by
  by_cases hk : n = k
  · subst hk
    by_cases hn : n < s.hep.ports.length
    · rw [host_setHost_same hn, hx]
    · rw [State.setHost, List.set_eq_of_length_le (Nat.le_of_not_lt hn)]
  · rw [host_setHost_ne hk]

/-- A frame handed to a port changes that port's output alone. -/
theorem hostSend_sends {n : Nat} (h : n < s.hep.ports.length) (o : HostOut) : Sends s (s.hostSend n o) n o := by
  have hn : (s.hostSend n o).host n = { s.host n with out := (s.host n).out ++ [o] } := host_setHost_same h _
  exact ⟨by rw [hn], by rw [hn], rfl, rfl, rfl, rfl⟩

/-! ## Codewords -/

theorem reg_countReg (s : State) (a b n : Nat) : (s.countReg a n).reg b = if b = a then satAdd64 (s.reg a) n else s.reg b := by
  unfold State.countReg
  by_cases hn : n = 0
  · subst hn
    rw [if_pos rfl]
    split
    · next h =>
      subst h
      have := (s.reg b).isLt
      apply BitVec.eq_of_toNat_eq
      rw [satAdd64, BitVec.toNat_ofNat]
      omega
    · rfl
  · rw [if_neg hn, reg_setReg]

theorem countReg_shape (s : State) (a n : Nat) : ∃ c, s.countReg a n = { s with csr := c } := by
  unfold State.countReg
  split
  · exact ⟨_, rfl⟩
  · exact ⟨_, rfl⟩

theorem hostCodewords_shape (n : Nat) (f : HostFec) (s : State) : ∃ c, hostCodewords n f s = { s with csr := c } := by
  unfold hostCodewords
  split
  · exact ⟨_, rfl⟩
  · obtain ⟨c, hc⟩ := countReg_shape s (0x9000420 + 8 * n) f.corr
    obtain ⟨d, hd⟩ := countReg_shape (s.countReg (0x9000420 + 8 * n) f.corr) (0x9000430 + 8 * n) f.uncorr
    exact ⟨d, by rw [hd, hc]⟩

theorem hostCodewords_hep (n : Nat) (f : HostFec) (s : State) : (hostCodewords n f s).hep = s.hep := by
  obtain ⟨c, hc⟩ := hostCodewords_shape n f s
  rw [hc]

theorem hostCodewords_mem (n : Nat) (f : HostFec) (s : State) : (hostCodewords n f s).mem = s.mem := by
  obtain ⟨c, hc⟩ := hostCodewords_shape n f s
  rw [hc]

theorem hostCodewords_host (n k : Nat) (f : HostFec) (s : State) : (hostCodewords n f s).host k = s.host k :=
  host_of_hep (hostCodewords_hep n f s) k

theorem hostCodewords_counts {n : Nat} (f : HostFec) (hh : held s = false) (hl : (s.host n).link = true) :
    hostCodewords n f s = (s.countReg (0x9000420 + 8 * n) f.corr).countReg (0x9000430 + 8 * n) f.uncorr :=
  if_neg (by simp [hh, hl])

theorem reg_hostCodewords_ne {n a : Nat} (f : HostFec) (s : State) (h1 : a ≠ 0x9000420 + 8 * n) (h2 : a ≠ 0x9000430 + 8 * n) :
    (hostCodewords n f s).reg a = s.reg a := by
  unfold hostCodewords
  split
  · rfl
  · rw [reg_countReg, if_neg h2, reg_countReg, if_neg h1]

theorem hostCodewords_settings (n : Fin 2) (f : HostFec) (s : State) : SameSettings s (hostCodewords n.val f s) := by
  obtain ⟨c, hc⟩ := hostCodewords_shape n.val f s
  refine ⟨by rw [hc], by rw [hc], fun a ha => ?_⟩
  have hn := n.isLt
  simp only [hostCount, Bool.or_eq_false_iff, Bool.and_eq_false_iff, decide_eq_false_iff_not] at ha
  exact reg_hostCodewords_ne f s (by omega) (by omega)

/-! ## Events sent -/

/-- Events have gone out: frames stand in the ports' output, and the queue holds the same events, as sent. -/
structure EventsOut (s t : State) : Prop where
  shape : ∃ f ps l es, t = { s with fresh := f, hep := { s.hep with ports := ps, lostNow := l, events := es } }
  ports : ∀ n, ∃ os, t.host n = { s.host n with out := (s.host n).out ++ os }
  length : t.hep.ports.length = s.hep.ports.length
  eseqs : t.hep.events.map (fun e => e.eseq) = s.hep.events.map (fun e => e.eseq)

theorem EventsOut.refl (s : State) : EventsOut s s :=
  ⟨⟨_, _, _, _, rfl⟩, fun n => ⟨[], by rw [List.append_nil]⟩, rfl, rfl⟩

theorem EventsOut.trans (h : EventsOut s t) (k : EventsOut t u) : EventsOut s u := by
  obtain ⟨f, ps, l, es, rfl⟩ := h.shape
  obtain ⟨f', ps', l', es', rfl⟩ := k.shape
  refine ⟨⟨f', ps', l', es', rfl⟩, fun n => ?_, k.length.trans h.length, k.eseqs.trans h.eseqs⟩
  obtain ⟨os, ho⟩ := h.ports n
  obtain ⟨os', ho'⟩ := k.ports n
  exact ⟨os ++ os', by rw [ho', ho, List.append_assoc]⟩

/-- An event sent leaves one frame on its port; the queue keeps its numbers. -/
theorem sendEvent_out (s : State) (p : Nat) (d : HostDest) (e : Event) : EventsOut s (sendEvent s p d e) := by
  unfold sendEvent
  extract_lets k e' bytes s1
  refine ⟨⟨_, _, _, _, rfl⟩, fun n => ?_, List.length_set, ?_⟩
  · change ∃ os, (s.setHost p _).host n = _
    by_cases hp : p = n
    · subst hp
      by_cases hlen : p < s.hep.ports.length
      · exact ⟨_, host_setHost_same hlen _⟩
      · refine ⟨[], ?_⟩
        rw [List.append_nil, State.setHost, List.set_eq_of_length_le (Nat.le_of_not_lt hlen)]
    · exact ⟨[], by rw [host_setHost_ne hp, List.append_nil]⟩
  · change (s.hep.events.map _).map _ = _
    rw [List.map_map]
    refine List.map_congr_left fun x _ => ?_
    by_cases hx : x.eseq = e.eseq
    · simp only [Function.comp_apply, if_pos hx]
      exact hx.symm
    · simp only [Function.comp_apply, if_neg hx]

theorem sendEvent_length {p : Nat} (h : p < s.hep.ports.length) (d : HostDest) (e : Event) :
    ((sendEvent s p d e).host p).out.length = (s.host p).out.length + 1 := by
  have hp : (sendEvent s p d e).host p = (s.hostSend p _).host p := rfl
  rw [hp, State.hostSend, host_setHost_same h, List.length_append, List.length_singleton]

theorem sendAll_out (p : Nat) (d : HostDest) (es : List Event) (s : State) :
    EventsOut s (es.foldl (fun s e => sendEvent s p d e) s) :=
  foldl_invariant (P := fun t : State => EventsOut s t) (fun t e h => h.trans (sendEvent_out t p d e)) (EventsOut.refl s)

theorem sendEvents_out (s : State) (es : List Event) : EventsOut s (sendEvents s es) := by
  unfold sendEvents
  split
  · exact EventsOut.refl s
  · split
    · exact EventsOut.refl s
    · exact sendAll_out _ _ es s

theorem sendEvents_nil (s : State) : sendEvents s [] = s := by
  unfold sendEvents
  split
  · rfl
  · split <;> rfl

/-- Each event sent adds one frame to the port's output. -/
theorem sendAll_length {p : Nat} (d : HostDest) (es : List Event) (s : State) (h : p < s.hep.ports.length) :
    ((es.foldl (fun s e => sendEvent s p d e) s).host p).out.length = (s.host p).out.length + es.length := by
  induction es generalizing s with
  | nil => rfl
  | cons e es ih =>
    rw [List.foldl_cons, ih _ (by rw [(sendEvent_out s p d e).length]; exact h), sendEvent_length h, List.length_cons]
    omega

/-- What the settings of the ports' links and the sessions become: nothing but outputs and the queue moves. -/
theorem EventsOut.link (h : EventsOut s t) (n : Nat) : (t.host n).link = (s.host n).link := by
  obtain ⟨os, ho⟩ := h.ports n
  rw [ho]

theorem EventsOut.locked (h : EventsOut s t) (n : Nat) : (t.host n).locked = (s.host n).locked := by
  obtain ⟨os, ho⟩ := h.ports n
  rw [ho]

theorem EventsOut.csr (h : EventsOut s t) : t.csr = s.csr := by
  obtain ⟨f, ps, l, es, rfl⟩ := h.shape
  rfl

theorem EventsOut.sessions (h : EventsOut s t) : t.hep.sessions = s.hep.sessions := by
  obtain ⟨f, ps, l, es, rfl⟩ := h.shape
  rfl

end Sys2Proof.Proofs
end

section
/-!
PROOFS. The host ports' answers (O51).
-/

namespace Sys2Proof.Proofs
open Sys2Proof Sys2Proof.Machine Sys2Proof.Claims

set_option Elab.async false

variable {s : State} {n : Fin 2}

theorem host_index (hs : HostShape s) (n : Fin 2) : n.val < s.hep.ports.length := by
  rw [hs.1]
  exact n.isLt

/-! ## R347, R366: the interface selected -/

/-- R347: recovery mode keeps the built-in settings. -/
theorem hepConfig_recovery (hb : bootState s = 7) (v : Nat) : hepConfig v s = s := if_pos (by simp [hb])

/-- The two ports retrain as HEP_CFG says. -/
def retrained (v : Nat) (s : State) (n : Nat) : State :=
  s.setHost n { s.host n with fixed := true, aui := bit v (2 + n), link := false, locked := false }

theorem hepConfig_eq (h : held s = false) (hb : bootState s ≠ 7) (v : Nat) :
    hepConfig v s = retrained v (retrained v (s.setRegN 0x9000000 (v % 2 ^ 32 - bits v 7 6 * 2 ^ 6)) 0) 1 :=
  if_neg (by simp [h, hb])

theorem retrained_same {k : Nat} (hk : k < s.hep.ports.length) (v : Nat) : (retrained v s k).host k =
    { s.host k with fixed := true, aui := bit v (2 + k), link := false, locked := false } := host_setHost_same hk _

theorem retrained_ne {j k : Nat} (h : j ≠ k) (v : Nat) (s : State) : (retrained v s j).host k = s.host k := host_setHost_ne h _ s

/-- R366: what a port is after HEP_CFG was written. -/
theorem hepConfig_host (hs : HostShape s) (h : held s = false) (hb : bootState s ≠ 7) (v : Nat) (n : Fin 2) :
    (hepConfig v s).host n.val = { s.host n.val with fixed := true, aui := bit v (2 + n.val), link := false, locked := false } := by
  have h0 : 0 < s.hep.ports.length := host_index hs 0
  have h1 : 1 < s.hep.ports.length := host_index hs 1
  rw [hepConfig_eq h hb]
  obtain ⟨k, hk⟩ := n
  match k, hk with
  | 0, _ =>
    rw [retrained_ne (show (1 : Nat) ≠ 0 by decide)]
    exact retrained_same (s := s.setRegN 0x9000000 (v % 2 ^ 32 - bits v 7 6 * 2 ^ 6)) h0 v
  | 1, _ =>
    have hlen : 1 < (retrained v (s.setRegN 0x9000000 (v % 2 ^ 32 - bits v 7 6 * 2 ^ 6)) 0).hep.ports.length := by
      rw [retrained, State.setHost, List.length_set]
      exact h1
    rw [retrained_same hlen, retrained_ne (show (0 : Nat) ≠ 1 by decide)]
    rfl

/-- The value HEP_CFG keeps: the written one, its reserved bits 0. -/
theorem hepConfig_reg (h : held s = false) (hb : bootState s ≠ 7) (v : Nat) :
    (hepConfig v s).regN 0x9000000 = (v % 2 ^ 32 - bits v 7 6 * 2 ^ 6) % 2 ^ 64 := by
  rw [hepConfig_eq h hb]
  exact regN_setRegN_same s _ _

theorem hepConfig_fields (h : held s = false) (hb : bootState s ≠ 7) (v : W32) :
    (hepConfig v.toNat s).field 0x9000000 31 8 = v.toNat / 256 ∧ (hepConfig v.toNat s).field 0x9000000 5 0 = v.toNat % 64 := by
  have hv := v.isLt
  rw [State.field, State.field, hepConfig_reg h hb]
  simp only [bits]
  omega

/-! ## R366, R373: the link -/

theorem hostPcsLock_locks (hs : HostShape s) (h : held s = false) : ((hostPcsLock n.val s).host n.val).link = true ∧
    ((hostPcsLock n.val s).host n.val).locked = true ∧ (hostPcsLock n.val s).csr = s.csr ∧
      (hostPcsLock n.val s).hep.sessions = s.hep.sessions := by
  unfold hostPcsLock
  rw [if_neg (by simp [h])]
  extract_lets _ t
  have ht : t.host n.val = { s.host n.val with link := true, locked := true, fixed := true } := host_setHost_same (host_index hs n) _
  have hout := sendEvents_out t (unsentEvents t)
  exact ⟨by rw [hout.link, ht], by rw [hout.locked, ht], hout.csr, hout.sessions⟩

theorem hostLinkLoss_drops (hs : HostShape s) (h : held s = false) : ((hostLinkLoss n.val s).host n.val).link = false ∧
    ((hostLinkLoss n.val s).host n.val).locked = false ∧ (hostLinkLoss n.val s).csr = s.csr ∧
      (hostLinkLoss n.val s).hep.sessions = s.hep.sessions := by
  unfold hostLinkLoss
  rw [if_neg (by simp [h])]
  extract_lets _ t
  have ht : t.host n.val = { s.host n.val with link := false, locked := false } := host_setHost_same (host_index hs n) _
  have hout := sendEvents_out t (unsentEvents t)
  exact ⟨by rw [hout.link, ht], by rw [hout.locked, ht], hout.csr, hout.sessions⟩

theorem auiTryTimeout_tries (hs : HostShape s) (h : held s = false) (hl : (s.host n.val).locked = false)
    (hf : (s.host n.val).fixed = false) :
    (auiTryTimeout n.val s).host n.val = { s.host n.val with aui := !(s.host n.val).aui } ∧ (auiTryTimeout n.val s).csr = s.csr := by
  have he : auiTryTimeout n.val s = s.setHost n.val { s.host n.val with aui := !(s.host n.val).aui } := if_neg (by simp [h, hl, hf])
  rw [he]
  exact ⟨host_setHost_same (host_index hs n) _, rfl⟩

theorem auiTryTimeout_settled (h : (s.host n.val).locked = true ∨ (s.host n.val).fixed = true) : auiTryTimeout n.val s = s :=
  if_pos (by simpa [or_assoc] using Or.inr h)

/-! ## R363 to R365: frames taken -/

/-- Counting a frame's codewords does not change whether it is taken. -/
theorem frameTaken_counted (s : State) (n : Fin 2) (eth : EthHeader) : frameTaken n.val eth (hostCodewords n.val eth.fec s) =
    (!held s && (s.host n.val).link && macAccepts s n.val eth.dst) := by
  have hset := hostCodewords_settings n eth.fec s
  rw [frameTaken, hset.held, hset.macAccepts, hostCodewords_host]

theorem frameTaken_accepts {eth : EthHeader} (h : held s = false) (hl : (s.host n.val).link = true)
    (hm : macAccepts s n.val eth.dst = true) : frameTaken n.val eth (hostCodewords n.val eth.fec s) = true := by
  rw [frameTaken_counted, h, hl, hm]
  rfl

theorem frameTaken_refuses {eth : EthHeader} (h : (s.host n.val).link = false ∨ macAccepts s n.val eth.dst = false) :
    frameTaken n.val eth (hostCodewords n.val eth.fec s) = false := by
  rw [frameTaken_counted]
  obtain hl | hm := h
  · rw [hl, Bool.and_false, Bool.false_and]
  · rw [hm, Bool.and_false]

/-- A frame sent to a port after its codewords were counted. -/
theorem counted_sends (hs : HostShape s) (eth : EthHeader) (o : HostOut) :
    Sends (hostCodewords n.val eth.fec s) ((hostCodewords n.val eth.fec s).hostSend n.val o) n.val o :=
  hostSend_sends (by rw [hostCodewords_hep]; exact host_index hs n) o

theorem neighborSolicitation_answers (hs : HostShape s) (h : held s = false) (hl : (s.host n.val).link = true) {eth : EthHeader}
    (hm : macAccepts s n.val eth.dst = true) {target : BitVec 128} (hip : hostIp s n.val target = true) (ip : BitVec 128) :
    Sends (hostCodewords n.val eth.fec s) (neighborSolicitation n.val eth ip target s) n.val
      (.neighborAdvert eth.src eth.vlan ip target (hostMac s n.val)) := by
  have hset := hostCodewords_settings n eth.fec s
  unfold neighborSolicitation
  dsimp only
  rw [if_pos (by rw [frameTaken_accepts h hl hm, hset.hostIp, hip]; rfl), hset.hostMac]
  exact counted_sends hs eth _

theorem echoRequest_answers (hs : HostShape s) (h : held s = false) (hl : (s.host n.val).link = true) {eth : EthHeader}
    (hm : macAccepts s n.val eth.dst = true) {target : BitVec 128} (hip : hostIp s n.val target = true) (ip : BitVec 128)
    {data : List Byte} (hlen : data.length ≤ 9000) :
    Sends (hostCodewords n.val eth.fec s) (echoRequest n.val eth ip target data s) n.val (.echoReply eth.src eth.vlan ip target data) := by
  have hfits : frameOverhead eth.vlan true + data.length ≤ 9216 := by
    unfold frameOverhead
    split <;> simp <;> omega
  have hset := hostCodewords_settings n eth.fec s
  unfold echoRequest
  dsimp only
  rw [if_pos (by rw [frameTaken_accepts h hl hm, hset.hostIp, hip, decide_eq_true hfits]; rfl)]
  exact counted_sends hs eth _

/-- R363, R364: a frame for another address of the port, or of another port, is only counted. -/
theorem unanswered (s : State) (n : Fin 2) (eth : EthHeader) (ip target : BitVec 128) (data : List Byte)
    (h : hostIp s n.val target = false ∨ macAccepts s n.val eth.dst = false) :
    neighborSolicitation n.val eth ip target s = hostCodewords n.val eth.fec s ∧
      echoRequest n.val eth ip target data s = hostCodewords n.val eth.fec s := by
  have hno : (frameTaken n.val eth (hostCodewords n.val eth.fec s) && hostIp (hostCodewords n.val eth.fec s) n.val target) = false := by
    obtain hip | hm := h
    · rw [(hostCodewords_settings n eth.fec s).hostIp, hip, Bool.and_false]
    · rw [frameTaken_refuses (.inr hm), Bool.false_and]
  refine ⟨if_neg (by rw [hno]; decide), if_neg (by rw [hno]; exact Bool.false_ne_true)⟩

theorem echoRequest_long {eth : EthHeader} {data : List Byte} (h : 9216 < data.length) (ip target : BitVec 128) :
    echoRequest n.val eth ip target data s = hostCodewords n.val eth.fec s := by
  have hno : decide (frameOverhead eth.vlan true + data.length ≤ 9216) = false := decide_eq_false (by omega)
  exact if_neg (by rw [hno, Bool.and_false]; exact Bool.false_ne_true)

/-! ## R374: attestation -/

theorem attest_unavailable (h : bootState s = 7 ∨ latched s = true) : attest s = s :=
  if_pos (by
    obtain hb | hl := h
    · simp [hb]
    · simp [hl])

theorem attest_starts (h : held s = false) (hatt : s.hep.att = none) (hb : bootState s ≠ 7) (hl : latched s = false) :
    OnlyReg s (attest s) 0x9000224 4 ∧ (attest s).hep.att = some (attStatement s) := by
  have he : attest s = { s.setRegN 0x9000224 4 with hep := { s.hep with att := some (attStatement s) } } :=
    if_neg (by simp [h, hatt, hb, hl])
  rw [he]
  exact ⟨onlyReg_setReg s 0x9000224 4, rfl⟩

theorem attestationDone_signs (h : held s = false) {st : List Byte} (hatt : s.hep.att = some st) :
    (attestationDone s).reg 0x9000224 = 1 ∧ (attestationDone s).hep.att = none ∧ regBytes (attestationDone s) 0x9002000 1280 =
      (Config.falconSign s.fuses.seed (Config.shake256 st) s.fresh ++ List.replicate 1280 0).take 1280 := by
  let s1 : State := { s with hep := { s.hep with att := none }, fresh := s.fresh + 1 }
  let bs := (Config.falconSign s.fuses.seed (Config.shake256 st) s.fresh ++ List.replicate 1280 0).take 1280
  have he : attestationDone s = (setRegBytes 0x9002000 bs s1).setRegN 0x9000224 1 := by
    unfold attestationDone
    rw [hatt]
    exact if_neg (by simp [h])
  have hlen : bs.length = 1280 := by
    rw [List.length_take, List.length_append, List.length_replicate]
    omega
  have hbytes : regBytes (setRegBytes 0x9002000 bs s1) 0x9002000 1280 = bs := by
    have hset := regBytes_setRegBytes 0x9002000 bs s1
    rwa [hlen] at hset
  have hhep : (setRegBytes 0x9002000 bs s1).hep = s1.hep := by
    unfold setRegBytes
    refine foldl_invariant (P := fun u : State => u.hep = s1.hep) ?_ rfl
    exact fun u i hu => hu
  rw [he]
  generalize setRegBytes 0x9002000 bs s1 = t at hbytes hhep ⊢
  refine ⟨(reg_setRegN t _ _ _).trans (if_pos rfl), congrArg Hep.att hhep, ?_⟩
  refine Eq.trans ?_ hbytes
  unfold regBytes
  congr 1
  refine congrArg List.flatten (List.map_congr_left fun i hi => ?_)
  rw [regN_setRegN, if_neg (by omega)]

/-! ## R379, R380 -/

theorem length_partition {α : Type} (p : α → Bool) (l : List α) :
    (l.filter p ++ l.filter (fun x => !p x)).length = l.length := by
  induction l with
  | nil => rfl
  | cons x l ih =>
    rw [List.length_append] at ih ⊢
    cases h : p x <;> simp [h] <;> omega

theorem eventRetry_sends (hs : HostShape s) (h : held s = false) {p : Nat} {d : HostDest} (hp : eventPort s = some p) (hp2 : p < 2)
    (hd : eventDest s p = some d) : ((eventRetry s).host p).out.length = (s.host p).out.length + s.hep.events.length ∧
      (eventRetry s).csr = s.csr ∧ (eventRetry s).hep.events.map (fun e => e.eseq) = s.hep.events.map (fun e => e.eseq) := by
  have hall := length_partition (fun x : Event => x.cls == 1) s.hep.events
  have he : eventRetry s = sendEvents s (s.hep.events.filter (fun x => x.cls == 1) ++ s.hep.events.filter (fun x => x.cls != 1)) :=
    if_neg (by simp [h])
  rw [he]
  have hout := sendEvents_out s (s.hep.events.filter (fun x => x.cls == 1) ++ s.hep.events.filter (fun x => x.cls != 1))
  refine ⟨?_, hout.csr, hout.eseqs⟩
  unfold sendEvents
  rw [hp]
  dsimp only
  rw [hd]
  dsimp only
  rw [sendAll_length d _ s (by rw [hs.1]; exact hp2)]
  exact congrArg _ hall

/-- Settles O51. -/
theorem hostPortsAnswer : Obligations.HostPortsAnswer := by
  unfold Obligations.HostPortsAnswer
  intro s n v mac dest vlan ip target data st t1 t2 t3 t4 p d fec h eth r hs hh
  have hv : ∀ k : Nat, bit v.toNat k = v.getLsbD k := fun k => by
    rw [bit, BitVec.getLsbD, Nat.testBit_eq_decide_div_mod_eq]
  refine ⟨fun hb => ⟨next_congr (hepConfig_recovery hb _), next_congr (attest_unavailable (.inl hb)), congrArg _ (if_pos hb)⟩,
    fun hl => next_congr (attest_unavailable (.inr hl)), fun hl a ha1 ha2 _ => ?_, fun hb => ⟨_, rfl, ?_⟩,
    fun hl hf => ⟨_, rfl, auiTryTimeout_tries hs hh hl hf⟩, fun hl => next_congr (auiTryTimeout_settled hl),
    ⟨_, rfl, hostPcsLock_locks hs hh⟩, ⟨_, rfl, hostLinkLoss_drops hs hh⟩,
    fun hl hm hip => ⟨_, rfl, neighborSolicitation_answers (eth := eth) hs hh hl hm hip ip⟩,
    fun hl hm hip hlen => ⟨_, rfl, echoRequest_answers (eth := eth) hs hh hl hm hip ip hlen⟩,
    fun hno => ⟨next_congr (unanswered s n eth ip target data hno).1, next_congr (unanswered s n eth ip target data hno).2⟩,
    fun hlen => next_congr (echoRequest_long hlen ip target),
    fun hatt hb hl => ⟨_, rfl, attest_starts hh hatt hb hl⟩, fun hatt => ⟨attestationDone s, Config.falconSign s.fuses.seed (Config.shake256 st) s.fresh, rfl, ?_⟩,
    fun hp hp2 hd => ⟨_, rfl, eventRetry_sends hs hh hp hp2 hd⟩, fun hl hm => next_congr (if_pos (frameTaken_accepts (eth := eth) hh hl hm)),
    fun hl => next_congr (if_neg (by rw [hh, hl]; decide)), fun hl hm hp1 hp3 => ?_, fun hno => ?_⟩
  · have hn := n.isLt
    refine ⟨reg_hostCodewords_ne fec s ha1 ha2, ?_, ?_⟩
    · change (hostCodewords n.val fec s).reg _ = _
      rw [hostCodewords_counts fec hh hl, reg_countReg, if_neg (by omega), reg_countReg, if_pos rfl]
    · change (hostCodewords n.val fec s).reg _ = _
      rw [hostCodewords_counts fec hh hl, reg_countReg, if_pos rfl, reg_countReg, if_neg (by omega)]
  · have hhost := hepConfig_host hs hh hb v.toNat n
    obtain ⟨hhi, hlo⟩ := hepConfig_fields hh hb v
    refine ⟨hhi, hlo, by rw [hhost], by rw [hhost, hv], by rw [hhost], by rw [hhost], by rw [hhost]⟩
  · obtain ⟨hreg, hnone, hbytes⟩ := attestationDone_signs hh hatt
    exact ⟨hreg, hnone, rfl, hbytes⟩
  · have hhep : r.hep = s.hep := hostCodewords_hep n.val fec s
    have htaken : (frameTaken n.val eth r && r.hep.ptpT1.isSome && r.hep.ptpT3.isSome) = true := by
      rw [hhep, hp1, hp3, show frameTaken n.val eth r = true from frameTaken_accepts (eth := eth) hh hl hm]
      rfl
    obtain ⟨c, hc⟩ := hostCodewords_shape n.val fec s
    refine ⟨_, next_congr (if_pos htaken), ?_, rfl, rfl, rfl⟩
    change ((r.time7 : Int) + Config.ptpServo r.fresh).toNat = _
    rw [show r = { s with csr := c } from hc]
  · have hnot : frameTaken n.val eth r = false := frameTaken_refuses (eth := eth) hno
    refine ⟨next_congr (if_neg (by rw [hnot]; exact Bool.false_ne_true)), next_congr (if_neg ?_)⟩
    change ¬ (frameTaken n.val eth r && _ && _) = true
    rw [hnot]
    exact Bool.false_ne_true

end Sys2Proof.Proofs
end

section
/-!
PROOFS. The management protocol: what an answer, a refusal and a read leave, and which messages are performed.
-/

namespace Sys2Proof.Proofs
open Sys2Proof Sys2Proof.Machine Sys2Proof.Claims

set_option Elab.async false

variable {s t u : State}

/-! ## Answers -/

/-- Frames have been handed to the host ports; nothing but free values has gone besides. -/
structure Told (s t : State) : Prop where
  shape : ∃ f ps, t = { s with fresh := f, hep := { s.hep with ports := ps } }
  length : t.hep.ports.length = s.hep.ports.length

theorem Told.refl (s : State) : Told s s := ⟨⟨_, _, rfl⟩, rfl⟩

theorem Told.trans (h : Told s t) (k : Told t u) : Told s u := by
  obtain ⟨f, ps, rfl⟩ := h.shape
  obtain ⟨f', ps', rfl⟩ := k.shape
  exact ⟨⟨f', ps', rfl⟩, k.length.trans h.length⟩

theorem draw_told (s : State) : Told s s.draw := ⟨⟨_, _, rfl⟩, rfl⟩

/-- What is told leaves all but the ports and the free values. -/
theorem Told.leaves (h : Told s t) : t.csr = s.csr ∧ t.mem = s.mem ∧ t.hep.sessions = s.hep.sessions ∧
    t.hep.events = s.hep.events ∧ t.hep.bulk = s.hep.bulk := by
  obtain ⟨f, ps, rfl⟩ := h.shape
  exact ⟨rfl, rfl, rfl, rfl, rfl⟩

theorem ympAnswer_told (h typ status seq sess : Nat) (d : HostDest) (pay : List Byte) (key : Option (List Byte)) (s : State) :
    Told s (ympAnswer h typ status seq sess d pay key s) := by
  unfold ympAnswer
  split
  · exact Told.refl s
  · exact ⟨⟨_, _, rfl⟩, List.length_set⟩

theorem bulkRsp_told (h status seq sess : Nat) (d : HostDest) (xid : Nat) (first missing : Option Nat) (key : Option (List Byte))
    (s : State) : Told s (bulkRsp h status seq sess d xid first missing key s) :=
  ((ympAnswer_told _ _ _ _ _ _ _ _ s).trans (draw_told _)).trans (draw_told _)

theorem ympRefuse_told (h status : Nat) (m : YmpFrame) (key : Option (List Byte)) (s : State) :
    Told s (ympRefuse h status m key s) := by
  unfold ympRefuse
  dsimp only
  split
  · exact ympAnswer_told _ _ _ _ _ _ _ _ s
  · split
    · exact ympAnswer_told _ _ _ _ _ _ _ _ s
    · split
      · exact Told.refl s
      · exact bulkRsp_told _ _ _ _ _ _ _ _ _ s

/-- R367: on a port whose link is up, by a carrier that is enabled, an answer goes out. -/
theorem ympAnswer_sends {h : Nat} (hh : h < s.hep.ports.length) (hl : (s.host h).link = true) {d : HostDest}
    (hc : carrierLive s d.via = true) (typ status seq sess : Nat) (pay : List Byte) (key : Option (List Byte)) :
    ∃ ctr, (key = none → ctr = 0) ∧ Sends s (ympAnswer h typ status seq sess d pay key s) h
      (.ymp d (ympBytes typ status seq (if key.isSome then sess else 0) ctr pay key)) := by
  refine ⟨if key.isSome then (Config.firmwareWord s.fresh).toNat else 0, fun hk => by rw [hk]; rfl, ?_⟩
  unfold ympAnswer
  rw [if_neg (by simp [hl, hc])]
  exact hostSend_sends hh _

theorem sends_length {n : Nat} {o : HostOut} (h : Sends s t n o) : (t.host n).out.length = (s.host n).out.length + 1 := by
  rw [h.1, List.length_append, List.length_singleton]

/-- A BULK_RSP goes out as any answer. -/
theorem bulkRsp_length {h : Nat} (hh : h < s.hep.ports.length) (hl : (s.host h).link = true) {d : HostDest}
    (hc : carrierLive s d.via = true) (status seq sess xid : Nat) (first missing : Option Nat) (key : Option (List Byte)) :
    ((bulkRsp h status seq sess d xid first missing key s).host h).out.length = (s.host h).out.length + 1 := by
  obtain ⟨ctr, _, hs⟩ := ympAnswer_sends hh hl hc 0x0A status seq sess (bulkRspPay xid first missing s) key
  exact sends_length hs

/-! ## What a message's frame meets -/

/-- The settings, the sessions and the events are those that `s` held when the frame came. -/
theorem session_hostCodewords (n k : Nat) (f : HostFec) (s : State) : (hostCodewords n f s).session k = s.session k :=
  session_of_hep (hostCodewords_hep n f s) k

theorem ympAuthentic_of_hep (h : t.hep = s.hep) (m : YmpFrame) : ympAuthentic t m = ympAuthentic s m := by
  unfold ympAuthentic
  rw [session_of_hep h]

theorem answerKey_of_hep (h : t.hep = s.hep) (m : YmpFrame) : answerKey t m = answerKey s m := by
  unfold answerKey
  rw [session_of_hep h]

theorem ackRefused_of_hep (h : t.hep = s.hep) (m : YmpFrame) : ackRefused t m = ackRefused s m := by
  unfold ackRefused
  rw [h]

/-- A counter accepted leaves the session's key and state. -/
theorem answerKey_ctrAccept (m : YmpFrame) (s : State) : answerKey (ctrAccept m s) m = answerKey s m := by
  have hs : ∀ x : Session, x.st = (s.session (YmpFrame.sess m)).st → x.key = (s.session (YmpFrame.sess m)).key →
      answerKey (s.setSession (YmpFrame.sess m) x) m = answerKey s m := by
    intro x hst hkey
    by_cases hm : YmpFrame.sess m < s.hep.sessions.length
    · have hx : (s.setSession (YmpFrame.sess m) x).session (YmpFrame.sess m) = x := by
        simp [State.session, State.setSession, List.getD_eq_getElem?_getD, List.getElem?_set_self hm]
      unfold answerKey
      dsimp only
      rw [hx, hst, hkey]
    · rw [State.setSession, List.set_eq_of_length_le (Nat.le_of_not_lt hm)]
  exact hs _ rfl rfl

section frame
variable {h : Fin 2} {m : YmpFrame} {typ : Nat} {body : Option (List Byte) → State → State}

/-- A frame taken as a YMP message goes on to R368. -/
theorem ympIn_taken (hh : held s = false) (hl : (s.host h.val).link = true) (hc : carrierOn s h.val m = true) :
    (held (hostCodewords h.val m.fec s) || !((hostCodewords h.val m.fec s).host h.val).link ||
      !carrierOn (hostCodewords h.val m.fec s) h.val m) = false := by
  have hset := hostCodewords_settings h m.fec s
  rw [hset.held, hset.carrierOn, hostCodewords_host, hh, hl, hc]
  rfl

/-- R368: a frame that is no request is counted. -/
theorem ympIn_dropped (hh : held s = false) (hl : (s.host h.val).link = true) (hc : carrierOn s h.val m = true)
    (hd : ympDropped m = true) : ympIn h.val typ m body s = (hostCodewords h.val m.fec s).countReg 0x9000400 1 := by
  unfold ympIn
  dsimp only
  rw [ympIn_taken hh hl hc, if_neg Bool.false_ne_true, if_pos hd]

/-- R368: a request that reaches the port is malformed, and refused. -/
theorem ympIn_malformed (hr : Reaches s h m typ) (hm : ympMalformed m = true) : ympIn h.val typ m body s =
    ympRefuse h.val yMalformed m (answerKey s m) (hostCodewords h.val m.fec s) := by
  obtain ⟨hh, hl, hc, hd, ht⟩ := hr
  unfold ympIn
  dsimp only
  rw [ympIn_taken hh hl hc, if_neg Bool.false_ne_true, if_neg (by rw [hd]; exact Bool.false_ne_true), if_neg (not_not_intro ht),
    if_pos hm, answerKey_of_hep (hostCodewords_hep _ _ _)]

/-- R371: a request falsely signed is refused, and counted. -/
theorem ympIn_unauthentic (hr : Reaches s h m typ) (hm : ympMalformed m = false) (ha : YmpFrame.auth m = true)
    (hf : ympAuthentic s m = false) : ympIn h.val typ m body s =
      ympRefuse h.val yAuth m none ((hostCodewords h.val m.fec s).countReg 0x9000408 1) := by
  obtain ⟨hh, hl, hc, hd, ht⟩ := hr
  unfold ympIn
  dsimp only
  rw [ympIn_taken hh hl hc, if_neg Bool.false_ne_true, if_neg (by rw [hd]; exact Bool.false_ne_true), if_neg (not_not_intro ht),
    if_neg (by rw [hm]; exact Bool.false_ne_true), ympAuthentic_of_hep (hostCodewords_hep _ _ _), ha, hf]
  rfl

/-- R371: a request well formed and, where signed, rightly signed comes to R372. -/
theorem ympIn_authentic (hr : Reaches s h m typ) (hm : ympMalformed m = false)
    (ha : YmpFrame.auth m = true → ympAuthentic s m = true) : ympIn h.val typ m body s =
      if ackRefused s m && YmpFrame.len m == 8 then (hostCodewords h.val m.fec s).countReg 0x9000408 1
      else body (answerKey s m) (acceptedFrom h.val m
        (if YmpFrame.auth m then ctrAccept m (hostCodewords h.val m.fec s) else hostCodewords h.val m.fec s)) := by
  obtain ⟨hh, hl, hc, hd, ht⟩ := hr
  have hauth : (YmpFrame.auth m && !ympAuthentic s m) = false := by
    cases hb : YmpFrame.auth m
    · rfl
    · rw [ha hb]
      rfl
  have hkey : answerKey (if YmpFrame.auth m then ctrAccept m (hostCodewords h.val m.fec s) else hostCodewords h.val m.fec s) m =
      answerKey s m := by
    rw [← answerKey_of_hep (hostCodewords_hep h.val m.fec s) m]
    split
    · exact answerKey_ctrAccept m _
    · rfl
  unfold ympIn
  dsimp only
  rw [ympIn_taken hh hl hc, if_neg Bool.false_ne_true, if_neg (by rw [hd]; exact Bool.false_ne_true), if_neg (not_not_intro ht),
    if_neg (by rw [hm]; exact Bool.false_ne_true), ympAuthentic_of_hep (hostCodewords_hep _ _ _), hauth, if_neg Bool.false_ne_true,
    ackRefused_of_hep (hostCodewords_hep _ _ _), hkey]

/-- R379: with no event unsent, an accepted request leaves its sender as the events' destination. -/
theorem acceptedFrom_quiet (hu : unsentEvents s = []) (h : Nat) (m : YmpFrame) : acceptedFrom h m s =
    if requestRefused h m s then s else s.setHost h { s.host h with lastReq := some (YmpFrame.dest m) } := by
  unfold acceptedFrom
  dsimp only
  rw [show unsentEvents (s.setHost h { s.host h with lastReq := some (YmpFrame.dest m) }) = unsentEvents s from rfl, hu,
    sendEvents_nil]

/-- The state a request is performed in differs from `s` in registers and in the host block alone. -/
theorem accepted_shape (s : State) (h : Nat) (m : YmpFrame) : ∃ c ps ss, accepted s h m =
    { s with csr := c, hep := { s.hep with ports := ps, sessions := ss } } := by
  obtain ⟨c, hc⟩ := hostCodewords_shape h m.fec s
  unfold accepted
  dsimp only
  rw [hc]
  split <;> split <;> exact ⟨_, _, _, rfl⟩

/-- The registers are those after the frame's codewords were counted. -/
theorem accepted_csr (s : State) (h : Nat) (m : YmpFrame) : (accepted s h m).csr = (hostCodewords h m.fec s).csr := by
  unfold accepted
  dsimp only
  split <;> split <;> rfl

theorem accepted_ports (s : State) (h : Nat) (m : YmpFrame) : (accepted s h m).hep.ports.length = s.hep.ports.length := by
  rw [← hostCodewords_hep h m.fec s]
  unfold accepted
  dsimp only
  split <;> split
  · rfl
  · exact List.length_set
  · rfl
  · exact List.length_set

/-- Each port keeps all but the sender of its last request. -/
theorem accepted_host {α : Type} (g : HostPort → α) (hg : ∀ x d, g { x with lastReq := d } = g x) (s : State) (h : Nat)
    (m : YmpFrame) (k : Nat) : g ((accepted s h m).host k) = g (s.host k) := by
  rw [← hostCodewords_host h k m.fec s]
  unfold accepted
  dsimp only
  split <;> split
  · rfl
  · exact host_setHost_keeps g (hg _ _) k
  · rfl
  · exact host_setHost_keeps g (hg _ _) k

theorem accepted_settings (s : State) (h : Fin 2) (m : YmpFrame) : SameSettings s (accepted s h.val m) := by
  obtain ⟨c, ps, ss, hc⟩ := accepted_shape s h.val m
  have hset := hostCodewords_settings h m.fec s
  refine ⟨by rw [hc], by rw [hc], fun a ha => ?_⟩
  rw [← hset.regs a ha]
  have hf : (accepted s h.val m).fuses = (hostCodewords h.val m.fec s).fuses := by rw [hset.fuses, hc]
  rw [State.reg, State.reg, accepted_csr, hf]

/-- A request that nothing refuses is performed, with the key of its answer. -/
theorem ympIn_accepted {key : Option (List Byte)} {v : State} (ha : Accepted s h m typ key v)
    (hack : ackRefused s m = false) : ympIn h.val typ m body s = body key v := by
  obtain ⟨hr, hm, hauth, hu, rfl, rfl⟩ := ha
  rw [ympIn_authentic hr hm hauth, hack, Bool.false_and, if_neg Bool.false_ne_true]
  refine congrArg (body _) ?_
  have hq : unsentEvents (if YmpFrame.auth m then ctrAccept m (hostCodewords h.val m.fec s) else hostCodewords h.val m.fec s) = [] := by
    rw [← hu]
    have he : ∀ t : State, t.hep.events = s.hep.events → unsentEvents t = unsentEvents s := fun t ht => by
      rw [unsentEvents, unsentEvents, ht]
    split
    · refine he _ (Eq.trans ?_ (congrArg Hep.events (hostCodewords_hep h.val m.fec s)))
      rfl
    · exact he _ (congrArg Hep.events (hostCodewords_hep h.val m.fec s))
  rw [acceptedFrom_quiet hq]
  rfl

theorem ackRefused_of_typ {k : Nat} (ht : YmpFrame.typ m = k) (hk : k ≠ 6) : ackRefused s m = false := by
  rw [ackRefused, ht, beq_false_of_ne hk]
  rfl

end frame

/-! ## Reads on the bus -/

/-- A read that meets errors leaves the host block and HEP_CFG. -/
def ReadsBeside (s t : State) : Prop := t.hep = s.hep ∧ t.reg 0x9000000 = s.reg 0x9000000

theorem ReadsBeside.trans (h : ReadsBeside s t) (k : ReadsBeside t u) : ReadsBeside s u := ⟨k.1.trans h.1, k.2.trans h.2⟩

theorem memScan_readsBeside (b : Blk) (sel : GMem → Bool) (s : State) : ReadsBeside s (memScan b sel s).2.2 := by
  refine ⟨?_, (memScan_beside (Beside.refl s)).regs _ (by decide)⟩
  obtain ⟨_, _, _, _, _, _, _, _, _, ht, _⟩ := memScan_only b sel s
  rw [ht]

theorem ReadsBeside.refl (s : State) : ReadsBeside s s := ⟨rfl, rfl⟩

theorem foldl_readsBeside {α : Type} {f : State → α → State} {l : List α} {t : State}
    (hf : ∀ u, ∀ x ∈ l, ReadsBeside s u → ReadsBeside s (f u x)) (h : ReadsBeside s t) : ReadsBeside s (l.foldl f t) := by
  induction l generalizing t with
  | nil => exact h
  | cons x l ih => exact ih (fun u y hy => hf u y (List.mem_cons_of_mem x hy)) (hf t x List.mem_cons_self h)

/-- The words of a table are below the host block. -/
theorem wordsXor_readsBeside {a : Nat} (ha : a + 16 ≤ 0x9000000) (m : BitVec 128) (h : ReadsBeside s t) :
    ReadsBeside s (wordsXor a m t) := by
  refine foldl_readsBeside (fun u i hi hu => ?_) h
  have hlt : i < 16 := by fin_cases hi <;> decide
  split
  · split
    · exact hu.trans ⟨rfl, (reg_setReg _ _ _ _).trans (if_neg (by omega))⟩
    · exact hu
  · exact hu

theorem tableRead_readsBeside (b : Blk) {a n : Nat} (ha : a + n + 16 ≤ 0x9000000) (s : State) :
    ReadsBeside s (tableRead b a n s).2 := by
  unfold tableRead
  refine foldl_readsBeside (fun u e he hu => ?_) (memScan_readsBeside b _ s)
  split
  · next x hx =>
    have hsel := memScan_wrong he
    simp only [hx, Bool.and_eq_true, decide_eq_true_eq] at hsel
    exact wordsXor_readsBeside (by omega) _ hu
  · exact hu

theorem pmemRead_readsBeside {e i : Nat} (he : e < 64) (hi : i < 0x6000) (s : State) : ReadsBeside s (pmemRead e i s).2 := by
  unfold pmemRead
  refine foldl_readsBeside (fun u x _ hu => ?_) (memScan_readsBeside _ _ s)
  exact wordsXor_readsBeside (by rw [jBase]; omega) _ hu

theorem msRead_readsBeside (m : Nat) (s : State) : ReadsBeside s (msRead m s).2 := by
  unfold msRead
  exact foldl_readsBeside (fun u x _ hu => hu.trans ⟨rfl, rfl⟩) (memScan_readsBeside _ _ s)

theorem wordRead_readsBeside (a : Nat) (s : State) : ReadsBeside s (wordRead a s).2 := by
  unfold wordRead
  split
  · exact tableRead_readsBeside _ (by omega) s
  · split
    · exact tableRead_readsBeside _ (by omega) s
    · split
      · exact tableRead_readsBeside _ (by omega) s
      · split
        · exact tableRead_readsBeside _ (by omega) s
        · split
          · exact pmemRead_readsBeside (by omega) (by omega) s
          · split
            · exact msRead_readsBeside _ s
            · exact .refl s

theorem ympReads_readsBeside (w : Nat) (l : List Nat) (s : State) : ReadsBeside s (ympReads w l s).2.2 := by
  induction l generalizing s with
  | nil => exact .refl s
  | cons a l ih =>
    have hword := wordRead_readsBeside a s
    unfold ympReads
    split
    · exact .refl s
    · split
      · exact .refl s
      · revert hword
        generalize wordRead a s = z
        obtain ⟨bad, t⟩ := z
        intro hword
        cases bad
        · exact ReadsBeside.trans hword (ih t)
        · exact hword

/-- What a port and its carrier are for an answer. -/
theorem ReadsBeside.carrierLive (h : ReadsBeside s t) (c : Carrier) : carrierLive t c = carrierLive s c := by
  have hreg : t.regN 0x9000000 = s.regN 0x9000000 := congrArg BitVec.toNat h.2
  cases c <;> exact congrArg (bit · _) hreg

end Sys2Proof.Proofs
end

section
/-!
PROOFS. Management messages (O52).
-/

namespace Sys2Proof.Proofs
open Sys2Proof Sys2Proof.Machine Sys2Proof.Claims

set_option Elab.async false

variable {s : State} {h : Fin 2} {m : YmpFrame} {typ : Nat} {key : Option (List Byte)} {v : State}

/-- A command of a message runs `ympIn` at its type. -/
theorem ympCmd_runs {c : Instr} (hc : ympCmd typ h m = some c) (s : State) :
    typ ∈ [1, 3, 6, 7, 8] ∧ ∃ body, exec c s = .next (ympIn h.val typ m body s) := by
  unfold ympCmd at hc
  split at hc
  · next ht =>
    subst ht
    cases hc
    exact ⟨by decide, _, rfl⟩
  · split at hc
    · next ht =>
      subst ht
      cases hc
      exact ⟨by decide, _, rfl⟩
    · split at hc
      · next ht =>
        subst ht
        cases hc
        exact ⟨by decide, _, rfl⟩
      · split at hc
        · next ht =>
          subst ht
          cases hc
          exact ⟨by decide, _, rfl⟩
        · split at hc
          · next ht =>
            subst ht
            cases hc
            exact ⟨by decide, _, rfl⟩
          · cases hc

/-- One more frame counted after the frame's own codewords. -/
theorem counted_onlyReg {a : Nat} (ha : a < 0x9000420) (s : State) (h : Fin 2) (m : YmpFrame) :
    OnlyReg (hostCodewords h.val m.fec s) ((hostCodewords h.val m.fec s).countReg a 1) a (satAdd64 (s.reg a) 1) := by
  have hreg : (hostCodewords h.val m.fec s).reg a = s.reg a := reg_hostCodewords_ne m.fec s (by omega) (by omega)
  rw [← hreg]
  exact onlyReg_setReg _ a _

theorem countReg_hep (s : State) (a n : Nat) : (s.countReg a n).hep = s.hep := by
  obtain ⟨c, hc⟩ := countReg_shape s a n
  rw [hc]

theorem countReg_mem (s : State) (a n : Nat) : (s.countReg a n).mem = s.mem := by
  obtain ⟨c, hc⟩ := countReg_shape s a n
  rw [hc]

/-! ## What an accepted request's port is -/

theorem accepted_link (ha : Accepted s h m typ key v) : (v.host h.val).link = true := by
  obtain ⟨⟨_, hl, _⟩, _, _, _, rfl, _⟩ := ha
  rw [← hl]
  exact accepted_host HostPort.link (fun _ _ => rfl) s h.val m h.val

theorem carrierLive_of_carrierOn {n : Nat} (hc : carrierOn s n m = true) : carrierLive s m.via = true := by
  unfold carrierOn at hc
  rw [Bool.and_eq_true, Bool.and_eq_true] at hc
  exact hc.1.2

theorem accepted_carrier (ha : Accepted s h m typ key v) : carrierLive v (YmpFrame.dest m).via = true := by
  obtain ⟨⟨_, _, hc, _⟩, _, _, _, rfl, _⟩ := ha
  rw [(accepted_settings s h m).carrierLive]
  exact carrierLive_of_carrierOn hc

theorem accepted_index (hs : HostShape s) (ha : Accepted s h m typ key v) : h.val < v.hep.ports.length := by
  obtain ⟨_, _, _, _, rfl, _⟩ := ha
  rw [accepted_ports]
  exact host_index hs h

/-! ## READ -/

theorem ympReadBody_eq (hm : rwMalformed m = false) (hw : ympWaiting v = false) (n : Nat) :
    ympReadBody n m key v =
      (if (ympReads (rwWidth m) ((List.range (rwCount m)).map (rwAt m)) v).2.1 = yHeld then
        { (ympReads (rwWidth m) ((List.range (rwCount m)).map (rwAt m)) v).2.2 with
          busHeld := (ympReads (rwWidth m) ((List.range (rwCount m)).map (rwAt m)) v).2.2.busHeld ++
            [.ymp n m key (ympReads (rwWidth m) ((List.range (rwCount m)).map (rwAt m)) v).1.length
              (ympReads (rwWidth m) ((List.range (rwCount m)).map (rwAt m)) v).1] }
      else ympAnswer n 2 (ympReads (rwWidth m) ((List.range (rwCount m)).map (rwAt m)) v).2.1 (YmpFrame.seq m) (YmpFrame.sess m)
        (YmpFrame.dest m) ((ympReads (rwWidth m) ((List.range (rwCount m)).map (rwAt m)) v).1.flatMap (fun v => leBytes (rwWidth m) v.toNat) ++
          List.replicate ((rwCount m - (ympReads (rwWidth m) ((List.range (rwCount m)).map (rwAt m)) v).1.length) * rwWidth m) 0) key
        (ympReads (rwWidth m) ((List.range (rwCount m)).map (rwAt m)) v).2.2) := by
  have hl : (List.range (rwCount m - 0)).map (fun i => rwAt m (0 + i)) = (List.range (rwCount m)).map (rwAt m) := by simp
  unfold ympReadBody ympReadGo
  rw [if_neg (by rw [hm]; exact Bool.false_ne_true), hw, hl]
  rfl

theorem ympReads_value (hfree : ympHold s (a : Nat) false = false) {w : Nat} (hr : busRead s a w ≠ none) (hs : Whole s)
    (rest : List Nat) : ympReads w (a :: rest) s =
      (readReg s a :: (ympReads w rest s).1, (ympReads w rest s).2.1, (ympReads w rest s).2.2) := by
  rw [ympReads, hfree, if_neg Bool.false_ne_true, if_neg hr, wordRead_clean a hs]
  rfl

theorem ympReads_poison (hfree : ympHold s (a : Nat) false = false) {w : Nat} (hr : busRead s a w ≠ none)
    (hp : (wordRead a s).1 = true) (rest : List Nat) : ympReads w (a :: rest) s = ([], yPoison, (wordRead a s).2) := by
  rw [ympReads, hfree, if_neg Bool.false_ne_true, if_neg hr]
  revert hp
  generalize wordRead a s = z
  obtain ⟨bad, t⟩ := z
  intro hp
  cases hp
  rfl

/-! ## WRITE -/

theorem ympWriteBody_eq (hm : rwMalformed m = false) (hw : ympWaiting v = false) (n : Nat) {status done : Nat} {t : State}
    (hr : ympWrites (rwWidth m) (YmpFrame.auth m) (rwWrites m) v = (status, done, t)) (hst : status ≠ yHeld) :
    ympWriteBody n m key v =
      ympAnswer n 4 status (YmpFrame.seq m) (YmpFrame.sess m) (YmpFrame.dest m) (leBytes 8 done) key t := by
  unfold ympWriteBody ympWriteGo
  rw [if_neg (by rw [hm]; exact Bool.false_ne_true), hw, List.drop_zero, hr]
  refine (if_neg hst).trans ?_
  rw [Nat.zero_add]

/-- R23, R330: whether a WRITE's access is held. -/
theorem ympHold_eq (s : State) (a : Nat) (wr : Bool) : ympHold s a wr = (!latched s && mustHold s a wr) := rfl

/-! ## EVENT_ACK -/

/-- R372: an EVENT_ACK that is signed, or that covers no tagged event, is not refused. -/
theorem ackRefused_of_open (h : YmpFrame.auth m = true ∨ ∀ e ∈ s.hep.events, e.tagged = false) : ackRefused s m = false := by
  unfold ackRefused
  obtain ha | ht := h
  · rw [ha, Bool.not_true, Bool.and_false, Bool.false_and]
  · have hany : s.hep.events.any (fun x => decide (x.eseq ≤ YmpFrame.n m 24 8) && x.tagged) = false := by
      rw [List.any_eq_false]
      intro e he
      rw [ht e he, Bool.and_false]
      exact Bool.false_ne_true
    rw [hany, Bool.and_false]

theorem ackRefused_of_tagged (ht : YmpFrame.typ m = 6) (ha : YmpFrame.auth m = false)
    (h : ∃ e ∈ s.hep.events, e.eseq ≤ YmpFrame.n m 24 8 ∧ e.tagged = true) : ackRefused s m = true := by
  obtain ⟨e, he, hle, htag⟩ := h
  have hany : s.hep.events.any (fun x => decide (x.eseq ≤ YmpFrame.n m 24 8) && x.tagged) = true :=
    List.any_eq_true.2 ⟨e, he, by rw [htag, decide_eq_true hle]; rfl⟩
  rw [ackRefused, ht, ha, hany]
  rfl

/-- Settles O52. -/
theorem managementMessagesAreAnswered : Obligations.ManagementMessagesAreAnswered := by
  unfold Obligations.ManagementMessagesAreAnswered
  intro s h m typ c v t key vs status done ws r hs
  refine ⟨fun hc hh hl hon hd => ?_, fun hc hr hm => ?_, fun hc hr hm ha hf => ?_, fun ha hm hrd hw hst => ?_,
    fun ha hm hrd hw => ?_, fun w a rest hfree => ?_, fun ha hm hw hst hwr => ?_, fun w auth a x rest => ?_,
    fun ha hlen hopen => ?_, fun hr hm hlen ha htag => ?_⟩
  · obtain ⟨_, body, hexec⟩ := ympCmd_runs hc s
    refine ⟨_, hexec, ?_⟩
    rw [ympIn_dropped hh hl hon hd]
    exact ⟨counted_onlyReg (by decide) s h m, (countReg_hep _ _ _).trans (hostCodewords_hep _ _ _),
      (countReg_mem _ _ _).trans (hostCodewords_mem _ _ _)⟩
  · obtain ⟨_, body, hexec⟩ := ympCmd_runs hc s
    refine ⟨_, hexec, ?_⟩
    rw [ympIn_malformed hr hm]
    obtain ⟨hcsr, hmem, hsess, hev, hbulk⟩ := (ympRefuse_told h.val yMalformed m (answerKey s m) r).leaves
    have hhep : r.hep = s.hep := hostCodewords_hep _ _ _
    exact ⟨hcsr, hmem.trans (hostCodewords_mem _ _ _), hsess.trans (congrArg _ hhep), hev.trans (congrArg _ hhep),
      hbulk.trans (congrArg _ hhep)⟩
  · obtain ⟨_, body, hexec⟩ := ympCmd_runs hc s
    refine ⟨_, hexec, ?_⟩
    rw [ympIn_unauthentic hr hm ha hf]
    have htold := ympRefuse_told h.val yAuth m none (r.countReg 0x9000408 1)
    obtain ⟨hcsr, hmem, hsess, hev, hbulk⟩ := htold.leaves
    have hhep : (r.countReg 0x9000408 1).hep = s.hep := (countReg_hep _ _ _).trans (hostCodewords_hep _ _ _)
    refine ⟨?_, hmem.trans ((countReg_mem _ _ _).trans (hostCodewords_mem _ _ _)), hsess.trans (congrArg _ hhep),
      hev.trans (congrArg _ hhep), hbulk.trans (congrArg _ hhep)⟩
    have hreg : ∀ b, (ympRefuse h.val yAuth m none (r.countReg 0x9000408 1)).reg b = (r.countReg 0x9000408 1).reg b := by
      obtain ⟨f, ps, he⟩ := htold.shape
      intro b
      rw [he]
      rfl
    obtain ⟨hval, hother⟩ := counted_onlyReg (a := 0x9000408) (by decide) s h m
    exact ⟨(hreg _).trans hval, fun b hb => (hreg b).trans (hother b hb)⟩
  · have hbeside := ympReads_readsBeside (rwWidth m) ((List.range (rwCount m)).map (rwAt m)) v
    rw [hrd] at hbeside
    have hindex : h.val < t.hep.ports.length := by
      rw [hbeside.1]
      exact accepted_index hs ha
    have hlink : (t.host h.val).link = true := by
      rw [host_of_hep hbeside.1]
      exact accepted_link ha
    refine ⟨_, next_congr (ympIn_accepted ha (ackRefused_of_typ ha.1.2.2.2.2 (by decide))), ?_⟩
    dsimp only
    rw [ympReadBody_eq hm hw, hrd, if_neg hst]
    exact ympAnswer_sends hindex hlink ((hbeside.carrierLive _).trans (accepted_carrier ha)) 2 status _ _ _ key
  · refine ⟨_, next_congr (ympIn_accepted ha (ackRefused_of_typ ha.1.2.2.2.2 (by decide))), ?_⟩
    rw [ympReadBody_eq hm hw, hrd]
    rfl
  · have hno : ympHold s a false = false := by
      rw [ympHold_eq]
      obtain hf | hl := hfree
      · rw [hf, Bool.and_false]
      · rw [hl]
        rfl
    refine ⟨fun hn => ?_, fun hr hwhole => ympReads_value hno hr hwhole rest, fun hr hp => ympReads_poison hno hr hp rest⟩
    rw [ympReads, hno, if_neg Bool.false_ne_true, if_pos hn]
  · refine next_congr ((ympIn_accepted ha (ackRefused_of_typ ha.1.2.2.2.2 (by decide))).trans ?_)
    exact ympWriteBody_eq hm hw h.val hwr hst
  · refine ⟨fun hl => ?_, fun hl hb => ?_, fun hb hst => ?_, fun hb hst hk => ?_, fun hb hst hk hboot => ?_⟩
    · have hst : writeStatus s a x.toNat auth = yDenied := if_pos hl
      rw [ympWrites, ympHold_eq, hl, hst]
      rfl
    · rw [ympWrites, ympHold_eq, hl, hb]
      rfl
    · rw [ympWrites, ympHold_of_not_mustHold hb, if_neg Bool.false_ne_true, if_pos hst]
    · rw [ympWrites, ympHold_of_not_mustHold hb, if_neg Bool.false_ne_true, if_neg (not_not_intro hst), if_pos hk]
    · refine ⟨_, _, _, rfl, ?_⟩
      rw [ympWrites, ympHold_of_not_mustHold hb, if_neg Bool.false_ne_true, if_neg (not_not_intro hst), if_neg hk]
      exact if_neg (Nat.not_lt.2 hboot)
  · refine ⟨_, next_congr (ympIn_accepted ha (ackRefused_of_open hopen)), ?_⟩
    obtain ⟨_, _, _, _, rfl, _⟩ := ha
    have hev : (accepted s h.val m).hep.events = s.hep.events := by
      obtain ⟨c, ps, ss, he⟩ := accepted_shape s h.val m
      rw [he]
    unfold eventAckBody
    dsimp only
    rw [if_neg (not_not_intro hlen)]
    exact ⟨accepted_csr s h.val m, congrArg _ hev⟩
  · have hin : ympIn h.val 6 m (fun _ => eventAckBody m) s = r.countReg 0x9000408 1 := by
      rw [ympIn_authentic hr hm (fun h => absurd (ha.symm.trans h) Bool.false_ne_true), ackRefused_of_tagged hr.2.2.2.2 ha htag, hlen]
      rfl
    refine ⟨_, next_congr hin, counted_onlyReg (by decide) s h m, (countReg_hep _ _ _).trans (hostCodewords_hep _ _ _),
      (countReg_mem _ _ _).trans (hostCodewords_mem _ _ _)⟩

end Sys2Proof.Proofs
end

section
/-!
PROOFS. BULK transfers (O53).
-/

namespace Sys2Proof.Proofs
open Sys2Proof Sys2Proof.Machine Sys2Proof.Claims

set_option Elab.async false

variable {s t u v : State} {h : Fin 2} {m : YmpFrame} {typ : Nat} {key : Option (List Byte)}

/-! ## The store beside the host block -/

theorem ReadsBeside.keep (h : ReadsBeside s t) (hh : u.hep = t.hep) (hc : u.csr = t.csr) (hf : u.fuses = t.fuses) :
    ReadsBeside s u :=
  h.trans ⟨hh, by rw [State.reg, State.reg, hc, hf]⟩

theorem ReadsBeside.countReg (h : ReadsBeside s t) {a : Nat} (ha : 0x9000000 ≠ a) (n : Nat) : ReadsBeside s (t.countReg a n) :=
  h.trans ⟨countReg_hep t a n, (reg_countReg t a _ n).trans (if_neg ha)⟩

theorem ReadsBeside.raise (h : ReadsBeside s t) (b : Blk) (src : Nat) : ReadsBeside s (raise b src t) :=
  h.trans ⟨raise_hep t b src, (raise_beside (Beside.refl t)).regs _ (by decide)⟩

theorem ReadsBeside.count (h : ReadsBeside s t) (src n : Nat) (port tc grp : Option Nat) :
    ReadsBeside s (count src n port tc grp t) := h.keep rfl rfl rfl

theorem flawRead_readsBeside (b : Blk) (g : Nat) (e : Flaw) (h : ReadsBeside s t) : ReadsBeside s (flawRead b g e t) := by
  have hdel : ∀ po rc me, ReadsBeside s { t with flaws := tabDel t.flaws g, poison := po, rowCache := rc, mem := me } :=
    fun _ _ _ => h.keep rfl rfl rfl
  unfold flawRead
  dsimp only
  split
  · exact hdel _ _ _
  · exact ((hdel _ _ _).countReg (a := 0x6000100) (by decide) 1).count 0x0AD 1 none none none
  · exact ((hdel _ _ _).countReg (a := 0x6000100) (by decide) 1).count 0x0AD 1 none none none
  · refine ReadsBeside.raise ?_ b 0
    refine ReadsBeside.raise ?_ .tsc 0
    exact ((hdel _ _ _).countReg (a := 0x6000108) (by decide) 1).count 0x0AE 1 none none none

theorem granuleWrite_readsBeside (a : Nat) (bs : List Byte) (h : ReadsBeside s t) : ReadsBeside s (granuleWrite a bs t) := by
  have hcount : ReadsBeside s (count 0x0A4 1 none none none t) := h.keep rfl rfl rfl
  have hmet : ReadsBeside s (flawMet (a / 16) (count 0x0A4 1 none none none t)) := by
    unfold flawMet
    split
    · split
      · exact hcount.keep rfl rfl rfl
      · exact flawRead_readsBeside _ _ _ hcount
    · exact hcount
  rw [granuleWrite_eq]
  split
  · exact hcount.keep rfl rfl rfl
  · unfold partWritten
    split
    · exact ((hmet.countReg (a := 0x6000110) (by decide) 1).count _ _ _ _ _).raise _ _
    · exact hmet.keep rfl rfl rfl

theorem storeWriteLoop_readsBeside (fuel a : Nat) (bs : List Byte) (h : ReadsBeside s t) :
    ReadsBeside s (storeWriteLoop fuel a bs t) := by
  induction fuel generalizing a bs t with
  | zero => exact h
  | succ fuel ih =>
    unfold storeWriteLoop
    split
    · exact h
    · exact ih _ _ (granuleWrite_readsBeside _ _ h)

theorem storeWrite_readsBeside (a : Nat) (bs : List Byte) (s : State) : ReadsBeside s (storeWrite a bs s) := by
  refine storeWriteLoop_readsBeside _ _ _ ?_
  unfold countBursts
  split
  · exact .refl s
  · exact foldl_readsBeside (fun t _ _ ht => ht.keep rfl rfl rfl) (.refl s)

/-! ## Contexts -/

theorem findBulk_dropBulk (sess : Nat) (xid : W32) (s : State) : findBulk (dropBulk sess xid s) sess xid = none := by
  refine List.find?_eq_none.2 fun b hb => ?_
  have hne := (List.mem_filter.1 hb).2
  rw [Bool.not_eq_true'] at hne
  rw [hne]
  exact Bool.false_ne_true

theorem findBulk_of_bulk (h : t.hep.bulk = s.hep.bulk) (sess : Nat) (xid : W32) : findBulk t sess xid = findBulk s sess xid := by
  rw [findBulk, findBulk, h]

theorem findBulk_joined (h : findBulk s b.session b.xid = none) :
    findBulk { s with hep := { s.hep with bulk := s.hep.bulk ++ [b] } } b.session b.xid = some b := by
  unfold findBulk at h ⊢
  dsimp only
  rw [List.find?_append, h, List.find?_cons_of_pos (by simp)]
  rfl

/-- R376: a context's answer goes to its port, and all else stays. -/
theorem bulkAnswer_told (status : Nat) (b : BulkCtx) (s : State) : Told s (bulkAnswer status b s) := bulkRsp_told _ _ _ _ _ _ _ _ _ s

theorem bulkAnswer_length {b : BulkCtx} (hh : b.host < s.hep.ports.length) (hl : (s.host b.host).link = true)
    (hc : carrierLive s b.dest.via = true) (status : Nat) :
    ((bulkAnswer status b s).host b.host).out.length = (s.host b.host).out.length + 1 :=
  bulkRsp_length hh hl hc _ _ _ _ _ _ _

/-! ## BULK_WR -/

/-- R375: the chunk is in the store, and its context out of the list until it is answered or kept. -/
def chunkTaken (b : BulkCtx) (a : Nat) (data : List Byte) (s : State) : State :=
  dropBulk b.session b.xid (count 0x0B0 (data.length / 16) none none none (storeWrite a data s))

theorem bulkWrBody_takes {n : Nat} (hst : bulkWrStatus n m v = yOk) (hw : v.wiping = false) :
    bulkWrBody n m key v =
      if bulkMissing { bulkCtx n m v with got := setAdd (bulkCtx n m v).got (bkChunk m) } = [] then
        bulkAnswer yOk { bulkCtx n m v with got := setAdd (bulkCtx n m v).got (bkChunk m) }
          (chunkTaken (bulkCtx n m v) ((bulkCtx n m v).addr + bkChunk m * (bulkCtx n m v).chunk) ((YmpFrame.pay m).drop 24) v)
      else
        { chunkTaken (bulkCtx n m v) ((bulkCtx n m v).addr + bkChunk m * (bulkCtx n m v).chunk) ((YmpFrame.pay m).drop 24) v with
          hep := { (chunkTaken (bulkCtx n m v) ((bulkCtx n m v).addr + bkChunk m * (bulkCtx n m v).chunk)
            ((YmpFrame.pay m).drop 24) v).hep with
            bulk := (chunkTaken (bulkCtx n m v) ((bulkCtx n m v).addr + bkChunk m * (bulkCtx n m v).chunk)
              ((YmpFrame.pay m).drop 24) v).hep.bulk ++ [{ bulkCtx n m v with got := setAdd (bulkCtx n m v).got (bkChunk m) }] } } := by
  unfold bulkWrBody
  dsimp only
  rw [if_neg (not_not_intro hst), hw, if_neg Bool.false_ne_true]
  exact if_congr List.isEmpty_iff rfl rfl

theorem chunkTaken_ports (b : BulkCtx) (a : Nat) (data : List Byte) (s : State) :
    (chunkTaken b a data s).hep.ports = s.hep.ports := by
  rw [← (storeWrite_readsBeside a data s).1]
  rfl

theorem chunkTaken_carrier (b : BulkCtx) (a : Nat) (data : List Byte) (s : State) (c : Carrier) :
    carrierLive (chunkTaken b a data s) c = carrierLive s c :=
  (ReadsBeside.carrierLive (t := storeWrite a data s) (storeWrite_readsBeside a data s) c)

theorem bulkWrStatus_ok {n : Nat} (hst : bulkStatus v m = yOk) (haddr : (bulkCtx n m v).addr = bkAddr m)
    (hlen : (bulkCtx n m v).len = bkLen m) (hi : bkChunk m < ceilDiv (bulkCtx n m v).len (bulkCtx n m v).chunk)
    (hdata : ((YmpFrame.pay m).drop 24).length = chunkLen (bulkCtx n m v).len (bulkCtx n m v).chunk (bkChunk m))
    (hroom : (findBulk v (bulkCtx n m v).session (bulkCtx n m v).xid).isSome = true ∨ v.hep.bulk.length < 64) :
    bulkWrStatus n m v = yOk := by
  unfold bulkWrStatus
  dsimp only
  rw [if_neg (not_not_intro hst), if_neg, if_neg]
  · obtain hs | hl := hroom
    · simp [← Option.not_isSome, hs]
    · simp only [Bool.and_eq_true, decide_eq_true_eq, not_and]
      omega
  · rintro (h1 | h2 | h3 | h4)
    · exact h1 haddr
    · exact h2 hlen
    · omega
    · exact h4 hdata

theorem ympRefuse_bulk (ht : YmpFrame.typ m = 7) (n status : Nat) (key : Option (List Byte)) (s : State) :
    ympRefuse n status m key s = bulkRsp n status (YmpFrame.seq m) (YmpFrame.sess m) (YmpFrame.dest m) (YmpFrame.n m 24 4)
      (some (YmpFrame.n m 28 4)) none key s := by
  unfold ympRefuse
  rw [ht]
  rfl

/-! ## What an accepted request keeps of the state -/

theorem accepted_keeps (ha : Accepted s h m typ key v) : v.mem = s.mem ∧ v.poison = s.poison ∧ v.flaws = s.flaws ∧
    v.wiping = s.wiping ∧ v.hep.bulk = s.hep.bulk := by
  obtain ⟨_, _, _, _, rfl, _⟩ := ha
  obtain ⟨c, ps, ss, he⟩ := accepted_shape s h.val m
  rw [he]
  exact ⟨rfl, rfl, rfl, rfl, rfl⟩

theorem accepted_out (ha : Accepted s h m typ key v) (n : Nat) : (v.host n).out = (s.host n).out := by
  obtain ⟨_, _, _, _, rfl, _⟩ := ha
  exact accepted_host HostPort.out (fun _ _ => rfl) s h.val m n

theorem accepted_clean (ha : Accepted s h m typ key v) {a n : Nat} (hc : Clean s a n) : Clean v a n := by
  obtain ⟨-, hpoison, hflaws, -⟩ := accepted_keeps ha
  intro g hg
  rw [hpoison, hflaws]
  exact hc g hg

/-- R375: a good chunk. -/
theorem bulkWr_takes (hs : HostShape s) (ha : Accepted s h m 7 key v) (hst : bulkWrStatus h.val m v = yOk) (hw : s.wiping = false)
    (hclean : Clean s ((bulkCtx h.val m v).addr + bkChunk m * (bulkCtx h.val m v).chunk) ((YmpFrame.pay m).drop 24).length) :
    let ctx := bulkCtx h.val m v
    let data := (YmpFrame.pay m).drop 24
    let kept := { ctx with got := setAdd ctx.got (bkChunk m) }
    (bulkWrBody h.val m key v).mem = cellWrite 0 s.mem (ctx.addr + bkChunk m * ctx.chunk) data ∧
      findBulk (bulkWrBody h.val m key v) ctx.session ctx.xid = (if bulkMissing kept = [] then none else some kept) ∧
      ((bulkWrBody h.val m key v).host h.val).out.length =
        (s.host h.val).out.length + (if bulkMissing kept = [] then 1 else 0) := by
  intro ctx data kept
  obtain ⟨hmem, -, -, hwipe, -⟩ := accepted_keeps ha
  have hbody := bulkWrBody_takes (key := key) hst (hwipe.trans hw)
  have htmem : (chunkTaken ctx (ctx.addr + bkChunk m * ctx.chunk) data v).mem =
      cellWrite 0 s.mem (ctx.addr + bkChunk m * ctx.chunk) data := by
    rw [← hmem]
    exact storeWrite_clean (accepted_clean ha hclean)
  have hports := chunkTaken_ports ctx (ctx.addr + bkChunk m * ctx.chunk) data v
  have hhost : ∀ n, (chunkTaken ctx (ctx.addr + bkChunk m * ctx.chunk) data v).host n = v.host n := fun n => by
    rw [State.host, State.host, hports]
  have hcarrier := chunkTaken_carrier ctx (ctx.addr + bkChunk m * ctx.chunk) data v (YmpFrame.dest m).via
  have hfind : findBulk (chunkTaken ctx (ctx.addr + bkChunk m * ctx.chunk) data v) ctx.session ctx.xid = none :=
    findBulk_dropBulk _ _ _
  rw [hbody]
  dsimp only
  change (ite (bulkMissing kept = []) (bulkAnswer yOk kept (chunkTaken ctx (ctx.addr + bkChunk m * ctx.chunk) data v)) _).mem = _ ∧
    findBulk (ite (bulkMissing kept = []) (bulkAnswer yOk kept (chunkTaken ctx (ctx.addr + bkChunk m * ctx.chunk) data v)) _) _ _ = _ ∧
      ((ite (bulkMissing kept = []) (bulkAnswer yOk kept (chunkTaken ctx (ctx.addr + bkChunk m * ctx.chunk) data v)) _).host _).out.length = _
  generalize chunkTaken ctx (ctx.addr + bkChunk m * ctx.chunk) data v = t at *
  by_cases hmiss : bulkMissing kept = []
  · simp only [if_pos hmiss]
    obtain ⟨-, hm, -, -, hb⟩ := (bulkAnswer_told yOk kept t).leaves
    have hlen := bulkAnswer_length (b := kept) (s := t) (by rw [hports]; exact accepted_index hs ha)
      (by rw [hhost]; exact accepted_link ha) (hcarrier.trans (accepted_carrier ha)) yOk
    refine ⟨hm.trans htmem, (findBulk_of_bulk hb _ _).trans hfind, ?_⟩
    rw [← accepted_out ha, ← hhost]
    exact hlen
  · simp only [if_neg hmiss]
    refine ⟨htmem, findBulk_joined (b := kept) hfind, ?_⟩
    rw [← accepted_out ha, ← hhost]
    rfl

/-! ## BULK_RD -/

theorem bulkStatus_len (hst : bulkStatus v m = yOk) : 16 ≤ bkLen m := by
  unfold bulkStatus at hst
  split at hst
  · cases hst
  · split at hst
    · cases hst
    · split at hst
      · cases hst
      · omega

theorem chunkSize_pos (s : State) : 0 < chunkSize s := Nat.mul_pos (by decide) (Nat.two_pow_pos _)

/-- R377: a transfer of one chunk. -/
theorem bulkRdBody_one {n c : Nat} (hst : bulkStatus v m = yOk) (hw : v.wiping = false) (hc : bkLen m ≤ c) {bs : List Byte}
    (hread : storeRead .tsc (bkAddr m) (bkLen m) v = ([], bs, t)) : bulkRdBody n m key c v =
      bulkRsp n yOk (YmpFrame.seq m) (YmpFrame.sess m) (YmpFrame.dest m) (bkXid m) none (some 0) key
        (ympAnswer n 9 yOk (YmpFrame.seq m) (YmpFrame.sess m) (YmpFrame.dest m)
          (leBytes 4 (bkXid m) ++ leBytes 4 0 ++ leBytes 8 (bkAddr m) ++ leBytes 8 (bkLen m) ++ bs) key
          (count 0x0B1 (bs.length / 16) none none none t)) := by
  have hlen := bulkStatus_len hst
  have hone : ceilDiv (bkLen m) c = 1 := by
    rw [ceilDiv]
    exact Nat.div_eq_of_lt_le (by omega) (by omega)
  have hchunk : chunkLen (bkLen m) c 0 = bkLen m := by
    rw [chunkLen]
    omega
  unfold bulkRdBody
  rw [if_neg (not_not_intro hst), hw, if_neg Bool.false_ne_true, hone]
  unfold bulkChunks
  rw [hchunk, Nat.zero_mul, Nat.add_zero, hread]
  rfl

theorem Told.carrierLive (h : Told s t) (c : Carrier) : carrierLive t c = carrierLive s c := by
  obtain ⟨f, ps, rfl⟩ := h.shape
  cases c <;> rfl

theorem bulkRsp_out {n : Nat} (hn : n < s.hep.ports.length) (hl : (s.host n).link = true) {d : HostDest}
    (hc : Machine.carrierLive s d.via = true) (status seq sess xid : Nat) (first missing : Option Nat) (key : Option (List Byte)) :
    ∃ o, ((bulkRsp n status seq sess d xid first missing key s).host n).out = (s.host n).out ++ [o] := by
  obtain ⟨ctr, _, hs⟩ := ympAnswer_sends hn hl hc 0x0A status seq sess (bulkRspPay xid first missing s) key
  exact ⟨_, hs.1⟩

/-- R377: the chunk and the response that ends the transfer go out. -/
theorem oneChunk_sends (hs : HostShape s) (ha : Accepted s h m 8 key v) (hreading : Reading v t) :
    let pay := leBytes 4 (bkXid m) ++ leBytes 4 0 ++ leBytes 8 (bkAddr m) ++ leBytes 8 (bkLen m) ++
      cellRead 0 v.mem (bkAddr m) (bkLen m)
    let u := bulkRsp h.val yOk (YmpFrame.seq m) (YmpFrame.sess m) (YmpFrame.dest m) (bkXid m) none (some 0) key
      (ympAnswer h.val 9 yOk (YmpFrame.seq m) (YmpFrame.sess m) (YmpFrame.dest m) pay key
        t)
    u.mem = v.mem ∧ ∃ o2 ctr, (key = none → ctr = 0) ∧ (u.host h.val).out = (v.host h.val).out ++
      [.ymp (YmpFrame.dest m) (ympBytes 9 yOk (YmpFrame.seq m) (if key.isSome then YmpFrame.sess m else 0) ctr pay key), o2] := by
  intro pay u
  have hhep : t.hep = v.hep := by
    obtain ⟨_, _, _, _, rfl, -⟩ := hreading
    rfl
  have hcarrier : Machine.carrierLive t (YmpFrame.dest m).via = true := by
    have hreg : t.regN 0x9000000 = v.regN 0x9000000 := congrArg BitVec.toNat (reading_reg hreading (by decide))
    rw [← accepted_carrier ha]
    cases (YmpFrame.dest m).via <;> exact congrArg (bit · _) hreg
  have hindex : h.val < t.hep.ports.length := by
    rw [hhep]
    exact accepted_index hs ha
  have hlink : (t.host h.val).link = true := (congrArg HostPort.link (host_of_hep hhep _)).trans (accepted_link ha)
  have htold := ympAnswer_told h.val 9 yOk (YmpFrame.seq m) (YmpFrame.sess m) (YmpFrame.dest m) pay key
    t
  obtain ⟨ctr, hctr, hout, hl, -, hm, -⟩ := ympAnswer_sends
    (s := t) hindex hlink hcarrier
    9 yOk (YmpFrame.seq m) (YmpFrame.sess m) pay key
  obtain ⟨o2, hout2⟩ := bulkRsp_out (by rw [htold.length]; exact hindex) (hl.trans hlink) ((htold.carrierLive _).trans hcarrier)
    yOk (YmpFrame.seq m) (YmpFrame.sess m) (bkXid m) none (some 0) key
  refine ⟨((bulkRsp_told _ _ _ _ _ _ _ _ _ _).leaves.2.1.trans hm).trans (reading_mem hreading), o2, ctr, hctr, ?_⟩
  refine hout2.trans ?_
  rw [hout, List.append_assoc]
  exact congrArg (fun x : HostPort => x.out ++ _) (host_of_hep hhep _)

/-- Settles O53. -/
theorem bulkTransfersMoveTheirChunks : Obligations.BulkTransfersMoveTheirChunks := by
  unfold Obligations.BulkTransfersMoveTheirChunks
  intro s h m v key sess xid b ctx i data a missing hs
  refine ⟨fun ha hst hw haddr hlen hi hdata hclean hroom => ?_, fun ha hst => ?_, fun ha hst hw hflaws hc hclean => ?_,
    fun ha hst hw => ?_, fun hb hh hl hc hlt => ?_⟩
  · obtain ⟨hmem, hfind, hout⟩ := bulkWr_takes hs ha (bulkWrStatus_ok hst haddr hlen hi hdata hroom) hw hclean
    refine ⟨_, next_congr (ympIn_accepted ha (ackRefused_of_typ ha.1.2.2.2.2 (by decide))), fun x => ?_, hfind, hout⟩
    rw [hmem]
    exact cellGet_cellWrite 0 _ _ _ x
  · refine ⟨_, next_congr (ympIn_accepted ha (ackRefused_of_typ ha.1.2.2.2.2 (by decide))), ?_⟩
    have hbody : bulkWrBody h.val m key v = ympRefuse h.val (bulkWrStatus h.val m v) m key v := if_pos hst
    obtain ⟨hmem, -, -, -, hbulk⟩ := accepted_keeps ha
    obtain ⟨-, hm, -, -, hb⟩ := (ympRefuse_told h.val (bulkWrStatus h.val m v) m key v).leaves
    rw [hbody]
    refine ⟨hm.trans hmem, hb.trans hbulk, ?_⟩
    rw [ympRefuse_bulk ha.1.2.2.2.2, bulkRsp_length (accepted_index hs ha) (accepted_link ha) (accepted_carrier ha),
      accepted_out ha]
  · obtain ⟨hmem, -, hf, hwipe, -⟩ := accepted_keeps ha
    obtain ⟨t, hread, hreading⟩ := storeRead_reads .tsc (hf.trans hflaws) (accepted_clean ha hclean)
    refine ⟨_, next_congr (ympIn_accepted ha (ackRefused_of_typ ha.1.2.2.2.2 (by decide))), ?_⟩
    have hbody : bulkRdBody h.val m key (chunkSize v) v = _ := bulkRdBody_one hst (hwipe.trans hw) hc hread
    rw [hbody]
    obtain ⟨hm, o2, ctr, hctr, hout⟩ := oneChunk_sends (key := key) hs ha
      (reading_trans hreading (reading_count 0x0B1 ((cellRead 0 v.mem (bkAddr m) (bkLen m)).length / 16) none none none t))
    refine ⟨hm.trans hmem, _, o2, ctr, by rw [hout, accepted_out ha], hctr, by rw [hmem]⟩
  · refine next_congr ((ympIn_accepted ha (ackRefused_of_typ ha.1.2.2.2.2 (by decide))).trans ?_)
    obtain ⟨-, -, -, hwipe, -⟩ := accepted_keeps ha
    unfold bulkRdBody
    rw [if_neg (not_not_intro hst), if_pos (hwipe.trans hw)]
  · have hindex : b.host < s.hep.ports.length := by
      rw [hs.1]
      exact hlt
    have hidle : bulkIdle sess.toNat xid s = bulkAnswer yPartial b s := by
      unfold bulkIdle
      rw [hb]
      exact if_neg (by simp [hh])
    have htimeout : bulkTimeout sess.toNat xid s = bulkAnswer yTimeout b (dropBulk sess.toNat xid s) := by
      unfold bulkTimeout
      rw [hb]
      exact if_neg (by simp [hh])
    refine ⟨⟨_, next_congr hidle, ?_⟩, ⟨_, next_congr htimeout, ?_⟩⟩
    · obtain ⟨-, hm, -, -, hbulk⟩ := (bulkAnswer_told yPartial b s).leaves
      exact ⟨(findBulk_of_bulk hbulk _ _).trans hb, hm, bulkAnswer_length hindex hl hc _⟩
    · obtain ⟨-, hm, -, -, hbulk⟩ := (bulkAnswer_told yTimeout b (dropBulk sess.toNat xid s)).leaves
      exact ⟨(findBulk_of_bulk hbulk _ _).trans (findBulk_dropBulk _ _ s), hm,
        bulkAnswer_length (s := dropBulk sess.toNat xid s) hindex hl hc _⟩

end Sys2Proof.Proofs
end

section
/-!
PROOFS. What sending a packet leaves: one relation, shown of each function on the way from an origin to an egress.
-/

namespace Sys2Proof.Proofs
open Sys2Proof Sys2Proof.Machine Sys2Proof.Claims

set_option Elab.async false

/-- The registers that sending may write: counters, fault registers, and those of ports, routing and contracts. -/
def sendReg (a : Nat) : Bool :=
  counts a || (decide (0x1000000 ≤ a) && decide (a < 0x4000000)) || a == 0x200008 || a % 0x10000 == 0xF000

/-- `t` is `s` after packets have been sent: at the ports nothing but the egress queues has grown. -/
structure Sent (s t : State) : Prop where
  shape  : ∃ csr w ev ex ra ag ge gp co ps sp q, t = { s with
    csr := csr, w1cSet := w, evts := ev, excNow := ex, raised := ra, again := ag, gerr := ge, gpoison := gp, corrected := co,
      ports := ps, spread := sp, seqCtr := q }
  regs   : ∀ a, sendReg a = false → t.reg a = s.reg a
  ports  : ∀ n, ∃ e, t.port n = { s.port n with egress := (s.port n).egress ++ e }
  faults : ∀ b i, (s.reg (blkFlt b)).getLsbD i = true → (t.reg (blkFlt b)).getLsbD i = true

section
variable {s₀ s t u : State}

theorem Sent.refl (s : State) : Sent s s :=
  ⟨⟨_, _, _, _, _, _, _, _, _, _, _, _, rfl⟩, fun _ _ => rfl, fun n => ⟨[], by rw [List.append_nil]⟩, fun _ _ h => h⟩

theorem Sent.trans (h : Sent s t) (k : Sent t u) : Sent s u := by
  obtain ⟨_, _, _, _, _, _, _, _, _, _, _, _, rfl⟩ := h.shape
  obtain ⟨_, _, _, _, _, _, _, _, _, _, _, _, rfl⟩ := k.shape
  refine ⟨⟨_, _, _, _, _, _, _, _, _, _, _, _, rfl⟩, fun a ha => (k.regs a ha).trans (h.regs a ha), fun n => ?_,
    fun b i hb => k.faults b i (h.faults b i hb)⟩
  obtain ⟨e, he⟩ := h.ports n
  obtain ⟨f, hf⟩ := k.ports n
  exact ⟨e ++ f, by rw [hf, he, List.append_assoc]⟩

theorem Sent.ite {c : Prop} [Decidable c] {x y : State} (hx : Sent s x) (hy : Sent s y) : Sent s (if c then x else y) := by
  split
  · exact hx
  · exact hy

theorem Sent.pair {α : Type} {c : Prop} [Decidable c] {x y : α × State} (hx : Sent s x.2) (hy : Sent s y.2) :
    Sent s (if c then x else y).2 := by
  split
  · exact hx
  · exact hy

theorem Sent.of_eq {α : Type} {x : α × State} {a : α} (e : x = (a, t)) (h : Sent s x.2) : Sent s t := by
  rw [e] at h
  exact h

theorem foldl_sent {α : Type} {f : State → α → State} {l : List α} {t : State}
    (hf : ∀ u, ∀ x ∈ l, Sent s u → Sent s (f u x)) (h : Sent s t) : Sent s (l.foldl f t) := by
  induction l generalizing t with
  | nil => exact h
  | cons x l ih => exact ih (fun u y hy => hf u y (List.mem_cons_of_mem x hy)) (hf t x List.mem_cons_self h)

/-- An update of the fields that sending may change, registers and ports apart. -/
theorem Sent.quiet (h : Sent s t) {w ev ex ra ag ge gp co sp q} (hu : u = { t with
    w1cSet := w, evts := ev, excNow := ex, raised := ra, again := ag, gerr := ge, gpoison := gp, corrected := co, spread := sp,
      seqCtr := q }) : Sent s u := by
  subst hu
  refine h.trans ⟨⟨_, _, _, _, _, _, _, _, _, _, _, _, rfl⟩, fun _ _ => rfl, fun n => ⟨[], by rw [List.append_nil]; rfl⟩,
    fun _ _ h => h⟩

theorem Sent.setReg (h : Sent s t) {a : Nat} (v : W64) (hl : sendReg a = true) (hf : ∀ b, a ≠ blkFlt b) : Sent s (t.setReg a v) := by
  refine h.trans ⟨⟨_, _, _, _, _, _, _, _, _, _, _, _, rfl⟩, fun b hb => ?_, fun n => ⟨[], by rw [List.append_nil]; rfl⟩,
    fun b i hb => ?_⟩
  · rw [reg_setReg, if_neg (by rintro rfl; rw [hl] at hb; cases hb)]
  · rw [reg_setReg, if_neg (Ne.symm (hf b))]
    exact hb

theorem Sent.setSticky (h : Sent s t) {a : Nat} (m : W64) (hl : sendReg a = true) : Sent s (t.setSticky a m) := by
  have hreg : ∀ x, (t.setSticky a m).reg x = if x = a then t.reg a ||| m else t.reg x := fun x => reg_setReg t a x _
  refine h.trans ⟨⟨_, _, _, _, _, _, _, _, _, _, _, _, rfl⟩, fun b hb => ?_, fun n => ⟨[], by rw [List.append_nil]; rfl⟩,
    fun b i hb => ?_⟩
  · rw [hreg, if_neg (by rintro rfl; rw [hl] at hb; cases hb)]
  · rw [hreg]
    split
    · next e => rw [BitVec.getLsbD_or, ← e, hb]; rfl
    · exact hb

theorem sendReg_blkFlt (b : Blk) : sendReg (blkFlt b) = true := by simp [sendReg, blkFlt_mod]

theorem count_sent {src n : Nat} {port tc grp : Option Nat} (h : Sent s₀ s) : Sent s₀ (count src n port tc grp s) := h.quiet rfl

theorem countPkt_sent {src n : Nat} {p : Packet} (h : Sent s₀ s) : Sent s₀ (countPkt src n p s) := count_sent h

theorem countReg_sent {a n : Nat} (h : Sent s₀ s) (hl : sendReg a = true) (hf : a % 0x10000 ≠ 0xF000) :
    Sent s₀ (s.countReg a n) := by
  unfold State.countReg
  exact .ite h (h.setReg _ hl (ne_blkFlt hf))

theorem raise_sent {b : Blk} {src : Nat} (h : Sent s₀ s) : Sent s₀ (raise b src s) := by
  have hflt := h.setSticky (BitVec.ofNat 64 (2 ^ src)) (sendReg_blkFlt b)
  unfold raise
  dsimp only
  split
  · exact hflt.quiet rfl
  · split
    · exact (hflt.setSticky _ (by decide)).quiet rfl
    · exact hflt.quiet rfl

theorem raiseIf_sent {c : Bool} {b : Blk} {src : Nat} (h : Sent s₀ s) : Sent s₀ (raiseIf c b src s) := by
  unfold raiseIf
  exact .ite (raise_sent h) h

/-! ## Reads on the way -/

theorem scanOne_sent {b : Blk} {x : List GMem × List (GMem × BitVec 128) × State} {e : GMem × Flaw} (h : Sent s₀ x.2.2) :
    Sent s₀ (scanOne b x e).2.2 := by
  unfold scanOne
  split
  · exact h
  · exact h.quiet rfl
  · exact h.quiet rfl
  · exact raise_sent (h.quiet rfl)

theorem memScan_sent {b : Blk} {sel : GMem → Bool} (h : Sent s₀ s) : Sent s₀ (memScan b sel s).2.2 := by
  unfold memScan
  exact foldl_invariant (P := fun x : List GMem × List (GMem × BitVec 128) × State => Sent s₀ x.2.2)
    (fun _ _ k => scanOne_sent k) (raiseIf_sent (h.quiet rfl))

theorem wordsXor_sent {a : Nat} {m : BitVec 128} (hl : ∀ i, i < 16 → sendReg (a + i) = true ∧ ∀ b, a + i ≠ blkFlt b)
    (h : Sent s₀ s) : Sent s₀ (wordsXor a m s) := by
  refine foldl_sent (fun t i hi ht => ?_) h
  obtain ⟨h1, h2⟩ := hl i (by fin_cases hi <;> decide)
  split
  · split
    · next e => subst e; exact ht.setReg _ h1 h2
    · exact ht
  · exact ht

/-- A read of tables of ports, routing or contracts. -/
theorem tableRead_sent {b : Blk} {a n : Nat} (h : Sent s₀ s)
    (hl : ∀ x, a / 16 * 16 ≤ x → x < a + n + 16 → sendReg x = true ∧ ∀ b, x ≠ blkFlt b) : Sent s₀ (tableRead b a n s).2 := by
  unfold tableRead
  refine foldl_sent (fun t e he ht => ?_) (memScan_sent h)
  split
  · next x hx =>
    have hsel := memScan_wrong he
    simp only [hx, Bool.and_eq_true, decide_eq_true_eq] at hsel
    exact wordsXor_sent (fun i hi => hl (x + i) (by omega) (by omega)) ht
  · exact ht

theorem stageRead_sent {b : Blk} {st : Stage} {n : Nat} {p : Packet} (h : Sent s₀ s) : Sent s₀ (stageRead b st n p s).2 := by
  unfold stageRead
  generalize hscan : memScan b _ s = z
  have hz : Sent s₀ z.2.2 := hscan ▸ memScan_sent h
  obtain ⟨bad, wrong, t⟩ := z
  dsimp only at hz ⊢
  split
  · exact hz.quiet rfl
  · exact hz

/-! ## The way of a packet -/

theorem Sent.countPort (h : Sent s₀ s) {n k c : Nat} (hn : n < 64) (hk : 8 ≤ k) (hk2 : k < 0x3000) :
    Sent s₀ (s.countReg (puBase n + k) c) := by
  have hp : puBase n + k = 0x1000000 + n * 0x10000 + k := rfl
  refine countReg_sent h ?_ (by omega)
  have h1 : decide (0x1000000 ≤ puBase n + k) = true := decide_eq_true (by omega)
  have h2 : decide (puBase n + k < 0x4000000) = true := decide_eq_true (by omega)
  simp [sendReg, h1, h2]

/-! ## Tables of routing and contracts -/

theorem sendReg_table {x : Nat} (h1 : 0x2000000 ≤ x) (h2 : x < 0x4000000) (h3 : x ≠ 0x200F000) (h4 : x ≠ 0x300F000) :
    sendReg x = true ∧ ∀ b, x ≠ blkFlt b := by
  refine ⟨?_, (loud_table h1 h2 h3 h4).2⟩
  have h5 : decide (0x1000000 ≤ x) = true := decide_eq_true (by omega)
  have h6 : decide (x < 0x4000000) = true := decide_eq_true h2
  simp [sendReg, h5, h6]

theorem contractRead_sent {c : Nat} (hc : c < 4096) (h : Sent s₀ s) : Sent s₀ (contractRead c s).2 :=
  tableRead_sent h fun x h1 h2 => sendReg_table (by omega) (by omega) (by omega) (by omega)

theorem signpostRead_sent {axis dst : Nat} (ha : axis < 3) (h : Sent s₀ s) :
    Sent s₀ (tableRead .rte (0x2001000 + axis * 0x100 + cwAxis dst axis * 4) 4 s).2 := by
  have := cwAxis_lt dst axis
  exact tableRead_sent h fun x h1 h2 => sendReg_table (by omega) (by omega) (by omega) (by omega)

theorem pathRead_sent {c : Nat} (hc : c < 4096) (h : Sent s₀ s) : Sent s₀ (tableRead .rte (0x2010000 + c * 4)
    4 s).2 :=
  tableRead_sent h fun x h1 h2 => sendReg_table (by omega) (by omega) (by omega) (by omega)

theorem cross_sent {f t n : Nat} (h : Sent s₀ s) : Sent s₀ (cross f t n s) := by
  unfold cross
  exact .ite h (count_sent h)

theorem carry_sent {hq mq n : Nat} {p : Packet} (h : Sent s₀ s) : Sent s₀ (carry hq mq n p s) :=
    cross_sent (cross_sent h)

theorem egressPush_sent {n hop : Nat} {p : Packet} {g i : Option Nat} (h : Sent s₀ s) : Sent s₀ (egressPush n p g hop i s) := by
  refine h.trans ⟨⟨_, _, _, _, _, _, _, _, _, _, _, _, rfl⟩, fun _ _ => rfl, fun m => ?_, fun _ _ hb => hb⟩
  unfold egressPush
  by_cases hm : n % 64 = m % 64
  · have hport : ∀ t : State, t.port m = t.port n := fun t => by
      rw [State.port, State.port, show Fin.ofNat 64 m = Fin.ofNat 64 n from Fin.ext hm.symm]
    exact ⟨_, by rw [hport, hport s, port_modPort_same]⟩
  · exact ⟨[], by rw [List.append_nil]; exact port_setPort_ne s n m _ hm⟩

theorem egressGreen_sent {n hop : Nat} {p : Packet} {i : Option Nat} (hn : n < 64) (h : Sent s₀ s) :
    Sent s₀ (egressGreen n p hop i s) := by
  have h0 := contractRead_sent (contract_lt p) h
  unfold egressGreen
  exact .ite h0 (.ite (.ite (raise_sent (countPkt_sent (h0.countPort hn (by decide) (by decide))))
      (egressPush_sent h0))
    (egressPush_sent (raiseIf_sent (countPkt_sent h0))))

theorem egress_sent {n dl hop : Nat} {p : Packet} {i : Option Nat} (hn : n < 64) (h : Sent s₀ s) :
    Sent s₀ (egress n p dl hop i s) := by
  unfold egress
  exact .ite (count_sent h) (.ite (.ite (egressPush_sent h) (raise_sent (countPkt_sent h)))
    (.ite (egressGreen_sent hn h) (egressPush_sent h)))

theorem throughRte_sent {n hq mq dl hop : Nat} {i : Option Nat} {p : Packet} (hn : n < 64) (h : Sent s₀ s) :
    Sent s₀ (throughRte n hq mq dl hop i p s) := by
  have h1 : Sent s₀ (stageRead .rte .crossbar n p (carry hq mq n p s)).2 := stageRead_sent (carry_sent h)
  unfold throughRte
  split
  · next e => exact .of_eq e h1
  · next e => exact egress_sent hn (.of_eq e h1)

theorem toTrunk_sent {n hq mq hop : Nat} {i : Option Nat} {p : Packet} (hn : n < 64) (h : Sent s₀ s) :
    Sent s₀ (toTrunk n hq mq i hop p s) := throughRte_sent hn h

theorem noRoute_sent {n : Option Nat} {p : Packet} (h : Sent s₀ s) : Sent s₀ (noRoute n p s) :=
    raise_sent (count_sent h)

theorem spreadChoose_sent {quad axis : Nat} {ps : List Nat} (h : Sent s₀ s)
    : Sent s₀ (spreadChoose quad axis ps s).2 := by
  unfold spreadChoose
  dsimp only
  split
  · exact h
  · exact h.quiet rfl

theorem route_sent {i : Option Nat} {quad mq hop : Nat} {p : Packet} (h : Sent s₀ s)
    : Sent s₀ (route i quad mq hop p s) := by
  unfold route
  split
  · exact h
  · next axis haxis =>
    have h1 := pathRead_sent (contract_lt p) h
    have h2 : Sent s₀ (if cwAxis p.dst axis < dimAxis s axis then
        tableRead .rte (0x2001000 + axis * 0x100 + cwAxis p.dst axis * 4) 4 s else (false, s)).2 :=
      .pair (signpostRead_sent (routeAxis_lt haxis) h) h
    refine .ite ?_ ?_
    · dsimp only
      exact .ite (count_sent h1) (.ite (countPkt_sent (toTrunk_sent (Nat.mod_lt _ (by decide)) h1))
          (noRoute_sent h1))
    · dsimp only
      generalize (if cwAxis p.dst axis < dimAxis s axis then
        tableRead .rte (0x2001000 + axis * 0x100 + cwAxis p.dst axis * 4) 4 s else (false, s)) = x at h2 ⊢
      refine .ite (count_sent h2) ?_
      have h3 : Sent s₀ (spreadChoose quad axis (detourSet x.2 axis p.dst) x.2).2 := spreadChoose_sent h2
      split
      · next e => exact noRoute_sent (.of_eq e h3)
      · next e => exact countPkt_sent (toTrunk_sent (detourSet_lt (spreadChoose_mem e)) (.of_eq e h3))

theorem toEndpoint_sent {i : Option Nat} {quad mq hop : Nat} {p : Packet} (h : Sent s₀ s) :
    Sent s₀ (toEndpoint i quad mq hop p s) := by
  unfold toEndpoint
  exact .ite (throughRte_sent (cwP_lt _) h) (raise_sent (countPkt_sent h))

theorem sendOn_sent {quad mq hop : Nat} {p : Packet} (h : Sent s₀ s) : Sent s₀ (sendOn quad mq hop p s) := by
  unfold sendOn
  exact .ite (toEndpoint_sent h) (route_sent h)

/-- A packet that the switch originates (R38, R43). -/
theorem originateFrom_sent {quad mq : Nat} {p : Packet} (h : Sent s₀ s) : Sent s₀ (originateFrom quad mq p s) := by
  unfold originateFrom
  exact .ite (count_sent h) (sendOn_sent (h.quiet rfl))

theorem originate_sent {quad : Nat} {p : Packet} (h : Sent s₀ s) : Sent s₀ (originate quad p s) :=
    originateFrom_sent h

end

end Sys2Proof.Proofs
end

section
/-!
PROOFS. The parts of a restart and of a block's reset: meters refilled, buffers returned, packets sent in a row.
-/

namespace Sys2Proof.Proofs
open Sys2Proof Sys2Proof.Machine Sys2Proof.Claims

set_option Elab.async false

variable {s t u : State}

/-! ## Meters -/

/-- What a refill of the meters makes of the register at `a`. -/
def refilled (s : State) (a : Nat) (v : W64) : W64 := if isMeter a v then BitVec.ofNat 64 (meterFull s v.toNat) else v

theorem refillMeters_shape (s : State) : refillMeters s = { s with csr := s.csr.map (fun e => (e.1, refilled s e.1 e.2)) } := by
  have hcsr : (refillMeters s).csr = s.csr.map (fun e => (e.1, refilled s e.1 e.2)) := by
    refine List.map_congr_left fun e _ => ?_
    unfold refilled
    rw [Bool.and_true]
    split <;> rfl
  rw [← hcsr]
  rfl

theorem tabGet_refillMeters (s : State) (a : Nat) : tabGet (refillMeters s).csr a = (tabGet s.csr a).map (refilled s a) := by
  rw [refillMeters_shape]
  exact tabGet_map _ _ _

theorem refilled_outside {a : Nat} (h : a < 0x1000000 ∨ 0x1400000 ≤ a) (s : State) (v : W64) : refilled s a v = v := by
  refine if_neg fun hm => ?_
  simp only [isMeter, Bool.and_eq_true, decide_eq_true_eq] at hm
  omega

theorem reg_refillMeters_outside {a : Nat} (h : a < 0x1000000 ∨ 0x1400000 ≤ a) (s : State) : (refillMeters s).reg a = s.reg a := by
  have hfuses : (refillMeters s).fuses = s.fuses := rfl
  rw [State.reg, State.reg, tabGet_refillMeters, hfuses]
  cases tabGet s.csr a with
  | none => rfl
  | some v => exact refilled_outside h s v

/-- A bound meter is full after a refill. -/
theorem reg_refillMeters_meter {i m : Nat} (hi : i < 64) (hm : m < 256) (hb : bit (s.regN (meterAddr i m)) 28 = true) :
    (refillMeters s).reg (meterAddr i m) = BitVec.ofNat 64 (meterFull s (s.regN (meterAddr i m))) := by
  have hreset : bit (regReset s.fuses (meterAddr i m)).toNat 28 = false :=
    regReset_meter _ (by unfold meterAddr puBase; omega) (by unfold meterAddr puBase; omega)
  have hfuses : (refillMeters s).fuses = s.fuses := rfl
  rw [State.regN, State.reg] at hb
  rw [State.reg, tabGet_refillMeters, hfuses, State.regN, State.reg]
  cases hget : tabGet s.csr (meterAddr i m) with
  | none =>
    rw [hget, Option.getD_none, hreset] at hb
    cases hb
  | some v =>
    rw [hget, Option.getD_some] at hb
    rw [Option.map_some, Option.getD_some, Option.getD_some, refilled, isMeter_meterAddr hi hm, hb, if_pos rfl]

/-! ## Buffers -/

theorem freeBuf_shape (b : Buf) (s : State) : ∃ ps, freeBuf b s = { s with ports := ps, bpm := { s.bpm with bufs := s.bpm.bufs.erase b } } := by
  unfold freeBuf endGrant
  split <;> exact ⟨_, rfl⟩

/-- A buffer's end gives credits back, and touches no queue. -/
theorem freeBuf_port (b : Buf) (s : State) (n : Nat) : ∃ w, (freeBuf b s).port n = { s.port n with withhold := w } := by
  unfold freeBuf endGrant
  split
  · exact ⟨_, rfl⟩
  · next m c k _ =>
    by_cases hm : m % 64 = n % 64
    · have hport : ∀ t : State, t.port n = t.port m := fun t => by
        rw [State.port, State.port, show Fin.ofNat 64 n = Fin.ofNat 64 m from Fin.ext hm.symm]
      exact ⟨_, by rw [hport, port_modPort_same, hport]; rfl⟩
    · exact ⟨_, port_setPort_ne _ m n _ hm⟩

theorem returnAll_shape (l : List Buf) : ∀ s : State, ∃ ps, l.foldl (fun s b => freeBuf b s) s =
    { s with ports := ps, bpm := { s.bpm with bufs := l.foldl (fun bs b => bs.erase b) s.bpm.bufs } } ∧
      ∀ n, ∃ w, (l.foldl (fun s b => freeBuf b s) s).port n = { s.port n with withhold := w } := by
  induction l with
  | nil => exact fun s => ⟨_, rfl, fun n => ⟨_, rfl⟩⟩
  | cons b l ih =>
    intro s
    obtain ⟨ps, hs⟩ := freeBuf_shape b s
    obtain ⟨ps', hs', hport⟩ := ih (freeBuf b s)
    refine ⟨ps', ?_, fun n => ?_⟩
    · rw [List.foldl_cons, hs', hs]
      rfl
    · obtain ⟨w, hw⟩ := hport n
      obtain ⟨w', hw'⟩ := freeBuf_port b s n
      exact ⟨w, by rw [List.foldl_cons, hw, hw']⟩

theorem foldl_erase_self {α : Type} [BEq α] [LawfulBEq α] (l : List α) : l.foldl (fun bs b => bs.erase b) l = [] := by
  induction l with
  | nil => rfl
  | cons b l ih =>
    rw [List.foldl_cons, List.erase_cons_head]
    exact ih

/-- R319: every buffer is returned. -/
theorem bpmReturnAll_shape (s : State) : ∃ ps, bpmReturnAll s = { s with ports := ps, bpm := { s.bpm with bufs := [] } } ∧
    ∀ n, ∃ w, (bpmReturnAll s).port n = { s.port n with withhold := w } := by
  obtain ⟨ps, hs, hport⟩ := returnAll_shape s.bpm.bufs s
  rw [foldl_erase_self] at hs
  exact ⟨ps, hs, hport⟩

/-! ## Packets sent in a row -/

/-- `t` is `s` after packets under `k` new message numbers have been sent. -/
def Spoke (k : W32) (s t : State) : Prop := Sent { s with msgCtr := s.msgCtr + k } t

theorem plus_zero (s : State) : { s with msgCtr := s.msgCtr + 0 } = s :=
  congrArg (fun c : W32 => { s with msgCtr := c }) (BitVec.add_zero s.msgCtr)

theorem Spoke.refl (s : State) : Spoke 0 s s := by
  unfold Spoke
  rw [plus_zero s]
  exact Sent.refl s

theorem Sent.from_msgCtr (h : Sent s t) (m : W32) : Sent { s with msgCtr := m } { t with msgCtr := m } := by
  obtain ⟨_, _, _, _, _, _, _, _, _, _, _, _, rfl⟩ := h.shape
  exact ⟨⟨_, _, _, _, _, _, _, _, _, _, _, _, rfl⟩, h.regs, h.ports, h.faults⟩

theorem Sent.msgCtr (h : Sent s t) : t.msgCtr = s.msgCtr := by
  obtain ⟨_, _, _, _, _, _, _, _, _, _, _, _, rfl⟩ := h.shape
  rfl

theorem Spoke.trans {j k : W32} (h : Spoke j s t) (h' : Spoke k t u) : Spoke (j + k) s u := by
  have hctr : t.msgCtr = s.msgCtr + j := h.msgCtr
  have hfirst := Sent.from_msgCtr h (t.msgCtr + k)
  rw [hctr, BitVec.add_assoc] at hfirst
  refine hfirst.trans ?_
  rw [← BitVec.add_assoc, ← hctr]
  exact h'

theorem Sent.spoke (h : Sent s t) : Spoke 0 s t := by
  unfold Spoke
  rw [plus_zero s]
  exact h

theorem newMsgId_spoke (s : State) : Spoke 1 s (newMsgId s).2 := Sent.refl _

theorem Spoke.sent {k : W32} (h : Spoke k s t) (h' : Sent t u) : Spoke k s u := Sent.trans h h'

/-- A fold each of whose steps sends one packet. -/
theorem foldl_spoke {α : Type} {f : State → α → State} {k : W32} (hf : ∀ t x, Spoke k t (f t x)) (l : List α) (s : State) :
    Spoke (BitVec.ofNat 32 l.length * k) s (l.foldl f s) := by
  induction l generalizing s with
  | nil =>
    rw [List.length_nil, show BitVec.ofNat 32 0 * k = 0 from BitVec.zero_mul]
    exact Spoke.refl s
  | cons x l ih =>
    have h := (hf s x).trans (ih (f s x))
    rw [List.foldl_cons, List.length_cons]
    have he : k + BitVec.ofNat 32 l.length * k = BitVec.ofNat 32 (l.length + 1) * k := by
      rw [BitVec.ofNat_add, BitVec.add_mul, show BitVec.ofNat 32 1 * k = k from BitVec.one_mul k, BitVec.add_comm]
    rw [← he]
    exact h

end Sys2Proof.Proofs
end

section
/-!
PROOFS. The job restart (O42).
-/

namespace Sys2Proof.Proofs
open Sys2Proof Sys2Proof.Machine Sys2Proof.Claims

set_option Elab.async false

variable {s t u : State}

/-! ## Events -/

/-- R378, R379: an event joins the queue, and goes out if it can. -/
theorem pushEvent_leaves (cls block : Nat) (data : W64) (s : State) :
    (∃ c f x, pushEvent s cls block data = { s with csr := c, fresh := f, hep := x }) ∧
      (∀ a, a ≠ 0x9000410 → (pushEvent s cls block data).reg a = s.reg a) ∧
        (pushEvent s cls block data).hep.nextEseq = s.hep.nextEseq + 1 := by
  have hqueue : (∃ c x, queueEvent s cls block data = { s with csr := c, hep := x }) ∧
      (∀ a, a ≠ 0x9000410 → (queueEvent s cls block data).reg a = s.reg a) ∧
        (queueEvent s cls block data).hep.nextEseq = s.hep.nextEseq + 1 := by
    unfold queueEvent
    generalize decide (s.hep.events.length ≥ 256) = full
    cases full with
    | false => exact ⟨⟨_, _, rfl⟩, fun _ _ => rfl, rfl⟩
    | true => exact ⟨⟨_, _, rfl⟩, fun a ha => (reg_countReg s _ a 1).trans (if_neg ha), rfl⟩
  obtain ⟨⟨c, x, hshape⟩, hreg, heseq⟩ := hqueue
  obtain ⟨⟨f, ps, l, es, hsent⟩, _, _, _⟩ := sendEvents_out (queueEvent s cls block data) (unsentEvents (queueEvent s cls block data))
  unfold pushEvent
  dsimp only
  rw [hsent]
  refine ⟨⟨c, f, { x with ports := ps, lostNow := l, events := es }, by rw [hshape]⟩, hreg, heseq⟩

theorem pushEvent_field {cls block : Nat} {data : W64} {a : Nat} (ha : a ≠ 0x9000410) (hi lo : Nat) (s : State) :
    (pushEvent s cls block data).field a hi lo = s.field a hi lo :=
  congrArg (fun v : W64 => bits v.toNat hi lo) ((pushEvent_leaves cls block data s).2.1 a ha)

/-! ## A wave of STOP -/

theorem stopWave_deferred (h : restarting s = true) : stopWave s = { s with rack := { s.rack with stopDeferred := true } } := by
  unfold stopWave
  rw [if_pos h]

/-- R328: the switch halts itself with the next wave. -/
theorem stopWave_halts (hr : restarting s = false) (hh : halted s = false) :
    IsHalted (stopWave s) (ownSw s) ((s.regN 0x60 + 1) % 2 ^ 16) ∧
      ∃ c ps q m ev, stopWave s = { s with csr := c, ports := ps, seqCtr := q, msgCtr := m, evts := ev } := by
  have hown : ownSw (s.setRegN 0x60 ((s.regN 0x60 + 1) % 2 ^ 16)) = ownSw s := field_setRegN_ne (by decide)
  have hgo : stopWave s = sendStops (ownSw s) ((s.regN 0x60 + 1) % 2 ^ 16) none
      (halt (ownSw s) ((s.regN 0x60 + 1) % 2 ^ 16) (s.setRegN 0x60 ((s.regN 0x60 + 1) % 2 ^ 16))) := by
    unfold stopWave
    rw [hr, hh, if_neg Bool.false_ne_true, if_neg Bool.false_ne_true]
    dsimp only
    rw [hown]
  rw [hgo]
  refine ⟨isHalted_sendStops (halt_isHalted _ _ _), ?_⟩
  obtain ⟨⟨c, _, _, hhalt⟩, _⟩ := halt_leaves (ownSw s) ((s.regN 0x60 + 1) % 2 ^ 16) (s.setRegN 0x60 ((s.regN 0x60 + 1) % 2 ^ 16))
  obtain ⟨⟨ps, q, m, hsent⟩, _⟩ := sendStops_leaves (ownSw s) ((s.regN 0x60 + 1) % 2 ^ 16) none
    (halt (ownSw s) ((s.regN 0x60 + 1) % 2 ^ 16) (s.setRegN 0x60 ((s.regN 0x60 + 1) % 2 ^ 16)))
  exact ⟨c, ps, q, m, _, by rw [hsent, hhalt]; rfl⟩

/-! ## RESULT and REASON -/

theorem restartResult_fields {result reason : Nat} (h1 : result < 4) (h2 : reason < 16) (s : State) :
    (restartResult result reason s).field 0x94 3 2 = result ∧ (restartResult result reason s).field 0x94 7 4 = reason ∧
      (restartResult result reason s).field 0x94 1 0 = s.field 0x94 1 0 := by
  unfold restartResult
  refine ⟨?_, ?_, ?_⟩
  · rw [field_setField_below (by decide) (by decide) (by decide), field_setField_same (by decide) (by decide)]
    exact Nat.mod_eq_of_lt h1
  · rw [field_setField_same (by decide) (by decide)]
    exact Nat.mod_eq_of_lt h2
  · rw [field_setField_below (by decide) (by decide) (by decide), field_setField_below (by decide) (by decide) (by decide)]

theorem restartResult_shape (result reason : Nat) (s : State) : ∃ c, restartResult result reason s = { s with csr := c } := ⟨_, rfl⟩

theorem reg_restartResult {result reason a : Nat} (ha : a ≠ 0x94) (s : State) : (restartResult result reason s).reg a = s.reg a := by
  unfold restartResult
  rw [reg_setField_ne ha, reg_setField_ne ha]

theorem restartResult_refuses {reason : Nat} (h : reason < 16) (s : State) :
    (restartResult 2 reason s).field 0x94 3 2 = 2 ∧ (restartResult 2 reason s).field 0x94 7 4 = reason ∧
      (restartResult 2 reason s).colls = s.colls ∧ (restartResult 2 reason s).ports = s.ports := by
  obtain ⟨h1, h2, -⟩ := restartResult_fields (result := 2) (by decide) h s
  exact ⟨h1, h2, rfl, rfl⟩

/-! ## The ports -/

/-- A port whose packets a restart has discarded. -/
def clearedPort (q : Port) : Port :=
  { q with egress := [], kept := [], rxq := [], rxOwed := q.rxHeld.foldl (fun t e => tabAdd t e.1 e.2) q.rxOwed, rxHeld := [] }

theorem port_map (f : Port → Port) (s : State) (n : Nat) : ({ s with ports := s.ports.map f } : State).port n = f (s.port n) := by
  simp [State.port, get_eq]

theorem countAll_shape {α β : Type} (l : List α) (k : State → α → List β) (g : α → β → State → State)
    (hg : ∀ x y t, ∃ ev, g x y t = { t with evts := ev }) :
    ∃ ev, l.foldl (fun t x => (k t x).foldl (fun t y => g x y t) t) s = { s with evts := ev } := by
  refine foldl_invariant (P := fun t : State => ∃ ev, t = { s with evts := ev }) ?_ ⟨s.evts, rfl⟩
  rintro t x ht
  refine foldl_invariant (P := fun t : State => ∃ ev, t = { s with evts := ev }) ?_ ht
  rintro t y ⟨ev, rfl⟩
  obtain ⟨ev', h'⟩ := hg x y { s with evts := ev }
  exact ⟨ev', h'⟩

theorem restartPorts_shape (s : State) : ∃ ev, restartPorts s = { s with evts := ev, ports := s.ports.map clearedPort } := by
  obtain ⟨ev, h⟩ := countAll_shape (s := s) allPorts (fun t n => (t.port n).rxq) (fun n e => countPkt 0x02A n e.pkt)
    (fun _ _ _ => ⟨_, rfl⟩)
  unfold restartPorts
  dsimp only at h ⊢
  rw [h]
  exact ⟨ev, rfl⟩

/-! ## The collectives -/

/-- R197: the ABORTs of a restart go out as if the switch were not halted. -/
theorem restartAborts_leaves (s : State) : ∃ k t, Spoke k (s.setField 0x58 48 48 0) t ∧ restartAborts s = t.setField 0x58 48 48 1 ∧
    (s.colls = [] → t = s.setField 0x58 48 48 0) := by
  have hinner : ∀ (l : List (Nat × Nat)) (g : State → Nat × Nat → State) (t : State), (∀ t m, Spoke 1 t (g t m)) →
      ∃ k, Spoke k t (l.foldl g t) := fun l g t hg => ⟨_, foldl_spoke hg l t⟩
  have houter : ∀ (l : List Coll) (t : State), ∃ k, Spoke k t (l.foldl (fun s c =>
      let s := count 0x066 1 (some c.port) (some c.tc) (some c.group) s
      ((localMembers s c.group).filter (fun m => (s.port m.1).link == .up)).foldl (fun s m =>
        let (id, s) := newMsgId s
        originate (c.group % 4) (mkPacket tAbort c.tc (ownSw s + m.1 * 2 ^ 18) false id 0 1 []
          [(256, 12, c.group), (272, 16, grpEpoch s c.group), (288, 32, c.cseq.toNat), (320, 8, 5), (352, 32, c.digest.toNat),
            (384, 32, 0xFFFFFFFF)]) s) s) t) := by
    intro l
    induction l with
    | nil => exact fun t => ⟨0, Spoke.refl t⟩
    | cons c l ih =>
      intro t
      have hcount : Spoke 0 t (count 0x066 1 (some c.port) (some c.tc) (some c.group) t) := (count_sent (Sent.refl t)).spoke
      obtain ⟨j, hj⟩ := hinner ((localMembers (count 0x066 1 (some c.port) (some c.tc) (some c.group) t) c.group).filter
          (fun m => ((count 0x066 1 (some c.port) (some c.tc) (some c.group) t).port m.1).link == .up))
        (fun s m => originate (c.group % 4) (mkPacket tAbort c.tc (ownSw (newMsgId s).2 + m.1 * 2 ^ 18) false (newMsgId s).1 0 1 []
          [(256, 12, c.group), (272, 16, grpEpoch (newMsgId s).2 c.group), (288, 32, c.cseq.toNat), (320, 8, 5),
            (352, 32, c.digest.toNat), (384, 32, 0xFFFFFFFF)]) (newMsgId s).2)
        (count 0x066 1 (some c.port) (some c.tc) (some c.group) t)
        (fun t m => (newMsgId_spoke t).sent (originate_sent (Sent.refl _)))
      obtain ⟨k, hk⟩ := ih _
      exact ⟨_, (hcount.trans hj).trans hk⟩
  obtain ⟨k, hk⟩ := houter s.colls (s.setField 0x58 48 48 0)
  refine ⟨k, _, hk, rfl, fun hnone => ?_⟩
  rw [hnone]
  rfl

/-- The registers a restart keeps: those that no packet sent, no epoch and no engine writes. -/
def restartKept (a : Nat) : Prop := sendReg a = false ∧ a ≠ 0x58 ∧ a ≠ 0x400006C ∧ (a < 0x1000000 ∨ (0x2000000 ≤ a ∧ a < 0x4010000))

theorem restartEpochs_leaves (s : State) : (∃ c, restartEpochs s = { s with csr := c }) ∧
    ∀ a, restartKept a → (restartEpochs s).reg a = s.reg a := by
  have hports : ∀ (l : List Nat) (t : State), (∀ n ∈ l, n < 64) → (∃ c, l.foldl (fun s n => s.setRegN (puBase n + 0x80)
      ((s.field (puBase n + 0x80) 7 0 + 1) % 256)) t = { t with csr := c }) ∧ ∀ a, restartKept a →
        (l.foldl (fun s n => s.setRegN (puBase n + 0x80) ((s.field (puBase n + 0x80) 7 0 + 1) % 256)) t).reg a = t.reg a := by
    intro l
    induction l with
    | nil => exact fun t _ => ⟨⟨_, rfl⟩, fun _ _ => rfl⟩
    | cons n l ih =>
      intro t hl
      have hn := hl n List.mem_cons_self
      obtain ⟨⟨c, hc⟩, hreg⟩ := ih (t.setRegN (puBase n + 0x80) ((t.field (puBase n + 0x80) 7 0 + 1) % 256))
        (fun m hm => hl m (List.mem_cons_of_mem n hm))
      refine ⟨⟨c, by rw [List.foldl_cons, hc]; rfl⟩, fun a ha => ?_⟩
      have hp : puBase n = 0x1000000 + n * 0x10000 := rfl
      have hrange := ha.2.2.2
      rw [List.foldl_cons, hreg a ha, reg_setRegN, if_neg (by omega)]
  obtain ⟨⟨c, hc⟩, hreg⟩ := hports allPorts { s with csr := s.csr.filter (fun e =>
    !(decide (0x4010000 ≤ e.1) && decide (e.1 < 0x4030000) && e.1 % 0x20 == 0x1C) &&
      !(decide (0x4060000 ≤ e.1) && decide (e.1 < 0x4061000) && e.1 % 0x40 == 0x2C)) } (fun n hn => List.mem_range.1 hn)
  refine ⟨⟨c, hc⟩, fun a ha => ?_⟩
  refine (hreg a ha).trans ?_
  obtain ⟨-, -, -, hrange⟩ := ha
  have h1 : decide (0x4010000 ≤ a) = false := decide_eq_false (by omega)
  have h2 : decide (0x4060000 ≤ a) = false := decide_eq_false (by omega)
  have hget := tabGet_filter s.csr (fun k => !(decide (0x4010000 ≤ k) && decide (k < 0x4030000) && k % 0x20 == 0x1C) &&
    !(decide (0x4060000 ≤ k) && decide (k < 0x4061000) && k % 0x40 == 0x2C)) a
  rw [h1, h2] at hget
  rw [State.reg, State.reg]
  exact congrArg (fun v : Option W64 => v.getD (regReset s.fuses a)) hget

/-- Nothing of the state but what a packet's sending may change. -/
def SentShape (s t : State) : Prop := ∃ c w ev ex ra ag ge gp co ps sp q m, t =
  { s with
    csr := c, w1cSet := w, evts := ev, excNow := ex, raised := ra, again := ag, gerr := ge, gpoison := gp, corrected := co,
    ports := ps, spread := sp, seqCtr := q, msgCtr := m }

theorem Spoke.sentShape {k : W32} (h : Spoke k s t) : SentShape s t := by
  obtain ⟨_, _, _, _, _, _, _, _, _, _, _, _, ht⟩ := h.shape
  exact ⟨_, _, _, _, _, _, _, _, _, _, _, _, _, ht⟩

theorem Spoke.port {k : W32} (h : Spoke k s t) (n : Nat) : ∃ e, t.port n = { s.port n with egress := (s.port n).egress ++ e } := h.ports n

theorem SentShape.of_csr (h : SentShape s t) {c : Tab W64} (hu : u = { t with csr := c }) : SentShape s u := by
  obtain ⟨_, _, _, _, _, _, _, _, _, _, _, _, _, rfl⟩ := h
  exact ⟨_, _, _, _, _, _, _, _, _, _, _, _, _, hu⟩

theorem SentShape.trans (h : SentShape s t) (h' : SentShape t u) : SentShape s u := by
  obtain ⟨_, _, _, _, _, _, _, _, _, _, _, _, _, rfl⟩ := h
  obtain ⟨_, _, _, _, _, _, _, _, _, _, _, _, _, rfl⟩ := h'
  exact ⟨_, _, _, _, _, _, _, _, _, _, _, _, _, rfl⟩

theorem setField_sentShape (s : State) (a hi lo x : Nat) : SentShape s (s.setField a hi lo x) := by
  rw [State.setField]
  generalize setBits (s.regN a) hi lo x = v
  exact ⟨_, _, _, _, _, _, _, _, _, _, _, _, _, rfl⟩

/-- The work of the CSQ that a restart drops. -/
def csqDropped (v : State) : State :=
  { v with
    colls := [], closed := [], collWait := [], xsteps := [], combs := [], xclosed := [],
    parkedKeys := [], parked := [], parkMsgs := [], parkMeta := [], parkWait := [],
    slices := v.slices.map (fun d => if d == .draining then .disabled else d) }

theorem csqDropped_port (v : State) (n : Nat) : (csqDropped v).port n = v.port n := rfl

theorem csqDropped_reg (v : State) (a : Nat) : (csqDropped v).reg a = v.reg a := rfl

theorem port_setCsr (c : Tab W64) (n : Nat) : ({ s with csr := c } : State).port n = s.port n := rfl

theorem csqDropped_setField (v : State) (a hi lo x : Nat) : (csqDropped v).setField a hi lo x = csqDropped (v.setField a hi lo x) := rfl

theorem restartCsq_eq (s : State) : restartCsq s = (csqDropped (restartEpochs (restartAborts s))).setField 0x400006C 1 0 0 := by
  unfold restartCsq
  generalize restartEpochs (restartAborts s) = v
  extract_lets r
  rfl

/-- R197, R216, R242: what the CSQ's part leaves. -/
theorem restartCsq_leaves (s : State) : (∃ v, SentShape s v ∧ restartCsq s = csqDropped v) ∧
    (∀ a, restartKept a → (restartCsq s).reg a = s.reg a) ∧
    ∀ n, ∃ e, (restartCsq s).port n = { s.port n with egress := (s.port n).egress ++ e } ∧ (s.colls = [] → e = []) := by
  obtain ⟨k, t, hspoke, haborts, hnone⟩ := restartAborts_leaves s
  obtain ⟨⟨c, hepochs⟩, hreg⟩ := restartEpochs_leaves (restartAborts s)
  have hshape : SentShape s (restartEpochs (restartAborts s)) := by
    have h1 : SentShape s (restartAborts s) := by
      rw [haborts]
      exact ((setField_sentShape s _ _ _ _).trans hspoke.sentShape).trans (setField_sentShape t _ _ _ _)
    exact h1.of_csr hepochs
  have hport : ∀ n, (restartEpochs (restartAborts s)).port n = t.port n := fun n => by
    rw [hepochs, port_setCsr, haborts, port_setField]
  have hregs : ∀ a, restartKept a → (restartEpochs (restartAborts s)).reg a = s.reg a := fun a ha => by
    rw [hreg a ha, haborts, reg_setField_ne ha.2.1, hspoke.regs a ha.1]
    exact reg_setField_ne ha.2.1
  have hcsq := restartCsq_eq s
  generalize restartEpochs (restartAborts s) = v at *
  have hdrop := csqDropped_setField v 0x400006C 1 0 0
  rw [hcsq, hdrop]
  refine ⟨⟨_, hshape.trans (setField_sentShape v _ _ _ _), rfl⟩, fun a ha => ?_, fun n => ?_⟩
  · rw [csqDropped_reg, reg_setField_ne ha.2.2.1]
    exact hregs a ha
  · obtain ⟨e, he⟩ := hspoke.port n
    rw [csqDropped_port, port_setField, hport n]
    by_cases hc : s.colls = []
    · refine ⟨[], ?_, fun _ => rfl⟩
      rw [List.append_nil, hnone hc, port_setField]
    · rw [port_setField] at he
      exact ⟨e, he, fun h => absurd h hc⟩

/-! ## The engines -/

theorem emptied_mapEngines (f : Engine → Engine) (hf : ∀ x, (f x).runs = x.runs ∧ (f x).queue = x.queue ∧ (f x).heldRuns = x.heldRuns)
    (n : Nat) (h : Emptied (s.engine n)) : Emptied (({ s with engines := s.engines.map f } : State).engine n) := by
  obtain ⟨hq, hh, hr⟩ := h
  obtain ⟨h1, h2, h3⟩ := hf (s.engine n)
  rw [engine_mapEngines]
  exact ⟨h2.trans hq, h3.trans hh, h1.trans hr⟩

/-- One engine's runs end, if it is present. -/
def emptiedEngine (s : State) (e : Nat) : State := if present s e then (endRuns e s).setField (jBase e + 0x24) 2 0 0 else s

theorem emptiedEngine_shape (s : State) (e : Nat) : ∃ c ev g, emptiedEngine s e = { s with csr := c, evts := ev, engines := g } := by
  unfold emptiedEngine
  split
  · exact ⟨_, _, _, rfl⟩
  · exact ⟨_, _, _, rfl⟩

theorem reg_emptiedEngine {a : Nat} (ha : a < 0x5000000) (e : Nat) (s : State) :
    (emptiedEngine s e).reg a = s.reg a := by
  have hj : jBase e = 0x5000000 + e * 0x40000 := rfl
  unfold emptiedEngine
  split
  · rw [reg_setField_ne (by omega)]
    rfl
  · rfl


theorem engine_endRuns_ne {n e : Nat} (hn : n < 64) (he : e < 64) (hne : n ≠ e) (s : State) : (endRuns e s).engine n = s.engine n :=
  engine_setEngine_ne s e n _ (by omega)

theorem engine_setField (a hi lo x n : Nat) : (s.setField a hi lo x).engine n = s.engine n := rfl

theorem emptiedEngine_empties {n : Nat} (hp : present s n = true) : Emptied ((emptiedEngine s n).engine n) := by
  unfold emptiedEngine
  rw [if_pos hp, engine_setField]
  exact endRuns_empties n s

theorem emptiedEngine_keeps {n e : Nat} (hn : n < 64) (he : e < 64) (hne : n ≠ e) (h : Emptied (s.engine n)) :
    Emptied ((emptiedEngine s e).engine n) := by
  unfold emptiedEngine
  split
  · rw [engine_setField]
    exact engine_endRuns_ne hn he hne s ▸ h
  · exact h

/-- An engine whose tile cache a restart has emptied. -/
def settledEngine (x : Engine) : Engine := { x with tcache := [], dis := if x.dis == .draining then .disabled else x.dis }

/-- R173: the engines' runs end. -/
theorem restartEngines_leaves (s : State) : (∃ c ev g, restartEngines s = { s with csr := c, evts := ev, engines := g }) ∧
    (∀ a, a < 0x5000000 → (restartEngines s).reg a = s.reg a) ∧
    ∀ n, n < 64 → present s n = true → Emptied ((restartEngines s).engine n) := by
  have hfold : ∀ (l : List Nat) (t : State), (∀ e ∈ l, e < 64) → (∃ c ev g, l.foldl emptiedEngine t = { t with csr := c, evts := ev, engines := g }) ∧
      (∀ a, a < 0x5000000 → (l.foldl emptiedEngine t).reg a = t.reg a) ∧
      ∀ n, n < 64 → present t n = true → (n ∈ l ∨ Emptied (t.engine n)) → Emptied ((l.foldl emptiedEngine t).engine n) := by
    intro l
    induction l with
    | nil => exact fun t _ => ⟨⟨_, _, _, rfl⟩, fun _ _ => rfl, fun n _ _ h => h.resolve_left List.not_mem_nil⟩
    | cons e l ih =>
      intro t hl
      obtain ⟨c, ev, g, hone⟩ := emptiedEngine_shape t e
      obtain ⟨⟨c', ev', g', hrest⟩, hreg, hempty⟩ := ih (emptiedEngine t e) (fun m hm => hl m (List.mem_cons_of_mem e hm))
      have hpresent : ∀ n, present (emptiedEngine t e) n = present t n := fun n => by rw [hone]; rfl
      refine ⟨⟨c', ev', g', by rw [List.foldl_cons, hrest, hone]⟩, fun a ha => (hreg a ha).trans (reg_emptiedEngine ha e t), fun n hn hp hmem => ?_⟩
      refine hempty n hn ((hpresent n).trans hp) ?_
      by_cases hne : n = e
      · subst hne
        exact .inr (emptiedEngine_empties hp)
      · rcases hmem with hmem | hmem
        · exact .inl ((List.mem_cons.1 hmem).resolve_left hne)
        · exact .inr (emptiedEngine_keeps hn (hl e List.mem_cons_self) hne hmem)
  obtain ⟨⟨c, ev, g, hshape⟩, hreg, hempty⟩ := hfold (List.range 64) s (fun e he => List.mem_range.1 he)
  have heq : restartEngines s = { (List.range 64).foldl emptiedEngine s with
      engines := ((List.range 64).foldl emptiedEngine s).engines.map settledEngine } := rfl
  rw [heq]
  generalize (List.range 64).foldl emptiedEngine s = v at hshape hreg hempty ⊢
  refine ⟨⟨c, ev, v.engines.map settledEngine, by rw [hshape]⟩, fun a ha => ?_, fun n hn hp => ?_⟩
  · exact hreg a ha
  · exact emptied_mapEngines settledEngine (fun _ => ⟨rfl, rfl, rfl⟩) n (hempty n hn hp (.inl (List.mem_range.2 hn)))

/-! ## What a restart drops -/

/-- R338: the work of the fabric that a restart drops. -/
def restartDrops (s : State) : State := refillMeters (bpmReturnAll (msuClear (restartMsgs (restartEngines (restartCsq (restartPorts s))))))

/-- The work of the CSQ, that of the store, and what a restart leaves of the chip. -/
def csqWork (u : State) := (u.colls, u.closed, u.xsteps, u.combs, u.collWait)
def msuWork (u : State) := (u.msgs, u.releases, u.resps, u.results)
def chipHolds (u : State) := (u.mem, u.poison, u.fuses)

/-- Nothing of the fabric's work is left. -/
def NoWork (u : State) : Prop :=
  csqWork u = ([], [], [], [], []) ∧ msuWork u = ([], [], [], []) ∧ u.waits = [] ∧ u.milestones = [] ∧ u.bpm.bufs = []

theorem restartMsgs_shape (s : State) : ∃ ev, restartMsgs s = { s with evts := ev, msgs := [], resps := [], results := [], releases := [] } := by
  have hfold : ∃ ev, s.msgs.foldl (fun s m => count 0x056 1 (some m.port) (some (Packet.mk m.hdr []).tc) none s) s = { s with evts := ev } := by
    refine foldl_invariant (P := fun t : State => ∃ ev, t = { s with evts := ev }) ?_ ⟨s.evts, rfl⟩
    rintro t m ⟨ev, rfl⟩
    exact ⟨_, rfl⟩
  obtain ⟨ev, h⟩ := hfold
  unfold restartMsgs
  dsimp only
  rw [h]
  exact ⟨ev, rfl⟩

/-- What comes after the CSQ's part keeps the CSQ's work and the memories. -/
theorem restartDrops_tail (s : State) : csqWork (refillMeters (bpmReturnAll (msuClear (restartMsgs (restartEngines s))))) = csqWork s ∧
    chipHolds (refillMeters (bpmReturnAll (msuClear (restartMsgs (restartEngines s))))) = chipHolds s := by
  have hengines : csqWork (restartEngines s) = csqWork s ∧ chipHolds (restartEngines s) = chipHolds s := by
    obtain ⟨⟨_, _, _, h⟩, -, -⟩ := restartEngines_leaves s
    rw [h]
    exact ⟨rfl, rfl⟩
  have hmsgs : ∀ t, csqWork (restartMsgs t) = csqWork t ∧ chipHolds (restartMsgs t) = chipHolds t := fun t => by
    obtain ⟨_, h⟩ := restartMsgs_shape t
    rw [h]
    exact ⟨rfl, rfl⟩
  have hbpm : ∀ t, csqWork (bpmReturnAll t) = csqWork t ∧ chipHolds (bpmReturnAll t) = chipHolds t := fun t => by
    obtain ⟨_, h, -⟩ := bpmReturnAll_shape t
    rw [h]
    exact ⟨rfl, rfl⟩
  have hrefill : ∀ t, csqWork (refillMeters t) = csqWork t ∧ chipHolds (refillMeters t) = chipHolds t := fun t => by
    rw [refillMeters_shape]
    exact ⟨rfl, rfl⟩
  have hclear : ∀ t, csqWork (msuClear t) = csqWork t ∧ chipHolds (msuClear t) = chipHolds t := fun _ => ⟨rfl, rfl⟩
  refine ⟨?_, ?_⟩
  · rw [(hrefill _).1, (hbpm _).1, (hclear _).1, (hmsgs _).1, hengines.1]
  · rw [(hrefill _).2, (hbpm _).2, (hclear _).2, (hmsgs _).2, hengines.2]

theorem restartDrops_work (s : State) : NoWork (restartDrops s) ∧ chipHolds (restartDrops s) = chipHolds s := by
  unfold restartDrops
  have hports : chipHolds (restartPorts s) = chipHolds s := by
    obtain ⟨_, h⟩ := restartPorts_shape s
    rw [h]
    rfl
  have hcsq : ∀ t, csqWork (restartCsq t) = ([], [], [], [], []) ∧ chipHolds (restartCsq t) = chipHolds t := fun t => by
    obtain ⟨⟨v, ⟨_, _, _, _, _, _, _, _, _, _, _, _, _, hv⟩, h⟩, -, -⟩ := restartCsq_leaves t
    have hhold : chipHolds v = chipHolds t := by
      rw [hv]
      rfl
    rw [h]
    exact ⟨rfl, hhold⟩
  obtain ⟨hwork, hhold⟩ := restartDrops_tail (restartCsq (restartPorts s))
  rw [(hcsq _).1] at hwork
  rw [(hcsq _).2, hports] at hhold
  refine ⟨⟨hwork, ?_⟩, hhold⟩
  generalize restartEngines (restartCsq (restartPorts s)) = v
  obtain ⟨_, h4⟩ := restartMsgs_shape v
  have hstore : msuWork (msuClear (restartMsgs v)) = ([], [], [], []) := by
    rw [h4]
    rfl
  have hmilestones : (msuClear (restartMsgs v)).waits = [] ∧ (msuClear (restartMsgs v)).milestones = [] := ⟨rfl, rfl⟩
  generalize msuClear (restartMsgs v) = w at hstore hmilestones ⊢
  obtain ⟨_, h5, -⟩ := bpmReturnAll_shape w
  rw [refillMeters_shape, h5]
  exact ⟨hstore, hmilestones.1, hmilestones.2, rfl⟩

/-! Each part leaves what is not its own. -/

theorem restartPorts_beside (s : State) : (restartPorts s).csr = s.csr ∧ (restartPorts s).fuses = s.fuses ∧ (restartPorts s).colls = s.colls ∧
    ∀ n, (restartPorts s).port n = clearedPort (s.port n) := by
  obtain ⟨_, h⟩ := restartPorts_shape s
  rw [h]
  exact ⟨rfl, rfl, rfl, port_map clearedPort s⟩

theorem restartCsq_fuses (s : State) : (restartCsq s).fuses = s.fuses := by
  obtain ⟨⟨v, ⟨_, _, _, _, _, _, _, _, _, _, _, _, _, hv⟩, h⟩, -, -⟩ := restartCsq_leaves s
  have hcsq : v.fuses = s.fuses := by rw [hv]
  rw [h]
  exact hcsq

theorem restartEngines_port (s : State) (n : Nat) : (restartEngines s).port n = s.port n := by
  obtain ⟨⟨_, _, _, h⟩, -, -⟩ := restartEngines_leaves s
  rw [h]
  rfl

theorem restartStore_beside (s : State) (n a : Nat) : (msuClear (restartMsgs s)).reg a = s.reg a ∧
    (msuClear (restartMsgs s)).port n = s.port n ∧ (msuClear (restartMsgs s)).engine n = s.engine n := by
  obtain ⟨_, h⟩ := restartMsgs_shape s
  rw [h]
  exact ⟨rfl, rfl, rfl⟩

theorem bpmReturnAll_beside (s : State) (n a : Nat) : (bpmReturnAll s).reg a = s.reg a ∧ (bpmReturnAll s).engine n = s.engine n := by
  obtain ⟨_, h, -⟩ := bpmReturnAll_shape s
  rw [h]
  exact ⟨rfl, rfl⟩

theorem refillMeters_beside (s : State) (n : Nat) : (refillMeters s).port n = s.port n ∧ (refillMeters s).engine n = s.engine n := by
  rw [refillMeters_shape]
  exact ⟨rfl, rfl⟩

theorem restartDrops_reg {a : Nat} (ha : restartKept a) (s : State) : (restartDrops s).reg a = s.reg a := by
  have hrange := ha.2.2.2
  obtain ⟨hcsr, hfuses, -, -⟩ := restartPorts_beside s
  obtain ⟨-, h2, -⟩ := restartCsq_leaves (restartPorts s)
  obtain ⟨-, h3, -⟩ := restartEngines_leaves (restartCsq (restartPorts s))
  have hports : (restartPorts s).reg a = s.reg a := by rw [State.reg, State.reg, hcsr, hfuses]
  rw [restartDrops, reg_refillMeters_outside (by omega), (bpmReturnAll_beside _ 0 a).1, (restartStore_beside _ 0 a).1, h3 a (by omega), h2 a ha, hports]

theorem restartDrops_port (s : State) (n : Nat) : ∃ e w, (restartDrops s).port n =
      { clearedPort (s.port n) with egress := e, withhold := w } ∧ (s.colls = [] → e = []) := by
  obtain ⟨-, -, hcolls, hports⟩ := restartPorts_beside s
  obtain ⟨-, -, h2⟩ := restartCsq_leaves (restartPorts s)
  obtain ⟨_, -, h5⟩ := bpmReturnAll_shape (msuClear (restartMsgs (restartEngines (restartCsq (restartPorts s)))))
  obtain ⟨e, he, hnone⟩ := h2 n
  obtain ⟨w, hw⟩ := h5 n
  rw [restartDrops, (refillMeters_beside _ n).1, hw, (restartStore_beside _ n 0).2.1, restartEngines_port, he, hports]
  exact ⟨e, w, rfl, fun h => hnone (hcolls.trans h)⟩

theorem restartDrops_engine (s : State) {n : Nat} (hn : n < 64) (hp : present s n = true) : Emptied ((restartDrops s).engine n) := by
  obtain ⟨-, hfuses, -, -⟩ := restartPorts_beside s
  obtain ⟨-, -, h3⟩ := restartEngines_leaves (restartCsq (restartPorts s))
  rw [restartDrops, (refillMeters_beside _ n).2, (bpmReturnAll_beside _ n 0).2, (restartStore_beside _ n 0).2.2]
  refine h3 n hn ?_
  rw [present, restartCsq_fuses, hfuses]
  exact hp

/-! ## The restart -/

/-- A restart that runs. -/
def underWay (wipe : Bool) (k : Rack) (v : State) : State := { v with seqCtr := 0, rack := { k with restarting := true, restartWipe := wipe } }

/-- The state in which a restart has dropped everything. -/
def restarted (wipe : Bool) (s : State) : State :=
  underWay wipe (restartDrops (restartResult 0 0 (s.setField 0x94 1 0 2))).rack
    ((restartDrops (restartResult 0 0 (s.setField 0x94 1 0 2))).setField 0x30 0 0 0)

theorem restartGo_drops (wipe : Bool) (hidle : Idle s) (hh : halted s = true) (hf : pendingFault s = false) (hr : restarting s = false) :
    restartGo wipe s = if wipe || bit (s.regN 0x100220) 0 then restartWipe (restarted (wipe || bit (s.regN 0x100220) 0) s)
      else restarted (wipe || bit (s.regN 0x100220) 0) s := by
  have hcore : coreOn s = true := hidle
  unfold restartGo
  rw [hcore, hh, hf, hr, if_neg (by decide), if_neg (by decide), if_neg (by decide), if_neg (by decide)]
  extract_lets w a v r k m
  have hrest : restarted w s = underWay w (restartDrops a).rack ((restartDrops a).setField 0x30 0 0 0) := rfl
  have hv : v = restartDrops a := rfl
  have hr : r = v.setField 0x30 0 0 0 := rfl
  have hk : k = v.rack := rfl
  rw [← hv, ← hr, ← hk] at hrest
  clear_value r k
  have hm : m = restarted w s := by
    rw [hrest]
    rfl
  clear_value m
  rw [hm]

/-- What a restart leaves, whether or not it wipes the store. -/
def Restarted (s u : State) (n : Nat) : Prop :=
  (u.field 0x94 1 0 = 2 ∧ u.rack.restarting = true ∧ u.seqCtr = 0 ∧ u.field 0x30 0 0 = 0) ∧ NoWork u ∧
    ((u.port n).replay = (s.port n).replay ∧ (u.port n).rxq = [] ∧ (s.colls = [] → (u.port n).egress = [])) ∧
    (present s n = true → Emptied (u.engine n))

theorem underWay_beside (wipe : Bool) (k : Rack) (v : State) (n a : Nat) : (underWay wipe k v).reg a = v.reg a ∧ (underWay wipe k v).port n = v.port n ∧
    (underWay wipe k v).engine n = v.engine n ∧ chipHolds (underWay wipe k v) = chipHolds v ∧ (NoWork v → NoWork (underWay wipe k v)) :=
  ⟨rfl, rfl, rfl, rfl, fun h => h⟩

theorem setField_beside (s : State) (a hi lo x n : Nat) : (s.setField a hi lo x).port n = s.port n ∧ (s.setField a hi lo x).engine n = s.engine n ∧
    chipHolds (s.setField a hi lo x) = chipHolds s ∧ (s.setField a hi lo x).colls = s.colls ∧ (NoWork s → NoWork (s.setField a hi lo x)) :=
  ⟨rfl, rfl, rfl, rfl, fun h => h⟩

theorem restarted_leaves (wipe : Bool) (s : State) {n : Nat} (hn : n < 64) : Restarted s (restarted wipe s) n ∧
    chipHolds (restarted wipe s) = chipHolds s ∧
      ∀ a, restartKept a → a ≠ 0x94 → a ≠ 0x30 → (restarted wipe s).reg a = s.reg a := by
  have hbegin : (restartResult 0 0 (s.setField 0x94 1 0 2)).field 0x94 1 0 = 2 := by
    obtain ⟨-, -, h⟩ := restartResult_fields (result := 0) (reason := 0) (by decide) (by decide) (s.setField 0x94 1 0 2)
    exact h.trans (field_setField_same (by decide) (by decide))
  have hstart : (restartResult 0 0 (s.setField 0x94 1 0 2)).colls = s.colls ∧ (restartResult 0 0 (s.setField 0x94 1 0 2)).port n = s.port n ∧
      chipHolds (restartResult 0 0 (s.setField 0x94 1 0 2)) = chipHolds s := ⟨rfl, rfl, rfl⟩
  have hreg : ∀ a, a ≠ 0x94 → (restartResult 0 0 (s.setField 0x94 1 0 2)).reg a = s.reg a := fun a ha => by
    rw [reg_restartResult ha, reg_setField_ne ha]
  unfold restarted
  generalize restartResult 0 0 (s.setField 0x94 1 0 2) = t at *
  obtain ⟨hcolls, hport, hhold⟩ := hstart
  obtain ⟨hwork, hdrops⟩ := restartDrops_work t
  obtain ⟨e, w, hq, hnone⟩ := restartDrops_port t n
  have hpresent : present t n = present s n :=
    congrArg (fun c : List Host.Cell × List Nat × _ => enginePresent c.2.2 n) hhold
  have hengine : present s n = true → Emptied ((restartDrops t).engine n) := fun hp =>
    restartDrops_engine t hn (hpresent.trans hp)
  have hregs : ∀ a, restartKept a → (restartDrops t).reg a = t.reg a := fun a ha => restartDrops_reg ha t
  rw [hhold] at hdrops
  rw [hport] at hq
  rw [hcolls] at hnone
  generalize restartDrops t = v at *
  obtain ⟨hp, he, hh, -, hw⟩ := setField_beside v 0x30 0 0 0 n
  have h30 : (v.setField 0x30 0 0 0).field 0x30 0 0 = 0 := field_setField_same (by decide) (by decide)
  have h94 : (v.setField 0x30 0 0 0).field 0x94 1 0 = 2 := by
    have hkept : restartKept 0x94 := ⟨by decide, by decide, by decide, by decide⟩
    rw [field_setField_ne (by decide), ← hbegin, State.field, State.field, State.regN, State.regN, hregs 0x94 hkept]
  have hset : ∀ a, a ≠ 0x30 → (v.setField 0x30 0 0 0).reg a = v.reg a := fun a ha => reg_setField_ne ha
  generalize v.setField 0x30 0 0 0 = x at *
  generalize v.rack = k
  obtain ⟨-, hup, hue, huh, huw⟩ := underWay_beside wipe k x n 0
  refine ⟨⟨⟨h94, rfl, rfl, h30⟩, huw (hw hwork), ?_, fun hpr => ?_⟩, huh.trans (hh.trans hdrops), fun a ha h94 h30 => ?_⟩
  · rw [hup, hp, hq]
    exact ⟨rfl, rfl, hnone⟩
  · rw [hue, he]
    exact hengine hpr
  · exact (underWay_beside wipe k x n a).1.trans ((hset a h30).trans ((hregs a ha).trans (hreg a h94)))

theorem wipeStart_leaves (cause : Nat) {u : State} {n : Nat} (h : Restarted s u n) : Restarted s (wipeStart cause u) n := by
  obtain ⟨⟨h94, hrack, hseq, h30⟩, hwork, hport, hengine⟩ := h
  have hreg : ∀ a, a ≠ 0x6000020 → (wipeStart cause u).reg a = u.reg a := fun a ha => by
    have hset : (wipeStart cause u).reg a = (u.setRegN 0x6000020 (1 + cause * 2)).reg a := rfl
    rw [hset, reg_setRegN, if_neg ha]
  refine ⟨⟨?_, hrack, hseq, ?_⟩, hwork, hport, fun hp => ?_⟩
  · exact (congrArg (fun w : W64 => bits w.toNat 1 0) (hreg 0x94 (by decide))).trans h94
  · exact (congrArg (fun w : W64 => bits w.toNat 0 0) (hreg 0x30 (by decide))).trans h30
  · have hmap : (wipeStart cause u).engine n = ({ u with engines := u.engines.map (fun e => { e with tcache := [] }) } : State).engine n := rfl
    rw [hmap]
    exact emptied_mapEngines (fun e => { e with tcache := [] }) (fun _ => ⟨rfl, rfl, rfl⟩) n (hengine hp)

theorem wipeRange_leaves (lo hi : Nat) {u : State} {n : Nat} (h : Restarted s u n) : Restarted s (wipeRange lo hi u) n := h

/-- R286: the wipe of a restart. -/
theorem restartWipe_leaves {u : State} {n : Nat} (h : Restarted s u n) : Restarted s (restartWipe u) n ∧ (restartWipe u).wiping = true ∧
    ∀ x, (x < regionBase u ∨ regionEnd u ≤ x) → x < storeEnd → cellGet 0 (restartWipe u).mem x = 0 := by
  unfold restartWipe
  refine ⟨wipeStart_leaves 3 (wipeRange_leaves _ _ (wipeRange_leaves _ _ h)), rfl, fun x hx hend => ?_⟩
  have hmem : (wipeStart 3 (wipeRange (regionEnd u) storeEnd (wipeRange 0 (regionBase u) u))).mem =
      cellClear (cellClear u.mem 0 (regionBase u - 0)) (regionEnd u) (storeEnd - regionEnd u) := rfl
  rw [hmem, cellGet_cellClear, cellGet_cellClear]
  by_cases hafter : regionEnd u ≤ x
  · rw [if_pos (by omega)]
  · rw [if_neg (by omega), if_pos (by omega)]

theorem restartGo_leaves (wipe : Bool) {n : Nat} (hn : n < 64) (hidle : Idle s) (hh : halted s = true) (hf : pendingFault s = false)
    (hr : restarting s = false) : Restarted s (restartGo wipe s) n ∧
      ((wipe || (s.regN 0x100220).testBit 0) = false → (restartGo wipe s).mem = s.mem ∧ (restartGo wipe s).poison = s.poison) ∧
      ((wipe || (s.regN 0x100220).testBit 0) = true → (restartGo wipe s).wiping = true ∧
        ∀ x, (x < regionBase s ∨ regionEnd s ≤ x) → x < storeEnd → cellGet 0 (restartGo wipe s).mem x = 0) := by
  have hgo := restartGo_drops wipe hidle hh hf hr
  rw [bit] at hgo
  generalize (wipe || (s.regN 0x100220).testBit 0) = wipes at hgo ⊢
  obtain ⟨hleaves, hhold, hregs⟩ := restarted_leaves wipes s hn
  obtain ⟨hmem, hpoison, -⟩ : (restarted wipes s).mem = s.mem ∧ (restarted wipes s).poison = s.poison ∧ (restarted wipes s).fuses = s.fuses := by
    simp only [chipHolds, Prod.mk.injEq] at hhold
    exact hhold
  rw [hgo]
  cases wipes with
  | false => exact ⟨hleaves, fun _ => ⟨hmem, hpoison⟩, fun h => absurd h Bool.false_ne_true⟩
  | true =>
    obtain ⟨hwiped, hwiping, hzero⟩ := restartWipe_leaves hleaves
    have hbase : regionBase (restarted true s) = regionBase s := congrArg (fun v : W64 => bits v.toNat 39 0)
      (hregs 0x4000008 ⟨by decide, by decide, by decide, by decide⟩ (by decide) (by decide))
    have hsize : (restarted true s).field 0x4000010 15 0 = s.field 0x4000010 15 0 := congrArg (fun v : W64 => bits v.toNat 15 0)
      (hregs 0x4000010 ⟨by decide, by decide, by decide, by decide⟩ (by decide) (by decide))
    rw [regionEnd, hbase, hsize] at hzero
    exact ⟨hwiped, fun h => absurd h.symm Bool.false_ne_true, fun _ => ⟨hwiping, hzero⟩⟩

/-! ## Its end -/

/-- No restart runs any more. -/
def notUnderWay (t : State) : State := { t with rack := { t.rack with restarting := false, restartWipe := false, stopDeferred := false } }

theorem notUnderWay_beside (t : State) : (notUnderWay t).rack = { t.rack with restarting := false, restartWipe := false, stopDeferred := false } ∧
    (notUnderWay t).hep = t.hep ∧ (notUnderWay t).mem = t.mem ∧ ∀ a, (notUnderWay t).reg a = t.reg a :=
  ⟨rfl, rfl, rfl, fun _ => rfl⟩

/-- The state when a restart has ended, before a deferred halt. -/
def restartOver (s : State) : State :=
  let t := notUnderWay (restartResult 1 0 ((s.setField 0x58 48 48 0).setField 0x94 1 0 0))
  pushEvent t evRestart 0xFF (t.reg 0x94)

theorem restartEnd_stays (h : replaysLeft s = true) : restartEnd s = s := by
  unfold restartEnd
  rw [h, Bool.or_true, Bool.true_or, if_pos rfl]

theorem restartEnd_goes (hidle : Idle s) (hr : restarting s = true) (hleft : replaysLeft s = false)
    (hwipe : s.rack.restartWipe = true → s.wiping = false) :
    restartEnd s = if s.rack.stopDeferred then stopWave (restartOver s) else restartOver s := by
  have hcore : coreOn s = true := hidle
  have hw : (s.rack.restartWipe && s.wiping) = false := by
    cases h : s.rack.restartWipe with
    | false => rfl
    | true => rw [hwipe h]; rfl
  unfold restartEnd
  rw [hcore, hr, hleft, hw, if_neg (by decide)]
  rfl

/-- What the end of a restart changes in one place only. -/
def overFrame (s : State) := (s.rack, s.hep, s.mem)

theorem setField_frame (s : State) (a hi lo x : Nat) : overFrame (s.setField a hi lo x) = overFrame s := rfl

theorem restartResult_frame (result reason : Nat) (s : State) : overFrame (restartResult result reason s) = overFrame s := by
  rw [restartResult, setField_frame, setField_frame]

theorem restartOver_leaves (s : State) : (halted (restartOver s) = false ∧ (restartOver s).field 0x94 1 0 = 0 ∧
      (restartOver s).field 0x94 3 2 = 1) ∧
    ((restartOver s).rack = { s.rack with restarting := false, restartWipe := false, stopDeferred := false } ∧
      (restartOver s).hep.nextEseq = s.hep.nextEseq + 1 ∧ (restartOver s).mem = s.mem) ∧
    ownSw (restartOver s) = ownSw s ∧ (restartOver s).regN 0x60 = s.regN 0x60 := by
  have hresult := restartResult_fields (result := 1) (reason := 0) (by decide) (by decide) ((s.setField 0x58 48 48 0).setField 0x94 1 0 0)
  have hregs : ∀ a, a ≠ 0x94 → (restartResult 1 0 ((s.setField 0x58 48 48 0).setField 0x94 1 0 0)).reg a = (s.setField 0x58 48 48 0).reg a :=
    fun a ha => by rw [reg_restartResult ha, reg_setField_ne ha]
  have hrest := restartResult_frame 1 0 ((s.setField 0x58 48 48 0).setField 0x94 1 0 0)
  rw [setField_frame, setField_frame] at hrest
  unfold restartOver
  rw [field_setField_same (by decide) (by decide)] at hresult
  generalize restartResult 1 0 ((s.setField 0x58 48 48 0).setField 0x94 1 0 0) = t at *
  obtain ⟨hres, -, hstate⟩ := hresult
  simp only [overFrame, Prod.mk.injEq] at hrest
  obtain ⟨hrack, hhep, hmem⟩ := hrest
  dsimp only
  have hover := notUnderWay_beside t
  rw [hrack, hhep, hmem] at hover
  generalize notUnderWay t = r at *
  obtain ⟨hrr, hrh, hrm, hrreg⟩ := hover
  obtain ⟨⟨c, f, x, hshape⟩, hkept, heseq⟩ := pushEvent_leaves evRestart 0xFF (r.reg 0x94) r
  generalize pushEvent _ _ _ _ = v at *
  have hreg : ∀ a, a ≠ 0x9000410 → v.reg a = t.reg a := fun a ha => (hkept a ha).trans (hrreg a)
  have hfield : ∀ a hi lo, a ≠ 0x9000410 → v.field a hi lo = t.field a hi lo := fun a hi lo ha =>
    congrArg (fun w : W64 => bits w.toNat hi lo) (hreg a ha)
  have hhalt : v.field 0x58 48 48 = 0 := by
    have h58 : t.field 0x58 48 48 = (s.setField 0x58 48 48 0).field 0x58 48 48 :=
      congrArg (fun w : W64 => bits w.toNat 48 48) (hregs 0x58 (by decide))
    exact (hfield 0x58 48 48 (by decide)).trans (h58.trans (field_setField_same (by decide) (by decide)))
  refine ⟨⟨?_, (hfield 0x94 1 0 (by decide)).trans hstate, (hfield 0x94 3 2 (by decide)).trans hres⟩, ⟨?_, ?_, ?_⟩, ?_, ?_⟩
  · have hbits : bits (v.regN 0x58) 48 48 = 0 := hhalt
    rw [halted]
    exact Bool.eq_false_iff.2 fun h => by rw [bits_eq_one.2 h] at hbits; cases hbits
  · rw [hshape]
    exact hrr
  · rw [heseq, hrh]
  · rw [hshape]
    exact hrm
  · have h20 : v.reg 0x20 = s.reg 0x20 := by
      rw [hreg 0x20 (by decide), hregs 0x20 (by decide), reg_setField_ne (by decide)]
    exact congrArg (fun w : W64 => bits w.toNat 17 0) h20
  · have h60 : v.reg 0x60 = s.reg 0x60 := by
      rw [hreg 0x60 (by decide), hregs 0x60 (by decide), reg_setField_ne (by decide)]
    exact congrArg BitVec.toNat h60

/-- Settles O42. -/
theorem restartsClearTheFabric : Obligations.RestartsClearTheFabric := by
  unfold Obligations.RestartsClearTheFabric
  intro s wipe n hidle
  have hcore : coreOn s = true := hidle
  have hheld : held s = false := by
    rw [coreOn, Bool.and_eq_true, Bool.not_eq_true'] at hcore
    exact hcore.1
  have hgo : exec (.restartGo wipe) s = .next (restartGo wipe s) := congrArg Host.Outcome.next (if_neg (by rw [hheld]; decide))
  have hhalt : exec .restartHalt s = .next (stopWave s) := by
    refine congrArg Host.Outcome.next ((if_neg (by rw [hheld]; decide)).trans (if_pos hcore))
  have hend : exec .restartEnd s = .next (restartEnd s) := rfl
  have hrefuses : ∀ r, r < 16 → restartGo wipe s = restartResult 2 r s → ∃ u, exec (.restartGo wipe) s = .next u ∧ u.field 0x94 3 2 = 2 ∧
      u.field 0x94 7 4 = r ∧ u.colls = s.colls ∧ u.ports = s.ports := fun r hr h =>
    ⟨_, hgo.trans (congrArg Host.Outcome.next h), restartResult_refuses hr s⟩
  refine ⟨fun hh => hrefuses 1 (by decide) ?_, fun hh hf => hrefuses 2 (by decide) ?_, fun hh hf hr => hrefuses 3 (by decide) ?_,
    fun hh hf hr => ?_, fun hh hr => ?_, fun hr => ?_, fun _ hleft => ?_, fun hr hleft hwipe hdef => ?_, fun hr hleft hwipe hdef => ?_⟩
  · unfold restartGo
    rw [hcore, hh]
    rfl
  · unfold restartGo
    rw [hcore, hh, hf]
    rfl
  · unfold restartGo
    rw [hcore, hh, hf, hr]
    rfl
  · obtain ⟨⟨⟨h94, hrack, hseq, h30⟩, ⟨hcsq, hmsu, hwaits, hmiles, hbufs⟩, ⟨hreplay, hrxq, hegress⟩, hengine⟩, hkeeps, hwipes⟩ :=
      restartGo_leaves wipe n.isLt hidle hh hf hr
    simp only [csqWork, msuWork, Prod.mk.injEq] at hcsq hmsu
    obtain ⟨hcolls, hclosed, hsteps, hcombs, hwait⟩ := hcsq
    obtain ⟨hmsgs, hreleases, hresps, hresults⟩ := hmsu
    refine ⟨_, hgo, h94, hrack, hcolls, hclosed, hsteps, hcombs, hmsgs, hreleases, hresps, hresults, hwait, hseq, h30, hwaits, hmiles,
      hbufs, hreplay, hrxq, hegress, fun hp => ?_, hkeeps, hwipes⟩
    obtain ⟨hqueue, hheldRuns, hruns⟩ := hengine hp
    exact ⟨hruns, hqueue, hheldRuns⟩
  · obtain ⟨hhalted, _, _, _, _, _, hshape⟩ := stopWave_halts hr hh
    refine ⟨_, hhalt, hhalted, ?_, ?_⟩
    · rw [hshape]
    · rw [hshape]
  · rw [hhalt, stopWave_deferred hr]
    exact ⟨_, rfl, rfl, rfl, rfl⟩
  · rw [hend, restartEnd_stays hleft]
  · obtain ⟨⟨hhalted, h94, hresult⟩, ⟨hrack, heseq, hmem⟩, -, -⟩ := restartOver_leaves s
    rw [hend, restartEnd_goes hidle hr hleft hwipe, hdef, if_neg Bool.false_ne_true]
    exact ⟨_, rfl, hhalted, h94, hresult, congrArg Rack.restarting hrack, heseq, hmem⟩
  · obtain ⟨⟨hhalted, h94, hresult⟩, ⟨hrack, heseq, hmem⟩, hown, h60⟩ := restartOver_leaves s
    have hrun : restarting (restartOver s) = false := by
      rw [restarting, h94]
      rfl
    obtain ⟨hstop, _, _, _, _, _, hshape⟩ := stopWave_halts hrun hhalted
    rw [hend, restartEnd_goes hidle hr hleft hwipe, hdef, if_pos rfl]
    rw [hown, h60] at hstop
    refine ⟨_, rfl, hstop, ?_⟩
    rw [hshape, hrack]

end Sys2Proof.Proofs
end

section
/-!
PROOFS. Image copies (O48).
-/

namespace Sys2Proof.Proofs
open Sys2Proof Sys2Proof.Machine Sys2Proof.Claims

set_option Elab.async false

variable {s t u : State}

/-! ## The copy in hand -/

theorem bootState_setBoot {st : Nat} (h : st < 16) (s : State) : bootState (setBoot st s) = st := by
  refine (field_setField_same (by decide) (by decide)).trans ?_
  exact Nat.mod_eq_of_lt h

theorem setBoot_above {st hi lo : Nat} (hhi : hi < 64) (hlo : 4 ≤ lo) (h : lo ≤ hi) (s : State) :
    (setBoot st s).field 0xA0 hi lo = s.field 0xA0 hi lo :=
  field_setField_above hhi h (by decide) (by omega)

theorem reg_setBoot {st a : Nat} (h : a ≠ 0xA0) (s : State) : (setBoot st s).reg a = s.reg a := reg_setField_ne h

/-- What a start-up step looks at or keeps, but for its registers. -/
def bootFrame (s : State) := (s.fuses, s.mem, s.busHeld, s.bulkWait, s.wiping)

theorem setField_bootFrame (s : State) (a hi lo x : Nat) : bootFrame (s.setField a hi lo x) = bootFrame s ∧ (s.setField a hi lo x).boot = s.boot ∧
    (s.setField a hi lo x).hep = s.hep := ⟨rfl, rfl, rfl⟩

theorem setRegN_bootFrame (s : State) (a v : Nat) : bootFrame (s.setRegN a v) = bootFrame s := rfl

theorem setBoot_bootFrame (st : Nat) (s : State) : bootFrame (setBoot st s) = bootFrame s ∧ (setBoot st s).boot = s.boot ∧
    (setBoot st s).hep = s.hep := setField_bootFrame s _ _ _ _

theorem setBoot_mgc (st : Nat) (s : State) {b : List Byte} {o : Bool} {k : Option (List Byte)}
    (h : s.mgcSram = b ∧ s.mgcOn = o ∧ s.hep.hostKey = k) :
    (setBoot st s).mgcSram = b ∧ (setBoot st s).mgcOn = o ∧ (setBoot st s).hep.hostKey = k := h

theorem setBoot_boot (st : Nat) (s : State) {P : Boot → Prop} (h : P s.boot) : P (setBoot st s).boot := h

theorem setBoot_same (st : Nat) (s : State) : (setBoot st s).flash = s.flash ∧ (setBoot st s).flashSize = s.flashSize ∧
    (setBoot st s).fuses = s.fuses := ⟨rfl, rfl, rfl⟩

theorem pushEvent_bootFrame (cls block : Nat) (data : W64) (s : State) : bootFrame (pushEvent s cls block data) = bootFrame s ∧
    (pushEvent s cls block data).boot = s.boot := by
  obtain ⟨⟨_, _, _, h⟩, -, -⟩ := pushEvent_leaves cls block data s
  rw [h]
  exact ⟨rfl, rfl⟩

/-- No section is in hand. -/
def noSection (s : State) : State := { s with boot := { s.boot with phase := .idle } }

theorem enterRecovery_leaves (s : State) : bootState (enterRecovery s) = 7 ∧ (enterRecovery s).boot.copy = s.boot.copy ∧
    (enterRecovery s).hep.nextEseq = s.hep.nextEseq + 1 ∧ bootFrame (enterRecovery s) = bootFrame s ∧
    (∀ hi lo, hi < 64 → 4 ≤ lo → lo ≤ hi → (enterRecovery s).field 0xA0 hi lo = s.field 0xA0 hi lo) ∧
    ∀ a, a ≠ 0xA0 → a ≠ 0x9000410 → (enterRecovery s).reg a = s.reg a := by
  have heq : enterRecovery s = pushEvent (noSection (setBoot 7 s)) evRecovery 0xFF ((setBoot 7 s).reg 0xA0) := rfl
  have hstate := bootState_setBoot (st := 7) (by decide) s
  have habove := fun hi lo hhi hlo h => setBoot_above (st := 7) (hi := hi) (lo := lo) hhi hlo h s
  have hregs := fun a ha => reg_setBoot (st := 7) (a := a) ha s
  obtain ⟨hframe, hboot, hhep⟩ := setBoot_bootFrame 7 s
  rw [heq]
  generalize setBoot 7 s = t at *
  have hidle : bootFrame (noSection t) = bootFrame t ∧ (noSection t).boot.copy = t.boot.copy ∧ (noSection t).hep = t.hep ∧
      ∀ a, (noSection t).reg a = t.reg a := ⟨rfl, rfl, rfl, fun _ => rfl⟩
  obtain ⟨-, hkept, heseq⟩ := pushEvent_leaves evRecovery 0xFF (t.reg 0xA0) (noSection t)
  obtain ⟨hpf, hpb⟩ := pushEvent_bootFrame evRecovery 0xFF (t.reg 0xA0) (noSection t)
  generalize pushEvent (noSection t) evRecovery 0xFF (t.reg 0xA0) = v at *
  obtain ⟨hif, hib, hih, hir⟩ := hidle
  have hreg : ∀ a, a ≠ 0x9000410 → v.reg a = t.reg a := fun a ha => (hkept a ha).trans (hir a)
  have hfield : ∀ hi lo, v.field 0xA0 hi lo = t.field 0xA0 hi lo := fun hi lo =>
    congrArg (fun w : W64 => bits w.toNat hi lo) (hreg 0xA0 (by decide))
  refine ⟨(hfield 3 0).trans hstate, ?_, ?_, hpf.trans (hif.trans hframe), fun hi lo hhi hlo h => (hfield hi lo).trans (habove hi lo hhi hlo h),
    fun a h1 h2 => (hreg a h2).trans (hregs a h1)⟩
  · rw [hpb, hib, hboot]
  · rw [heseq, hih, hhep]

/-- Whether another copy may be read (R346). -/
def copyLeft (s : State) : Prop := s.fuses.lcState ≠ 0 ∧ s.fuses.lcState ≠ 3 ∧ s.boot.copy ≤ 1

theorem tryCopy_of_left (h : copyLeft s) : tryCopy s = setBoot 2 { s with boot := { s.boot with read := 0, phase := .idle } } := by
  obtain ⟨h0, h3, hc⟩ := h
  exact if_neg (by rintro (h | h | h) <;> omega)

theorem tryCopy_of_none (h : ¬ copyLeft s) : tryCopy s = enterRecovery s := by
  unfold copyLeft at h
  exact if_pos (by omega)

theorem tryCopy_leaves (s : State) : (tryCopy s).boot.copy = s.boot.copy ∧ bootFrame (tryCopy s) = bootFrame s ∧
    (∀ hi lo, hi < 64 → 4 ≤ lo → lo ≤ hi → (tryCopy s).field 0xA0 hi lo = s.field 0xA0 hi lo) ∧
    (∀ a, a ≠ 0xA0 → a ≠ 0x9000410 → (tryCopy s).reg a = s.reg a) ∧
    (copyLeft s → bootState (tryCopy s) = 2 ∧ (tryCopy s).boot.read = 0) ∧
    (¬ copyLeft s → bootState (tryCopy s) = 7 ∧ (tryCopy s).hep.nextEseq = s.hep.nextEseq + 1) := by
  by_cases h : copyLeft s
  · rw [tryCopy_of_left h]
    have hread : ({ s with boot := { s.boot with read := 0, phase := .idle } } : State).boot.copy = s.boot.copy ∧
        ({ s with boot := { s.boot with read := 0, phase := .idle } } : State).boot.read = 0 ∧
        bootFrame { s with boot := { s.boot with read := 0, phase := .idle } } = bootFrame s ∧
        ∀ a, ({ s with boot := { s.boot with read := 0, phase := .idle } } : State).reg a = s.reg a := ⟨rfl, rfl, rfl, fun _ => rfl⟩
    generalize ({ s with boot := { s.boot with read := 0, phase := .idle } } : State) = t at hread ⊢
    obtain ⟨hcopy, hread, hframe, hreg⟩ := hread
    obtain ⟨hbf, hbb, -⟩ := setBoot_bootFrame 2 t
    refine ⟨?_, hbf.trans hframe, fun hi lo hhi hlo hle => ?_, fun a ha _ => (reg_setBoot ha t).trans (hreg a),
      fun _ => ⟨bootState_setBoot (by decide) t, ?_⟩, fun hn => absurd h hn⟩
    · rw [hbb, hcopy]
    · rw [setBoot_above hhi hlo hle]
      exact congrArg (fun w : W64 => bits w.toNat hi lo) (hreg 0xA0)
    · rw [hbb, hread]
  · rw [tryCopy_of_none h]
    obtain ⟨hstate, hcopy, heseq, hframe, hfield, hreg⟩ := enterRecovery_leaves s
    exact ⟨hcopy, hframe, hfield, hreg, fun hn => absurd hn h, fun _ => ⟨hstate, heseq⟩⟩

/-- The next copy is the one in hand. -/
def nextCopy (s : State) : State := { s with boot := { s.boot with copy := s.boot.copy + 1 } }

theorem setFail_field {why : Nat} (hw : why < 16) (hc : s.boot.copy ≤ 1) :
    (setFail why s).field 0xA0 (11 + 4 * s.boot.copy) (8 + 4 * s.boot.copy) = why := by
  rw [setFail, show 11 + 4 * s.boot.copy = 8 + 4 * s.boot.copy + 3 by omega, field_setField_same (by omega) (by omega),
    show 8 + 4 * s.boot.copy + 3 + 1 - (8 + 4 * s.boot.copy) = 4 by omega]
  exact Nat.mod_eq_of_lt hw

theorem failCopy_copy (why : Nat) (s : State) : (failCopy why s).boot.copy = s.boot.copy + 1 :=
  (tryCopy_leaves (nextCopy (setFail why s))).1

/-- R346: a copy given up, its reason in its FAIL field. -/
theorem failCopy_fails {why : Nat} (hw : why < 16) (hboot : t.boot = s.boot) (hfuses : t.fuses = s.fuses) (hc : s.boot.copy ≤ 1) :
    CopyFails s (failCopy why t) why := by
  obtain ⟨-, -, hfield, -, hleft, hnone⟩ := tryCopy_leaves (nextCopy (setFail why t))
  have hnext : (nextCopy (setFail why t)).boot.copy = s.boot.copy + 1 := congrArg (fun b : Boot => b.copy + 1) hboot
  have hlc : (nextCopy (setFail why t)).fuses = s.fuses := hfuses
  refine ⟨?_, (failCopy_copy why t).trans (congrArg (fun b : Boot => b.copy + 1) hboot), fun h0 h1 h2 => hleft ⟨?_, ?_, ?_⟩, fun h1 => (hnone ?_).1⟩
  · refine (hfield _ _ (by omega) (by omega) (by omega)).trans ?_
    rw [← hboot]
    exact setFail_field hw (hboot ▸ hc)
  · rw [hlc]
    exact h1
  · rw [hlc]
    exact h2
  · omega
  · rintro ⟨-, -, h⟩
    omega

/-! ## The image's bytes -/

/-- Two states in which the copy in hand has the same bytes. -/
def SameImage (s t : State) : Prop := t.boot = s.boot ∧ t.flash = s.flash ∧ t.flashSize = s.flashSize ∧ t.fuses = s.fuses

theorem SameImage.img (h : SameImage s t) (off n : Nat) : img t off n = img s off n := by
  obtain ⟨hb, hf, hz, -⟩ := h
  rw [Machine.img, Machine.img, copyBase, copyBase, hb, hf, hz]

theorem SameImage.imgN (h : SameImage s t) (off n : Nat) : imgN t off n = imgN s off n := congrArg leNat (h.img off n)

theorem SameImage.imgDigest (h : SameImage s t) : imgDigest t = imgDigest s := by
  rw [Machine.imgDigest, Machine.imgDigest, imgLen, imgLen, h.imgN, h.img]

theorem SameImage.sectBytes (h : SameImage s t) (n : Nat) : sectBytes t n = sectBytes s n := by
  have hsections : imgSections t = imgSections s := by
    simp only [imgSections, imgSect, h.imgN]
  rw [Machine.sectBytes, Machine.sectBytes, sectOf, sectOf, hsections]
  exact congrArg (Option.map · _) (funext fun x => h.img x.off x.len)

theorem SameImage.unsealKey (h : SameImage s t) : unsealKey t = unsealKey s := by
  funext b
  rw [Machine.unsealKey, Machine.unsealKey, h.imgDigest, h.2.2.2]

theorem length_img (s : State) (off n : Nat) : (img s off n).length = n := by
  rw [img, List.length_map, List.length_range]

/-! ## The image applied -/

theorem applySapset_bootFrame (b : List Byte) (s : State) : bootFrame (applySapset b s) = bootFrame s := by
  unfold applySapset
  extract_lets w t
  have ht : bootFrame t = bootFrame s := by
    refine foldl_invariant (P := fun t : State => bootFrame t = bootFrame s) (fun t n h => ?_) rfl
    exact (setRegN_bootFrame t _ _).trans h
  clear_value t w
  rw [setRegN_bootFrame, setRegN_bootFrame, setRegN_bootFrame, setRegN_bootFrame, ht]

theorem collectLines_bootFrame (s : State) : bootFrame (collectLines s) = bootFrame s := by
  unfold collectLines
  split
  · rfl
  · refine foldl_invariant (P := fun t : State => bootFrame t = bootFrame s) (fun t b h => ?_) rfl
    split
    · exact h
    · exact h

theorem applyLayout_bootFrame (b : List Byte) (s : State) : bootFrame (applyLayout b s) = bootFrame s := by
  unfold applyLayout
  extract_lets a c d e f m
  have ha : bootFrame a = bootFrame s := setRegN_bootFrame s _ _
  have hc : bootFrame c = bootFrame s := by rw [setRegN_bootFrame, setRegN_bootFrame, ha]
  clear_value c
  have hd : bootFrame d = bootFrame s := by
    refine foldl_invariant (P := fun t : State => bootFrame t = bootFrame s) (fun t n h => ?_) hc
    exact (setRegN_bootFrame t _ _).trans h
  clear_value d
  have he : bootFrame e = bootFrame s := (collectLines_bootFrame _).trans hd
  clear_value e
  have hf : bootFrame f = bootFrame s := by
    refine foldl_invariant (P := fun t : State => bootFrame t = bootFrame s) (fun t n h => ?_) he
    exact h
  clear_value f
  refine foldl_invariant (P := fun t : State => bootFrame t = bootFrame s) (fun t q h => ?_) hf
  split
  · exact h
  · exact h

theorem placeSwitch_bootFrame (plan : List (Nat × W32 × List W32)) (s : State) : bootFrame (placeSwitch plan s) = bootFrame s := by
  unfold placeSwitch
  extract_lets slot t
  split
  · split
    · rfl
    · rfl
  · split
    · rfl
    · rfl

/-- The state `r` holding what an image brings. -/
def imageHeld (r : State) (b : Boot) (h : Hep) (firmware : List Byte) (key : Option (List Byte)) (regs late : List RegRec) (svn : Nat)
    (d : List Byte) : State :=
  { r with
    mgcSram := firmware
    mgcOn := true
    hep := { h with hostKey := key }
    boot := { b with phase := .regs, regs := regs, late := late, idx := 0, waiting := false, svn := svn, digest := d } }

theorem imageHeld_bootFrame (r : State) (b : Boot) (h : Hep) (firmware : List Byte) (key : Option (List Byte)) (regs late : List RegRec) (svn : Nat)
    (d : List Byte) : bootFrame (imageHeld r b h firmware key regs late svn d) = bootFrame r := rfl

/-- R349: what the application of an image leaves, up to its REGS records. -/
theorem applyImage_leaves (s : State) : bootState (applyImage s) = 4 ∧ bootFrame (applyImage s) = bootFrame s ∧
    ((applyImage s).boot.phase = .regs ∧ (applyImage s).boot.idx = 0 ∧ (applyImage s).boot.regs = readRecs ((sectBytes s 6).getD []) ∧
      (applyImage s).boot.late = readRecs ((sectBytes s 7).getD []) ∧ (applyImage s).boot.svn = imgN s 12 1) ∧
    (applyImage s).mgcSram = (sectBytes s 3).getD [] ∧ (applyImage s).mgcOn = true ∧
      (applyImage s).hep.hostKey = (sectBytes s 5).map (unsealKey s) := by
  unfold applyImage
  have hframe : bootFrame (placeSwitch (planEntries ((sectBytes s 4).getD [])) (applyLayout ((sectBytes s 2).getD [])
      (applySapset ((sectBytes s 1).getD []) s))) = bootFrame s :=
    (placeSwitch_bootFrame _ _).trans ((applyLayout_bootFrame _ _).trans (applySapset_bootFrame _ _))
  extract_lets get key d svn info regs late t r b h
  have ht : bootFrame t = bootFrame s := hframe
  have hregs : regs = readRecs ((sectBytes s 6).getD []) := rfl
  have hlate : late = readRecs ((sectBytes s 7).getD []) := rfl
  have hsram : get 3 = (sectBytes s 3).getD [] := rfl
  have hkey : key = (sectBytes s 5).map (unsealKey s) := rfl
  have hsvn : svn = imgN s 12 1 := rfl
  clear_value t info regs late key svn d
  have hr : bootFrame r = bootFrame s := (setRegN_bootFrame t _ _).trans ht
  clear_value r b h get
  have hheld : bootFrame (setBoot 4 (imageHeld r b h (get 3) key regs late svn d)) = bootFrame s := by
    rw [(setBoot_bootFrame 4 _).1, imageHeld_bootFrame, hr]
  obtain ⟨h1, h2, h3⟩ := setBoot_mgc 4 (imageHeld r b h (get 3) key regs late svn d) ⟨rfl, rfl, rfl⟩
  exact ⟨bootState_setBoot (by decide) _, hheld,
    setBoot_boot 4 (imageHeld r b h (get 3) key regs late svn d) (P := fun b => b.phase = .regs ∧ b.idx = 0 ∧
      b.regs = readRecs ((sectBytes s 6).getD []) ∧ b.late = readRecs ((sectBytes s 7).getD []) ∧ b.svn = imgN s 12 1) ⟨rfl, rfl, hregs, hlate, hsvn⟩,
    h1.trans hsram, h2, h3.trans hkey⟩

/-! ## The end of the wipe -/

theorem bulkResume_nil (h : s.bulkWait = []) : bulkResume s = s := by
  unfold bulkResume
  split
  · rfl
  · rw [h, List.foldl_nil, ← h]

/-- R286: the state in which the wipe has ended. -/
def wipeOver (s : State) : State := { s.setField 0x6000020 0 0 0 with wiping := false }

theorem wipeOver_leaves (s : State) : (wipeOver s).wiping = false ∧ (wipeOver s).field 0x6000020 0 0 = 0 ∧ (wipeOver s).boot = s.boot ∧
    (wipeOver s).hep = s.hep ∧ (wipeOver s).mem = s.mem ∧ (wipeOver s).busHeld = s.busHeld ∧ (wipeOver s).bulkWait = s.bulkWait ∧
    (wipeOver s).fuses = s.fuses ∧ bootState (wipeOver s) = bootState s := by
  refine ⟨rfl, field_setField_same (by decide) (by decide), rfl, rfl, rfl, rfl, rfl, rfl, ?_⟩
  exact field_setField_ne (a := 0x6000020) (b := 0xA0) (by decide)

theorem wipeComplete_ends (hh : held s = false) (hw : s.wiping = true) :
    wipeComplete s = if bootState (wipeOver s) = 1 then tryCopy (wipeOver s) else wipeOver s := by
  unfold wipeComplete
  rw [hh, hw]
  rfl

/-- What the end of the wipe leaves, whether or not a copy is then read. -/
theorem wipeComplete_leaves (hh : held s = false) (hw : s.wiping = true) (hbus : s.busHeld = []) (hbulk : s.bulkWait = []) :
    exec .wipeComplete s = .next (wipeComplete s) ∧ (wipeComplete s).wiping = false ∧ (wipeComplete s).field 0x6000020 0 0 = 0 ∧
      (wipeComplete s).mem = s.mem := by
  obtain ⟨hw0, hfield, hboot, hhep, hmem, hheld, hwait, hfuses, hstate⟩ := wipeOver_leaves s
  have hleaves : bootFrame (wipeComplete s) = bootFrame (wipeOver s) ∧ (wipeComplete s).reg 0x6000020 = (wipeOver s).reg 0x6000020 := by
    rw [wipeComplete_ends hh hw]
    split
    · obtain ⟨-, hframe, -, hreg, -, -⟩ := tryCopy_leaves (wipeOver s)
      exact ⟨hframe, hreg 0x6000020 (by decide) (by decide)⟩
    · exact ⟨rfl, rfl⟩
  obtain ⟨hframe, hreg⟩ := hleaves
  simp only [bootFrame, Prod.mk.injEq] at hframe
  obtain ⟨-, hm, hb, hk, hv⟩ := hframe
  have hexec : exec .wipeComplete s = .next (busReplay (bulkResume (wipeComplete s))) := rfl
  refine ⟨?_, hv.trans hw0, ?_, hm.trans hmem⟩
  · rw [hexec, bulkResume_nil (hk.trans (hwait.trans hbulk)), busReplay_nil (hb.trans (hheld.trans hbus))]
  · exact (congrArg (fun w : W64 => bits w.toNat 0 0) hreg).trans hfield

/-! ## The stages of a copy -/

section
variable {ok : Bool} (hcore : coreOn s = true) (hstate : bootState s = 2)
include hcore hstate

theorem imageHeaderRead_judges (hr : s.boot.read = 0) : imageHeaderRead ok s =
    if (if ok then headerReason s else 1) ≠ 0 then failCopy (if ok then headerReason s else 1) s
    else { s with boot := { s.boot with read := 1 } } := by
  unfold imageHeaderRead
  rw [hcore, if_neg (by simp [hstate, hr])]

theorem sectionTableRead_judges (hr : s.boot.read = 1) : sectionTableRead ok s =
    if !ok then failCopy 1 s else if sectionsBad s then failCopy 8 s else { s with boot := { s.boot with read := 2 } } := by
  unfold sectionTableRead
  rw [hcore, if_neg (by simp [hstate, hr])]

end

/-- The state in which a copy stands in the staging area. -/
def imageStaged (s : State) : State := setBoot 3 { s with mem := cellWrite 0 s.mem stagingBase (img s 0 (imgLen s)) }

theorem imageStaged_same (s : State) : SameImage s (imageStaged s) ∧ bootFrame (imageStaged s) =
    (s.fuses, cellWrite 0 s.mem stagingBase (img s 0 (imgLen s)), s.busHeld, s.bulkWait, s.wiping) := by
  unfold imageStaged
  generalize cellWrite 0 s.mem stagingBase (img s 0 (imgLen s)) = m
  have hmem : ({ s with mem := m } : State).flash = s.flash ∧ ({ s with mem := m } : State).flashSize = s.flashSize ∧
      ({ s with mem := m } : State).fuses = s.fuses ∧ ({ s with mem := m } : State).boot = s.boot ∧
      bootFrame { s with mem := m } = (s.fuses, m, s.busHeld, s.bulkWait, s.wiping) := ⟨rfl, rfl, rfl, rfl, rfl⟩
  generalize ({ s with mem := m } : State) = t at hmem ⊢
  obtain ⟨hflash, hsize, hfuses, hboot, hframe⟩ := hmem
  obtain ⟨h1, h2, h3⟩ := setBoot_same 3 t
  obtain ⟨hf, hb, -⟩ := setBoot_bootFrame 3 t
  exact ⟨⟨hb.trans hboot, h1.trans hflash, h2.trans hsize, h3.trans hfuses⟩, hf.trans hframe⟩

theorem imageReadComplete_judges (hcore : coreOn s = true) (hstate : bootState s = 2) (hr : s.boot.read = 2) {ok : Bool} :
    imageReadComplete ok s = if !ok then failCopy 1 s
    else if !Config.falconVerify (img s 256 1793) (imgDigest s) (img s (imgLen s - 1280) 1280) then failCopy 9 (imageStaged s)
    else if hostKeyBad s then failCopy 8 (imageStaged s)
    else if sapsetBad ((sectBytes s 1).getD []) then failCopy 10 (imageStaged s)
    else if layoutBad (planMode s) ((sectBytes s 2).getD []) (sectBytes s 4) then failCopy 11 (imageStaged s)
    else if layoutAbsent s ((sectBytes s 2).getD []) then failCopy 13 (imageStaged s)
    else applyImage (imageStaged s) := by
  unfold imageReadComplete
  rw [hcore, if_neg (by simp [hstate, hr])]
  rfl

/-- Every copy's end: it is given up, or applied. -/
theorem imageReadComplete_ends (hcore : coreOn s = true) (hstate : bootState s = 2) (hr : s.boot.read = 2) (ok : Bool) :
    bootState (imageReadComplete ok s) = 4 ∨ (imageReadComplete ok s).boot.copy = s.boot.copy + 1 := by
  obtain ⟨⟨hboot, -, -, -⟩, -⟩ := imageStaged_same s
  have hfails : ∀ why, (failCopy why (imageStaged s)).boot.copy = s.boot.copy + 1 := fun why => by
    rw [failCopy_copy, hboot]
  rw [imageReadComplete_judges hcore hstate hr]
  split
  · exact .inr (failCopy_copy 1 s)
  · split
    · exact .inr (hfails 9)
    · split
      · exact .inr (hfails 8)
      · split
        · exact .inr (hfails 10)
        · split
          · exact .inr (hfails 11)
          · split
            · exact .inr (hfails 13)
            · exact .inl (applyImage_leaves (imageStaged s)).1

theorem headerReason_lt (s : State) : headerReason s < 16 := by
  unfold headerReason
  repeat' split
  all_goals decide

/-- R349: a copy that passes every check. -/
theorem imageStaged_applies (s : State) : bootState (applyImage (imageStaged s)) = 4 ∧ (applyImage (imageStaged s)).boot.phase = .regs ∧
    (applyImage (imageStaged s)).boot.idx = 0 ∧ (applyImage (imageStaged s)).boot.regs = readRecs ((sectBytes s 6).getD []) ∧
    (applyImage (imageStaged s)).boot.late = readRecs ((sectBytes s 7).getD []) ∧ (applyImage (imageStaged s)).boot.svn = imgN s 12 1 ∧
    (applyImage (imageStaged s)).mgcSram = (sectBytes s 3).getD [] ∧ (applyImage (imageStaged s)).mgcOn = true ∧
    (applyImage (imageStaged s)).hep.hostKey = (sectBytes s 5).map (unsealKey s) ∧ (applyImage (imageStaged s)).fuses = s.fuses ∧
    ∀ x, cellGet 0 (applyImage (imageStaged s)).mem x =
      if stagingBase ≤ x ∧ x < stagingBase + imgLen s then (img s 0 (imgLen s)).getD (x - stagingBase) 0 else cellGet 0 s.mem x := by
  obtain ⟨hsame, hstaged⟩ := imageStaged_same s
  obtain ⟨hstate, hframe, ⟨hphase, hidx, hregs, hlate, hsvn⟩, hsram, hon, hkey⟩ := applyImage_leaves (imageStaged s)
  rw [hsame.sectBytes] at hregs hlate hsram hkey
  rw [hsame.imgN] at hsvn
  rw [hsame.unsealKey] at hkey
  rw [hstaged] at hframe
  simp only [bootFrame, Prod.mk.injEq] at hframe
  obtain ⟨hfuses, hmem, -⟩ := hframe
  refine ⟨hstate, hphase, hidx, hregs, hlate, hsvn, hsram, hon, hkey, hfuses, fun x => ?_⟩
  rw [hmem, cellGet_cellWrite, length_img]

/-- Settles O48. -/
theorem imageCopiesAreReadAndVerified : Obligations.ImageCopiesAreReadAndVerified := by
  unfold Obligations.ImageCopiesAreReadAndVerified
  intro s ok boots
  have hheader : exec (.imageHeaderRead ok) s = .next (imageHeaderRead ok s) := rfl
  have htable : exec (.sectionTableRead ok) s = .next (sectionTableRead ok s) := rfl
  have himage : exec (.imageReadComplete ok) s = .next (imageReadComplete ok s) := rfl
  obtain ⟨⟨hboot, -, -, hfuses⟩, -⟩ := imageStaged_same s
  refine ⟨fun hheld hwiping hbus hbulk => ?_, fun hcore hstate => ⟨fun hr => ?_, fun hr => ?_, fun hr => ?_⟩, fun hcore hstate hr hok hwhy => ?_,
    fun hcore hstate hr hc hok hwhy => ?_, fun hcore hstate hr hok hbad => ?_, fun hcore hstate hr hc hok hbad => ?_,
    fun hcore hstate hc hok => ⟨fun hr => ?_, fun hr => ?_, fun hr => ?_⟩, fun hcore hstate hr hc hok hsig => ?_,
    fun hcore hstate hr hok hsig hkey hsap hlay habs hc => ?_, fun hcore hstate hr hok hsig hkey hsap hlay habs => ?_⟩
  · obtain ⟨hexec, hw, hfield, hmem⟩ := wipeComplete_leaves hheld hwiping hbus hbulk
    obtain ⟨-, -, hb, hhep, -, -, -, hf, hst⟩ := wipeOver_leaves s
    have hleft : copyLeft (wipeOver s) ↔ boots := by
      unfold copyLeft
      rw [hb, hf]
    obtain ⟨-, -, -, -, hreads, hrecovers⟩ := tryCopy_leaves (wipeOver s)
    have hends := wipeComplete_ends hheld hwiping
    rw [hst] at hends
    refine ⟨_, hexec, hw, hfield, hmem, fun h1 hbs => ?_, fun h1 hbs => ?_, fun h1 => ?_⟩
    · rw [hends, if_pos h1]
      exact hreads (hleft.2 hbs)
    · rw [hends, if_pos h1, ← hhep]
      exact hrecovers (fun h => hbs (hleft.1 h))
    · rw [hends, if_neg h1]
      exact hst
  · refine ⟨_, hheader, ?_⟩
    rw [imageHeaderRead_judges hcore hstate hr]
    generalize (if ok = true then headerReason s else 1) = why
    by_cases hw : why ≠ 0
    · rw [if_pos hw]
      exact .inr (failCopy_copy why s)
    · rw [if_neg hw]
      exact .inl rfl
  · refine ⟨_, htable, ?_⟩
    rw [sectionTableRead_judges hcore hstate hr]
    split
    · exact .inr (failCopy_copy 1 s)
    · split
      · exact .inr (failCopy_copy 8 s)
      · exact .inl rfl
  · exact ⟨_, himage, imageReadComplete_ends hcore hstate hr ok⟩
  · rw [hheader, imageHeaderRead_judges hcore hstate hr, hok, if_pos rfl, hwhy, if_neg (fun h => h rfl)]
  · refine ⟨_, hheader, ?_⟩
    rw [imageHeaderRead_judges hcore hstate hr, hok, if_pos rfl, if_pos hwhy]
    exact failCopy_fails (headerReason_lt s) rfl rfl hc
  · rw [htable, sectionTableRead_judges hcore hstate hr, hok, hbad]
    rfl
  · refine ⟨_, htable, ?_⟩
    rw [sectionTableRead_judges hcore hstate hr, hok, hbad, if_neg (by decide), if_pos rfl]
    exact failCopy_fails (by decide) rfl rfl hc
  · refine ⟨_, hheader, ?_⟩
    rw [imageHeaderRead_judges hcore hstate hr, hok, if_neg Bool.false_ne_true, if_pos (by decide)]
    exact failCopy_fails (by decide) rfl rfl hc
  · refine ⟨_, htable, ?_⟩
    rw [sectionTableRead_judges hcore hstate hr, hok, if_pos (by decide)]
    exact failCopy_fails (by decide) rfl rfl hc
  · refine ⟨_, himage, ?_⟩
    rw [imageReadComplete_judges hcore hstate hr, hok, if_pos (by decide)]
    exact failCopy_fails (by decide) rfl rfl hc
  · refine ⟨_, himage, ?_⟩
    rw [imageReadComplete_judges hcore hstate hr, hok, hsig, if_neg (by decide), if_pos (by decide)]
    exact failCopy_fails (by decide) hboot hfuses hc
  · refine ⟨_, himage, ?_⟩
    rw [imageReadComplete_judges hcore hstate hr, hok, hsig, hkey, hsap, hlay, habs, if_neg (by decide), if_neg (by decide),
      if_neg (by decide), if_neg (by decide), if_neg (by decide), if_pos rfl]
    exact failCopy_fails (by decide) hboot hfuses hc
  · refine ⟨_, himage, ?_⟩
    rw [imageReadComplete_judges hcore hstate hr, hok, hsig, hkey, hsap, hlay, habs, if_neg (by decide), if_neg (by decide),
      if_neg (by decide), if_neg (by decide), if_neg (by decide), if_neg (by decide)]
    exact imageStaged_applies s

end Sys2Proof.Proofs
end

section
/-!
PROOFS. Register records and the opening of the fabric (O49).
-/

namespace Sys2Proof.Proofs
open Sys2Proof Sys2Proof.Machine Sys2Proof.Claims

set_option Elab.async false

variable {s t u : State}

/-! ## What training and discovery leave -/

def trainFrame (s : State) := (s.mem, s.colls, s.boot, s.pins, s.fuses)

/-- `t` is `s` but for the ports, their registers and what the host is told. -/
def PortsOnly (s t : State) : Prop := trainFrame t = trainFrame s ∧ ∀ a, a < 0x1000000 → t.reg a = s.reg a

theorem PortsOnly.refl (s : State) : PortsOnly s s := ⟨rfl, fun _ _ => rfl⟩

theorem PortsOnly.trans (h : PortsOnly s t) (k : PortsOnly t u) : PortsOnly s u :=
  ⟨k.1.trans h.1, fun a ha => (k.2 a ha).trans (h.2 a ha)⟩

theorem PortsOnly.field (h : PortsOnly s t) {a : Nat} (ha : a < 0x1000000) (hi lo : Nat) : t.field a hi lo = s.field a hi lo :=
  congrArg (fun w : W64 => bits w.toNat hi lo) (h.2 a ha)

theorem portsOnly_modPort (s : State) (n : Nat) (f : Port → Port) : PortsOnly s (s.modPort n f) := ⟨rfl, fun _ _ => rfl⟩

theorem portsOnly_setReg {a : Nat} (ha : 0x1000000 ≤ a) (v : W64) (s : State) : PortsOnly s (s.setReg a v) :=
  ⟨rfl, fun b hb => by rw [reg_setReg, if_neg (by omega)]⟩

theorem portsOnly_setSticky {a : Nat} (ha : 0x1000000 ≤ a) (m : W64) (s : State) : PortsOnly s (s.setSticky a m) :=
  (portsOnly_setReg ha (s.reg a ||| m) s).trans ⟨rfl, fun _ _ => rfl⟩

theorem pushEvent_portsOnly (cls block : Nat) (data : W64) (s : State) : PortsOnly s (pushEvent s cls block data) ∧
    (pushEvent s cls block data).ports = s.ports := by
  obtain ⟨⟨_, _, _, h⟩, hreg, -⟩ := pushEvent_leaves cls block data s
  refine ⟨⟨?_, fun a ha => hreg a (by omega)⟩, ?_⟩
  · rw [h]
    rfl
  · rw [h]

theorem setSticky_ports (a : Nat) (m : W64) (s : State) : (s.setSticky a m).ports = s.ports := rfl

/-- A port's status changes, and with it nothing of another port. -/
theorem setDisc_portsOnly {n : Nat} (hn : n < 64) (d : Disc) (s : State) : PortsOnly s (setDisc n d s) ∧
    ∀ m, m < 64 → (setDisc n d s).port m = if m = n then { s.port m with disc := d } else s.port m := by
  have hmod : ∀ m, m < 64 → (s.modPort n (fun q => { q with disc := d })).port m = if m = n then { s.port m with disc := d } else s.port m := by
    intro m hm
    by_cases hmn : m = n
    · rw [if_pos hmn, hmn, port_modPort_same]
    · rw [if_neg hmn]
      exact port_setPort_ne s n m _ (by omega)
  have hbase : 0x1000000 ≤ puBase n + 0x18 := by
    unfold puBase
    omega
  have hsticky := (portsOnly_modPort s n (fun q => { q with disc := d })).trans (portsOnly_setSticky hbase 8 _)
  unfold setDisc
  split
  · next hd =>
    refine ⟨.refl s, fun m hm => ?_⟩
    split
    · next hmn => rw [hmn, ← hd]
    · rfl
  · extract_lets r v
    have hv : PortsOnly s v := hsticky
    have hport : ∀ m, v.port m = r.port m := fun m => by rw [State.port, State.port, setSticky_ports]
    have hr : ∀ m, m < 64 → r.port m = if m = n then { s.port m with disc := d } else s.port m := hmod
    clear_value v r
    split
    · obtain ⟨hpush, hpp⟩ := pushEvent_portsOnly evDisc 0xFF (BitVec.ofNat 64 (n + linkStatus v n * 2 ^ 32)) v
      refine ⟨hv.trans hpush, fun m hm => ?_⟩
      rw [State.port, hpp]
      exact (hport m).trans (hr m hm)
    · exact ⟨hv, fun m hm => (hport m).trans (hr m hm)⟩

theorem requeue_portsOnly (n : Nat) (l : List QPkt) (s : State) : PortsOnly s (requeue n l s) := by
  unfold requeue
  split
  · refine foldl_invariant (P := fun t : State => PortsOnly s t) (fun t e h => ?_) (.refl s)
    exact h.trans ⟨rfl, fun _ _ => rfl⟩
  · exact portsOnly_modPort s n _

theorem enterDetect_portsOnly (n : Nat) (s : State) : PortsOnly s (enterDetect n s) := by
  have hback : PortsOnly s (backInQueue n s) := by
    unfold backInQueue
    split
    · exact requeue_portsOnly n _ s
    · exact .refl s
  have hdet : PortsOnly s (detecting n s) := hback.trans (portsOnly_modPort _ n _)
  rw [enterDetect_eq]
  generalize detecting n s = t at hdet ⊢
  exact hdet.trans (portsOnly_setReg (by unfold puBase; omega) _ t)

theorem beginTraining_portsOnly {n : Nat} (hn : n < 64) (s : State) : PortsOnly s (beginTraining n s) :=
  (enterDetect_portsOnly n s).trans (setDisc_portsOnly hn .pending (enterDetect n s)).1

theorem mem_allPorts {n : Nat} : n ∈ allPorts ↔ n < 64 := List.mem_range

theorem trainAll_portsOnly (s : State) : PortsOnly s (trainAll s) := by
  have hfold : ∀ (l : List Nat) (t : State), (∀ n ∈ l, n < 64) → PortsOnly t (l.foldl (fun s n =>
      if bit (s.regN (puBase n + 0x04)) 2 then takeRole n s else beginTraining n s) t) := by
    intro l
    induction l with
    | nil => exact fun t _ => .refl t
    | cons n l ih =>
      intro t hl
      have hone : PortsOnly t (if bit (t.regN (puBase n + 0x04)) 2 then takeRole n t else beginTraining n t) := by
        split
        · exact portsOnly_modPort t n _
        · exact beginTraining_portsOnly (hl n List.mem_cons_self) t
      exact hone.trans (ih _ fun m hm => hl m (List.mem_cons_of_mem n hm))
  exact hfold allPorts s fun n hn => mem_allPorts.1 hn

/-! ## The start gate -/

theorem startGate_opened (s : State) : ∃ t, PortsOnly (s.setField 0x30 0 0 1) t ∧ t.ports = s.ports ∧ startGate true s =
    if bit (s.regN 0x30) 0 then t
    else (allPorts.filter (fun n => isEndpoint t n && (t.port n).link == .up && decide ((t.port n).fabver ≥ 1))).foldl (fun s n =>
      sendLinkLocal n tLinkCtrl 1 [(8 * 32, 8, 5)] s) t := by
  refine ⟨noteWrite 0x30 1 1 (s.setField 0x30 0 0 1), ⟨rfl, fun _ _ => rfl⟩, rfl, ?_⟩
  unfold startGate
  cases bit (s.regN 0x30) 0 with
  | true => rfl
  | false => rfl

theorem startGate_leaves (s : State) {n : Nat} (hn : n < 64) : (startGate true s).field 0x30 0 0 = 1 ∧ (startGate true s).mem = s.mem ∧
    (startGate true s).colls = s.colls ∧
    (s.field 0x30 0 0 = 0 → ((startGate true s).port n).link = (s.port n).link ∧ ((startGate true s).port n).linkLocal.length =
      (s.port n).linkLocal.length + (if isEndpoint s n = true ∧ (s.port n).link = .up ∧ 1 ≤ (s.port n).fabver then 1 else 0)) ∧
    (s.field 0x30 0 0 = 1 → (startGate true s).ports = s.ports) := by
  obtain ⟨t, hset, hports, hgate⟩ := startGate_opened s
  have hport : ∀ m, t.port m = s.port m := fun m => by rw [State.port, hports, State.port]
  have hfield : t.field 0x30 0 0 = 1 := (hset.field (by decide) 0 0).trans (field_setField_same (by decide) (by decide))
  have hframe : trainFrame t = trainFrame s := hset.1
  simp only [trainFrame, Prod.mk.injEq] at hframe
  obtain ⟨hmem, hcolls, -⟩ := hframe
  obtain ⟨⟨ps, q, c, hsent⟩, hlocal⟩ := foldl_sendLinkLocal tLinkCtrl 1 [(8 * 32, 8, 5)]
    (allPorts.filter (fun n => isEndpoint t n && (t.port n).link == .up && decide ((t.port n).fabver ≥ 1))) t
    (fun m hm => mem_allPorts.1 (List.mem_filter.1 hm).1) (nodup_allPorts.filter _)
  rw [hgate]
  by_cases hold : bit (s.regN 0x30) 0 = true
  · have hone : s.field 0x30 0 0 = 1 := bits_eq_one.2 hold
    rw [if_pos hold]
    exact ⟨hfield, hmem, hcolls, fun h => absurd (h.symm.trans hone) (by decide), fun _ => hports⟩
  · have hne : s.field 0x30 0 0 ≠ 1 := fun h => hold (bits_eq_one.1 h)
    rw [if_neg hold]
    refine ⟨?_, ?_, ?_, fun _ => ?_, fun h => absurd h hne⟩
    · rw [hsent]
      exact hfield
    · rw [hsent]
      exact hmem
    · rw [hsent]
      exact hcolls
    · obtain ⟨l, hlen, hl⟩ := hlocal n hn
      rw [hl, hport]
      refine ⟨rfl, ?_⟩
      have hiff : n ∈ allPorts.filter (fun n => isEndpoint t n && (t.port n).link == .up && decide ((t.port n).fabver ≥ 1)) ↔
          isEndpoint s n = true ∧ (s.port n).link = .up ∧ 1 ≤ (s.port n).fabver := by
        simp [mem_allPorts, hn, isEndpoint, hport, and_assoc]
      have hsum : ((s.port n).linkLocal ++ l).length = (s.port n).linkLocal.length + l.length := List.length_append
      rw [hsum, hlen]
      by_cases hin : n ∈ allPorts.filter (fun n => isEndpoint t n && (t.port n).link == .up && decide ((t.port n).fabver ≥ 1))
      · rw [if_pos hin, if_pos (hiff.1 hin)]
      · rw [if_neg hin, if_neg (fun h => hin (hiff.2 h))]

/-! ## Register records -/

theorem recList_regs (h : s.boot.phase = .regs) : recList s = s.boot.regs := by
  unfold recList
  rw [h]

theorem recList_late (h : s.boot.phase = .late) : recList s = s.boot.late := by
  unfold recList
  rw [h]

theorem mgcRead_clean (h : Whole s) : mgcRead s = (false, s) := by
  obtain ⟨he, hp⟩ : s.gerr = [] ∧ s.gpoison = [] := h
  unfold mgcRead
  rw [memScan_clean .glb mgcGranule s he hp]
  rfl

/-- R350: a record that may be performed is judged. -/
theorem regsRecord_judges {r : RegRec} (hcore : coreOn s = true) (hphase : s.boot.phase = .regs) (hw : s.boot.waiting = false)
    (hr : s.boot.regs[s.boot.idx]? = some r) (hfree : BusFree s r.addr) (hwhole : Whole s) :
    regsRecord s = if recordReason s r ≠ 0 then failApply (recordReason s r) s.boot.idx 0 s else recordWrite r s := by
  have hfail : recordFail (recordReason s r) 0 s = failApply (recordReason s r) s.boot.idx 0 s := by
    unfold recordFail
    rw [hphase]
  unfold regsRecord
  rw [hcore, if_neg (by decide), recList_regs hphase, hr]
  dsimp only
  rw [hw, if_neg Bool.false_ne_true, if_neg (by rw [show mustHold s r.addr true = false from hfree]; decide), mgcRead_clean hwhole, hfail]
  rfl

/-- The next record. -/
def nextRecord (t : State) : State := { t with boot := { t.boot with idx := t.boot.idx + 1, waiting := false } }

theorem recordPass_regs (h : s.boot.phase = .regs) : recordPass s = nextRecord s := by
  unfold recordPass
  extract_lets _ t
  have hphase : t.boot.phase = .regs := h
  rw [if_neg (by rw [hphase]; rintro ⟨h, -⟩; cases h)]
  rfl

theorem recordWrite_passes {r : RegRec} (hphase : s.boot.phase = .regs)
    (hkind : r.kind ≠ 3 ∨ accessKind r.addr 4 = .absent)
    (ht : (busWrite r.addr (if r.kind = 2 then 8 else 4) r.value false s).boot.phase = .regs) :
    recordWrite r s = nextRecord (busWrite r.addr (if r.kind = 2 then 8 else 4) r.value false s) := by
  unfold recordWrite
  extract_lets w t
  have hp : t.boot.phase = .regs := ht
  have hpass : nextRecord t = nextRecord (busWrite r.addr (if r.kind = 2 then 8 else 4) r.value false s) := rfl
  rw [← hpass]
  clear_value t
  rw [if_neg (by rw [hp, hphase]; decide), if_neg (fun h => hkind.elim (fun hk => hk h.1) (fun hk => h.2 hk)), recordPass_regs hp]

/-! ## A fresh start-up -/

/-- The fresh state of a retry, before its own registers are written (R353). -/
def retryBase (s : State) : State :=
  { State.reset with
    pending := s.pending
    fresh := s.fresh
    now := s.now
    aclk := s.aclk
    w1cSet := s.w1cSet
    again := s.again
    jtag := s.jtag
    stopsLeft := s.stopsLeft
    raised := s.raised
    pins := s.pins
    fuses := s.fuses
    flash := s.flash
    flashSize := s.flashSize
    csr := s.csr.filter (fun e => keptByRetry e.1)
    boot := { Boot.reset with copy := s.boot.copy + 1, sapReq := s.boot.sapReq, nvmOp := s.boot.nvmOp }
    hep := { Hep.reset with ports := s.hep.ports.map (fun (h : HostPort) => { HostPort.reset with out := h.out }) } }

/-- The cause of a retry as GLB_BOOT_STATUS gives it. -/
def retryNoted (why idx rr : Nat) (s : State) : State := ((setFail why s).setField 0xA0 39 16 idx).setField 0xA0 43 40 rr

theorem failApply_eq (why idx rr : Nat) (s : State) : failApply why idx rr s =
    wipeStart 1 (setBoot 1 ((retryBase (retryNoted why idx rr s)).setRegN 0x20 ((retryNoted why idx rr s).field 0x20 18 18 * 2 ^ 18))) := by
  unfold failApply
  rfl

theorem retryBase_reg {a : Nat} (h : keptByRetry a = true) (s : State) : (retryBase s).reg a = s.reg a := by
  have hget := tabGet_filter s.csr keptByRetry a
  rw [h, if_pos rfl] at hget
  have hcsr : (retryBase s).csr = s.csr.filter (fun e => keptByRetry e.1) := rfl
  have hfuses : (retryBase s).fuses = s.fuses := rfl
  rw [State.reg, State.reg, hcsr, hfuses, hget]

theorem retryBase_beside (s : State) : (retryBase s).mem = [] ∧ (retryBase s).colls = [] ∧ (retryBase s).fuses = s.fuses ∧
    (retryBase s).flash = s.flash ∧ (retryBase s).boot.copy = s.boot.copy + 1 := ⟨rfl, rfl, rfl, rfl, rfl⟩

theorem wipeStart_beside (cause : Nat) (s : State) : (wipeStart cause s).wiping = true ∧ (wipeStart cause s).mem = s.mem ∧
    (wipeStart cause s).colls = s.colls ∧ (wipeStart cause s).fuses = s.fuses ∧ (wipeStart cause s).flash = s.flash ∧
    (wipeStart cause s).boot = s.boot ∧ ∀ a, a ≠ 0x6000020 → (wipeStart cause s).reg a = s.reg a := by
  refine ⟨rfl, rfl, rfl, rfl, rfl, rfl, fun a ha => ?_⟩
  have hset : (wipeStart cause s).reg a = (s.setRegN 0x6000020 (1 + cause * 2)).reg a := rfl
  rw [hset, reg_setRegN, if_neg ha]

theorem retryNoted_leaves {why : Nat} (hw : why < 16) (idx rr : Nat) (hc : s.boot.copy ≤ 1) :
    (retryNoted why idx rr s).field 0xA0 (11 + 4 * s.boot.copy) (8 + 4 * s.boot.copy) = why ∧ (retryNoted why idx rr s).boot.copy = s.boot.copy ∧
      (retryNoted why idx rr s).fuses = s.fuses ∧ (retryNoted why idx rr s).flash = s.flash := by
  refine ⟨?_, rfl, rfl, rfl⟩
  unfold retryNoted
  rw [field_setField_below (by omega) (by omega) (by omega), field_setField_below (by omega) (by omega) (by omega)]
  exact setFail_field hw hc

theorem setBoot_beside (st : Nat) (s : State) : (setBoot st s).mem = s.mem ∧ (setBoot st s).colls = s.colls ∧ (setBoot st s).fuses = s.fuses ∧
    (setBoot st s).flash = s.flash ∧ (setBoot st s).boot = s.boot := ⟨rfl, rfl, rfl, rfl, rfl⟩

theorem setRegN_beside (a v : Nat) (s : State) : (s.setRegN a v).mem = s.mem ∧ (s.setRegN a v).colls = s.colls ∧ (s.setRegN a v).fuses = s.fuses ∧
    (s.setRegN a v).flash = s.flash ∧ (s.setRegN a v).boot = s.boot := ⟨rfl, rfl, rfl, rfl, rfl⟩

/-- R353: every block is reset, every memory wiped, and the next copy is in hand. -/
theorem failApply_leaves {why : Nat} (hw : why < 16) (idx rr : Nat) (hc : s.boot.copy ≤ 1) :
    bootState (failApply why idx rr s) = 1 ∧ (failApply why idx rr s).wiping = true ∧
      (failApply why idx rr s).field 0xA0 (11 + 4 * s.boot.copy) (8 + 4 * s.boot.copy) = why ∧
      (failApply why idx rr s).boot.copy = s.boot.copy + 1 ∧ (failApply why idx rr s).mem = [] ∧ (failApply why idx rr s).colls = [] ∧
      (failApply why idx rr s).fuses = s.fuses ∧ (failApply why idx rr s).flash = s.flash := by
  obtain ⟨hfail, hcopy, hfuses, hflash⟩ := retryNoted_leaves hw idx rr hc
  rw [failApply_eq]
  generalize retryNoted why idx rr s = n at *
  obtain ⟨bm, bc, bf, bl, bk⟩ := retryBase_beside n
  have hreg : (retryBase n).reg 0xA0 = n.reg 0xA0 := retryBase_reg (by decide) n
  generalize retryBase n = b at *
  generalize n.field 0x20 18 18 * 2 ^ 18 = v
  obtain ⟨rm, rc, rf, rl, rb⟩ := setRegN_beside 0x20 v b
  have hset : (b.setRegN 0x20 v).reg 0xA0 = b.reg 0xA0 := by rw [reg_setRegN, if_neg (by decide)]
  generalize b.setRegN 0x20 v = r at *
  obtain ⟨sm, sc, sf, sl, sb⟩ := setBoot_beside 1 r
  have hstate := bootState_setBoot (st := 1) (by decide) r
  have habove := setBoot_above (st := 1) (hi := 11 + 4 * s.boot.copy) (lo := 8 + 4 * s.boot.copy) (by omega) (by omega) (by omega) r
  generalize setBoot 1 r = x at *
  obtain ⟨ww, wm, wc, wf, wl, wb, wr⟩ := wipeStart_beside 1 x
  have hfield : ∀ hi lo, (wipeStart 1 x).field 0xA0 hi lo = x.field 0xA0 hi lo := fun hi lo =>
    congrArg (fun w : W64 => bits w.toNat hi lo) (wr 0xA0 (by decide))
  have hr : r.field 0xA0 (11 + 4 * s.boot.copy) (8 + 4 * s.boot.copy) = n.field 0xA0 (11 + 4 * s.boot.copy) (8 + 4 * s.boot.copy) :=
    congrArg (fun w : W64 => bits w.toNat _ _) (hset.trans hreg)
  refine ⟨(hfield 3 0).trans hstate, ww, ?_, ?_, ?_, ?_, ?_, ?_⟩
  · rw [hfield, habove, hr, hfail]
  · rw [wb, sb, rb, bk, hcopy]
  · rw [wm, sm, rm, bm]
  · rw [wc, sc, rc, bc]
  · rw [wf, sf, rf, bf, hfuses]
  · rw [wl, sl, rl, bl, hflash]

/-! ## LATE -/

/-- LATE has failed at the record in hand, its status `v`. -/
def lateFailed (v : Nat) (s : State) : State := { s.setRegN 0xAC v with boot := { s.boot with phase := .idle, waiting := false } }

/-- LATE begins at record `i`. -/
def lateBegun (i : Nat) (s : State) : State := { s.setField 0xAC 2 2 1 with boot := { s.boot with phase := .late, idx := i, waiting := false } }

theorem lateBegun_leaves (i : Nat) (s : State) : (lateBegun i s).field 0xAC 2 2 = 1 ∧ (lateBegun i s).boot.phase = .late ∧
    (lateBegun i s).boot.idx = i ∧ (lateBegun i s).boot.waiting = false ∧ ∀ a, a ≠ 0xAC → (lateBegun i s).reg a = s.reg a := by
  have hreg : ∀ a, (lateBegun i s).reg a = (s.setField 0xAC 2 2 1).reg a := fun _ => rfl
  refine ⟨?_, rfl, rfl, rfl, fun a ha => ?_⟩
  · exact (congrArg (fun w : W64 => bits w.toNat 2 2) (hreg 0xAC)).trans (field_setField_same (by decide) (by decide))
  · rw [hreg, reg_setField_ne ha]

/-- LATE begins (R354). -/
theorem lateGo_begins (hcore : coreOn s = true) (hstate : bootState s = 6) (hgo : s.field 0xAC 2 2 = 0) (hst : s.field 0xAC 1 0 ≠ 1) :
    lateGo s = lateBegun (if s.field 0xAC 1 0 = 2 then s.field 0xAC 23 8 else 0) s := by
  have hbit : bit (s.regN 0xAC) 2 = false := Bool.eq_false_iff.2 fun h => by
    have hone : s.field 0xAC 2 2 = 1 := bits_eq_one.2 h
    exact absurd (hone.symm.trans hgo) (by decide)
  have hne : (bits (s.regN 0xAC) 1 0 == 1) = false := beq_eq_false_iff_ne.2 hst
  unfold lateGo
  dsimp only
  rw [hcore, hbit, hne, if_neg (by simp [hstate])]
  rfl

theorem commitBusyTimeout_fails {r : RegRec} (hcore : coreOn s = true) (hphase : s.boot.phase = .late) (hw : s.boot.waiting = true)
    (hr : s.boot.late[s.boot.idx]? = some r) (hbusy : r.busyBit ≠ 0xFF)
    (hbit : ((busRead s (r.addr + 4) 4).getD 0).toNat.testBit r.busyBit = true) :
    commitBusyTimeout s = lateFailed (2 + 14 * 16 + s.boot.idx % 65536 * 256) s := by
  have hfail : recordFail 14 0 s = lateFailed (2 + 14 * 2 ^ 4 + s.boot.idx % 2 ^ 16 * 2 ^ 8 + 0 * 2 ^ 24) s := by
    unfold recordFail
    rw [hphase]
    rfl
  have hsum : 2 + 14 * 2 ^ 4 + s.boot.idx % 2 ^ 16 * 2 ^ 8 + 0 * 2 ^ 24 = 2 + 14 * 16 + s.boot.idx % 65536 * 256 := by omega
  rw [hsum] at hfail
  unfold commitBusyTimeout
  rw [hcore, hw, if_neg (by decide), recList_late hphase, hr]
  dsimp only
  rw [if_pos ⟨hbusy, hbit⟩, hfail]

theorem lateFailed_leaves (v : Nat) (s : State) : (lateFailed v s).reg 0xAC = BitVec.ofNat 64 v ∧ (lateFailed v s).boot.phase = .idle ∧
    ∀ a, a ≠ 0xAC → (lateFailed v s).reg a = s.reg a := by
  have hreg : ∀ a, (lateFailed v s).reg a = (s.setRegN 0xAC v).reg a := fun _ => rfl
  refine ⟨?_, rfl, fun a ha => ?_⟩
  · rw [hreg, reg_setRegN, if_pos rfl]
  · rw [hreg, reg_setRegN, if_neg ha]

theorem commitBusyTimeout_leaves {r : RegRec} (hcore : coreOn s = true) (hphase : s.boot.phase = .late) (hw : s.boot.waiting = true)
    (hr : s.boot.late[s.boot.idx]? = some r) (hbusy : r.busyBit ≠ 0xFF)
    (hbit : ((busRead s (r.addr + 4) 4).getD 0).toNat.testBit r.busyBit = true) :
    (commitBusyTimeout s).reg 0xAC = BitVec.ofNat 64 (2 + 14 * 16 + s.boot.idx % 65536 * 256) ∧ (commitBusyTimeout s).boot.phase = .idle ∧
      ∀ a, a ≠ 0xAC → (commitBusyTimeout s).reg a = s.reg a := by
  rw [commitBusyTimeout_fails hcore hphase hw hr hbusy hbit]
  exact lateFailed_leaves _ s

/-! ## The configuration is applied -/

theorem autoFill_portsOnly (s : State) : PortsOnly s (autoFill s) := by
  unfold autoFill
  refine foldl_invariant (P := fun t : State => PortsOnly s t) (fun t a h => ?_) (.refl s)
  refine foldl_invariant (P := fun t : State => PortsOnly s t) (fun t v h => ?_) h
  exact (h.trans (portsOnly_setReg (by omega) _ t)).trans (portsOnly_setReg (by omega) _ _)

theorem bpmApply_portsOnly (s : State) : PortsOnly s (bpmApply s) := by
  unfold bpmApply
  generalize List.foldl (fun t a => tabSet t a (s.reg a)) [] bpmRegs = forced
  exact ⟨rfl, fun _ _ => rfl⟩

/-- The switch is configured, its copy noted. -/
def configured (s : State) : State := setBoot 5 ((bpmApply s).setField 0xA0 4 4 s.boot.copy)

theorem configured_leaves (s : State) : trainFrame (configured s) = trainFrame s ∧ bootState (configured s) = 5 ∧
    (configured s).field 0xA0 4 4 = s.boot.copy % 2 ∧ ∀ a, a < 0x1000000 → a ≠ 0xA0 → (configured s).reg a = s.reg a := by
  have h1 := bpmApply_portsOnly s
  unfold configured
  generalize bpmApply s = t at h1 ⊢
  have h2 : trainFrame (t.setField 0xA0 4 4 s.boot.copy) = trainFrame t := rfl
  have h3 : (t.setField 0xA0 4 4 s.boot.copy).field 0xA0 4 4 = s.boot.copy % 2 := field_setField_same (by decide) (by decide)
  have h4 : ∀ a, a ≠ 0xA0 → (t.setField 0xA0 4 4 s.boot.copy).reg a = t.reg a := fun a ha => reg_setField_ne ha
  generalize t.setField 0xA0 4 4 s.boot.copy = v at *
  have h5 : trainFrame (setBoot 5 v) = trainFrame v := rfl
  refine ⟨h5.trans (h2.trans h1.1), bootState_setBoot (by decide) v, (setBoot_above (by decide) (by decide) (by decide) v).trans h3,
    fun a hlt ha => ?_⟩
  rw [reg_setBoot ha, h4 a ha, h1.2 a hlt]

/-- The configuration stands, and the discovery window opens. -/
def windowOpened (s : State) : State := { s with boot := { s.boot with applied := true, phase := .idle, windowOpen := placed s } }

/-- The staging area is wiped. -/
def stagingWiped (s : State) : State :=
  wipeStart (s.field 0x6000020 2 1) (wipeRange stagingBase storeEnd (if bit (s.regN 0x2000000) 0 then autoFill s else s))

theorem stagingWiped_leaves (s : State) : (∀ x, stagingBase ≤ x → x < storeEnd → cellGet 0 (stagingWiped s).mem x = 0) ∧
    (stagingWiped s).colls = s.colls ∧ (stagingWiped s).boot = s.boot ∧ ∀ a, a < 0x1000000 → (stagingWiped s).reg a = s.reg a := by
  have hfill : PortsOnly s (if bit (s.regN 0x2000000) 0 then autoFill s else s) := by
    split
    · exact autoFill_portsOnly s
    · exact .refl s
  unfold stagingWiped
  generalize (if bit (s.regN 0x2000000) 0 then autoFill s else s) = t at hfill ⊢
  obtain ⟨hframe, hreg⟩ := hfill
  simp only [trainFrame, Prod.mk.injEq] at hframe
  obtain ⟨-, hcolls, hboot, -⟩ := hframe
  have hrange : (wipeRange stagingBase storeEnd t).mem = cellClear t.mem stagingBase (storeEnd - stagingBase) ∧
      (wipeRange stagingBase storeEnd t).colls = t.colls ∧ (wipeRange stagingBase storeEnd t).boot = t.boot ∧
      ∀ a, (wipeRange stagingBase storeEnd t).reg a = t.reg a := ⟨rfl, rfl, rfl, fun _ => rfl⟩
  generalize wipeRange stagingBase storeEnd t = v at hrange ⊢
  obtain ⟨vm, vc, vb, vr⟩ := hrange
  obtain ⟨-, wm, wc, -, -, wb, wr⟩ := wipeStart_beside (s.field 0x6000020 2 1) v
  refine ⟨fun x hlo hhi => ?_, wc.trans (vc.trans hcolls), wb.trans (vb.trans hboot), fun a ha => ?_⟩
  · rw [wm, vm, cellGet_cellClear, if_pos (by omega)]
  · rw [wr a (by omega), vr, hreg a ha]

section
variable (hcore : coreOn s = true) (hstate : bootState s = 4) (hphase : s.boot.phase = .regs) (hw : s.boot.waiting = false)
  (hidx : s.boot.regs.length ≤ s.boot.idx)
include hcore hstate hphase hw hidx

theorem finalChecks_goes : finalChecks s = if !linkCfgOk s || !bpmLegal s (fun a => s.regN a) then failApply 11 0xFFFFFF 0 s
    else if placed (stagingWiped (configured s)) then trainAll (windowOpened (stagingWiped (configured s)))
    else windowOpened (stagingWiped (configured s)) := by
  unfold finalChecks
  rw [hcore, hphase, hw, if_neg (by simp [hstate]; omega)]
  rfl

end

theorem windowOpened_leaves (s : State) : (windowOpened s).boot = { s.boot with applied := true, phase := .idle, windowOpen := placed s } ∧
    (windowOpened s).mem = s.mem ∧ (windowOpened s).colls = s.colls ∧ ∀ a, (windowOpened s).reg a = s.reg a := ⟨rfl, rfl, rfl, fun _ => rfl⟩

/-- R352: the configuration applied. -/
theorem configuration_leaves (s : State) {v : State} (hv : PortsOnly (windowOpened (stagingWiped (configured s))) v) :
    bootState v = 5 ∧ v.boot.applied = true ∧ v.boot.windowOpen = placed s ∧ v.field 0xA0 4 4 = s.boot.copy % 2 ∧
      (∀ x, stagingBase ≤ x → x < storeEnd → cellGet 0 v.mem x = 0) ∧ v.colls = s.colls := by
  obtain ⟨cframe, cstate, ccopy, creg⟩ := configured_leaves s
  simp only [trainFrame, Prod.mk.injEq] at cframe
  obtain ⟨-, ccolls, -⟩ := cframe
  generalize configured s = c at *
  obtain ⟨wzero, wcolls, -, wreg⟩ := stagingWiped_leaves c
  generalize stagingWiped c = w at *
  obtain ⟨oboot, omem, ocolls, oreg⟩ := windowOpened_leaves w
  generalize windowOpened w = o at *
  obtain ⟨vframe, vreg⟩ := hv
  simp only [trainFrame, Prod.mk.injEq] at vframe
  obtain ⟨vmem, vcolls, vboot, -⟩ := vframe
  have hreg : ∀ a, a < 0x1000000 → v.reg a = c.reg a := fun a ha => (vreg a ha).trans ((oreg a).trans (wreg a ha))
  have hfield : ∀ hi lo, v.field 0xA0 hi lo = c.field 0xA0 hi lo := fun hi lo =>
    congrArg (fun x : W64 => bits x.toNat hi lo) (hreg 0xA0 (by decide))
  have hplaced : placed w = placed s := congrArg (fun x : W64 => bits x.toNat 20 19 == 1)
    ((wreg 0x20 (by decide)).trans (creg 0x20 (by decide) (by decide)))
  rw [oboot] at vboot
  refine ⟨(hfield 3 0).trans cstate, ?_, ?_, (hfield 4 4).trans ccopy, fun x hlo hhi => ?_, vcolls.trans (ocolls.trans (wcolls.trans ccolls))⟩
  · rw [vboot]
  · rw [vboot]
    exact hplaced
  · rw [vmem, omem]
    exact wzero x hlo hhi

/-! ## The window's close -/

theorem closePort_leaves {n : Nat} (hn : n < 64) (s : State) : PortsOnly s (closePort n s) ∧
    (∀ m, m < 64 → m ≠ n → (closePort n s).port m = s.port m) ∧
    ((s.port n).link ≠ .disabled → (s.port n).role ≠ roleNone → (s.port n).disc = .pending →
      ((closePort n s).port n).disc = .missing ∧ ((closePort n s).port n).link = .heldDown) := by
  have hmod : ∀ m, m < 64 → m ≠ n → (s.modPort n (fun q => { q with link := .heldDown, laneUse := 0 })).port m = s.port m :=
    fun m hm hne => port_setPort_ne s n m _ (by omega)
  have hsame : (s.modPort n (fun q => { q with link := .heldDown, laneUse := 0 })).port n =
      { s.port n with link := .heldDown, laneUse := 0 } := port_modPort_same n _
  have honly := portsOnly_modPort s n (fun q => { q with link := .heldDown, laneUse := 0 })
  unfold closePort
  extract_lets q
  generalize s.modPort n (fun q => { q with link := .heldDown, laneUse := 0 }) = t at *
  have hq : q = s.port n := rfl
  clear_value q
  rw [← hq]
  split
  · next hd => exact ⟨.refl s, fun _ _ _ => rfl, fun hl _ _ => absurd (beq_iff_eq.1 hd) hl⟩
  · split
    · obtain ⟨hset, hports⟩ := setDisc_portsOnly hn .missing t
      refine ⟨honly.trans hset, fun m hm hne => ?_, fun _ _ _ => ?_⟩
      · rw [hports m hm, if_neg hne, hmod m hm hne]
      · rw [hports n hn, if_pos rfl, hsame]
        exact ⟨rfl, rfl⟩
    · next hnone =>
      have hvac : q.link ≠ .disabled → q.role ≠ roleNone → q.disc = .pending → False := fun _ hr hp =>
        hnone (by rw [hp, bne_iff_ne.2 hr]; rfl)
      split
      · exact ⟨honly, hmod, fun h1 h2 h3 => (hvac h1 h2 h3).elim⟩
      · exact ⟨.refl s, fun _ _ _ => rfl, fun h1 h2 h3 => (hvac h1 h2 h3).elim⟩

theorem closePorts_leaves (l : List Nat) : ∀ (t : State), (∀ n ∈ l, n < 64) → l.Nodup → PortsOnly t (l.foldl (fun s n => closePort n s) t) ∧
    (∀ m, m < 64 → m ∉ l → (l.foldl (fun s n => closePort n s) t).port m = t.port m) ∧
    ∀ m ∈ l, (t.port m).link ≠ .disabled → (t.port m).role ≠ roleNone → (t.port m).disc = .pending →
      ((l.foldl (fun s n => closePort n s) t).port m).disc = .missing ∧ ((l.foldl (fun s n => closePort n s) t).port m).link = .heldDown := by
  induction l with
  | nil => exact fun t _ _ => ⟨.refl t, fun _ _ _ => rfl, fun m hm => absurd hm List.not_mem_nil⟩
  | cons n l ih =>
    intro t hl hd
    obtain ⟨hnl, hd⟩ := List.nodup_cons.1 hd
    have hn := hl n List.mem_cons_self
    obtain ⟨hone, hother, hclosed⟩ := closePort_leaves hn t
    obtain ⟨hrest, hkept, hends⟩ := ih (closePort n t) (fun m hm => hl m (List.mem_cons_of_mem n hm)) hd
    refine ⟨hone.trans hrest, fun m hm hmem => ?_, fun m hm hlink hrole hdisc => ?_⟩
    · obtain ⟨hne, hml⟩ := not_or.1 (fun h => hmem (List.mem_cons.2 h))
      exact (hkept m hm hml).trans (hother m hm hne)
    · rcases List.mem_cons.1 hm with rfl | hml
      · rw [List.foldl_cons, hkept m hn hnl]
        exact hclosed hlink hrole hdisc
      · have hne : m ≠ n := fun h => hnl (h ▸ hml)
        have hm64 := hl m (List.mem_cons_of_mem n hml)
        rw [← hother m hm64 hne] at hlink hrole hdisc
        exact hends m hml hlink hrole hdisc

/-- R91: the switch is READY. -/
theorem nowReady_leaves (s : State) : bootState (nowReady s) = 6 ∧ ready (nowReady s) = true ∧ (nowReady s).hep.nextEseq = s.hep.nextEseq + 1 ∧
    (nowReady s).ports = s.ports ∧ (nowReady s).mem = s.mem ∧ (nowReady s).boot = s.boot := by
  have h1 : (s.setField 0x30 1 1 1).field 0x30 1 1 = 1 := field_setField_same (by decide) (by decide)
  have hs : (s.setField 0x30 1 1 1).ports = s.ports ∧ (s.setField 0x30 1 1 1).mem = s.mem ∧ (s.setField 0x30 1 1 1).boot = s.boot ∧
      (s.setField 0x30 1 1 1).hep = s.hep := ⟨rfl, rfl, rfl, rfl⟩
  unfold nowReady
  generalize s.setField 0x30 1 1 1 = t at *
  have hstate := bootState_setBoot (st := 6) (by decide) t
  have hreg : (setBoot 6 t).field 0x30 1 1 = t.field 0x30 1 1 := field_setField_ne (by decide)
  have hb : (setBoot 6 t).ports = t.ports ∧ (setBoot 6 t).mem = t.mem ∧ (setBoot 6 t).boot = t.boot ∧ (setBoot 6 t).hep = t.hep := ⟨rfl, rfl, rfl, rfl⟩
  generalize setBoot 6 t = v at *
  obtain ⟨hpush, hpp⟩ := pushEvent_portsOnly evReady 0xFF (BitVec.ofNat 64 (discSum v)) v
  obtain ⟨-, -, heseq⟩ := pushEvent_leaves evReady 0xFF (BitVec.ofNat 64 (discSum v)) v
  dsimp only
  generalize pushEvent v evReady 0xFF (BitVec.ofNat 64 (discSum v)) = w at *
  have hframe := hpush.1
  simp only [trainFrame, Prod.mk.injEq] at hframe
  obtain ⟨hm, -, hbt, -⟩ := hframe
  obtain ⟨p1, m1, b1, e1⟩ := hs
  obtain ⟨p2, m2, b2, e2⟩ := hb
  refine ⟨(hpush.field (by decide) 3 0).trans hstate, ?_, ?_, ?_, ?_, ?_⟩
  · exact bits_eq_one.1 ((hpush.field (by decide) 1 1).trans (hreg.trans h1))
  · rw [heseq, e2, e1]
  · rw [hpp, p2, p1]
  · rw [hm, m2, m1]
  · rw [hbt, b2, b1]

theorem PortsOnly.coreOn (h : PortsOnly s t) : coreOn t = coreOn s := by
  obtain ⟨hframe, hreg⟩ := h
  simp only [trainFrame, Prod.mk.injEq] at hframe
  obtain ⟨-, -, -, hpins, -⟩ := hframe
  have hlatched : latched t = latched s := congrArg (fun w : W64 => bit w.toNat 0) (hreg 0x200018 (by decide))
  rw [Machine.coreOn, Machine.coreOn, held, held, hlatched, hpins]

/-- The window is shut. -/
def windowShut (s : State) : State := { s with boot := { s.boot with windowOpen := false } }

theorem windowShut_beside (s : State) : (windowShut s).boot = { s.boot with windowOpen := false } ∧ (windowShut s).mem = s.mem ∧
    (windowShut s).ports = s.ports ∧ (windowShut s).pins = s.pins ∧ ∀ a, (windowShut s).reg a = s.reg a := ⟨rfl, rfl, rfl, rfl, fun _ => rfl⟩

theorem discoveryWindowClose_closes (hcore : coreOn s = true) (hopen : s.boot.windowOpen = true) : discoveryWindowClose s =
    fabricReady (allPorts.foldl (fun s n => closePort n s) (windowShut s)) := by
  unfold discoveryWindowClose
  exact if_neg (by rw [hcore, hopen]; decide)

theorem fabricReady_goes (hlive : portsLive s = true) (hready : ready s = false) (hstate : bootState s = 5)
    (hwin : s.boot.windowOpen = true → noPending s = true) : fabricReady s = nowReady s := by
  unfold fabricReady
  refine if_neg ?_
  rw [hlive, hready, hstate]
  cases h : s.boot.windowOpen with
  | false => simp
  | true => simp [hwin h]

/-- R91: the close of the window makes the switch READY. -/
theorem windowClose_leaves (hcore : coreOn s = true) (hopen : s.boot.windowOpen = true) (happ : s.boot.applied = true)
    (hplaced : placed s = true) (hready : ready s = false) (hstate : bootState s = 5) :
    (discoveryWindowClose s).boot.windowOpen = false ∧ bootState (discoveryWindowClose s) = 6 ∧ ready (discoveryWindowClose s) = true ∧
      (discoveryWindowClose s).mem = s.mem ∧ ∀ n, n < 64 → (s.port n).link ≠ .disabled → (s.port n).role ≠ roleNone →
        (s.port n).disc = .pending → ((discoveryWindowClose s).port n).disc = .missing ∧ ((discoveryWindowClose s).port n).link = .heldDown := by
  rw [discoveryWindowClose_closes hcore hopen]
  have hshut := windowShut_beside s
  generalize windowShut s = t at hshut ⊢
  obtain ⟨hboot, hmem, hports, hpins, hregt⟩ := hshut
  obtain ⟨honly, -, hclosed⟩ := closePorts_leaves allPorts t (fun n hn => mem_allPorts.1 hn) nodup_allPorts
  generalize allPorts.foldl (fun s n => closePort n s) t = v at honly hclosed ⊢
  have hreg : ∀ a, a < 0x1000000 → v.reg a = s.reg a := fun a ha => (honly.2 a ha).trans (hregt a)
  have hfield : ∀ a hi lo, a < 0x1000000 → v.field a hi lo = s.field a hi lo := fun a hi lo ha =>
    congrArg (fun w : W64 => bits w.toNat hi lo) (hreg a ha)
  have hcoret : coreOn t = coreOn s := by
    have hlatched : latched t = latched s := congrArg (fun w : W64 => bit w.toNat 0) (hregt 0x200018)
    rw [coreOn, coreOn, held, held, hlatched, hpins]
  have hframe := honly.1
  simp only [trainFrame, Prod.mk.injEq] at hframe
  obtain ⟨hm, -, hb, -⟩ := hframe
  have hlive : portsLive v = true := by
    have hp : placed v = placed s := congrArg (· == 1) (hfield 0x20 20 19 (by decide))
    rw [portsLive, honly.coreOn, hcoret, hcore, hb, hboot, hp, hplaced, happ]
    rfl
  have hrv : ready v = false := (congrArg (fun w : W64 => bit w.toNat 1) (hreg 0x30 (by decide))).trans hready
  have hshutv : v.boot.windowOpen = false := by rw [hb, hboot]
  rw [fabricReady_goes hlive hrv ((hfield 0xA0 3 0 (by decide)).trans hstate) (fun h => by rw [hshutv] at h; cases h)]
  obtain ⟨nstate, nready, -, nports, nmem, nboot⟩ := nowReady_leaves v
  refine ⟨?_, nstate, nready, ?_, fun n hn hlink hrole hdisc => ?_⟩
  · rw [nboot, hshutv]
  · rw [nmem, hm, hmem]
  · have hport : t.port n = s.port n := by rw [State.port, hports, State.port]
    rw [State.port, nports]
    rw [← hport] at hlink hrole hdisc
    exact hclosed n (mem_allPorts.2 hn) hlink hrole hdisc

theorem recordReason_lt (s : State) (r : RegRec) : recordReason s r < 16 := by
  unfold recordReason
  extract_lets w
  split
  · decide
  · split
    · decide
    · split
      · decide
      · decide

/-- Settles O49. -/
theorem recordsApplyAndTheFabricOpens : Obligations.RecordsApplyAndTheFabricOpens := by
  unfold Obligations.RecordsApplyAndTheFabricOpens
  refine ⟨fun s n hn hidle => ?_, ?_⟩
  · have hheld : held s = false := by
      have hcore : coreOn s = true := hidle
      rw [coreOn, Bool.and_eq_true, Bool.not_eq_true'] at hcore
      exact hcore.1
    have hexec : exec .startGateOpen s = .next (startGate true s) := congrArg Host.Outcome.next (if_neg (by rw [hheld]; decide))
    exact ⟨_, hexec, startGate_leaves s hn⟩
  intro s r w t hcore
  have htw : t = busWrite r.addr (if r.kind = 2 then 8 else 4) r.value false s := rfl
  clear_value t
  refine ⟨fun hphase hwait hr hok hfree hwhole hkind ht => ?_, fun hphase hwait hr hbad hfree hwhole hc => ?_,
    fun hphase hwait hr hbusy hbit => ?_, fun hstate hphase hwait hidx hlink hlegal => ?_, fun hstate hphase hwait hidx hlink hc => ?_,
    fun hopen happ hplaced hready hstate => ?_, fun hlive hready hstate hwin => ?_, fun hstate hgo hst => ?_⟩
  · have hexec : exec .regsRecord s = .next (regsRecord s) := rfl
    rw [hexec, regsRecord_judges hcore hphase hwait hr hfree hwhole, hok, if_neg (fun h => h rfl), recordWrite_passes hphase hkind (htw ▸ ht), ← htw]
    rfl
  · have hexec : exec .regsRecord s = .next (regsRecord s) := rfl
    refine ⟨_, hexec, ?_⟩
    rw [regsRecord_judges hcore hphase hwait hr hfree hwhole, if_pos hbad]
    exact failApply_leaves (recordReason_lt s r) _ _ hc
  · have hexec : exec .commitBusyTimeout s = .next (commitBusyTimeout s) := rfl
    exact ⟨_, hexec, commitBusyTimeout_leaves hcore hphase hwait hr hbusy hbit⟩
  · have hexec : exec .finalChecks s = .next (finalChecks s) := rfl
    refine ⟨_, hexec, ?_⟩
    rw [finalChecks_goes hcore hstate hphase hwait hidx, hlink, hlegal, if_neg (by decide)]
    split
    · exact configuration_leaves s (trainAll_portsOnly _)
    · exact configuration_leaves s (.refl _)
  · have hexec : exec .finalChecks s = .next (finalChecks s) := rfl
    refine ⟨_, hexec, ?_⟩
    rw [finalChecks_goes hcore hstate hphase hwait hidx, hlink, Bool.not_false, Bool.true_or, if_pos rfl]
    obtain ⟨hone, hwiping, hfail, hcopy, -⟩ := failApply_leaves (s := s) (why := 11) (by decide) 0xFFFFFF 0 hc
    exact ⟨hone, hwiping, hfail, hcopy⟩
  · have hexec : exec .discoveryWindowClose s = .next (discoveryWindowClose s) := rfl
    exact ⟨_, hexec, windowClose_leaves hcore hopen happ hplaced hready hstate⟩
  · have hexec : exec .fabricReady s = .next (fabricReady s) := rfl
    refine ⟨_, hexec, ?_⟩
    rw [fabricReady_goes hlive hready hstate hwin]
    obtain ⟨nstate, nready, neseq, nports, nmem, -⟩ := nowReady_leaves s
    exact ⟨nstate, nready, neseq, nports, nmem⟩
  · have hexec : exec .lateGo s = .next (lateGo s) := rfl
    refine ⟨_, hexec, ?_⟩
    rw [lateGo_begins hcore hstate hgo hst]
    exact lateBegun_leaves _ s

end Sys2Proof.Proofs
end

section
/-!
PROOFS. What BLOCK_RESET does to each block (O41).
-/

namespace Sys2Proof.Proofs
open Sys2Proof Sys2Proof.Machine Sys2Proof.Claims

set_option Elab.async false

variable {s t u : State}

/-! ## A port unit -/

/-- A port whose queues are gone. -/
def queuesGone (q : Port) : Port :=
  { q with egress := [], linkLocal := [], kept := [], replay := [], resend := 0, txPart := [], txPartOf := none }

theorem discardQueues_port (n : Nat) (s : State) : (discardQueues n s).port n = queuesGone (s.port n) := by
  unfold discardQueues
  refine foldl_invariant (P := fun t : State => t.port n = queuesGone (s.port n)) (fun t p h => ?_) (port_modPort_same n _)
  exact h

theorem discardQueues_live (n : Nat) (s : State) : portsLive (discardQueues n s) = portsLive s := by
  unfold discardQueues
  refine foldl_invariant (P := fun t : State => portsLive t = portsLive s) (fun t p h => ?_) rfl
  exact h

/-- One port's STOPs leave. -/
theorem stopsLeaveAt_one (n : Nat) (s : State) : portsLive (stopsLeaveAt [n] s) = portsLive s ∧
    ((stopsLeaveAt [n] s).port n).link = (s.port n).link := by
  have hmod : ∀ f : Port → Port, (∀ q, (f q).link = q.link) → ((s.modPort n f).port n).link = (s.port n).link := fun f hf => by
    rw [port_modPort_same, hf]
  have hone := hmod (fun q => { q with linkLocal := q.linkLocal.filter (fun p => p.typ != tStop) }) fun _ => rfl
  unfold stopsLeaveAt
  rw [List.foldl_cons, List.foldl_nil]
  extract_lets out
  clear_value out
  by_cases hout : out.isEmpty = true
  · rw [if_pos hout]
    exact ⟨rfl, rfl⟩
  · rw [if_neg hout]
    exact ⟨rfl, hone⟩

/-- No queue, nothing to send again. -/
def Emptiness (q : Port) : Prop := q.egress = [] ∧ q.linkLocal = [] ∧ q.replay = [] ∧ q.txPartOf = none

theorem emptiness_queuesGone (q : Port) : Emptiness (queuesGone q) := ⟨rfl, rfl, rfl, rfl⟩

/-- The training of a port with empty queues leaves them empty. -/
theorem enterDetect_empties {n : Nat} (h : Emptiness (s.port n)) : Emptiness ((enterDetect n s).port n) ∧
    ((enterDetect n s).port n).link = .detect ∧ ((enterDetect n s).port n).failed = (s.port n).failed := by
  obtain ⟨he, hl, hr, hp⟩ := h
  have hback : (backInQueue n s).port n = s.port n := by
    have hnone : (partBack (s.port n)).toList = [] := by
      rw [partBack, hp]
      rfl
    unfold backInQueue
    split
    · rw [port_requeue, hnone, queueBehind, he]
      split
      · exact congrArg (fun e => { s.port n with egress := e }) he.symm
      · exact congrArg (fun e => { s.port n with egress := e }) he.symm
    · rfl
  obtain ⟨r, d, w, hport⟩ := enterDetect_port (s := s) n
  rw [hback] at hport
  rw [hport]
  refine ⟨⟨he, ?_, rfl, rfl⟩, rfl, rfl⟩
  rw [inDetect]
  dsimp only
  split
  · rw [hl]
    rfl
  · rfl

theorem linkRetrain_stays (h : ¬ (portsLive s = true ∧ (s.port n).link ≠ .disabled)) : linkRetrain n s = s := by
  unfold linkRetrain
  refine if_pos ?_
  cases hlive : portsLive s with
  | false => rfl
  | true =>
    have hlink : (s.port n).link = .disabled := Decidable.of_not_not fun hl => h ⟨hlive, hl⟩
    rw [hlink]
    rfl

theorem linkRetrain_trains {n : Nat} (hlive : portsLive s = true) (hlink : (s.port n).link ≠ .disabled) :
    linkRetrain n s = beginTraining n (s.modPort n (fun q => { q with failed := 0 })) := by
  unfold linkRetrain
  exact if_neg (by rw [hlive]; simpa using hlink)

/-- Table 14.3: BLOCK_RESET of a port unit. -/
theorem blockReset_pu (k : Fin 64) (s : State) : ((blockReset (.pu k) s).port k.val).egress = [] ∧
    ((blockReset (.pu k) s).port k.val).linkLocal = [] ∧ ((blockReset (.pu k) s).port k.val).replay = [] ∧
    (portsLive s = true → (s.port k.val).link ≠ .disabled →
      ((blockReset (.pu k) s).port k.val).link = .detect ∧ ((blockReset (.pu k) s).port k.val).failed = 0) := by
  obtain ⟨hlive, hlink⟩ := stopsLeaveAt_one k.val s
  have hreset : blockReset (.pu k) s = linkRetrain k.val (discardQueues k.val (stopsLeaveAt [k.val] s)) := rfl
  rw [hreset]
  generalize stopsLeaveAt [k.val] s = a at *
  have hport := discardQueues_port k.val a
  have hdl := discardQueues_live k.val a
  generalize discardQueues k.val a = v at *
  rw [← hlive, ← hlink]
  have hvlink : (v.port k.val).link = (a.port k.val).link := by rw [hport]; rfl
  by_cases hgo : portsLive v = true ∧ (v.port k.val).link ≠ .disabled
  · obtain ⟨h1, h2⟩ := hgo
    rw [linkRetrain_trains h1 h2]
    have hw : (v.modPort k.val (fun q => { q with failed := 0 })).port k.val = { queuesGone (a.port k.val) with failed := 0 } := by
      rw [port_modPort_same, hport]
    generalize v.modPort k.val (fun q => { q with failed := 0 }) = w at *
    have hempty : Emptiness (w.port k.val) := by
      rw [hw]
      exact emptiness_queuesGone (a.port k.val)
    obtain ⟨⟨he, hl, hr, -⟩, hd, hf⟩ := enterDetect_empties hempty
    have hfailed : (w.port k.val).failed = 0 := by rw [hw]
    obtain ⟨-, hdisc⟩ := setDisc_portsOnly k.isLt .pending (enterDetect k.val w)
    have hq := hdisc k.val k.isLt
    rw [if_pos rfl] at hq
    rw [beginTraining, hq]
    exact ⟨he, hl, hr, fun _ _ => ⟨hd, hf.trans hfailed⟩⟩
  · rw [linkRetrain_stays hgo, hport]
    refine ⟨rfl, rfl, rfl, fun h1 h2 => absurd ⟨hdl.trans h1, ?_⟩ hgo⟩
    rw [hvlink]
    exact h2

/-! ## An engine -/

/-- Table 14.3: BLOCK_RESET of an engine. -/
theorem blockReset_engine (k : Fin 64) (s : State) : ((blockReset (.j k) s).engine k.val).runs = [] ∧
    ((blockReset (.j k) s).engine k.val).queue = [] ∧ (∀ c ∈ (blockReset (.j k) s).colls, k.val ∉ c.engines) ∧
    (blockReset (.j k) s).mem = s.mem := by
  have hreset : blockReset (.j k) s = failColls (fun c => c.engines.contains k.val) 3 ((endRuns k.val s).setField (jBase k.val + 0x24) 2 0 0) := rfl
  rw [hreset]
  have hempty : Emptied (((endRuns k.val s).setField (jBase k.val + 0x24) 2 0 0).engine k.val) := by
    rw [engine_setField]
    exact endRuns_empties k.val s
  have hmem : ((endRuns k.val s).setField (jBase k.val + 0x24) 2 0 0).mem = s.mem := rfl
  generalize (endRuns k.val s).setField (jBase k.val + 0x24) 2 0 0 = t at *
  have hfail : Beside t (failColls (fun c => c.engines.contains k.val) 3 t) := failColls_beside (Beside.refl t)
  obtain ⟨hq, -, hr⟩ := hempty.of_dwindled (hfail.engines k.val)
  have hcalm : (calmPart (failColls (fun c => c.engines.contains k.val) 3 t)).mem = (calmPart t).mem := congrArg State.mem hfail.calm
  refine ⟨hr, hq, fun c hc hk => ?_, hcalm.trans hmem⟩
  have hno := (failColls_colls hc).2
  rw [List.contains_iff_mem.2 hk] at hno
  cases hno

/-! ## The CSQ -/

/-- What closing expert work only shrinks. -/
def Shrinks (s t : State) : Prop := (∀ c ∈ t.combs, c ∈ s.combs) ∧ ∀ x ∈ t.xsteps, x ∈ s.xsteps

theorem Shrinks.refl (s : State) : Shrinks s s := ⟨fun _ h => h, fun _ h => h⟩

theorem Shrinks.trans (h : Shrinks s t) (k : Shrinks t u) : Shrinks s u :=
  ⟨fun c hc => h.1 c (k.1 c hc), fun x hx => h.2 x (k.2 x hx)⟩

theorem advanceXH_experts (fuel t : Nat) (s : State) : (advanceXH fuel t s).combs = s.combs ∧ (advanceXH fuel t s).xsteps = s.xsteps := by
  induction fuel generalizing s with
  | zero => exact ⟨rfl, rfl⟩
  | succ f ih =>
    unfold advanceXH
    split
    · exact ih _
    · exact ⟨rfl, rfl⟩

theorem closeStep_experts (t : Nat) (cseq : W32) (s : State) : (closeStep t cseq s).combs = s.combs ∧
    (closeStep t cseq s).xsteps = s.xsteps.filter (fun x => !(x.table == t && x.cseq == cseq)) := advanceXH_experts 16 t _

theorem closeStep_shrinks (t : Nat) (cseq : W32) (s : State) : Shrinks s (closeStep t cseq s) := by
  obtain ⟨hc, hx⟩ := closeStep_experts t cseq s
  refine ⟨fun c h => hc ▸ h, fun x h => ?_⟩
  rw [hx] at h
  exact (List.mem_filter.1 h).1

theorem endRunsOf_experts (mine : RunOrigin → Bool) (s : State) : (endRunsOf mine s).combs = s.combs ∧ (endRunsOf mine s).xsteps = s.xsteps := by
  unfold endRunsOf
  refine foldl_invariant (P := fun t : State => t.combs = s.combs ∧ t.xsteps = s.xsteps) (fun t n h => ?_) ⟨rfl, rfl⟩
  exact h

theorem dropComb_experts (c : Comb) (s : State) : (dropComb c s).combs = s.combs.filter (fun d => !sameComb c d) ∧ (dropComb c s).xsteps = s.xsteps := by
  obtain ⟨hc, hx⟩ := endRunsOf_experts (ofComb c) s
  unfold dropComb
  dsimp only
  exact ⟨by rw [hc], hx⟩

theorem count_shrinks {ev n : Nat} {p tc g : Option Nat} (s : State) : Shrinks s (count ev n p tc g s) := ⟨fun _ h => h, fun _ h => h⟩

theorem finishStep_shrinks (t : Nat) (cseq : W32) (s : State) : Shrinks s (finishStep t cseq s) := by
  unfold finishStep
  split
  · exact .refl s
  · extract_lets source
    split
    · exact (count_shrinks s).trans (closeStep_shrinks t cseq _)
    · exact .refl s

/-- A combine context that closes is gone. -/
theorem closeComb_leaves (c : Comb) (s : State) : Shrinks s (closeComb c s) ∧ c ∉ (closeComb c s).combs := by
  obtain ⟨hc, hx⟩ := dropComb_experts c s
  obtain ⟨hfc, hfx⟩ := finishStep_shrinks c.table c.cseq (dropComb c s)
  unfold closeComb
  refine ⟨⟨fun d hd => ?_, fun x h => hx ▸ hfx x h⟩, fun hin => ?_⟩
  · have h := hfc d hd
    rw [hc] at h
    exact (List.mem_filter.1 h).1
  · have h := hfc c hin
    rw [hc] at h
    have hself : sameComb c c = true := by simp [sameComb]
    have hno := (List.mem_filter.1 h).2
    rw [hself] at hno
    cases hno

theorem foldl_shrinks {α : Type} {f : State → α → State} (hf : ∀ t x, Shrinks t (f t x)) (l : List α) (s : State) : Shrinks s (l.foldl f s) :=
  foldl_invariant (P := fun t : State => Shrinks s t) (fun t x h => h.trans (hf t x)) (.refl s)

/-- Table 14.3: no expert work is left. -/
theorem dropExperts_all (s : State) : (dropExperts (fun _ => true) (fun _ => true) s).xsteps = [] ∧
    (dropExperts (fun _ => true) (fun _ => true) s).combs = [] := by
  have hcombs : ∀ (l : List Comb) (t : State), Shrinks t (l.foldl (fun s c => closeComb c s) t) ∧
      ∀ c ∈ l, c ∉ (l.foldl (fun s c => closeComb c s) t).combs := by
    intro l
    induction l with
    | nil => exact fun t => ⟨.refl t, fun c hc => absurd hc List.not_mem_nil⟩
    | cons d l ih =>
      intro t
      obtain ⟨hone, hgone⟩ := closeComb_leaves d t
      obtain ⟨hrest, hgones⟩ := ih (closeComb d t)
      refine ⟨hone.trans hrest, fun c hc => ?_⟩
      rcases List.mem_cons.1 hc with rfl | hc
      · exact fun hin => hgone (hrest.1 c hin)
      · exact hgones c hc
  have hsteps : ∀ (l : List XStep) (t : State), Shrinks t (l.foldl (fun s x => closeStep x.table x.cseq s) t) ∧
      ∀ x ∈ l, x ∉ (l.foldl (fun s x => closeStep x.table x.cseq s) t).xsteps := by
    intro l
    induction l with
    | nil => exact fun t => ⟨.refl t, fun x hx => absurd hx List.not_mem_nil⟩
    | cons y l ih =>
      intro t
      obtain ⟨hrest, hgones⟩ := ih (closeStep y.table y.cseq t)
      have hgone : y ∉ (closeStep y.table y.cseq t).xsteps := fun hin => by
        rw [(closeStep_experts y.table y.cseq t).2] at hin
        have hno := (List.mem_filter.1 hin).2
        simp at hno
      refine ⟨(closeStep_shrinks y.table y.cseq t).trans hrest, fun x hx => ?_⟩
      rcases List.mem_cons.1 hx with rfl | hx
      · exact fun hin => hgone (hrest.2 x hin)
      · exact hgones x hx
  unfold dropExperts
  dsimp only
  obtain ⟨hshrink, hgone⟩ := hcombs (s.combs.filter fun _ => true) s
  have hnone : ((s.combs.filter fun _ => true).foldl (fun s c => closeComb c s) s).combs = [] :=
    List.eq_nil_iff_forall_not_mem.2 fun c hc => hgone c (List.mem_filter.2 ⟨hshrink.1 c hc, rfl⟩) hc
  generalize (s.combs.filter fun _ => true).foldl (fun s c => closeComb c s) s = v at hnone ⊢
  obtain ⟨hshrink', hgone'⟩ := hsteps (v.xsteps.filter fun _ => true) v
  refine ⟨List.eq_nil_iff_forall_not_mem.2 fun x hx => hgone' x (List.mem_filter.2 ⟨hshrink'.2 x hx, rfl⟩) hx,
    List.eq_nil_iff_forall_not_mem.2 fun c hc => ?_⟩
  have hin := hshrink'.1 c hc
  rw [hnone] at hin
  exact List.not_mem_nil hin

/-- Table 14.3: BLOCK_RESET of the CSQ. -/
theorem blockReset_csq (s : State) : (blockReset .csq s).colls = [] ∧ (blockReset .csq s).xsteps = [] ∧ (blockReset .csq s).combs = [] ∧
    (blockReset .csq s).mem = s.mem := by
  have hreset : blockReset .csq s = dropExperts (fun _ => true) (fun _ => true) (failColls (fun _ => true) 3 s) := rfl
  have hbeside : Beside s (blockReset .csq s) := by
    rw [hreset]
    exact dropExperts_beside (failColls_beside (Beside.refl s))
  have hnone : (failColls (fun _ => true) 3 s).colls = [] := List.eq_nil_iff_forall_not_mem.2 fun c hc => by
    have h := (failColls_colls hc).2
    cases h
  have hcolls : Having State.colls [] (blockReset .csq s) := by
    rw [hreset]
    exact dropExperts_colls hnone
  have hcalm : (calmPart (blockReset .csq s)).mem = (calmPart s).mem := congrArg State.mem hbeside.calm
  obtain ⟨hx, hc⟩ := dropExperts_all (failColls (fun _ => true) 3 s)
  exact ⟨hcolls, hx, hc, hcalm⟩

/-! ## The others -/

theorem blockReset_tsc (s : State) : (blockReset .tsc s).resps = [] ∧ (blockReset .tsc s).mem = s.mem ∧ (blockReset .tsc s).milestones = s.milestones ∧
    ∀ m, m ∈ (blockReset .tsc s).msgs ↔ m ∈ s.msgs ∧ m.typ ≠ 0x01 ∧ m.typ ≠ 0x04 ∧ m.typ ≠ 0x05 := by
  refine ⟨rfl, rfl, rfl, fun m => ?_⟩
  have hmsgs : (blockReset .tsc s).msgs = s.msgs.filter (fun m => !([tStoreWrite, tGather, tGatherSum].contains m.typ)) := rfl
  rw [hmsgs, List.mem_filter]
  simp [tStoreWrite, tGather, tGatherSum]

/-- R134: a meter refilled holds the sizes of its contract's buckets. -/
theorem blockReset_meter {i m : Nat} (hi : i < 64) (hm : m < 256) (hb : (s.regN (meterAddr i m)).testBit 28 = true) :
    bits ((blockReset .tcu s).regN (meterAddr i m)) 7 0 = cCbs (conC s (bits (s.regN (meterAddr i m)) 27 16)) ∧
      bits ((blockReset .tcu s).regN (meterAddr i m)) 15 8 = cPbs (conC s (bits (s.regN (meterAddr i m)) 27 16)) := by
  have hreset : blockReset .tcu s = refillMeters s := rfl
  have hfull := reg_refillMeters_meter (s := s) hi hm hb
  have hc : cCbs (conC s (bits (s.regN (meterAddr i m)) 27 16)) < 256 := bits_lt _ 7 0
  have hp : cPbs (conC s (bits (s.regN (meterAddr i m)) 27 16)) < 256 := bits_lt _ 23 16
  have hval : ∀ x : Nat, ∀ hi lo, hi < 64 → lo ≤ hi → bits (BitVec.ofNat 64 x).toNat hi lo = bits x hi lo := fun x hi lo h1 h2 => by
    have h := field_setRegN_same (s := s) (a := 0) (v := x) h1 h2
    rw [State.field, State.regN, reg_setRegN, if_pos rfl] at h
    exact h
  rw [hreset, State.regN, hfull, hval _ _ _ (by decide) (by decide), hval _ _ _ (by decide) (by decide), meterFull]
  refine ⟨?_, ?_⟩
  · rw [bits_setBits_below _ _ (by decide) (by decide), bits_setBits_same]
    exact Nat.mod_eq_of_lt hc
  · rw [bits_setBits_same]
    exact Nat.mod_eq_of_lt hp

theorem blockReset_bpm (s : State) : (blockReset .bpm s).bpm.bufs = [] := by
  obtain ⟨_, h, -⟩ := bpmReturnAll_shape s
  have hreset : blockReset .bpm s = bpmReturnAll s := rfl
  rw [hreset, h]

end Sys2Proof.Proofs
end

section
/-!
PROOFS. The reactions to fault sources (O41).
-/

namespace Sys2Proof.Proofs
open Sys2Proof Sys2Proof.Machine Sys2Proof.Claims

set_option Elab.async false

variable {s t u : State} {b : Blk} {n : Nat}

/-! ## Injection -/

theorem reg_raise_own (b : Blk) (src : Nat) (s : State) : (raise b src s).reg (blkFlt b) = s.reg (blkFlt b) ||| BitVec.ofNat 64 (2 ^ src) := by
  have hsticky : (s.setSticky (blkFlt b) (BitVec.ofNat 64 (2 ^ src))).reg (blkFlt b) = s.reg (blkFlt b) ||| BitVec.ofNat 64 (2 ^ src) :=
    (reg_setReg s (blkFlt b) (blkFlt b) _).trans (if_pos rfl)
  have hother : ∀ t : State, (t.setSticky 0x200008 (BitVec.ofNat 64 (2 ^ blkFaultBlock b))).reg (blkFlt b) = t.reg (blkFlt b) := fun t =>
    (reg_setReg t 0x200008 (blkFlt b) _).trans (if_neg (ne_blkFlt (by decide) b).symm)
  unfold raise
  extract_lets a old stood v w
  have hv : v.reg (blkFlt b) = s.reg (blkFlt b) ||| BitVec.ofNat 64 (2 ^ src) := hsticky
  have hw : w.reg (blkFlt b) = v.reg (blkFlt b) := by
    unfold w
    split
    · exact hother v
    · rfl
  clear_value w v old stood
  split
  · exact hv
  · exact hw.trans hv

theorem getLsbD_bit {src k : Nat} (hk : k < 64) : (BitVec.ofNat 64 (2 ^ src)).getLsbD k = decide (k = src) := by
  rw [BitVec.getLsbD_ofNat, Nat.testBit_two_pow]
  simp [hk, eq_comm]

/-- R324: the sources injected stand in the block's register. -/
theorem foldl_raise (b : Blk) (l : List Nat) : ∀ s : State, (l.foldl (fun s n => raise b n s) s).mem = s.mem ∧
    (l.foldl (fun s n => raise b n s) s).ports = s.ports ∧
    ∀ k, k < 64 → ((l.foldl (fun s n => raise b n s) s).reg (blkFlt b)).getLsbD k = ((s.reg (blkFlt b)).getLsbD k || decide (k ∈ l)) := by
  induction l with
  | nil => exact fun s => ⟨rfl, rfl, fun k _ => by simp⟩
  | cons n l ih =>
    intro s
    obtain ⟨hm, hp, hr⟩ := ih (raise b n s)
    refine ⟨hm.trans (raise_mem s b n), hp.trans (raise_ports s b n), fun k hk => ?_⟩
    rw [List.foldl_cons, hr k hk, reg_raise_own, BitVec.getLsbD_or, getLsbD_bit hk, Bool.or_assoc]
    congr 1
    simp [List.mem_cons]

theorem fltInject_leaves (b : Blk) (v : W64) (s : State) : (fltInject b v.toNat s).mem = s.mem ∧ (fltInject b v.toNat s).ports = s.ports ∧
    ∀ k, k < 64 → ((fltInject b v.toNat s).reg (blkFlt b)).getLsbD k =
      ((s.reg (blkFlt b)).getLsbD k || (v.getLsbD k && (blkSources b).testBit k)) := by
  obtain ⟨hm, hp, hr⟩ := foldl_raise b (bitsSet 64 (v.toNat &&& blkSources b)) s
  refine ⟨hm, hp, fun k hk => (hr k hk).trans ?_⟩
  congr 1
  have hmem : k ∈ bitsSet 64 (v.toNat &&& blkSources b) ↔ (v.toNat &&& blkSources b).testBit k = true := by
    simp [bitsSet, hk]
  rw [Bool.eq_iff_iff, decide_eq_true_iff, hmem, Nat.testBit_and]
  exact Iff.rfl

/-! ## One source -/

theorem raisesWith_single (s : State) (k : Nat) : raisesWith s [(b, n)] k = if bit (reactSet s n) k then [(b, n)] else [] := by
  unfold raisesWith
  cases h : bit (reactSet s n) k with
  | true => simp [h]
  | false => simp [h]

theorem reacts_single (s : State) (k : Nat) : reacts s [(b, n)] k = bit (reactSet s n) k := by
  unfold reacts
  simp

/-- Two states in which the reaction sets are the same. -/
def SameSets (s t : State) : Prop := ∀ m, m < 64 → reactSet t m = reactSet s m

theorem SameSets.trans (h : SameSets s t) (k : SameSets t u) : SameSets s u := fun m hm => (k m hm).trans (h m hm)

theorem sameSets_of_regs (h : ∀ a, 0x100100 ≤ a → a < 0x100200 → t.reg a = s.reg a) : SameSets s t := fun m hm =>
  congrArg (fun w : W64 => bits w.toNat 6 0) (h (0x100100 + 4 * m) (by omega) (by omega))

theorem reactEvents_none {r : List (Blk × Nat)} {k : Nat} (cls : Nat) (h : raisesWith s r k = []) : reactEvents cls k r s = s := by
  unfold reactEvents
  rw [h]
  rfl

theorem reactEvents_collected {r : List (Blk × Nat)} {k : Nat} (cls : Nat) (h : raisesWith s r k ≠ []) (hc : collected s = true) :
    reactEvents cls k r s = pushEvent s cls 0xFF (s.reg 0x200008) := by
  unfold reactEvents
  extract_lets hit
  have hne : ¬ hit.isEmpty = true := fun he => h (List.isEmpty_iff.1 he)
  rw [if_neg hne, if_pos hc]

theorem reactEvents_one {k : Nat} (cls : Nat) (h : bit (reactSet s n) k = true) : ∃ block data,
    reactEvents cls k [(b, n)] s = pushEvent s cls block data := by
  have hr : raisesWith s [(b, n)] k = [(b, n)] := (raisesWith_single s k).trans (if_pos h)
  cases hc : collected s with
  | true => exact ⟨_, _, reactEvents_collected cls (by rw [hr]; exact List.cons_ne_nil _ _) hc⟩
  | false =>
    refine ⟨blkFaultBlock b, s.reg (blkFlt b), ?_⟩
    unfold reactEvents
    rw [hr, hc]
    rfl

/-- What the events of a reaction leave. -/
theorem reactEvents_single (cls k : Nat) (s : State) : (∃ c f x, reactEvents cls k [(b, n)] s = { s with csr := c, fresh := f, hep := x }) ∧
    (∀ a, a ≠ 0x9000410 → (reactEvents cls k [(b, n)] s).reg a = s.reg a) ∧
    (reactEvents cls k [(b, n)] s).hep.nextEseq = s.hep.nextEseq + if bit (reactSet s n) k then 1 else 0 := by
  cases h : bit (reactSet s n) k with
  | true =>
    obtain ⟨block, data, he⟩ := reactEvents_one (b := b) cls h
    rw [he]
    exact pushEvent_leaves cls block data s
  | false =>
    rw [reactEvents_none cls ((raisesWith_single s k).trans (if_neg (by rw [h]; exact Bool.false_ne_true)))]
    exact ⟨⟨_, _, _, rfl⟩, fun _ _ => rfl, rfl⟩

theorem reactBlocks_none {r : List (Blk × Nat)} (h : raisesWith s r 2 = []) : reactBlocks r s = s := by
  unfold reactBlocks
  rw [h]
  rfl

/-- The wave of STOP, whatever the switch does. -/
theorem stopWave_leaves (s : State) : (∃ c ps q m ev k, stopWave s =
      { s with csr := c, ports := ps, seqCtr := q, msgCtr := m, evts := ev, rack := k }) ∧
    ∀ a, a ≠ 0x58 → a ≠ 0x30 → a ≠ 0x94 → a ≠ 0x60 → (stopWave s).reg a = s.reg a := by
  unfold stopWave
  split
  · exact ⟨⟨_, _, _, _, _, _, rfl⟩, fun _ _ _ _ _ => rfl⟩
  · split
    · exact ⟨⟨_, _, _, _, _, _, rfl⟩, fun _ _ _ _ _ => rfl⟩
    · extract_lets w v
      have hv : ∃ c, v = { s with csr := c } := ⟨_, rfl⟩
      have hvr : ∀ a, a ≠ 0x60 → v.reg a = s.reg a := fun a ha => by rw [reg_setRegN, if_neg ha]
      clear_value v
      obtain ⟨c, rfl⟩ := hv
      generalize ownSw _ = o
      have hinfo : ∃ c', stopInfo o w { s with csr := c } = { s with csr := c' } := ⟨_, rfl⟩
      have hir : ∀ a, a ≠ 0x58 → a ≠ 0x30 → a ≠ 0x94 → (stopInfo o w { s with csr := c }).reg a = ({ s with csr := c } : State).reg a :=
        fun a h1 h2 h3 => by rw [stopInfo, reg_setField_ne h3, reg_setField_ne h2, reg_setRegN, if_neg h1]
      rw [halt_eq]
      generalize stopInfo o w { s with csr := c } = x at hinfo hir ⊢
      obtain ⟨c', rfl⟩ := hinfo
      obtain ⟨⟨ps, ev, hflush⟩, -⟩ := flushEgress_leaves { s with csr := c' }
      rw [hflush]
      obtain ⟨⟨ps', q, m, hsent⟩, -⟩ := sendStops_leaves o w none { s with csr := c', ports := ps, evts := ev }
      rw [hsent]
      exact ⟨⟨_, _, _, _, _, _, rfl⟩, fun a h1 h2 h3 h4 => (hir a h1 h2 h3).trans (hvr a h4)⟩

/-! ## The round of one source -/

/-- The raises have been taken up. -/
def takenUp (s : State) : State := { s with raised := [] }

theorem takenUp_beside (s : State) : (takenUp s).raised = [] ∧ (takenUp s).mem = s.mem ∧ (takenUp s).hep = s.hep ∧ (takenUp s).ports = s.ports ∧
    (takenUp s).pins = s.pins ∧ (takenUp s).busHeld = s.busHeld ∧ ∀ a, (takenUp s).reg a = s.reg a := ⟨rfl, rfl, rfl, rfl, rfl, rfl, fun _ => rfl⟩

theorem settle_round {r : List (Blk × Nat)} (hr : s.raised = r) (hne : r ≠ []) (hu : (react r (takenUp s)).raised = []) :
    settle s = react r (takenUp s) := by
  have hround : settleN 64 s = settleN 63 (react s.raised (takenUp s)) := by
    have hfull : ¬ s.raised.isEmpty = true := fun h => hne (hr ▸ List.isEmpty_iff.1 h)
    exact if_neg hfull
  rw [settle, hround, hr]
  exact settleN_none _ _ hu

/-- The switch halts if the set says so. -/
def waveStopped (n : Nat) (s : State) : State := if bit (reactSet s n) 5 && !latched s then stopWave s else s

theorem waveStopped_leaves (n : Nat) (s : State) : (∃ c ps q m ev k, waveStopped n s =
      { s with csr := c, ports := ps, seqCtr := q, msgCtr := m, evts := ev, rack := k }) ∧
    ∀ a, a ≠ 0x58 → a ≠ 0x30 → a ≠ 0x94 → a ≠ 0x60 → (waveStopped n s).reg a = s.reg a := by
  unfold waveStopped
  split
  · exact stopWave_leaves s
  · exact ⟨⟨_, _, _, _, _, _, rfl⟩, fun _ _ _ _ _ => rfl⟩

/-- What the events and the wave of a single source leave. -/
def announced (b : Blk) (n : Nat) (s : State) : State :=
  reactEvents evFault 0 [(b, n)] (reactEvents evTrap 1 [(b, n)] (waveStopped n s))

/-- What no reaction but a reset or a latched halt changes. -/
def quietFrame (s : State) := (s.raised, s.mem, s.pins, s.fuses, s.flash, s.pending, s.busHeld)

theorem reactEvents_frame (cls k : Nat) (s : State) : quietFrame (reactEvents cls k [(b, n)] s) = quietFrame s := by
  obtain ⟨⟨_, _, _, h⟩, -, -⟩ := reactEvents_single (b := b) (n := n) cls k s
  rw [h]
  rfl

theorem waveStopped_frame (n : Nat) (s : State) : quietFrame (waveStopped n s) = quietFrame s ∧ (waveStopped n s).hep = s.hep := by
  obtain ⟨⟨_, _, _, _, _, _, h⟩, -⟩ := waveStopped_leaves n s
  rw [h]
  exact ⟨rfl, rfl⟩

theorem waveStopped_sameSets (n : Nat) (s : State) : SameSets s (waveStopped n s) :=
  sameSets_of_regs fun a h1 h2 => (waveStopped_leaves n s).2 a (by omega) (by omega) (by omega) (by omega)

theorem reactEvents_sameSets (cls k : Nat) (s : State) : SameSets s (reactEvents cls k [(b, n)] s) :=
  sameSets_of_regs fun a h1 h2 => (reactEvents_single cls k s).2.1 a (by omega)

theorem announced_sameSets (b : Blk) (n : Nat) (s : State) : SameSets s (announced b n s) :=
  ((waveStopped_sameSets n s).trans (reactEvents_sameSets evTrap 1 _)).trans (reactEvents_sameSets evFault 0 _)

theorem announced_frame (b : Blk) (n : Nat) (s : State) : quietFrame (announced b n s) = quietFrame s := by
  rw [announced, reactEvents_frame, reactEvents_frame, (waveStopped_frame n s).1]

theorem announced_eseq (b : Blk) (hn : n < 64) (s : State) : (announced b n s).hep.nextEseq = s.hep.nextEseq +
    (if bit (reactSet s n) 0 then 1 else 0) + if bit (reactSet s n) 1 then 1 else 0 := by
  have h1 := waveStopped_sameSets n s n hn
  have h2 := (waveStopped_sameSets n s).trans (reactEvents_sameSets (b := b) (n := n) evTrap 1 _) n hn
  rw [announced, (reactEvents_single evFault 0 _).2.2, (reactEvents_single evTrap 1 _).2.2, (waveStopped_frame n s).2, h1, h2, Nat.add_right_comm]

/-- A set without BLOCK_RESET, CHIP_RESET and LATCH_HALT. -/
theorem react_announces (hn : n < 64) (h2 : bit (reactSet s n) 2 = false) (h3 : bit (reactSet s n) 3 = false) (h6 : bit (reactSet s n) 6 = false) :
    react [(b, n)] s = announced b n s := by
  have hset : reactSet (announced b n s) n = reactSet s n := announced_sameSets b n s n hn
  have hblocks : reactBlocks [(b, n)] (announced b n s) = announced b n s :=
    reactBlocks_none ((raisesWith_single _ 2).trans (by rw [hset, h2]; rfl))
  have hglb : reactBlocks ([(b, n)].filter (fun x => x.1 == .glb)) (announced b n s) = announced b n s := by
    refine reactBlocks_none (List.filter_eq_nil_iff.2 fun x hx => ?_)
    have hx : x = (b, n) := List.mem_singleton.1 (List.mem_filter.1 hx).1
    rw [hx, hset, h2]
    exact Bool.false_ne_true
  have hreact : react [(b, n)] s = if latched s then reactBlocks ([(b, n)].filter (fun x => x.1 == .glb)) (announced b n s)
      else reactBlocks [(b, n)] (announced b n s) := by
    unfold react
    dsimp only
    rw [reacts_single, reacts_single, reacts_single, h3, h6]
    rfl
  rw [hreact, hblocks, hglb]
  split <;> rfl

theorem announced_eq (b : Blk) (n : Nat) (s : State) : announced b n s = reactEvents evFault 0 [(b, n)] (reactEvents evTrap 1 [(b, n)]
    (if reacts s [(b, n)] 5 && !latched s then stopWave s else s)) := by
  rw [reacts_single]
  rfl

/-- LATCH_HALT (R330). -/
theorem react_latches (h6 : bit (reactSet s n) 6 = true) (hl : latched s = false) : react [(b, n)] s =
    busReplay (latchHalt (lowestCause (raisesWith (announced b n s) [(b, n)] 6)).1 (lowestCause (raisesWith (announced b n s) [(b, n)] 6)).2
      (stopsLeave (announced b n s))) := by
  unfold react
  extract_lets off chip latch v w
  have hoff : off = false := hl
  have hlatch : latch = true := (reacts_single s 6).trans h6
  have hw : w = announced b n s := (announced_eq b n s).symm
  clear_value off chip latch w
  rw [hoff, hlatch, hw, if_neg Bool.false_ne_true, if_pos rfl]

/-- CHIP_RESET (R341). -/
theorem react_resets (h6 : bit (reactSet s n) 6 = false) (h3 : bit (reactSet s n) 3 = true) (hl : latched s = false) : react [(b, n)] s =
    chipReset 2 (some ((lowestCause (raisesWith (announced b n s) [(b, n)] 3)).1, (lowestCause (raisesWith (announced b n s) [(b, n)] 3)).2,
      bit (reactSet (announced b n s) (lowestCause (raisesWith (announced b n s) [(b, n)] 3)).1) 4)) (stopsLeave (announced b n s)) := by
  unfold react
  extract_lets off chip latch v w
  have hoff : off = false := hl
  have hlatch : latch = false := (reacts_single s 6).trans h6
  have hchip : chip = true := (reacts_single s 3).trans h3
  have hw : w = announced b n s := (announced_eq b n s).symm
  clear_value off chip latch w
  rw [hoff, hlatch, hchip, hw, if_neg Bool.false_ne_true, if_neg Bool.false_ne_true, if_pos rfl]

theorem blkFaultBlock_lt (b : Blk) : blkFaultBlock b < 64 := by
  cases b with
  | pu n => exact lt_of_le_of_lt (Nat.div_le_self _ _) n.isLt
  | j n =>
    have h := n.isLt
    simp only [blkFaultBlock]
    omega
  | _ => decide

theorem lowestCause_single (hn : n < 64) : lowestCause [(b, n)] = (n, blkFaultBlock b) := by
  have hb := blkFaultBlock_lt b
  have hsrc : min 63 n = n := by omega
  have hblk : min 63 (blkFaultBlock b) = blkFaultBlock b := by omega
  unfold lowestCause
  simp [hsrc, hblk]

theorem announced_cause (hn : n < 64) {k : Nat} (hk : bit (reactSet s n) k = true) :
    lowestCause (raisesWith (announced b n s) [(b, n)] k) = (n, blkFaultBlock b) := by
  have hset : reactSet (announced b n s) n = reactSet s n := announced_sameSets b n s n hn
  rw [raisesWith_single, hset, if_pos hk, lowestCause_single hn]

theorem stopsLeave_beside (s : State) : quietFrame (stopsLeave s) = quietFrame s ∧ (∀ a, (stopsLeave s).reg a = s.reg a) ∧
    (stopsLeave s).jtag = s.jtag := by
  unfold stopsLeave stopsLeaveAt
  refine foldl_invariant (P := fun t : State => quietFrame t = quietFrame s ∧ (∀ a, t.reg a = s.reg a) ∧ t.jtag = s.jtag)
    (fun t n h => ?_) ⟨rfl, fun _ => rfl, rfl⟩
  extract_lets out
  clear_value out
  split
  · exact h
  · exact h

/-! ## STOP_WAVE -/

theorem flushEgress_reg (s : State) (a : Nat) : (flushEgress s).reg a = s.reg a := by
  obtain ⟨⟨_, _, h⟩, -⟩ := flushEgress_leaves s
  rw [h]
  rfl

theorem sendStops_reg (o w : Nat) (but : Option Nat) (s : State) (a : Nat) : (sendStops o w but s).reg a = s.reg a := by
  obtain ⟨⟨_, _, _, h⟩, -⟩ := sendStops_leaves o w but s
  rw [h]
  rfl

theorem stopWave_wave (hr : restarting s = false) (hh : halted s = false) :
    (stopWave s).reg 0x60 = BitVec.ofNat 64 ((s.regN 0x60 + 1) % 2 ^ 16) := by
  unfold stopWave
  rw [hr, hh, if_neg Bool.false_ne_true, if_neg Bool.false_ne_true]
  extract_lets w v
  have hv : v.reg 0x60 = BitVec.ofNat 64 w := (reg_setRegN _ _ _ _).trans (if_pos rfl)
  clear_value v
  generalize ownSw v = o
  have hir : (stopInfo o w v).reg 0x60 = v.reg 0x60 := by
    rw [stopInfo, reg_setField_ne (by decide), reg_setField_ne (by decide), reg_setRegN, if_neg (by decide)]
  rw [halt_eq]
  rw [sendStops_reg, flushEgress_reg, hir, hv]

theorem field_congr {a hi lo : Nat} (h : t.reg a = s.reg a) : t.field a hi lo = s.field a hi lo :=
  congrArg (fun w : W64 => bits w.toNat hi lo) h

theorem bit_congr {a k : Nat} (h : t.reg a = s.reg a) : bit (t.regN a) k = bit (s.regN a) k :=
  congrArg (fun w : W64 => bit w.toNat k) h

theorem takenUp_sets (s : State) (m : Nat) : reactSet (takenUp s) m = reactSet s m := rfl

theorem onlyReacts_bit {r : Nat} {ks : List Nat} (h : OnlyReacts r ks) {k : Nat} (hk : k < 7) (h4 : k ≠ 4) (hn : k ∉ ks) : bit r k = false :=
  h k hk h4 hn

/-- A set that only halts the switch, or tells of itself. -/
theorem settle_announces {ks : List Nat} (hr : s.raised = [(b, n)]) (hn : n < 64) (h : OnlyReacts (reactSet s n) ks) (h2 : 2 ∉ ks) (h3 : 3 ∉ ks)
    (h6 : 6 ∉ ks) : settle s = announced b n (takenUp s) := by
  have hreact : react [(b, n)] (takenUp s) = announced b n (takenUp s) :=
    react_announces hn (onlyReacts_bit h (by decide) (by decide) h2) (onlyReacts_bit h (by decide) (by decide) h3)
      (onlyReacts_bit h (by decide) (by decide) h6)
  have hraised : (announced b n (takenUp s)).raised = [] := congrArg (·.1) (announced_frame b n (takenUp s))
  rw [← hreact]
  exact settle_round hr (List.cons_ne_nil _ _) (by rw [hreact]; exact hraised)

theorem announced_silent (h0 : bit (reactSet s n) 0 = false) (h1 : bit (reactSet s n) 1 = false) (hn : n < 64) :
    announced b n s = waveStopped n s := by
  have hs := waveStopped_sameSets n s n hn
  have htrap : reactEvents evTrap 1 [(b, n)] (waveStopped n s) = waveStopped n s :=
    reactEvents_none evTrap ((raisesWith_single _ 1).trans (by rw [hs, h1]; rfl))
  rw [announced, htrap]
  exact reactEvents_none evFault ((raisesWith_single _ 0).trans (by rw [hs, h0]; rfl))

/-- R322: a source with an empty set does nothing more. -/
theorem settle_quiet (hr : s.raised = [(b, n)]) (hn : n < 64) (h : OnlyReacts (reactSet s n) []) : settle s = takenUp s := by
  have hno : ∀ k, k < 7 → k ≠ 4 → bit (reactSet (takenUp s) n) k = false := fun k hk h4 => onlyReacts_bit h hk h4 List.not_mem_nil
  rw [settle_announces hr hn h List.not_mem_nil List.not_mem_nil List.not_mem_nil,
    announced_silent (hno 0 (by decide) (by decide)) (hno 1 (by decide) (by decide)) hn, waveStopped, hno 5 (by decide) (by decide)]
  rfl

/-- R328: a source whose set holds STOP_WAVE alone. -/
theorem settle_stops (hr : s.raised = [(b, n)]) (hn : n < 64) (h : OnlyReacts (reactSet s n) [5]) (h5 : bit (reactSet s n) 5 = true)
    (hl : latched s = false) : settle s = stopWave (takenUp s) := by
  have hno : ∀ k, k < 7 → k ≠ 4 → k ≠ 5 → bit (reactSet (takenUp s) n) k = false := fun k hk h4 hk5 =>
    onlyReacts_bit h hk h4 (by simpa using hk5)
  have hlt : latched (takenUp s) = false := hl
  rw [settle_announces hr hn h (by decide) (by decide) (by decide),
    announced_silent (hno 0 (by decide) (by decide) (by decide)) (hno 1 (by decide) (by decide) (by decide)) hn, waveStopped,
    takenUp_sets, h5, hlt]
  rfl

/-! ## CHIP_RESET -/

theorem bootStart_cause (s : State) : (bootStart s).reg 0x200010 = s.reg 0x200010 := by
  unfold bootStart
  dsimp only
  rw [reg_wipeStart, if_neg (by decide), reg_setField_ne (by decide), reg_setRegN, if_neg (by decide), reg_setRegN, if_neg (by decide),
    reg_setRegN, if_neg (by decide)]

theorem raised_setRegN (s : State) (a v : Nat) : (s.setRegN a v).raised = s.raised := rfl
theorem raised_setField (s : State) (a hi lo x : Nat) : (s.setField a hi lo x).raised = s.raised := rfl
theorem raised_wipeStart (c : Nat) (s : State) : (wipeStart c s).raised = s.raised := rfl

theorem bootStart_raised (s : State) : (bootStart s).raised = s.raised := by
  unfold bootStart
  dsimp only
  rw [raised_wipeStart, raised_setField, raised_setRegN, raised_setRegN, raised_setRegN]

theorem resetState_faultCause (c : Nat) {src blk : Nat} {err : Bool} (hc : c < 4) (hs : src < 64) (hb : blk < 64) (s : State) :
    (resetState c (some (src, blk, err)) s).field 0x200010 1 0 = c ∧ (resetState c (some (src, blk, err)) s).field 0x200010 13 8 = src ∧
      (resetState c (some (src, blk, err)) s).field 0x200010 21 16 = blk ∧ (resetState c (some (src, blk, err)) s).field 0x200010 31 31 = 1 ∧
      (resetState c (some (src, blk, err)) s).field 0x200010 2 2 = if err then 1 else 0 := by
  have hval : ∀ hi lo, hi < 64 → lo ≤ hi → (resetState c (some (src, blk, err)) s).field 0x200010 hi lo =
      bits (c + b2n err * 4 + src * 2 ^ 8 + blk * 2 ^ 16 + 2 ^ 31) hi lo := fun hi lo h1 h2 => by
    unfold resetState
    exact field_setRegN_same h1 h2
  have herr : b2n err = if err then 1 else 0 := rfl
  have hlt : b2n err < 2 := by
    rw [herr]
    split <;> decide
  rw [hval 1 0 (by decide) (by decide), hval 13 8 (by decide) (by decide), hval 21 16 (by decide) (by decide), hval 31 31 (by decide) (by decide),
    hval 2 2 (by decide) (by decide), ← herr]
  generalize b2n err = e at *
  simp only [bits]
  omega

/-- R341: a chip reset by a fault, of a chip that runs. -/
theorem chipReset_byFault {src blk : Nat} {err : Bool} (hs : src < 64) (hb : blk < 64) (h : (s.pins.railsOk && s.pins.rstN && !s.pins.testEn) = true) :
    StartsAfresh s (chipReset 2 (some (src, blk, err)) s) 2 ∧ (chipReset 2 (some (src, blk, err)) s).raised = [] ∧
      (chipReset 2 (some (src, blk, err)) s).field 0x200010 13 8 = src ∧ (chipReset 2 (some (src, blk, err)) s).field 0x200010 21 16 = blk ∧
      (chipReset 2 (some (src, blk, err)) s).field 0x200010 31 31 = 1 ∧
      (chipReset 2 (some (src, blk, err)) s).field 0x200010 2 2 = if err then 1 else 0 := by
  rw [chipReset_starts h]
  obtain ⟨hboot, hwipe, -⟩ := bootStart_begins (resetState 2 (some (src, blk, err)) s)
  obtain ⟨f1, f2, f3, f4, f5⟩ := resetState_faultCause 2 (err := err) (by decide) hs hb s
  have hcause := bootStart_cause (resetState 2 (some (src, blk, err)) s)
  have hfield : ∀ hi lo, (bootStart (resetState 2 (some (src, blk, err)) s)).field 0x200010 hi lo =
      (resetState 2 (some (src, blk, err)) s).field 0x200010 hi lo := fun hi lo => field_congr hcause
  refine ⟨⟨hboot, hwipe, (hfield 1 0).trans f1, rfl, rfl, rfl, rfl, rfl, rfl, rfl, rfl, rfl, rfl⟩, bootStart_raised _, (hfield 13 8).trans f2,
    (hfield 21 16).trans f3, (hfield 31 31).trans f4, (hfield 2 2).trans f5⟩

theorem startsAfresh_of_same {c : Nat} (h : StartsAfresh t u c) (hf : t.fuses = s.fuses) (hl : t.flash = s.flash) (hp : t.pending = s.pending) :
    StartsAfresh s u c := by
  obtain ⟨h1, h2, h3, h4, h5, h6, h7, h8, h9, h10, h11, h12, h13⟩ := h
  exact ⟨h1, h2, h3, h4, h5, h6, h7, h8, h9, h10, h11.trans hf, h12.trans hl, h13.trans hp⟩

theorem settle_resets (hr : s.raised = [(b, n)]) (hn : n < 64) (h6 : bit (reactSet s n) 6 = false) (h3 : bit (reactSet s n) 3 = true)
    (hcore : coreOn s = true) : StartsAfresh s (settle s) 2 ∧ (settle s).field 0x200010 13 8 = n ∧
      (settle s).field 0x200010 21 16 = blkFaultBlock b ∧ (settle s).field 0x200010 31 31 = 1 ∧
      (settle s).field 0x200010 2 2 = if bit (reactSet s n) 4 then 1 else 0 := by
  obtain ⟨hheld, hlatched⟩ : held s = false ∧ latched s = false := by
    rw [coreOn, Bool.and_eq_true, Bool.not_eq_true', Bool.not_eq_true'] at hcore
    exact hcore
  have hpins := pins_of_running hheld hlatched
  have hset : reactSet (announced b n (takenUp s)) n = reactSet s n := announced_sameSets b n (takenUp s) n hn
  have hreact := react_resets (b := b) (s := takenUp s) h6 h3 hlatched
  rw [announced_cause (b := b) (s := takenUp s) hn h3] at hreact
  dsimp only at hreact
  rw [hset] at hreact
  have hframe : quietFrame (stopsLeave (announced b n (takenUp s))) = quietFrame (takenUp s) :=
    (stopsLeave_beside _).1.trans (announced_frame b n (takenUp s))
  generalize stopsLeave (announced b n (takenUp s)) = v at hreact hframe
  have hbase : quietFrame (takenUp s) = ([], s.mem, s.pins, s.fuses, s.flash, s.pending, s.busHeld) := rfl
  rw [hbase] at hframe
  simp only [quietFrame, Prod.mk.injEq] at hframe
  obtain ⟨-, -, hp, hf, hl, hpend, -⟩ := hframe
  obtain ⟨hafresh, hraised, hfields⟩ := chipReset_byFault (s := v) (err := bit (reactSet s n) 4) hn (blkFaultBlock_lt b) (by rw [hp]; exact hpins)
  rw [settle_round hr (List.cons_ne_nil _ _) (by rw [hreact]; exact hraised), hreact]
  exact ⟨startsAfresh_of_same hafresh hf hl hpend, hfields⟩

/-! ## LATCH_HALT -/

theorem latchHalt_leaves {src blk : Nat} (hs : src < 64) (hb : blk < 64) (s : State) : latched (latchHalt src blk s) = true ∧
    (latchHalt src blk s).mem = [] ∧ (latchHalt src blk s).field 0x200018 13 8 = src ∧ (latchHalt src blk s).field 0x200018 21 16 = blk ∧
    (latchHalt src blk s).busHeld = s.busHeld ∧ (latchHalt src blk s).raised = s.raised := by
  have hval : ∀ hi lo, hi < 64 → lo ≤ hi → (latchHalt src blk s).field 0x200018 hi lo = bits (1 + src * 2 ^ 8 + blk * 2 ^ 16) hi lo :=
    fun hi lo h1 h2 => field_setRegN_same (s := s) h1 h2
  have hone : (latchHalt src blk s).field 0x200018 0 0 = 1 := by
    rw [hval 0 0 (by decide) (by decide)]
    simp only [bits]
    omega
  refine ⟨bits_eq_one.1 hone, rfl, ?_, ?_, rfl, rfl⟩
  · rw [hval 13 8 (by decide) (by decide)]
    simp only [bits]
    omega
  · rw [hval 21 16 (by decide) (by decide)]
    simp only [bits]
    omega

theorem settle_latches (hr : s.raised = [(b, n)]) (hn : n < 64) (h6 : bit (reactSet s n) 6 = true) (hl : latched s = false) (hbus : s.busHeld = []) :
    latched (settle s) = true ∧ (settle s).mem = [] ∧ (settle s).field 0x200018 13 8 = n ∧ (settle s).field 0x200018 21 16 = blkFaultBlock b ∧
      coreOn (settle s) = false := by
  have hreact := react_latches (b := b) (s := takenUp s) h6 hl
  rw [announced_cause (b := b) (s := takenUp s) hn h6] at hreact
  dsimp only at hreact
  have hframe : quietFrame (stopsLeave (announced b n (takenUp s))) = quietFrame (takenUp s) :=
    (stopsLeave_beside _).1.trans (announced_frame b n (takenUp s))
  generalize stopsLeave (announced b n (takenUp s)) = v at hreact hframe
  have hbase : quietFrame (takenUp s) = ([], s.mem, s.pins, s.fuses, s.flash, s.pending, s.busHeld) := rfl
  rw [hbase] at hframe
  simp only [quietFrame, Prod.mk.injEq] at hframe
  obtain ⟨hraised, -, -, -, -, -, hb⟩ := hframe
  obtain ⟨hlatch, hmem, hsrc, hblk, hkeep, hrk⟩ := latchHalt_leaves hn (blkFaultBlock_lt b) v
  rw [busReplay_nil (hkeep.trans (hb.trans hbus))] at hreact
  rw [settle_round hr (List.cons_ne_nil _ _) (by rw [hreact]; exact hrk.trans hraised), hreact]
  refine ⟨hlatch, hmem, hsrc, hblk, ?_⟩
  rw [coreOn, hlatch]
  exact Bool.and_false _

/-! ## COLLECTED mode -/

/-- R332: one event for all sources of a cycle. -/
theorem settle_collects {b' : Blk} {n' : Nat} (hr : s.raised = [(b, n), (b', n')]) (hn : n < 64) (hn' : n' < 64) (h : OnlyReacts (reactSet s n) [0])
    (h' : OnlyReacts (reactSet s n') [0]) (h0 : bit (reactSet s n) 0 = true) (hc : collected s = true) :
    (settle s).hep.nextEseq = s.hep.nextEseq + 1 := by
  have hno : ∀ k, k < 7 → k ≠ 4 → k ≠ 0 → ∀ x ∈ [(b, n), (b', n')], bit (reactSet (takenUp s) x.2) k = false := fun k hk h4 hk0 x hx => by
    have hk0 : k ∉ [0] := by simpa using hk0
    rcases List.mem_cons.1 hx with rfl | hx
    · exact onlyReacts_bit h hk h4 hk0
    · rw [List.mem_singleton.1 hx]
      exact onlyReacts_bit h' hk h4 hk0
  have hnone : ∀ {t : State}, SameSets (takenUp s) t → ∀ k, k < 7 → k ≠ 4 → k ≠ 0 → raisesWith t [(b, n), (b', n')] k = [] :=
    fun {t} hs k hk h4 hk0 => List.filter_eq_nil_iff.2 fun x hx => by
      have hx64 : x.2 < 64 := by
        rcases List.mem_cons.1 hx with rfl | hx
        · exact hn
        · rw [List.mem_singleton.1 hx]
          exact hn'
      rw [hs x.2 hx64, hno k hk h4 hk0 x hx]
      exact Bool.false_ne_true
  have hreacts : ∀ k, k < 7 → k ≠ 4 → k ≠ 0 → reacts (takenUp s) [(b, n), (b', n')] k = false := fun k hk h4 hk0 =>
    List.any_eq_false.2 fun x hx => by
      rw [hno k hk h4 hk0 x hx]
      exact Bool.false_ne_true
  have hsame : SameSets (takenUp s) (takenUp s) := fun _ _ => rfl
  have htrap : reactEvents evTrap 1 [(b, n), (b', n')] (takenUp s) = takenUp s := reactEvents_none evTrap (hnone hsame 1 (by decide) (by decide) (by decide))
  have hhit : raisesWith (takenUp s) [(b, n), (b', n')] 0 ≠ [] := fun hnil => by
    have hmem : (b, n) ∈ raisesWith (takenUp s) [(b, n), (b', n')] 0 := List.mem_filter.2 ⟨List.mem_cons_self, h0⟩
    rw [hnil] at hmem
    exact List.not_mem_nil hmem
  have hevent := reactEvents_collected evFault hhit (show collected (takenUp s) = true from hc)
  obtain ⟨⟨c, f, x, hshape⟩, hregs, heseq⟩ := pushEvent_leaves evFault 0xFF ((takenUp s).reg 0x200008) (takenUp s)
  rw [← hevent] at hshape hregs heseq
  have hsets : SameSets (takenUp s) (reactEvents evFault 0 [(b, n), (b', n')] (takenUp s)) :=
    sameSets_of_regs fun a h1 h2 => hregs a (by omega)
  have hblocks := reactBlocks_none (hnone hsets 2 (by decide) (by decide) (by decide))
  have hglb : reactBlocks ([(b, n), (b', n')].filter (fun x => x.1 == .glb)) (reactEvents evFault 0 [(b, n), (b', n')] (takenUp s)) =
      reactEvents evFault 0 [(b, n), (b', n')] (takenUp s) := by
    refine reactBlocks_none (List.filter_eq_nil_iff.2 fun x hx => ?_)
    have hin := (List.mem_filter.1 hx).1
    have h2 := List.filter_eq_nil_iff.1 (hnone hsets 2 (by decide) (by decide) (by decide)) x hin
    exact h2
  have hreact : react [(b, n), (b', n')] (takenUp s) = reactEvents evFault 0 [(b, n), (b', n')] (takenUp s) := by
    unfold react
    extract_lets off chip latch v w
    have hlatch : latch = false := hreacts 6 (by decide) (by decide) (by decide)
    have hchip : chip = false := hreacts 3 (by decide) (by decide) (by decide)
    have hv : v = takenUp s := by
      unfold v
      rw [hreacts 5 (by decide) (by decide) (by decide)]
      rfl
    have hw : w = reactEvents evFault 0 [(b, n), (b', n')] (takenUp s) := by
      unfold w
      rw [hv, htrap]
    clear_value w chip latch off
    rw [hlatch, hchip, hw, if_neg Bool.false_ne_true, if_neg Bool.false_ne_true, hblocks, hglb]
    split <;> rfl
  have hraised : (reactEvents evFault 0 [(b, n), (b', n')] (takenUp s)).raised = [] := by
    rw [hshape]
    rfl
  rw [settle_round hr (List.cons_ne_nil _ _) (by rw [hreact]; exact hraised), hreact, heseq]
  rfl

/-! ## The end of a cycle -/

theorem stopWave_halted (hr : restarting s = false) : halted (stopWave s) = true := by
  by_cases hh : halted s = true
  · unfold stopWave
    rw [hr, hh, if_neg Bool.false_ne_true, if_pos rfl, hh]
  · obtain ⟨⟨-, -, hbit, -⟩, -⟩ := stopWave_halts hr (Bool.eq_false_iff.2 hh)
    exact bits_eq_one.1 hbit

/-- What ends a cycle keeps the halt. -/
theorem cycleEnd_keeps (hw : s.wrote = []) (hp : s.ecbPend = []) :
    halted (nextCycle (ecbEndCycle (writesLast s))) = halted s ∧ (nextCycle (ecbEndCycle (writesLast s))).raised = s.raised := by
  have hlast : (writesLast s).csr = s.csr ∧ (writesLast s).fuses = s.fuses ∧ (writesLast s).ecbPend = [] ∧ (writesLast s).raised = s.raised := by
    unfold writesLast
    rw [hw]
    exact ⟨rfl, rfl, hp, rfl⟩
  generalize writesLast s = v at hlast ⊢
  obtain ⟨hcsr, hfuses, hpend, hraised⟩ := hlast
  have hsame := ecbEndCycle_sameRegs v (by rw [hpend]; exact fun e he => absurd he List.not_mem_nil)
  have hkeep : (ecbEndCycle v).fuses = v.fuses := rfl
  have hreg : (ecbEndCycle v).reg 0x58 = s.reg 0x58 := by
    rw [State.reg, State.reg, hkeep, hfuses, hsame _ (by decide), hcsr]
  exact ⟨congrArg (fun w : W64 => bit w.toNat 48) hreg, hraised⟩

theorem tick_halts (hr : s.raised = [(b, n)]) (hn : n < 64) (h : OnlyReacts (reactSet s n) [5]) (h5 : bit (reactSet s n) 5 = true)
    (hcore : coreOn s = true) (hrun : restarting s = false) (hnow : s.now % 2 = 0) (hw : s.wrote = []) (hm : s.msuLast = []) (hp : s.ecbPend = []) :
    halted (tick s) = true ∧ (tick s).raised = [] := by
  obtain ⟨hheld, hlatched⟩ : held s = false ∧ latched s = false := by
    rw [coreOn, Bool.and_eq_true, Bool.not_eq_true', Bool.not_eq_true'] at hcore
    exact hcore
  have hst := edges_stalled s
  unfold tick
  rw [if_neg (by simp [hheld])]
  generalize stallCounts (clockEdges s) = t at hst ⊢
  have hedges : t.raised = s.raised ∧ t.wrote = s.wrote ∧ t.msuLast = s.msuLast ∧ t.ecbPend = s.ecbPend ∧ t.now = s.now ∧ ∀ a, t.reg a = s.reg a := by
    obtain ⟨ev, a, rfl⟩ := hst
    exact ⟨rfl, rfl, rfl, rfl, rfl, fun _ => rfl⟩
  obtain ⟨er, ew, em, ep, en, eregs⟩ := hedges
  have hpat : patternEnds t = false := by
    rw [patternEnds, en, hnow]
    rfl
  have hmsu : msuWrites t = t := by
    rw [msuWrites, em, hm]
    rfl
  dsimp only
  rw [hpat, if_neg Bool.false_ne_true, hmsu]
  have hset : reactSet t n = reactSet s n := field_congr (eregs _)
  have hsettle := settle_stops (er.trans hr) hn (hset.symm ▸ h) (by rw [hset]; exact h5) ((bit_congr (eregs 0x200018)).trans hlatched)
  have hrt : restarting (takenUp t) = false := (congrArg (· == 2) (field_congr (hi := 1) (lo := 0) (eregs 0x94))).trans hrun
  obtain ⟨⟨_, _, _, _, _, _, hshape⟩, -⟩ := stopWave_leaves (takenUp t)
  have hkeeps : (stopWave (takenUp t)).wrote = t.wrote ∧ (stopWave (takenUp t)).ecbPend = t.ecbPend ∧ (stopWave (takenUp t)).raised = [] := by
    rw [hshape]
    exact ⟨rfl, rfl, rfl⟩
  obtain ⟨kw, kp, kr⟩ := hkeeps
  rw [hsettle]
  obtain ⟨hhalt, hraised⟩ := cycleEnd_keeps (s := stopWave (takenUp t)) (kw.trans (ew.trans hw)) (kp.trans (ep.trans hp))
  exact ⟨hhalt.trans (stopWave_halted hrt), hraised.trans kr⟩

/-- Settles O41. -/
theorem faultsReactByTheirSets : Obligations.FaultsReactByTheirSets := by
  unfold Obligations.FaultsReactByTheirSets
  intro s b n v k r own
  have hinject : exec (.blockFltInject b v) s = .next (onBus (blkFlt b + 8) v (fun s => if blkAbsent s b then s else fltInject b v.toNat s) s) := rfl
  refine ⟨fun hh hfree habs => ?_, fun hh hhold => ?_, fun hh hfree habs => ?_, fun hh => ?_, fun hr hn h => ?_,
    fun hr hn h h5 hl hrun hhalt => ?_, fun hr hn h => ?_, fun hr hn h6 h3 hcore => settle_resets hr hn h6 h3 hcore,
    fun b' n' hr hn hn' h h' h0 hc => settle_collects hr hn hn' h h' h0 hc,
    fun hr hn h h5 hcore hrun hnow hw hm hp => tick_halts hr hn h h5 hcore hrun hnow hw hm hp,
    fun hr hn h6 hl hbus => settle_latches hr hn h6 hl hbus, blockReset_csq s, blockReset_pu k s, blockReset_engine k s, blockReset_tsc s,
    fun i m hi hm hb => blockReset_meter hi hm hb, rfl, blockReset_bpm s, rfl, rfl, rfl, rfl⟩
  · refine ⟨_, hinject.trans (congrArg Host.Outcome.next ((onBus_free hh hfree).trans (if_neg (by rw [habs]; exact Bool.false_ne_true)))), ?_⟩
    exact fltInject_leaves b v s
  · exact hinject.trans (congrArg Host.Outcome.next (onBus_held hh hhold))
  · exact hinject.trans (congrArg Host.Outcome.next ((onBus_free hh hfree).trans (if_pos habs)))
  · have hdog : exec .mgcWatchdog s = .next (raise .glb 43 s) := congrArg Host.Outcome.next (if_neg (by rw [hh]; exact Bool.false_ne_true))
    exact ⟨_, hdog, raise_sets .glb (by decide) s, raise_mem s .glb 43, raise_ports s .glb 43⟩
  · exact settle_quiet hr hn h
  · have hstop := settle_stops hr hn h h5 hl
    have hrt : restarting (takenUp s) = false := hrun
    have hht : halted (takenUp s) = false := hhalt
    have hwave := stopWave_wave hrt hht
    obtain ⟨hhalted, c, ps, q, m, ev, hshape⟩ := stopWave_halts hrt hht
    rw [hstop]
    refine ⟨hhalted, ?_, hwave⟩
    rw [hshape]
    rfl
  · have hann := settle_announces hr hn h (by decide) (by decide) (by decide)
    have hmem : (announced b n (takenUp s)).mem = s.mem := congrArg (·.2.1) (announced_frame b n (takenUp s))
    rw [hann]
    exact ⟨hmem, announced_eseq b hn (takenUp s)⟩

end Sys2Proof.Proofs
end
